-- ==== Sys2Proof/Word.lean ====
section
/-! DEFINITION. The word types of the FKM-6548: 32-bit registers and message words, bytes, and their plainest arithmetic. -/

namespace Sys2Proof

/-- A register or message word (R4, R36). -/
abbrev Word := BitVec 32

/-- One byte. -/
abbrev Byte := BitVec 8

/-- The field of `n` bits whose least significant bit is bit `lo` (bit ranges of 00_scope.md). -/
def Word.fld (w : Word) (lo n : Nat) : Nat := w.toNat / 2 ^ lo % 2 ^ n

/-- Bit `i` of a word. -/
def Word.bit (w : Word) (i : Nat) : Bool := w.toNat / 2 ^ i % 2 == 1

/-- A word from a natural number, modulo 2^32. -/
def word (n : Nat) : Word := BitVec.ofNat 32 n

/-- The two's complement word of an integer that saturates at the limits of 32 bits (R97). -/
def wordSat (i : Int) : Word := BitVec.ofInt 32 (max (-2147483648) (min 2147483647 i))

/-- The number 1 for `true`, 0 for `false`. -/
def b2n (b : Bool) : Nat := if b then 1 else 0

end Sys2Proof
end

