-- ==== Sys2Proof/Syntax.lean ====
section
/-! DEFINITION. The commands of the block: one constructor of `Instr` for each row of spec/opcode_table.json, and
the plain data its operands are made of (frames, cells, register accesses, readings, codec results). -/

namespace Sys2Proof

/-! ## Operand data -/

/-- The reading of a descriptor's buffer by the module (R41 to R43, R398): its bytes, or the failure it met. -/
inductive BufRead where
  | bytes (bs : List Byte)
  /-- Unsupported Request, Completer Abort or poisoned data (R43) -/
  | unreachable
  /-- an uncorrectable HBM error while the command ran (R398) -/
  | memError
deriving DecidableEq, Repr

/-- An RTP header extension element as the leg's map names it (R153), with its length in bytes. -/
inductive ExtVal where
  | level (lvl : Nat) (v : Bool)
  | twSeq (n : Nat)
  /-- AV1 Dependency Descriptor: frame number, spatial and temporal layer, key frame, first and last packet of the
  frame, the decode targets (s,t) it marks a switch for, the chains whose frames it restarts, the chains broken by its
  loss, whether it carries the template structure, and the layer (s,t) whose decode targets alone its active decode
targets bitmask sets (none: no such limit) -/
  | depDesc (frame s t : Nat) (key start fin : Bool) (sw : List (Nat × Nat)) (chains : List Nat) (extended : Bool)
      (active : Option (Nat × Nat))
  /-- frame marking: TID, LID, B, I, E, start, TL0PICIDX in the long form -/
  | frameMark (tid lid : Nat) (b i e start : Bool) (tl0 : Option Nat)
  | absSend (v : Nat)
deriving DecidableEq, Repr

/-- One element of an extension block: its ID, its length and its value. -/
structure ExtElem where
  id : Nat
  len : Nat
  val : ExtVal
deriving DecidableEq, Repr

/-- What the payload of an RTP packet shows of its codec (R154). -/
inductive CodecInfo where
  | none
  /-- VP8 payload descriptor: TID, Y, TL0PICIDX, PictureID and the P bit clear -/
  | vp8 (tid : Nat) (y : Bool) (tl0 picId : Nat) (key : Bool)
  /-- the type of the NAL unit at the start of a frame -/
  | nal (typ : Nat)
  /-- the N bit of the AV1 aggregation header -/
  | av1 (n : Bool)
  /-- an RFC 4733 telephone event: event, E bit, duration in RTP units -/
  | teleEvent (event : Nat) (e : Bool) (dur : Nat)
  /-- the contributions of a cascade packet (R213): version, tag, site, source tick, blocks (leg, VAD, level, samples) -/
  | casc (ver tag site srcTick : Nat) (blocks : List (Nat × Bool × Nat × List Int))
deriving DecidableEq, Repr

/-- The protection a packet carries, by reference (log entry 3): the key words (profile, key and salt) under which
its sender protected it, and whether it reached the module unmodified. -/
structure Protection where
  keyWords : List Nat
  intact : Bool
deriving DecidableEq, Repr

/-- An RTP packet (R152 to R154). -/
structure Rtp where
  version : Nat
  marker : Bool
  pt : Nat
  seq : Nat
  ts : Nat
  ssrc : Nat
  csrc : List Nat
  exts : List ExtElem
  /-- bytes of the extension block -/
  extBytes : Nat
  /-- payload bytes, padding included -/
  payloadLen : Nat
  padding : Nat
  /-- the original sequence number of an RTX packet -/
  osn : Option Nat
  codec : CodecInfo
deriving DecidableEq, Repr

/-- A report block: SSRC, fraction lost (of 256), LSR and DLSR. -/
structure ReportBlock where
  ssrc : Nat
  fractionLost : Nat
  lsr : Nat
  dlsr : Nat
deriving DecidableEq, Repr

/-- One RTCP packet of a compound (R172). -/
inductive Rtcp where
  | sr (ssrc ntpSec ntpFrac rtpTs : Nat) (blocks : List ReportBlock)
  | rr (ssrc : Nat) (blocks : List ReportBlock)
  | sdes (items : List (Nat × List Byte))
  | bye (ssrcs : List Nat)
  | nack (media : Nat) (seqs : List Nat)
  /-- transport feedback (RTPFB 11 or 15): the transport numbers reported, each with its arrival in µs, or lost -/
  | feedback (fmt : Nat) (arrivals : List (Nat × Option Nat))
  | pli (media : Nat)
  | fir (ssrcs : List Nat)
  | remb (bitrate : Nat)
  | other
deriving DecidableEq, Repr

/-- A UDP payload, sorted by its first byte (R151). -/
inductive Payload where
  | rtp (p : Rtp) (prot : Protection)
  /-- an SRTCP compound: the sender's SSRC, its index, the packets -/
  | rtcp (ssrc index : Nat) (ps : List Rtcp) (prot : Protection)
  | raw (first second : Nat)
deriving DecidableEq, Repr

/-- The 5-tuple values of R125 that a packet shows, beside its port. Addresses are 128-bit numbers; an IPv4 address
is held in the low 32 bits. -/
structure Flow5 where
  vlan : Option Nat
  ipv6 : Bool
  dst : Nat
  dport : Nat
  src : Nat
  sport : Nat
deriving DecidableEq, Repr

/-- What the ingress parser checks of the IP and UDP headers (R150). -/
structure IpChecks where
  ihl : Nat
  fragment : Bool
  routing : Bool
  /-- bytes of IPv6 hop-by-hop and destination options -/
  v6opts : Nat
  udp : Bool
  csumZero : Bool
  csumOk : Bool
deriving DecidableEq, Repr

/-- A PTP message as the module reads it (R72, R77, R84): sequence number, domain, transport, type and fields. -/
inductive PtpBody where
  /-- Sync with its origin time in 2^-16 ns (for a two-step Sync the Follow_Up's) -/
  | sync (origin : Int)
  | delayReq
  /-- Delay_Resp: the receive time of the module's Delay_Req at the master -/
  | delayResp (rx : Int)
  | pdelayReq
  | pdelayResp (turnaround : Int)
  /-- Announce: grandmaster dataset, steps removed, UTC offset, flags (valid, leap61, leap59, timeTraceable,
  freqTraceable, ptpTimescale) -/
  | announce (prio1 clsQ acc variance prio2 gm steps : Nat) (utc : Int)
      (utcValid leap61 leap59 timeTr freqTr ptpScale : Bool)
  | management
deriving DecidableEq, Repr

/-- A PTP message on a port. -/
structure Ptp where
  domain : Nat
  transport : Nat
  sender : Nat
  seqId : Nat
  /-- correctionField, 2^-16 ns -/
  correction : Int
  body : PtpBody
deriving DecidableEq, Repr

/-- What an accepted frame carries (R150, R356, R357). -/
inductive FrameBody where
  | macControl
  | lldp
  /-- ARP: request or not, sender MAC and address, target address; a gratuitous request claims its sender address -/
  | arp (isRequest : Bool) (senderMac sender target : Nat)
  /-- Neighbor Discovery: solicitation for a target, or an advertisement that claims one with the override flag -/
  | nd (solicit override : Bool) (senderMac target : Nat)
  | ptp (m : Ptp)
  | ip (f : Flow5) (c : IpChecks) (ipLen : Nat) (p : Payload)
  | other
deriving DecidableEq, Repr

/-- A frame that arrives on a line port (R355). -/
structure Frame where
  dstMac : Nat
  /-- 802.1Q tags: the VLAN ID and PCP of each -/
  tags : List (Nat × Nat)
  /-- bytes from the destination MAC to the end of the payload, FCS excluded (R328) -/
  bytes : Nat
  fcsBad : Bool
  codeErr : Bool
  fecCorr : Nat
  fecUncorr : Nat
  body : FrameBody
deriving DecidableEq, Repr

/-- A register access from outside: BAR0 or BAR2 of a function, or the Limlum control register space (R32, R490,
R506). -/
inductive RegAddr where
  | bar0 (fn off : Nat)
  | bar2 (fn off : Nat)
  | limlum (mid off : Nat)
deriving DecidableEq, Repr

/-- A slow-path transmit slot that the host filled (R361), with the frame fields that the VF check reads. -/
structure SlowSlot where
  len : Nat
  port : Nat
  legValid : Bool
  leg : Nat
  gen : Nat
  srcMac : Nat
  flow : Flow5
deriving DecidableEq, Repr

/-- An Atnuzil image header and what the boot of the standby pair finds of it (R436, R440, R441). -/
structure Image where
  magicOk : Bool
  part : Nat
  stepMin : Nat
  fwrev : Nat
  svn : Nat
  keyRevoked : Bool
  stateMin : Nat
  tableOk : Bool
  sigOk : Bool
  setVer : Nat
  comps : List (Nat × Nat)
deriving DecidableEq, Repr

/-- The outcome of the steps of a commit that lie outside the image's own fields: settings migration and flash. -/
structure CommitEnv where
  migrateOk : Bool
  flashOk : Bool
deriving DecidableEq, Repr

/-- Power-side telemetry read across the barrier (R459, R475): millivolts, milliamps, milliwatts, PMBus status. -/
structure Telemetry where
  mv : Nat
  ma : Nat
  mw : Nat
  status : Nat
deriving DecidableEq, Repr

/-- A Rinzeku cell's header fields (R368). -/
structure Cell where
  typ : Nat
  src : Nat
  vc : Nat
  sop : Bool
  eop : Bool
  seq : Nat
  ack : Nat
  crVc : Nat
  crCount : Nat
  crcOk : Bool
deriving DecidableEq, Repr

/-- A heartbeat's payload (R375), with the receive stamp of the cell on TB0 in 2^-16 ns. -/
structure Heartbeat where
  src : Nat
  hbTick : Nat
  sendTime : Int
  recvTime : Int
  tbState : Nat
  width : Nat
  fedId : Nat
  shadowSeq : Nat
deriving DecidableEq, Repr

/-- A track of a shadowed leg: its number, medium, codec, layering, payload types and the SSRC pairs of its encodings. -/
structure ShadowTrack where
  track : Nat
  media : Nat
  codec : Nat
  layering : Nat
  pt : Nat
  rtxPt : Nat
  encs : List (Nat × Nat)
deriving DecidableEq, Repr

/-- A subscription and outbound stream of a shadowed leg: its slot, its source (the origin's leg and track), what it
sends, and the next index of its stream and of its RTX stream. -/
structure ShadowSlot where
  slot : Nat
  srcLeg : Nat
  srcTrack : Nat
  media : Nat
  outSsrc : Nat
  outRtx : Nat
  outPt : Nat
  outRtxPt : Nat
  prio : Nat
  next : Nat
  rtxNext : Nat
  lastTs : Nat
deriving DecidableEq, Repr

/-- One leg of a shadow message (R421): the origin's leg and generation, its conference and tenant, its settings with the
port mapped through the origin's port map (R424), its state, keys, tracks, subscriptions and streams, as the partner
recreates it (R423). -/
structure ShadowLeg where
  leg : Nat
  gen : Nat
  conf : Nat
  tenant : Nat
  mix : Bool
  port : Nat
  flow : Flow5
  audMode : Nat
  audDir : Nat
  vidMode : Nat
  vidDir : Nat
  kind : Nat
  pcp : Nat
  dscp : Nat
  qto : Nat
  consentTo : Nat
  qlimit : Nat
  mac : Nat
  legState : Nat
  rxKey : List Nat
  txKey : List Nat
  srtcp : Nat
  tracks : List ShadowTrack
  slots : List ShadowSlot
  /-- the mixed-audio stream: SSRC, payload type and next index -/
  outSsrc : Nat
  outPt : Nat
  encNext : Option Nat
deriving DecidableEq, Repr

/-- A shadow message (R421): sequence, base tick, full or delta, and its leg records; removals name legs. -/
structure ShadowMsg where
  seq : Nat
  baseTick : Nat
  full : Bool
  legs : List ShadowLeg
  removed : List Nat
  whole : Bool
deriving DecidableEq, Repr

/-- The needs carried by RESERVE and RELEASE (R422). -/
structure Reserve where
  tag : Nat
  leg : Nat
  legs : Nat
  mixed : Nat
  decode : Nat
  cycles : Nat
deriving DecidableEq, Repr

/-- A request to the memory controller (R392 to R398). -/
structure MemReq where
  /-- real-time port (engines 0–47, composers 48–51, MAC egress 52–67), or none -/
  rtPort : Option Nat
  /-- master identity (R24), or 0xFF for the hub, scrub or controller -/
  mid : Nat
  region : Nat
  /-- byte offset of the 32-byte word within the region -/
  off : Nat
  write : Bool
  data : List Byte
  /-- erroneous 16-bit symbols of the word read, and of the other copy under DUP (R396, R397) -/
  badSyms : List Nat
  badCopy : List Nat
  /-- how full the read buffer of the real-time port is, in per cent (R393) -/
  level : Nat
deriving DecidableEq, Repr

/-- An error that an access to the leg queue store meets (R145, R146): the leg whose word it is, whether the word is a queue
pointer or a descriptor, and whether it is a single-bit error. -/
structure LqErr where
  leg : Nat
  pointer : Bool
  single : Bool
deriving DecidableEq, Repr

/-- The 16-bit or 32-bit lanes, halves and accumulators of the DSP cores (R281, R284). -/
inductive Half where
  | full | lo | hi
deriving DecidableEq, Repr

/-- A register that an instruction of slot 3 or 0 names (R281). -/
inductive DReg where
  | d (n : Nat) | a (n : Nat) | m (n : Nat) | base (n : Nat) | len (n : Nat)
  | lcount (n : Nat) | lstart (n : Nat) | lend (n : Nat) | lr | sr | ipc | isr | ccountLo | ccountHi
deriving DecidableEq, Repr

/-- The address modes of R292. -/
inductive AddrMode where
  | offset (imm : Int) | indexed | postMod | postInc (imm : Int)
deriving DecidableEq, Repr

/-- Lane operations (R283) and scalar arithmetic, logic and shifts of slot 3. -/
inductive LaneOp where
  | add | sub | shl | shr | and | or | xor | mov
deriving DecidableEq, Repr

/-- An instruction of slot 0 or slot 1: loads, stores (slot 0) and address updates. `size` is 1, 2, 4 or 8 bytes. -/
inductive LsInstr where
  | nop
  | load (rd : Nat) (an : Nat) (mode : AddrMode) (size : Nat)
  | store (rs : Nat) (an : Nat) (mode : AddrMode) (size : Nat)
  | update (an : Nat) (mode : AddrMode) (size : Nat)
deriving DecidableEq, Repr

/-- An instruction of slot 2 (R284, R285). -/
inductive MacInstr where
  | nop
  | mac32 (x y : Nat) (acA acB : Nat)
  | mac16 (x y : Nat) (acA acB : Nat)
  | add32 (x : Nat) (ac : Nat)
  | extract (ac : Nat) (half : Half) (rd lane laneBits : Nat) (shift : Nat)
  | clear (ac : Nat)
deriving DecidableEq, Repr

/-- An instruction of slot 3. -/
inductive AluInstr where
  | nop
  | lane (op : LaneOp) (laneBits : Nat) (sat : Bool) (rd rx ry : Nat)
  | roundShift (laneBits : Nat) (rd rx s : Nat)
  /-- a fractional multiply into a data register (R286): the product of the lanes, of which laneBits − 1 bits are dropped -/
  | fracMul (laneBits : Nat) (rd rx ry : Nat)
  | move (dst src : DReg)
  | moveImm (dst : DReg) (imm : Nat)
  | branch (target : Nat)
  | branchZero (rx : Nat) (target : Nat)
  | call (target : Nat)
  | ret
  | loop (level : Nat) (last : Nat) (count : Nat)
  | reti
  /-- an encoding the core does not have -/
  | illegal
deriving DecidableEq, Repr

/-- A bundle of four instructions (R288). -/
structure Bundle where
  s0 : LsInstr
  s1 : LsInstr
  s2 : MacInstr
  s3 : AluInstr
deriving DecidableEq, Repr

/-- The interrupts of R301, in priority order. -/
inductive CoreInt where
  | fault | stageTimer | dma | doorbell | tick
deriving DecidableEq, Repr

/-- What a custom stage's run left (R303 to R306): its 48 output samples, its result code and its instance state, or a
fault. -/
inductive StageResult where
  | output (samples : List Int) (passOn : Bool) (state : List Byte)
  | fault
deriving DecidableEq, Repr

/-- A block of audio from a leg's decoder or its concealment (codec standards of R190): 48 samples, and the DTMF digit
whose two tones stand in the block within the limits of R204. -/
structure AudioBlock where
  samples : List Int
  tone : Option Nat
deriving DecidableEq, Repr

/-- What the decoder found in a frame (R225, R234, R235, R249, R251): size and depth; key picture; references missing or
concealed; blocks lost; whether profile, depth and level are allowed; interlace; slices or tiles at each band boundary; the
highest quantiser; and the picture that becomes due for output in display order, if one does. -/
structure DecodedPic where
  w : Nat
  h : Nat
  depth : Nat
  key : Bool
  refsMissing : Bool
  refConcealed : Bool
  lostBlocks : Bool
  profileOk : Bool
  levelOk : Bool
  interlaced : Bool
  bandStarts : Bool
  qmax : Nat
  shown : Bool
  y : List Nat
  cb : List Nat
  cr : List Nat
deriving DecidableEq, Repr

/-- Real-time ports and buffer levels that R404 judges before a stall: any panic, any buffer below 90 %, a refresh
management outstanding, and µs since the tick boundary. -/
structure StallEnv where
  panic : Bool
  lowBuffer : Bool
  rfmOutstanding : Bool
  us : Nat
  /-- the verification passes, for a loaded verification -/
  pass : Bool
  margin : Nat
  lane : Nat
deriving DecidableEq, Repr

/-- A peak that howl analysis found (R205): frequency in Hz, level in tenths of dBov, tenths of dB above the mean. -/
structure HowlPeak where
  hz : Nat
  level : Int
  above : Int
deriving DecidableEq, Repr

/-- Cluster load read by the placement pass (R114): mean core-cycles used, busy thousandths of decoder and pipes. -/
structure ClusterLoad where
  used : Nat
  busy : List Nat
deriving DecidableEq, Repr

/-- Cipher comparisons of one packet's pass (R314): engines that mismatched on the first gang and on the retry. -/
structure CipherRun where
  engines : List Nat
  mismatch : List Nat
  tenantRefuse : Option Nat
  retryEngines : List Nat
  retryMismatch : List Nat
deriving DecidableEq, Repr

/-! ## The commands -/

/-- The commands and events of the block: one constructor for each row of spec/opcode_table.json, in its order.
Operands: `mid` a master identity (R24), `fn` a host function, `ch` a mailbox channel, `leg`, `conf`, `port`, ... the
unit that the row concerns, and what the environment contributes. A Shafipo command's row names the request channel
whose queue head control executes (log entry 4). -/
inductive Instr where
  | mboxMsgWrite (mid ch i : Nat) (w : Word)
  | go (mid ch : Nat) (w : Word)
  | take (mid ch : Nat)
  | heldTimeout (ch : Nat)
  | bindLock (mid : Nat) (w : Word)
  | controlTakeMessage
  | evrCtlEnable (fn : Nat) (w : Word)
  | evrHeadWrite (fn : Nat) (w : Word)
  | heldEventPost (fn : Nat)
  | holdoffExpire (fn : Nat)
  | rcRegisterRead (fn off : Nat)
  | registerWrite (addr : RegAddr) (w : Word)
  | tbSnapCapture (fn : Nat) (w : Word)
  | tickNowRead (fn : Nat)
  | ptmDialogue (port : Nat) (master : Option Nat)
  | lqFlush (fn : Nat) (w : Word)
  | lqFlushComplete (fn : Nat)
  | prCtlEnable (fn ring : Nat) (w : Word)
  | prHeadWrite (fn ring : Nat) (w : Word)
  | sptxTailWrite (fn : Nat) (w : Word)
  | sptxSlotSend (fn : Nat) (slot : SlowSlot)
  | cntLoRead (fn i : Nat)
  | smbWrite (bytes : List Byte) (pecOk : Bool)
  | smbPointer (bytes : List Byte) (pecOk : Bool)
  | smbRead (pecOk : Bool)
  | sysConfigSet (ch : Nat)
  | sysConfigGet (ch : Nat)
  | sysHealth (ch : Nat)
  | sysResetUnit (ch : Nat)
  | unitResetComplete (kind unit : Nat) (pass : Bool)
  | sysConfirm (ch : Nat) (fuseOk : Bool)
  | tbConfig (ch : Nat)
  | tbArm (ch : Nat)
  | tbStatus (ch : Nat)
  | tickSource (ch : Nat)
  | tickSourceSwitch
  | portConfig (ch : Nat)
  | portStatus (ch : Nat)
  | portRelease (ch : Nat)
  | portReleaseComplete (port : Nat)
  | portRestore (ch : Nat)
  | portRestoreComplete (port : Nat) (up : Bool)
  | cascGroup (ch : Nat)
  | cascGroupEnableComplete (g : Nat) (up : Bool)
  | cascPeer (ch : Nat)
  | confCreate (ch : Nat)
  | confModify (ch : Nat)
  | confDestroy (ch : Nat)
  | legCreate (ch : Nat)
  | legModify (ch : Nat)
  | legDestroy (ch : Nat)
  | legStats (ch : Nat)
  | legIdFree (leg : Nat)
  | keyInstall (ch : Nat)
  | keyRetire (ch : Nat)
  | keyPage (ch : Nat)
  | keyContextFree (leg : Nat)
  | fwdPolicy (ch : Nat)
  | fwdSubscribe (ch : Nat)
  | fwdPin (ch : Nat)
  | audRoute (ch : Nat)
  | audMixpolicy (ch : Nat)
  | audStage (ch : Nat) (buf : BufRead)
  | audDetect (ch : Nat)
  | vidDecode (ch : Nat)
  | vidEncode (ch : Nat) (buf : BufRead)
  | vidKeyreq (ch : Nat)
  | layCanvas (ch : Nat) (buf : BufRead)
  | layLayer (ch : Nat) (buf : BufRead)
  | layOrder (ch : Nat)
  | layLut (ch : Nat) (buf : BufRead)
  | shpNode (ch : Nat)
  | shpPolice (ch : Nat)
  | gateList (ch : Nat) (buf : BufRead)
  | memMap (ch : Nat)
  | migrationSwitch (region : Nat)
  | protClass (ch : Nat)
  | protPartner (ch : Nat) (buf : BufRead)
  | calRequest (ch : Nat)
  | calStart (kind unit : Nat)
  | calDone (kind unit result durUs : Nat)
  | calStatus (ch : Nat)
  | updBegin (ch : Nat)
  | updBlock (ch : Nat) (buf : BufRead) (flashOk : Bool)
  | updCommit (ch : Nat)
  | updCommitTakeover (img : Image) (env : CommitEnv)
  | updRevert (ch : Nat)
  | updRevertComplete (img : Image) (env : CommitEnv)
  | updStatus (ch : Nat)
  | confirmWindowExpire
  | clusterReload (cl : Nat) (pass : Bool)
  | monCounter (ch : Nat)
  | monSample (ch : Nat) (buf : BufRead)
  | clLock (ch : Nat)
  | clLockComplete (first : Nat)
  | opAbort (ch : Nat)
  | functionLevelReset (fn : Nat)
  | vfEnableClear (port : Nat)
  | controlTakeover
  | powerOn (fwrev : Nat) (ac : Bool)
  | powerRemoved
  | inputVoltageExcursion (mv : Nat)
  | pmbCtrlLow
  | pmbusCommand (addr cmd : Nat) (data : List Byte)
  | telemetryRead (t : Telemetry)
  | telemetryLost
  | perstAssert (p : Nat)
  | perstDeassert (p : Nat)
  | moduleReset
  | moduleStop
  | thermalTrip (sensor : Nat) (reading : Int)
  | domainFault (d : Nat)
  | ppsInEdge
  | ppsInLost
  | todInLine (bytes : List Byte) (msAfterEdge : Nat)
  | clk10mInPresent
  | clk10mInLost
  | ppsOutEdge
  | todOutLine
  | ptpMessageTx (tb port kind : Nat)
  | ptpMasterLost (tb : Nat)
  | ptpTcFrame (inPort outPort : Nat) (m : Ptp) (ingress egress : Int)
  | tickBoundary
  | delayEntryDue (list : Nat)
  | trailheadDispatch (core : Nat)
  | itemComplete (core : Nat)
  | duePointReached (point : Nat)
  | placementPass (loads : List ClusterLoad)
  | extraPlacementPass (cl : Nat)
  | drainMarkerPass (flow : Nat)
  | frameRx (port : Nat) (f : Frame)
  | srtpDecrypt (run : CipherRun)
  | cipherKat (engine : Nat) (pass : Bool)
  | forwardPacket (err : Option LqErr)
  | srtpEncrypt (run : CipherRun)
  | legShaperRefill (leg : Nat)
  | groupRefill (g : Nat)
  | qtoFire (leg : Nat)
  | egressSelect (port : Nat) (err : Option LqErr)
  | macTransmit (port : Nat)
  | gateOversize (port q : Nat)
  | gateIntervalEnd (port : Nat)
  | gateListStart (port : Nat)
  | gateRestart (port : Nat)
  | linkUp (port : Nat)
  | linkDown (port : Nat)
  | consentTimeout (leg : Nat)
  | rateEstimate (leg : Nat)
  | layerRateMeasure (leg track : Nat)
  | probeWindowEnd (leg : Nat)
  | upHoldExpire (leg slot : Nat)
  | spatialSwitchTimeout (leg slot : Nat)
  | fwdSwitchSlow (leg slot : Nat)
  | rtcpSend (leg : Nat)
  | transportFeedbackSend (leg : Nat)
  | nackSend (leg track enc : Nat)
  | lossDeclared (leg track enc seq : Nat)
  | keyRequestSend (leg track enc : Nat)
  | rxFallbackEnd (leg : Nat)
  | audioDecode (leg : Nat) (blk : AudioBlock)
  | jbReanchor (leg : Nat)
  | loudnessReset (leg : Nat)
  | mixRun (conf : Nat)
  | audioEncode (leg : Nat) (payloadLen : Nat)
  | cascContribSend (conf : Nat)
  | dtmfDigitEnd (leg : Nat) (tele : Bool)
  | howlAnalysis (leg : Nat) (peak : Option HowlPeak)
  | stageRun (point obj pos talker : Nat) (r : StageResult)
  | stageTimerExpire (point obj pos talker : Nat)
  | coreBundle (core : Nat) (b : Bundle)
  | coreInterrupt (core : Nat) (kind : CoreInt) (handler : Nat)
  | dmodeSwitch (cl : Nat) (split : Bool)
  | decodeFrameSubmit (job : Nat) (isRef : Bool)
  | decodeFrameComplete (job : Nat) (pic : DecodedPic)
  | encodeFrameStart (job enc header : Nat)
  | encodeFrameComplete (job enc : Nat) (rows : List Nat) (recRd : Nat)
  | canvasFrameStart (c : Nat)
  | composerBand (cmp : Nat)
  | layerSwitchTimeout (c layer : Nat)
  | cellRx (g : Nat) (cell : Cell)
  | cellTx (g : Nat)
  | retryRepeat (g : Nat)
  | hello (g fedId module : Nat) (credits : List Nat)
  | helloAck (g fedId module : Nat)
  | helloSend (g : Nat)
  | retry (g seq : Nat)
  | shedReq (g mask : Nat) (force : Bool)
  | shedAck (g mask atSeq : Nat)
  | wakeReq (g mask : Nat)
  | wakeAck (g mask : Nat)
  | widthCommit (g mask atSeq : Nat)
  | shedWindowClose (g : Nat)
  | laneFail (g lane : Nat)
  | laneReturn (g lane : Nat)
  | heartbeat (g : Nat) (hb : Heartbeat)
  | heartbeatSend (g : Nat)
  | peerLost (g : Nat) (signal : Bool)
  | cascGroupRetry (g : Nat)
  | cascMediaRx (g : Nat) (f : Flow5) (c : IpChecks) (ipLen : Nat) (p : Payload)
  | shadowMessageSend
  | shadow (g : Nat) (m : ShadowMsg)
  | shadowLag
  | reserve (g : Nat) (r : Reserve)
  | reserveAck (g tag status : Nat)
  | reserveTimeout (ch : Nat)
  | release (g : Nat) (r : Reserve)
  | fullRequest (g seq : Nat)
  | claimRepeat (leg : Nat)
  | shadowApply (cl : Nat)
  | clusterFail (cl cause : Nat)
  | degradeUndo (cl : Nat)
  | unprotectedReplace (cl : Nat)
  | hubHalfFail (h cause : Nat)
  | trailheadFail (cause : Nat)
  | composerFail (c cause : Nat)
  | canvasMove (c : Nat)
  | hbmRequest (r : MemReq)
  | scrub (pc addr : Nat) (badSyms : List Nat)
  | marginAlarm (pc margin lane : Nat)
  | loadedVerificationDue (stack : Nat)
  | retrainStall (pc : Nat) (e : StallEnv)
  | sample (mid rd : Nat)
  | powerCapStep (mean10ms : Nat)
  | powerCapUndo (mean1s : Nat)
  | voltageLoopReport (cl margin : Nat)
  | droop (cl mv : Nat)
  | droopEnd (cl : Nat)
  | thermalLoop (sensor : Nat) (reading : Int)
  | laneEqualisationDone (g : Nat)
  | wakeLanesLocked (g : Nat)
  | refreshWindowEnd
  | bmcResponseHoldEnd (ch : Nat)
  | standbyBootComplete
  | smbAlertResponse
deriving DecidableEq, Repr

end Sys2Proof
end

