-- ==== Sys2Proof/Config.lean ====
section
/-! DEFINITION. What the spec leaves open, as constants without a body: nothing in Lean can evaluate them. -/

namespace Sys2Proof.Config

/-- The free values (log entry 2): the n-th value the module draws or leaves undefined, where the spec gives none
(a random start of R168, R169 and R202, the servo's rate correction of R79, the duration of a self-test).
`State.fresh` counts the draws. -/
opaque freeValue : Nat → Nat

/-- The FWREV major version of a peer module (R419, R434): the spec does not say how the module learns it (log entry 28). -/
opaque peerFwMajor : Nat → Nat

/-- Bytes of an NBC tile slot beyond UNITS × 32 (R272): undefined, by offset in the surface. -/
opaque slotFill : Nat → BitVec 8

/-- How much of a difference from 64 the first of the two centre taps of a scaler phase absorbs (R267): the spec does not
say how the two share it. -/
opaque tapShare : Nat → Nat

/-- Whether a source position of the scaler goes to the phase below it (even) or to the nearest (odd) (R267): the spec does
not say. -/
opaque phaseRound : Nat

end Sys2Proof.Config
end

