-- ==== Sys2Proof/Machine/StateLeg.lean ====
section
/-! DEFINITION. State, part 1: what the spec gives a leg, its queue, its keys, its forwarding and its audio (chapters
05, 06, 07, 11, 12). Every field's default is its value at creation or reset. -/

namespace Sys2Proof.Machine

/-- A packet the module makes for a leg, before and after encryption (R139, R169, R173). `ssrc`, `seq`, `ts`, `pt`,
`marker` and `csrc` are the RTP fields; for RTCP `rtcp` holds the packets and `index` the SRTCP index. -/
structure OutPkt where
  leg : Nat
  /-- the generation of the leg it was made for -/
  gen : Nat := 0
  slot : Option Nat := none
  prio : Nat
  isRtcp : Bool := false
  ssrc : Nat := 0
  seq : Nat := 0
  roc : Nat := 0
  ts : Nat := 0
  pt : Nat := 0
  marker : Bool := false
  pad : Bool := false
  csrc : List Nat := []
  exts : List ExtElem := []
  osn : Option Nat := none
  payloadLen : Nat := 0
  /-- what the payload shows of its codec, as rewritten (R170) -/
  codec : CodecInfo := .none
  rtcp : List Rtcp := []
  /-- the source packet it copies: source leg, track, encoding and number -/
  src : Option (Nat × Nat × Nat × Nat) := none
  /-- it has passed the cipher farm -/
  encrypted : Bool := false
  /-- the words of the key it was encrypted under -/
  keyWords : List Nat := []
  /-- the slow-path frame it carries unencrypted (R361) -/
  slow : Bool := false
deriving DecidableEq, Repr

/-- An item of a leg queue (R139 to R141): its packet, path epoch, frame length, time of enqueueing on the reference
counter, and whether QTO released it. -/
structure QItem where
  pkt : OutPkt
  epoch : Nat
  len : Nat
  at_ : Nat
  released : Bool := false
deriving DecidableEq, Repr

/-- LEG.CREATE's settings (R132). Addresses are 128-bit numbers, an IPv4 address in the low 32 bits. -/
structure LegCfg where
  conf : Nat
  kind : Nat
  port : Nat
  ipv6 : Bool
  audMode : Nat
  audDir : Nat
  vidMode : Nat
  vidDir : Nat
  vlanEn : Bool
  vlanId : Nat
  pcp : Nat
  dscp : Nat
  lport : Nat
  rport : Nat
  qto : Nat
  consentTo : Nat
  qlimit : Nat
  mac : Nat
  laddr : Nat
  raddr : Nat
deriving DecidableEq, Repr

/-- The counters of LEG.STATS (R138). -/
structure LegStats where
  rxPkts : Nat := 0
  rxBytes : Nat := 0
  txPkts : Nat := 0
  txBytes : Nat := 0
  authFail : Nat := 0
  policeDrop : Nat := 0
  lqDrop : Nat := 0
  lqQto : Nat := 0
  epochDiscard : Nat := 0
deriving DecidableEq, Repr

/-- FWD.POLICY settings with their reset values (R184). -/
structure FwdPol where
  aMin : Nat := 30
  aStart : Nat := 1000
  aMax : Nat := 0
  headroom : Nat := 10
  shapePct : Nat := 125
  fbMode : Nat := 0
  probe : Bool := true
  layerEv : Bool := false
  sendBye : Bool := false
  rsize : Bool := false
  upHold : Nat := 1500
  keyMin : Nat := 500
  mtu : Nat := 1500
  rtcpIv : Nat := 1000
  idLevel : Nat := 0
  idTwSeq : Nat := 0
  idDd : Nat := 0
  idFm : Nat := 0
  idAst : Nat := 0
  twoByteOk : Bool := false
  localSsrc : Nat := 0
  cname : List Nat := [0, 0, 0, 0]
deriving DecidableEq, Repr

/-- A stored packet of the Hamper (R155): number, layer, frame marks, size, ingress stamp and tick. -/
structure HamperPkt where
  seq : Nat
  s : Nat
  t : Nat
  key : Bool
  start : Bool
  fin : Bool
  switches : List (Nat × Nat)
  ipLen : Nat
  bytes : Nat
  stamp : Nat
  tick : Nat
  order : Nat
  rtp : Rtp
deriving DecidableEq, Repr

/-- A missing source number of an encoding (R177): when the gap was seen, NACKs sent, tick of the last. -/
structure Missing where
  seq : Nat
  since : Nat
  nacks : Nat := 0
  lastNack : Nat := 0
deriving DecidableEq, Repr

/-- The reception of an encoding (R173, R177): first and highest source number with its cycles, packets received, and both
at the last report; RFC 8888 arrivals in µs; the highest timestamp. -/
structure Recv where
  base : Nat := 0
  hi : Option Nat := none
  got : Nat := 0
  expPrior : Nat := 0
  gotPrior : Nat := 0
  arrivals : List (Nat × Nat) := []
  lastTs : Option Nat := none
deriving DecidableEq, Repr

/-- One encoding of a source track (R152): SSRCs, reception, missing numbers, sender report, key-request record (R178),
breaks (R179), stored packets (R155) and the bytes of R160. -/
structure Enc where
  ssrc : Nat
  rtxSsrc : Nat
  recv : Recv := {}
  missing : List Missing := []
  /-- the last SR: NTP middle bits, RTP timestamp, arrival on the reference counter -/
  sr : Option (Nat × Nat × Nat) := none
  keyLast : Option Nat := none
  keyMerged : Bool := false
  keyFir : Bool := false
  firSeq : Nat := 0
  /-- temporal layers above this one are withheld (R179) -/
  brokenAbove : Option Nat := none
  /-- spatial layers from this one up are withheld -/
  brokenFrom : Option Nat := none
  brokenAll : Bool := false
  /-- AV1 chains broken by a loss: chain c protects the decode targets of spatial layer c (log entry 21) -/
  brokenChains : List Nat := []
  hamper : List HamperPkt := []
  /-- bytes received: tick, spatial layer, temporal layer, IP bytes -/
  window : List (Nat × Nat × Nat × Nat) := []
  /-- length of the extended Dependency Descriptor last received (R170) -/
  ddLen : Nat := 3
deriving DecidableEq, Repr

/-- A declared track (R152, R184), its CNAME (R172), ladder (R160) and route epoch (R181). -/
structure Track where
  media : Nat
  codec : Nat
  layering : Nat
  pt : Nat
  rtxPt : Nat
  encs : List Enc
  cname : List Byte := []
  ladder : List (Nat × Nat × Nat) := []
  routeEpoch : Nat := 0
deriving DecidableEq, Repr

/-- An entry of a stream's retransmission index (R176): outbound number, encoding, source number, the copy as it was sent,
and the tick of its last retransmission. -/
structure RtxEntry where
  seq : Nat
  enc : Nat
  srcSeq : Nat
  pkt : OutPkt
  last : Option Nat := none
deriving DecidableEq, Repr

/-- An outbound stream (R168 to R171, R176): the next index (16-bit number and roll-over counter), highest source number of
the encoding followed, reserved numbers, timestamp offset, picture index offsets, retransmission index. -/
structure Stream where
  next : Nat := 0
  hi : Option Nat := none
  hiEnc : Nat := 0
  /-- reserved numbers: source number and outbound index -/
  reserved : List (Nat × Nat) := []
  index : List RtxEntry := []
  tsOff : Option Nat := none
  /-- the last outbound timestamp, or the start value drawn for the first -/
  lastTs : Nat := 0
  lastArr : Nat := 0
  rtxNext : Nat := 0
  sent : Bool := false
  rtxSent : Bool := false
  ddOff : Nat := 0
  tl0Off : Nat := 0
  picOff : Nat := 0
  lastFrame : Option Nat := none
  lastTl0 : Option Nat := none
  lastPic : Option Nat := none
  /-- the next copy is the first after a re-point or a layer change (R169, R170) -/
  fresh : Bool := true
  repoint : Bool := false
deriving DecidableEq, Repr

/-- What a subscription slot reads: a track of a leg, or an encode job (R157, R239). -/
inductive SlotSrc where
  | track (leg gen track : Nat)
  | job (job : Nat)
deriving DecidableEq, Repr

/-- A subscription slot (R157 to R167, R182, R186). State codes are those of R158. -/
structure Slot where
  state : Nat
  src : SlotSrc
  media : Nat
  outSsrc : Nat
  outRtx : Nat
  outPt : Nat
  outRtxPt : Nat
  prio : Nat
  /-- encoding asked for by VID.ENCODE attach; 3 lets R166 choose -/
  encSel : Nat := 3
  pinMode : Nat := 0
  pinS : Nat := 0
  pinT : Nat := 0
  curS : Nat := 0
  curT : Nat := 0
  wantS : Nat := 0
  wantT : Nat := 0
  wantPause : Bool := false
  /-- tick at which the hold timer of R167 started -/
  holdFrom : Option Nat := none
  /-- scheduled switch: target layer and the tick it was scheduled -/
  pendLayer : Option (Nat × Nat × Nat) := none
  /-- pending re-point (R182): new source, tick, key requests sent, whether EV_FWD_SWITCH_SLOW was posted -/
  pendSrc : Option (SlotSrc × Nat × Nat × Bool) := none
  /-- lowered by a break of the source (R180) -/
  cut : Bool := false
  fallback : Bool := false
  /-- the encode job to return to after step 2 of R417 -/
  homeJob : Option Nat := none
  stream : Stream := {}
deriving DecidableEq, Repr

/-- The rate estimator of a leg (R163 to R165). Rates are in bit/s (log entry 20), times in ticks or microseconds. -/
structure Est where
  a : Nat := 1000000
  /-- 0 INCREASE, 1 HOLD, 2 DECREASE, 3 STALE -/
  st : Nat := 0
  tDec : Option Nat := none
  /-- tick since which the state has been INCREASE -/
  incSince : Nat := 0
  /-- tick of the last run -/
  lastRun : Option Nat := none
  /-- the last 20 groups: arrival time and accumulated delay variation, µs -/
  groups : List (Int × Int) := []
  /-- the group being formed: first send, last send, last arrival; and the last send and arrival of the group before it -/
  openGrp : Option (Nat × Nat × Nat) := none
  prevGrp : Option (Nat × Nat) := none
  acc : Int := 0
  /-- reports: tick, format, bytes received, packets reported, packets lost -/
  reports : List (Nat × Nat × Nat × Nat × Nat) := []
  /-- tick of the last report of each kind: transport-wide, RFC 8888, receiver report -/
  lastTw : Nat := 0
  lastCc : Nat := 0
  lastRr : Nat := 0
  /-- fraction lost of the latest receiver report, of 256 -/
  rrLoss : Nat := 0
  /-- packets sent: transport number or SSRC × 2^16 + number, tick, send time in µs, IP bytes -/
  sentTw : List (Nat × Nat × Nat × Nat) := []
  sentSs : List (Nat × Nat × Nat × Nat) := []
  /-- what was sent in the last 500 ticks: tick, IP bytes, 0 video, 1 audio, 2 RTCP -/
  outs : List (Nat × Nat × Nat) := []
  twNext : Nat := 0
  /-- rate confirmed by the last successful probe, and its tick; REMB with its tick -/
  probed : Option (Nat × Nat) := none
  remb : Option (Nat × Nat) := none
  /-- a probe window: end tick and target -/
  probing : Option (Nat × Nat) := none
  nextProbe : Nat := 0
  rttMs : Nat := 0
deriving DecidableEq, Repr

/-- One installed key (R323): its words (profile, key, salt) and AT_TICK of a send next key. -/
structure KeyCtx where
  words : List Nat
  atTick : Nat := 0
deriving DecidableEq, Repr

/-- A receive window (R319): SSRC, SRTCP or SRTP, highest index, indices received within the window of 256. -/
structure RxWin where
  ssrc : Nat
  rtcp : Bool
  hi : Nat
  seen : List Nat
deriving DecidableEq, Repr

/-- A send index guard (R320): SSRC, highest index used and the used indices within 1,024 below it. -/
structure TxGuard where
  ssrc : Nat
  hi : Nat
  used : List Nat
deriving DecidableEq, Repr

/-- The keys of a leg (R315 to R321). -/
structure LegKeys where
  rxCur : Option KeyCtx := none
  rxNext : Option KeyCtx := none
  /-- the receive next slot holds a fallback until this tick (R318) -/
  rxFallUntil : Option Nat := none
  txCur : Option KeyCtx := none
  txNext : Option KeyCtx := none
  rekey : Bool := false
  wins : List RxWin := []
  guards : List TxGuard := []
  srtcp : Nat := 0
  srtcpUsed : Option Nat := none
  limitSrtp : Bool := false
  limitSrtcp : Bool := false
deriving DecidableEq, Repr

/-- The settings of a leg shaper (R347). -/
structure ShpSet where
  group : Nat
  weight : Nat
  fixed : Bool
  rate : Nat
  depth : Nat
deriving DecidableEq, Repr

/-- A leg shaper (R332 to R335). Tokens are in 1/256 byte; `rem` is the finer part of a refill. -/
structure Shaper where
  group : Nat := 0
  weight : Nat := 1
  fixed : Bool := false
  rate : Nat := 1250
  depth : Nat := 0
  tokens : Int := 0
  rem : Nat := 0
  /-- settings that wait for the next refill (R335) -/
  pend : Option ShpSet := none
  vF : Nat := 0
  vS : Nat := 0
  tagged : Bool := false
deriving DecidableEq, Repr

/-- A leg's ingress policer (R148, R348), tokens in 1/256 byte. -/
structure Policer where
  rate : Nat := 0
  depth : Nat := 0
  tokens : Int := 0
  rem : Nat := 0
  last : Nat := 0
deriving DecidableEq, Repr

/-- A frame waiting in a jitter buffer (R191): the millisecond count of its playout tick, its RTP timestamp, the V bit of
its audio level, and its packet. -/
structure JbFrame where
  play : Nat
  ts : Nat
  vBit : Bool
  pkt : Rtp
deriving DecidableEq, Repr

/-- A jitter buffer and its decoder (R191, R194). -/
structure Jb where
  /-- the anchor: millisecond count of its tick, and timestamp -/
  anchor : Option (Nat × Nat) := none
  frames : List JbFrame := []
  /-- the window of 2,000 ms: its start, late packets, packets, and whether every one came a frame ahead -/
  windowStart : Nat := 0
  late : Nat := 0
  arrivals : Nat := 0
  early : Bool := true
  /-- a re-anchor waits: later (true) or earlier, and the tick by which it is made -/
  move : Option (Bool × Nat) := none
  /-- ticks of one frame, from the last two timestamps (log entry 34) -/
  frameMs : Nat := 20
  lastTs : Option Nat := none
  /-- the decoder runs; the end and the V bit of the frame it plays; ticks concealed since -/
  running : Bool := false
  curEnd : Nat := 0
  vBit : Bool := false
  concealRun : Nat := 0
deriving DecidableEq, Repr

/-- Encoder settings of AUD.ROUTE SELECT 2 with their reset values (R217). -/
structure EncSet where
  codec : Nat := 0
  frameMs : Nat := 20
  adapt : Bool := false
  dtx : Bool := false
  fec : Bool := true
  opusMin : Nat := 16
  opusMax : Nat := 32
deriving DecidableEq, Repr

/-- AUD.ROUTE settings (R217) and AUD.DETECT settings (R220) with their reset values. -/
structure AudCfg where
  inConf : Nat := 0
  outConf : Nat := 0
  inMute : Bool := false
  outMute : Bool := false
  inTrack : Nat := 0
  jit : Nat := 20
  enc : EncSet := {}
  outSsrc : Nat := 0
  outPt : Nat := 0
  vadEv : Bool := false
  dtmfInband : Bool := false
  dtmfTe : Bool := false
  dtmfMute : Bool := false
  howl : Bool := false
  howlAct : Bool := false
  tePt : Nat := 0
deriving DecidableEq, Repr

/-- A decoded block: its tick, samples and voice (R196). -/
structure Blk where
  tick : Option Nat := none
  samples : List Int := []
  vad : Bool := false
deriving DecidableEq, Repr

/-- A leg's audio input: jitter buffer (R191), loudness (R192), candidate (R193), voice (R196). -/
structure AudIn where
  jb : Jb := {}
  /-- loudness U in 1/1024 dB (log entry 12), and levels not yet taken into it, with the ticks they belong to -/
  u : Nat := 0
  pendU : List (Nat × Nat) := []
  lastPkt : Option Nat := none
  cand : Bool := false
  loud : Nat := 0
  vad : Bool := false
  vadPosted : Bool := false
  vadEvTick : Option Nat := none
  /-- noise floor N, hundredths of dBov -/
  noise : Int := -7000
  /-- the last two blocks decoded -/
  cur : Blk := {}
  prev : Blk := {}
deriving DecidableEq, Repr

/-- A leg's audio output: the signal it hears (R201, R211) and its encoder (R202). -/
structure AudOut where
  /-- the last signal heard: 0 silence, 1 common, 2 mix-minus; the conference it came from, its samples and tick -/
  outKind : Nat := 0
  outFrom : Nat := 0
  outSig : List Int := []
  outTick : Option Nat := none
  /-- its samples are in the frame already -/
  taken : Bool := false
  /-- samples of the frame being built -/
  frameBuf : List Int := []
  /-- encoder settings in force; AUD.ROUTE's take effect at the next frame boundary (R209) -/
  enc : EncSet := {}
  /-- the next index of the mixed stream (number and roll-over counter), none before the first packet -/
  encNext : Option Nat := none
  encTs : Option Nat := none
  /-- bitrate of the next Opus frame, kb/s; the tick of the last frame boundary -/
  encRate : Nat := 32
  encAt : Option Nat := none
deriving DecidableEq, Repr

/-- An in-band digit being heard (R204): its first and last tick with both tones, and whether it is accepted. -/
structure Tone where
  digit : Nat
  start : Nat
  last : Nat
  accepted : Bool := false
deriving DecidableEq, Repr

/-- A telephone event without its end (R204): timestamp, event, duration in ms, ticks of its first and last packet. -/
structure TeEvent where
  ts : Nat
  event : Nat
  dur : Nat
  start : Nat
  last : Nat
deriving DecidableEq, Repr

/-- A leg's detectors (R204, R205) and the cascade lateness record of a cascade leg (R215). -/
structure AudDet where
  tones : List Tone := []
  /-- the last accepted digit and its last tick with both tones -/
  toneDone : Option (Nat × Nat) := none
  tes : List TeEvent := []
  /-- timestamp of the last telephone event reported -/
  teDone : Option Nat := none
  muteUntil : Nat := 0
  howlOn : Bool := false
  howlRun : Nat := 0
  howlHz : Nat := 0
  howlAbove : Int := 0
  howlQuiet : Nat := 0
  /-- the module whose contributions the leg carries -/
  cascSite : Option Nat := none
  cascLate : Nat := 0
  cascLateEv : Option Nat := none
  cascDelay : Nat := 0
deriving DecidableEq, Repr

/-- A leg's Campfire state. -/
structure Aud where
  cfg : AudCfg := {}
  inp : AudIn := {}
  out : AudOut := {}
  det : AudDet := {}
deriving DecidableEq, Repr

/-- A leg (R122 to R138) with everything it owns. `prot` is its protection class (R409); `creator` the MID of the
function that created it, for event routing (R63). -/
structure Leg where
  cfg : LegCfg
  gen : Nat
  creator : Nat
  state : Nat := 0
  pathEpoch : Nat := 0
  stats : LegStats := {}
  pol : FwdPol := {}
  est : Est := {}
  tracks : List (Nat × Track) := []
  slots : List (Nat × Slot) := []
  keys : LegKeys := {}
  shaper : Shaper := {}
  policer : Policer := {}
  aud : Aud := {}
  prot : Nat := 0
  queue : List QItem := []
  qLastRead : Nat := 0
  lastAuth : Nat := 0
  liveSince : Nat := 0
  ipId : Nat := 0
  rtcpDue : Option Nat := none
  rtcpTurn : Nat := 0
  twSeen : List (Nat × Nat) := []
  twHi : Option Nat := none
  yielded : Bool := false
  /-- origin of a leg taken over from a partner: module, leg, generation (R423) -/
  origin : Option (Nat × Nat × Nat) := none
  /-- claims still to be repeated (R424) -/
  claims : Nat := 0
  /-- the millisecond count of the takeover that made them -/
  claimAt : Nat := 0
deriving DecidableEq, Repr

/-- A conference's AUD.MIXPOLICY settings (R218) with their reset values. -/
structure MixPol where
  activeMax : Nat := 4
  candMax : Nat := 8
  scale : Bool := false
  talkEv : Bool := false
  hyst : Nat := 6
  floor : Nat := 55
  hang : Nat := 400
  candHold : Nat := 500
  cascD : Nat := 0
  confTag : Nat := 0
  cascPt : Nat := 0
deriving DecidableEq, Repr

/-- A member of the active set, or of the combined set (R197, R198, R214): site (none is local), leg, tick last heard, ramp
(0 steady, 1 ramping in, 2 ramping out), blocks missed in a row (R211, R215), its last block, U in 1/1024 dB, and voice. -/
structure ActIn where
  site : Option Nat := none
  leg : Nat
  heard : Nat := 0
  ramp : Nat := 0
  missed : Nat := 0
  block : List Int := []
  u : Nat := 0
  vad : Bool := false
deriving DecidableEq, Repr

/-- The contributions of one module for one source tick (R212, R213): leg, voice, level, samples. -/
structure Contrib where
  site : Option Nat
  tick : Nat
  blocks : List (Nat × Bool × Nat × List Int)
deriving DecidableEq, Repr

/-- A conference (R122, R129) and its mix (R197 to R201, R212 to R215). `minus` and `leaving` hold a signal by leg: the
mix-minus of each member, and that of each member that ramps out. -/
structure Conf where
  tenant : Nat
  mix : Bool
  group : Nat
  creator : Nat
  pol : MixPol := {}
  active : List ActIn := []
  combined : List ActIn := []
  mixTick : Option Nat := none
  common : List Int := []
  minus : List (Nat × List Int) := []
  leaving : List (Nat × List Int) := []
  /-- coefficients of the 1/√n scale at the end of the last tick: of the common mix and of the mix-minus signals -/
  coefCommon : Nat := 8388608
  coefMinus : Nat := 8388608
  lastScale : Bool := false
  contribs : List Contrib := []
deriving DecidableEq, Repr

end Sys2Proof.Machine
end

