-- ==== Sys2Proof/Machine/StateMedia.lean ====
section
/-! DEFINITION. State, part 2: video jobs and engines, canvases, custom stages, DSP cores and the cipher farm
(chapters 07 to 11). -/

namespace Sys2Proof.Machine

/-- A picture surface in HBM (R234, R262, R270): size, depth, planes in raster order, frame status (R251), tick, and
the producer's picture number. `readers` names who holds it. -/
structure Surface where
  w : Nat
  h : Nat
  depth : Nat
  y : List Nat
  cb : List Nat
  cr : List Nat
  /-- alpha plane of a still image -/
  alpha : List Nat := []
  fstat : Nat := 0
  tick : Nat := 0
  seq : Nat := 0
  readers : List Nat := []
deriving DecidableEq, Repr

/-- A frame of a decode job between its first packet and its completion (R232, R233): RTP timestamp, tick of its first
packet, numbers of its first and last packet and of those received, ticks at which it became complete and at which a packet
of it was declared lost, and how far it has come. -/
structure DecFrame where
  ts : Nat
  firstTick : Nat
  first : Option Nat := none
  last : Option Nat := none
  got : List Nat := []
  complete : Option Nat := none
  lostAt : Option Nat := none
  isRef : Bool := true
  t : Nat := 0
  submitted : Bool := false
  started : Bool := false
  preempted : Bool := false
deriving DecidableEq, Repr

/-- A video decode job (R226, R232 to R236, R252). -/
structure DecJob where
  srcLeg : Nat
  srcGen : Nat
  srcTrack : Nat
  decS : Nat
  decT : Nat
  maxW : Nat
  maxH : Nat
  maxFps : Nat
  vjit : Nat
  prio : Nat
  group : Option Nat
  creator : Nat
  tenant : Nat
  codec : Nat
  /-- a change of layer that waits for a switching point (R232) -/
  pend : Option (Nat × Nat) := none
  frames : List DecFrame := []
  lastSubmitted : Option Nat := none
  surfaces : List Surface := []
  seq : Nat := 0
  fstat : Nat := 0
  decoded : Nat := 0
  concealedN : Nat := 0
  curW : Nat := 0
  curH : Nat := 0
  concealing : Bool := false
  concealRun : Nat := 0
  concealTick : Nat := 0
  limitN : Nat := 0
  limitEv : Option Nat := none
deriving DecidableEq, Repr

/-- One encoding of an encode job: key-picture record (R241, R242), bucket level in bits (R244), counters of its frames,
the tick of a frame that is ready, and the frame on a pipe: its start, status so far, budget in bytes, and the surface it
reads. -/
structure Encoding where
  keyPending : Bool := false
  lastKey : Option Nat := none
  keyCoding : Bool := false
  /-- the next frame is a forced key picture (R242, R250) -/
  forced : Bool := false
  level : Nat := 0
  lastDrain : Nat := 0
  /-- frames coded, frames since the key picture (R238), T0 frames, number of the next packet -/
  frameNo : Nat := 0
  sinceKey : Nat := 0
  tl0 : Nat := 0
  seq : Nat := 0
  ready : Option Nat := none
  readyAt : Option Nat := none
  running : Bool := false
  runHeader : Nat := 0
  runKey : Bool := false
  runForced : Bool := false
  runBudget : Option Nat := none
  runPreempted : Bool := false
  runLate : Bool := false
  runT : Nat := 0
  /-- coded at the lowest spatial layer only (R417, R462) -/
  runBase : Bool := false
  runSize : Nat × Nat := (0, 0)
  /-- SEQ of the picture that it takes -/
  runSrc : Nat := 0
  /-- frames skipped in alternation under the power cap (R462) -/
  capAlt : Bool := false
deriving DecidableEq, Repr

/-- A record of a recording ring (R240): frame length, tick, status, RTP timestamp and the offset it was written at. -/
structure RecRecord where
  off : Nat
  len : Nat
  tick : Nat
  fstat : Nat
  ts : Nat
deriving DecidableEq, Repr

/-- A recording ring of an encode job (R240): buffer length, WR, and the records written. -/
structure RecRing where
  size : Nat
  wr : Nat := 64
  records : List RecRecord := []
deriving DecidableEq, Repr

/-- A video encode job's settings (R253). -/
structure EncCfg where
  src : Nat
  srcKind : Nat
  codec : Nat
  profile : Nat
  mode : Nat
  outW : Nat
  outH : Nat
  fps : Nat
  q : Nat
  keyIv : Nat
  rateMax : Nat
  follow : Bool
  coastEv : Bool
  frameCap : Nat
  pktMax : Nat
deriving DecidableEq, Repr

/-- A video encode job (R226, R237 to R246). -/
structure EncJob where
  cfg : EncCfg
  prio : Nat
  group : Option Nat
  creator : Nat
  tenant : Nat
  ring : Option RecRing := none
  encs : List Encoding
  fstat : Nat := 0
  coded : Nat := 0
  coasted : Nat := 0
  skipped : Nat := 0
  coastN : Nat := 0
  coastEv : Option Nat := none
  /-- reduced or stopped under R417: 0 none, 1 base layers only, 2 stopped, 3 skipping -/
  degrade : Nat := 0
deriving DecidableEq, Repr

/-- A frame on an encode pipe (R228, R231): job, encoding, priority, order of start. -/
structure PipeRun where
  job : Nat
  enc : Nat
  prio : Nat
  order : Nat
deriving DecidableEq, Repr

/-- A cluster's codec engine (R228, R231): the two pipes' running frames, the frames preempted, the frames waiting,
and the decoder's running and preempted jobs. -/
structure Engine where
  pipes : List (Option PipeRun) := [none, none]
  preempted : List PipeRun := []
  waiting : List PipeRun := []
  decRun : Option (Nat × Nat) := none
  decWait : List (Nat × Nat) := []
deriving DecidableEq, Repr

/-- The source of a layer (R264). -/
structure LaySrc where
  kind : Nat
  src : Nat
deriving DecidableEq, Repr

/-- A layer's geometry, alpha and fill (R264 to R266, R276). -/
structure LayGeo where
  sync : Bool
  alphaPlane : Bool
  alpha : Nat
  sx : Nat
  sy : Nat
  sw : Nat
  sh : Nat
  dx : Int
  dy : Int
  dw : Nat
  dh : Nat
  fillY : Nat
  fillCb : Nat
  fillCr : Nat
deriving DecidableEq, Repr

/-- A layer of a canvas (R264, R265). `pend` is a pending source switch with its geometry and the tick of the
response; `held` the surface held during it; `still` a still image. -/
structure Layer where
  src : LaySrc
  geo : LayGeo
  still : Option Surface := none
  pend : Option (LaySrc × LayGeo × Option Surface × Nat) := none
  held : Option Surface := none
  shown : Option Surface := none
  filling : Bool := false
  /-- producer number of the source surface at the last canvas frame start (R260) -/
  lastSeq : Nat := 0
deriving DecidableEq, Repr

/-- A canvas frame being composed: the snapshot of R261 (`tick` is the millisecond count of its start), whether the next frame
has fallen due since, and the rows written. -/
structure CanvasRun where
  tick : Nat
  layers : List (Nat × Layer)
  orderMode : Nat
  order : List Nat
  lutIn : Option (List Nat)
  lutOut : Option (List Nat)
  bg : Nat × Nat × Nat
  late : Bool := false
  band : Nat := 0
  y : List Nat := []
  cb : List Nat := []
  cr : List Nat := []
deriving DecidableEq, Repr

/-- A canvas (R257 to R263, R268, R269, R275). -/
structure Canvas where
  composer : Nat
  tenant : Nat
  creator : Nat
  w : Nat
  h : Nat
  fps : Nat
  lowDelay : Bool
  nsurf : Nat
  switchMax : Nat
  bgY : Nat
  bgCb : Nat
  bgCr : Nat
  layers : List (Nat × Layer) := []
  orderMode : Nat := 0
  order : List Nat := []
  /-- none is the reset table 4 × i (R269) -/
  lutIn : Option (List Nat) := none
  lutOut : Option (List Nat) := none
  surfaces : List Surface := []
  run : Option CanvasRun := none
  /-- millisecond count at which a frame last fell due, and how many have -/
  lastStart : Option Nat := none
  dueN : Nat := 0
  seq : Nat := 0
  composed : Nat := 0
  skipped : Nat := 0
  skipN : Nat := 0
  skipEv : Option Nat := none
deriving DecidableEq, Repr

/-- An instance of an attached stage (R304): the talker of a mix-minus or 0xFFFF, whether it has run, its state bytes, the
tick of its last run and its output there. -/
structure StageInst where
  talker : Nat
  first : Bool := true
  state : List (BitVec 8) := []
  ran : Option Nat := none
  out : List Int := []
deriving DecidableEq, Repr

/-- An attachment of a custom stage (R206, R219): point, object, position, stage, parameters, consecutive stops, the
millisecond counts of the responses that attached it and detached it, and its instances. -/
structure StageAtt where
  point : Nat
  obj : Nat
  pos : Nat
  stage : Nat
  params : List Nat
  stops : Nat := 0
  at_ : Nat := 0
  until_ : Option Nat := none
  insts : List StageInst := []
deriving DecidableEq, Repr

/-- A loaded custom stage (R219, R302). -/
structure Stage where
  code : List Byte
  entry : Nat
  consts : List Byte
  scratch : Nat
  cycles : Nat
  delay : Nat
  state : Nat
deriving DecidableEq, Repr

/-- A result in flight in a core's pipeline (R289): bundles until it lands, its destination, and the `n` bits from bit `lo`
that it writes there. Results stand in the order of their issue, and within a bundle in the order of the slots (R290). -/
structure Flight where
  left : Nat
  dst : DReg
  lo : Nat
  n : Nat
  val : Nat
deriving DecidableEq, Repr

/-- An accumulator result in flight (R289). -/
structure AccFlight where
  left : Nat
  ac : Nat
  val : Nat
deriving DecidableEq, Repr

/-- A DSP core (R281 to R301). Registers unlisted in a table read 0. Values are unsigned of the register's width:
D 64 bits, AC 80, A and M 32, BASE 18, LEN 19, LCOUNT 32, LSTART, LEND, LR, IPC 16, SR and ISR 32, CCOUNT 64. -/
structure Core where
  pc : Nat := 0
  d : List (Nat × Nat) := []
  ac : List (Nat × Nat) := []
  a : List (Nat × Nat) := []
  m : List (Nat × Nat) := []
  base : List (Nat × Nat) := []
  len : List (Nat × Nat) := []
  lcount : List (Nat × Nat) := []
  lstart : List (Nat × Nat) := []
  lend : List (Nat × Nat) := []
  lr : Nat := 0
  /-- reset: PRIV set, every other field 0 (R282) -/
  sr : Nat := 8
  ipc : Nat := 0
  isr : Nat := 0
  ccount : Nat := 0
  flights : List Flight := []
  accFlights : List AccFlight := []
  /-- a taken branch: delay-slot bundles left, and the target (R289) -/
  branch : Option (Nat × Nat) := none
  /-- data memory, 256 KiB, in the canonical form of Memory -/
  data : List Host.Cell := []
  /-- a bundle has caused a fault that the core has not taken yet (R300) -/
  pendingFault : Bool := false
deriving DecidableEq, Repr

/-- A tenant's key page (R312, R325). -/
structure Page where
  ctxMax : Nat := 0
  engMax : Nat := 0
deriving DecidableEq, Repr

/-- A cipher engine that differs from its reset condition (R313, R314): page bound, offline, under known-answer tests,
tick of its last mismatch, last use. -/
structure CipherEng where
  page : Option Nat := none
  offline : Bool := false
  testing : Bool := false
  lastMismatch : Option Nat := none
  lastUse : Nat := 0
deriving DecidableEq, Repr

/-- A packet waiting for decryption (R311): the port it arrived on, its leg and generation, its payload, sizes,
stamp on the reference counter and the tick it belongs to (R15). -/
structure InPkt where
  port : Nat
  leg : Nat
  gen : Nat
  ipLen : Nat
  bytes : Nat
  stamp : Nat
  tick : Nat
  payload : Payload
deriving DecidableEq, Repr

/-- A source packet waiting for a forwarding pipe (R174): a leg's track or an encode job's output, encoding, number,
layer, marks and content. -/
structure FwdPkt where
  src : SlotSrc
  enc : Nat
  media : Nat
  s : Nat
  t : Nat
  key : Bool
  start : Bool
  fin : Bool
  switches : List (Nat × Nat)
  seq : Nat
  /-- the highest spatial and temporal layer decodable after this packet, none where the whole encoding is withheld (R179) -/
  dec : Option (Nat × Nat)
  stamp : Nat
  rtp : Rtp
deriving DecidableEq, Repr

end Sys2Proof.Machine
end

