-- ==== Sys2Proof/Machine/StateUnits.lean ====
section
/-! DEFINITION. State, part 3: transport and control (02), time bases (03), Trailhead (04), egress and gates (12), ports
and cascade (13), memory controller (14), protection (15), update (16), power (17), pins (18), monitors (19). -/

namespace Sys2Proof.Machine

/-! ## Transport and control -/

/-- An event-ring entry (R60). -/
structure Event where
  code : Nat
  tag : Nat := 0
  tick : Nat := 0
  obj : Nat := 0
  status : Nat := 0
  handle : Nat := 0
  d0 : Nat := 0
  d1 : Nat := 0
  d2 : Nat := 0
  d3 : Nat := 0
  phase : Bool := true
deriving DecidableEq, Repr

/-- A mailbox channel's registers (R26): 16 message words and the fields of CTL; all reset to 0. -/
structure Chan where
  msg : List Word := List.replicate 16 0#32
  full : Bool := false
  rie : Bool := false
  sie : Bool := false
  held : Bool := false
  holder : Bool := false
  denied : Bool := false
deriving DecidableEq, Repr

/-- An entry of the binding table (R32), reset 0. -/
structure Bind where
  sender : Nat := 0
  receiver : Nat := 0
  shared : Bool := false
  valid : Bool := false
deriving DecidableEq, Repr

/-- An MSI-X vector (R34, R490): mask bit and address and data of its table entry, its pending bit, and how many
messages it has sent. -/
structure Vec where
  mask : Bool := true
  pend : Bool := false
  addrLo : Word := 0#32
  addrHi : Word := 0#32
  data : Word := 0#32
  fired : Nat := 0
deriving DecidableEq, Repr

/-- A slot written into a host packet ring (R360): the header fields. -/
structure PktSlot where
  caplen : Nat
  port : Nat
  kind : Nat
  phase : Bool
  framelen : Nat
  fcs : Bool := false
  runt : Bool := false
  oversize : Bool := false
  code : Bool := false
  trunc : Bool := false
  leg : Option (Nat × Nat) := none
  tick : Nat := 0
  stamp : Nat := 0
deriving DecidableEq, Repr

/-- A host packet ring's registers (R359) and the slots between HEAD and TAIL. `armed`: EV_PKT_RING may be posted. -/
structure PktRing where
  baseLo : Nat := 0
  baseHi : Nat := 0
  sizeLog2 : Nat := 4
  slot : Nat := 0
  en : Bool := false
  ie : Bool := false
  head : Nat := 0
  tail : Nat := 0
  phase : Bool := true
  lost : Nat := 0
  slots : List PktSlot := []
  armed : Bool := true
deriving DecidableEq, Repr

/-- An event ring's registers (R58) and the entries between HEAD and TAIL. `stopped`: EV_RING_OVERFLOW was written
and posting has not resumed (R62). `hold`: the EVR_MOD holdoff runs; `deferred`: an entry was written during it. -/
structure EvRing where
  baseLo : Nat := 0
  baseHi : Nat := 0
  sizeLog2 : Nat := 6
  en : Bool := false
  all : Bool := false
  ie : Bool := false
  head : Nat := 0
  tail : Nat := 0
  phase : Bool := true
  lost : Nat := 0
  holdoff : Nat := 0
  entries : List Event := []
  stopped : Bool := false
  hold : Bool := false
  deferred : Bool := false
deriving DecidableEq, Repr

/-- The registers private to a host function, and control's records of it (R52, R54, R56, R62). -/
structure Fn where
  ev : EvRing := {}
  held : List Event := []
  vecs : List Vec := [{}, {}, {}, {}]
  tbValid : Nat := 0
  tbCap : List Nat := [0, 0, 0, 0]
  phUs : Nat := 0
  phSrc : Nat := 0
  phLocked : Bool := false
  lqLeg : Nat := 0
  lqFlush : Bool := false
  lqDenied : Bool := false
  rings : List PktRing := [{}, {}, {}]
  cntHi : List (Nat × Nat) := []
  nextHandle : Nat := 1
  opsStarted : Nat := 0
deriving DecidableEq, Repr

/-- A long operation's record (R54 to R56): running, completed, aborted. `posted`: its completion event has left the
hold, or was discarded. `a`, `b`, `c` are its operands; `waitedFrom` its tick of acceptance. -/
structure LongOp where
  fn : Nat
  handle : Nat
  tag : Nat
  opcode : Nat
  /-- 0 running, 1 completion recorded, 2 abort recorded -/
  state : Nat := 0
  posted : Bool := false
  serial : Nat
  a : Nat := 0
  b : Nat := 0
  c : Nat := 0
  /-- phase of a calibration (R455); of a unit's reset: 0 draining, 1 powered off (R431) -/
  phase : Nat := 0
  since : Nat := 0
  waited : Nat := 0
  discard : Bool := false
deriving DecidableEq, Repr

/-- A command in a request channel's queue (R47): opcode, tag, argument words from word 1, and the refusal it already
carries from the framing and issuer checks (R46). -/
structure Cmd where
  opcode : Nat
  tag : Nat
  args : List Word
  refuse : Option (Nat × Nat) := none
deriving DecidableEq, Repr

/-- A segmented command that is open on a channel (R39). -/
structure Seg where
  opcode : Nat
  tag : Nat
  words : List Word
  count : Nat
deriving DecidableEq, Repr

/-- A PROT.CLASS that waits for RESERVE_ACK (R420): issuer's tag, leg, class, the RESERVE's own tag, partner group. -/
structure ProtWait where
  tag : Nat
  leg : Nat
  cls : Nat
  resTag : Nat
  group : Nat
  since : Nat
deriving DecidableEq, Repr

/-- The control complex (R36 to R57). Queues, open segments, waiting responses by channel; `rr` the channel after which
the round-robin resumes. -/
structure Control where
  queues : List (Nat × List Cmd) := []
  segs : List (Nat × Seg) := []
  /-- channels on which segments are discarded up to MORE = 0, with the opcode and tag refused -/
  discards : List (Nat × Nat) := []
  rsps : List (Nat × List (List Word)) := []
  rr : Nat := 287
  ops : List LongOp := []
  waits : List (Nat × ProtWait) := []
  /-- 0 pair A active, 1 pair B -/
  active : Nat := 0
  standbyReady : Bool := false
  /-- pairs in service (R429) -/
  pairs : List Bool := [false, false]
  /-- response channels of the management controller held for 10 ms after TAKE (R486) -/
  bmcHold : List Nat := []
  resTag : Nat := 0
deriving DecidableEq, Repr

/-! ## Time -/

/-- A PTP instance's settings (R94). Rates are signed logarithms. -/
structure PtpInst where
  role : Nat := 0
  mech : Nat := 0
  transport : Nat := 0
  twoStep : Bool := false
  slaveOnly : Bool := false
  domain : Nat := 0
  ports : Nat := 0
  prio1 : Nat := 0
  prio2 : Nat := 0
  clsQ : Nat := 0
  acc : Nat := 0
  logSync : Int := 0
  logAnn : Int := 0
  logDelay : Int := 0
  annTo : Nat := 0
deriving DecidableEq, Repr

/-- An Announce's content (R96, IEEE 1588): the dataset, flags, the sender and the port it came on. -/
structure Announce where
  prio1 : Nat
  clsQ : Nat
  acc : Nat
  variance : Nat
  prio2 : Nat
  gm : Nat
  steps : Nat
  utc : Int
  utcValid : Bool
  leap61 : Bool
  leap59 : Bool
  timeTr : Bool
  freqTr : Bool
  ptpScale : Bool
  sender : Nat
  port : Nat
deriving DecidableEq, Repr

/-- A time base (R66, R78 to R85). `val` counts units of 2^-16 ns; `rate` is the correction in parts per 10^12; `rem`
the part of an advance finer than one unit. State codes are those of R78. -/
structure Base where
  val : Nat := 0
  rem : Int := 0
  rate : Int := 0
  st : Nat := 0
  /-- source of the arming: 0 PTP, 1 PPS_IN -/
  arm : Option Nat := none
  inRun : Nat := 0
  outRun : Nat := 0
  offset : Int := 0
  pathDelay : Int := 0
  inst : PtpInst := {}
  master : Option Announce := none
  ann : Option Announce := none
  newMeas : Nat := 0
  holdFrom : Nat := 0
  held : Int := 0
  /-- stamps of the running delay exchange: Sync origin and arrival, Delay_Req departure -/
  t1 : Int := 0
  t2 : Int := 0
  t3 : Option Int := none
deriving DecidableEq, Repr

/-- A PCIe port's PTM record (R91). -/
structure Ptm where
  en : Bool := false
  valid : Bool := false
  tb : Nat := 0
  interval : Nat := 0
  seq : Nat := 0
  host : Nat := 0
  base : Nat := 0
deriving DecidableEq, Repr

/-- Time (R66 to R97): the reference counter in 2^-16 ns of Thermos, the bases, timing inputs and outputs. -/
structure Time where
  ref : Nat := 0
  bases : List Base := [{}, {}, {}, {}]
  tcPorts : Nat := 0
  asym : List (Nat × Int) := []
  ppsOutTb : Nat := 0
  todOutTb : Nat := 0
  ppsInTb : Nat := 0
  clk10En : Bool := false
  ppsWidth : Nat := 100
  ppsCable : Int := 0
  /-- boot firmware has enabled the timing outputs (R87) -/
  outEn : Bool := false
  /-- last PPS_IN edge: reference counter and its stamp on the selected base; whether its loss was raised -/
  ppsIn : Option (Nat × Nat) := none
  ppsInLost : Bool := false
  ppsInOffset : Int := 0
  clk10 : Bool := false
  /-- the last transit message sent by the transparent clock: its port and corrected correctionField (R77) -/
  tcOut : Option (Nat × Int) := none
  /-- second boundary at which PPS_OUT last rose -/
  ppsOutAt : Option Nat := none
  todLine : List Byte := []
  ptm : List Ptm := [{}, {}]
  /-- the last PTP message sent for each (port, base): kind and sequence number; and the sequence counters -/
  ptpSeq : List (Nat × Nat) := []
  /-- driving base, selected base (R102) -/
  drv : Nat := 0
  sel : Nat := 0
  /-- millisecond count M of the last boundary (R98) -/
  m : Nat := 0
deriving DecidableEq, Repr

/-! ## Trailhead -/

/-- The kinds of work of R103. -/
inductive Work where
  | shadow | mix | audio | estimate | video | rtcp | stats | bulk | timer
deriving DecidableEq, Repr

/-- An item (R105 to R107): its flow, epoch, priority, kind, the millisecond count of its release tick, and whether it
passed its due point while in service (R112). The shadow application of cluster c (R413) is the item of the pseudo-flow
262,144 + c, which the flow table does not list (log entry 16). -/
structure Item where
  flow : Nat
  epoch : Nat
  prio : Nat
  work : Work
  tick : Nat
  late : Bool := false
deriving DecidableEq, Repr

/-- What a flow belongs to (R108). -/
inductive FlowOwner where
  | legControl (leg : Nat)
  | legAudio (leg : Nat)
  | legEncode (leg : Nat)
  | confMix (conf : Nat)
  | decode (job : Nat)
  | encode (job : Nat)
  | canvas (c : Nat)
deriving DecidableEq, Repr

/-- A drain marker (R116): the old cluster, the old epoch, the millisecond count of the move. -/
structure Marker where
  cluster : Nat
  epoch : Nat
  tick : Nat
deriving DecidableEq, Repr

/-- A flow (R106, R107, R111, R116): owner, declared core-cycles per tick, placement (first cluster of its cluster or
locked group), epoch, item in service, waiting items. `stopped`: no cluster holds it (R416); `taken`: the buddy of a failed cluster carries it (R415). -/
structure Flow where
  owner : FlowOwner
  cycles : Nat
  place : Nat
  epoch : Nat := 0
  serving : Option Item := none
  waiting : List Item := []
  marker : Option Marker := none
  stopped : Bool := false
  protect : Bool := false
  taken : Bool := false
deriving DecidableEq, Repr

/-- What a delay-list entry does when it falls due (R109). -/
inductive Timer where
  | rtcp (leg : Nat)
  | nack (leg track enc : Nat)
  | consent (leg : Nat)
  | fallbackEnd (leg : Nat)
  | keyFree (leg : Nat)
  | other (flow : Nat)
deriving DecidableEq, Repr

/-- A delay-list entry: due tick and what it does. -/
structure DelayEntry where
  due : Nat
  what : Timer
deriving DecidableEq, Repr

/-- A cluster (R114 to R120, R296, R297, R413 to R417, R468 to R471): service, locked group, placement statistics,
operating point, shadow application. -/
structure Cluster where
  inService : Bool := false
  group : Option (Nat × Nat) := none
  overRuns : Nat := 0
  overPasses : Nat := 0
  overLoaded : Bool := false
  used : Nat := 0
  busy : List Nat := []
  ovSince : Nat := 0
  ovFlow : Nat := 0
  ovEv : Option Nat := none
  clkMin : Nat := 2000
  clkMinEv : Nat := 2000
  tempMax : Int := 0
  /-- the long operation that drains the cluster: function and handle (R120, R431, R452) -/
  drain : Option (Nat × Nat) := none
  reload : Bool := false
  /-- shadow logs of its buddy not yet applied: the ticks they belong to (R413) -/
  pendingLogs : List Nat := []
  /-- the millisecond count of a takeover while the extra placement pass is due (R415) -/
  extraAt : Option Nat := none
deriving DecidableEq, Repr

/-- A cluster's operating point and loops (R296, R468 to R473). -/
structure Rail where
  mv : Nat := 750
  mhz : Nat := 2000
  vCeil : Nat := 2200
  tCeil : Nat := 2200
  boost : Bool := false
  /-- a boost begins at the next boundary (R470) -/
  boostDue : Bool := false
  split : Bool := false
  splitTick : Nat := 0
  dmodeN : Nat := 0
  dmodeEv : Option Nat := none
  /-- millisecond count since which the margin at 0.68 V has been above 8 %, and the voltage at most 0.80 V (R469) -/
  lowSince : Option Nat := none
  vLowSince : Option Nat := none
  droop : Bool := false
  /-- millisecond count of the last change of the thermal ceiling (R473) -/
  tAt : Option Nat := none
deriving DecidableEq, Repr

/-- Trailhead (R98 to R121, R427): flows, ready lists (priority 0 first), delay lists, the cores' running items. -/
structure Trail where
  flows : List (Nat × Flow) := []
  ready : List (List Item) := List.replicate 8 []
  delays : List (List DelayEntry) := List.replicate 4 []
  /-- timers held for no task that found their list full (R109) -/
  lost : List DelayEntry := []
  /-- millisecond count of the last placement pass (R114) -/
  lastPass : Option Nat := none
  cores : List (Nat × Item) := []
  copies : List Bool := [false, false]
  active : Nat := 0
deriving DecidableEq, Repr

/-! ## Egress and gates -/

/-- A group node (R336 to R338), tokens in 1/256 byte; reset shared, CLASS 0, WEIGHT 1, RATE, DEPTH, RESET_TO 0. -/
structure Node where
  cls : Nat := 0
  weight : Nat := 1
  rate : Nat := 0
  depth : Nat := 0
  resetTo : Bool := false
  tenant : Nat := 0xFFF
  tokens : Int := 0
  rem : Nat := 0
  pend : Option (Nat × Nat) := none
deriving DecidableEq, Repr

/-- A group's tier 1 tag on one port (R336), and tier 0's virtual time within it (R334). -/
structure GTag where
  v0 : Nat := 0
  f : Nat := 0
  st : Nat := 0
  tagged : Bool := false
deriving DecidableEq, Repr

/-- A frame in a MAC transmit queue (R331): frame bytes, its packet if a leg's, whether its last byte is in the queue, and
the TB0 value at which it was first held at the head (R343, R344); `since` is the reference counter at its entry (R341). -/
structure TxItem where
  len : Nat
  since : Nat := 0
  pkt : Option OutPkt := none
  whole : Bool := true
  heldAt : Option Nat := none
  /-- module's own frames: 0 PTP, 1 ARP or ND answer, 2 address claim, 3 slow path -/
  own : Option (Nat × Nat) := none
deriving DecidableEq, Repr

/-- A gate list (R342, R345): cycle in ns, start in 2^-16 ns of TB0, entries (mask, interval). -/
structure Gates where
  cycle : Nat
  start : Nat
  late : Bool
  entries : List (Nat × Nat)
deriving DecidableEq, Repr

/-- PORT.CONFIG settings (R363); every port resets to MODE 0. -/
structure PortCfg where
  mode : Nat := 0
  errDeliver : Bool := false
  lt : Bool := false
  hostPf : Nat := 0
  slowClass : Nat := 0
  mac : Nat := 0
deriving DecidableEq, Repr

/-- A port's counters (R364). -/
structure PortCnt where
  linkDowns : Nat := 0
  fecCorr : Nat := 0
  fecUncorr : Nat := 0
  fcs : Nat := 0
  runt : Nat := 0
  oversize : Nat := 0
  code : Nat := 0
  macCtrl : Nat := 0
  txLinkDown : Nat := 0
deriving DecidableEq, Repr

/-- A line port (R352 to R366) with its transmit queues (R331), gate list and tier 1 virtual times by class (R336). -/
structure Port where
  cfg : PortCfg := {}
  /-- OVERHEAD (R328) -/
  overhead : Int := 24
  link : Bool := false
  locked : Nat := 0
  released : Bool := false
  /-- the cause that EV_PORT_LINK gives when the link next comes up (R386) -/
  upCause : Nat := 0
  /-- 0 none, 1 release running, 2 restore running -/
  op : Nat := 0
  cnt : PortCnt := {}
  tq : List (List TxItem) := List.replicate 8 []
  /-- slow-path frames without a leg that wait for TQ`SLOW_CLASS` (R361) -/
  slowQ : List TxItem := []
  v1 : List (Nat × Nat) := []
  tags : List (Nat × GTag) := []
  gates : Option Gates := none
  gatePend : Option Gates := none
  gateIdx : Nat := 0
  /-- the gates hold their states until this restart (R346) -/
  gateHold : Option Nat := none
  /-- the frame on the wire: its item and whether it was ended with an inverted FCS -/
  wire : Option TxItem := none
  aborted : Nat := 0
  sent : Nat := 0
  fwPending : Bool := false
deriving DecidableEq, Repr

/-! ## Cascade -/

/-- A VC queue entry of a link group: cells it takes and its content (R372). -/
inductive CascMsg where
  | media (pkt : OutPkt)
  | shadow (m : ShadowMsg)
  | control (typ : Nat) (r : Reserve) (status : Nat)
deriving DecidableEq, Repr

/-- A message in a channel's transmit queue: its cells, how many of them have been sent, and the millisecond count of its
enqueueing. -/
structure VcMsg where
  msg : CascMsg
  cells : Nat
  sent : Nat := 0
  since : Nat := 0
deriving DecidableEq, Repr

/-- A VC0 cell that waits (R368, R373): OP of a LINK_CTL, or 8 for a heartbeat, with its MASK, FORCE, AT_SEQ and
RETRY_SEQ. -/
structure LinkCtl where
  op : Nat
  mask : Nat := 0
  force : Bool := false
  atSeq : Nat := 0
  retrySeq : Nat := 0
deriving DecidableEq, Repr

/-- A link group's cell layer (R368 to R371). -/
structure CellLayer where
  nextSeq : Nat := 0
  expSeq : Nat := 0
  ackSeq : Nat := 0
  /-- cells kept for replay: (seq, vc) -/
  kept : List (Nat × Nat) := []
  replay : List (Nat × Nat) := []
  cr1 : Nat := 0
  cr2 : Nat := 0
  cr3 : Nat := 0
  freed1 : Nat := 0
  freed2 : Nat := 0
  freed3 : Nat := 0
  /-- cells of a message being received, by channel -/
  part1 : Nat := 0
  part2 : Nat := 0
  part3 : Nat := 0
  vc0 : List LinkCtl := []
  vc1 : List VcMsg := []
  vc2 : List VcMsg := []
  vc3 : List VcMsg := []
  /-- the credits of the peer's HELLO, to which a re-initialised layer returns -/
  hello : List Nat := []
  /-- the last cell sent -/
  lastTx : Option Cell := none
  retryDue : Bool := false
deriving DecidableEq, Repr

/-- A Rinzeku link group (R367 to R383). States: 0 OFF, 1 TRAINING, 2 HELLO, 3 UP, 4 DOWN. -/
structure LinkGroup where
  st : Nat := 0
  peer : Nat := 0
  shed : Bool := false
  good : Nat := 0xF
  active : Nat := 0
  cells : CellLayer := {}
  hbMissed : Nat := 0
  hbTick : Nat := 0
  hbSeen : Bool := false
  hbRun : Nat := 0
  replays : Nat := 0
  delays : List Int := []
  sheds : Nat := 0
  wakes : Nat := 0
  /-- cells sent in the window of 100 ticks, and in the present tick on VC0, VC2 and VC3; ticks in the window -/
  winCells : Nat := 0
  winTicks : Nat := 0
  tickCells : Nat := 0
  ownClosed : Bool := false
  /-- a shed proposed by this end (mask), a wake running (mask), and the mask in force from a sequence number -/
  shedOut : Option Nat := none
  wakeOut : Option Nat := none
  next : Option (Nat × Nat) := none
  peerNext : Option (Nat × Nat) := none
  /-- a wake that follows the shed now completing (R381) -/
  wakeAfter : Bool := false
  peerShadow : Nat := 0
  mismatch : Bool := false
  /-- the group is being brought up again after DOWN (R376) -/
  again : Bool := false
  /-- SerDes firmware not yet loaded (R451), and the stage of its loading: 1 lanes 2 and 3, 2 waking, 3 lanes 0 and 1 -/
  fwPending : Bool := false
  fwStage : Nat := 0
deriving DecidableEq, Repr

/-- A federation peer (R384). -/
structure Peer where
  group : Nat
  ipv6 : Bool
  media : Bool
  rxVlanEn : Bool
  rxPort : Nat
  rxVlan : Nat
  addr : Nat
deriving DecidableEq, Repr

/-- Federation identity, peers and link groups (R367 to R386). -/
structure Cascade where
  fedId : Nat := 0
  self : Option Nat := none
  peers : List (Nat × Peer) := []
  groups : List (Nat × LinkGroup) := []
deriving DecidableEq, Repr

/-! ## Memory controller -/

/-- A region (R388, R389), with the migration in progress: new order, DUP and size, and the new local base. -/
structure Region where
  order : Nat
  dup : Bool
  size : Nat
  base : Nat
  used : Nat := 0
  mig : Option (Nat × Bool × Nat × Nat) := none
deriving DecidableEq, Repr

/-- A pseudo-channel (R394 to R404): error counts, training record, activations by (bank, row), throttles (mid, bank),
retraining work. -/
structure PChan where
  ce : Nat := 0
  ue : Nat := 0
  loaded : Bool := false
  trainTemp : Int := 0
  trainTick : Nat := 0
  margin : Nat := 100
  lane : Nat := 0
  retrains : Nat := 0
  needRetrain : Bool := false
  needVerify : Bool := false
  acts : List (Nat × Nat) := []
  midActs : List (Nat × Nat) := []
  throttled : List (Nat × Nat) := []
  openRow : List (Nat × Nat) := []
  rhN : Nat := 0
  rhEv : Option Nat := none
  lastStall : Option Nat := none
deriving DecidableEq, Repr

/-- An entry of the HBM error log (R399). -/
structure HbmLog where
  kind : Nat
  pc : Nat
  sid : Nat
  bg : Nat
  bank : Nat
  row : Nat
  wordIx : Nat
  symbol : Nat
  mid : Nat
  region : Nat
  tick : Nat
  off : Nat
deriving DecidableEq, Repr

/-- The memory controller (R387 to R408). -/
structure Hbm where
  regions : List Region := []
  pcs : List (Nat × PChan) := []
  ceLog : Bool := false
  head : Nat := 0
  tail : Nat := 0
  lost : Nat := 0
  log : List (Nat × HbmLog) := []
  /-- words poisoned by an uncorrectable error met in a migration (R406): region, offset -/
  poison : List (Nat × Nat) := []
  /-- what the last read returned: its bytes, or an error response -/
  last : Option (List Byte) := none
  /-- real-time ports that have raised panic (R393) -/
  panics : List Nat := []
deriving DecidableEq, Repr

/-! ## Protection -/

/-- A reservation held for a peer (R420): peer, origin leg, legs, mixed, decode, cycles. -/
structure Reservation where
  peer : Nat
  leg : Nat
  legs : Nat
  mixed : Nat
  decode : Nat
  cycles : Nat
deriving DecidableEq, Repr

/-- The shadow of a peer held for takeover (R421). -/
structure PeerShadow where
  seq : Nat := 0
  baseTick : Nat := 0
  valid : Bool := false
  legs : List ShadowLeg := []
deriving DecidableEq, Repr

/-- Partner protection (R419 to R425, R433). -/
structure Prot where
  en : Bool := false
  partner : Nat := 0
  hostPf : Nat := 0
  portMap : List (Nat × Nat) := []
  poolLegs : Nat := 0
  poolMixed : Nat := 0
  poolDecode : Nat := 0
  poolCycles : Nat := 0
  reservations : List Reservation := []
  shadows : List (Nat × PeerShadow) := []
  /-- own shadow messages: sequence, messages since the last full one, next one is full, (seq, base tick) unapplied -/
  seq : Nat := 0
  sinceFull : Nat := 0
  fullNext : Bool := true
  sentLog : List (Nat × Nat) := []
  lagging : Bool := false
  appliedBase : Option Nat := none
  /-- the legs as the last message carried them -/
  lastSent : List ShadowLeg := []
  /-- taken-over legs: origin module, leg, generation, new leg, generation, conference (R433) -/
  map : List (List Nat) := []
  halves : List Bool := [false, false]
  composers : List Bool := [false, false, false, false]
  shedding : Bool := false
deriving DecidableEq, Repr

/-! ## Update, calibration, settings -/

/-- An update session (R438, R439): owner, length, 4 KiB units received. -/
structure UpdSession where
  owner : Nat
  len : Nat
  units : List Nat := []
deriving DecidableEq, Repr

/-- Live update (R436 to R450, R456). Phases: 0 idle, 1 receiving, 2 committing, 3 trial, 4 fallback, 5 reverting. -/
structure Upd where
  mode : Nat := 0
  window : Nat := 10
  tenants : List (Nat × Nat) := []
  phase : Nat := 0
  session : Option UpdSession := none
  /-- FWREV of the active pair's image, and of the image held for fallback or revert: 0 none -/
  fwActive : Nat := 0
  fwOther : Nat := 0
  confirmed : Option Nat := none
  svnFused : Nat := 0
  svnImage : Nat := 0
  /-- millisecond count at which the trial's window ends -/
  trialEnd : Nat := 0
  /-- clusters, or first clusters of groups, still to be reloaded (R449, R450) -/
  reloading : List Nat := []
  /-- SET_VER of the settings in force, and of the image held for fallback -/
  setVer : Nat := 0
  otherVer : Nat := 0
  /-- the settings copy kept for fallback: VF_TENANT table, UPDATE_MODE, CONFIRM_WINDOW -/
  oldSettings : Option (List (Nat × Nat) × Nat × Nat) := none
  /-- the flash area that boots -/
  bootArea : Nat := 0
  /-- installed components: kind and version; those of the image held for fallback -/
  comps : List (Nat × Nat) := []
  otherComps : List (Nat × Nat) := []
deriving DecidableEq, Repr

/-! ## Power, pins, monitors -/

/-- The outward condition of the module (R489). -/
inductive Cond where
  | unpowered | starting | serving | stopped
deriving DecidableEq, Repr

/-- Power and telemetry (R458 to R476). Temperatures are in 1/16 °C. -/
structure Power where
  cond : Cond := .unpowered
  pdOn : List Nat := []
  pdFault : List Nat := []
  tlm : Telemetry := ⟨0, 0, 0, 0⟩
  tlmLost : Bool := false
  ac : Bool := false
  /-- derating applications, latest first, and the millisecond count of the last change (R463) -/
  applied : List Nat := []
  capAt : Option Nat := none
  supplyEv : Option Nat := none
  temps : List (Nat × Int) := []
  cmpHalf : List Nat := []
  hbmFast : List Nat := []
  /-- OPERATION of the hot-swap controller is off (R479) -/
  hotSwapOff : Bool := false
  rails : List (Nat × Rail) := []
deriving DecidableEq, Repr

/-- The pins of R483 that the spec drives or reads: PERST asserted, MOD_READY, FAULT_N and THERMTRIP_N asserted, PCIe
links up, PPS_OUT and CLK10M_OUT running. -/
structure Pins where
  perst0 : Bool := false
  perst1 : Bool := false
  modReady : Bool := false
  fault : Bool := false
  thermTrip : Bool := false
  pcie : List Bool := [false, false]
  pciePend : List Bool := [false, false]
  ppsOut : Bool := false
  /-- SMBus read pointer (R484) and the last answer: none is no acknowledgement -/
  smbPtr : Nat := 0
  smbAns : Option (List Byte) := none
deriving DecidableEq, Repr

/-- An event counter (R498, R499). -/
structure Counter where
  owner : Nat
  sel : Nat
  qen : Nat
  clMask : Nat
  tenant : Nat
  object : Nat
  portq : Nat
  value : Nat := 0
deriving DecidableEq, Repr

/-- A sample record (R505). -/
structure SampleRec where
  queue : Nat
  kind : Nat
  tick : Nat
  items : Nat
  bytes : Nat
  delayUs : Nat
  tokens : Int
deriving DecidableEq, Repr

/-- A sampler (R504, R505) and its ring: `records` is the set written last. -/
structure Sampler where
  kind : Nat
  n : Nat
  first : Nat
  count : Nat
  ports : Nat
  size : Nat
  wr : Nat := 64
  lost : Nat := 0
  sets : Nat := 0
  running : Bool := true
  /-- millisecond count of the last boundary sampled -/
  last : Option Nat := none
  records : List SampleRec := []
deriving DecidableEq, Repr

/-- Monitors: counters, samplers, and the leg queue error registers (R145 to R147). -/
structure Mon where
  counters : List (Nat × Counter) := []
  samplers : List (Nat × Sampler) := []
  compat : Bool := false
  lqErrLeg : Nat := 0
  lqErrCount : Nat := 0
  lqErrValid : Bool := false
  lqbCe : List (Nat × Nat) := []
  lqbUe : List (Nat × Nat) := []
deriving DecidableEq, Repr

end Sys2Proof.Machine
end

