-- ==== Sys2Proof/Machine/State.lean ====
section
/-! DEFINITION. The machine's state, the reasons a command stops, and the state after reset. -/

namespace Sys2Proof.Machine

/-- Why a command stops with a fault. -/
inductive Fault where
  /-- The command names a unit that the spec does not give the module (a channel above 287, a core above 191, ...);
  raised by `answer` for an operand that `Instr.wf` refuses. Safe: the hardware has no such unit to act on. -/
  | noSuchUnit
deriving DecidableEq, Repr

/-- Why a command is refused without a meaning. -/
inductive Refusal where
  /-- An arm of `exec` that has no meaning yet. Safe: nothing is claimed of it. No arm of this model raises it. -/
  | notModelled (mnemonic : String)
deriving DecidableEq, Repr

/-- The whole module (R10 to R510) and the queue of the commands that wait. -/
structure State where
  /-- commands waiting, first in, first out -/
  pending : List Instr := []
  /-- the model's own counter of free values drawn (log entry 2); not the spec's -/
  fresh : Nat := 0
  /-- the value that the last register read returned to its reader: the model's window on reads, not the spec's state
  (log entry 5) -/
  rdata : Nat := 0
  /-- mailbox channels (R26) by number, unlisted at reset value -/
  chans : List (Nat × Chan) := []
  /-- binding table (R32) and BIND_LOCK -/
  binds : List (Nat × Bind) := []
  bindLock : Bool := false
  /-- host functions 0 to 127 -/
  fns : List (Nat × Fn) := []
  ctl : Control := {}
  time : Time := {}
  trail : Trail := {}
  clusters : List (Nat × Cluster) := []
  /-- conferences and legs in use by ID (R122) -/
  confs : List (Nat × Conf) := []
  legs : List (Nat × Leg) := []
  /-- the last generation of each leg ID ever allocated (R122) -/
  gens : List (Nat × Nat) := []
  /-- destroyed legs whose ID is not yet free: tick of the response (R137), and their key contexts not yet
  freed (R324): tick, tenant and how many -/
  dying : List (Nat × Nat) := []
  keyDying : List (Nat × (Nat × Nat × Nat)) := []
  /-- the order counter of stored Hamper packets (R156) -/
  hamperOrder : Nat := 0
  decJobs : List (Nat × DecJob) := []
  encJobs : List (Nat × EncJob) := []
  /-- output tracks of encode jobs (R239) -/
  jobTracks : List (Nat × Track) := []
  engines : List (Nat × Engine) := []
  canvases : List (Nat × Canvas) := []
  /-- the last surface that a snapshot copied to host memory (R275): the model's window on the copy, not the spec's state -/
  hostCopy : List Byte := []
  stages : List (Nat × Stage) := []
  stageAtts : List StageAtt := []
  /-- attachments that a detach or a replacement is fading out (R208) -/
  stageGone : List StageAtt := []
  cores : List (Nat × Core) := []
  pages : List (Nat × Page) := []
  ciphers : List (Nat × CipherEng) := []
  /-- packets waiting for decryption, for a forwarding pipe, and for encryption -/
  inQ : List InPkt := []
  fwdQ : List FwdPkt := []
  outQ : List OutPkt := []
  nodes : List (Nat × Node) := []
  ports : List (Nat × Port) := []
  casc : Cascade := {}
  hbm : Hbm := {}
  /-- HBM contents: (pseudo-channel × 2^31 + local address, byte), canonical (Memory) -/
  mem : List Host.Cell := []
  prot : Prot := {}
  upd : Upd := {}
  power : Power := {}
  pins : Pins := {}
  mon : Mon := {}
deriving DecidableEq, Repr

/-- The region map at module reset (R388): order (0 to 3 for MAP_A to MAP_D), DUP, size in GiB, and the local base in
bytes, the regions lying one after another from local address 0 (log entry 14). -/
def Hbm.resetRegions : List Region :=
  [⟨3, true, 4, 0, 0, none⟩, ⟨0, false, 48, 64 * 2 ^ 20, 0, none⟩, ⟨2, false, 56, 448 * 2 ^ 20, 0, none⟩,
   ⟨2, false, 8, 896 * 2 ^ 20, 0, none⟩, ⟨0, false, 4, 960 * 2 ^ 20, 0, none⟩, ⟨0, false, 8, 992 * 2 ^ 20, 0, none⟩,
   ⟨1, false, 4, 1056 * 2 ^ 20, 0, none⟩, ⟨0, false, 0, 1088 * 2 ^ 20, 0, none⟩]

/-- The machine right after module reset, before POWER_ON has run its boot firmware (log entry 6): every register at
its Reset column, no leg, conference or job, no command waiting, the memory map of R388 and memory with nothing listed. -/
def State.reset : State := { hbm := { regions := Hbm.resetRegions } }

end Sys2Proof.Machine
end

