-- ==== Sys2Proof/Machine/Table.lean ====
section
/-! DEFINITION. Tables by number: lists of (key, value) with keys rising, in which an unlisted key holds nothing; and
memory, the same form over bytes in which an unlisted address reads 0. -/

namespace Sys2Proof.Machine

/-- The entry of key `k`. -/
def tget {α : Type} : List (Nat × α) → Nat → Option α
  | [], _ => none
  | (n, v) :: t, k => if n = k then some v else tget t k

/-- The table with `v` at key `k`. -/
def tset {α : Type} : List (Nat × α) → Nat → α → List (Nat × α)
  | [], k, v => [(k, v)]
  | (n, w) :: t, k, v =>
    if n = k then (k, v) :: t else if k < n then (k, v) :: (n, w) :: t else (n, w) :: tset t k v

/-- The table without key `k`. -/
def tdel {α : Type} : List (Nat × α) → Nat → List (Nat × α)
  | [], _ => []
  | (n, w) :: t, k => if n = k then tdel t k else (n, w) :: tdel t k

/-- The entry of key `k`, or `d` where the table lists none. -/
def tgetD {α : Type} (t : List (Nat × α)) (k : Nat) (d : α) : α := (tget t k).getD d

/-- Change the entry of key `k`, taking `d` where the table lists none. -/
def tmod {α : Type} (t : List (Nat × α)) (k : Nat) (d : α) (f : α → α) : List (Nat × α) := tset t k (f (tgetD t k d))

/-- Change the entry of key `k` if there is one. -/
def tupd {α : Type} (t : List (Nat × α)) (k : Nat) (f : α → α) : List (Nat × α) :=
  match tget t k with
  | some v => tset t k (f v)
  | none => t

/-- The lowest number from `n` on, among `fuel` of them, that the table does not list. -/
def firstFree {α : Type} (t : List (Nat × α)) (n : Nat) : Nat → Option Nat
  | 0 => none
  | fuel + 1 => if (tget t n).isNone then some n else firstFree t (n + 1) fuel

/-- Change every entry of a table. -/
def tmap {α : Type} (f : α → α) (t : List (Nat × α)) : List (Nat × α) := t.map fun p => (p.1, f p.2)

/-- Is the key listed? -/
def thas {α : Type} (t : List (Nat × α)) (k : Nat) : Bool := (tget t k).isSome

/-- Element `i` of a list replaced, the list unchanged beyond its end. -/
def lset {α : Type} (l : List α) (i : Nat) (v : α) : List α := l.set i v

/-- Element `i` of a list changed. -/
def lmod {α : Type} (l : List α) (i : Nat) (d : α) (f : α → α) : List α := l.set i (f (l.getD i d))

/-- An element put into a list in order, after those that it does not go before. -/
def insertBy {α : Type} (before : α → α → Bool) (a : α) : List α → List α
  | [] => [a]
  | b :: bs => if before a b then a :: b :: bs else b :: insertBy before a bs

/-- A list in order, equals staying as they stood. -/
def sortBy {α : Type} (before : α → α → Bool) (l : List α) : List α := l.foldl (fun r a => insertBy before a r) []

/-! ## Memory -/

/-- What an unlisted address of HBM or data memory reads as (log entry 8). -/
def memDefault : BitVec 8 := 0

/-- The byte at an address. -/
def memRead (m : List Host.Cell) (a : Nat) : BitVec 8 := (tget m a).getD memDefault

/-- The memory with a byte at an address; writing what an unlisted address reads as removes the cell. -/
def memWrite (m : List Host.Cell) (a : Nat) (b : BitVec 8) : List Host.Cell :=
  if b = memDefault then tdel m a else tset m a b

/-- Bytes written from an address upwards. -/
def memWriteList (m : List Host.Cell) (a : Nat) : List (BitVec 8) → List Host.Cell
  | [] => m
  | b :: bs => memWriteList (memWrite m a b) (a + 1) bs

/-- `n` bytes read from an address upwards. -/
def memReadList (m : List Host.Cell) (a : Nat) : Nat → List (BitVec 8)
  | 0 => []
  | n + 1 => memRead m a :: memReadList m (a + 1) n

/-- The canonical form of memory: addresses strictly rise from `lo` on, and no cell holds the default. -/
def memWfFrom : Nat → List Host.Cell → Bool
  | _, [] => true
  | lo, (a, b) :: t => decide (lo ≤ a) && decide (b ≠ memDefault) && memWfFrom (a + 1) t

/-- The canonical form of memory. -/
def Memory.wf (m : List Host.Cell) : Bool := memWfFrom 0 m

/-- The little-endian number that bytes spell. -/
def leNat : List (BitVec 8) → Nat
  | [] => 0
  | b :: bs => b.toNat + 256 * leNat bs

/-- The `n` little-endian bytes of a number. -/
def leBytes (v : Nat) : Nat → List (BitVec 8)
  | 0 => []
  | n + 1 => BitVec.ofNat 8 v :: leBytes (v / 256) n

end Sys2Proof.Machine
end

