-- ==== Sys2Proof/WellFormed.lean ====
section
/-! DEFINITION. Which commands are well formed: every unit a command names is one that the spec gives the module. -/

namespace Sys2Proof

/-- The master identities of R24. -/
def midOk (mid : Nat) : Bool :=
  decide (mid < 0xB4) || mid == 0xC0 || mid == 0xC1 || mid == 0xC8

/-- The request channels of R23: 2f of host function f, and 256, 258, 260, 262 of the management controller. -/
def reqOk (ch : Nat) : Bool := decide (ch < 264) && ch % 2 == 0

/-- A register access from outside comes from a host function (BAR0, BAR2: R490) or from a master (Limlum space: R32). -/
def RegAddr.wf : RegAddr → Bool
  | .bar0 fn _ => decide (fn < 128)
  | .bar2 fn _ => decide (fn < 128)
  | .limlum mid _ => midOk mid

/-- A register that the cores have (R281). -/
def DReg.wf : DReg → Bool
  | .d n => decide (n < 32)
  | .a n => decide (n < 8)
  | .m n => decide (n < 8)
  | .base n => decide (n < 8)
  | .len n => decide (n < 8)
  | .lcount n => decide (n < 2)
  | .lstart n => decide (n < 2)
  | .lend n => decide (n < 2)
  | _ => true

/-- A signed 10-bit immediate (R292). -/
def AddrMode.wf : AddrMode → Bool
  | .offset i => decide (-512 ≤ i) && decide (i < 512)
  | .postInc i => decide (-512 ≤ i) && decide (i < 512)
  | _ => true

/-- An access of 8, 16, 32 or 64 bits (R288). -/
def accessOk (size : Nat) : Bool := size == 1 || size == 2 || size == 4 || size == 8

/-- Slot 0, or slot 1, which has no stores (R288). -/
def LsInstr.wf (stores : Bool) : LsInstr → Bool
  | .nop => true
  | .load rd an mode size => decide (rd < 32) && decide (an < 8) && mode.wf && accessOk size
  | .store rs an mode size => stores && decide (rs < 32) && decide (an < 8) && mode.wf && accessOk size
  | .update an mode size => decide (an < 8) && mode.wf && accessOk size

/-- Slot 2 (R284, R285): two accumulators are two different ones. -/
def MacInstr.wf : MacInstr → Bool
  | .nop => true
  | .mac32 x y p q => decide (x < 32) && decide (y < 32) && decide (p < 8) && decide (q < 8) && p != q
  | .mac16 x y p q => decide (x < 32) && decide (y < 32) && decide (p < 8) && decide (q < 8) && p != q
  | .add32 x ac => decide (x < 32) && decide (ac < 8)
  | .extract ac _ rd lane bits shift =>
    decide (ac < 8) && decide (rd < 32) && (bits == 16 || bits == 32) && decide (lane < 64 / bits) && decide (shift < 64)
  | .clear ac => decide (ac < 8)

/-- Lanes of 16 or 32 bits, or the whole register (R283). -/
def laneOk (bits : Nat) : Bool := bits == 16 || bits == 32 || bits == 64

/-- A bundle address (R281, R288). -/
def bundleAddr (a : Nat) : Bool := decide (a < 65536) && a % 16 == 0

/-- Slot 3 (R288, R298). -/
def AluInstr.wf : AluInstr → Bool
  | .lane _ bits _ rd rx ry => laneOk bits && decide (rd < 32) && decide (rx < 32) && decide (ry < 32)
  | .roundShift bits rd rx s => laneOk bits && decide (rd < 32) && decide (rx < 32) && decide (s < 64)
  | .fracMul bits rd rx ry => (bits == 16 || bits == 32) && decide (rd < 32) && decide (rx < 32) && decide (ry < 32)
  | .move dst src => dst.wf && src.wf
  | .moveImm dst _ => dst.wf
  | .branch t => bundleAddr t
  | .branchZero rx t => decide (rx < 32) && bundleAddr t
  | .call t => bundleAddr t
  | .loop level last _ => decide (level < 2) && bundleAddr last
  | _ => true

/-- A bundle that the cores have (R288). -/
def Bundle.wf (b : Bundle) : Bool := b.s0.wf true && b.s1.wf false && b.s2.wf && b.s3.wf

/-- The units that a command names exist (R10, R22, R24, R122, R152, R157, R226, R257, R312, R388, R472, ...). -/
def Instr.wf : Instr → Bool
  | .mboxMsgWrite mid ch i _ => midOk mid && decide (ch < 288) && decide (i < 16)
  | .go mid ch _ => midOk mid && decide (ch < 288)
  | .take mid ch => midOk mid && decide (ch < 288)
  | .heldTimeout ch => decide (264 ≤ ch) && decide (ch < 288)
  | .bindLock mid _ => midOk mid
  | .controlTakeMessage => true
  | .evrCtlEnable fn _ => decide (fn < 128)
  | .evrHeadWrite fn _ => decide (fn < 128)
  | .heldEventPost fn => decide (fn < 128)
  | .holdoffExpire fn => decide (fn < 128)
  | .rcRegisterRead fn _ => decide (fn < 128)
  | .registerWrite addr _ => addr.wf
  | .tbSnapCapture fn _ => decide (fn < 128)
  | .tickNowRead fn => decide (fn < 128)
  | .ptmDialogue port _ => decide (port < 2)
  | .lqFlush fn _ => decide (fn < 128)
  | .lqFlushComplete fn => decide (fn < 128)
  | .prCtlEnable fn ring _ => decide (fn < 128) && decide (ring < 3)
  | .prHeadWrite fn ring _ => decide (fn < 128) && decide (ring < 3)
  | .sptxTailWrite fn _ => decide (fn < 128)
  | .sptxSlotSend fn _ => decide (fn < 128)
  | .cntLoRead fn i => decide (fn < 128) && decide (i < 256)
  | .smbWrite _ _ => true
  | .smbPointer _ _ => true
  | .smbRead _ => true
  | .sysConfigSet ch => reqOk ch
  | .sysConfigGet ch => reqOk ch
  | .sysHealth ch => reqOk ch
  | .sysResetUnit ch => reqOk ch
  | .unitResetComplete _ _ _ => true
  | .sysConfirm ch _ => reqOk ch
  | .tbConfig ch => reqOk ch
  | .tbArm ch => reqOk ch
  | .tbStatus ch => reqOk ch
  | .tickSource ch => reqOk ch
  | .tickSourceSwitch => true
  | .portConfig ch => reqOk ch
  | .portStatus ch => reqOk ch
  | .portRelease ch => reqOk ch
  | .portReleaseComplete port => decide (port < 16)
  | .portRestore ch => reqOk ch
  | .portRestoreComplete port _ => decide (port < 16)
  | .cascGroup ch => reqOk ch
  | .cascGroupEnableComplete g _ => decide (g < 16)
  | .cascPeer ch => reqOk ch
  | .confCreate ch => reqOk ch
  | .confModify ch => reqOk ch
  | .confDestroy ch => reqOk ch
  | .legCreate ch => reqOk ch
  | .legModify ch => reqOk ch
  | .legDestroy ch => reqOk ch
  | .legStats ch => reqOk ch
  | .legIdFree leg => decide (leg < 65536)
  | .keyInstall ch => reqOk ch
  | .keyRetire ch => reqOk ch
  | .keyPage ch => reqOk ch
  | .keyContextFree leg => decide (leg < 65536)
  | .fwdPolicy ch => reqOk ch
  | .fwdSubscribe ch => reqOk ch
  | .fwdPin ch => reqOk ch
  | .audRoute ch => reqOk ch
  | .audMixpolicy ch => reqOk ch
  | .audStage ch _ => reqOk ch
  | .audDetect ch => reqOk ch
  | .vidDecode ch => reqOk ch
  | .vidEncode ch _ => reqOk ch
  | .vidKeyreq ch => reqOk ch
  | .layCanvas ch _ => reqOk ch
  | .layLayer ch _ => reqOk ch
  | .layOrder ch => reqOk ch
  | .layLut ch _ => reqOk ch
  | .shpNode ch => reqOk ch
  | .shpPolice ch => reqOk ch
  | .gateList ch _ => reqOk ch
  | .memMap ch => reqOk ch
  | .migrationSwitch region => decide (region < 8)
  | .protClass ch => reqOk ch
  | .protPartner ch _ => reqOk ch
  | .calRequest ch => reqOk ch
  | .calStart _ _ => true
  | .calDone _ _ _ _ => true
  | .calStatus ch => reqOk ch
  | .updBegin ch => reqOk ch
  | .updBlock ch _ _ => reqOk ch
  | .updCommit ch => reqOk ch
  | .updCommitTakeover _ _ => true
  | .updRevert ch => reqOk ch
  | .updRevertComplete _ _ => true
  | .updStatus ch => reqOk ch
  | .confirmWindowExpire => true
  | .clusterReload cl _ => decide (cl < 48)
  | .monCounter ch => reqOk ch
  | .monSample ch _ => reqOk ch
  | .clLock ch => reqOk ch
  | .clLockComplete first => decide (first < 48)
  | .opAbort ch => reqOk ch
  | .functionLevelReset fn => decide (fn < 128)
  | .vfEnableClear port => decide (port < 2)
  | .controlTakeover => true
  | .powerOn _ _ => true
  | .powerRemoved => true
  | .inputVoltageExcursion _ => true
  | .pmbCtrlLow => true
  | .pmbusCommand _ _ _ => true
  | .telemetryRead _ => true
  | .telemetryLost => true
  | .perstAssert p => decide (p < 2)
  | .perstDeassert p => decide (p < 2)
  | .moduleReset => true
  | .moduleStop => true
  | .thermalTrip sensor _ => decide (sensor < 64)
  | .domainFault d => decide (d < 80)
  | .ppsInEdge => true
  | .ppsInLost => true
  | .todInLine _ _ => true
  | .clk10mInPresent => true
  | .clk10mInLost => true
  | .ppsOutEdge => true
  | .todOutLine => true
  | .ptpMessageTx tb port _ => decide (tb < 4) && decide (port < 16)
  | .ptpMasterLost tb => decide (tb < 4)
  | .ptpTcFrame inPort outPort _ _ _ => decide (inPort < 16) && decide (outPort < 16)
  | .tickBoundary => true
  | .delayEntryDue list => decide (list < 4)
  | .trailheadDispatch core => decide (core < 192)
  | .itemComplete core => decide (core < 192)
  | .duePointReached _ => true
  | .placementPass _ => true
  | .extraPlacementPass cl => decide (cl < 48)
  | .drainMarkerPass flow => decide (flow < 262144)
  | .frameRx port _ => decide (port < 16)
  | .srtpDecrypt _ => true
  | .cipherKat engine _ => decide (engine < 3072)
  | .forwardPacket err => err.all fun e => decide (e.leg < 65536)
  | .srtpEncrypt _ => true
  | .legShaperRefill leg => decide (leg < 65536)
  | .groupRefill g => decide (g < 4096)
  | .qtoFire leg => decide (leg < 65536)
  | .egressSelect port err => decide (port < 16) && err.all fun e => decide (e.leg < 65536)
  | .macTransmit port => decide (port < 16)
  | .gateOversize port q => decide (port < 16) && decide (q < 8)
  | .gateIntervalEnd port => decide (port < 16)
  | .gateListStart port => decide (port < 16)
  | .gateRestart port => decide (port < 16)
  | .linkUp port => decide (port < 16)
  | .linkDown port => decide (port < 16)
  | .consentTimeout leg => decide (leg < 65536)
  | .rateEstimate leg => decide (leg < 65536)
  | .layerRateMeasure leg track => decide (leg < 65536) && decide (track < 8)
  | .probeWindowEnd leg => decide (leg < 65536)
  | .upHoldExpire leg slot => decide (leg < 65536) && decide (slot < 64)
  | .spatialSwitchTimeout leg slot => decide (leg < 65536) && decide (slot < 64)
  | .fwdSwitchSlow leg slot => decide (leg < 65536) && decide (slot < 64)
  | .rtcpSend leg => decide (leg < 65536)
  | .transportFeedbackSend leg => decide (leg < 65536)
  | .nackSend leg track enc => decide (leg < 65536) && decide (track < 8) && decide (enc < 3)
  | .lossDeclared leg track enc _ => decide (leg < 65536) && decide (track < 8) && decide (enc < 3)
  | .keyRequestSend leg track enc => decide (leg < 65536) && decide (track < 8) && decide (enc < 3)
  | .rxFallbackEnd leg => decide (leg < 65536)
  | .audioDecode leg _ => decide (leg < 65536)
  | .jbReanchor leg => decide (leg < 65536)
  | .loudnessReset leg => decide (leg < 65536)
  | .mixRun conf => decide (conf < 16384)
  | .audioEncode leg _ => decide (leg < 65536)
  | .cascContribSend conf => decide (conf < 16384)
  | .dtmfDigitEnd leg _ => decide (leg < 65536)
  | .howlAnalysis leg _ => decide (leg < 65536)
  | .stageRun point _ pos _ _ => decide (point < 3) && decide (pos < 4)
  | .stageTimerExpire point _ pos _ => decide (point < 3) && decide (pos < 4)
  | .coreBundle core b => decide (core < 192) && b.wf
  | .coreInterrupt core _ handler => decide (core < 192) && bundleAddr handler
  | .dmodeSwitch cl _ => decide (cl < 48)
  | .decodeFrameSubmit job _ => decide (job < 3072)
  | .decodeFrameComplete job _ => decide (job < 3072)
  | .encodeFrameStart job enc _ => decide (job < 1536) && decide (enc < 3)
  | .encodeFrameComplete job enc _ _ => decide (job < 1536) && decide (enc < 3)
  | .canvasFrameStart c => decide (c < 192)
  | .composerBand cmp => decide (cmp < 4)
  | .layerSwitchTimeout c layer => decide (c < 192) && decide (layer < 64)
  | .cellRx g _ => decide (g < 16)
  | .cellTx g => decide (g < 16)
  | .retryRepeat g => decide (g < 16)
  | .hello g _ _ _ => decide (g < 16)
  | .helloAck g _ _ => decide (g < 16)
  | .helloSend g => decide (g < 16)
  | .retry g _ => decide (g < 16)
  | .shedReq g mask _ => decide (g < 16) && decide (mask < 16)
  | .shedAck g mask _ => decide (g < 16) && decide (mask < 16)
  | .wakeReq g mask => decide (g < 16) && decide (mask < 16)
  | .wakeAck g mask => decide (g < 16) && decide (mask < 16)
  | .widthCommit g mask _ => decide (g < 16) && decide (mask < 16)
  | .shedWindowClose g => decide (g < 16)
  | .laneFail g lane => decide (g < 16) && decide (lane < 4)
  | .laneReturn g lane => decide (g < 16) && decide (lane < 4)
  | .heartbeat g _ => decide (g < 16)
  | .heartbeatSend g => decide (g < 16)
  | .peerLost g _ => decide (g < 16)
  | .cascGroupRetry g => decide (g < 16)
  | .cascMediaRx g _ _ _ _ => decide (g < 16)
  | .shadowMessageSend => true
  | .shadow g _ => decide (g < 16)
  | .shadowLag => true
  | .reserve g _ => decide (g < 16)
  | .reserveAck g _ _ => decide (g < 16)
  | .reserveTimeout ch => reqOk ch
  | .release g _ => decide (g < 16)
  | .fullRequest g _ => decide (g < 16)
  | .claimRepeat leg => decide (leg < 65536)
  | .shadowApply cl => decide (cl < 48)
  | .clusterFail cl _ => decide (cl < 48)
  | .degradeUndo cl => decide (cl < 48)
  | .unprotectedReplace cl => decide (cl < 48)
  | .hubHalfFail h _ => decide (h < 2)
  | .trailheadFail _ => true
  | .composerFail c _ => decide (c < 4)
  | .canvasMove c => decide (c < 192)
  | .hbmRequest _ => true
  | .scrub pc _ _ => decide (pc < 128)
  | .marginAlarm pc _ lane => decide (pc < 128) && decide (lane < 4)
  | .loadedVerificationDue stack => decide (stack < 4)
  | .retrainStall pc _ => decide (pc < 128)
  | .sample mid _ => midOk mid
  | .powerCapStep _ => true
  | .powerCapUndo _ => true
  | .voltageLoopReport cl _ => decide (cl < 48)
  | .droop cl _ => decide (cl < 48)
  | .droopEnd cl => decide (cl < 48)
  | .thermalLoop sensor _ => decide (sensor < 64)
  | .laneEqualisationDone g => decide (g < 16)
  | .wakeLanesLocked g => decide (g < 16)
  | .refreshWindowEnd => true
  | .bmcResponseHoldEnd ch => decide (256 ≤ ch) && decide (ch < 264) && ch % 2 == 1
  | .standbyBootComplete => true
  | .smbAlertResponse => true

end Sys2Proof
end

