-- ==== Sys2Proof/Machine/Ops.lean ====
section
/-! DEFINITION. The named operations over the state that every family of commands shares: access by number, time,
counters (R498 to R501), vectors (R34), event rings (R60 to R64), Shafipo replies (R37, R46 to R56), memory. -/

namespace Sys2Proof.Machine

/-! ## Answering -/

/-- The outcome of a command whose effect is `t`: the next state where the command is well formed. -/
def answer (ok : Bool) (t : State) : Host.Outcome State Fault Refusal :=
  if ok then .next t else .fault .noSuchUnit

/-! ## Access by number -/

/-- The registers of host function `f`. -/
def State.fn (s : State) (f : Nat) : Fn := tgetD s.fns f {}
/-- Change the registers of host function `f`. -/
def State.modFn (s : State) (f : Nat) (g : Fn → Fn) : State := { s with fns := tset s.fns f (g (s.fn f)) }
/-- The registers of mailbox channel `c`. -/
def State.chan (s : State) (c : Nat) : Chan := tgetD s.chans c {}
/-- Change the registers of mailbox channel `c`. -/
def State.modChan (s : State) (c : Nat) (g : Chan → Chan) : State := { s with chans := tset s.chans c (g (s.chan c)) }
/-- The binding of channel `c` (R32). -/
def State.bind (s : State) (c : Nat) : Bind := tgetD s.binds c {}
/-- The leg with ID `n`, if in use. -/
def State.leg (s : State) (n : Nat) : Option Leg := tget s.legs n
/-- Put a leg at ID `n`. -/
def State.setLeg (s : State) (n : Nat) (l : Leg) : State := { s with legs := tset s.legs n l }
/-- Change the leg with ID `n`, if in use. -/
def State.modLeg (s : State) (n : Nat) (g : Leg → Leg) : State := { s with legs := tupd s.legs n g }
/-- The conference with ID `n`, if in use. -/
def State.conf (s : State) (n : Nat) : Option Conf := tget s.confs n
/-- Change the conference with ID `n`, if in use. -/
def State.modConf (s : State) (n : Nat) (g : Conf → Conf) : State := { s with confs := tupd s.confs n g }
/-- Line port `p`. -/
def State.port (s : State) (p : Nat) : Port := tgetD s.ports p {}
/-- Change line port `p`. -/
def State.modPort (s : State) (p : Nat) (g : Port → Port) : State := { s with ports := tset s.ports p (g (s.port p)) }
/-- Link group `g`. -/
def State.group (s : State) (g : Nat) : LinkGroup := tgetD s.casc.groups g {}
/-- Change link group `g`. -/
def State.modGroup (s : State) (g : Nat) (h : LinkGroup → LinkGroup) : State :=
  { s with casc := { s.casc with groups := tset s.casc.groups g (h (s.group g)) } }
/-- Cluster `c`. -/
def State.cluster (s : State) (c : Nat) : Cluster := tgetD s.clusters c {}
/-- Change cluster `c`. -/
def State.modCluster (s : State) (c : Nat) (g : Cluster → Cluster) : State :=
  { s with clusters := tset s.clusters c (g (s.cluster c)) }
/-- Time base `n`. -/
def State.base (s : State) (n : Nat) : Base := s.time.bases.getD n {}
/-- Change time base `n`. -/
def State.modBase (s : State) (n : Nat) (g : Base → Base) : State :=
  { s with time := { s.time with bases := lmod s.time.bases n {} g } }
/-- DSP core `n`. -/
def State.core (s : State) (n : Nat) : Core := tgetD s.cores n {}
/-- Change DSP core `n`. -/
def State.modCore (s : State) (n : Nat) (g : Core → Core) : State := { s with cores := tset s.cores n (g (s.core n)) }
/-- The group node `g` (R336). -/
def State.node (s : State) (g : Nat) : Node := tgetD s.nodes g {}
/-- Pseudo-channel `p` of the memory controller. -/
def State.pchan (s : State) (p : Nat) : PChan := tgetD s.hbm.pcs p {}
/-- Change pseudo-channel `p`. -/
def State.modPchan (s : State) (p : Nat) (g : PChan → PChan) : State :=
  { s with hbm := { s.hbm with pcs := tset s.hbm.pcs p (g (s.pchan p)) } }
/-- The operating point of cluster `c` (R475). -/
def State.rail (s : State) (c : Nat) : Rail := tgetD s.power.rails c {}
/-- Change the operating point of cluster `c`. -/
def State.modRail (s : State) (c : Nat) (g : Rail → Rail) : State :=
  { s with power := { s.power with rails := tset s.power.rails c (g (s.rail c)) } }
/-- The codec engine of cluster `c`. -/
def State.engine (s : State) (c : Nat) : Engine := tgetD s.engines c {}
/-- Change the codec engine of cluster `c`. -/
def State.modEngine (s : State) (c : Nat) (g : Engine → Engine) : State :=
  { s with engines := tset s.engines c (g (s.engine c)) }

/-- Apply an operation for each element of a list, first to last. -/
def forEach {α : Type} (l : List α) (s : State) (g : α → State → State) : State := l.foldl (fun s a => g a s) s

/-- Is the function a physical function (R23, R24)? -/
def isPF (f : Nat) : Bool := f == 0 || f == 64

/-- The tenant a host function is bound to by SYS.CONFIG.SET (R51). -/
def State.tenantOf (s : State) (f : Nat) : Option Nat := tget s.upd.tenants f

/-- May this issuer touch an object of the tenant (R51)? -/
def State.mayTouch (s : State) (issuer tenant : Nat) : Bool := isPF issuer || s.tenantOf issuer == some tenant

/-- The tenant of a leg: that of its conference. -/
def State.legTenant (s : State) (l : Leg) : Nat := ((s.conf l.cfg.conf).map (·.tenant)).getD 0xFFF

/-! ## Free values -/

/-- The next free value, below `bound` (log entry 2). -/
def State.draw (s : State) (bound : Nat) : Nat × State :=
  (Config.freeValue s.fresh % bound, { s with fresh := s.fresh + 1 })

/-! ## Time (R66, R98) -/

/-- Units of 2^-16 ns in one nanosecond, one microsecond, one millisecond, one second. -/
abbrev nsU : Nat := 65536
abbrev usU : Nat := 65536 * 1000
abbrev msU : Nat := 65536 * 1000000
abbrev secU : Nat := 65536 * 1000000000

/-- The current tick number (R98). -/
def State.tick (s : State) : Nat := s.time.m % 2 ^ 32

/-- The signed difference of two tick numbers (R100). -/
def tickDiff (a b : Nat) : Int :=
  let d : Nat := (a + 2 ^ 32 - b % 2 ^ 32) % 2 ^ 32
  if d < 2 ^ 31 then (d : Int) else (d : Int) - 2 ^ 32

/-- The base after `d` units of reference time at its rate (R66): the part finer than a unit is kept in `rem`. -/
def Base.advance (d : Nat) (b : Base) : Base :=
  let n : Int := (d : Int) * b.rate + b.rem
  { b with val := (b.val + (d : Int) + n / 1000000000000).toNat, rem := n % 1000000000000 }

/-- The module after `d` units of reference time. -/
def State.advance (d : Nat) (s : State) : State :=
  { s with time := { s.time with ref := s.time.ref + d, bases := s.time.bases.map (Base.advance d) } }

/-- On an empty queue the block idles: one nanosecond of Thermos time passes (log entry 7). -/
def idle (s : State) : State := s.advance nsU

/-- Whole microseconds of the reference counter. -/
def State.nowUs (s : State) : Nat := s.time.ref / usU

/-- Ticks passed since the tick numbered by millisecond count `m0`. -/
def State.ticksSince (s : State) (m0 : Nat) : Nat := s.time.m - m0

/-! ## Event counters (R498 to R501) -/

/-- The occurrence of a source: what its qualifiers may match. -/
structure Occ where
  cl : Option Nat := none
  obj : Option Nat := none
  tenant : Option Nat := none
  unit : Option Nat := none
  queue : Option Nat := none

/-- Counter sources (R500). -/
abbrev srcDroopStretch : Nat := 0x0101
abbrev srcPwrCapSkip : Nat := 0x0102
abbrev srcSmbDenied : Nat := 0x0103
abbrev srcPtpMgmtDiscard : Nat := 0x0201
abbrev srcTodInBad : Nat := 0x0202
abbrev srcRxMacFilter : Nat := 0x0301
abbrev srcRxFcsErr : Nat := 0x0302
abbrev srcRxRunt : Nat := 0x0303
abbrev srcRxOversize : Nat := 0x0304
abbrev srcRxCodeErr : Nat := 0x0305
abbrev srcRxMacCtrl : Nat := 0x0306
abbrev srcTxLinkDown : Nat := 0x0307
abbrev srcSlowTxDenied : Nat := 0x0308
abbrev srcSlowTxBad : Nat := 0x0309
abbrev srcPortReleasedDrop : Nat := 0x030A
abbrev srcCascCrc : Nat := 0x0401
abbrev srcCascOos : Nat := 0x0402
abbrev srcCascMediaLost : Nat := 0x0403
abbrev srcCascReinit : Nat := 0x0404
abbrev srcCascShed : Nat := 0x0405
abbrev srcCascWake : Nat := 0x0406
abbrev srcRxNoLeg : Nat := 0x0601
abbrev srcRxLegNotLive : Nat := 0x0602
abbrev srcPoliceDrop : Nat := 0x0603
abbrev srcLqDrop : Nat := 0x0604
abbrev srcLqQto : Nat := 0x0605
abbrev srcLqFlushAbort : Nat := 0x0606
abbrev srcLqFlushDenied : Nat := 0x0607
abbrev srcLegGoneDiscard : Nat := 0x0608
abbrev srcEpochDiscard : Nat := 0x0609
abbrev srcCipherRebind : Nat := 0x0701
abbrev srcCipherTenantRefuse : Nat := 0x0702
abbrev srcCipherMismatch : Nat := 0x0703
abbrev srcCipherRetryFail : Nat := 0x0704
abbrev srcRxReplay : Nat := 0x0705
abbrev srcKeyRefuse : Nat := 0x0706
abbrev srcRxParseDrop : Nat := 0x0801
abbrev srcRxFrag : Nat := 0x0802
abbrev srcRxCsum : Nat := 0x0803
abbrev srcRxUnknownSsrc : Nat := 0x0804
abbrev srcFwdPadDrop : Nat := 0x0805
abbrev srcFwdLayerUnsupported : Nat := 0x0806
abbrev srcHamperEvict : Nat := 0x0807
abbrev srcFwdSeqJump : Nat := 0x0808
abbrev srcFwdTooLate : Nat := 0x0809
abbrev srcFwdMtuDrop : Nat := 0x080A
abbrev srcRtcpByeRx : Nat := 0x080B
abbrev srcRtcpOtherDrop : Nat := 0x080C
abbrev srcNackNoRtx : Nat := 0x080D
abbrev srcNackMiss : Nat := 0x080E
abbrev srcNackIgnored : Nat := 0x080F
abbrev srcKeyMerged : Nat := 0x0810
abbrev srcJbLate : Nat := 0x0901
abbrev srcJbEarly : Nat := 0x0902
abbrev srcJbReanchor : Nat := 0x0903
abbrev srcAudTeDrop : Nat := 0x0904
abbrev srcMixSat : Nat := 0x0905
abbrev srcStageSat : Nat := 0x0906
abbrev srcStageOver : Nat := 0x0907
abbrev srcStageProt : Nat := 0x0908
abbrev srcCascTagDrop : Nat := 0x0909
abbrev srcCascLate : Nat := 0x090A
abbrev srcVidDecLimit : Nat := 0x0A01
abbrev srcVidLatePkt : Nat := 0x0A02
abbrev srcVidDecDrop : Nat := 0x0A03
abbrev srcVidRecDrop : Nat := 0x0A04
abbrev srcVidKeyMerged : Nat := 0x0A05
abbrev srcVidEncSkip : Nat := 0x0A06
abbrev srcVidBandSerial : Nat := 0x0A07
abbrev srcVidDecNosurf : Nat := 0x0A08
abbrev srcLaySkip : Nat := 0x0B01
abbrev srcLayRatio : Nat := 0x0B02
abbrev srcGateHold : Nat := 0x0C01
abbrev srcGateOversize : Nat := 0x0C02
abbrev srcGateRestart : Nat := 0x0C03
abbrev srcHbmPanic : Nat := 0x0D01
abbrev srcHbmRfm : Nat := 0x0D02
abbrev srcHbmThrottle : Nat := 0x0D03
abbrev srcHbmUeDrop : Nat := 0x0D04
abbrev srcHbmCopyRecover : Nat := 0x0D05
abbrev srcHbmRetrain : Nat := 0x0D06
abbrev srcHbmRetrainDefer : Nat := 0x0D07
abbrev srcProtUnplaced : Nat := 0x0E01
abbrev srcProtPartnerRefused : Nat := 0x0E02
abbrev srcProtYieldDrop : Nat := 0x0E03
abbrev srcHubShed : Nat := 0x0E04
abbrev srcOverrun : Nat := 0x1201
abbrev srcUnstarted : Nat := 0x1202
abbrev srcDelayFull : Nat := 0x1203
abbrev srcSplitStall : Nat := 0x1204
abbrev srcMboxDenied : Nat := 0x1301
abbrev srcEvtUndelivered : Nat := 0x1302

/-- Does a configured counter count this occurrence (R498, R499)? -/
def Counter.matchesOcc (c : Counter) (sel : Nat) (o : Occ) : Bool :=
  c.sel == sel &&
  (c.qen % 2 == 0 || (match o.cl with | some n => c.clMask / 2 ^ n % 2 == 1 | none => false)) &&
  (c.qen / 2 % 2 == 0 || o.obj == some c.object) &&
  (c.qen / 4 % 2 == 0 || o.tenant == some c.tenant) &&
  (c.qen / 8 % 2 == 0 ||
    (if sel / 256 == 0x0C then
      o.unit == some (c.portq % 16) && (c.portq / 128 % 2 == 0 || o.queue == some (c.portq / 16 % 8))
    else o.unit == some (c.portq % 128)))

/-- Count `n` occurrences of a source: every counter that matches adds `n`, modulo 2^64. -/
def State.occurN (s : State) (sel : Nat) (o : Occ) (n : Nat) : State :=
  { s with mon := { s.mon with counters := s.mon.counters.map fun (k, c) =>
      (k, if c.matchesOcc sel o then { c with value := (c.value + n) % 2 ^ 64 } else c) } }

/-- Count one occurrence of a source. -/
def State.occur (s : State) (sel : Nat) (o : Occ) : State := s.occurN sel o 1

/-- The qualifiers of an occurrence on a leg. -/
def State.occLeg (s : State) (leg : Nat) : Occ :=
  { obj := some leg, tenant := (s.leg leg).map s.legTenant, unit := (s.leg leg).map (·.cfg.port) }

/-! ## MSI-X vectors (R34) -/

/-- Fire vector `v`: a masked vector records a pending message. -/
def fireVec (v : Nat) (f : Fn) : Fn :=
  { f with vecs := lmod f.vecs v {} fun x => if x.mask then { x with pend := true } else { x with fired := x.fired + 1 } }

/-! ## Event rings (R58 to R64) -/

abbrev evRingOverflow : Nat := 0x1302
abbrev evMboxDenied : Nat := 0x1303
abbrev evCtlTakeover : Nat := 0x0101
abbrev evOpDone : Nat := 0x1301

/-- Entries of the ring (R58). -/
def EvRing.size (r : EvRing) : Nat := 2 ^ r.sizeLog2

/-- Free entries: the ring is full when advancing TAIL would make it equal HEAD (R61). -/
def EvRing.free (r : EvRing) : Nat := (r.size + r.head % r.size - r.tail % r.size - 1) % r.size

/-- Write one entry at TAIL (R60): TAIL advances, PHASE alternates on each pass. -/
def EvRing.write (r : EvRing) (e : Event) : EvRing :=
  let t := r.tail + 1
  { r with
    entries := r.entries ++ [{ e with phase := r.phase }]
    tail := if t = r.size then 0 else t
    phase := if t = r.size then !r.phase else r.phase }

/-- The interrupts of an entry written (R34): vector 2 under the holdoff, vector 3 for overflow and denial. -/
def eventVectors (code : Nat) (f : Fn) : Fn :=
  if !f.ev.ie then f else
  let f2 :=
    if f.ev.hold then { f with ev := { f.ev with deferred := true } }
    else
      let g := fireVec 2 f
      if f.ev.holdoff = 0 then g else { g with ev := { g.ev with hold := true } }
  if code = evRingOverflow || code = evMboxDenied then fireVec 3 f2 else f2

/-- Write an entry into the function's ring, with its interrupts. -/
def Fn.putEvent (f : Fn) (e : Event) : Fn := eventVectors e.code { f with ev := f.ev.write e }

/-- Offer an event that is no completion event to an enabled ring (R62): written while more than one entry is free;
when one remains, EV_RING_OVERFLOW takes it and posting stops; an event that is not written is counted in EVR_LOST. -/
def Fn.offer (f : Fn) (e : Event) : Fn :=
  if f.ev.stopped then { f with ev := { f.ev with lost := (f.ev.lost + 1) % 2 ^ 32 } }
  else if 1 < f.ev.free then f.putEvent e
  else
    let g := if f.ev.free = 1 then f.putEvent { code := evRingOverflow, tick := e.tick, d0 := f.ev.tail } else f
    { g with ev := { g.ev with stopped := true, lost := (g.ev.lost + 1) % 2 ^ 32 } }

/-- Offer a completion event to its function (R62, R63): written as any event, but held where it cannot be, and behind
those already held; never counted in EVR_LOST. -/
def Fn.offerCompletion (f : Fn) (e : Event) : Bool × Fn :=
  if !f.ev.en || !f.held.isEmpty || f.ev.stopped then (false, { f with held := f.held ++ [e] })
  else if 1 < f.ev.free then (true, f.putEvent e)
  else
    let g := if f.ev.free = 1 then f.putEvent { code := evRingOverflow, tick := e.tick, d0 := f.ev.tail } else f
    (false, { g with ev := { g.ev with stopped := true }, held := g.held ++ [e] })

/-- Offer an event to each of the functions whose ring is enabled; where none is, count EVT_UNDELIVERED (R63). -/
def State.offerAll (s : State) (fs : List Nat) (e : Event) : State :=
  let on := fs.filter fun f => (s.fn f).ev.en
  let e' := { e with tick := s.tick }
  if on.isEmpty then s.occur srcEvtUndelivered {}
  else on.foldl (fun s f => s.modFn f fun r => r.offer e') s

/-- The physical functions whose ALL bit is set (R63). -/
def State.allPfs (s : State) : List Nat := [0, 64].filter fun f => (s.fn f).ev.all

/-- A module-wide event (R63). -/
def State.postAll (s : State) (e : Event) : State := s.offerAll s.allPfs e

/-- An event about an object: to the function that created it and every PF ring with ALL set (R63). -/
def State.postObj (s : State) (creator : Nat) (e : Event) : State :=
  s.offerAll ((if creator < 128 then [creator] else []) ++ s.allPfs.filter (· ≠ creator)) e

/-- EV_UPD_COMPONENT (R457): a component is loaded in a unit. -/
def State.componentEvent (s : State) (kind unit : Nat) (fail : Bool) : State :=
  s.postAll { code := 0x1002, obj := kind, d0 := unit, d1 := tgetD s.upd.comps kind 0, d2 := b2n fail }

/-- An event about a leg. -/
def State.postLeg (s : State) (leg : Nat) (e : Event) : State :=
  match s.leg leg with
  | some l => s.postObj l.creator { e with obj := leg }
  | none => s

/-- EV_MBOX_DENIED (R25, R64): to the offending function, or to the PF rings with ALL set. -/
def State.denied (s : State) (mid ch off : Nat) : State :=
  let e : Event := { code := evMboxDenied, obj := ch, d0 := mid, d1 := off }
  let s := s.occur srcMboxDenied { obj := some ch }
  if mid < 128 then s.offerAll [mid] e else s.postAll e

/-! ## Long operations (R54 to R56, R62) -/

/-- Is the operation outstanding: its completion event is neither in the ring nor discarded (R62)? -/
def LongOp.outstanding (o : LongOp) : Bool := o.state == 0 || (o.state == 1 && !o.posted)

/-- The running operation with this opcode that satisfies `p`. -/
def State.findOp (s : State) (opcode : Nat) (p : LongOp → Bool) : Option LongOp :=
  s.ctl.ops.find? fun o => o.opcode == opcode && o.state == 0 && p o

/-- The handle that a running operation holds, for E_BUSY (R50). -/
def State.busyHandle (s : State) (p : LongOp → Bool) : Option Nat :=
  (s.ctl.ops.find? fun o => o.state == 0 && p o).map (·.handle)

/-- Outstanding operations of a function. -/
def State.outstanding (s : State) (f : Nat) : Nat := (s.ctl.ops.filter fun o => o.fn == f && o.outstanding).length

/-- Accept a long operation (R54): it takes the function's next handle, and records a thousand and twenty-four starts
old are dropped (R56). -/
def State.accept (s : State) (f tag opcode a b c : Nat) : Nat × State :=
  let r := s.fn f
  let h := r.nextHandle
  let n := r.opsStarted + 1
  let s := s.modFn f fun r => { r with nextHandle := if h = 0xFFFF then 1 else h + 1, opsStarted := n }
  let old := s.ctl.ops.filter fun o => !(o.fn == f && o.state != 0 && decide (o.serial + 1024 ≤ n))
  let op : LongOp := { fn := f, handle := h, tag := tag, opcode := opcode, serial := n, a := a, b := b, c := c, since := s.time.m }
  (h, { s with ctl := { s.ctl with ops := old ++ [op] } })

/-- Change the running operation of function `f` with handle `h`. -/
def State.modOp (s : State) (f h : Nat) (g : LongOp → LongOp) : State :=
  { s with ctl := { s.ctl with ops := s.ctl.ops.map fun o => if o.fn == f && o.handle == h && o.state == 0 then g o else o } }

/-- The completion event of an operation has left control. -/
def State.markPosted (s : State) (f h : Nat) : State :=
  { s with ctl := { s.ctl with ops := s.ctl.ops.map fun o =>
      if o.fn == f && o.handle == h then { o with posted := true } else o } }

/-- Record completion of a running operation (R55) and post its completion event. -/
def State.complete (s : State) (o : LongOp) (e : Event) (status : Nat) : State :=
  let s := s.modOp o.fn o.handle fun o => { o with state := 1, posted := o.discard }
  if o.discard then s else
  let ev := { e with tag := o.tag, handle := o.handle, status := status, tick := s.tick }
  let p := (s.fn o.fn).offerCompletion ev
  let s := s.modFn o.fn fun _ => p.2
  if p.1 then s.markPosted o.fn o.handle else s

/-- Completion by EV_OP_DONE (R64). -/
def State.opDone (s : State) (o : LongOp) (status detail : Nat) : State :=
  s.complete o { code := evOpDone, obj := o.opcode, d0 := detail } status

/-! ## Shafipo replies -/

/-- Status codes (R44). -/
abbrev eOk : Nat := 0
abbrev eUnknown : Nat := 1
abbrev eBadarg : Nat := 2
abbrev eNospace : Nat := 3
abbrev eBusy : Nat := 4
abbrev eDeferred : Nat := 5
abbrev eAlreadyDone : Nat := 6
abbrev eLocked : Nat := 7
abbrev eTenant : Nat := 8
abbrev eState : Nat := 9
abbrev eRekey : Nat := 10
abbrev eStale : Nat := 11
abbrev eTimeout : Nat := 12
abbrev eHw : Nat := 13

/-- The issuer of a request channel (R23): its host function, or the management controller. -/
def issuerOf (ch : Nat) : Nat := if ch < 256 then ch / 2 else 0xC8

/-- A command as its body sees it: channel, issuer, opcode, tag and argument words. -/
structure Ctx where
  ch : Nat
  issuer : Nat
  opcode : Nat
  tag : Nat
  args : List Word

/-- Argument word `k`, counted from 1 as the word tables count (R39). -/
def Ctx.w (c : Ctx) (k : Nat) : Word := c.args.getD (k - 1) 0#32
/-- Field of argument word `k`: `n` bits from bit `lo`. -/
def Ctx.f (c : Ctx) (k lo n : Nat) : Nat := (c.w k).fld lo n
/-- Bit of argument word `k`. -/
def Ctx.bit (c : Ctx) (k i : Nat) : Bool := (c.w k).bit i
/-- Number of argument words. -/
def Ctx.len (c : Ctx) : Nat := c.args.length

/-- What a command answers: a response with its status, detail and further words on the state it leaves; a refusal,
which leaves the state as it was; or no response yet. -/
inductive Reply where
  | done (s : State) (status detail : Nat) (words : List Nat)
  | fail (status detail : Nat)
  | hold (s : State)

/-- E_OK with further response words. -/
def okWords (s : State) (ws : List Nat) : Reply := .done s eOk 0 ws
/-- E_OK. -/
def ok (s : State) : Reply := .done s eOk 0 []

/-- The checks of R46 in order: the first that fails is reported, and otherwise the command goes on. -/
def checks (cs : List (Bool × Nat × Nat)) (r : Reply) : Reply :=
  match cs.find? (·.1) with
  | some (_, st, det) => .fail st det
  | none => r

/-- The fault that argument word `k` is invalid. -/
def badArg (b : Bool) (k : Nat) : Bool × Nat × Nat := (b, eBadarg, k)
/-- The fault that LEN differs from what the form requires. -/
def badLen (c : Ctx) (n : Nat) : Bool × Nat × Nat := (decide (c.len ≠ n), eBadarg, 0x8001)
/-- The fault that a bit of argument word `k` from `lo` on, `n` bits, is reserved and set. -/
def reserved (c : Ctx) (k lo n : Nat) : Bool × Nat × Nat := (decide (c.f k lo n ≠ 0), eBadarg, k)

/-- The words of one response, cut into messages of at most fifteen words after word 0 (R36, R37, R39). -/
def segment (opcode tag : Nat) (ws : List Nat) : Nat → List (List Word)
  | 0 => []
  | fuel + 1 =>
    let now := ws.take 15
    let rest := ws.drop 15
    let more := !rest.isEmpty
    let head := opcode % 65536 + tag % 256 * 2 ^ 16 + now.length * 2 ^ 24 + 2 ^ 28 + b2n more * 2 ^ 29
    (word head :: now.map word) :: (if more then segment opcode tag rest fuel else [])

/-- Write a message into a channel as its sender, and ring the receiver's doorbell (R34). -/
def State.sendMsg (s : State) (c : Nat) (ws : List Word) : State :=
  let s' := s.modChan c fun h => { h with msg := ws ++ h.msg.drop ws.length, full := true }
  let f := (s.bind c).receiver
  if (s.chan c).rie && f < 128 then s'.modFn f (fireVec 0) else s'

/-- Move the next waiting response message of response channel `r` into the channel, when it is free and, for the
management controller, not held (R48, R486). -/
def State.pump (s : State) (r : Nat) : State :=
  if (s.chan r).full || s.ctl.bmcHold.contains r then s
  else match tgetD s.ctl.rsps r [] with
    | [] => s
    | m :: ms => { s.sendMsg r m with ctl := { s.ctl with rsps := tset s.ctl.rsps r ms } }

/-- Queue a response to request channel `ch` (R37) and send what the channel takes. -/
def State.respond (s : State) (ch opcode tag status detail : Nat) (words : List Nat) : State :=
  let ms := segment opcode tag ((status + detail % 65536 * 65536) :: words) 9
  let r := ch + 1
  { s with ctl := { s.ctl with rsps := tset s.ctl.rsps r (tgetD s.ctl.rsps r [] ++ ms) } }.pump r

/-- The command queue of a request channel (R47). -/
def State.queue (s : State) (ch : Nat) : List Cmd := tgetD s.ctl.queues ch []
/-- Replace the command queue of a request channel. -/
def State.setQueue (s : State) (ch : Nat) (q : List Cmd) : State :=
  { s with ctl := { s.ctl with queues := tset s.ctl.queues ch q } }

/-- Answer, in order, the commands at the front of the queue that were refused when they were taken (R46, R48). -/
def State.drain (s : State) (ch : Nat) : State :=
  let q := s.queue ch
  let bad := q.takeWhile fun c => c.refuse.isSome
  bad.foldl (fun s c => match c.refuse with
    | some (st, det) => s.respond ch c.opcode c.tag st det []
    | none => s) (s.setQueue ch (q.dropWhile fun c => c.refuse.isSome))

/-- Answer a command by its reply, on the state `s` that it was taken from. -/
def State.reply (s : State) (c : Ctx) : Reply → State
  | .done t st det ws => t.respond c.ch c.opcode c.tag st det ws
  | .fail st det => s.respond c.ch c.opcode c.tag st det []
  | .hold t => t

/-- Is the issuer a VF that has no tenant, which may issue SYS.HEALTH alone (R51)? -/
def State.noTenant (s : State) (issuer op : Nat) : Bool :=
  !isPF issuer && issuer != 0xC8 && op != 0x0103 && (s.tenantOf issuer).isNone

/-- Execute the command at the head of a request channel's queue, if it has this opcode and no command of the channel
waits for an answer (R48, log entry 4); a VF that has lost its tenant meanwhile is refused (R51). -/
def runCmd (ch op : Nat) (body : Ctx → State → Reply) (s : State) : State :=
  match s.queue ch with
  | [] => s
  | c :: rest =>
    if c.opcode = op && c.refuse.isNone && (tget s.ctl.waits ch).isNone then
      let s' := s.setQueue ch rest
      let cx : Ctx := ⟨ch, issuerOf ch, op, c.tag, c.args⟩
      (s'.reply cx (if s.noTenant cx.issuer op then .fail eTenant 3 else body cx s')).drain ch
    else s

/-- Answer E_DEFERRED for a long operation (R50, R54), after the last capacity check (R62), then go on with it. -/
def startLong (c : Ctx) (s : State) (a b d : Nat) (go : Nat → State → State) : Reply :=
  if 256 ≤ s.outstanding c.issuer then .fail eNospace 0x1301
  else
    let p := s.accept c.issuer c.tag c.opcode a b d
    .done (go p.1 p.2) eDeferred p.1 []

/-- Two's complement reading of an `n`-bit field. -/
def signed (n v : Nat) : Int := if v < 2 ^ (n - 1) then (v : Int) else (v : Int) - 2 ^ n

/-- The `n`-bit two's complement field of an integer. -/
def field (n : Nat) (i : Int) : Nat := (i % (2 ^ n : Int)).toNat

/-- Saturation of an integer to the range of 32-bit words, as the word (R97). -/
def sat32 (i : Int) : Nat := field 32 (max (-2147483648) (min 2147483647 i))

/-- The bits that are set in a mask, below `n`. -/
def bitsOf (mask : Nat) (n : Nat) : List Nat := (List.range n).filter fun i => mask / 2 ^ i % 2 == 1

/-- Is bit `i` of a number set? -/
def hasBit (m i : Nat) : Bool := m / 2 ^ i % 2 == 1

/-- Mask with the bits of a list. -/
def maskOf (l : List Nat) : Nat := l.eraseDups.foldl (fun m i => m + 2 ^ i) 0

end Sys2Proof.Machine
end

