-- ==== Sys2Proof/Machine/Engines.lean ====
section
/-! DEFINITION. The codec engines (R228, R231): which frame the decoder and the encode pipes take next, and how a job's frames
follow its flow to another engine (R250, R414). -/

namespace Sys2Proof.Machine

/-- What the qualifiers of a job's counters match. -/
def occJob (id tenant : Nat) : Occ := { obj := some id, tenant := some tenant }
/-- Change a decode job. -/
def State.modDec (s : State) (id : Nat) (g : DecJob → DecJob) : State := { s with decJobs := tupd s.decJobs id g }
/-- Change an encode job. -/
def State.modEncJob (s : State) (id : Nat) (g : EncJob → EncJob) : State := { s with encJobs := tupd s.encJobs id g }
/-- Change an encoding of an encode job. -/
def State.modEncoding (s : State) (id k : Nat) (g : Encoding → Encoding) : State :=
  s.modEncJob id fun j => { j with encs := lmod j.encs k {} g }

/-! ## The decoder of an engine (R228, R231) -/

/-- Engine priority of a decode job. -/
def State.decPrio (s : State) (id : Nat) : Nat := ((tget s.decJobs id).map (·.prio)).getD 0

/-- Change a frame of a decode job. -/
def State.modFrame (s : State) (id ts : Nat) (g : DecFrame → DecFrame) : State :=
  s.modDec id fun j => { j with frames := j.frames.map fun f => if f.ts = ts then g f else f }

/-- The frame that the decoder takes next: the highest priority, the earliest ready. -/
def State.decBest (s : State) (e : Engine) : Option (Nat × Nat) :=
  let top := (e.decWait.map fun r => s.decPrio r.1).foldl max 0
  e.decWait.find? fun r => s.decPrio r.1 == top

/-- Give the decoder its next frame: when it is idle, or in place of a frame of lower priority, which waits to resume. -/
def State.decNext (s : State) (c : Nat) : State :=
  let e := s.engine c
  match s.decBest e with
  | none => s
  | some b =>
    let start := fun (s : State) (w : List (Nat × Nat)) =>
      (s.modEngine c fun e => { e with decRun := some b, decWait := w }).modFrame b.1 b.2 fun f => { f with started := true }
    let rest := e.decWait.filter (· ≠ b)
    match e.decRun with
    | none => start s rest
    | some r =>
      if s.decPrio r.1 < s.decPrio b.1 then start (s.modFrame r.1 r.2 fun f => { f with preempted := true }) (r :: rest) else s

/-! ## Pipes (R228, R231) -/

/-- A frame of a job among those that run or wait. -/
def PipeRun.is (r : PipeRun) (job enc : Nat) : Bool := r.job == job && r.enc == enc

/-- The frame that takes a pipe next: the highest priority, frames that were preempted before those that became ready. -/
def Engine.encBest (e : Engine) : Option PipeRun :=
  let l := e.preempted ++ e.waiting
  let top := (l.map (·.prio)).foldl max 0
  l.find? fun r => r.prio == top

/-- The pipe for a frame of a priority: an idle one, the lower-numbered first, or that of the running frame of lowest
priority below its own, the latest started among equals. -/
def Engine.pipeFor (e : Engine) (prio : Nat) : Option Nat :=
  match e.pipes.findIdx? (·.isNone) with
  | some i => some i
  | none =>
    let runs := e.pipes.zipIdx.filterMap fun x => x.1.map fun r => (r, x.2)
    let low := (runs.filter fun r => decide (r.1.prio < prio)).foldl (fun b r => match b with
      | none => some r
      | some q => if r.1.prio < q.1.prio || (r.1.prio == q.1.prio && decide (q.1.order < r.1.order)) then some r else some q) none
    low.map (·.2)

/-- Put a frame on pipe `i`; the frame that runs there is preempted. -/
def State.onPipe (s : State) (c i : Nat) (r : PipeRun) : State :=
  let e := s.engine c
  let old := e.pipes.getD i none
  let order := ((e.pipes.filterMap id).map (·.order)).foldl max 0 + 1
  let s := (old.toList).foldl (fun s o => s.modEncoding o.job o.enc fun x => { x with runPreempted := true }) s
  s.modEngine c fun e => { e with
    pipes := e.pipes.set i (some { r with order := order })
    preempted := old.toList ++ e.preempted.filter (fun x => !x.is r.job r.enc)
    waiting := e.waiting.filter fun x => !x.is r.job r.enc }

/-- Preempted frames resume while a pipe is idle for them. -/
def State.resumePipes (s : State) (c : Nat) : Nat → State
  | 0 => s
  | n + 1 =>
    let e := s.engine c
    match e.pipes.findIdx? (·.isNone), e.encBest with
    | some i, some r => if e.preempted.contains r then (s.onPipe c i r).resumePipes c n else s
    | _, _ => s

/-! ## A job's frames on another engine (R250, R414, log entry 36) -/

/-- The frames of a decode job go from engine `a` to engine `b`: the one that ran starts again there. -/
def State.carryDec (s : State) (id a b : Nat) : State :=
  let e := s.engine a
  let own := fun r : Nat × Nat => r.1 == id
  let mine := (e.decRun.toList ++ e.decWait).filter own
  let s := s.modEngine a fun e => { e with decRun := e.decRun.filter fun r => !own r, decWait := e.decWait.filter fun r => !own r }
  ((s.modEngine b fun e => { e with decWait := e.decWait ++ mine }).decNext a).decNext b

/-- The frames of an encode job go from engine `a` to engine `b`: those that ran or were preempted start again there. -/
def State.carryEnc (s : State) (id a b : Nat) : State :=
  let e := s.engine a
  let own := fun r : PipeRun => r.job == id
  let begun := (e.pipes.filterMap fun p => p) ++ e.preempted
  let s := s.modEngine a fun e => { e with
    pipes := e.pipes.map fun p => p.filter fun r => !own r, preempted := e.preempted.filter fun r => !own r, waiting := e.waiting.filter fun r => !own r }
  let s := s.modEngine b fun x => { x with preempted := x.preempted ++ begun.filter own, waiting := x.waiting ++ e.waiting.filter own }
  (s.resumePipes a 2).resumePipes b 2

end Sys2Proof.Machine
end

