-- ==== Sys2Proof/Machine/Queue.lean ====
section
/-! DEFINITION. Delay lists (R109), leg queues (R139 to R144) and leg states (R126 to R128): the operations that every
family of leg commands and events shares. -/

namespace Sys2Proof.Machine

/-! ## Delay lists (R109) -/

/-- Entries that one delay list holds. -/
abbrev delayMax : Nat := 262144

/-- The delay list of a timer: DL0 for RTCP, DL1 for NACKs, DL2 for consent, DL3 for all others. -/
def Timer.list : Timer → Nat
  | .rtcp _ => 0
  | .nack _ _ _ => 1
  | .consent _ => 2
  | _ => 3

/-- Insert by due tick, after the entries of the same tick (R110). -/
def insertDue (e : DelayEntry) : List DelayEntry → List DelayEntry
  | [] => [e]
  | d :: ds => if d.due ≤ e.due then d :: insertDue e ds else e :: d :: ds

/-- Is the timer one that the module holds for no task that will run again (R109)? -/
def Timer.holds : Timer → Bool
  | .consent _ => true
  | .fallbackEnd _ => true
  | .keyFree _ => true
  | _ => false

/-- The leg that a timer belongs to. -/
def Timer.leg : Timer → Option Nat
  | .rtcp n => some n
  | .nack n _ _ => some n
  | .consent n => some n
  | .fallbackEnd n => some n
  | .keyFree n => some n
  | .other _ => none

/-- The flow that runs a timer's work: the control flow of its leg. -/
def State.timerFlow (s : State) (t : Timer) : Option Nat :=
  (t.leg.bind fun n => s.trail.flows.find? fun p => p.2.owner == .legControl n).map (·.1)

/-- Set a timer for tick `due` (R109); a full list counts DELAY_FULL, and keeps a timer held for no task for the
boundaries that follow. -/
def State.setTimer (s : State) (due : Nat) (t : Timer) : State :=
  let l := s.trail.delays.getD t.list []
  if delayMax ≤ l.length then
    let s := s.occur srcDelayFull { obj := s.timerFlow t }
    if t.holds then { s with trail := { s.trail with lost := s.trail.lost ++ [⟨due, t⟩] } } else s
  else { s with trail := { s.trail with delays := s.trail.delays.set t.list (insertDue ⟨due, t⟩ l) } }

/-- Stop a timer. -/
def State.stopTimer (s : State) (t : Timer) : State :=
  { s with trail := { s.trail with
      delays := lmod s.trail.delays t.list [] fun l => l.filter fun e => e.what ≠ t
      lost := s.trail.lost.filter fun e => e.what ≠ t } }

/-- Is the timer waiting in its list, or for a place in it? -/
def State.timerSet (s : State) (t : Timer) : Bool :=
  (s.trail.delays.getD t.list []).any (fun e => e.what == t) || s.trail.lost.any (fun e => e.what == t)

/-- Set the consent timer of a leg in LS_LIVE again (R128). -/
def State.consentTimer (s : State) (leg : Nat) : State :=
  let s := s.stopTimer (.consent leg)
  match s.leg leg with
  | some l => if l.state = 1 && 0 < l.cfg.consentTo then
      s.setTimer (max (max l.lastAuth l.liveSince + l.cfg.consentTo) (s.time.m + 1)) (.consent leg) else s
  | none => s

/-! ## Leg queues -/

/-- The queue limit in items (R132): 0 means 512. -/
def LegCfg.limit (c : LegCfg) : Nat := if c.qlimit = 0 then 512 else c.qlimit

/-- Items held in the queue block of a leg (R139). -/
def State.blockItems (s : State) (leg : Nat) : Nat :=
  ((s.legs.filter fun p => p.1 / 1024 == leg / 1024).map fun p => p.2.queue.length).sum

/-- Descriptors of one queue block (R139). -/
abbrev blockStore : Nat := 65536

/-- The item that gives way to one of priority `p` (R140): of the lowest priority present below `p`, the most recently
enqueued. Answers its position. -/
def victim (q : List QItem) (p : Nat) : Option Nat :=
  let low := (q.map (·.pkt.prio)).filter (· < p)
  match low.min? with
  | none => none
  | some m => (q.zipIdx.reverse.find? fun x => x.1.pkt.prio == m).map (·.2)

/-- Count one refused or removed item (R138, R140). -/
def State.lqDrop (s : State) (leg : Nat) : State :=
  let s := s.occur srcLqDrop (s.occLeg leg)
  s.modLeg leg fun l => { l with stats := { l.stats with lqDrop := min (l.stats.lqDrop + 1) 0xFFFFFFFF } }

/-- The queue item of a packet made now. -/
def mkItem (s : State) (l : Leg) (p : OutPkt) (len : Nat) : QItem := { pkt := p, epoch := l.pathEpoch, len := len, at_ := s.time.ref }

/-- Append an item; a queue that was empty restarts its timeout (R141). -/
def Leg.push (l : Leg) (m : Nat) (it : QItem) : Leg :=
  { l with queue := l.queue ++ [it], qLastRead := if l.queue.isEmpty then m else l.qLastRead }

/-- Offer a packet of frame length `len` to a leg's queue (R140). A leg that is gone counts LEG_GONE_DISCARD (R137). -/
def State.enqueueLeg (s : State) (leg : Nat) (p : OutPkt) (len : Nat) : State :=
  match s.leg leg with
  | none => s.occur srcLegGoneDiscard { obj := some leg }
  | some l =>
    let it := mkItem s l p len
    if l.queue.length < l.cfg.limit && s.blockItems leg < blockStore then
      s.setLeg leg (l.push s.time.m it)
    else match victim l.queue p.prio with
      | none => s.lqDrop leg
      | some i => (s.setLeg leg { l with queue := l.queue.eraseIdx i ++ [it] }).lqDrop leg

/-- The depth in force of a leg shaper (R332): 0 is automatic. -/
def Shaper.depthNow (h : Shaper) : Nat := if h.depth = 0 then max 16384 (h.rate * 625 / 1000) else h.depth

/-- Is this transmit item a part of the leg's queue still, as tier 0 is moving it (R143)? -/
def TxItem.partOf (t : TxItem) (leg : Nat) : Bool := !t.whole && t.pkt.any (·.leg == leg)

/-- Empty a leg's queue (R142, R143): the part of a moving item already in the port's transmit queue goes too, and a
frame already on the wire ends with an inverted FCS and counts LQ_FLUSH_ABORT. -/
def State.flush (s : State) (leg : Nat) : State :=
  match s.leg leg with
  | none => s
  | some l =>
    let q := s.port l.cfg.port
    let abort := q.wire.any fun t => t.partOf leg
    let s := s.setLeg leg { l with queue := [] }
    let s := s.modPort l.cfg.port fun q => { q with
      tq := q.tq.map fun t => t.filter fun x => !x.partOf leg
      wire := if abort then none else q.wire
      aborted := if abort then q.aborted + 1 else q.aborted }
    if abort then s.occur srcLqFlushAbort (s.occLeg leg) else s

/-! ## Leg states -/

abbrev evLegState : Nat := 0x0601

/-- Move a leg to another state (R127): the event with its cause, the flush on leaving service, and the consent timer
(R128). -/
def State.legTo (s : State) (leg new cause : Nat) : State :=
  match s.leg leg with
  | none => s
  | some l =>
    if l.state = new then s else
    let s := if new = 1 then s else s.flush leg
    let s := s.modLeg leg fun l => { l with state := new, liveSince := if new = 1 then s.time.m else l.liveSince }
    let s := s.postObj l.creator { code := evLegState, obj := leg, d0 := new + 256 * l.state, d1 := l.gen, d2 := cause }
    s.consentTimer leg

/-- Does the leg use any medium (R124)? Both key directions are then in use (R315). -/
def LegCfg.usesMedia (c : LegCfg) : Bool := (c.audMode ≠ 0 && c.audDir ≠ 0) || (c.vidMode ≠ 0 && c.vidDir ≠ 0)

/-- Is the leg fully keyed (R127): it uses a direction, and each holds a current key? -/
def Leg.fullyKeyed (l : Leg) : Bool := l.cfg.usesMedia && l.keys.rxCur.isSome && l.keys.txCur.isSome

end Sys2Proof.Machine
end

