-- ==== Sys2Proof/Machine/Flows.lean ====
section
/-! DEFINITION. Flows, their declared work and their placement (R108, R111, R195, R203, R227, R229, R259, R410 to R412),
and the move of a flow (R116). Commands change the objects; `State.reflow` then makes the flows follow them. -/

namespace Sys2Proof.Machine

/-! ## Limits -/

/-- Declared core-cycles per tick of one cluster (R111). -/
abbrev clusterCap : Nat := 6800000
/-- Atomic flows of the module (R108). -/
abbrev flowMax : Nat := 262144
/-- Pixels per second of an engine's decoder, of its encode pipes together, and of one pipe (R227). -/
abbrev decLimit : Nat := 995328000
abbrev encLimit : Nat := 497664000
abbrev pipeLimit : Nat := 248832000

/-- The buddy of a cluster, or the first cluster of the buddy of a group (R411). -/
def buddyOf (c : Nat) : Nat := (c + 24) % 48

/-! ## What the objects need -/

/-- The leg's input goes to a mix: audio mode Mix with RECV (R124, R195). -/
def LegCfg.feeds (c : LegCfg) : Bool := c.audMode == 2 && hasBit c.audDir 0
/-- The leg has its own encode: audio mode Mix with SEND, a mixed leg (R124). -/
def LegCfg.hears (c : LegCfg) : Bool := c.audMode == 2 && hasBit c.audDir 1
/-- A feeding leg of the conference (R195). -/
def Leg.feedsConf (l : Leg) (conf : Nat) : Bool := l.cfg.feeds && l.aud.cfg.inConf == conf
/-- A level-aware leg (R192). -/
def Leg.aware (l : Leg) : Bool := l.pol.idLevel ≠ 0

/-- Level-aware feeding legs of a conference. -/
def State.awareLegs (s : State) (conf : Nat) : Nat := (s.legs.filter fun p => p.2.feedsConf conf && p.2.aware).length
/-- Level-blind feeding legs of a conference. -/
def State.blindLegs (s : State) (conf : Nat) : Nat := (s.legs.filter fun p => p.2.feedsConf conf && !p.2.aware).length
/-- Decode places reserved by one conference (R195). -/
def State.confPlaces (s : State) (conf : Nat) (c : Conf) : Nat := s.blindLegs conf + min c.pol.candMax (s.awareLegs conf)
/-- Decode places reserved by the module, of 16,384 (R195). -/
def State.decodePlaces (s : State) : Nat := (s.confs.map fun p => s.confPlaces p.1 p.2).sum
/-- Mixed legs in use, of 8,192 (R19). -/
def State.mixedLegs (s : State) : Nat := (s.legs.filter fun p => p.2.cfg.hears).length

/-- Declared cycles of one decode by codec (R203); a leg whose input track is not declared has no codec yet. -/
def decodeCycles (codec : Nat) : Nat :=
  match codec with
  | 0 => 6000
  | 1 => 1200
  | 2 => 1200
  | 3 => 2400
  | _ => 0

/-- The codec of the track that the leg's jitter buffer holds (R217). -/
def Leg.inCodec (l : Leg) : Option Nat := (tget l.tracks l.aud.cfg.inTrack).map (·.codec)

/-- Declared cycles of the custom stages attached at a point of an object (R203, R206). -/
def State.stageCycles (s : State) (point obj : Nat) : Nat :=
  ((s.stageAtts.filter fun a => a.point == point && a.obj == obj).map fun a =>
    ((tget s.stages a.stage).map (·.cycles)).getD 0).sum

/-- The share of one decode that a leg's audio flow declares (R195, R203), rounded up. -/
def State.decodeShare (s : State) (l : Leg) (dec : Nat) : Nat :=
  let conf := l.aud.cfg.inConf
  let n := s.awareLegs conf
  let most := ((s.conf conf).map (·.pol.candMax)).getD 8
  if l.aware && most < n then (dec * most + n - 1) / n else dec

/-- Declared cycles of a leg's audio flow (R203). -/
def State.audioCycles (s : State) (id : Nat) (l : Leg) : Nat :=
  300 + s.decodeShare l (decodeCycles (l.inCodec.getD 15)) + (if l.aud.cfg.dtmfInband then 200 else 0) +
    (if l.aud.cfg.howl then 400 else 0) + s.stageCycles 0 id

/-- Declared cycles of a leg's encode flow (R203). -/
def State.encodeCycles (s : State) (id : Nat) (l : Leg) : Nat :=
  let e := l.aud.cfg.enc
  s.stageCycles 2 id +
    (if l.cfg.kind = 1 then 1500 else
     match e.codec with
     | 0 => (if e.frameMs = 10 then 24000 else 20000) + (if 64 < e.opusMax then 8000 else 0)
     | 1 => 1000
     | 2 => 1000
     | 3 => 3000
     | _ => 1500)

/-- Cascade legs of a conference. -/
def State.cascLegs (s : State) (conf : Nat) : List Nat :=
  (s.legs.filter fun p => p.2.cfg.conf == conf && p.2.cfg.kind == 1).map (·.1)

/-- Declared cycles of a mix flow (R203, R305). -/
def State.mixCycles (s : State) (id : Nat) (c : Conf) : Nat :=
  1000 + 200 * c.pol.activeMax + 600 * (s.cascLegs id).length + (1 + c.pol.activeMax) * s.stageCycles 1 id

/-- The flows of one leg (R108). -/
def State.legFlows (s : State) (id : Nat) (l : Leg) : List (FlowOwner × Nat) :=
  [(.legControl id, 400)] ++ (if l.cfg.feeds then [(.legAudio id, s.audioCycles id l)] else []) ++
    (if l.cfg.hears then [(.legEncode id, s.encodeCycles id l)] else [])

/-- Half of a picture dimension, rounded down to an even number (R238). -/
def halfEven (n : Nat) : Nat := n / 4 * 2

/-- The pictures of an encode job: for each encoding its spatial layers, lowest first (R238). -/
def EncCfg.sizes (c : EncCfg) : List (List (Nat × Nat)) :=
  let a := (c.outW, c.outH)
  let b := (halfEven c.outW, halfEven c.outH)
  let d := (halfEven b.1, halfEven b.2)
  match c.mode with
  | 2 => [[b, a]]
  | 3 => [[d, b, a]]
  | 4 => [[b], [a]]
  | 5 => [[d], [b], [a]]
  | _ => [[a]]

/-- Pixels per second of one encoding. -/
def encodingRate (fps : Nat) (l : List (Nat × Nat)) : Nat := (l.map fun p => p.1 * p.2 * fps).sum

/-- Every flow that the module's objects need (R108), with its declared work (R203, R229, R259). -/
def State.wanted (s : State) : List (FlowOwner × Nat) :=
  (s.legs.flatMap fun p => s.legFlows p.1 p.2) ++
  (s.confs.flatMap fun p => if p.2.mix then [(.confMix p.1, s.mixCycles p.1 p.2)] else []) ++
  (s.decJobs.map fun p => (.decode p.1, 5000)) ++
  (s.encJobs.map fun p => (.encode p.1, 8000 * p.2.cfg.sizes.length)) ++
  (s.canvases.map fun p => (.canvas p.1, 4000))

/-- The pixel rates of a flow's codec job: decode, encode, and its largest single encoding (R227). -/
def State.pix (s : State) : FlowOwner → Nat × Nat × Nat
  | .decode j => match tget s.decJobs j with
    | some d => (d.maxW * d.maxH * d.maxFps, 0, 0)
    | none => (0, 0, 0)
  | .encode j => match tget s.encJobs j with
    | some e =>
      let rs := e.cfg.sizes.map (encodingRate e.cfg.fps)
      (0, rs.sum, rs.foldl max 0)
    | none => (0, 0, 0)
  | _ => (0, 0, 0)

/-- The locked group that a flow's job names (R226). -/
def State.ownerGroup (s : State) : FlowOwner → Option Nat
  | .decode j => (tget s.decJobs j).bind (·.group)
  | .encode j => (tget s.encJobs j).bind (·.group)
  | _ => none

/-- The distinct custom stages that a flow runs (R206). -/
def State.ownerStages (s : State) (o : FlowOwner) : List Nat :=
  let on := fun point obj => (s.stageAtts.filter fun a => a.point == point && a.obj == obj).map (·.stage)
  match o with
  | .legAudio n => on 0 n
  | .confMix n => on 1 n
  | .legEncode n => on 2 n
  | _ => []

/-! ## Protection of flows (R410) -/

/-- Does a protected leg satisfy `p`? -/
def State.anyProtected (s : State) (p : Nat → Leg → Bool) : Bool := s.legs.any fun x => x.2.prot ≠ 0 && p x.1 x.2

/-- Is a slot of the leg attached to encode job `j`? -/
def Leg.attachedTo (l : Leg) (j : Nat) : Bool := l.slots.any fun p => p.2.src == .job j || p.2.homeJob == some j

/-- Does an encode job serve a protected leg? -/
def State.encProtected (s : State) (j : Nat) : Bool := s.anyProtected fun _ l => l.attachedTo j

/-- Does a canvas serve a protected leg? -/
def State.canvasProtected (s : State) (c : Nat) : Bool :=
  s.encJobs.any fun p => p.2.cfg.srcKind == 0 && p.2.cfg.src == c && s.encProtected p.1

/-- Does a canvas show a decode job? -/
def Canvas.shows (c : Canvas) (j : Nat) : Bool :=
  c.layers.any fun p => p.2.src == ⟨1, j⟩ || (match p.2.pend with | some q => q.1 == ⟨1, j⟩ | none => false)

/-- Does the flow serve at least one protected leg (R410)? -/
def State.serves (s : State) : FlowOwner → Bool
  | .legControl n => s.anyProtected fun i _ => i == n
  | .legAudio n => s.anyProtected fun i _ => i == n
  | .legEncode n => s.anyProtected fun i _ => i == n
  | .confMix n => s.anyProtected fun _ l => l.feedsConf n || (l.cfg.hears && l.aud.cfg.outConf == n)
  | .encode j => s.encProtected j
  | .canvas c => s.canvasProtected c
  | .decode j =>
    s.canvases.any (fun p => p.2.shows j && s.canvasProtected p.1) ||
    s.encJobs.any fun p => p.2.cfg.srcKind == 1 && p.2.cfg.src == j && s.encProtected p.1

/-! ## Load of a place: a single cluster, or the first cluster of a locked group -/

/-- Clusters of the place. -/
def State.placeSize (s : State) (c : Nat) : Nat := ((s.cluster c).group.map (·.2)).getD 1

/-- Flows placed on the place. -/
def State.flowsOn (s : State) (c : Nat) : List (Nat × Flow) := s.trail.flows.filter fun p => p.2.place == c && !p.2.stopped

/-- Declared work of the flows on a place. -/
def State.work (s : State) (c : Nat) : Nat := ((s.flowsOn c).map (·.2.cycles)).sum
/-- Declared work of its protected flows. -/
def State.protWork (s : State) (c : Nat) : Nat := (((s.flowsOn c).filter (·.2.protect)).map (·.2.cycles)).sum
/-- Declared load: the flows' work and the shadow application of the buddy's protected work (R412). -/
def State.load (s : State) (c : Nat) : Nat := s.work c + (s.protWork (buddyOf c) + 15) / 16
/-- What the place may declare (R111). -/
def State.capOf (s : State) (c : Nat) : Nat := clusterCap * s.placeSize c
/-- Free declared capacity. -/
def State.freeOf (s : State) (c : Nat) : Nat := s.capOf c - s.load c
/-- Headroom of protected work on a buddy pair (R412). -/
def State.protHeadroom (s : State) (c : Nat) : Nat := s.capOf c - (s.protWork c + s.protWork (buddyOf c))

/-- Pixel rates of the codec jobs of some flows: decode, encode, and whether each encoding fits `k` pipes. -/
def State.pixSums (s : State) (k : Nat) (l : List (Nat × Flow)) : Nat × Nat × Bool :=
  let ps := l.map fun p => s.pix p.2.owner
  ((ps.map (·.1)).sum, (ps.map (·.2.1)).sum, ps.all fun p => decide (p.2.2 ≤ k * pipeLimit))

/-- The engine limits of R227 on a place. -/
def State.pixOk (s : State) (c : Nat) : Bool :=
  let k := s.placeSize c
  let p := s.pixSums k (s.flowsOn c)
  decide (p.1 ≤ k * decLimit) && decide (p.2.1 ≤ k * encLimit) && p.2.2

/-- At most four distinct stages resident on a cluster (R206). -/
def State.stagesOk (s : State) (c : Nat) : Bool :=
  decide (((s.flowsOn c).flatMap fun p => s.ownerStages p.2.owner).eraseDups.length ≤ 4)

/-- The two sums of a buddy pair (R412), and for a group a buddy group of the same size (R119). -/
def State.pairOk (s : State) (c : Nat) : Bool :=
  let b := buddyOf c
  let k := s.placeSize c
  let p := s.pixSums k ((s.flowsOn c ++ s.flowsOn b).filter (·.2.protect))
  decide (s.protWork c + s.protWork b ≤ s.capOf c) && decide (p.1 ≤ k * decLimit) && decide (p.2.1 ≤ k * encLimit) &&
    ((s.cluster c).group.isNone && (s.cluster b).group.isNone || s.placeSize b == k && (s.cluster b).group.any (·.1 == b))

/-- May flows be placed on the cluster: in service, not draining and not being reloaded? -/
def Cluster.open_ (c : Cluster) : Bool := c.inService && c.drain.isNone && !c.reload

/-- The table of flows with one changed. -/
def State.setFlow (s : State) (n : Nat) (f : Flow) : State := { s with trail := { s.trail with flows := tset s.trail.flows n f } }

/-- Does every rule hold with flow `f`, numbered `n`, on place `c`? -/
def State.fits (s : State) (n : Nat) (f : Flow) (c : Nat) : Bool :=
  let t := s.setFlow n { f with place := c, stopped := false }
  decide (t.load c ≤ t.capOf c) && t.pixOk c && t.stagesOk c &&
    (!f.protect || (t.pairOk c && decide (t.load (buddyOf c) ≤ t.capOf (buddyOf c))))

/-- The places that a flow may take: the group that its job names; the quadrant of its canvas's composer (R259); else
any single cluster (R226). -/
def State.placesFor (s : State) (o : FlowOwner) : List Nat :=
  match s.ownerGroup o with
  | some g => if (List.range (s.placeSize g)).all fun k => (s.cluster (g + k)).open_ then [g] else []
  | none =>
    let singles := (List.range 48).filter fun c => (s.cluster c).open_ && (s.cluster c).group.isNone
    match o with
    | .canvas n => match tget s.canvases n with
      | some v => singles.filter fun c => c / 12 == v.composer
      | none => []
    | _ => singles

/-- The place with the greatest key, the lowest-numbered on a tie. -/
def bestBy (key : Nat → Nat) : List Nat → Option Nat
  | [] => none
  | c :: cs => match bestBy key cs with
    | some d => if key c < key d then some d else some c
    | none => some c

/-- Why no place fits (R227, R206, R412, R111). -/
def State.noPlace (s : State) (n : Nat) (f : Flow) (cs : List Nat) : Nat × Nat :=
  let at_ := fun c => s.setFlow n { f with place := c, stopped := false }
  let isDec := match f.owner with
    | .decode _ => true
    | _ => false
  if !cs.isEmpty && cs.all (fun c => !(at_ c).pixOk c) then (eNospace, if isDec then 0x0A01 else 0x0A02)
  else if !cs.isEmpty && cs.all (fun c => !(at_ c).stagesOk c) then (eNospace, 0x0904)
  else if f.protect && cs.any (fun c => s.fits n { f with protect := false } c) then (eNospace, 0x0E01)
  else (eNospace, 0x0401)

/-- The place of a new or enlarged flow (R111): of those on which it fits, the one with the most free declared capacity. -/
def State.findPlace (s : State) (n : Nat) (f : Flow) : Except (Nat × Nat) Nat :=
  let cs := s.placesFor f.owner
  match bestBy s.freeOf (cs.filter (s.fits n f)) with
  | some c => .ok c
  | none => .error (s.noPlace n f cs)

/-- The place of a flow that becomes protected where it cannot stay (R412): of the pairs on which the sums hold, the one
with the most protected headroom. -/
def State.findPair (s : State) (n : Nat) (f : Flow) : Except (Nat × Nat) Nat :=
  let cs := s.placesFor f.owner
  match bestBy (fun c => s.protHeadroom c * 2 ^ 32 + s.freeOf c) (cs.filter (s.fits n f)) with
  | some c => .ok c
  | none => .error (eNospace, 0x0E01)

/-! ## Moving and ending flows -/

/-- The flow after a move to another place (R116 steps 1 and 2). -/
def Flow.moveTo (f : Flow) (m c : Nat) : Flow :=
  if f.place = c then f else
  { f with place := c, epoch := (f.epoch + 1) % 256, marker := some ⟨f.place, f.epoch, m⟩, taken := false }

/-- The codec frames of a flow that moves go with it (R116, R250). -/
def State.carry (s : State) (o : FlowOwner) (a b : Nat) : State :=
  if a = b then s
  else match o with
    | .decode j => s.carryDec j a b
    | .encode j => s.carryEnc j a b
    | _ => s

/-- Flow `n` goes to a place, its settings those of `f`. -/
def State.putFlow (s : State) (n : Nat) (f : Flow) (c : Nat) : State := (s.setFlow n (f.moveTo s.time.m c)).carry f.owner f.place c

/-- Move a flow to a place. -/
def State.moveFlow (s : State) (n c : Nat) : State :=
  match tget s.trail.flows n with
  | some f => s.putFlow n f c
  | none => s

/-- Without the queued items of the flows that satisfy `p`. -/
def Trail.dropItems (t : Trail) (p : Nat → Bool) : Trail := { t with ready := t.ready.map fun l => l.filter fun i => !p i.flow }

/-- A flow number that no flow has and no item in service carries. -/
def State.freeFlow (s : State) (n : Nat) : Nat → Nat
  | 0 => n
  | fuel + 1 =>
    if (tget s.trail.flows n).isNone && !s.trail.cores.any (fun p => p.2.flow == n) then n else s.freeFlow (n + 1) fuel

/-- The leg that a flow serves alone (R500). -/
def FlowOwner.leg : FlowOwner → Option Nat
  | .legControl n => some n
  | .legAudio n => some n
  | .legEncode n => some n
  | _ => none

/-- The tenant of a flow's object. -/
def State.ownerTenant (s : State) : FlowOwner → Option Nat
  | .legControl n => (s.leg n).map s.legTenant
  | .legAudio n => (s.leg n).map s.legTenant
  | .legEncode n => (s.leg n).map s.legTenant
  | .confMix c => (s.conf c).map (·.tenant)
  | .decode j => (tget s.decJobs j).map (·.tenant)
  | .encode j => (tget s.encJobs j).map (·.tenant)
  | .canvas c => (tget s.canvases c).map (·.tenant)

/-- What the qualifiers of EPOCH_DISCARD match (R500): the leg whose flow it is, if it serves a single leg, and its port. -/
def State.occFlow (s : State) (cl : Nat) (o : FlowOwner) : Occ :=
  { cl := some cl, obj := o.leg, tenant := s.ownerTenant o, unit := (o.leg.bind s.leg).map (·.cfg.port) }

/-- The flow of an owner. -/
def State.flowOf (s : State) (o : FlowOwner) : Option (Nat × Flow) := s.trail.flows.find? fun p => p.2.owner == o

/-- Bring one wanted flow to its declared work and protection, placing or moving it as R111 and R412 state. A soft
owner's work changes without a placement (R203). -/
def State.reflowOne (s : State) (soft : FlowOwner → Bool) (o : FlowOwner) (cyc : Nat) : Except (Nat × Nat) State :=
  match s.flowOf o with
  | none =>
    let n := s.freeFlow 0 (s.trail.flows.length + s.trail.cores.length + 1)
    let f : Flow := { owner := o, cycles := cyc, place := 0, protect := s.serves o }
    match s.findPlace n f with
    | .ok c => .ok (s.setFlow n { f with place := c })
    | .error e => .error e
  | some (n, f) =>
    let p := s.serves o
    let f' := { f with cycles := cyc, protect := p }
    let raised := p && !f.protect
    if (cyc ≤ f.cycles && !raised) || (soft o && !raised) || f.stopped then .ok (s.setFlow n f')
    else if s.fits n f' f.place then .ok (s.setFlow n f')
    else match (if raised then s.findPair n f' else s.findPlace n f') with
      | .ok c => .ok (s.putFlow n f' c)
      | .error e => .error e

/-- Bring every wanted flow of a list into being. -/
def reflowAll (soft : FlowOwner → Bool) : List (FlowOwner × Nat) → State → Except (Nat × Nat) State
  | [], s => .ok s
  | (o, cyc) :: ws, s => match s.reflowOne soft o cyc with
    | .ok t => reflowAll soft ws t
    | .error e => .error e

/-- The flows that no object needs any more end (R137); the protection of the others falls where nothing needs it. -/
def State.endFlows (s : State) (want : List (FlowOwner × Nat)) : State :=
  let gone := fun f : Flow => !want.any fun w => w.1 == f.owner
  let names := (s.trail.flows.filter fun p => gone p.2).map (·.1)
  let t := { s.trail with flows := s.trail.flows.filter fun p => !gone p.2 }
  let s := { s with trail := t.dropItems fun n => names.contains n }
  let flows := tmap (fun f => { f with protect := f.protect && s.serves f.owner }) s.trail.flows
  { s with trail := { s.trail with flows := flows } }

/-- Make the flows follow the objects (R108, R111, R203, R410): the capacities are checked flows first, then clusters
(R133). -/
def State.reflow (s : State) (soft : FlowOwner → Bool) : Except (Nat × Nat) State :=
  let want := s.wanted
  if flowMax < want.length then .error (eNospace, 0x0402)
  else reflowAll soft want (s.endFlows want)

/-- The shares of other legs' audio flows are soft for a command about leg `n` (R203). -/
def softFor (n : Nat) (o : FlowOwner) : Bool :=
  match o with
  | .legAudio k => k != n
  | _ => false

/-- No owner is soft. -/
def noSoft (_ : FlowOwner) : Bool := false

/-- Go on with a command once its flows are placed, or refuse it. -/
def withFlows (s : State) (soft : FlowOwner → Bool) (k : State → Reply) : Reply :=
  match s.reflow soft with
  | .ok t => k t
  | .error (st, det) => .fail st det

/-- The state with its flows in step where that cannot fail: after objects ended. -/
def State.settle (s : State) : State :=
  match s.reflow fun _ => true with
  | .ok t => t
  | .error _ => s.endFlows s.wanted

/-- The cluster that holds an owner's flow. -/
def State.placeOf (s : State) (o : FlowOwner) : Option Nat := (s.flowOf o).map (·.2.place)

/-- An occurrence that arises on the cluster that runs an owner's work (R500). -/
def State.occOn (s : State) (f : FlowOwner) (o : Occ) : Occ := { o with cl := s.placeOf f }

/-- Is the owner's flow stopped for want of a cluster (R416)? -/
def State.stoppedFlow (s : State) (o : FlowOwner) : Bool := (s.flowOf o).any (·.2.stopped)

/-- A cluster's least protected headroom among all buddy pairs (R430). -/
def State.leastHeadroom (s : State) : Nat := ((List.range 24).map s.protHeadroom).foldl min clusterCap

end Sys2Proof.Machine
end

