-- ==== Sys2Proof/Machine/Slots.lean ====
section
/-! DEFINITION. What leg commands and forwarding share: RTCP packets to a leg, key requests (R178, R241), and the slot
changes of R158, R159, R181 and R183. -/

namespace Sys2Proof.Machine

abbrev evFwdLayer : Nat := 0x0801
abbrev evFwdSrcGone : Nat := 0x0802
abbrev evFwdSwitchSlow : Nat := 0x0803

/-! ## Packets the module makes -/

/-- Hand a packet to the cipher farm (R175). -/
def State.pushOut (s : State) (p : OutPkt) : State :=
  { s with outQ := s.outQ ++ [{ p with gen := ((s.leg p.leg).map (·.gen)).getD 0 }] }

/-- RFC 4585 NACK entries that cover numbers in ascending order: each names one number and any of the sixteen after. -/
def nackEntries : List Nat → Nat → Nat
  | [], _ => 0
  | q :: qs, covered => if covered ≠ 0 && q < covered then nackEntries qs covered else nackEntries qs (q + 17) + 1

/-- Bytes of an RTCP packet (RFC 3550, 4585, 5104, 8888): PRESUMED, log entry 17. -/
def rtcpLen : Rtcp → Nat
  | .sr _ _ _ _ bs => 28 + 24 * bs.length
  | .rr _ bs => 8 + 24 * bs.length
  | .sdes items => 4 + (items.map fun i => (4 + 2 + i.2.length + 1 + 3) / 4 * 4).sum
  | .bye l => 4 + 4 * l.length
  | .nack _ l => 12 + 4 * nackEntries l 0
  | .feedback _ l => (20 + 2 * ((l.length + 6) / 7) + (l.filter fun a => a.2.isSome).length + 3) / 4 * 4
  | .pli _ => 12
  | .fir l => 12 + 8 * l.length
  | .remb _ => 24
  | .other => 8

/-- Queue an RTCP packet to a leg (R173): egress is produced in LS_LIVE only (R126), and not for a yielded leg (R425). -/
def State.sendRtcp (s : State) (leg : Nat) (ps : List Rtcp) : State :=
  match s.leg leg with
  | some l =>
    if l.state ≠ 1 then s
    else s.pushOut { leg := leg, prio := 3, isRtcp := true, rtcp := ps, payloadLen := (ps.map rtcpLen).sum }
  | none => s

/-- The bytes of a CNAME held in four words (R184): padding removed. -/
def cnameBytes (ws : List Nat) : List Byte :=
  (ws.flatMap fun w => [BitVec.ofNat 8 (w / 2 ^ 24), BitVec.ofNat 8 (w / 2 ^ 16), BitVec.ofNat 8 (w / 2 ^ 8), BitVec.ofNat 8 w]).filter
    fun b => b ≠ 0#8

/-- Send RTCP as soon as it is due (R173): reduced-size when RSIZE is set, else behind an RR and the CNAME (log entry 17). -/
def State.sendFb (s : State) (leg : Nat) (ps : List Rtcp) : State :=
  match s.leg leg with
  | some l =>
    let head : List Rtcp := [.rr l.pol.localSsrc [], .sdes [(l.pol.localSsrc, cnameBytes l.pol.cname)]]
    s.sendRtcp leg (if l.pol.rsize then ps else head ++ ps)
  | none => s

/-! ## Sources -/

/-- Change a track of a leg. -/
def Leg.modTrack (l : Leg) (t : Nat) (g : Track → Track) : Leg := { l with tracks := tupd l.tracks t g }
/-- Change encoding `e` of a track. -/
def Track.modEnc (t : Track) (e : Nat) (g : Enc → Enc) : Track :=
  match t.encs[e]? with
  | some x => { t with encs := t.encs.set e (g x) }
  | none => t
/-- Change the slot of a leg. -/
def Leg.modSlot (l : Leg) (k : Nat) (g : Slot → Slot) : Leg := { l with slots := tupd l.slots k g }
/-- Change a slot. -/
def State.modSlot (s : State) (leg k : Nat) (g : Slot → Slot) : State := s.modLeg leg fun l => l.modSlot k g

/-- The track that a source names (R152, R239). -/
def State.srcTrack (s : State) (src : SlotSrc) : Option Track :=
  match src with
  | .track n g t => match s.leg n with
    | some l => if l.gen = g then tget l.tracks t else none
    | none => none
  | .job j => tget s.jobTracks j

/-- Change the track that a source names. -/
def State.modSrc (s : State) (src : SlotSrc) (g : Track → Track) : State :=
  match src with
  | .track n _ t => s.modLeg n fun l => l.modTrack t g
  | .job j => { s with jobTracks := tupd s.jobTracks j g }

/-- The encoding of a track that spatial number `sp` names (R154): its index in a simulcast track, else the only one. -/
def Track.encOf (t : Track) (sp : Nat) : Nat := if t.layering = 2 then min sp (t.encs.length - 1) else 0

/-! ## Key requests -/

/-- Does a request for a key picture of a job's encoding find the record free, and is it merged (R241)? -/
def Encoding.request (e : Encoding) (m : Nat) : Bool × Encoding :=
  if e.keyCoding || e.keyPending then (true, e)
  else (e.lastKey.any (fun t => m < t + 500), { e with keyPending := true })

/-- A key request to an encode job (R239, R241). -/
def State.jobKey (s : State) (j enc : Nat) : State :=
  match tget s.encJobs j with
  | none => s
  | some e => match e.encs[enc]? with
    | none => s
    | some x =>
      let r := x.request s.time.m
      let s := { s with encJobs := tset s.encJobs j { e with encs := e.encs.set enc r.2 } }
      if r.1 then s.occur srcVidKeyMerged (s.occOn (.encode j) { obj := some j, tenant := some e.tenant }) else s

/-- Send the upstream request of an encoding: a FIR if any request was one, else a PLI (R178). -/
def State.sendKey (s : State) (leg track enc : Nat) (e : Enc) (fir : Bool) : State :=
  let s := s.modLeg leg fun l => l.modTrack track fun t => t.modEnc enc fun e =>
    { e with keyLast := some s.time.m, keyMerged := false, keyFir := false, firSeq := if fir then (e.firSeq + 1) % 256 else e.firSeq }
  s.sendFb leg [if fir then .fir [e.ssrc] else .pli e.ssrc]

/-- A key request for an encoding of a source (R178): sent at once, or merged while KEY_MIN has not passed. -/
def State.requestKey (s : State) (src : SlotSrc) (enc : Nat) (fir : Bool) : State :=
  match src with
  | .job j => s.jobKey j enc
  | .track n _ t => match s.leg n, s.srcTrack src with
    | some l, some tr => match tr.encs[enc]? with
      | some e =>
        if e.keyLast.any (fun k => s.time.m < k + l.pol.keyMin) then
          (s.modLeg n fun l => l.modTrack t fun tr => tr.modEnc enc fun e => { e with keyMerged := true, keyFir := e.keyFir || fir }).occur
            srcKeyMerged (s.occOn (.legControl n) (s.occLeg n))
        else s.sendKey n t enc e (fir || e.keyFir)
      | none => s
    | _, _ => s

/-! ## Slots -/

/-- EV_FWD_LAYER of a slot, while the leg asks for it (R188). -/
def State.layerEvent (s : State) (leg k cause : Nat) : State :=
  match s.leg leg with
  | some l => match tget l.slots k with
    | some v =>
      if !l.pol.layerEv then s
      else s.postLeg leg { code := evFwdLayer, d0 := k + 256 * v.curS + 4096 * v.curT + 65536 * b2n (v.state == 3 || v.state == 6)
                           d1 := l.est.a / 1000, d2 := cause }
    | none => s
  | none => s

/-- A video slot enters WAIT_KEY and asks for a key picture of the encoding it will forward; audio never waits (R158,
R159). -/
def State.waitKey (s : State) (leg k : Nat) : State :=
  match s.leg leg with
  | none => s
  | some l => match tget l.slots k with
    | none => s
    | some v =>
      if v.media = 0 then s.modSlot leg k fun v => { v with state := 2 }
      else
        let s := s.modSlot leg k fun v => { v with state := 1, pendLayer := none }
        match s.srcTrack v.src with
        | some t => s.requestKey v.src (t.encOf v.wantS) false
        | none => s

/-- A new fan-out list of the source: its route epoch increments (R181). -/
def State.bumpRoute (s : State) (src : SlotSrc) : State := s.modSrc src fun t => { t with routeEpoch := (t.routeEpoch + 1) % 256 }

/-- The sources whose fan-out lists hold a slot: its own, and that of a pending re-point (R182). -/
def Slot.lists (v : Slot) : List SlotSrc := v.src :: ((v.pendSrc.map (·.1)).toList.filter fun x => x ≠ v.src)

/-- End a subscription (R183): its stream ends at the flip, with a BYE if SEND_BYE is set. The lists that held it are built
anew, but those of `but`, to which the command goes on to add one (R181). -/
def State.endSlot (s : State) (leg k : Nat) (but : List SlotSrc) : State :=
  match s.leg leg with
  | none => s
  | some l => match tget l.slots k with
    | none => s
    | some v =>
      let s := (v.lists.filter fun x => !but.contains x).foldl (fun s x => s.bumpRoute x) s
      let s := s.modLeg leg fun l => { l with slots := tdel l.slots k }
      if l.pol.sendBye && v.stream.sent then
        s.sendFb leg [.bye ([v.outSsrc] ++ if v.outRtx ≠ 0 then [v.outRtx] else [])]
      else s

/-- Remove a subscription (R183). -/
def State.removeSlot (s : State) (leg k : Nat) : State := s.endSlot leg k []

/-- Remove every slot of a leg that satisfies `p`. -/
def State.removeSlots (s : State) (leg : Nat) (p : Slot → Bool) : State :=
  match s.leg leg with
  | some l => (l.slots.filter fun x => p x.2).foldl (fun s x => s.removeSlot leg x.1) s
  | none => s

/-- The slot's source is gone (R183). -/
def State.slotGone (s : State) (leg k : Nat) (v : Slot) : State :=
  let s := s.modSlot leg k fun v => { v with state := 5, pendLayer := none, pendSrc := none }
  match v.src with
  | .track n _ t => s.postLeg leg { code := evFwdSrcGone, d0 := k, d1 := n, d2 := t }
  | .job j => s.postLeg leg { code := evFwdSrcGone, d0 := k, d1 := j }

/-- Does the slot point at a track of leg `n` that satisfies `p`? -/
def Slot.reads (v : Slot) (n : Nat) (p : Nat → Bool) : Bool :=
  match v.src with
  | .track m _ t => m == n && p t
  | .job _ => false

/-- Is a source a track of leg `n` that satisfies `p`? -/
def SlotSrc.isTrack (x : SlotSrc) (n : Nat) (p : Nat → Bool) : Bool :=
  match x with
  | .track m _ t => m == n && p t
  | .job _ => false

/-- Every slot of another leg that points at a track of leg `n` satisfying `p` loses its source (R135, R137, R183); a
re-point that waits for it is dropped. -/
def State.sourceLost (s : State) (n : Nat) (p : Nat → Bool) : State :=
  s.legs.foldl (fun s x => if x.1 = n then s else
    x.2.slots.foldl (fun s v =>
      if v.2.pendSrc.any (fun q => q.1.isTrack n p) then s.modSlot x.1 v.1 fun v => { v with pendSrc := none }
      else if v.2.reads n p && v.2.state ≠ 5 && v.2.pendSrc.isNone then s.slotGone x.1 v.1 v.2
      else s) s) s

/-- Has the track a subscriber: a slot on its fan-out list, which one whose source is gone has left (R181 to R183)? -/
def State.subscribed (s : State) (n t : Nat) : Bool :=
  s.legs.any fun x => x.2.slots.any fun v => (v.2.reads n (· == t) && v.2.state ≠ 5) || v.2.pendSrc.any fun q => q.1.isTrack n (· == t)

/-- Does the leg's medium receive in Forward mode, or send (R124)? -/
def LegCfg.fwdRecv (c : LegCfg) (media : Nat) : Bool :=
  if media = 0 then c.audMode == 1 && hasBit c.audDir 0 else c.vidMode == 1 && hasBit c.vidDir 0
def LegCfg.fwdSend (c : LegCfg) (media : Nat) : Bool :=
  if media = 0 then c.audMode == 1 && hasBit c.audDir 1 else c.vidMode == 1 && hasBit c.vidDir 1
/-- Does the leg send its video to composition, or receive an encoded canvas (R124)? -/
def LegCfg.compRecv (c : LegCfg) : Bool := c.vidMode == 2 && hasBit c.vidDir 0
def LegCfg.compSend (c : LegCfg) : Bool := c.vidMode == 2 && hasBit c.vidDir 1

/-- May the slot go on under the leg's modes (R157, R183, R239)? -/
def LegCfg.allows (c : LegCfg) (v : Slot) : Bool :=
  match v.src with
  | .job _ => c.compSend
  | .track _ _ _ => if v.homeJob.isSome then c.compSend else c.fwdSend v.media

/-! ## Leg states -/

/-- A leg goes to another state (R127); on its return to LS_LIVE its video slots wait for a key picture (R159). -/
def State.legGoes (s : State) (leg new cause : Nat) : State :=
  match s.leg leg with
  | none => s
  | some l =>
    let t := s.legTo leg new cause
    if new = 1 && l.state ≠ 1 then
      (l.slots.filter fun x => x.2.media = 1 && (x.2.state == 1 || x.2.state == 2 || x.2.state == 6)).foldl (fun s x => s.waitKey leg x.1) t
    else t

/-- What the keys and modes of a leg make of its state (R127). -/
def State.rekeyed (s : State) (leg : Nat) : State :=
  match s.leg leg with
  | none => s
  | some l =>
    if l.state = 0 && l.fullyKeyed then s.legGoes leg 1 1
    else if (l.state = 1 || l.state = 3) && !l.fullyKeyed then s.legGoes leg 0 1
    else s

end Sys2Proof.Machine
end

