-- ==== Sys2Proof/Machine/Partner.lean ====
section
/-! DEFINITION. Messages to the partner module about reservations (R420, R422), and the needs of a leg. -/

namespace Sys2Proof.Machine

/-- The link group of a peer module (R384). -/
def State.peerGroup (s : State) (peer : Nat) : Option Nat := (tget s.casc.peers peer).map (·.group)

/-- The partner's link group, while a partner is enabled (R433). -/
def State.partnerGroup (s : State) : Option Nat := if s.prot.en then s.peerGroup s.prot.partner else none

/-- Is the group UP (R374)? -/
def State.groupUp (s : State) (g : Nat) : Bool := (s.group g).st == 3

/-- Queue a VC3 partner message on a group (R372, R422); it is lost where the group is not UP. -/
def State.sendControl (s : State) (g typ : Nat) (r : Reserve) (status : Nat) : State :=
  if s.groupUp g then
    s.modGroup g fun x => { x with cells := { x.cells with vc3 := x.cells.vc3 ++ [{ msg := .control typ r status, cells := 1, since := s.time.m }] } }
  else s

/-- The needs of a leg at the partner (R420): itself, its mixed place, its decode place and its declared work. -/
def State.legNeeds (s : State) (n : Nat) (l : Leg) (tag : Nat) : Reserve :=
  { tag := tag, leg := n, legs := 1, mixed := b2n l.cfg.hears, decode := b2n l.cfg.feeds
    cycles := ((s.legFlows n l).map (·.2)).sum }

/-- Tell the partner that a PROT_PARTNER leg needs no reservation any more (R420). -/
def State.releaseLeg (s : State) (n : Nat) (l : Leg) : State :=
  match s.partnerGroup with
  | none => s
  | some g =>
    let s := { s with ctl := { s.ctl with resTag := (s.ctl.resTag + 1) % 65536 } }
    s.sendControl g 3 (s.legNeeds n l s.ctl.resTag) 0

end Sys2Proof.Machine
end

