-- ==== Sys2Proof/Machine/Legs.lean ====
section
/-! DEFINITION. Conferences and legs (R122 to R138): their commands, the consent timeout, the queue timeout (R141), and the
freeing of a destroyed leg's ID. -/

namespace Sys2Proof.Machine

/-! ## Checks that leg commands share (R46, R133) -/

/-- The leg that word 1 names is in use. -/
def legUsed (s : State) (leg : Nat) : Bool × Nat × Nat := badArg (s.leg leg).isNone 1
/-- The leg is of a tenant that the issuer may touch, and the generation is its own (R51, R133). -/
def legObj (s : State) (issuer leg gen : Nat) : List (Bool × Nat × Nat) :=
  match s.leg leg with
  | some l => [(!s.mayTouch issuer (s.legTenant l), eTenant, 2), (decide (l.gen ≠ gen), eStale, 1)]
  | none => []
/-- The conference is of a tenant that the issuer may touch. -/
def confObj (s : State) (issuer conf : Nat) : Bool × Nat × Nat :=
  ((s.conf conf).any fun c => !s.mayTouch issuer c.tenant, eTenant, 2)

/-- The decode places that the module's conferences would reserve are too many (R195). -/
def placesFull (s : State) : Bool × Nat × Nat := (decide (16384 < s.decodePlaces), eNospace, 0x0901)
/-- The mixed legs would be too many (R19). -/
def mixedFull (s : State) : Bool × Nat × Nat := (decide (8192 < s.mixedLegs), eNospace, 0x0602)

/-! ## Conferences -/

/-- May legs of the tenant attach to the group node (R338, R350)? -/
def Node.takes (n : Node) (tenant : Nat) : Bool := n.tenant == 0xFFF || n.tenant == tenant
/-- Takes the conference's group node its legs (R133, R350)? -/
def State.groupTakes (s : State) (conf : Nat) : Bool := (s.conf conf).all fun k => (s.node k.group).takes k.tenant

/-- CONF.CREATE (R129): the lowest free ID. -/
def doConfCreate (ch : Nat) (s : State) : State := runCmd ch 0x0501 (fun c s =>
  let own := s.tenantOf c.issuer
  let tenant := if isPF c.issuer then c.f 1 0 12 else own.getD 0
  let free := firstFree s.confs 0 16384
  let grp := c.f 2 0 12
  checks [reserved c 1 13 19, reserved c 2 12 20,
      (!(s.node grp).takes tenant, eTenant, 2),
      (free.isNone, eNospace, 0x0501)]
    (let id := free.getD 0
     let t := { s with confs := tset s.confs id { tenant := tenant, mix := c.bit 1 12, group := grp, creator := c.issuer } }
     withFlows t noSoft fun t => okWords t [id])) s

/-- Has a leg of the conference audio mode Mix, or does a route of any leg name it (R133)? -/
def State.mixInUse (s : State) (conf : Nat) : Bool :=
  s.legs.any fun p => (p.2.cfg.conf == conf && p.2.cfg.audMode == 2) ||
    p.2.aud.cfg.inConf == conf || p.2.aud.cfg.outConf == conf

/-- The settings that a leg's shaper has, or is about to have (R335). -/
def Shaper.next (h : Shaper) : ShpSet := h.pend.getD ⟨h.group, h.weight, h.fixed, h.rate, h.depth⟩

/-- Attach a leg's shaper to another group node from its next refill (R130, R335). -/
def Leg.regroup (l : Leg) (g : Nat) : Leg := { l with shaper := { l.shaper with pend := some { l.shaper.next with group := g } } }

/-- The group node that a leg's shaper is, or is about to be, attached to. -/
def Shaper.groupNow (h : Shaper) : Nat := h.next.group

/-- The rate that the estimate gives a leg's shaper, in kb/s (R165, R332). -/
def Leg.autoRate (l : Leg) : Nat := l.est.a * l.pol.shapePct / 100000

/-- The rate that an estimate gives the leg's tier 0 shaper from its next refill (R165, R335), unless SHP.NODE has fixed it. -/
def Leg.setShaper (l : Leg) : Leg :=
  if l.shaper.next.fixed then l else { l with shaper := { l.shaper with pend := some { l.shaper.next with rate := l.autoRate } } }

/-- Move the shapers of the conference's legs that are attached to its old group (R130). -/
def State.regroupLegs (s : State) (conf old new : Nat) : State :=
  { s with legs := tmap (fun l => if l.cfg.conf = conf && l.shaper.groupNow = old then l.regroup new else l) s.legs }

/-- CONF.MODIFY (R130). -/
def doConfModify (ch : Nat) (s : State) : State := runCmd ch 0x0502 (fun c s =>
  let id := c.f 1 0 14
  let sel := c.bit 1 14
  let grp := c.f 2 0 12
  match s.conf id with
  | none => .fail eBadarg 1
  | some f =>
    checks [reserved c 1 15 17, if sel then reserved c 2 12 20 else reserved c 2 1 31, confObj s c.issuer id,
        (sel && !(s.node grp).takes f.tenant, eTenant, 2),
        (!sel && !c.bit 2 0 && f.mix && s.mixInUse id, eState, 2)]
      (if sel then ok ((s.modConf id fun f => { f with group := grp }).regroupLegs id f.group grp)
       else withFlows (s.modConf id fun f => { f with mix := c.bit 2 0 }) noSoft ok)) s

/-! ## Ending a leg -/

/-- A leg that leaves or ends ramps out of every active set it is in, over its last block repeated (R210). -/
def State.rampOut (s : State) (leg : Nat) : State :=
  let blk := ((s.leg leg).map (·.aud.inp.cur.samples)).getD []
  { s with confs := tmap (fun f => { f with active := f.active.map fun a =>
      if a.site.isNone && a.leg = leg then { a with ramp := 2, block := blk } else a }) s.confs }

/-- Key contexts that a leg holds (R315). -/
def LegKeys.contexts (k : LegKeys) : Nat := b2n k.rxCur.isSome + b2n k.rxNext.isSome + b2n k.txCur.isSome + b2n k.txNext.isSome

/-- Destroy a leg (R137): it is no longer classified; its queue, shaper, policer, tracks and Hamper streams, subscriptions,
stages and timers go; its key contexts are retired (R324); its subscribers lose their source. -/
def State.destroyLeg (s : State) (leg : Nat) : State :=
  match s.leg leg with
  | none => s
  | some l =>
    let s := if l.prot = 2 then s.releaseLeg leg l else s
    let s := (s.flush leg).rampOut leg
    let s := s.sourceLost leg fun _ => true
    let s := l.slots.foldl (fun s x => s.bumpRoute x.2.src) s
    let ts : List Timer := [.consent leg, .rtcp leg, .fallbackEnd leg]
    let s := ts.foldl (fun s t => s.stopTimer t) s
    let s := { s with
      legs := tdel s.legs leg
      dying := tset s.dying leg s.time.m
      keyDying := if l.keys.contexts = 0 then s.keyDying else tset s.keyDying leg (s.time.m, s.legTenant l, l.keys.contexts)
      stageAtts := s.stageAtts.filter fun a => !(a.point ≠ 1 && a.obj == leg) }
    if l.keys.contexts = 0 then s else s.setTimer (s.time.m + 2) (.keyFree leg)

/-- CONF.DESTROY (R131): with FORCE every leg of it goes first, in ascending order, as one atomic command. -/
def doConfDestroy (ch : Nat) (s : State) : State := runCmd ch 0x0503 (fun c s =>
  let id := c.f 1 0 14
  let mine := (s.legs.filter fun p => p.2.cfg.conf == id).map (·.1)
  checks [badArg (s.conf id).isNone 1, reserved c 1 14 2, reserved c 1 17 15, confObj s c.issuer id,
      (!c.bit 1 16 && !mine.isEmpty, eState, 5)]
    (let t := mine.foldl (fun s n => s.destroyLeg n) s
     let t := { t with confs := tdel t.confs id, stageAtts := t.stageAtts.filter fun a => !(a.point == 1 && a.obj == id) }
     okWords t.settle [mine.length])) s

/-- LEG.DESTROY (R137). -/
def doLegDestroy (ch : Nat) (s : State) : State := runCmd ch 0x0603 (fun c s =>
  let leg := c.f 1 0 16
  checks ([legUsed s leg, reserved c 1 24 8] ++ legObj s c.issuer leg (c.f 1 16 8))
    (ok (s.destroyLeg leg).settle)) s

/-- LEG_ID_FREE: at the boundary of tick T + 2 after a destroy the ID returns to the free pool (R137). -/
def doLegIdFree (leg : Nat) (s : State) : State :=
  match tget s.dying leg with
  | some t => if t + 2 ≤ s.time.m then { s with dying := tdel s.dying leg } else s
  | none => s

/-! ## Creating a leg -/

/-- The classification values of a leg (R125). -/
def LegCfg.key (c : LegCfg) : Nat × Option Nat × Bool × Nat × Nat × Nat :=
  (c.port, if c.vlanEn then some c.vlanId else none, c.ipv6, c.laddr * 65536 + c.lport, c.raddr, c.rport)

/-- Does another leg use the classification values (R133)? -/
def State.keyUsed (s : State) (me : Option Nat) (c : LegCfg) : Bool :=
  s.legs.any fun p => some p.1 ≠ me && decide (p.2.cfg.key = c.key)

/-- An address of four words, the first address byte first; for IPv4 the first word only (R132). -/
def addrOf (ipv6 : Bool) (a b d e : Word) : Nat :=
  if ipv6 then ((a.toNat * 2 ^ 32 + b.toNat) * 2 ^ 32 + d.toNat) * 2 ^ 32 + e.toNat else a.toNat

/-- The settings in the words of LEG.CREATE (R132). -/
def legCfgOf (c : Ctx) : LegCfg :=
  let v6 := c.bit 1 20
  { conf := c.f 1 0 14, kind := c.f 1 14 2, port := c.f 1 16 4, ipv6 := v6, audMode := c.f 2 0 2, audDir := c.f 2 2 2
    vidMode := c.f 2 4 2, vidDir := c.f 2 6 2, vlanEn := c.bit 3 15, vlanId := c.f 3 0 12, pcp := c.f 3 12 3, dscp := c.f 3 16 6
    lport := c.f 4 0 16, rport := c.f 4 16 16, qto := c.f 5 0 16, consentTo := c.f 5 16 16, qlimit := c.f 6 16 16
    mac := c.f 6 0 16 * 2 ^ 32 + c.f 7 0 32, laddr := addrOf v6 (c.w 8) (c.w 9) (c.w 10) (c.w 11)
    raddr := addrOf v6 (c.w 12) (c.w 13) (c.w 14) (c.w 15) }

/-- A queue limit is 0 or 16 to 4,096 (R132). -/
def qlimitOk (q : Nat) : Bool := q == 0 || (decide (16 ≤ q) && decide (q ≤ 4096))

/-- Is the port not configured, or released (R133)? -/
def State.portOut (s : State) (p : Nat) : Bool := (s.port p).cfg.mode == 0 || (s.port p).released

/-- Words that an IPv4 address leaves unused are 0 (R132). -/
def unusedWords (c : Ctx) (v6 : Bool) (ks : List Nat) : List (Bool × Nat × Nat) :=
  ks.map fun k => badArg (!v6 && c.w k ≠ 0#32) k

/-- A new leg of generation `gen` (R132): LS_CONFIGURED, reset settings, its shaper on its conference's group. -/
def newLeg (s : State) (cfg : LegCfg) (gen creator : Nat) : Leg :=
  let grp := ((s.conf cfg.conf).map (·.group)).getD 0
  { cfg := cfg, gen := gen, creator := creator, est := { incSince := s.time.m, lastTw := s.time.m, lastCc := s.time.m, lastRr := s.time.m }, shaper := { group := grp, tokens := 16384 * 256 }
    aud := { cfg := { inConf := cfg.conf, outConf := cfg.conf, enc := { codec := if cfg.kind = 1 then 15 else 0 } }, out := { enc := { codec := if cfg.kind = 1 then 15 else 0 } } } }

/-- The generation of a leg ID's next allocation (R122). -/
def State.nextGen (s : State) (id : Nat) : Nat := (tget s.gens id).elim 0 fun g => (g + 1) % 256

/-- The interval to the leg's next RTCP packet (R173): RTCP_IV times a factor drawn from 0.5 to 1.5. -/
def State.rtcpTimer (s : State) (leg : Nat) : State :=
  match s.leg leg with
  | none => s
  | some l =>
    let p := s.draw (l.pol.rtcpIv + 1)
    let due := s.time.m + max 1 (l.pol.rtcpIv / 2 + p.1)
    (p.2.modLeg leg fun l => { l with rtcpDue := some due }).setTimer due (.rtcp leg)

/-- Put a new leg in place. -/
def State.addLeg (s : State) (id : Nat) (l : Leg) : State :=
  ({ s with legs := tset s.legs id l, gens := tset s.gens id l.gen }).rtcpTimer id

/-- The lowest leg ID that is neither in use nor waiting to be freed (R122, R137). -/
def State.freeLeg (s : State) (n : Nat) : Nat → Option Nat
  | 0 => none
  | fuel + 1 => if (tget s.legs n).isNone && (tget s.dying n).isNone then some n else s.freeLeg (n + 1) fuel

/-- LEG.CREATE (R132). -/
def doLegCreate (ch : Nat) (s : State) : State := runCmd ch 0x0601 (fun c s =>
  let cfg := legCfgOf c
  let free := s.freeLeg 0 65536
  let id := free.getD 0
  let gen := s.nextGen id
  let t := s.addLeg id (newLeg s cfg gen c.issuer)
  checks ([badArg ((s.conf cfg.conf).isNone || decide (1 < cfg.kind)) 1, reserved c 1 21 11,
      badArg (cfg.audMode == 3 || cfg.vidMode == 3) 2, reserved c 2 8 24, reserved c 3 22 10,
      badArg (!qlimitOk cfg.qlimit) 6] ++ unusedWords c cfg.ipv6 [9, 10, 11, 13, 14, 15] ++
      [confObj s c.issuer cfg.conf, (!s.groupTakes cfg.conf, eTenant, 2),
       (cfg.audMode == 2 && !(s.conf cfg.conf).any (·.mix), eState, 2), (s.keyUsed none cfg, eState, 3),
       (s.portOut cfg.port, eState, 4), (free.isNone, eNospace, 0x0601), mixedFull t, placesFull t])
    (withFlows t (softFor id) fun t => okWords t [id + 65536 * gen])) s

/-! ## Modifying a leg -/

/-- The length of each form of LEG.MODIFY (R134). -/
def legModifyLen (sel : Nat) : Nat := [2, 2, 3, 2, 3, 6, 2].getD sel 0

/-- What a change of media modes does to slots and sources (R183, R239). -/
def State.modesChanged (s : State) (leg : Nat) (old new : LegCfg) : State :=
  let s := s.removeSlots leg fun v => !new.allows v
  [0, 1].foldl (fun s m =>
    if old.fwdRecv m && !new.fwdRecv m then
      s.sourceLost leg fun t => ((s.leg leg).bind fun l => tget l.tracks t).any fun x => x.media == m
    else s) s

/-- LEG.MODIFY SELECT 0: media modes (R134, R127). -/
def legModes (c : Ctx) (s : State) (leg : Nat) (l : Leg) : Reply :=
  let cfg := { l.cfg with audMode := c.f 2 0 2, audDir := c.f 2 2 2, vidMode := c.f 2 4 2, vidDir := c.f 2 6 2 }
  let fix := fun x : Leg => { x with
    cfg := cfg
    aud := if x.cfg.feeds && cfg.feeds then x.aud else { x.aud with inp := {}, det := {} } }
  let t := s.modLeg leg fix
  checks [badArg (cfg.audMode == 3 || cfg.vidMode == 3 || c.f 2 8 24 ≠ 0) 2]
    (checks (legObj s c.issuer leg (c.f 1 16 8) ++
        [(decide (cfg = l.cfg), eAlreadyDone, 0), (cfg.audMode == 2 && !(s.conf cfg.conf).any (·.mix), eState, 2),
         mixedFull t, placesFull t])
      (withFlows ((if l.cfg.feeds && !cfg.feeds then s.rampOut leg else s).modLeg leg fix) (softFor leg) fun t =>
        ok ((t.modesChanged leg l.cfg cfg).rekeyed leg)))

/-- The leg's send keys have refused (R316 code 4). -/
def Leg.rekeyNeeded (l : Leg) : Bool := l.keys.rekey

/-- LEG.MODIFY SELECT 1: hold (R127, R128). -/
def legHold (c : Ctx) (s : State) (leg : Nat) (l : Leg) : Reply :=
  let hold := c.bit 2 0
  checks ([reserved c 2 1 31] ++ legObj s c.issuer leg (c.f 1 16 8) ++
      [(hold == (l.state == 2), eAlreadyDone, 0), (hold && l.state == 0, eState, 6), (!hold && l.rekeyNeeded, eRekey, 0)])
    (ok (s.legGoes leg (if hold then 2 else if l.fullyKeyed then 1 else 0) 0))

/-- LEG.MODIFY SELECT 2: queue and consent (R128, R134). -/
def legQueueCfg (c : Ctx) (s : State) (leg : Nat) (l : Leg) : Reply :=
  let cfg := { l.cfg with qto := c.f 2 0 16, consentTo := c.f 2 16 16, qlimit := c.f 3 16 16 }
  checks ([badArg (!qlimitOk cfg.qlimit || c.f 3 0 16 ≠ 0) 3] ++ legObj s c.issuer leg (c.f 1 16 8) ++
      [(decide (cfg = l.cfg), eAlreadyDone, 0)])
    (let t := s.modLeg leg fun x => { x with cfg := cfg }
     ok (if cfg.consentTo = l.cfg.consentTo then t else t.consentTimer leg))

/-- A change of a leg's path (R136): its epoch increments. -/
def State.newPath (s : State) (leg : Nat) (cfg : LegCfg) : State :=
  s.modLeg leg fun x => { x with cfg := cfg, pathEpoch := (x.pathEpoch + 1) % 256 }

/-- LEG.MODIFY SELECT 3, 4 and 5: marking, next hop, remote endpoint (R134, R136). -/
def legPath (c : Ctx) (s : State) (leg : Nat) (l : Leg) (args : List (Bool × Nat × Nat)) (cfg : LegCfg) : Reply :=
  checks (args ++ legObj s c.issuer leg (c.f 1 16 8) ++ [(decide (cfg = l.cfg), eAlreadyDone, 0), (s.keyUsed (some leg) cfg, eState, 3)])
    (ok (s.newPath leg cfg))

/-- LEG.MODIFY SELECT 6: another conference of the same tenant (R135). -/
def legMove (c : Ctx) (s : State) (leg : Nat) (l : Leg) : Reply :=
  let new := c.f 2 0 14
  let old := l.cfg.conf
  let there := fun x => if x = old then new else x
  let move := fun x : Leg =>
    let y := { x with
      cfg := { x.cfg with conf := new }
      aud := { x.aud with cfg := { x.aud.cfg with inConf := there x.aud.cfg.inConf, outConf := there x.aud.cfg.outConf } } }
    if some y.shaper.groupNow = (s.conf old).map (·.group) then y.regroup (((s.conf new).map (·.group)).getD 0) else y
  let t := s.modLeg leg move
  let moves := decide (some l.shaper.groupNow = (s.conf old).map (·.group))
  checks ([reserved c 2 14 18, badArg (s.conf new).isNone 1] ++ legObj s c.issuer leg (c.f 1 16 8) ++
      [(decide ((s.conf new).map (·.tenant) ≠ (s.conf old).map (·.tenant)), eTenant, 2), (new == old, eAlreadyDone, 0),
       (moves && !s.groupTakes new, eTenant, 2),
       (l.cfg.audMode == 2 && !(s.conf new).any (·.mix), eState, 2), placesFull t])
    (let s' := if l.aud.cfg.inConf = old then s.rampOut leg else s
     let s' := (s'.removeSlots leg fun v => match v.src with
       | .track _ _ _ => true
       | .job _ => false).sourceLost leg fun _ => true
     withFlows (s'.modLeg leg move) (softFor leg) ok)

/-- LEG.MODIFY (R134). -/
def doLegModify (ch : Nat) (s : State) : State := runCmd ch 0x0602 (fun c s =>
  let leg := c.f 1 0 16
  let sel := c.f 1 24 4
  let v6 := ((s.leg leg).map (·.cfg.ipv6)).getD false
  checks [badArg (decide (6 < sel)) 1, badLen c (legModifyLen sel), reserved c 1 28 4]
    (match s.leg leg with
     | none => .fail eBadarg 1
     | some l => match sel with
       | 0 => legModes c s leg l
       | 1 => legHold c s leg l
       | 2 => legQueueCfg c s leg l
       | 3 => legPath c s leg l [reserved c 2 22 10]
           { l.cfg with vlanEn := c.bit 2 15, vlanId := c.f 2 0 12, pcp := c.f 2 12 3, dscp := c.f 2 16 6 }
       | 4 => legPath c s leg l [reserved c 2 16 16] { l.cfg with mac := c.f 2 0 16 * 2 ^ 32 + c.f 3 0 32 }
       | 5 => legPath c s leg l ([reserved c 2 16 16] ++ unusedWords c v6 [4, 5, 6])
           { l.cfg with rport := c.f 2 0 16, raddr := addrOf v6 (c.w 3) (c.w 4) (c.w 5) (c.w 6) }
       | _ => legMove c s leg l)) s

/-! ## Statistics -/

/-- The KEY state code of a leg (R316). -/
def LegKeys.code (k : LegKeys) : Nat :=
  if k.rekey then 4
  else if k.rxNext.isSome || k.txNext.isSome then 3
  else b2n k.rxCur.isSome + b2n k.txCur.isSome

/-- A 64-bit count in two words, low first. -/
def words64 (n : Nat) : List Nat := [n % 2 ^ 32, n / 2 ^ 32 % 2 ^ 32]

/-- The words of a LEG.STATS response from word 2 (R138). -/
def Leg.statsWords (l : Leg) : List Nat :=
  let t := l.stats
  words64 t.rxPkts ++ words64 t.rxBytes ++ words64 t.txPkts ++ words64 t.txBytes ++
    [t.authFail, t.policeDrop, t.lqDrop, t.lqQto, t.epochDiscard,
     l.state + 16 * l.keys.code + 256 * l.pathEpoch + 65536 * (l.queue.length % 65536)]

/-- LEG.STATS (R138). -/
def doLegStats (ch : Nat) (s : State) : State := runCmd ch 0x0604 (fun c s =>
  let leg := c.f 1 0 16
  checks ([legUsed s leg, reserved c 1 25 7] ++ legObj s c.issuer leg (c.f 1 16 8))
    (match s.leg leg with
     | none => .fail eBadarg 1
     | some l => okWords (if c.bit 1 24 then s.modLeg leg fun x => { x with stats := {} } else s) l.statsWords)) s

/-! ## Timers of a leg -/

/-- CONSENT_TIMEOUT: no packet of a live leg has passed authentication for CONSENT_TO ticks (R127, R128). -/
def doConsentTimeout (leg : Nat) (s : State) : State :=
  match s.leg leg with
  | none => s
  | some l =>
    if l.state = 1 && 0 < l.cfg.consentTo && max l.lastAuth l.liveSince + l.cfg.consentTo ≤ s.time.m && !s.timerSet (.consent leg) then
      s.legGoes leg 3 2
    else s

/-- QTO_FIRE: the queue is not empty and QTO whole ticks have passed since the latest of its last read, its last change from
empty, and the last firing: the items present become eligible whatever the leg shaper's tokens (R141). -/
def doQtoFire (leg : Nat) (s : State) : State :=
  match s.leg leg with
  | none => s
  | some l =>
    if l.queue.isEmpty || l.cfg.qto = 0 || s.time.m < l.qLastRead + l.cfg.qto then s
    else
      let t := s.modLeg leg fun l => { l with
        queue := l.queue.map fun i => { i with released := true }
        qLastRead := s.time.m
        stats := { l.stats with lqQto := min (l.stats.lqQto + 1) 0xFFFFFFFF } }
      t.occur srcLqQto (s.occLeg leg)

/-! ## The meanings -/

/-- The meaning of CONF_CREATE (R129). -/
def execConfCreate (ch : Nat) (s : State) : Host.Outcome State Fault Refusal :=
  answer (Instr.confCreate ch).wf (doConfCreate ch s)

/-- The meaning of CONF_MODIFY (R130). -/
def execConfModify (ch : Nat) (s : State) : Host.Outcome State Fault Refusal :=
  answer (Instr.confModify ch).wf (doConfModify ch s)

/-- The meaning of CONF_DESTROY (R131). -/
def execConfDestroy (ch : Nat) (s : State) : Host.Outcome State Fault Refusal :=
  answer (Instr.confDestroy ch).wf (doConfDestroy ch s)

/-- The meaning of LEG_DESTROY (R137). -/
def execLegDestroy (ch : Nat) (s : State) : Host.Outcome State Fault Refusal :=
  answer (Instr.legDestroy ch).wf (doLegDestroy ch s)

/-- The meaning of LEG_ID_FREE (R137). -/
def execLegIdFree (leg : Nat) (s : State) : Host.Outcome State Fault Refusal :=
  answer (Instr.legIdFree leg).wf (doLegIdFree leg s)

/-- The meaning of LEG_CREATE (R132). -/
def execLegCreate (ch : Nat) (s : State) : Host.Outcome State Fault Refusal :=
  answer (Instr.legCreate ch).wf (doLegCreate ch s)

/-- The meaning of LEG_MODIFY (R134). -/
def execLegModify (ch : Nat) (s : State) : Host.Outcome State Fault Refusal :=
  answer (Instr.legModify ch).wf (doLegModify ch s)

/-- The meaning of LEG_STATS (R138). -/
def execLegStats (ch : Nat) (s : State) : Host.Outcome State Fault Refusal :=
  answer (Instr.legStats ch).wf (doLegStats ch s)

/-- The meaning of CONSENT_TIMEOUT (R128). -/
def execConsentTimeout (leg : Nat) (s : State) : Host.Outcome State Fault Refusal :=
  answer (Instr.consentTimeout leg).wf (doConsentTimeout leg s)

/-- The meaning of QTO_FIRE (R141). -/
def execQtoFire (leg : Nat) (s : State) : Host.Outcome State Fault Refusal :=
  answer (Instr.qtoFire leg).wf (doQtoFire leg s)

end Sys2Proof.Machine
end

