-- ==== Sys2Proof/Machine/AudioCmds.lean ====
section
/-! DEFINITION. The audio commands on legs and conferences (R217, R218, R220): AUD.ROUTE, AUD.MIXPOLICY, AUD.DETECT. -/

namespace Sys2Proof.Machine

/-- The leg's audio mode is Mix (R221). -/
def mixLeg (s : State) (leg : Nat) : Bool × Nat × Nat := ((s.leg leg).any fun l => l.cfg.audMode ≠ 2, eState, 0x0901)
/-- The conference has MIX (R221). -/
def mixConf (s : State) (conf : Nat) : Bool × Nat × Nat := ((s.conf conf).any fun c => !c.mix, eState, 0x0901)

/-- Change the Campfire state of a leg. -/
def State.modAud (s : State) (leg : Nat) (g : Aud → Aud) : State := s.modLeg leg fun l => { l with aud := g l.aud }

/-! ## AUD.ROUTE (R209, R217) -/

/-- SELECT 0: routing. An input that leaves its conference ramps out of its mix there. -/
def audRouting (c : Ctx) (s : State) (leg : Nat) (l : Leg) (objs : List (Bool × Nat × Nat)) : Reply :=
  let a := c.f 2 0 14
  let b := c.f 2 16 14
  let old := l.aud.cfg.inConf
  let put := fun x : Aud => { x with
    cfg := { x.cfg with inConf := a, outConf := b, inMute := c.bit 3 0, outMute := c.bit 3 1 }
    inp := { x.inp with cand := x.inp.cand && a == old } }
  let t := s.modAud leg put
  checks ([badArg (c.f 2 14 2 ≠ 0 || c.f 2 30 2 ≠ 0) 2, reserved c 3 2 30, badArg ((s.conf a).isNone || (s.conf b).isNone) 1] ++ objs ++
      [confObj s c.issuer a, confObj s c.issuer b, mixLeg s leg, mixConf s a, mixConf s b, placesFull t])
    (withFlows ((if a = old then s else s.rampOut leg).modAud leg put) (softFor leg) ok)

/-- SELECT 1: input. A change re-anchors the jitter buffer; another track starts it empty (R191, R209). -/
def audInput (c : Ctx) (s : State) (leg : Nat) (l : Leg) (objs : List (Bool × Nat × Nat)) : Reply :=
  let t := c.f 2 0 3
  let jit := c.f 2 8 8
  let moved := t ≠ l.aud.cfg.inTrack
  let afresh := fun b : Jb => { b with anchor := none, move := none, frames := if moved then [] else b.frames }
  let put := fun x : Aud => { x with
    cfg := { x.cfg with inTrack := t, jit := jit }
    inp := if moved || jit ≠ x.cfg.jit then { x.inp with jb := afresh x.inp.jb } else x.inp }
  checks ([badArg (c.f 2 3 5 ≠ 0 || jit == 0 || decide (200 < jit) || c.f 2 16 16 ≠ 0) 2] ++ objs ++
      [mixLeg s leg, (!((tget l.tracks t).any fun x => x.media == 0), eState, 0x0902)])
    (withFlows (s.modAud leg put) (softFor leg) ok)

/-- Is a frame length one of the codec's (R217)? -/
def frameMsOk (codec ms : Nat) : Bool := ms == 10 || ms == 20 || (codec == 0 && (ms == 40 || ms == 60))

/-- SELECT 2: encoder. The settings take effect at the leg's next frame boundary (R209). -/
def audEncoder (c : Ctx) (s : State) (leg : Nat) (l : Leg) (objs : List (Bool × Nat × Nat)) : Reply :=
  let e : EncSet := { codec := c.f 2 0 4, frameMs := c.f 2 8 6, adapt := c.bit 2 16, dtx := c.bit 2 17, fec := c.bit 2 18, opusMin := c.f 3 0 16, opusMax := c.f 3 16 16 }
  let known := decide (e.codec < 4) || e.codec == 15
  checks ([badArg (!known || c.f 2 4 4 ≠ 0 || !frameMsOk e.codec e.frameMs || c.f 2 14 2 ≠ 0 || c.f 2 19 13 ≠ 0) 2,
      badArg (decide (e.opusMin < 6) || decide (510 < e.opusMin) || decide (e.opusMax < e.opusMin) || decide (510 < e.opusMax)) 3,
      badArg ((e.codec == 15) != (l.cfg.kind == 1)) 2] ++ objs ++ [mixLeg s leg])
    (withFlows (s.modAud leg fun x => { x with cfg := { x.cfg with enc := e } }) (softFor leg) ok)

/-- SELECT 3: output identity. Another SSRC is another stream, which starts afresh (R202, R320). -/
def audIdentity (c : Ctx) (s : State) (leg : Nat) (l : Leg) (objs : List (Bool × Nat × Nat)) : Reply :=
  let ssrc := (c.w 2).toNat
  let put := fun x : Aud => { x with
    cfg := { x.cfg with outSsrc := ssrc, outPt := c.f 3 0 7 }
    out := if ssrc = x.cfg.outSsrc then x.out else { x.out with encNext := none, encTs := none } }
  checks ([reserved c 3 7 25] ++ objs ++ [mixLeg s leg, (ssrc ≠ 0 && l.keys.rekey, eRekey, 0)]) (ok (s.modAud leg put))

/-- AUD.ROUTE (R217). -/
def doAudRoute (ch : Nat) (s : State) : State := runCmd ch 0x0901 (fun c s =>
  let leg := c.f 1 0 16
  let sel := c.f 1 24 4
  let objs := legObj s c.issuer leg (c.f 1 16 8)
  checks [badArg (decide (3 < sel)) 1, badLen c (if sel = 1 then 2 else 3), legUsed s leg, reserved c 1 28 4]
    (match s.leg leg with
     | none => .fail eBadarg 1
     | some l => match sel with
       | 0 => audRouting c s leg l objs
       | 1 => audInput c s leg l objs
       | 2 => audEncoder c s leg l objs
       | _ => audIdentity c s leg l objs)) s

/-! ## AUD.MIXPOLICY (R218) -/

/-- Change the policy of a conference. -/
def State.modPol (s : State) (conf : Nat) (g : MixPol → MixPol) : State := s.modConf conf fun x => { x with pol := g x.pol }

/-- The decode flows of legs are soft: a change of selection cannot fail for want of their places. -/
def softAudio (o : FlowOwner) : Bool :=
  match o with
  | .legAudio _ => true
  | _ => false

/-- SELECT 0: selection. -/
def mixSelection (c : Ctx) (s : State) (conf : Nat) : Reply :=
  let most := c.f 2 0 4
  let cand := c.f 2 4 5
  let hang := c.f 3 0 16
  let hold := c.f 3 16 16
  let bad := fun n : Nat => decide (n < 20) || decide (10000 < n)
  let t := s.modPol conf fun p => { p with
    activeMax := most, candMax := cand, scale := c.bit 2 9, talkEv := c.bit 2 10, hyst := c.f 2 11 5, floor := c.f 2 16 7
    hang := hang, candHold := hold }
  checks [badArg (most == 0 || decide (8 < most) || decide (cand < most) || decide (16 < cand) || c.f 2 23 9 ≠ 0) 2,
      badArg (bad hang || bad hold) 3, confObj s c.issuer conf, mixConf s conf, placesFull t]
    (withFlows t softAudio ok)

/-- SELECT 1: cascade. Another delay starts the combined mix afresh. -/
def mixCascade (c : Ctx) (s : State) (conf : Nat) (f : Conf) : Reply :=
  let d := c.f 2 0 10
  let tag := c.f 2 16 16
  let move := d ≠ f.pol.cascD || tag ≠ f.pol.confTag
  checks [badArg (d == 1 || decide (1000 < d) || c.f 2 10 6 ≠ 0) 2, reserved c 3 7 25, confObj s c.issuer conf, mixConf s conf,
      (move && !(s.cascLegs conf).isEmpty, eState, 0x0905)]
    (ok (s.modConf conf fun f => { f with
      pol := { f.pol with cascD := d, confTag := tag, cascPt := c.f 3 0 7 }
      combined := if move then [] else f.combined
      contribs := if move then [] else f.contribs }))

/-- AUD.MIXPOLICY (R218). -/
def doAudMixpolicy (ch : Nat) (s : State) : State := runCmd ch 0x0902 (fun c s =>
  let conf := c.f 1 0 14
  let sel := c.f 1 16 2
  checks [badArg (decide (1 < sel)) 1, badLen c 3, badArg (s.conf conf).isNone 1, badArg (c.f 1 14 2 ≠ 0 || c.f 1 18 14 ≠ 0) 1]
    (match s.conf conf with
     | none => .fail eBadarg 1
     | some f => if sel = 0 then mixSelection c s conf else mixCascade c s conf f)) s

/-! ## AUD.DETECT (R220) -/

/-- What a change of detection leaves of the detectors: one that is switched off starts afresh. -/
def AudDet.under (d : AudDet) (c : AudCfg) : AudDet :=
  let d := if c.dtmfInband then d else { d with tones := [] }
  let d := if c.dtmfTe then d else { d with tes := [] }
  if c.howl then d else { d with howlOn := false, howlRun := 0, howlQuiet := 0 }

/-- AUD.DETECT (R220). -/
def doAudDetect (ch : Nat) (s : State) : State := runCmd ch 0x0904 (fun c s =>
  let leg := c.f 1 0 16
  let put := fun x : Aud =>
    let cfg := { x.cfg with
      vadEv := c.bit 2 0, dtmfInband := c.bit 2 1, dtmfTe := c.bit 2 2, dtmfMute := c.bit 2 3, howl := c.bit 2 4, howlAct := c.bit 2 5
      tePt := c.f 2 8 7 }
    { x with cfg := cfg, det := x.det.under cfg }
  checks ([legUsed s leg, reserved c 1 24 8, badArg (c.f 2 6 2 ≠ 0 || c.f 2 15 17 ≠ 0) 2] ++
      legObj s c.issuer leg (c.f 1 16 8) ++ [mixLeg s leg])
    (withFlows (s.modAud leg put) (softFor leg) ok)) s

/-! ## The meanings -/

/-- The meaning of AUD_ROUTE (R217). -/
def execAudRoute (ch : Nat) (s : State) : Host.Outcome State Fault Refusal :=
  answer (Instr.audRoute ch).wf (doAudRoute ch s)

/-- The meaning of AUD_MIXPOLICY (R218). -/
def execAudMixpolicy (ch : Nat) (s : State) : Host.Outcome State Fault Refusal :=
  answer (Instr.audMixpolicy ch).wf (doAudMixpolicy ch s)

/-- The meaning of AUD_DETECT (R220). -/
def execAudDetect (ch : Nat) (s : State) : Host.Outcome State Fault Refusal :=
  answer (Instr.audDetect ch).wf (doAudDetect ch s)

end Sys2Proof.Machine
end

