-- ==== Sys2Proof/Machine/Hamper.lean ====
section
/-! DEFINITION. The Hamper's store (R155, R156): what it occupies, and the eviction of the oldest packet. -/

namespace Sys2Proof.Machine

/-- Bytes that a stored packet occupies (R155). -/
def hamperBytes (ipLen : Nat) : Nat := (ipLen + 32 + 255) / 256 * 256

/-- Every encoding of every leg's tracks and of the encode jobs' outputs. -/
def State.allEncs (s : State) : List Enc :=
  (s.legs.flatMap fun p => p.2.tracks.flatMap fun t => t.2.encs) ++ s.jobTracks.flatMap fun t => t.2.encs

/-- Bytes of the region that stored packets occupy. -/
def State.hamperUsed (s : State) : Nat := (s.allEncs.map fun e => (e.hamper.map (·.bytes)).sum).sum

/-- The order number of the oldest stored packet. -/
def State.hamperOldest (s : State) : Option Nat := (s.allEncs.flatMap fun e => e.hamper.map (·.order)).min?

/-- A track without the stored packet of order `k`. -/
def Track.evict (k : Nat) (t : Track) : Track :=
  { t with encs := t.encs.map fun e => { e with hamper := e.hamper.filter fun h => h.order ≠ k } }

/-- A leg without the stored packet of order `k`. -/
def Leg.evict (k : Nat) (l : Leg) : Leg := { l with tracks := tmap (Track.evict k) l.tracks }

/-- The leg that holds the stored packet of order `k`. -/
def State.hamperOwner (s : State) (k : Nat) : Option Nat :=
  (s.legs.find? fun p => p.2.tracks.any fun t => t.2.encs.any fun e => e.hamper.any fun h => h.order == k).map (·.1)

/-- Evict the oldest packet of the whole region and count it (R156). -/
def State.evictOldest (s : State) : State :=
  match s.hamperOldest with
  | none => s
  | some k =>
    let o := match s.hamperOwner k with
      | some leg => s.occLeg leg
      | none => {}
    let s := { s with legs := tmap (Leg.evict k) s.legs, jobTracks := tmap (Track.evict k) s.jobTracks }
    s.occur srcHamperEvict o

/-- The bytes of the Hamper's region (R155, R388). -/
def State.hamperSize (s : State) : Nat := ((s.hbm.regions[1]?).map (·.size)).getD 0 * 2 ^ 30

/-- Evict until `need` more bytes fit (R156). -/
def State.evictFor (s : State) (need : Nat) : Nat → State
  | 0 => s
  | fuel + 1 =>
    if s.hamperUsed + need ≤ s.hamperSize then s
    else match s.hamperOldest with
      | none => s
      | some _ => s.evictOldest.evictFor need fuel

/-- Number of packets stored. -/
def State.hamperCount (s : State) : Nat := (s.allEncs.map fun e => e.hamper.length).sum

end Sys2Proof.Machine
end

