-- ==== Sys2Proof/Machine/Operands.lean ====
section
/-! DEFINITION. Operand forms that several commands share: the host memory descriptor (R41 to R43, R398), and the sizes of
the packets that the module sends (R169 to R171, R308, R328). -/

namespace Sys2Proof.Machine

/-! ## Descriptors -/

/-- The faults of a descriptor in words `k` to `k + 2` (R41, R43): `dir` is the direction that the command's table gives. -/
def descChecks (c : Ctx) (k : Nat) (dir : Bool) : List (Bool × Nat × Nat) :=
  let len := c.f (k + 2) 0 25
  [(c.f k 0 6 ≠ 0 || len % 4 ≠ 0 || decide (len < 4) || decide (16777216 < len), eBadarg, 0x8008),
   badArg (c.f (k + 2) 26 6 ≠ 0 || c.bit (k + 2) 25 != dir) (k + 2)]

/-- LENGTH of the descriptor in words `k` to `k + 2`. -/
def descLen (c : Ctx) (k : Nat) : Nat := c.f (k + 2) 0 25

/-- A descriptor of another length than the command's table gives breaks the length rules (log entry 18). -/
def descSize (c : Ctx) (k n : Nat) : Bool × Nat × Nat := (decide (descLen c k ≠ n), eBadarg, 0x8008)

/-- The failures of an access to a descriptor's buffer (R43, R398). -/
def bufChecks (b : BufRead) : List (Bool × Nat × Nat) :=
  [(b == .unreachable, eBadarg, 0x8007), (b == .memError, eHw, 0x0D01)]

/-- The bytes that the module reads from a descriptor's buffer of `n` bytes: the buffer's contents, zero beyond what the
environment gives. -/
def bufBytes (b : BufRead) (n : Nat) : List Byte :=
  match b with
  | .bytes bs => (bs ++ List.replicate (n - bs.length) 0#8).take n
  | _ => []

/-! ## CRC-32 (IEEE 802.3) -/

/-- One step of the CRC-32 of IEEE 802.3, bit by bit. -/
def crcBit (c : Nat) : Nat → Nat
  | 0 => c
  | n + 1 => crcBit (if c % 2 = 1 then (c / 2) ^^^ 0xEDB88320 else c / 2) n

/-- CRC-32 of IEEE 802.3. -/
def crc32 (bs : List Byte) : Nat := (bs.foldl (fun c b => crcBit (c ^^^ b.toNat) 8) 0xFFFFFFFF) ^^^ 0xFFFFFFFF

/-! ## Packet sizes -/

/-- SRTP and SRTCP tag bytes of a protection profile (R308). -/
def srtpTag (profile : Nat) : Nat := [10, 4, 16, 16].getD profile 16
def srtcpTag (profile : Nat) : Nat := [10, 10, 16, 16].getD profile 16

/-- The profile of a key's words (R323). -/
def keyProfile (ws : List Nat) : Nat := ws.getD 0 0

/-- The extension block of the elements written (R170): its bytes. Elements of more than 16 bytes are in the two-byte
form, which then holds for the block. -/
def extBlockLen (els : List ExtElem) : Nat :=
  if els.isEmpty then 0
  else
    let h := if els.any fun e => decide (16 < e.len) then 2 else 1
    4 + ((els.map fun e => e.len + h).sum + 3) / 4 * 4

/-- The elements that fit an allowed form (R170). -/
def fitExts (twoByteOk : Bool) (els : List ExtElem) : List ExtElem :=
  els.filter fun e => decide (e.len ≤ if twoByteOk then 255 else 16)

/-- Bytes above the UDP header: RTP or RTCP with its protection (R169, R308, R309). -/
def OutPkt.udpBytes (p : OutPkt) (profile : Nat) : Nat :=
  if p.isRtcp then p.payloadLen + 4 + srtcpTag profile
  else 12 + 4 * p.csrc.length + extBlockLen p.exts + (if p.osn.isSome then 2 else 0) + p.payloadLen + srtpTag profile

/-- The IP length of a packet to a leg (R170, R171). -/
def OutPkt.ipLen (p : OutPkt) (c : LegCfg) (profile : Nat) : Nat := (if c.ipv6 then 40 else 20) + 8 + p.udpBytes profile

/-- The frame bytes of an IP packet to a leg, padded to 60 (R171, R328, R358). -/
def frameBytes (c : LegCfg) (ipLen : Nat) : Nat := max 60 (ipLen + 14 + if c.vlanEn then 4 else 0)

/-- L of a frame on a port (R328). -/
def wireLen (overhead : Int) (bytes : Nat) : Nat := (max 1 ((bytes : Int) + overhead)).toNat

end Sys2Proof.Machine
end

