-- ==== Sys2Proof/Machine/TimeBase.lean ====
section
/-! DEFINITION. Time bases, PTP, timing inputs and outputs, and the TB commands (R66 to R97). Measured offsets and
stamps are integers in units of 2^-16 ns. -/

namespace Sys2Proof.Machine

abbrev evTbState : Nat := 0x0201
abbrev evTbOffsetLarge : Nat := 0x0202
abbrev evTbRefLost : Nat := 0x0203

/-- The rate limit of 500 ppm in parts per 10^12 (R79). -/
abbrev rateMax : Nat := 500000000

/-- Whole nanoseconds of an offset in 2^-16 ns. -/
def toNs (i : Int) : Int := i / 65536

/-- EV_TB_STATE for a change of state of base `n` (R78, R97). -/
def State.tbEvent (s : State) (n new old : Nat) (stepNs offNs : Int) : State :=
  s.postAll { code := evTbState, obj := n, d0 := new + 256 * old, d1 := sat32 stepNs, d2 := sat32 offNs }

/-- Move a base to a state without a step; a change posts EV_TB_STATE (R78). -/
def State.tbTo (s : State) (n new : Nat) : State :=
  let b := s.base n
  if b.st = new then s
  else (s.modBase n fun b => { b with st := new, inRun := 0, outRun := 0, newMeas := 0 }).tbEvent n new b.st 0 (toNs b.offset)

/-- After a step of TB0 the gate lists wait for the next start of a cycle (R346). -/
def State.gatesAfterStep (s : State) (n : Nat) : State :=
  if n ≠ 0 then s else
  let now := (s.base 0).val
  { s with ports := s.ports.map fun (k, p) => (k, match p.gates with
      | some g =>
        let c := g.cycle * nsU
        { p with gateHold := some (if now ≤ g.start then g.start else g.start + (now - g.start + c - 1) / c * c) }
      | none => p) }

/-- Set a base to a value in one step (R79, R95): the event reports the step. -/
def State.tbStep (s : State) (n : Nat) (val : Int) (off : Int) : State :=
  let b := s.base n
  let step := val - b.val
  let s := s.modBase n fun b =>
    { b with val := val.toNat, rem := 0, st := 2, offset := off, inRun := 0, outRun := 0, newMeas := 0 }
  (s.tbEvent n 2 b.st (toNs step) (toNs off)).gatesAfterStep n

/-- The servo's rate correction is a free value within ±500 ppm (R79, log entry 2). -/
def State.servo (s : State) (n : Nat) : State :=
  let p := s.draw (2 * rateMax + 1)
  p.2.modBase n fun b => { b with rate := (p.1 : Int) - rateMax }

/-- In SLEW the rate removes the offset, at up to 500 ppm (R80). -/
def State.slewRate (s : State) (n : Nat) (off : Int) : State :=
  let p := s.draw (rateMax + 1)
  p.2.modBase n fun b => { b with rate := if 0 < off then -(p.1 : Int) else (p.1 : Int) }

/-- Enter SLEW with EV_TB_OFFSET_LARGE (R80): the offset in µs and the slew time at 500 ppm in ms. -/
def State.toSlew (s : State) (n : Nat) (off : Int) : State :=
  let us := toNs off / 1000
  ((s.postAll { code := evTbOffsetLarge, obj := n, d0 := sat32 us, d1 := sat32 (Int.ofNat (toNs off).natAbs / 500) }).tbTo n 5).slewRate n off

/-- An offset measurement of base `n` from its reference (R78 to R85). -/
def State.measure (s : State) (n : Nat) (off : Int) : State :=
  let b := s.base n
  let s := s.modBase n fun b => { b with offset := off }
  let mag := off.natAbs
  let large := decide (msU < mag)
  match b.st with
  | 1 => s.tbStep n (b.val - off) off
  | 2 =>
    if large then s.toSlew n off
    else
      let r := if mag ≤ 100 * nsU then b.inRun + 1 else 0
      let s := (s.modBase n fun b => { b with inRun := r }).servo n
      if 16 ≤ r then s.tbTo n 3 else s
  | 3 =>
    if large then s.toSlew n off
    else
      let r := if usU < mag then b.outRun + 1 else 0
      let s := (s.modBase n fun b => { b with outRun := r }).servo n
      if 4 ≤ r then s.tbTo n 2 else s
  | 4 =>
    let k := b.newMeas + 1
    let s := s.modBase n fun b => { b with newMeas := k }
    if k < 16 then s else if large then s.toSlew n off else (s.tbTo n 2).servo n
  | 5 => if mag ≤ usU then s.tbTo n 2 else s.slewRate n off
  | _ => s

/-- The loss or change of a base's reference (R84): HOLDOVER at the held rate, a free value within the rate limit. -/
def State.tbHoldover (s : State) (n : Nat) : State :=
  let b := s.base n
  if b.st = 2 || b.st = 3 || b.st = 5 then
    let s := s.servo n
    (s.modBase n fun b => { b with holdFrom := s.time.ref, held := b.rate }).tbTo n 4
  else s

/-! ## PTP (R72, R84) -/

/-- Dataset comparison of IEEE 1588 by its attributes in order (log entry 9): is the first strictly better? -/
def betterDs : List Nat → List Nat → Bool
  | a :: as, b :: bs => a < b || (a == b && betterDs as bs)
  | _, _ => false

/-- The attributes of an announced grandmaster in the order of comparison. -/
def Announce.ds (a : Announce) : List Nat := [a.prio1, a.clsQ, a.acc, a.variance, a.prio2, a.gm, a.steps]

/-- An Announce on a port for base `n` (R72, R84, R96): it updates the selected master, or is compared with it, and a
change of master puts the base into HOLDOVER. -/
def State.announce (s : State) (n : Nat) (a : Announce) : State :=
  let b := s.base n
  let own := [b.inst.prio1, b.inst.clsQ, b.inst.acc]
  match b.master with
  | some m =>
    if m.sender = a.sender then s.modBase n fun b => { b with master := some a, ann := some a }
    else if betterDs a.ds m.ds then (s.tbHoldover n).modBase n fun b => { b with master := some a, ann := some a, newMeas := 0 }
    else s
  | none =>
    if !b.inst.slaveOnly && betterDs own (a.ds.take 3) then s
    else s.modBase n fun b => { b with master := some a, ann := some a, newMeas := 0 }

/-- Does base `n`'s instance use this domain and transport on this port (R73)? -/
def State.ptpUses (s : State) (n port domain transport : Nat) : Bool :=
  let i := (s.base n).inst
  i.role ≠ 0 && hasBit i.ports port && i.domain == domain && i.transport == transport

/-- Does some instance terminate the domain (R77)? -/
def State.ptpTerminates (s : State) (domain : Nat) : Bool :=
  (List.range 4).any fun n => (s.base n).inst.role ≠ 0 && (s.base n).inst.domain == domain

/-- Does a base take its measurements from PTP: its last arming named no other source? -/
def Base.byPtp (b : Base) : Bool := b.arm ≠ some 1

/-- A Sync of the selected master (R79): with the path delay last measured it gives an offset. -/
def State.sync (s : State) (n port : Nat) (t1 : Int) : State :=
  let b := s.base n
  let t2 : Int := b.val
  let s := s.modBase n fun b => { b with t1 := t1, t2 := t2 }
  if b.byPtp then s.measure n (t2 - t1 - b.pathDelay - tgetD s.time.asym port 0) else s

/-- The frame bytes of a PTP message of a kind on a transport (R72; the sizes of IEEE 1588 are PRESUMED, log entry 27): 0 Sync,
1 Announce, 2 Delay_Req, 3 Pdelay_Req, 4 Delay_Resp, 5 Pdelay_Resp, 6 Follow_Up, 7 Pdelay_Resp_Follow_Up. -/
def ptpFrame (transport kind : Nat) : Nat := max 60 ([14, 42, 62].getD transport 14 + [44, 64, 44, 54, 54, 54, 44, 54].getD kind 44)

/-- Queue PTP messages of an instance on TQ7 of a port (R74); in two-step mode a Sync or a Pdelay_Resp is followed by its
follow-up message (R72). -/
def State.ptpQueue (s : State) (i : PtpInst) (port kind : Nat) : State :=
  let kinds := if i.twoStep && kind = 0 then [0, 6] else if i.twoStep && kind = 5 then [5, 7] else [kind]
  let items := kinds.map fun k => ({ len := ptpFrame i.transport k, since := s.time.ref, own := some (0, k) } : TxItem)
  s.modPort port fun p => { p with tq := lmod p.tq 7 [] fun q => q ++ items }

/-- One PTP message of an instance (R72, R76, R84). Own answers to delay requests leave on TQ7 (R74). -/
def State.ptpIn (s : State) (n port : Nat) (m : Ptp) : State :=
  let b := s.base n
  let fromMaster := b.master.any fun a => a.sender == m.sender && a.port == port
  match m.body with
  | .announce p1 c a v p2 gm st utc uv l61 l59 tt ft ps =>
    s.announce n ⟨p1, c, a, v, p2, gm, st, utc, uv && ps, l61, l59, tt, ft, ps, m.sender, port⟩
  | .sync origin => if fromMaster then s.sync n port (origin + m.correction) else s
  | .delayResp rx =>
    if fromMaster then match b.t3 with
      | some t3 => s.modBase n fun b => { b with pathDelay := ((b.t2 - b.t1) + (rx - m.correction - t3)) / 2, t3 := none }
      | none => s
    else s
  | .pdelayResp turn =>
    match b.t3 with
    | some t3 => s.modBase n fun b => { b with pathDelay := ((b.val : Int) - t3 - turn - m.correction) / 2, t3 := none }
    | none => s
  | .delayReq => if b.inst.mech = 0 && !fromMaster then s.ptpQueue b.inst port 4 else s
  | .pdelayReq => if b.inst.mech = 1 then s.ptpQueue b.inst port 5 else s
  | .management => s.occur srcPtpMgmtDiscard { unit := some port }

/-- A PTP message that a port received: to each instance that uses its domain and transport there. -/
def State.ptpRx (s : State) (port : Nat) (m : Ptp) : State :=
  forEach ((List.range 4).filter fun n => s.ptpUses n port m.domain m.transport) s fun n s => s.ptpIn n port m

/-- PTP_MESSAGE_TX: an instance sends a Sync (kind 0), Announce (1), Delay_Req (2) or Pdelay_Req (3) on TQ7 of a port
(R72, R74); the departure of a delay request is stamped. -/
def doPtpMessageTx (tb port kind : Nat) (s : State) : State :=
  let b := s.base tb
  let i := b.inst
  if i.role = 0 || !hasBit i.ports port || 3 < kind || !(s.port port).link || (kind < 2 && i.slaveOnly) ||
      (kind = 2 && i.mech = 1) || (kind = 3 && i.mech = 0) then s else
  let key := (port * 4 + tb) * 4 + kind
  let s := { s with time := { s.time with ptpSeq := tset s.time.ptpSeq key ((tgetD s.time.ptpSeq key 0 + 1) % 65536) } }
  let s := s.ptpQueue i port kind
  if 2 ≤ kind then s.modBase tb fun b => { b with t3 := some b.val } else s

/-- A base loses its selected master (R84). -/
def State.tbMasterLost (s : State) (tb : Nat) : State :=
  if (s.base tb).master.isNone then s else
  ((s.tbHoldover tb).modBase tb fun b => { b with master := none, newMeas := 0 }).postAll { code := evTbRefLost, obj := tb, d0 := 0 }

/-- PTP_MASTER_LOST (R84): the selected master is lost. -/
def doPtpMasterLost (tb : Nat) (s : State) : State := s.tbMasterLost tb

/-- Is this a PTP event message (IEEE 1588: Sync, Delay_Req, Pdelay_Req and Pdelay_Resp; log entry 27)? -/
def PtpBody.isEvent : PtpBody → Bool
  | .sync _ => true
  | .delayReq => true
  | .delayResp _ => false
  | .pdelayReq => true
  | .pdelayResp _ => true
  | .announce .. => false
  | .management => false

/-- PTP_TC_FRAME (R77): a transit event message leaves the other port with its residence time added. -/
def doPtpTcFrame (inPort outPort : Nat) (m : Ptp) (ingress egress : Int) (s : State) : State :=
  if !PtpBody.isEvent m.body || !hasBit s.time.tcPorts inPort || !hasBit s.time.tcPorts outPort || inPort = outPort || s.ptpTerminates m.domain then s
  else { s with time := { s.time with tcOut := some (outPort, m.correction + (egress - ingress)) } }

/-! ## Timing inputs and outputs (R86 to R90) -/

/-- The signed distance of a base value from its nearest second boundary (R88). -/
def fromSecond (v : Nat) : Int :=
  let r := v % secU
  if r ≤ secU / 2 then (r : Int) else (r : Int) - secU

/-- PPS_IN_EDGE (R88): the edge is stamped; a base that PPS_IN disciplines takes it as a measurement. -/
def doPpsInEdge (s : State) : State :=
  let n := s.time.ppsInTb
  let b := s.base n
  let off := fromSecond b.val
  let s := { s with time := { s.time with
    ppsIn := some (s.time.ref, b.val), ppsInLost := false, ppsInOffset := off } }
  if b.arm = some 1 && b.st ≠ 1 then s.measure n off else s

/-- PPS_IN_LOST (R88): more than 2 s since the last edge; raised once. -/
def doPpsInLost (s : State) : State :=
  match s.time.ppsIn with
  | some (r, _) =>
    if s.time.ppsInLost || s.time.ref ≤ r + 2 * secU then s else
    let n := s.time.ppsInTb
    let s := { s with time := { s.time with ppsInLost := true } }
    (if (s.base n).arm = some 1 then s.tbHoldover n else s).postAll { code := evTbRefLost, obj := n, d0 := 1 }
  | none => s

/-- The exclusive OR of bytes (R89). -/
def xorBytes (bs : List Byte) : Byte := bs.foldl (· ^^^ ·) 0#8

/-- The number that decimal digits spell. -/
def decNat (bs : List Byte) : Nat := bs.foldl (fun n b => n * 10 + (b.toNat - 48)) 0

/-- An uppercase hexadecimal digit. -/
def hexDigit (n : Nat) : Byte := BitVec.ofNat 8 (if n % 16 < 10 then 48 + n % 16 else 55 + n % 16)

/-- The two hexadecimal digits of a byte. -/
def hex2 (n : Nat) : List Byte := [hexDigit (n / 16), hexDigit n]

/-- The decimal digits of a number, `k` of them. -/
def dec (n : Nat) : Nat → List Byte
  | 0 => []
  | k + 1 => dec (n / 10) k ++ [BitVec.ofNat 8 (48 + n % 10)]

/-- Is a TOD_IN line acceptable (R90): 43 characters, its checksum correct? -/
def todOk (bs : List Byte) : Bool :=
  bs.length == 43 && bs.getD 38 0#8 == 0x2A#8 && (bs.drop 39).take 2 == hex2 (xorBytes ((bs.drop 1).take 37)).toNat

/-- TOD_IN_LINE (R90): the line names the last PPS_IN edge, or is discarded and counted. A base armed with PPS_IN takes
its step (R79). -/
def doTodInLine (bytes : List Byte) (msAfterEdge : Nat) (s : State) : State :=
  match s.time.ppsIn with
  | some (_, v) =>
    if !todOk bytes || 900 < msAfterEdge then s.occur srcTodInBad {} else
    let sec := decNat ((bytes.drop 7).take 15)
    let n := s.time.ppsInTb
    let b := s.base n
    if b.arm = some 1 && b.st = 1 then s.measure n ((v : Int) - (sec * secU : Nat)) else s
  | none => s.occur srcTodInBad {}

/-- CLK10M_IN_PRESENT (R86): Thermos is locked to an enabled input. -/
def doClk10mInPresent (s : State) : State :=
  if s.time.clk10En then { s with time := { s.time with clk10 := true } } else s

/-- CLK10M_IN_LOST (R86): Thermos free-runs. -/
def doClk10mInLost (s : State) : State :=
  if !s.time.clk10 then s
  else ({ s with time := { s.time with clk10 := false } }).postAll { code := evTbRefLost, obj := 0, d0 := 2 }

/-- PPS_OUT_EDGE (R87): PPS_OUT rises at a second boundary of its base, moved by the cable offset. -/
def doPpsOutEdge (s : State) : State :=
  let sec := (((s.base s.time.ppsOutTb).val : Int) + s.time.ppsCable * 65536).toNat / secU
  if !s.time.outEn || s.time.ppsOutAt = some sec then s
  else { s with time := { s.time with ppsOutAt := some sec }, pins := { s.pins with ppsOut := true } }

/-- The TOD_OUT line (R89, R90) for a second boundary of base `n`. -/
def State.todText (s : State) (n : Nat) : List Byte :=
  let b := s.base n
  let comma : List Byte := [0x2C#8]
  let utc : Int := (b.ann.map (·.utc)).getD 0
  let leap := if b.ann.any (·.leap61) then 1 else if b.ann.any (·.leap59) then 2 else 0
  let body : List Byte :=
    [0x4E#8, 0x59#8, 0x54#8, 0x4F#8, 0x44#8] ++ comma ++ dec (b.val / secU) 15 ++ comma ++
    ((if utc < 0 then [0x2D#8] else [0x2B#8]) ++ dec utc.natAbs 3) ++ comma ++ dec leap 1 ++ comma ++ dec b.st 1 ++ comma ++
    dec ((b.ann.map (·.clsQ)).getD 0) 3 ++ comma ++ hex2 ((b.ann.map (·.acc)).getD 0)
  [0x24#8] ++ body ++ [0x2A#8] ++ hex2 (xorBytes body).toNat ++ [0x0D#8, 0x0A#8]

/-- TOD_OUT_LINE (R90). -/
def doTodOutLine (s : State) : State :=
  if s.time.outEn then { s with time := { s.time with todLine := s.todText s.time.todOutTb } } else s

/-! ## TB commands (R94 to R96) -/

/-- The instance settings of TB.CONFIG KIND 0 (R94). -/
def tbInst (c : Ctx) : PtpInst :=
  { role := c.f 2 0 2, mech := c.f 2 2 1, transport := c.f 2 3 2, twoStep := c.bit 2 5, slaveOnly := c.bit 2 6,
    domain := c.f 2 8 8, ports := c.f 2 16 16, prio1 := c.f 3 0 8, prio2 := c.f 3 8 8, clsQ := c.f 3 16 8, acc := c.f 3 24 8,
    logSync := signed 8 (c.f 4 0 8), logAnn := signed 8 (c.f 4 8 8), logDelay := signed 8 (c.f 4 16 8), annTo := c.f 4 24 8 }

/-- Would two instances share a domain on the same transport and port (R73)? -/
def overlaps (a b : PtpInst) : Bool :=
  a.role ≠ 0 && b.role ≠ 0 && a.domain == b.domain && a.transport == b.transport && (a.ports &&& b.ports) ≠ 0

/-- The base takes instance settings; a base that has no instance from then on keeps nothing of the last one's Announce and
measurements (R96). -/
def Base.setInst (b : Base) (i : PtpInst) : Base :=
  if i.role = 0 then { b with inst := i, ann := none, offset := 0, pathDelay := 0 } else { b with inst := i }

/-- TB.CONFIG KIND 0 (R72, R73, R94): a change of role, ports or transport restarts the instance. -/
def tbConfigInst (c : Ctx) (s : State) : Reply :=
  let n := c.f 1 4 2
  let i := tbInst c
  checks [reserved c 1 6 26, badArg (i.role = 3) 2, badArg (i.transport = 3) 2, reserved c 2 7 1,
    badArg (i.logSync < -7 || 4 < i.logSync || i.logAnn < -3 || 4 < i.logAnn || i.logDelay < -7 || 6 < i.logDelay ||
      i.annTo < 2 || 10 < i.annTo) 4,
    badArg ((List.range 4).any fun k => k ≠ n && overlaps i (s.base k).inst) 2]
  (let o := (s.base n).inst
   let restart := o.role ≠ i.role || o.ports ≠ i.ports || o.transport ≠ i.transport
   let s := if restart then (if (s.base n).st = 3 then s.tbHoldover n else s).modBase n fun b =>
     { b with master := none, newMeas := 0, t3 := none } else s
   ok (s.modBase n fun b => b.setInst i))

/-- TB.CONFIG KINDs 1 to 3 (R76, R77, R87, R94). -/
def tbConfigOther (c : Ctx) (s : State) : Reply :=
  match c.f 1 0 4 with
  | 1 =>
    checks [reserved c 1 6 26, reserved c 2 16 16, badArg ((bitsOf (c.f 2 0 16) 16).length = 1) 2]
      (ok { s with time := { s.time with tcPorts := c.f 2 0 16 } })
  | 2 =>
    checks [reserved c 1 6 26]
      (ok { s with time := { s.time with asym := tset s.time.asym (c.f 2 0 4) (signed 32 (c.w 3).toNat) } })
  | _ =>
    checks [reserved c 1 6 26, reserved c 2 7 9, badArg (c.f 2 16 16 < 1 || 900 < c.f 2 16 16) 2,
      badArg (signed 32 (c.w 3).toNat < -1000000 || 1000000 < signed 32 (c.w 3).toNat) 3]
      (ok { s with time := { s.time with
        ppsOutTb := c.f 2 0 2, todOutTb := c.f 2 2 2, ppsInTb := c.f 2 4 2, clk10En := c.bit 2 6,
        clk10 := s.time.clk10 && c.bit 2 6, ppsWidth := c.f 2 16 16, ppsCable := signed 32 (c.w 3).toNat } })

/-- TB_CONFIG (R94). -/
def doTbConfig (ch : Nat) (s : State) : State := runCmd ch 0x0201 (fun c s =>
  match c.f 1 0 4 with
  | 0 => checks [badLen c 4] (tbConfigInst c s)
  | 1 => checks [badLen c 2] (tbConfigOther c s)
  | 2 => checks [badLen c 3] (tbConfigOther c s)
  | 3 => checks [badLen c 3] (tbConfigOther c s)
  | _ => .fail eBadarg 1) s

/-- TB_ARM (R79, R82, R83, R95). -/
def doTbArm (ch : Nat) (s : State) : State := runCmd ch 0x0202 (fun c s =>
  let n := c.f 1 0 2
  let src := c.f 1 2 2
  let b := s.base n
  checks [badArg (src = 3) 1, badLen c (if src = 2 then 5 else 1), reserved c 1 4 28,
    badArg (src = 2 && 999999999 < (c.w 3).toNat) 3,
    (decide (n = s.time.sel) && !s.confs.isEmpty, eState, 1),
    (decide (src = 0) && decide (b.inst.role = 0), eState, 2),
    (decide (src = 1) && decide (n ≠ s.time.ppsInTb), eState, 3)]
  (if src = 2 then
    let v : Nat := ((c.w 4).toNat + 2 ^ 32 * c.f 5 0 16) * secU + (c.w 3).toNat * nsU + c.f 2 0 16
    ok ((s.tbStep n v 0).modBase n fun b => { b with arm := none })
  else ok ((s.tbTo n 1).modBase n fun b => { b with arm := some src }))) s

/-- The response words of TB.STATUS (R96): OFFSET reads 0 while the base has no instance. -/
def State.tbStatusWords (s : State) (n : Nat) : List Nat :=
  let b := s.base n
  let a := b.ann
  [ b.st + 8 * b2n (decide (n = s.time.drv)) + 16 * ((b.master.map (·.port)).getD 0xF) + 256 * b.inst.domain,
    sat32 (toNs (if b.inst.role = 0 then 0 else b.offset)), sat32 (toNs b.pathDelay), sat32 b.rate,
    field 16 ((a.map (·.utc)).getD 0) + 65536 * b2n (a.any (·.utcValid)) + 131072 * b2n (a.any (·.leap61)) +
      262144 * b2n (a.any (·.leap59)) + 2 ^ 19 * b2n (a.any (·.timeTr)) + 2 ^ 20 * b2n (a.any (·.freqTr)),
    ((a.map (·.gm)).getD 0) % 2 ^ 32, ((a.map (·.gm)).getD 0) / 2 ^ 32 % 2 ^ 32,
    ((a.map (·.clsQ)).getD 0) + 256 * ((a.map (·.acc)).getD 0) + 65536 * ((a.map (·.steps)).getD 0),
    if b.st = 4 then min ((s.time.ref - b.holdFrom) / secU) 0xFFFFFFFF else 0,
    if n = s.time.ppsInTb then sat32 (toNs s.time.ppsInOffset) else 0 ]

/-- TB_STATUS (R96). -/
def doTbStatus (ch : Nat) (s : State) : State :=
  runCmd ch 0x0203 (fun c s => okWords s (s.tbStatusWords (c.f 1 0 2))) s

/-- TICK_SOURCE (R102): selects the base; the change itself comes at that base's next millisecond boundary. -/
def doTickSource (ch : Nat) (s : State) : State := runCmd ch 0x0204 (fun c s =>
  checks [reserved c 1 2 30, (!s.confs.isEmpty, eState, 1), (decide (c.f 1 0 2 = s.time.sel), eAlreadyDone, 0)]
    (ok { s with time := { s.time with sel := c.f 1 0 2 } })) s

/-! ## The meanings -/

/-- The meaning of PTP_MESSAGE_TX (R72). -/
def execPtpMessageTx (tb : Nat) (port : Nat) (kind : Nat) (s : State) : Host.Outcome State Fault Refusal :=
  answer (Instr.ptpMessageTx tb port kind).wf (doPtpMessageTx tb port kind s)

/-- The meaning of PTP_MASTER_LOST (R84). -/
def execPtpMasterLost (tb : Nat) (s : State) : Host.Outcome State Fault Refusal :=
  answer (Instr.ptpMasterLost tb).wf (doPtpMasterLost tb s)

/-- The meaning of PTP_TC_FRAME (R77). -/
def execPtpTcFrame (inPort : Nat) (outPort : Nat) (m : Ptp) (ingress : Int) (egress : Int) (s : State) : Host.Outcome State Fault Refusal :=
  answer (Instr.ptpTcFrame inPort outPort m ingress egress).wf (doPtpTcFrame inPort outPort m ingress egress s)

/-- The meaning of PPS_IN_EDGE (R88). -/
def execPpsInEdge (s : State) : Host.Outcome State Fault Refusal :=
  answer Instr.ppsInEdge.wf (doPpsInEdge s)

/-- The meaning of PPS_IN_LOST (R88). -/
def execPpsInLost (s : State) : Host.Outcome State Fault Refusal :=
  answer Instr.ppsInLost.wf (doPpsInLost s)

/-- The meaning of TOD_IN_LINE (R90). -/
def execTodInLine (bytes : List Byte) (msAfterEdge : Nat) (s : State) : Host.Outcome State Fault Refusal :=
  answer (Instr.todInLine bytes msAfterEdge).wf (doTodInLine bytes msAfterEdge s)

/-- The meaning of CLK10M_IN_PRESENT (R86). -/
def execClk10mInPresent (s : State) : Host.Outcome State Fault Refusal :=
  answer Instr.clk10mInPresent.wf (doClk10mInPresent s)

/-- The meaning of CLK10M_IN_LOST (R86). -/
def execClk10mInLost (s : State) : Host.Outcome State Fault Refusal :=
  answer Instr.clk10mInLost.wf (doClk10mInLost s)

/-- The meaning of PPS_OUT_EDGE (R87). -/
def execPpsOutEdge (s : State) : Host.Outcome State Fault Refusal :=
  answer Instr.ppsOutEdge.wf (doPpsOutEdge s)

/-- The meaning of TOD_OUT_LINE (R90). -/
def execTodOutLine (s : State) : Host.Outcome State Fault Refusal :=
  answer Instr.todOutLine.wf (doTodOutLine s)

/-- The meaning of TB_CONFIG (R94). -/
def execTbConfig (ch : Nat) (s : State) : Host.Outcome State Fault Refusal :=
  answer (Instr.tbConfig ch).wf (doTbConfig ch s)

/-- The meaning of TB_ARM (R95). -/
def execTbArm (ch : Nat) (s : State) : Host.Outcome State Fault Refusal :=
  answer (Instr.tbArm ch).wf (doTbArm ch s)

/-- The meaning of TB_STATUS (R96). -/
def execTbStatus (ch : Nat) (s : State) : Host.Outcome State Fault Refusal :=
  answer (Instr.tbStatus ch).wf (doTbStatus ch s)

/-- The meaning of TICK_SOURCE (R102). -/
def execTickSource (ch : Nat) (s : State) : Host.Outcome State Fault Refusal :=
  answer (Instr.tickSource ch).wf (doTickSource ch s)

end Sys2Proof.Machine
end

