-- ==== Sys2Proof/Machine/Mailbox.lean ====
section
/-! DEFINITION. Mailbox channels, the binding table, and control's taking of messages (R22 to R51, R510). -/

namespace Sys2Proof.Machine

/-! ## Ends of a channel -/

/-- The part that a master plays on a channel (R25, R31). -/
inductive Role where
  /-- the sender; `buddy` when it is the buddy that a shared channel also accepts -/
  | sender (buddy : Bool)
  | receiver
  | stranger
deriving DecidableEq, Repr

/-- The MID of a cluster's buddy, 24 clusters away (R31). -/
def buddyMid (mid : Nat) : Nat := 0x80 + (mid - 0x80 + 24) % 48

/-- The role of a master under a binding (R25, R33): an entry that is not valid accepts nobody. -/
def Bind.role (b : Bind) (mid : Nat) : Role :=
  if !b.valid then .stranger
  else if mid = b.sender then .sender false
  else if b.shared && mid = buddyMid b.sender then .sender true
  else if mid = b.receiver then .receiver
  else .stranger

/-- Set DENIED (R28, R31, R510). -/
def setDenied (c : Chan) : Chan := { c with denied := true }

/-- Does the other cluster hold a shared channel (R31)? -/
def Chan.heldByOther (c : Chan) (buddy : Bool) : Bool := c.held && c.holder != buddy

/-- A sender's write of a message word (R27, R28, R31). -/
def Chan.writeMsg (c : Chan) (shared buddy : Bool) (i : Nat) (w : Word) : Chan :=
  if c.full || (shared && c.heldByOther buddy) then setDenied c
  else
    let c := if shared && !c.held then { c with held := true, holder := buddy } else c
    { c with msg := c.msg.set i w }

/-- A sender's write of CTL (R26, R28, R510): whether its GO is accepted, and the channel after it. -/
def Chan.senderCtl (c : Chan) (w : Word) : Bool × Chan :=
  let go := w.bit 0
  let refuse := (go && c.full) || (w.bit 2 != c.rie)
  let c' := { c with sie := w.bit 3, denied := refuse || (c.denied && !w.bit 6) }
  if go && !c.full then (true, { c' with full := true }) else (false, c')

/-- A receiver's write of CTL (R26, R510). -/
def Chan.receiverCtl (c : Chan) (w : Word) : Chan :=
  let refuse := w.bit 0 || (w.bit 3 != c.sie)
  { c with rie := w.bit 2, denied := refuse || (c.denied && !w.bit 6) }

/-- MBOX_MSG_WRITE: master `mid` writes word `i` of channel `ch` (R25, R27, R28, R31, R510). -/
def doMboxMsgWrite (mid ch i : Nat) (w : Word) (s : State) : State :=
  let b := s.bind ch
  match b.role mid with
  | .stranger => s.denied mid ch (4 * i)
  | .receiver => s.modChan ch setDenied
  | .sender buddy => s.modChan ch fun c => c.writeMsg b.shared buddy i w

/-- GO: master `mid` writes `w` to CTL of channel `ch` (R26, R28, R31, R34, R510). -/
def doGo (mid ch : Nat) (w : Word) (s : State) : State :=
  let b := s.bind ch
  match b.role mid with
  | .stranger => s.denied mid ch 0x40
  | .receiver => s.modChan ch fun c => c.receiverCtl w
  | .sender buddy =>
    if b.shared && (s.chan ch).heldByOther buddy then s.modChan ch setDenied
    else
      let r := (s.chan ch).senderCtl w
      let s' := s.modChan ch fun _ => r.2
      if r.1 && r.2.rie && b.receiver < 128 then s'.modFn b.receiver (fireVec 0) else s'

/-- The sender's interrupt when FULL clears (R26, R34). -/
def State.emptied (s : State) (ch : Nat) : State :=
  let f := (s.bind ch).sender
  if (s.chan ch).sie && f < 128 then s.modFn f (fireVec 1) else s

/-- What freeing a response channel does: control sends its next message, for the management controller only after
10 ms (R48, R486). -/
def State.freed (s : State) (ch : Nat) : State :=
  if (s.bind ch).sender ≠ 0xC0 then s.emptied ch
  else if 256 ≤ ch && ch < 264 then { s with ctl := { s.ctl with bmcHold := ch :: s.ctl.bmcHold.filter (· ≠ ch) } }
  else s.pump ch

/-- TAKE: master `mid` reads TAKE of channel `ch` (R26, R27, R30, R31, R510). -/
def doTake (mid ch : Nat) (s : State) : State :=
  match (s.bind ch).role mid with
  | .stranger => { s.denied mid ch 0x44 with rdata := 0 }
  | .sender _ => { s.modChan ch setDenied with rdata := 0 }
  | .receiver =>
    let c := s.chan ch
    if c.full then
      ({ s.modChan ch fun c => { c with full := false, held := false } with rdata := (c.msg.getD 0 0#32).toNat }).freed ch
    else { s with rdata := 0 }

/-- HELD_TIMEOUT: 100 µs have passed since HELD was set without a GO (R31): the channel is free and the words written
are discarded. -/
def doHeldTimeout (ch : Nat) (s : State) : State :=
  if (s.chan ch).held && !(s.chan ch).full then
    s.modChan ch fun c => { c with held := false, msg := List.replicate 16 0#32 }
  else s

/-- BIND_LOCK: master `mid` writes `w` to BIND_LOCK (R32); only MID 0xC0 reaches the register. -/
def doBindLock (mid : Nat) (w : Word) (s : State) : State :=
  if mid = 0xC0 && w.bit 0 then { s with bindLock := true } else s

/-! ## Taking messages -/

/-- What the command index (R65) and the word tables say of an opcode: the LEN that every form needs, if there is one;
whether only a PF may issue it; whether the management controller may. -/
structure OpInfo where
  op : Nat
  len : Option Nat
  pf : Bool
  bmc : Bool

/-- The command index (R65). -/
def opTable : List OpInfo := [
  ⟨0x0101, some 2, true, false⟩, ⟨0x0102, some 1, true, true⟩, ⟨0x0103, some 1, false, true⟩,
  ⟨0x0104, some 1, true, false⟩, ⟨0x0105, some 1, true, false⟩, ⟨0x0201, none, true, false⟩,
  ⟨0x0202, none, true, false⟩, ⟨0x0203, some 1, false, true⟩, ⟨0x0204, some 1, true, false⟩,
  ⟨0x0301, some 3, true, false⟩, ⟨0x0302, some 1, false, true⟩, ⟨0x0303, some 1, true, false⟩,
  ⟨0x0304, some 1, true, false⟩, ⟨0x0401, some 1, true, false⟩, ⟨0x0402, none, true, false⟩,
  ⟨0x0501, some 2, false, false⟩, ⟨0x0502, some 2, false, false⟩, ⟨0x0503, some 1, false, false⟩,
  ⟨0x0601, some 15, false, false⟩, ⟨0x0602, none, false, false⟩, ⟨0x0603, some 1, false, false⟩,
  ⟨0x0604, some 1, false, false⟩, ⟨0x0701, some 14, false, false⟩, ⟨0x0702, some 1, false, false⟩,
  ⟨0x0703, none, true, false⟩, ⟨0x0801, none, false, false⟩, ⟨0x0802, none, false, false⟩,
  ⟨0x0803, some 2, false, false⟩, ⟨0x0901, none, false, false⟩, ⟨0x0902, none, false, false⟩,
  ⟨0x0903, none, true, false⟩, ⟨0x0904, some 2, false, false⟩, ⟨0x0A01, none, false, false⟩] ++ [
  ⟨0x0A02, none, false, false⟩, ⟨0x0A03, some 1, false, false⟩, ⟨0x0B01, none, false, false⟩,
  ⟨0x0B02, none, false, false⟩, ⟨0x0B03, none, false, false⟩, ⟨0x0B04, none, false, false⟩,
  ⟨0x0C01, none, false, false⟩, ⟨0x0C02, some 3, false, false⟩, ⟨0x0C03, none, true, false⟩,
  ⟨0x0D01, some 1, true, false⟩, ⟨0x0E01, some 1, false, false⟩, ⟨0x0E02, none, true, false⟩,
  ⟨0x0F01, some 1, true, false⟩, ⟨0x0F02, some 1, true, true⟩, ⟨0x1001, some 1, true, false⟩,
  ⟨0x1002, some 5, true, false⟩, ⟨0x1003, some 1, true, false⟩, ⟨0x1004, some 1, true, false⟩,
  ⟨0x1005, some 1, true, true⟩, ⟨0x1101, none, false, true⟩, ⟨0x1102, none, false, true⟩,
  ⟨0x1201, some 1, true, false⟩, ⟨0x1301, some 1, false, false⟩]

/-- The request channels (R23), in ascending order. -/
def reqChannels : List Nat := (List.range 132).map (2 * ·)

/-- May control take a message of this request channel (R47)? -/
def State.takable (s : State) (ch : Nat) : Bool := (s.chan ch).full && decide ((s.queue ch).length < 64)

/-- The channel that the round-robin serves next (R47). -/
def State.nextChannel (s : State) : Option Nat :=
  (reqChannels.filter (s.ctl.rr < ·) ++ reqChannels.filter (· ≤ s.ctl.rr)).find? s.takable

/-- The request channels of an issuer (R23). -/
def issuerChannels (i : Nat) : List Nat := if i < 128 then [2 * i] else [256, 258, 260, 262]

/-- Does an unanswered command or an outstanding long operation of the issuer carry the tag (R38)? -/
def State.tagInUse (s : State) (issuer tag : Nat) : Bool :=
  (issuerChannels issuer).any (fun ch =>
    (s.queue ch).any (·.tag == tag) || ((tget s.ctl.waits ch).any (·.tag == tag)) ||
    (tgetD s.ctl.rsps (ch + 1) []).any (fun m => (m.getD 0 0#32).fld 16 8 == tag)) ||
  s.ctl.ops.any fun o => o.fn == issuer && o.outstanding && o.tag == tag

/-- The refusal to the issuer of an opcode (R46 step 2, R51). -/
def State.issuerRefusal (s : State) (issuer : Nat) (o : OpInfo) : Option (Nat × Nat) :=
  if issuer = 0xC8 then (if o.bmc then none else some (eTenant, 1))
  else if isPF issuer then none
  else if o.op ≠ 0x0103 && (s.tenantOf issuer).isNone then some (eTenant, 3)
  else if o.pf then some (eTenant, 1) else none

/-- Put a command into a channel's queue (R47). -/
def State.enqueue (s : State) (ch : Nat) (c : Cmd) : State := s.setQueue ch (s.queue ch ++ [c])

/-- A whole command has arrived: the checks that need no argument (R46 steps 1 and 2), then the queue. -/
def State.arrive (s : State) (ch op tag : Nat) (args : List Word) : State :=
  let refuse := match opTable.find? (·.op == op) with
    | none => some (eUnknown, 0)
    | some o =>
      if o.len.any (· ≠ args.length) then some (eBadarg, 0x8001) else s.issuerRefusal (issuerOf ch) o
  s.enqueue ch ⟨op, tag, args, refuse⟩

/-- Forget the open segmented command of a channel. -/
def State.closeSeg (s : State) (ch : Nat) : State := { s with ctl := { s.ctl with segs := tdel s.ctl.segs ch } }
/-- Keep a segmented command open on a channel. -/
def State.openSeg (s : State) (ch : Nat) (g : Seg) : State := { s with ctl := { s.ctl with segs := tset s.ctl.segs ch g } }
/-- Discard the segments of a command up to the first with MORE = 0 (R40). -/
def State.discardSeg (s : State) (ch op tag : Nat) : State :=
  { s with ctl := { s.ctl with discards := tset s.ctl.discards ch (op + 65536 * tag) } }
/-- Stop discarding segments on a channel. -/
def State.endDiscard (s : State) (ch : Nat) : State :=
  { s with ctl := { s.ctl with discards := tdel s.ctl.discards ch } }

/-- The framing fault of word 0 itself (R45, R46). -/
def headFault (w0 : Word) : Option Nat :=
  if w0.bit 28 then some 0x8005 else if w0.fld 30 2 ≠ 0 then some 0x8006 else none

/-- A refused segment: the command is answered, and the segments after it are discarded if any follow (R40). -/
def State.refuseSeg (s : State) (ch op tag code : Nat) (more : Bool) : State :=
  let s := (s.closeSeg ch).enqueue ch ⟨op, tag, [], some (eBadarg, code)⟩
  if more then s.discardSeg ch op tag else s

/-- The first message of a command (R39, R40, R46). -/
def State.firstMsg (s : State) (ch : Nat) (w0 : Word) (args : List Word) : State :=
  let op := w0.fld 0 16
  let tag := w0.fld 16 8
  let more := w0.bit 29
  match headFault w0 with
  | some code => s.refuseSeg ch op tag code more
  | none =>
    if s.tagInUse (issuerOf ch) tag then s.refuseSeg ch op tag 0x8002 more
    else if more then s.openSeg ch ⟨op, tag, args, 1⟩
    else s.arrive ch op tag args

/-- A message on a channel whose segments may be open or being discarded (R39, R40). -/
def State.message (s : State) (ch : Nat) (w0 : Word) (args : List Word) : State :=
  let op := w0.fld 0 16
  let tag := w0.fld 16 8
  let more := w0.bit 29
  let key := op + 65536 * tag
  match tget s.ctl.discards ch with
  | some k =>
    if k = key then (if more then s else s.endDiscard ch) else (s.endDiscard ch).firstMsg ch w0 args
  | none =>
    match tget s.ctl.segs ch with
    | none => s.firstMsg ch w0 args
    | some g =>
      if g.opcode ≠ op || g.tag ≠ tag then
        (s.refuseSeg ch g.opcode g.tag 0x8003 false).firstMsg ch w0 args
      else match headFault w0 with
        | some code => s.refuseSeg ch op tag code more
        | none =>
          if g.count = 8 then s.refuseSeg ch op tag 0x8004 more
          else if more then s.openSeg ch { g with words := g.words ++ args, count := g.count + 1 }
          else (s.closeSeg ch).arrive ch op tag (g.words ++ args)

/-- The channel after control's TAKE: words 1 to 15 of a KEY.INSTALL are set to 0 first (R312). -/
def Chan.taken (c : Chan) : Chan :=
  let w0 := c.msg.getD 0 0#32
  { c with
    full := false
    held := false
    msg := if w0.fld 0 16 = 0x0701 && !w0.bit 28 then w0 :: List.replicate 15 0#32 else c.msg }

/-- CONTROL_TAKE_MESSAGE: control visits the request channels round-robin, takes one message (R47), and judges its
framing and issuer (R46); word 0 equal to 0 is discarded (R30). -/
def doControlTakeMessage (s : State) : State :=
  match s.nextChannel with
  | none => s
  | some ch =>
    let m := (s.chan ch).msg
    let w0 := m.getD 0 0#32
    let s := (s.modChan ch Chan.taken).emptied ch
    let s := { s with ctl := { s.ctl with rr := ch } }
    if w0 = 0#32 then s
    else (s.message ch w0 ((m.drop 1).take (w0.fld 24 4))).drain ch

/-! ## The meanings -/

/-- The meaning of MBOX_MSG_WRITE (R27). -/
def execMboxMsgWrite (mid : Nat) (ch : Nat) (i : Nat) (w : Word) (s : State) : Host.Outcome State Fault Refusal :=
  answer (Instr.mboxMsgWrite mid ch i w).wf (doMboxMsgWrite mid ch i w s)

/-- The meaning of GO (R28). -/
def execGo (mid : Nat) (ch : Nat) (w : Word) (s : State) : Host.Outcome State Fault Refusal :=
  answer (Instr.go mid ch w).wf (doGo mid ch w s)

/-- The meaning of TAKE (R27). -/
def execTake (mid : Nat) (ch : Nat) (s : State) : Host.Outcome State Fault Refusal :=
  answer (Instr.take mid ch).wf (doTake mid ch s)

/-- The meaning of HELD_TIMEOUT (R31). -/
def execHeldTimeout (ch : Nat) (s : State) : Host.Outcome State Fault Refusal :=
  answer (Instr.heldTimeout ch).wf (doHeldTimeout ch s)

/-- The meaning of BIND_LOCK (R32). -/
def execBindLock (mid : Nat) (w : Word) (s : State) : Host.Outcome State Fault Refusal :=
  answer (Instr.bindLock mid w).wf (doBindLock mid w s)

/-- The meaning of CONTROL_TAKE_MESSAGE (R47). -/
def execControlTakeMessage (s : State) : Host.Outcome State Fault Refusal :=
  answer Instr.controlTakeMessage.wf (doControlTakeMessage s)

end Sys2Proof.Machine
end

