-- ==== Sys2Proof/Machine/Registers.lean ====
section
/-! DEFINITION. The register map of BAR0 and BAR2 (R5 to R8, R58, R59, R70, R91, R101, R147, R359, R399, R475, R490,
R506 to R508), the Limlum control space (R32) and the management SMBus (R484 to R486). -/

namespace Sys2Proof.Machine

/-- PCIe port of a function (R24). -/
def pcieOf (f : Nat) : Nat := f / 64

/-- A value kept within a range by storing the nearest value (R7). -/
def clamp (lo hi v : Nat) : Nat := max lo (min hi v)

/-! ## Event ring registers (R58, R59, R62) -/

/-- EVR_CTL_ENABLE: a write of EVR_CTL (R58, R59). EN is judged as it was before the write. -/
def writeEvrCtl (f : Nat) (w : Word) (r : EvRing) : EvRing :=
  let en := w.bit 8
  let r1 := { r with
    sizeLog2 := if r.en then r.sizeLog2 else clamp 6 16 (w.fld 0 5)
    en := en
    all := if isPF f then w.bit 9 else r.all
    ie := w.bit 10 }
  if en && !r.en then { r1 with head := 0, tail := 0, phase := true, entries := [], stopped := false } else r1

/-- EVR_CTL_ENABLE. -/
def doEvrCtlEnable (fn : Nat) (w : Word) (s : State) : State :=
  s.modFn fn fun r => { r with ev := writeEvrCtl fn w r.ev }

/-- EVR_HEAD_WRITE: the host consumes entries; posting resumes once HEAD has moved (R62). -/
def doEvrHeadWrite (fn : Nat) (w : Word) (s : State) : State :=
  s.modFn fn fun r =>
    let h := w.fld 0 16
    let n := (h % r.ev.size + r.ev.size - r.ev.head % r.ev.size) % r.ev.size
    { r with ev := { r.ev with
        head := h
        entries := r.ev.entries.drop n
        stopped := r.ev.stopped && h == r.ev.head } }

/-- Post the held completion events that the ring has room for, in order (R62). -/
def State.postHeld (s : State) (f : Nat) : Nat → State
  | 0 => s
  | fuel + 1 =>
    let r := s.fn f
    match r.held with
    | [] => s
    | e :: es =>
      if r.ev.en && !r.ev.stopped && decide (1 < r.ev.free) then
        ((s.modFn f fun r => { r with held := es }.putEvent e).markPosted f e.handle).postHeld f fuel
      else s

/-- HELD_EVENT_POST (R62). -/
def doHeldEventPost (fn : Nat) (s : State) : State := s.postHeld fn (s.fn fn).held.length

/-- HOLDOFF_EXPIRE (R34): vector 2 fires if an entry deferred it and the ring still holds one. -/
def doHoldoffExpire (fn : Nat) (s : State) : State :=
  s.modFn fn fun r =>
    if !r.ev.hold then r else
    let r1 := { r with ev := { r.ev with hold := false, deferred := false } }
    if r.ev.deferred && r.ev.ie && r.ev.tail ≠ r.ev.head % r.ev.size then
      let g := fireVec 2 r1
      { g with ev := { g.ev with hold := decide (g.ev.holdoff ≠ 0) } }
    else r1

/-! ## Time registers (R70, R91, R101) -/

/-- TB_SNAP_CAPTURE: capture the bases of CAP at one reference-counter value (R70). -/
def doTbSnapCapture (fn : Nat) (w : Word) (s : State) : State :=
  let cap := w.fld 0 4
  s.modFn fn fun r => { r with
    tbValid := r.tbValid ||| cap
    tbCap := r.tbCap.zipIdx.map fun (v, n) => if hasBit cap n then (s.base n).val else v }

/-- TICK_NOW_READ: the tick number, and the latch of TICK_PHASE (R101). -/
def doTickNowRead (fn : Nat) (s : State) : State :=
  let b := s.base s.time.drv
  { s.modFn fn fun r => { r with
      phUs := b.val % msU / usU
      phSrc := s.time.drv
      phLocked := b.st == 3 } with rdata := s.tick }

/-- PTM_DIALOGUE: the root port's master time and the selected base for one instant (R91); without an answer, VALID
reads 0. -/
def doPtmDialogue (port : Nat) (master : Option Nat) (s : State) : State :=
  let p := s.time.ptm.getD port {}
  if !p.en then s else
  let p' := match master with
    | some t => { p with valid := true, host := t % 2 ^ 64, base := (s.base p.tb).val, seq := (p.seq + 1) % 2 ^ 16 }
    | none => { p with valid := false }
  { s with time := { s.time with ptm := s.time.ptm.set port p' } }

/-- A write of PTM_CTL by the physical function of the port (R91). -/
def writePtmCtl (f : Nat) (w : Word) (s : State) : State :=
  if !isPF f then s else
  let p := s.time.ptm.getD (pcieOf f) {}
  let en := w.bit 0
  let p' := { p with en := en, tb := w.fld 2 2, interval := clamp 0 10 (w.fld 4 4), valid := p.valid && !(en && !p.en) }
  { s with time := { s.time with ptm := s.time.ptm.set (pcieOf f) p' } }

/-! ## Leg queue registers (R142 to R147) -/

/-- A refused write of LQ_FLUSH (R144). -/
def State.lqFlushDenied (s : State) (f leg : Nat) : State :=
  (s.modFn f fun r => { r with lqDenied := true }).occur srcLqFlushDenied { s.occLeg leg with obj := some leg }

/-- LQ_FLUSH: a write of LQ_FLUSH by its function (R142, R144). -/
def doLqFlush (fn : Nat) (w : Word) (s : State) : State :=
  let r := s.fn fn
  let leg := w.fld 0 16
  if r.lqFlush then
    if leg ≠ r.lqLeg || w.bit 16 then s.lqFlushDenied fn leg
    else s.modFn fn fun r => { r with lqDenied := r.lqDenied && !w.bit 17 }
  else if !w.bit 16 then
    s.modFn fn fun r => { r with lqLeg := leg, lqDenied := r.lqDenied && !w.bit 17 }
  else match s.leg leg with
    | none => s.lqFlushDenied fn leg
    | some l =>
      if !s.mayTouch fn (s.legTenant l) then s.lqFlushDenied fn leg
      else (s.modFn fn fun r => { r with lqLeg := leg, lqFlush := true, lqDenied := r.lqDenied && !w.bit 17 }).flush leg

/-- LQ_FLUSH_COMPLETE: FLUSH returns to 0 (R143). -/
def doLqFlushComplete (fn : Nat) (s : State) : State := s.modFn fn fun r => { r with lqFlush := false }

/-! ## Packet ring registers (R359, R362) -/

/-- Does function `f` have packet ring `r` (R359)? -/
def hasRing (f r : Nat) : Bool := r ≠ 2 || isPF f

/-- Change a packet ring of a function. -/
def Fn.modRing (f : Fn) (r : Nat) (g : PktRing → PktRing) : Fn := { f with rings := lmod f.rings r {} g }

/-- A write of PR_CTL under the rules of R59. -/
def writePrCtl (w : Word) (p : PktRing) : PktRing :=
  let en := w.bit 8
  let p1 := { p with
    sizeLog2 := if p.en then p.sizeLog2 else clamp 4 12 (w.fld 0 4)
    slot := if p.en then p.slot else w.fld 4 2
    en := en
    ie := w.bit 9 }
  if en && !p.en then { p1 with head := 0, tail := 0, phase := true, slots := [], armed := true } else p1

/-- PR_CTL_ENABLE. -/
def doPrCtlEnable (fn ring : Nat) (w : Word) (s : State) : State :=
  if hasRing fn ring then s.modFn fn fun r => r.modRing ring (writePrCtl w) else s

/-- PR_HEAD_WRITE: the host consumes slots of ring 0 or 2 and re-arms EV_PKT_RING (R362). -/
def doPrHeadWrite (fn ring : Nat) (w : Word) (s : State) : State :=
  if ring = 1 || !hasRing fn ring then s
  else s.modFn fn fun r => r.modRing ring fun p =>
    let h := w.fld 0 12
    let sz := 2 ^ p.sizeLog2
    { p with head := h, slots := p.slots.drop ((h % sz + sz - p.head % sz) % sz), armed := true }

/-- SPTX_TAIL_WRITE: the host hands slots of the transmit ring to the module (R361). -/
def doSptxTailWrite (fn : Nat) (w : Word) (s : State) : State :=
  s.modFn fn fun r => r.modRing 1 fun p => { p with tail := w.fld 0 12 }

/-! ## Reading -/

/-- The word of a mailbox channel's CTL (R26). -/
def Chan.ctlWord (c : Chan) : Nat :=
  2 * b2n c.full + 4 * b2n c.rie + 8 * b2n c.sie + 16 * b2n c.held + 32 * b2n c.holder + 64 * b2n c.denied

/-- The word of a channel's OWNER (R26). -/
def Bind.ownerWord (b : Bind) : Nat :=
  if b.valid then b.sender + 256 * b.receiver + 65536 * b2n b.shared + 2 ^ 31 else 0

/-- A read of a mailbox channel by a master (R25 to R27, R510). -/
def readChan (mid ch reg : Nat) (s : State) : State :=
  if reg = 0x44 then doTake mid ch s
  else if (s.bind ch).role mid = .stranger then { s.denied mid ch reg with rdata := 0 }
  else if reg < 0x40 then { s with rdata := ((s.chan ch).msg.getD (reg / 4) 0#32).toNat }
  else if reg = 0x40 then { s with rdata := (s.chan ch).ctlWord }
  else if reg = 0x48 then { s with rdata := (s.bind ch).ownerWord }
  else { s with rdata := 0 }

/-- Nanoseconds, fraction and seconds of a base value (R66). -/
def tbWord (v reg : Nat) : Nat :=
  if reg = 0 then v / nsU % 1000000000
  else if reg = 4 then v % nsU
  else if reg = 8 then v / secU % 2 ^ 32
  else v / secU / 2 ^ 32 % 2 ^ 16

/-- Is domain `d` powered (R464)? -/
def State.domainOn (s : State) (d : Nat) : Bool := s.power.pdOn.contains d

/-- Number of 100 MHz steps by which the cap lowers the clocks (R462). -/
def Power.ceil (p : Power) : Nat := (p.applied.filter fun k => k == 5 || k == 6).length

/-- The highest derating step applied (R475): the latest. -/
def Power.step (p : Power) : Nat := p.applied.head?.getD 0

/-- The word CL_OP of a cluster (R475): 0 while its domain is off. -/
def State.clOpWord (s : State) (n : Nat) : Nat :=
  if !s.domainOn n then 0 else
  let r := s.rail n
  r.mv % 1024 + 1024 * (r.mhz % 4096) + 2 ^ 22 * b2n r.split + 2 ^ 23 * b2n r.boost + 2 ^ 24 * b2n (decide (r.vCeil < 2000)) +
    2 ^ 25 * b2n (decide (r.tCeil < 2000)) + 2 ^ 26 * b2n (decide (0 < s.power.ceil))

/-- The registers of the power stage and the domains (R475), and the rest of that map. -/
def readPower (off : Nat) (s : State) : Nat :=
  let p := s.power
  if off = 0x010000 then min p.tlm.mv 65535 + 65536 * b2n (decide (65535 < p.tlm.mv))
  else if off = 0x010004 then min p.tlm.ma 65535
  else if off = 0x010008 then p.tlm.mw % 2 ^ 20
  else if off = 0x01000C then
    b2n p.ac + 2 * p.step + 16 * b2n p.tlmLost + 4096 * p.ceil + 65536 * (if p.ac then 330 else 0)
  else if 0x010010 ≤ off && off < 0x01001C then
    maskOf ((p.pdOn.filter fun d => d / 32 == (off - 0x010010) / 4).map (· % 32))
  else if 0x010020 ≤ off && off < 0x01002C then
    maskOf ((p.pdFault.filter fun d => d / 32 == (off - 0x010020) / 4).map (· % 32))
  else if 0x010100 ≤ off && off < 0x0101C0 then s.clOpWord ((off - 0x010100) / 4)
  else if 0x010200 ≤ off && off < 0x010300 then field 16 (tgetD p.temps ((off - 0x010200) / 4) 0)
  else 0

/-- The words of an entry of the HBM error log (R399). -/
def HbmLog.word (e : HbmLog) (i : Nat) : Nat :=
  if i = 0 then e.kind + 4 * e.pc + 512 * e.sid + 2048 * e.bg + 8192 * e.bank + 65536 * e.row
  else if i = 1 then e.wordIx + 256 * e.symbol + 65536 * e.mid + 2 ^ 24 * e.region
  else if i = 2 then e.tick else e.off

/-- The registers of the memory controller, read by a PF (R399). RC counts are cleared by the read. -/
def readHbm (off : Nat) (s : State) : Nat × State :=
  let h := s.hbm
  if off = 0x00E000 then (b2n h.ceLog, s)
  else if off = 0x00E004 then (h.head, s)
  else if off = 0x00E008 then (h.tail, s)
  else if off = 0x00E00C then (h.lost, { s with hbm := { h with lost := 0 } })
  else if 0x00E200 ≤ off && off < 0x00E400 then
    let n := (off - 0x00E200) / 4
    ((s.pchan n).ce, s.modPchan n fun p => { p with ce := 0 })
  else if 0x00E400 ≤ off && off < 0x00E600 then
    let n := (off - 0x00E400) / 4
    ((s.pchan n).ue, s.modPchan n fun p => { p with ue := 0 })
  else if 0x00E800 ≤ off && off < 0x00F800 then
    (((tget h.log ((off - 0x00E800) / 16)).map fun e => e.word (off / 4 % 4)).getD 0, s)
  else (0, s)

/-- The registers of a packet ring (R359). PR_LOST is cleared by the read. -/
def readRing (f r reg : Nat) (s : State) : Nat × State :=
  if !hasRing f r then (0, s) else
  let p := (s.fn f).rings.getD r {}
  if reg = 0 then (4096 * p.baseLo, s)
  else if reg = 4 then (p.baseHi, s)
  else if reg = 8 then (p.sizeLog2 + 16 * p.slot + 256 * b2n p.en + 512 * b2n p.ie, s)
  else if reg = 0xC then (p.head, s)
  else if reg = 0x10 then (p.tail + (if r = 1 then 0 else 2 ^ 31 * b2n p.phase), s)
  else if reg = 0x14 then (p.lost, s.modFn f fun x => x.modRing r fun p => { p with lost := 0 })
  else (0, s)

/-- The registers of an event ring (R58). EVR_LOST is cleared by the read. -/
def readEvr (f off : Nat) (s : State) : Nat × State :=
  let e := (s.fn f).ev
  if off = 0x00A000 then (4096 * e.baseLo, s)
  else if off = 0x00A004 then (e.baseHi, s)
  else if off = 0x00A008 then (e.sizeLog2 + 256 * b2n e.en + 512 * b2n e.all + 1024 * b2n e.ie, s)
  else if off = 0x00A00C then (e.head, s)
  else if off = 0x00A010 then (e.tail + 2 ^ 31 * b2n e.phase, s)
  else if off = 0x00A014 then (e.lost, s.modFn f fun r => { r with ev := { r.ev with lost := 0 } })
  else if off = 0x00A018 then (e.holdoff, s)
  else (0, s)

/-- The leg queue registers (R147): VFs read them as 0 but for LQ_FLUSH. -/
def readLq (f off : Nat) (s : State) : Nat × State :=
  let r := s.fn f
  let m := s.mon
  if off = 0x00C004 then (r.lqLeg + 65536 * b2n r.lqFlush + 131072 * b2n r.lqDenied, s)
  else if !isPF f then (0, s)
  else if off = 0x00C000 then (b2n m.compat, s)
  else if off = 0x00C008 then (m.lqErrLeg + 65536 * m.lqErrCount + 2 ^ 31 * b2n m.lqErrValid, s)
  else if 0x00C100 ≤ off && off < 0x00C200 then
    let b := (off - 0x00C100) / 4
    (tgetD m.lqbCe b 0, { s with mon := { m with lqbCe := tdel m.lqbCe b } })
  else if 0x00C200 ≤ off && off < 0x00C300 then
    let b := (off - 0x00C200) / 4
    (tgetD m.lqbUe b 0, { s with mon := { m with lqbUe := tdel m.lqbUe b } })
  else (0, s)

/-- The time registers (R70, R91, R101). -/
def readTimeRegs (f off : Nat) (s : State) : Nat :=
  let r := s.fn f
  let p := s.time.ptm.getD (pcieOf f) {}
  if off = 0x00B000 then 256 * r.tbValid
  else if 0x00B010 ≤ off && off < 0x00B050 then tbWord (r.tbCap.getD ((off - 0x00B010) / 16) 0) (off % 16)
  else if off = 0x00B060 then b2n p.en + 2 * b2n p.valid + 4 * p.tb + 16 * p.interval + 65536 * p.seq
  else if off = 0x00B064 then p.host % 2 ^ 32
  else if off = 0x00B068 then p.host / 2 ^ 32
  else if off = 0x00B06C then tbWord p.base 0
  else if off = 0x00B070 then tbWord p.base 4
  else if off = 0x00B074 then tbWord p.base 8
  else if off = 0x00B078 then tbWord p.base 12
  else if off = 0x00B084 then r.phUs + 1024 * r.phSrc + 4096 * b2n r.phLocked
  else 0

/-- May a function read counter `i` (R508)? -/
def State.counterFor (s : State) (f i : Nat) : Option Counter :=
  match tget s.mon.counters i with
  | some c => if isPF f || c.owner == f then some c else none
  | none => none

/-- CNT_LO_READ: bits [31:0] of a counter, latching bits [63:32] for the function (R508). -/
def doCntLoRead (fn i : Nat) (s : State) : State :=
  let v := ((s.counterFor fn i).map (·.value)).getD 0
  { s.modFn fn fun r => { r with cntHi := tset r.cntHi i (v / 2 ^ 32) } with rdata := v % 2 ^ 32 }

/-- The firmware's FWREV register (R507): 0 until boot firmware writes it. -/
def State.fwrev (s : State) : Nat := s.upd.fwActive

/-- RC_REGISTER_READ: function `fn` reads offset `off` of BAR0 (R5, R506): every register of the map, the RC registers
cleared by the read, offsets that the map does not name reading 0. -/
def doRcRegisterRead (fn off : Nat) (s : State) : State :=
  let put (p : Nat × State) : State := { p.2 with rdata := p.1 }
  if off = 0 then put (0x6548214E, s)
  else if off = 4 then put (s.fwrev, s)
  else if 0x001000 ≤ off && off < 0x00A000 then readChan fn ((off - 0x1000) / 0x80) (off % 0x80) s
  else if 0x00A000 ≤ off && off < 0x00A01C then put (readEvr fn off s)
  else if off = 0x00B080 then doTickNowRead fn s
  else if 0x00B000 ≤ off && off < 0x00B088 then put (readTimeRegs fn off s, s)
  else if 0x00C000 ≤ off && off < 0x00C300 then put (readLq fn off s)
  else if 0x00D000 ≤ off && off < 0x00D060 then put (readRing fn ((off - 0xD000) / 0x20) (off % 0x20) s)
  else if 0x00E000 ≤ off && off < 0x00F800 then put (if isPF fn then readHbm off s else (0, s))
  else if 0x010000 ≤ off && off < 0x010300 then put (readPower off s, s)
  else if 0x011000 ≤ off && off < 0x011800 then
    let i := (off - 0x011000) / 8
    if off % 8 = 0 then doCntLoRead fn i s else put (tgetD (s.fn fn).cntHi i 0, s)
  else put (0, s)

/-! ## Writing -/

/-- A write into the mailbox window by a master: MSG, CTL, and the read-only rest (R25, R26). -/
def writeChan (mid ch reg : Nat) (w : Word) (s : State) : State :=
  if reg < 0x40 then doMboxMsgWrite mid ch (reg / 4) w s
  else if reg = 0x40 then doGo mid ch w s
  else if (s.bind ch).role mid = .stranger then s.denied mid ch reg
  else s

/-- A write of a packet ring register (R359). -/
def writeRing (f r reg : Nat) (w : Word) (s : State) : State :=
  if !hasRing f r then s
  else if reg = 0 then s.modFn f fun x => x.modRing r fun p => if p.en then p else { p with baseLo := w.fld 12 20 }
  else if reg = 4 then s.modFn f fun x => x.modRing r fun p => if p.en then p else { p with baseHi := w.toNat }
  else if reg = 8 then doPrCtlEnable f r w s
  else if reg = 0xC then doPrHeadWrite f r w s
  else if reg = 0x10 && r = 1 then doSptxTailWrite f w s
  else s

/-- A write of an event ring register (R58, R59). -/
def writeEvr (f off : Nat) (w : Word) (s : State) : State :=
  let mod (g : EvRing → EvRing) : State := s.modFn f fun r => { r with ev := g r.ev }
  if off = 0x00A000 then mod fun e => if e.en then e else { e with baseLo := w.fld 12 20 }
  else if off = 0x00A004 then mod fun e => if e.en then e else { e with baseHi := w.toNat }
  else if off = 0x00A008 then doEvrCtlEnable f w s
  else if off = 0x00A00C then doEvrHeadWrite f w s
  else if off = 0x00A018 then mod fun e => { e with holdoff := w.fld 0 16 }
  else s

/-- A write of a register that only PF0 and PF1 write (R147, R399, R475). -/
def writePf (off : Nat) (w : Word) (s : State) : State :=
  if off = 0x00C000 then
    if s.legs.isEmpty then { s with mon := { s.mon with compat := w.bit 0 } } else s
  else if off = 0x00C008 then
    if w.bit 31 then { s with mon := { s.mon with lqErrValid := false, lqErrCount := 0 } } else s
  else if off = 0x00E000 then { s with hbm := { s.hbm with ceLog := w.bit 0 } }
  else if off = 0x00E004 then { s with hbm := { s.hbm with head := w.fld 0 8 } }
  else if 0x010020 ≤ off && off < 0x01002C then
    { s with power := { s.power with
        pdFault := s.power.pdFault.filter fun d => !(d / 32 == (off - 0x010020) / 4 && w.bit (d % 32)) } }
  else s

/-- A write by function `f` at offset `off` of BAR0 (R5, R506). -/
def writeBar0 (f off : Nat) (w : Word) (s : State) : State :=
  if 0x001000 ≤ off && off < 0x00A000 then writeChan f ((off - 0x1000) / 0x80) (off % 0x80) w s
  else if 0x00A000 ≤ off && off < 0x00A01C then writeEvr f off w s
  else if off = 0x00B000 then doTbSnapCapture f w s
  else if off = 0x00B060 then writePtmCtl f w s
  else if off = 0x00C004 then doLqFlush f w s
  else if 0x00D000 ≤ off && off < 0x00D060 then writeRing f ((off - 0xD000) / 0x20) (off % 0x20) w s
  else if isPF f then writePf off w s
  else s

/-- A write of word `reg` of a vector's MSI-X table entry (R490): clearing the mask sends a pending message. -/
def writeVec (reg : Nat) (w : Word) (v : Vec) : Vec :=
  if reg = 0 then { v with addrLo := w &&& 0xFFFFFFFC#32 }
  else if reg = 4 then { v with addrHi := w }
  else if reg = 8 then { v with data := w }
  else if w.bit 0 then { v with mask := true }
  else { v with mask := false, pend := false, fired := v.fired + b2n v.pend }

/-- A write by function `f` into its MSI-X table (R34, R490): unmasking a vector sends its pending message. -/
def writeBar2 (f off : Nat) (w : Word) (s : State) : State :=
  if 0x40 ≤ off then s else
  s.modFn f fun r => { r with vecs := lmod r.vecs (off / 16) {} (writeVec (off % 16) w) }

/-- A write by a master into the Limlum control space (R32): only MID 0xC0 reaches it, and BIND_LOCK locks the table. -/
def writeLimlum (mid off : Nat) (w : Word) (s : State) : State :=
  if mid ≠ 0xC0 then s
  else if off = 0x003480 then doBindLock mid w s
  else if 0x003000 ≤ off && off < 0x003480 && !s.bindLock then
    let c := (off - 0x003000) / 4
    let b : Bind := { sender := w.fld 0 8, receiver := w.fld 8 8, shared := w.bit 16 && decide (264 ≤ c), valid := w.bit 31 }
    { s with binds := tset s.binds c b }
  else s

/-- REGISTER_WRITE: a write of any register (R5), under its access codes, ranges (R7) and locks. -/
def doRegisterWrite (addr : RegAddr) (w : Word) (s : State) : State :=
  match addr with
  | .bar0 f off => writeBar0 f off w s
  | .bar2 f off => writeBar2 f off w s
  | .limlum mid off => writeLimlum mid off w s

/-! ## The management SMBus (R484 to R486, R489) -/

/-- Does the module acknowledge on the SMBus (R489)? -/
def Cond.smb (c : Cond) : Bool := match c with
  | .serving => true
  | .stopped => true
  | _ => false

/-- A read of the window by the management controller (R485); a stopped module shows IDENT, FWREV and telemetry only. -/
def smbRead32 (off : Nat) (s : State) : State :=
  if off = 0 then { s with rdata := 0x6548214E }
  else if off = 4 then { s with rdata := s.fwrev }
  else if 0x009000 ≤ off && off < 0x009400 && s.power.cond = .serving then readChan 0xC8 ((off - 0x1000) / 0x80) (off % 0x80) s
  else if 0x010000 ≤ off && off < 0x010300 then { s with rdata := readPower off s }
  else { s.occur srcSmbDenied {} with rdata := 0 }

/-- A 24-bit offset from three bytes. -/
def smbOffset (bs : List Byte) : Nat := leNat (bs.take 3)

/-- SMB_WRITE: a Write block (R484, R485). A wrong byte count or PEC is not acknowledged and writes nothing. -/
def doSmbWrite (bytes : List Byte) (pecOk : Bool) (s : State) : State :=
  if !s.power.cond.smb || !pecOk || bytes.length ≠ 7 then { s with pins := { s.pins with smbAns := none } } else
  let off := smbOffset bytes
  let w := word (leNat (bytes.drop 3))
  let s := { s with pins := { s.pins with smbAns := some [] } }
  if 0x009000 ≤ off && off < 0x009400 && s.power.cond = .serving then
    writeChan 0xC8 ((off - 0x1000) / 0x80) (off % 0x80) w s
  else s.occur srcSmbDenied {}

/-- SMB_POINTER: a Pointer block (R484). -/
def doSmbPointer (bytes : List Byte) (pecOk : Bool) (s : State) : State :=
  if !s.power.cond.smb || !pecOk || bytes.length ≠ 3 then { s with pins := { s.pins with smbAns := none } }
  else { s with pins := { s.pins with smbAns := some [], smbPtr := smbOffset bytes } }

/-- SMB_READ: a Read block (R484): four bytes at the pointer, which then advances by 4. The access is made whether or
not the controller finds the PEC good (R486). -/
def doSmbRead (_pecOk : Bool) (s : State) : State :=
  if !s.power.cond.smb then { s with pins := { s.pins with smbAns := none } } else
  let t := smbRead32 s.pins.smbPtr s
  { t with pins := { t.pins with smbAns := some (leBytes t.rdata 4), smbPtr := (s.pins.smbPtr + 4) % 2 ^ 24 } }

/-- Is ALERT_N asserted (R35)? -/
def State.alert (s : State) : Bool := [257, 259, 261, 263].any fun c => (s.chan c).full && (s.chan c).rie

/-- SMB_ALERT_RESPONSE: while it asserts ALERT_N the module answers the Alert Response Address with its own address,
0x5B with both straps open (R484). -/
def doSmbAlertResponse (s : State) : State :=
  { s with pins := { s.pins with smbAns := if s.power.cond.smb && s.alert then some [0x5B#8] else none } }

/-- BMC_RESPONSE_HOLD_END: 10 ms after the TAKE that freed it, control may write a response channel of the management
controller again (R486). -/
def doBmcResponseHoldEnd (ch : Nat) (s : State) : State :=
  ({ s with ctl := { s.ctl with bmcHold := s.ctl.bmcHold.filter (· ≠ ch) } }).pump ch

/-! ## The meanings -/

/-- The meaning of EVR_CTL_ENABLE (R59). -/
def execEvrCtlEnable (fn : Nat) (w : Word) (s : State) : Host.Outcome State Fault Refusal :=
  answer (Instr.evrCtlEnable fn w).wf (doEvrCtlEnable fn w s)

/-- The meaning of EVR_HEAD_WRITE (R62). -/
def execEvrHeadWrite (fn : Nat) (w : Word) (s : State) : Host.Outcome State Fault Refusal :=
  answer (Instr.evrHeadWrite fn w).wf (doEvrHeadWrite fn w s)

/-- The meaning of HELD_EVENT_POST (R62). -/
def execHeldEventPost (fn : Nat) (s : State) : Host.Outcome State Fault Refusal :=
  answer (Instr.heldEventPost fn).wf (doHeldEventPost fn s)

/-- The meaning of HOLDOFF_EXPIRE (R34). -/
def execHoldoffExpire (fn : Nat) (s : State) : Host.Outcome State Fault Refusal :=
  answer (Instr.holdoffExpire fn).wf (doHoldoffExpire fn s)

/-- The meaning of TB_SNAP_CAPTURE (R70). -/
def execTbSnapCapture (fn : Nat) (w : Word) (s : State) : Host.Outcome State Fault Refusal :=
  answer (Instr.tbSnapCapture fn w).wf (doTbSnapCapture fn w s)

/-- The meaning of TICK_NOW_READ (R101). -/
def execTickNowRead (fn : Nat) (s : State) : Host.Outcome State Fault Refusal :=
  answer (Instr.tickNowRead fn).wf (doTickNowRead fn s)

/-- The meaning of PTM_DIALOGUE (R91). -/
def execPtmDialogue (port : Nat) (master : Option Nat) (s : State) : Host.Outcome State Fault Refusal :=
  answer (Instr.ptmDialogue port master).wf (doPtmDialogue port master s)

/-- The meaning of LQ_FLUSH (R142). -/
def execLqFlush (fn : Nat) (w : Word) (s : State) : Host.Outcome State Fault Refusal :=
  answer (Instr.lqFlush fn w).wf (doLqFlush fn w s)

/-- The meaning of LQ_FLUSH_COMPLETE (R143). -/
def execLqFlushComplete (fn : Nat) (s : State) : Host.Outcome State Fault Refusal :=
  answer (Instr.lqFlushComplete fn).wf (doLqFlushComplete fn s)

/-- The meaning of PR_CTL_ENABLE (R359). -/
def execPrCtlEnable (fn : Nat) (ring : Nat) (w : Word) (s : State) : Host.Outcome State Fault Refusal :=
  answer (Instr.prCtlEnable fn ring w).wf (doPrCtlEnable fn ring w s)

/-- The meaning of PR_HEAD_WRITE (R362). -/
def execPrHeadWrite (fn : Nat) (ring : Nat) (w : Word) (s : State) : Host.Outcome State Fault Refusal :=
  answer (Instr.prHeadWrite fn ring w).wf (doPrHeadWrite fn ring w s)

/-- The meaning of SPTX_TAIL_WRITE (R361). -/
def execSptxTailWrite (fn : Nat) (w : Word) (s : State) : Host.Outcome State Fault Refusal :=
  answer (Instr.sptxTailWrite fn w).wf (doSptxTailWrite fn w s)

/-- The meaning of CNT_LO_READ (R508). -/
def execCntLoRead (fn : Nat) (i : Nat) (s : State) : Host.Outcome State Fault Refusal :=
  answer (Instr.cntLoRead fn i).wf (doCntLoRead fn i s)

/-- The meaning of RC_REGISTER_READ (R5). -/
def execRcRegisterRead (fn : Nat) (off : Nat) (s : State) : Host.Outcome State Fault Refusal :=
  answer (Instr.rcRegisterRead fn off).wf (doRcRegisterRead fn off s)

/-- The meaning of REGISTER_WRITE (R5). -/
def execRegisterWrite (addr : RegAddr) (w : Word) (s : State) : Host.Outcome State Fault Refusal :=
  answer (Instr.registerWrite addr w).wf (doRegisterWrite addr w s)

/-- The meaning of SMB_WRITE (R484). -/
def execSmbWrite (bytes : List Byte) (pecOk : Bool) (s : State) : Host.Outcome State Fault Refusal :=
  answer (Instr.smbWrite bytes pecOk).wf (doSmbWrite bytes pecOk s)

/-- The meaning of SMB_POINTER (R484). -/
def execSmbPointer (bytes : List Byte) (pecOk : Bool) (s : State) : Host.Outcome State Fault Refusal :=
  answer (Instr.smbPointer bytes pecOk).wf (doSmbPointer bytes pecOk s)

/-- The meaning of SMB_READ (R484). -/
def execSmbRead (pecOk : Bool) (s : State) : Host.Outcome State Fault Refusal :=
  answer (Instr.smbRead pecOk).wf (doSmbRead pecOk s)

/-- The meaning of SMB_ALERT_RESPONSE (R484). -/
def execSmbAlertResponse (s : State) : Host.Outcome State Fault Refusal :=
  answer Instr.smbAlertResponse.wf (doSmbAlertResponse s)

/-- The meaning of BMC_RESPONSE_HOLD_END (R486). -/
def execBmcResponseHoldEnd (ch : Nat) (s : State) : Host.Outcome State Fault Refusal :=
  answer (Instr.bmcResponseHoldEnd ch).wf (doBmcResponseHoldEnd ch s)

end Sys2Proof.Machine
end

