-- ==== Sys2Proof/Machine/Loops.lean ====
section
/-! DEFINITION. The clock of a cluster: its ceilings (R462, R468, R469, R473) and the boost (R470). -/

namespace Sys2Proof.Machine

/-- The clock that the ceilings of a cluster allow, in MHz (R468). A cap ceiling counts from 2.0 GHz (R475). -/
def State.clockCeiling (s : State) (r : Rail) : Nat :=
  min (min r.vCeil r.tCeil) (min (if 0 < s.power.ceil then 2000 - 100 * s.power.ceil else 2200) (if r.boost then 2200 else 2000))

/-- May the boost of a cluster run (R470): below 95 °C, no cap step, and no voltage ceiling below 2.2 GHz? -/
def State.boostOk (s : State) (cl : Nat) : Bool :=
  decide (tgetD s.power.temps cl 0 < 95 * 16) && s.power.applied.isEmpty && decide (2200 ≤ (s.rail cl).vCeil)

/-- A lower ceiling takes effect at once: a boost whose conditions fail ends, the clock falls, and the windows of R113 and R114 see
the lower clock. -/
def State.clockFall (s : State) (cl : Nat) : State :=
  let r := s.rail cl
  let r := { r with boost := r.boost && s.boostOk cl }
  let f := min r.mhz (s.clockCeiling r)
  let s := s.modRail cl fun _ => { r with mhz := f }
  s.modCluster cl fun c => { c with clkMin := min c.clkMin f, clkMinEv := min c.clkMinEv f }

/-- The same for every cluster. -/
def State.clocksFall (s : State) : State := (List.range 48).foldl (fun s c => s.clockFall c) s

/-- A placement pass: a window with overruns lets the boost begin at the next boundary; one without ends it (R470). -/
def State.boostPass (s : State) (cl : Nat) (overRun : Bool) : State :=
  if overRun then s.modRail cl fun r => { r with boostDue := true }
  else if (s.rail cl).boost || (s.rail cl).boostDue then (s.modRail cl fun r => { r with boost := false, boostDue := false }).clockFall cl
  else s

/-- At a boundary the boosts that are due begin, where their conditions hold (R470). -/
def State.startBoosts (s : State) : State :=
  { s with power := { s.power with rails := s.power.rails.map fun (c, r) =>
      (c, if r.boostDue then { r with boostDue := false, boost := r.boost || s.boostOk c } else r) } }

end Sys2Proof.Machine
end

