-- ==== Sys2Proof/Machine/Trailhead.lean ====
section
/-! DEFINITION. The media tick and Trailhead (R98 to R121): boundaries, delay lists, ready lists, dispatch, overrun, the
placement loop, and locked groups. -/

namespace Sys2Proof.Machine

abbrev evTickSource : Nat := 0x0204
abbrev evOverrun : Nat := 0x1201
abbrev evPlacePass : Nat := 0x1202

/-! ## Boundaries -/

/-- Reference time from now to the next millisecond boundary of a base (R98). -/
def Base.toBoundary (b : Base) : Nat :=
  let r : Int := ((b.val / msU + 1) * msU - b.val : Nat)
  let y : Int := 1000000000000 + b.rate
  ((r * 1000000000000 - b.rem + y - 1) / y).toNat

/-- PPS_OUT falls once its width has passed since the second boundary at which it rose (R87). -/
def State.ppsFall (s : State) : State :=
  let v : Int := (s.base s.time.ppsOutTb).val + s.time.ppsCable * 65536
  let low := s.time.ppsOutAt.all fun sec => decide ((sec * secU + s.time.ppsWidth * msU : Nat) ≤ v)
  if s.pins.ppsOut && low then { s with pins := { s.pins with ppsOut := false } } else s

/-- The module at the next millisecond boundary of base `n`: M and the reference counter of the boundary (R98, R99). -/
def State.toBoundary (s : State) (n : Nat) : State :=
  let s := (s.advance (s.base n).toBoundary).ppsFall
  { s with time := { s.time with m := (s.base n).val / msU } }

/-! ## Releasing work -/

/-- Put an item at the tail of its ready list (R105). -/
def Trail.ready_ (t : Trail) (i : Item) : Trail := { t with ready := lmod t.ready i.prio [] fun l => l ++ [i] }

/-- Release an item (R107): it waits in its flow's queue while an item of the flow is in service. -/
def State.release (s : State) (i : Item) : State :=
  if flowMax ≤ i.flow then { s with trail := s.trail.ready_ i }
  else match tget s.trail.flows i.flow with
    | none => s
    | some f =>
      if f.stopped then s
      else if f.serving.isSome then s.setFlow i.flow { f with waiting := f.waiting ++ [i] }
      else { s with trail := s.trail.ready_ i }

/-- The work of a kind released now for flow `n`. -/
def State.releaseWork (s : State) (n : Nat) (f : Flow) (prio : Nat) (w : Work) : State :=
  s.release { flow := n, epoch := f.epoch, prio := prio, work := w, tick := s.time.m }

/-- Work for a due timer enters its ready list: the control flow of its leg runs it at priority 2 (R103, R107). -/
def State.fire (s : State) (t : Timer) : State :=
  match t.leg with
  | none => s
  | some n => match s.flowOf (.legControl n) with
    | some (k, f) => s.releaseWork k f 2 (match t with
      | .rtcp _ => .rtcp
      | _ => .timer)
    | none => s

/-- Insert again the timers of delay list `l` that found it full (R109). -/
def State.reinsert (s : State) (l : Nat) : State :=
  let mine := s.trail.lost.filter fun e => e.what.list == l
  let s := { s with trail := { s.trail with lost := s.trail.lost.filter fun e => e.what.list ≠ l } }
  mine.foldl (fun s e => s.setTimer e.due e.what) s

/-- Release every due entry of delay list `l` (R109, R110). -/
def State.releaseDue (s : State) (l : Nat) : State :=
  let s := s.reinsert l
  let es := s.trail.delays.getD l []
  let due := es.filter fun e => decide (e.due ≤ s.time.m)
  let s := { s with trail := { s.trail with delays := s.trail.delays.set l (es.filter fun e => !decide (e.due ≤ s.time.m)) } }
  due.foldl (fun s e => s.fire e.what) s

/-- Do frames of `len` ticks of object `n` start in the tick of millisecond count `m` (R104)? -/
def startsAt (len n m : Nat) : Bool := m % len == n % len

/-- Does a video frame of rate `fps` of object `n` start in the tick (R104)? -/
def videoStarts (fps n m : Nat) : Bool :=
  let p := n % (1000 / fps)
  let x := m - p
  decide (p ≤ m) && 1000 * ((x * fps + 999) / 1000) / fps == x

/-- The periodic work of a flow in the tick (R103, R104, R163). -/
def State.periodic (s : State) (o : FlowOwner) : Option (Nat × Work) :=
  match o with
  | .legControl n => if startsAt 50 n s.time.m then some (4, .estimate) else none
  | .legAudio _ => some (5, .audio)
  | .legEncode n => match s.leg n with
    | some l => if l.cfg.kind = 1 || startsAt l.aud.out.enc.frameMs n s.time.m then some (5, .audio) else none
    | none => none
  | .confMix _ => some (6, .mix)
  | .decode _ => some (3, .video)
  | .encode _ => some (3, .video)
  | .canvas _ => some (3, .video)

/-- Release the periodic items of the tick, in order of flow number (R110). -/
def State.releasePeriodic (s : State) : State :=
  s.trail.flows.foldl (fun s p => match s.periodic p.2.owner with
    | some (prio, w) => s.releaseWork p.1 p.2 prio w
    | none => s) s

/-- Release the shadow application of every cluster whose buddy left logs of an earlier tick (R413). -/
def State.releaseShadow (s : State) : State :=
  (List.range 48).foldl (fun s c =>
    if (s.cluster c).pendingLogs.any (· < s.time.m) && !s.trail.cores.any (fun p => p.2.flow == flowMax + c) &&
        !(s.trail.ready.getD 7 []).any (fun i => i.flow == flowMax + c) then
      s.release { flow := flowMax + c, epoch := 0, prio := 7, work := .shadow, tick := s.time.m }
    else s) s

/-- With one hub half in service, copies of priority 0 are shed while the egress of the last tick exceeds 1.0 Tb/s, until it falls
below 0.9 Tb/s (R426). -/
def State.hubShed (s : State) : State :=
  let one := (s.prot.halves.filter fun h => h).length == 1
  let bytes : Nat := (s.legs.map fun x => ((x.2.est.outs.filter fun o => o.1 + 1 == s.time.m).map (·.2.1)).sum).sum
  let on := one && (decide (125000000 < bytes) || (s.prot.shedding && decide (112500000 ≤ bytes)))
  { s with prot := { s.prot with shedding := on } }

/-- The work of a boundary, in the order of R110. -/
def State.boundaryWork (s : State) : State :=
  ((((s.startBoosts.hubShed.releaseDue 0).releaseDue 1).releaseDue 2).releaseDue 3).releaseShadow.releasePeriodic

/-- TICK_BOUNDARY: time passes to the next boundary of the driving base (R98, R99), and Trailhead releases the due
delay-list entries and the periodic items of the tick (R110). -/
def doTickBoundary (s : State) : State := (s.toBoundary s.time.drv).boundaryWork

/-- DELAY_ENTRY_DUE: the due entries of one delay list enter their ready lists, and timers that found it full are inserted
again (R109). -/
def doDelayEntryDue (list : Nat) (s : State) : State := s.releaseDue list

/-- TICK_SOURCE_SWITCH: the selected base reaches its own millisecond boundary while another base drives the ticks: the
ticks change source there, and EV_TICK_SOURCE is posted (R102). -/
def doTickSourceSwitch (s : State) : State :=
  if s.time.sel = s.time.drv then s else
  let old := s.time.drv
  let s := s.toBoundary s.time.sel
  let s := { s with time := { s.time with drv := s.time.sel } }
  (s.postAll { code := evTickSource, obj := s.time.sel, d0 := old, d1 := s.tick }).boundaryWork

/-! ## Dispatch -/

/-- The place of core `c`: its cluster, or the first cluster of its group (R106). -/
def State.placeOfCore (s : State) (c : Nat) : Nat := ((s.cluster (c / 4)).group.map (·.1)).getD (c / 4)

/-- May the item be dispatched on place `p` (R106, R107, R116)? Items of a new epoch wait for the drain marker. -/
def State.mayRun (s : State) (p : Nat) (i : Item) : Bool :=
  if flowMax ≤ i.flow then i.flow - flowMax == p
  else match tget s.trail.flows i.flow with
    | none => false
    | some f => f.serving.isNone && !f.stopped &&
      (match f.marker with
       | some m => i.epoch == m.epoch && m.cluster == p && i.epoch ≠ f.epoch
       | none => i.epoch == f.epoch && f.place == p)

/-- Is the item that of a protected flow? -/
def State.itemProtected (s : State) (i : Item) : Bool := decide (flowMax ≤ i.flow) || ((tget s.trail.flows i.flow).any (·.protect))

/-- The ready items in the order of service (R105): by level from 7 down; where a buddy carries taken-over flows, protected
flows before others at one level (R415). -/
def State.order (s : State) (p : Nat) : List Item :=
  let levels := s.trail.ready.reverse
  if (s.flowsOn p).any (·.2.taken) then
    levels.flatMap fun l => l.filter s.itemProtected ++ l.filter fun i => !s.itemProtected i
  else levels.flatten

/-- Put an item in service on a core: the flow's other ready items wait in its own queue (R107). -/
def State.serve (s : State) (core : Nat) (i : Item) : State :=
  let rest := (s.trail.ready.reverse.flatten.erase i).filter fun j => j.flow == i.flow
  let ready := s.trail.ready.map fun l => (l.erase i).filter fun j => j.flow ≠ i.flow || flowMax ≤ i.flow
  let s := { s with trail := { s.trail with ready := ready, cores := tset s.trail.cores core i } }
  match tget s.trail.flows i.flow with
  | some f => s.setFlow i.flow { f with serving := some i, waiting := f.waiting ++ rest }
  | none => s

/-- TRAILHEAD_DISPATCH: an idle core takes the first eligible item of its cluster or group (R105, R106); the lowest-numbered
idle core of a cluster is served first. -/
def doTrailheadDispatch (core : Nat) (s : State) : State :=
  let idle := fun c => (tget s.trail.cores c).isNone
  let first := core / 4 * 4
  if !idle core || (List.range (core - first)).any (fun k => idle (first + k)) || !(s.cluster (core / 4)).inService ||
      !(s.trail.copies.getD s.trail.active false) then s
  else match (s.order (s.placeOfCore core)).find? (s.mayRun (s.placeOfCore core)) with
    | some i => s.serve core i
    | none => s

/-- The waiting item of highest priority, the earliest among equals (R107). -/
def nextWaiting : List Item → Option Item
  | [] => none
  | i :: is => match nextWaiting is with
    | some j => if i.prio < j.prio then some j else some i
    | none => some i

/-- A flow's next waiting item enters its ready list (R107). -/
def State.wake (s : State) (n : Nat) (f : Flow) : State :=
  match nextWaiting f.waiting with
  | none => s
  | some i =>
    let t := s.setFlow n { f with waiting := f.waiting.erase i }
    { t with trail := t.trail.ready_ i }

/-- Record the shadow log of a protected flow's item with the buddy of its cluster (R413). -/
def State.shadowLog (s : State) (place tick : Nat) : State :=
  s.modCluster (buddyOf place) fun c => { c with pendingLogs := if c.pendingLogs.contains tick then c.pendingLogs else c.pendingLogs ++ [tick] }

/-- ITEM_COMPLETE: the item in service on a core completes (R107): a result of an old epoch whose marker has passed is
discarded (R116); a protected flow's state changes go to its shadow log (R413). -/
def doItemComplete (core : Nat) (s : State) : State :=
  match tget s.trail.cores core with
  | none => s
  | some i =>
    let s := { s with trail := { s.trail with cores := tdel s.trail.cores core } }
    match tget s.trail.flows i.flow with
    | none => s
    | some f =>
      let stale := i.epoch ≠ f.epoch && f.marker.isNone
      let s := if stale then s.occur srcEpochDiscard (s.occFlow (core / 4) f.owner) else s
      let s := if f.protect && !stale then s.shadowLog (core / 4) s.time.m else s
      let f := { f with serving := none }
      (s.setFlow i.flow f).wake i.flow f

/-! ## Overrun -/

/-- The ready-list priorities whose work falls due at a due point (R103): T + 250 µs, T + 750 µs, boundary T + 1. -/
def duePrios (point : Nat) : List Nat :=
  match point with
  | 0 => [7]
  | 1 => [6, 5]
  | _ => [4, 3, 2]

/-- Has the item passed this due point? At the boundary of T + 1, items of earlier ticks have. -/
def Item.dueAt (i : Item) (point m : Nat) : Bool := (duePrios point).contains i.prio && (decide (point < 2) || decide (i.tick < m))

/-- The cluster that an item counts for. -/
def State.itemCluster (s : State) (i : Item) : Nat :=
  if flowMax ≤ i.flow then i.flow - flowMax else ((tget s.trail.flows i.flow).map (·.place)).getD 0

/-- Count one overrun (R112, R113). -/
def State.overrun (s : State) (c : Nat) (i : Item) (unstarted : Bool) : State :=
  let o : Occ := { cl := some c, obj := some i.flow }
  let s := s.occur srcOverrun o
  let s := if unstarted then s.occur srcUnstarted o else s
  s.modCluster c fun k => { k with overRuns := k.overRuns + 1, ovSince := k.ovSince + 1, ovFlow := i.flow }

/-- Post EV_OVERRUN for a cluster, at most once every 100 ticks (R113). -/
def State.overrunEvent (s : State) (c : Nat) : State :=
  let k := s.cluster c
  if k.ovSince = 0 || k.ovEv.any (fun t => s.time.m < t + 100) then s
  else
    let s := s.postAll { code := evOverrun, obj := c, d0 := k.ovSince, d1 := k.ovFlow, d2 := k.clkMinEv }
    s.modCluster c fun k => { k with ovSince := 0, ovEv := some s.time.m, clkMinEv := (s.rail c).mhz }

/-- The items that have not started, in the ready lists and in the flows' own queues. -/
def State.unstarted (s : State) : List Item := s.trail.ready.flatten ++ s.trail.flows.flatMap fun p => p.2.waiting

/-- DUE_POINT_REACHED: work unfinished at its due point is an overrun; work not started is removed (R112). A timer's work
is handled in the next tick (R103). -/
def doDuePointReached (point : Nat) (s : State) : State :=
  let m := s.time.m
  let running := s.trail.cores.filter fun p => !p.2.late && p.2.dueAt point m
  let waiting := s.unstarted.filter fun i => i.dueAt point m
  let mark := fun i : Item => { i with late := i.late || i.dueAt point m }
  let keep := fun l : List Item => l.filter fun i => !i.dueAt point m
  let trail := { s.trail with
    cores := tmap mark s.trail.cores
    ready := s.trail.ready.map keep
    flows := tmap (fun f => { f with waiting := keep f.waiting, serving := f.serving.map mark }) s.trail.flows }
  let s := { s with trail := trail }
  let s := running.foldl (fun s p => s.overrun (p.1 / 4) p.2 false) s
  let s := waiting.foldl (fun s i => s.overrun (s.itemCluster i) i true) s
  let s := (waiting.filter fun i => i.work == .timer || i.work == .rtcp).foldl (fun s i => s.release { i with tick := m }) s
  (List.range 48).foldl (fun s c => s.overrunEvent c) s

/-! ## The placement loop (R114 to R117) -/

/-- Is the cluster over by anything but its engine (R114)? Temperatures are in 1/16 °C. -/
def overLoad (c : Cluster) (used : Nat) : Bool :=
  decide (clusterCap < used) || decide (0 < c.overRuns) || decide (c.clkMin < 1700) || decide ((95 * 16 : Int) ≤ c.tempMax)

/-- Is the cluster over (R114)? -/
def overNow (c : Cluster) (ld : ClusterLoad) (used : Nat) : Bool := overLoad c used || decide (950 < ld.busy.foldl max 0)

/-- The score of R114, in sixteen-millionths. -/
def score (c : Cluster) (used : Nat) : Int := 2 * used + 800000 * c.overRuns + 10000 * max 0 (c.tempMax - 85 * 16)

/-- Has the flow a codec-engine job in progress (R115)? -/
def State.inEngine (s : State) : FlowOwner → Bool
  | .decode j => (tget s.decJobs j).any fun d => d.frames.any (·.started)
  | .encode j => (tget s.encJobs j).any fun e => e.encs.any (·.running)
  | _ => false

/-- May the placement loop move the flow (R115)? The protected-load rule is judged with the target. -/
def State.movable (s : State) (f : Flow) : Bool :=
  (s.cluster f.place).group.isNone && f.marker.isNone && !s.inEngine f.owner && !f.stopped

/-- The placement loop's run: the state, each cluster's load with the moves made, and the moves made. -/
structure Pass where
  s : State
  used : List Nat
  moves : Nat

/-- Is the flow one of a codec job? -/
def FlowOwner.codec : FlowOwner → Bool
  | .decode _ => true
  | .encode _ => true
  | _ => false

/-- The target of a move: not over, of the lowest score, and one on which the flow fits (R114). -/
def Pass.target (p : Pass) (loads : List ClusterLoad) (n : Nat) (f : Flow) : Option Nat :=
  let cs := (p.s.placesFor f.owner).filter fun c => (p.s.cluster c).group.isNone && c ≠ f.place &&
    !overNow (p.s.cluster c) (loads.getD c ⟨0, []⟩) (p.used.getD c 0) && p.s.fits n f c
  (sortBy (fun a b => decide (score (p.s.cluster a) (p.used.getD a 0) < score (p.s.cluster b) (p.used.getD b 0))) cs).head?

/-- Move one flow to a cluster within a pass. -/
def Pass.move (p : Pass) (n : Nat) (f : Flow) (t : Nat) : Pass :=
  { s := p.s.moveFlow n t
    used := (p.used.set f.place (p.used.getD f.place 0 - f.cycles)).set t (p.used.getD t 0 + f.cycles)
    moves := p.moves + 1 }

/-- Move flows off cluster `c` until it is no longer over, or 64 moves are made (R114). -/
def Pass.cluster (loads : List ClusterLoad) (c : Nat) : List (Nat × Flow) → Pass → Pass
  | [], p => p
  | (n, f) :: fs, p =>
    if p.moves = 64 then p
    else if !p.s.movable f then Pass.cluster loads c fs p
    else match p.target loads n f with
      | none => Pass.cluster loads c fs p
      | some t =>
        let q := p.move n f t
        if overNow (q.s.cluster c) (loads.getD c ⟨0, []⟩) (q.used.getD c 0) then Pass.cluster loads c fs q else q

/-- The flows of an over-committed cluster in the order of R114: largest declared work first; where it is over only by its
engine, the codec jobs' flows, largest pixel rate first. -/
def State.passFlows (s : State) (c : Nat) (used : Nat) : List (Nat × Flow) :=
  if overLoad (s.cluster c) used then sortBy (fun a b => decide (b.2.cycles < a.2.cycles)) (s.flowsOn c)
  else
    let rate := fun f : Flow => (s.pix f.owner).1 + (s.pix f.owner).2.1
    sortBy (fun a b => decide (rate b.2 < rate a.2)) ((s.flowsOn c).filter fun p => p.2.owner.codec)

/-- Retry the flows that no cluster holds (R416), in ascending flow number: a flow that finds a cluster starts again. -/
def State.retryStopped (s : State) : State :=
  (s.trail.flows.filter fun p => p.2.stopped).foldl (fun s p => match s.findPlace p.1 p.2 with
    | .ok c => s.setFlow p.1 { p.2 with place := c, stopped := false, marker := none }
    | .error _ => s) s

/-- PLACEMENT_PASS: at a boundary whose M is a multiple of 100 the loop reads each cluster's load and moves up to 64 flows
(R114 to R117), and stopped flows are tried again (R416). -/
def doPlacementPass (loads : List ClusterLoad) (s : State) : State :=
  if s.time.m % 100 ≠ 0 || s.trail.lastPass = some s.time.m then s else
  let used := (List.range 48).map fun c => (loads.getD c ⟨0, []⟩).used
  let isOver := fun (s : State) (used : List Nat) c =>
    (s.cluster c).inService && overNow (s.cluster c) (loads.getD c ⟨0, []⟩) (used.getD c 0)
  let overs := (List.range 48).filter (isOver s used)
  let first := sortBy (fun a b => decide (score (s.cluster b) (used.getD b 0) < score (s.cluster a) (used.getD a 0))) overs
  let p := first.foldl (fun (p : Pass) c => Pass.cluster loads c (p.s.passFlows c (p.used.getD c 0)) p) ⟨s, used, 0⟩
  let still := overs.filter (isOver p.s p.used)
  let s := { p.s with trail := { p.s.trail with lastPass := some p.s.time.m } }
  let s := (List.range 48).foldl (fun s c => s.boostPass c (decide (0 < (s.cluster c).overRuns))) s
  let s := (List.range 48).foldl (fun s c => s.modCluster c fun k => { k with
    used := p.used.getD c 0
    busy := (loads.getD c ⟨0, []⟩).busy
    overLoaded := still.contains c
    overPasses := if still.contains c then k.overPasses + 1 else 0
    overRuns := 0
    clkMin := (s.rail c).mhz
    tempMax := tgetD s.power.temps c 0 }) s
  let s := s.retryStopped
  if p.moves = 0 then s
  else s.postAll { code := evPlacePass, d0 := p.moves, d1 := still.length, d2 := maskOf still % 2 ^ 32, d3 := maskOf still / 2 ^ 32 }

/-- Move unprotected flows off a buddy, largest first, until its declared load fits (R415), at most `k` of them; a throttled
buddy stays over-committed (R474). -/
def State.relieve (c : Nat) : List (Nat × Flow) → Nat → State → State
  | [], _, s => s
  | (n, f) :: fs, k, s =>
    if k = 0 || (2000 ≤ (s.rail c).tCeil && s.load c ≤ s.capOf c) then s
    else if f.protect || !s.movable f then State.relieve c fs k s
    else match bestBy s.freeOf ((s.placesFor f.owner).filter fun t => t ≠ c && s.fits n f t) with
      | some t => State.relieve c fs (k - 1) (s.moveFlow n t)
      | none => State.relieve c fs k s

/-- EXTRA_PLACEMENT_PASS: at the boundary after a takeover a pass considers only the buddy (R415). -/
def doExtraPlacementPass (cl : Nat) (s : State) : State :=
  if (s.cluster cl).extraAt.any (· < s.time.m) then
    let s := s.modCluster cl fun c => { c with extraAt := none }
    State.relieve cl (sortBy (fun a b => decide (b.2.cycles < a.2.cycles)) (s.flowsOn cl)) 64 s
  else s

/-- The marker of a moved flow passes once its old-epoch items have completed, or 4 ticks after the move;
old-epoch items that still wait then are discarded and counted (R116). -/
def State.drainMarker (flow : Nat) (s : State) : State :=
  match tget s.trail.flows flow with
  | none => s
  | some f => match f.marker with
    | none => s
    | some k =>
      let old := fun i : Item => i.flow == flow && i.epoch == k.epoch && i.epoch ≠ f.epoch
      let busy := s.unstarted.any old || f.serving.any old
      if busy && s.time.m < k.tick + 4 then s
      else
        let n := (s.unstarted.filter old).length
        let f := { f with marker := none, waiting := f.waiting.filter fun i => !old i }
        let s := { s with trail := { s.trail with ready := s.trail.ready.map fun (l : List Item) => l.filter fun i => !old i } }
        (s.setFlow flow f).occurN srcEpochDiscard (s.occFlow k.cluster f.owner) n

/-! ## Locked groups (R118 to R120) -/

/-- Move every flow of a list to the best single cluster outside `avoid` (R111, R116); none where one does not fit. -/
def State.moveAll (avoid : List Nat) : List (Nat × Flow) → State → Option State
  | [], s => some s
  | (n, f) :: fs, s =>
    let cs := (match f.owner with
      | .canvas _ => s.placesFor f.owner
      | _ => (List.range 48).filter fun c => (s.cluster c).open_ && (s.cluster c).group.isNone).filter fun c => !avoid.contains c
    match bestBy s.freeOf (cs.filter (s.fits n f)) with
    | some c => State.moveAll avoid fs (s.moveFlow n c)
    | none => none

/-- Does a codec job on the group need more than one engine (R120, R227, R249)? -/
def State.needsGroup (s : State) (first : Nat) : Bool :=
  let fs := s.flowsOn first
  let p := s.pixSums 1 fs
  !p.2.2 || decide (encLimit < p.2.1) || decide (decLimit < p.1) ||
    fs.any fun x => match x.2.owner with
      | .decode j => (tget s.decJobs j).any fun d => decide (8912896 < d.maxW * d.maxH)
      | .encode j => (tget s.encJobs j).any fun e => decide (8912896 < e.cfg.outW * e.cfg.outH)
      | _ => false

/-- The clusters that a `CL.LOCK` names: by SIZE, or the group that begins at FIRST. -/
def State.lockNames (s : State) (first size : Nat) : List Nat :=
  let k := if size = 0 then s.placeSize first else if size = 1 then 2 else 4
  (List.range k).map (first + ·)

/-- The handle of the operation that drains one of the clusters. -/
def State.drainer (s : State) (cs : List Nat) : Option Nat := (cs.filterMap fun c => (s.cluster c).drain).head?.map (·.2)

/-- CL.LOCK (R120): the flows start to move, and the clusters are held until CL_LOCK_COMPLETE. -/
def doClLock (ch : Nat) (s : State) : State := runCmd ch 0x1201 (fun c s =>
  let first := c.f 1 0 6
  let size := c.f 1 6 2
  let names := s.lockNames first size
  let isGroup := (s.cluster first).group.any (·.1 == first)
  let d := s.drainer names
  checks [reserved c 1 8 24,
      badArg (decide (47 < first) || size == 3 || (size == 1 && first % 2 ≠ 0) || (size == 2 && first % 4 ≠ 0) ||
        (size == 0 && !isGroup)) 1,
      (size ≠ 0 && names.any (fun k => (s.cluster k).group.isSome || !(s.cluster k).inService), eState, 1),
      (size == 0 && s.needsGroup first, eState, 2),
      (d.isSome, eBusy, d.getD 0)]
    (let fs := if size = 0 then s.flowsOn first else names.flatMap s.flowsOn
     match State.moveAll names fs s with
     | none => .fail eNospace 0x0401
     | some t => startLong c t first size 0 fun h t => names.foldl (fun t k => t.modCluster k fun x => { x with drain := some (c.issuer, h) }) t)) s

/-- Release the clusters that an operation holds for draining. -/
def State.undrain (s : State) (o : LongOp) : State :=
  { s with clusters := tmap (fun k => if k.drain = some (o.fn, o.handle) then { k with drain := none } else k) s.clusters }

/-- CL_LOCK_COMPLETE: every flow has left the named clusters, which become a group or single clusters (R120). -/
def doClLockComplete (first : Nat) (s : State) : State :=
  match s.findOp 0x1201 (fun o => o.a == first) with
  | none => s
  | some o =>
    let names := s.lockNames first o.b
    if s.trail.flows.any (fun p => names.contains p.2.place || p.2.marker.any fun m => names.contains m.cluster) then s
    else
      let grp := if o.b = 0 then none else some (first, names.length)
      let s := names.foldl (fun s k => s.modCluster k fun x => { x with group := grp }) s
      (s.undrain o).opDone o eOk 0

/-! ## The meanings -/

/-- The meaning of TICK_BOUNDARY (R99). -/
def execTickBoundary (s : State) : Host.Outcome State Fault Refusal :=
  answer Instr.tickBoundary.wf (doTickBoundary s)

/-- The meaning of DELAY_ENTRY_DUE (R109). -/
def execDelayEntryDue (list : Nat) (s : State) : Host.Outcome State Fault Refusal :=
  answer (Instr.delayEntryDue list).wf (doDelayEntryDue list s)

/-- The meaning of TICK_SOURCE_SWITCH (R102). -/
def execTickSourceSwitch (s : State) : Host.Outcome State Fault Refusal :=
  answer Instr.tickSourceSwitch.wf (doTickSourceSwitch s)

/-- The meaning of TRAILHEAD_DISPATCH (R106). -/
def execTrailheadDispatch (core : Nat) (s : State) : Host.Outcome State Fault Refusal :=
  answer (Instr.trailheadDispatch core).wf (doTrailheadDispatch core s)

/-- The meaning of ITEM_COMPLETE (R107). -/
def execItemComplete (core : Nat) (s : State) : Host.Outcome State Fault Refusal :=
  answer (Instr.itemComplete core).wf (doItemComplete core s)

/-- The meaning of DUE_POINT_REACHED (R112). -/
def execDuePointReached (point : Nat) (s : State) : Host.Outcome State Fault Refusal :=
  answer (Instr.duePointReached point).wf (doDuePointReached point s)

/-- The meaning of PLACEMENT_PASS (R114). -/
def execPlacementPass (loads : List ClusterLoad) (s : State) : Host.Outcome State Fault Refusal :=
  answer (Instr.placementPass loads).wf (doPlacementPass loads s)

/-- The meaning of EXTRA_PLACEMENT_PASS (R415). -/
def execExtraPlacementPass (cl : Nat) (s : State) : Host.Outcome State Fault Refusal :=
  answer (Instr.extraPlacementPass cl).wf (doExtraPlacementPass cl s)

/-- The meaning of CL_LOCK (R120). -/
def execClLock (ch : Nat) (s : State) : Host.Outcome State Fault Refusal :=
  answer (Instr.clLock ch).wf (doClLock ch s)

/-- The meaning of CL_LOCK_COMPLETE (R120). -/
def execClLockComplete (first : Nat) (s : State) : Host.Outcome State Fault Refusal :=
  answer (Instr.clLockComplete first).wf (doClLockComplete first s)

end Sys2Proof.Machine
end

