-- ==== Sys2Proof/Machine/Egress.lean ====
section
/-! DEFINITION. Egress (R328 to R351): leg shapers, group nodes, the tiers, the MAC transmit queues and gate lists, and
their commands; ingress policers are set here (R348). -/

namespace Sys2Proof.Machine

abbrev evGateStart : Nat := 0x0C01

/-! ## Token buckets -/

/-- Tokens after one refill of `num` / `den` units of 1/256 byte, up to a depth in bytes, with the finer part carried
(R332, R336). -/
def refill (tokens : Int) (rem num den depth : Nat) : Int × Nat :=
  (min (tokens + ((num + rem) / den : Nat)) (max tokens (depth * 256)), (num + rem) % den)

/-- Is the shaper's leg unshaped (R332)? -/
def Shaper.free (h : Shaper) : Bool := h.fixed && h.rate == 0

/-- The pending change of a leg shaper is in force: the tokens carry, cut to a lower depth, and a leg that changes its group
takes that group's virtual time (R335). `v` gives the virtual time of a group on the leg's port. -/
def Shaper.changed (h : Shaper) (v : Nat → Nat) : Shaper :=
  match h.pend with
  | none => h
  | some x =>
    let n := { h with weight := x.weight, fixed := x.fixed, rate := x.rate, depth := x.depth, pend := none }
    let n := { n with tokens := min n.tokens (n.depthNow * 256) }
    if x.group = h.group then n else { n with group := x.group, vF := v x.group, tagged := false }

/-- One refill of a leg shaper, at which a pending change comes into force (R332, R335). -/
def Shaper.refilled (h : Shaper) (v : Nat → Nat) : Shaper :=
  let h := h.changed v
  let r := refill h.tokens h.rem (h.rate * 512) 1000 h.depthNow
  { h with tokens := r.1, rem := r.2 }

/-- Tier 0's virtual time of a group on a port (R334). -/
def Port.v0 (p : Port) (g : Nat) : Nat := ((tget p.tags g).map (·.v0)).getD 0

/-- LEG_SHAPER_REFILL: every 16 µs (R332). -/
def doLegShaperRefill (leg : Nat) (s : State) : State :=
  match s.leg leg with
  | none => s
  | some l => s.setLeg leg { l with shaper := l.shaper.refilled (s.port l.cfg.port).v0 }

/-- The depth in force of a group node (R336). -/
def Node.depthNow (n : Node) : Nat := if n.depth = 0 then max 65536 (n.rate * 125 / 1000) else n.depth

/-- One refill of a group node; a pending change resets the tokens, and that refill adds nothing (R336, R337). -/
def Node.refilled (n : Node) : Node :=
  match n.pend with
  | some (rate, depth) =>
    let n := { n with rate := rate, depth := depth, pend := none, rem := 0 }
    { n with tokens := if n.resetTo then n.depthNow * 256 else 0 }
  | none =>
    let r := refill n.tokens n.rem (n.rate * 128) 1000 n.depthNow
    { n with tokens := r.1, rem := r.2 }

/-- GROUP_REFILL: every 4 µs (R336). -/
def doGroupRefill (g : Nat) (s : State) : State := { s with nodes := tset s.nodes g (s.node g).refilled }

/-! ## Virtual time (R334) -/

/-- Is tag `a` before tag `b`, by signed difference of 48 bits? -/
def vBefore (a b : Nat) : Bool :=
  let d := (b + 2 ^ 48 - a % 2 ^ 48) % 2 ^ 48
  decide (0 < d) && decide (d < 2 ^ 47)

/-- The later of two tags. -/
def vMax (a b : Nat) : Nat := if vBefore a b then b else a

/-- Start and finish tags of a node of a weight, for an item of length `len`: a tagged node keeps its start (R334). -/
def retag (v start finish : Nat) (tagged : Bool) (weight len : Nat) : Nat × Nat :=
  let st := if tagged then start else vMax v finish
  (st, (st + len * 256 / weight) % 2 ^ 48)

/-! ## Tier 0 -/

/-- The head of a leg queue: the first item of the highest priority, with its position (R140). -/
def headOf (q : List QItem) : Option (Nat × QItem) :=
  match (q.map (·.pkt.prio)).max? with
  | none => none
  | some m => (q.zipIdx.find? fun x => x.1.pkt.prio == m).map fun x => (x.2, x.1)

abbrev evLqError : Nat := 0x0602

/-- EV_LQ_ERROR of a leg (R149): its kind, the leg's queue block and the items lost. -/
def State.lqErrorEvent (s : State) (leg kind lost : Nat) : State :=
  s.postLeg leg { code := evLqError, d0 := kind, d1 := leg / 1024, d2 := lost }

/-- An error of the leg queue store (R145 to R147): a single-bit error is corrected and counted; an uncorrectable descriptor
loses the item at the head; an uncorrectable pointer resets the queue; under COMPAT any pointer error is a mismatch, which
resets the queue and is latched in LQ_ERR. -/
def State.lqError (s : State) (e : LqErr) : State :=
  match s.leg e.leg with
  | none => s
  | some l =>
    if e.pointer && s.mon.compat then
      let s := { s with mon := { s.mon with
        lqErrLeg := if s.mon.lqErrValid then s.mon.lqErrLeg else e.leg
        lqErrCount := min (s.mon.lqErrCount + 1) 0xFF, lqErrValid := true } }
      (s.flush e.leg).lqErrorEvent e.leg 3 l.queue.length
    else if e.single then
      { s with mon := { s.mon with lqbCe := tset s.mon.lqbCe (e.leg / 1024) (min (tgetD s.mon.lqbCe (e.leg / 1024) 0 + 1) 0xFFFFFFFF) } }
    else if e.pointer then (s.flush e.leg).lqErrorEvent e.leg 2 l.queue.length
    else match headOf l.queue with
      | none => s
      | some (i, _) =>
        let s := { s with mon := { s.mon with lqbUe := tset s.mon.lqbUe (e.leg / 1024) (min (tgetD s.mon.lqbUe (e.leg / 1024) 0 + 1) 0xFFFFFFFF) } }
        (s.modLeg e.leg fun l => { l with queue := l.queue.eraseIdx i }).lqErrorEvent e.leg 1 1

/-- The error of the leg queue store that a command meets, if any, before its own effect. -/
def State.metLq (s : State) (err : Option LqErr) : State := (err.map s.lqError).getD s

/-- Discard the items of an older path epoch that reach the head of a leg's queue (R136). -/
def State.dropStale (s : State) (leg : Nat) : Nat → State
  | 0 => s
  | fuel + 1 => match s.leg leg with
    | none => s
    | some l => match headOf l.queue with
      | none => s
      | some (i, it) =>
        if it.epoch = l.pathEpoch then s
        else
          let s := s.occur srcEpochDiscard (s.occLeg leg)
          (s.setLeg leg { l with
            queue := l.queue.eraseIdx i
            stats := { l.stats with epochDiscard := min (l.stats.epochDiscard + 1) 0xFFFFFFFF } }).dropStale leg fuel

/-- Is the leg eligible with a head item of length `len` (R333)? -/
def Leg.eligible (l : Leg) (it : QItem) (len : Nat) : Bool :=
  it.released || l.shaper.free || decide ((len * 256 : Int) ≤ l.shaper.tokens)

/-- The legs of a port with their head items' positions and lengths, where they are eligible. -/
def State.ready0 (s : State) (p : Nat) : List (Nat × Nat × Nat) :=
  (s.legs.filter fun x => x.2.cfg.port == p).filterMap fun x =>
    match headOf x.2.queue with
    | some (i, it) =>
      let len := wireLen (s.port p).overhead it.len
      if x.2.eligible it len then some (x.1, i, len) else none
    | none => none

/-- Tag the eligible legs of a port within their groups (R334). -/
def State.tagLegs (s : State) (p : Nat) : State :=
  (s.ready0 p).foldl (fun s x => s.modLeg x.1 fun l =>
    let h := l.shaper
    let t := retag ((s.port p).v0 h.group) h.vS h.vF h.tagged h.weight x.2.2
    { l with shaper := { h with vS := t.1, vF := t.2, tagged := true } }) s

/-- The one with the earliest finish tag, the first on a tie. -/
def earliest (f : Nat → Nat) : List Nat → Option Nat
  | [] => none
  | a :: as => match earliest f as with
    | some b => if vBefore (f b) (f a) then some b else some a
    | none => some a

/-- The leg that tier 0 offers for a group on a port: its ID, its item's position and length (R334). -/
def State.offer0 (s : State) (p g : Nat) : Option (Nat × Nat × Nat) :=
  let cs := (s.ready0 p).filter fun x => (s.leg x.1).any fun l => l.shaper.group == g
  match earliest (fun n => ((s.leg n).map (·.shaper.vF)).getD 0) (cs.map (·.1)) with
  | some n => cs.find? fun x => x.1 == n
  | none => none

/-! ## Tier 1 -/

/-- Is the group eligible with an offer of this length (R336)? -/
def Node.eligible (n : Node) (len : Nat) : Bool := n.rate == 0 || decide ((len * 256 : Int) ≤ n.tokens)

/-- The groups with an eligible offer on a port, in ascending order. -/
def State.ready1 (s : State) (p : Nat) : List (Nat × Nat × Nat × Nat) :=
  let gs := sortBy (fun a b => decide (a < b)) ((s.ready0 p).filterMap fun x => (s.leg x.1).map (·.shaper.group)).eraseDups
  gs.filterMap fun g => match s.offer0 p g with
    | some o => if (s.node g).eligible o.2.2 then some (g, o) else none
    | none => none

/-- Tag the eligible groups of a port (R336). -/
def State.tagGroups (s : State) (p : Nat) : State :=
  (s.ready1 p).foldl (fun s x => s.modPort p fun q =>
    let t := (tget q.tags x.1).getD {}
    let n := s.node x.1
    let r := retag (tgetD q.v1 n.cls 0) t.st t.f t.tagged n.weight x.2.2.2
    { q with tags := tset q.tags x.1 { t with st := r.1, f := r.2, tagged := true } }) s

/-- The group that tier 1 selects in a class, with its offer (R336). -/
def State.pick1 (s : State) (p c : Nat) : Option (Nat × Nat × Nat × Nat) :=
  let gs := (s.ready1 p).filter fun x => (s.node x.1).cls == c
  match earliest (fun g => ((tget (s.port p).tags g).map (·.f)).getD 0) (gs.map (·.1)) with
  | some g => gs.find? fun x => x.1 == g
  | none => none

/-! ## Tiers 2 and 3 -/

/-- The link group that takes a cascade leg's items (R377): its peer's, with MEDIA set, while it is UP. -/
def State.mediaGroup (s : State) (l : Leg) : Option Nat :=
  if l.cfg.kind ≠ 1 then none else
  match s.casc.peers.find? fun p => p.2.media && p.2.rxPort == l.cfg.port && p.2.ipv6 == l.cfg.ipv6 && p.2.addr == l.cfg.raddr with
  | some p => if s.groupUp p.2.group then some p.2.group else none
  | none => none

/-- Cells of an IP packet on VC2 (R368, R372). -/
def mediaCells (ipLen : Nat) : Nat := (ipLen + 239) / 240

/-- Bytes in a transmit queue (R331). -/
def tqBytes (q : List TxItem) : Nat := (q.map (·.len)).sum
/-- Room for a frame of this length in a transmit queue (R331). -/
def tqRoom (q : List TxItem) (len : Nat) : Bool := decide (tqBytes q + len ≤ 18432)

/-- Has the queue that a selected item goes to room for it (R331, R377)? A port that is down or released discards. -/
def State.room (s : State) (p c leg i : Nat) : Bool :=
  match s.leg leg with
  | none => false
  | some l => match l.queue[i]? with
    | none => false
    | some it => match s.mediaGroup l with
      | some g => decide (((s.group g).cells.vc2.map fun m => m.cells - m.sent).sum + mediaCells (it.len - 14) ≤ 4096)
      | none => !(s.port p).link || (s.port p).released || tqRoom ((s.port p).tq.getD c []) it.len

/-- Advance the virtual times and clear the tags of a selected item (R334, R336). -/
def State.untag (s : State) (p c g leg : Nat) : State :=
  let f0 := ((s.leg leg).map (·.shaper.vF)).getD 0
  let s := s.modLeg leg fun l => { l with shaper := { l.shaper with tagged := false } }
  s.modPort p fun q =>
    let t := (tget q.tags g).getD {}
    { q with tags := tset q.tags g { t with v0 := f0, tagged := false }, v1 := tset q.v1 c t.f }

/-- Charge a selected item to the leg's and the group's tokens (R333, R336). -/
def State.charge (s : State) (leg g len : Nat) : State :=
  let s := s.modLeg leg fun l => { l with shaper := { l.shaper with tokens := l.shaper.tokens - len * 256 } }
  { s with nodes := tset s.nodes g { s.node g with tokens := (s.node g).tokens - len * 256 } }

/-- Count a packet sent by a leg (R138). -/
def Leg.countTx (l : Leg) (bytes : Nat) : Leg :=
  { l with stats := { l.stats with txPkts := min (l.stats.txPkts + 1) (2 ^ 64 - 1), txBytes := min (l.stats.txBytes + bytes) (2 ^ 64 - 1) } }

/-- The transport-wide number that a packet carries (R170). -/
def OutPkt.twSeq (p : OutPkt) : Option Nat := p.exts.findSome? fun e => match e.val with
  | .twSeq n => some n
  | _ => none

/-- The kind of a packet in the measured rates of R166: 0 video, 1 audio, 2 RTCP. -/
def OutPkt.kind (p : OutPkt) : Nat := if p.isRtcp then 2 else if p.prio = 2 then 1 else 0

/-- The estimator's record of a packet that leaves (R163, R166). -/
def Est.sentOne (e : Est) (p : OutPkt) (ip m us : Nat) : Est :=
  let keep := fun l : List (Nat × Nat × Nat × Nat) => l.filter fun x => decide (m < x.2.1 + 2000)
  let e := { e with outs := (e.outs.filter fun x => decide (m < x.1 + 500)) ++ [(m, ip, p.kind)] }
  if p.isRtcp then e else
  let e := { e with sentSs := keep e.sentSs ++ [(p.ssrc * 65536 + p.seq, m, us, ip)] }
  match p.twSeq with
  | some n => { e with sentTw := keep e.sentTw ++ [(n, m, us, ip)] }
  | none => e

/-- A leg's packet leaves the module (R138): its counts, and the estimator's record; a slow-path frame has the counts only. -/
def State.sentPkt (s : State) (p : OutPkt) (bytes : Nat) : State :=
  let now := s.nowUs
  let m := s.time.m
  s.modLeg p.leg fun l =>
    let l := l.countTx bytes
    if p.slow then l else { l with est := l.est.sentOne p (p.ipLen l.cfg (keyProfile p.keyWords)) m now }

/-- Move the selected item of a leg (R331, R339, R365, R377): to the peer's VC2 queue, to the transmit queue of its class,
or away where the port is down or released. The item before it on the port is then wholly in its queue. -/
def State.moveItem (s : State) (p c g leg i len : Nat) : State :=
  match s.leg leg with
  | none => s
  | some l => match l.queue[i]? with
    | none => s
    | some it =>
      let s := (s.setLeg leg { l with queue := l.queue.eraseIdx i, qLastRead := s.time.m }).untag p c g leg
      let done := fun q : Port => { q with
        tq := q.tq.map fun t => t.map fun (x : TxItem) => { x with whole := true }
        wire := q.wire.map fun (x : TxItem) => { x with whole := true } }
      let s := s.modPort p done
      match s.mediaGroup l with
      | some k =>
        let s := s.modGroup k fun x => { x with cells := { x.cells with vc2 := x.cells.vc2 ++ [{ msg := .media it.pkt, cells := mediaCells (it.len - 14), since := s.time.m }] } }
        (s.charge leg g len).sentPkt it.pkt it.len
      | none =>
        let q := s.port p
        if q.released then s.occur srcPortReleasedDrop (s.occLeg leg)
        else if !q.link then
          (s.modPort p fun q => { q with cnt := { q.cnt with txLinkDown := min (q.cnt.txLinkDown + 1) 0xFFFFFFFF } }).occur
            srcTxLinkDown { unit := some p, obj := some leg }
        else
          (s.modPort p fun q => { q with tq := lmod q.tq c [] fun t => t ++ [{ len := it.len, since := s.time.ref, pkt := some it.pkt, whole := false }] }).charge leg g len

/-- Slow-path frames without a leg enter their transmit queue (R361). -/
def Port.takeSlow (now : Nat) (q : Port) : Port :=
  match q.slowQ with
  | [] => q
  | f :: fs =>
    if tqRoom (q.tq.getD q.cfg.slowClass []) f.len then
      { q with slowQ := fs, tq := lmod q.tq q.cfg.slowClass [] fun t => t ++ [{ f with since := now }] }
    else q

/-- The class, group and offer that tiers 2 and 1 select on a port: the highest class with an eligible group and room
(R339). -/
def State.select (s : State) (p : Nat) : Option (Nat × Nat × Nat × Nat × Nat) :=
  [6, 5, 4, 3, 2, 1, 0].findSome? fun c => match s.pick1 p c with
    | some (g, leg, i, len) => if s.room p c leg i then some (c, g, leg, i, len) else none
    | none => none

/-- EGRESS_SELECT: the tiers select an eligible item for a port and move it (R329 to R339), after an error of the leg queue
store that the reading of the queues meets (R145). -/
def doEgressSelect (port : Nat) (err : Option LqErr) (s : State) : State :=
  let s := s.metLq err
  let s := s.modPort port (Port.takeSlow s.time.ref)
  let mine := s.legs.filter fun x => x.2.cfg.port == port
  let s := mine.foldl (fun s x => s.dropStale x.1 x.2.queue.length) s
  let s := (s.tagLegs port).tagGroups port
  match s.select port with
  | some (c, g, leg, i, len) => s.moveItem port c g leg i len
  | none => s

/-! ## Gate lists -/

/-- Start times and masks of a list's entries in the cycle that starts at `c0` (R342): cut at the end of the cycle. -/
def entryTimes (stop : Nat) : Nat → List (Nat × Nat) → List (Nat × Nat)
  | _, [] => []
  | t, (mask, iv) :: es => if t < stop then (t, mask) :: entryTimes stop (t + iv * nsU) es else []

/-- The cycle of a list in units. -/
def Gates.len (g : Gates) : Nat := g.cycle * nsU
/-- Segments of one cycle. -/
def Gates.segs (g : Gates) (c0 : Nat) : List (Nat × Nat) := entryTimes (c0 + g.len) c0 g.entries
/-- Start of the cycle that holds time `t`. -/
def Gates.cycleOf (g : Gates) (t : Nat) : Nat := g.start + (t - g.start) / g.len * g.len

/-- The gate segments of a port from before `t` on: the list in force through two cycles, held states before a restart
(R346), and a pending list from its start (R343). -/
def Port.segs (q : Port) (t : Nat) : List (Nat × Nat) :=
  let now := match q.gates with
    | none => [(0, 0xFF)]
    | some g => match q.gateHold with
      | some r => (0, ((g.entries[q.gateIdx]?).map (·.1)).getD 0xFF) :: (g.segs r ++ g.segs (r + g.len))
      | none =>
        let c := g.cycleOf t
        g.segs c ++ g.segs (c + g.len) ++ g.segs (c + 2 * g.len)
  match q.gatePend with
  | none => now
  | some g => now.filter (fun x => x.1 < g.start) ++ g.segs g.start

/-- Does a mask open TQ `n` (R342)? TQ7 is always open. -/
def opens (mask n : Nat) : Bool := n == 7 || hasBit mask n

/-- The mask in force at time `t`. -/
def maskAt (segs : List (Nat × Nat)) (t : Nat) : Nat := ((segs.filter fun x => decide (x.1 ≤ t)).getLast?.map (·.2)).getD 0xFF

/-- The end of the window of gate `n` after `t` (R343): none where nothing closes it. -/
def windowEnd (segs : List (Nat × Nat)) (n t : Nat) : Option Nat :=
  (segs.find? fun x => decide (t < x.1) && !opens x.2 n).map (·.1)

/-- Port rate by mode in hundredths of Gb/s of the nominal Ethernet rate (R352). -/
def portRate (mode : Nat) : Nat := [0, 400, 200, 100, 50, 25, 25].getD mode 0

/-- Does a frame of wire length `len` fit its window at time `t` (R343)? -/
def Port.fitsGate (q : Port) (n len t : Nat) : Bool :=
  let segs := q.segs t
  opens (maskAt segs t) n &&
    (match windowEnd segs n t with
     | none => true
     | some e => decide (len * 8 * nsU ≤ (e - t) * portRate q.cfg.mode))

/-- A frame starts on the wire (R343). -/
def State.startFrame (s : State) (p n : Nat) (x : TxItem) : State :=
  let s := s.modPort p fun q => { q with tq := lmod q.tq n [] fun t => t.drop 1, wire := some x, sent := q.sent + 1 }
  match x.pkt with
  | some k => s.sentPkt k x.len
  | none => s

/-- Hold the head frame of a transmit queue; each frame is counted once (R343). -/
def State.holdFrame (s : State) (p n t : Nat) (x : TxItem) : State :=
  if x.heldAt.isSome then s
  else (s.modPort p fun q => { q with tq := lmod q.tq n [] fun l => { x with heldAt := some t } :: l.drop 1 }).occur
    srcGateHold { unit := some p, queue := some n }

/-- Serve the transmit queues from TQ `n` down: the first head frame whose gate window fits it starts; those above that do
not fit are held (R343). -/
def State.serveTq (s : State) (p t : Nat) : Nat → State
  | 0 => s
  | n + 1 => match ((s.port p).tq.getD n []).head? with
    | none => s.serveTq p t n
    | some x =>
      if (s.port p).fitsGate n (wireLen (s.port p).overhead x.len) t then s.startFrame p n x
      else (s.holdFrame p n t x).serveTq p t n

/-- Discard a port's transmit queues (R358, R363, R365), counted by TX_LINK_DOWN, or by PORT_RELEASED_DROP while released. -/
def State.dropTq (s : State) (p : Nat) : State :=
  let q := s.port p
  let all := q.tq.flatten ++ q.slowQ
  let s := s.modPort p fun q => { q with tq := List.replicate 8 [], slowQ := [] }
  all.foldl (fun s x =>
    let o : Occ := { unit := some p, obj := x.pkt.map (·.leg), tenant := (x.pkt.bind fun k => s.leg k.leg).map s.legTenant }
    if q.released then s.occur srcPortReleasedDrop o
    else (s.modPort p fun q => { q with cnt := { q.cnt with txLinkDown := min (q.cnt.txLinkDown + 1) 0xFFFFFFFF } }).occur srcTxLinkDown o) s

/-- MAC_TRANSMIT: the MAC starts the head frame of the highest open queue that fits its gate window, or holds it (R343);
while the link is down it discards its queues (R358). -/
def doMacTransmit (port : Nat) (s : State) : State :=
  let q := s.port port
  if q.cfg.mode = 0 then s
  else if !q.link || q.released then (s.modPort port fun q => { q with wire := none }).dropTq port
  else (s.modPort port fun q => { q with wire := none }).serveTq port (s.base 0).val 8

/-- GATE_OVERSIZE: a frame has waited at the head of its queue through one whole cycle without a window in which it fits
(R344). -/
def doGateOversize (port q : Nat) (s : State) : State :=
  let p := s.port port
  let t := (s.base 0).val
  match (p.tq.getD q []).head?, p.gates with
  | some x, some g =>
    if x.heldAt.any (fun h => h + g.len ≤ t) && !p.fitsGate q (wireLen p.overhead x.len) t then
      (s.modPort port fun p => { p with tq := lmod p.tq q [] fun l => l.drop 1 }).occur srcGateOversize { unit := some port, queue := some q }
    else s
  | _, _ => s

/-- Let time pass until TB0 reaches a value, if no tick boundary lies before it (R98, R346). -/
def State.passTo (s : State) (v : Nat) : Option State :=
  let b := s.base 0
  if v ≤ b.val then some s
  else
    let y : Int := 1000000000000 + b.rate
    let d := ((((v - b.val : Nat) : Int) * 1000000000000 - b.rem + y - 1) / y).toNat
    if d ≤ (s.base s.time.drv).toBoundary then some (s.advance d) else none

/-- The entry in force at time `t` within the list's cycle. -/
def Gates.index (g : Gates) (t : Nat) : Nat := ((g.segs (g.cycleOf t)).filter fun x => decide (x.1 ≤ t)).length - 1

/-- GATE_INTERVAL_END: the interval of the entry in force ends, and the next entry's mask takes effect (R342). -/
def doGateIntervalEnd (port : Nat) (s : State) : State :=
  let q := s.port port
  let t := (s.base 0).val
  match q.gates with
  | none => s
  | some g =>
    if q.gateHold.isSome then s
    else match ((g.segs (g.cycleOf t) ++ [(g.cycleOf t + g.len, 0)]).find? fun (x : Nat × Nat) => decide (t < x.1)) with
      | none => s
      | some (e, _) => match s.passTo e with
        | none => s
        | some s => s.modPort port fun q => { q with gateIdx := g.index (s.base 0).val }

/-- EV_GATE_START (R351). -/
def State.gateEvent (s : State) (port : Nat) (g : Gates) (start : Nat) (restart : Bool) : State :=
  s.postAll { code := evGateStart, obj := port, d0 := b2n g.late + 2 * b2n restart, d1 := start % secU / nsU
              d2 := start / secU % 2 ^ 32, d3 := g.entries.length }

/-- GATE_LIST_START: a pending list reaches its start time and runs with its first entry (R345). -/
def doGateListStart (port : Nat) (s : State) : State :=
  match (s.port port).gatePend with
  | none => s
  | some g => match s.passTo g.start with
    | none => s
    | some s => (s.modPort port fun q => { q with gates := some g, gatePend := none, gateIdx := 0, gateHold := none }).gateEvent port g g.start false

/-- GATE_RESTART: after a step of TB0 a list restarts its cycle (R346). -/
def doGateRestart (port : Nat) (s : State) : State :=
  match (s.port port).gates, (s.port port).gateHold with
  | some g, some r => match s.passTo r with
    | none => s
    | some s =>
      let s := s.modPort port fun q => { q with gateIdx := 0, gateHold := none }
      (s.occur srcGateRestart { unit := some port }).gateEvent port g r true
  | _, _ => s

/-! ## SHP.NODE (R347) -/

/-- Has the depth an allowed value (R347)? -/
def depthOk (d : Nat) : Bool := d == 0 || decide (9216 ≤ d)

/-- SHP.NODE set of a leg shaper: in force at the leg's next refill (R335). -/
def shpLeg (c : Ctx) (s : State) : Reply :=
  let leg := c.f 1 16 16
  let g := c.f 2 0 12
  match s.leg leg with
  | none => .fail eBadarg 1
  | some l =>
    let tenant := s.legTenant l
    checks ([reserved c 1 3 5, badArg (decide (c.f 2 12 8 = 0)) 1, reserved c 2 21 11, badArg (!depthOk (c.f 4 0 24) || c.f 4 24 8 ≠ 0) 4] ++
        legObj s c.issuer leg (c.f 1 8 8) ++ [(!(s.node g).takes tenant, eTenant, 2)])
      (ok (s.setLeg leg { l with shaper := { l.shaper with pend := some {
           group := g, weight := c.f 2 12 8, fixed := c.bit 2 20, rate := if c.bit 2 20 then c.f 3 0 32 else l.autoRate, depth := c.f 4 0 24 } } }))

/-- The rate and depth that a group node has, or is about to have. -/
def Node.now (n : Node) : Nat × Nat := n.pend.getD (n.rate, n.depth)

/-- Are legs of another tenant attached to the group node (R350)? -/
def State.foreignLegs (s : State) (g tenant : Nat) : Bool :=
  tenant ≠ 0xFFF && s.legs.any fun x => x.2.shaper.groupNow == g && s.legTenant x.2 ≠ tenant

/-- SHP.NODE set of a group node (R336 to R338). -/
def shpGroup (c : Ctx) (s : State) : Reply :=
  let g := c.f 1 16 16
  let n := s.node g
  let tenant := if isPF c.issuer then c.f 2 12 12 else n.tenant
  checks [badArg (decide (4095 < g) || c.f 1 3 5 ≠ 0 || c.f 1 8 8 ≠ 0) 1, badArg (c.f 2 0 3 == 7 || c.f 2 4 8 == 0) 1, reserved c 2 24 8,
      badArg (!depthOk (c.f 4 0 24) || c.f 4 24 8 ≠ 0) 4,
      (!isPF c.issuer && s.tenantOf c.issuer ≠ some n.tenant, eTenant, 2),
      (tenant ≠ n.tenant && s.foreignLegs g tenant, eState, 0x0C01)]
    (let want := (c.f 3 0 32, c.f 4 0 24)
     ok { s with nodes := tset s.nodes g { n with
       cls := c.f 2 0 3
       resetTo := c.bit 2 3
       weight := c.f 2 4 8
       tenant := tenant
       pend := if want = n.now then n.pend else some want } })

/-- Two's complement of tokens in whole bytes (R347). -/
def tokenWord (t : Int) : Nat := sat32 (t / 256)

/-- SHP.NODE query (R347). -/
def shpQuery (c : Ctx) (s : State) : Reply :=
  let id := c.f 1 16 16
  match c.f 1 0 2 with
  | 0 => match s.leg id with
    | none => .fail eBadarg 1
    | some l =>
      let h := l.shaper
      checks ([reserved c 1 3 5] ++ legObj s c.issuer id (c.f 1 8 8))
        (okWords s [h.next.group + h.next.weight * 4096 + b2n h.next.fixed * 2 ^ 20, h.rate, h.depthNow, tokenWord h.tokens])
  | 1 =>
    let n := s.node id
    checks [badArg (decide (4095 < id) || c.f 1 3 5 ≠ 0) 1,
        (!isPF c.issuer && n.tenant ≠ 0xFFF && s.tenantOf c.issuer ≠ some n.tenant, eTenant, 2)]
      (okWords s [n.cls + b2n n.resetTo * 8 + n.weight * 16 + n.tenant * 4096, n.rate, n.depthNow, tokenWord n.tokens])
  | _ => checks [badArg (decide (15 < id) || c.f 1 3 5 ≠ 0) 1] (okWords s [field 8 (s.port id).overhead])

/-- SHP.NODE (R347). -/
def doShpNode (ch : Nat) (s : State) : State := runCmd ch 0x0C01 (fun c s =>
  let kind := c.f 1 0 2
  let query := c.bit 1 2
  checks [badArg (kind == 3) 1, badLen c (if query then 1 else if kind = 2 then 2 else 4)]
    (if query then shpQuery c s
     else match kind with
       | 0 => shpLeg c s
       | 1 => shpGroup c s
       | _ => checks [badArg (decide (15 < c.f 1 16 16) || c.f 1 3 5 ≠ 0) 1, reserved c 2 8 24, (!isPF c.issuer, eTenant, 1)]
           (ok (s.modPort (c.f 1 16 16) fun q => { q with overhead := signed 8 (c.f 2 0 8) })))) s

/-- SHP.POLICE (R348). -/
def doShpPolice (ch : Nat) (s : State) : State := runCmd ch 0x0C02 (fun c s =>
  let leg := c.f 1 0 16
  let rate := c.f 2 0 32
  let depth := c.f 3 0 24
  match s.leg leg with
  | none => .fail eBadarg 1
  | some l =>
    let p := l.policer
    checks ([reserved c 1 24 8, badArg ((rate ≠ 0 && decide (depth < 9216)) || c.f 3 24 8 ≠ 0) 3] ++ legObj s c.issuer leg (c.f 1 16 8) ++
        [(rate == p.rate && (rate == 0 || depth == p.depth), eAlreadyDone, 0)])
      (let on := p.rate = 0
       ok (s.setLeg leg { l with policer :=
         if rate = 0 then {}
         else { p with rate := rate, depth := depth, tokens := if on then depth * 256 else min p.tokens (depth * 256)
                       rem := if on then 0 else p.rem, last := if on then s.time.ref else p.last } }))) s

/-! ## GATE.LIST (R349) -/

/-- Little-endian words of bytes. -/
def wordsOf (bs : List Byte) : Nat → List Nat
  | 0 => []
  | n + 1 => leNat (bs.take 4) :: wordsOf (bs.drop 4) n

/-- The words that name a time on TB0 in the layout of GATE.LIST words 3 to 5. -/
def timeWords (t : Nat) : List Nat := [t % secU / nsU, t / secU % 2 ^ 32, t / secU / 2 ^ 32 % 2 ^ 16]

/-- The answer that describes a list. -/
def gateWords (g : Gates) (pending : Bool) : List Nat :=
  (b2n g.late + 2 * b2n pending + g.entries.length * 256) :: timeWords g.start

/-- The start time of a new list (R345): its base, or the first whole cycle from now + 200 µs. -/
def gateStart (now base cyc : Nat) : Nat × Bool :=
  let soon := now + 200 * usU
  if soon ≤ base then (base, false) else (base + (soon - base + cyc - 1) / cyc * cyc, true)

/-- GATE.LIST set (R345, R349). -/
def gateSet (c : Ctx) (s : State) (port : Nat) (buf : BufRead) : Reply :=
  let count := c.f 1 8 9
  let cyc := c.f 2 0 32
  let es := (wordsOf (bufBytes buf (count * 4)) count).map fun w => (w / 2 ^ 24 % 256, w % 2 ^ 24)
  let base := ((c.f 5 0 16 * 2 ^ 32 + c.f 4 0 32) * 1000000000 + c.f 3 0 32) * nsU
  checks ([badArg (decide (cyc < 1000) || decide (1000000000 < cyc)) 2, badArg (decide (999999999 < c.f 3 0 32)) 3, reserved c 5 16 16] ++
      descChecks c 6 false ++ [descSize c 6 (count * 4), (!isPF c.issuer, eTenant, 1), ((s.port port).cfg.mode == 0, eState, 0x0C02)] ++
      bufChecks buf ++ [badArg (es.any fun e => e.2 == 0) 6])
    (let st := gateStart (s.base 0).val base (cyc * nsU)
     let g : Gates := ⟨cyc, st.1, st.2, es⟩
     okWords (s.modPort port fun q => { q with gatePend := some g }) (gateWords g true))

/-- GATE.LIST (R349). -/
def doGateList (ch : Nat) (buf : BufRead) (s : State) : State := runCmd ch 0x0C03 (fun c s =>
  let port := c.f 1 0 4
  let op := c.f 1 4 2
  let count := c.f 1 8 9
  let q := s.port port
  checks [badArg (op == 3 || (op == 0 && (count == 0 || decide (256 < count)))) 1, badLen c (if op = 0 then 8 else 1),
      badArg (c.f 1 6 2 ≠ 0 || c.f 1 17 15 ≠ 0) 1]
    (match op with
     | 0 => gateSet c s port buf
     | 1 => checks [(q.cfg.mode == 0, eState, 0x0C02), (q.gates.isNone && q.gatePend.isNone, eAlreadyDone, 0)]
         (ok (s.modPort port fun q => { q with gates := none, gatePend := none, gateHold := none, gateIdx := 0 }))
     | _ => checks [(q.cfg.mode == 0, eState, 0x0C02)]
         (match q.gatePend, q.gates with
          | some g, _ => okWords s (gateWords g true)
          | none, some g => okWords s (gateWords g false)
          | none, none => okWords s [0, 0, 0, 0]))) s

/-! ## The meanings -/

/-- The meaning of LEG_SHAPER_REFILL (R332). -/
def execLegShaperRefill (leg : Nat) (s : State) : Host.Outcome State Fault Refusal :=
  answer (Instr.legShaperRefill leg).wf (doLegShaperRefill leg s)

/-- The meaning of GROUP_REFILL (R336). -/
def execGroupRefill (g : Nat) (s : State) : Host.Outcome State Fault Refusal :=
  answer (Instr.groupRefill g).wf (doGroupRefill g s)

/-- The meaning of EGRESS_SELECT (R339). -/
def execEgressSelect (port : Nat) (err : Option LqErr) (s : State) : Host.Outcome State Fault Refusal :=
  answer (Instr.egressSelect port err).wf (doEgressSelect port err s)

/-- The meaning of MAC_TRANSMIT (R343). -/
def execMacTransmit (port : Nat) (s : State) : Host.Outcome State Fault Refusal :=
  answer (Instr.macTransmit port).wf (doMacTransmit port s)

/-- The meaning of GATE_OVERSIZE (R344). -/
def execGateOversize (port : Nat) (q : Nat) (s : State) : Host.Outcome State Fault Refusal :=
  answer (Instr.gateOversize port q).wf (doGateOversize port q s)

/-- The meaning of GATE_INTERVAL_END (R342). -/
def execGateIntervalEnd (port : Nat) (s : State) : Host.Outcome State Fault Refusal :=
  answer (Instr.gateIntervalEnd port).wf (doGateIntervalEnd port s)

/-- The meaning of GATE_LIST_START (R345). -/
def execGateListStart (port : Nat) (s : State) : Host.Outcome State Fault Refusal :=
  answer (Instr.gateListStart port).wf (doGateListStart port s)

/-- The meaning of GATE_RESTART (R346). -/
def execGateRestart (port : Nat) (s : State) : Host.Outcome State Fault Refusal :=
  answer (Instr.gateRestart port).wf (doGateRestart port s)

/-- The meaning of SHP_NODE (R347). -/
def execShpNode (ch : Nat) (s : State) : Host.Outcome State Fault Refusal :=
  answer (Instr.shpNode ch).wf (doShpNode ch s)

/-- The meaning of SHP_POLICE (R348). -/
def execShpPolice (ch : Nat) (s : State) : Host.Outcome State Fault Refusal :=
  answer (Instr.shpPolice ch).wf (doShpPolice ch s)

/-- The meaning of GATE_LIST (R349). -/
def execGateList (ch : Nat) (buf : BufRead) (s : State) : Host.Outcome State Fault Refusal :=
  answer (Instr.gateList ch buf).wf (doGateList ch buf s)

end Sys2Proof.Machine
end

