-- ==== Sys2Proof/Machine/Rate.lean ====
section
/-! DEFINITION. Each receiver's rate and layers (R160, R163 to R167): ladders, the estimate, probes, and the selection. Rates
are in bit/s. -/

namespace Sys2Proof.Machine

/-! ## Ladders (R160) -/

/-- The packets of a track in the last 500 ms: spatial layer or encoding, temporal layer, IP bytes. A single-layer track has
one layer. -/
def Track.arrived (t : Track) (m : Nat) : List (Nat × Nat × Nat) :=
  t.encs.zipIdx.flatMap fun (e, i) =>
    (e.window.filter fun x => decide (m < x.1 + 500)).map fun (_, sp, tp, b) =>
      if t.layering = 0 then (0, 0, b) else if t.layering = 2 then (i, tp, b) else (sp, tp, b)

/-- The rate of layer (s, t): every packet that decoding it needs. -/
def layerRate (layering : Nat) (l : List (Nat × Nat × Nat)) (sp tp : Nat) : Nat :=
  ((l.filter fun x => (if layering = 2 then x.1 == sp else decide (x.1 ≤ sp)) && decide (x.2.1 ≤ tp)).map (·.2.2)).sum * 16

/-- The order of a ladder: by rate, then the lower layer. -/
def stepBefore (a b : Nat × Nat × Nat) : Bool :=
  decide (a.2.2 < b.2.2) || (a.2.2 == b.2.2 && (decide (a.1 < b.1) || (a.1 == b.1 && decide (a.2.1 < b.2.1))))

/-- The ladder measured now: present layers in ascending order of rate. -/
def Track.measure (t : Track) (m : Nat) : List (Nat × Nat × Nat) :=
  let l := t.arrived m
  sortBy stepBefore ((l.map fun x => (x.1, x.2.1)).eraseDups.map fun x => (x.1, x.2, layerRate t.layering l x.1 x.2))

/-- The tracks of the encode jobs that a leg receives, measured with its estimate (R160, R239). -/
def State.measureJobs (s : State) (l : Leg) : State :=
  let js := (l.slots.filterMap fun v => match v.2.src with
    | .job j => some j
    | .track _ _ _ => none).eraseDups
  { s with jobTracks := js.foldl (fun t j => tupd t j fun x => { x with ladder := x.measure s.time.m }) s.jobTracks }

/-- LAYER_RATE_MEASURE: the 50 ms measurement of a video track (R160). -/
def doLayerRateMeasure (leg track : Nat) (s : State) : State :=
  let m := s.time.m
  s.modLeg leg fun l => l.modTrack track fun t =>
    if t.media = 0 then t else
    { t with ladder := t.measure m
             encs := t.encs.map fun e => { e with window := e.window.filter fun x => decide (m < x.1 + 500) } }

/-- The rate of a layer on a ladder, 0 where it is not present. -/
def ladderRate (ld : List (Nat × Nat × Nat)) (sp tp : Nat) : Nat := ((ld.find? fun x => x.1 == sp && x.2.1 == tp).map (·.2.2)).getD 0

/-- Is layer `a` above layer `b` on a ladder? -/
def layerAbove (ld : List (Nat × Nat × Nat)) (a b : Nat × Nat) : Bool :=
  stepBefore (b.1, b.2, ladderRate ld b.1 b.2) (a.1, a.2, ladderRate ld a.1 a.2)

/-! ## What was sent -/

/-- IP bytes of a kind sent in the last 500 ms, as a rate. -/
def Est.outRate (e : Est) (m : Nat) (k : Nat → Bool) : Nat :=
  ((e.outs.filter fun x => decide (m < x.1 + 500) && k x.2.2).map (·.2.1)).sum * 16

/-! ## The estimate (R163) -/

/-- The format of feedback in use: 15 transport-wide, 11 RFC 8888, 0 receiver reports (R184). -/
def FwdPol.feedback (p : FwdPol) : Nat :=
  match p.fbMode with
  | 0 => if p.idTwSeq ≠ 0 then 15 else 0
  | 1 => 15
  | 2 => 11
  | _ => 0

/-- Sums of the least-squares slope: the slope is the first over the second. -/
def slope (g : List (Int × Int)) : Int × Int :=
  let n : Int := g.length
  let sx := (g.map (·.1)).sum
  let sy := (g.map (·.2)).sum
  (n * (g.map fun x => x.1 * x.2).sum - sx * sy, n * (g.map fun x => x.1 * x.1).sum - sx * sx)

/-- Is the delay trend above 0.02, or below −0.02? -/
def trendUp (g : List (Int × Int)) : Bool := decide ((slope g).2 < 50 * (slope g).1) && decide ((slope g).2 ≠ 0)
def trendDown (g : List (Int × Int)) : Bool := decide (50 * (slope g).1 < -(slope g).2) && decide ((slope g).2 ≠ 0)

/-- What one run sees: stale, trend up, trend down, received rate, packets lost and packets reported. -/
structure Seen where
  stale : Bool
  up : Bool
  down : Bool
  rx : Nat
  lost : Nat
  reported : Nat

/-- The input of a run (R163): reports over `span` ticks. In receiver-report mode the loss is the fraction of the latest
report, and the received rate the part of the sent rate that it leaves. -/
def Est.seen (e : Est) (fb m span : Nat) : Seen :=
  if fb = 0 then
    let sent := e.outRate m fun _ => true
    ⟨decide (e.lastRr + 5000 ≤ m), false, false, sent * (256 - e.rrLoss) / 256, e.rrLoss, 256⟩
  else
    let rs := e.reports.filter fun r => r.2.1 == fb && decide (m < r.1 + span)
    let last := if fb = 15 then e.lastTw else e.lastCc
    ⟨decide (last + 250 ≤ m), trendUp e.groups, trendDown e.groups, (rs.map (·.2.2.1)).sum * 8 * 1000 / span,
     (rs.map (·.2.2.2.2)).sum, (rs.map (·.2.2.2.1)).sum⟩

/-- Is the loss above `pc` per cent? -/
def Seen.lossOver (x : Seen) (pc : Nat) : Bool := decide (x.reported * pc < x.lost * 100)

/-- A_MAX in force: 0 is the port's rate (R184). -/
def State.aMax (s : State) (l : Leg) : Nat := if l.pol.aMax = 0 then portRate (s.port l.cfg.port).cfg.mode * 1000000000 else l.pol.aMax * 1000

/-- The ceiling of an increase (R163). -/
def Est.ceiling (e : Est) (m : Nat) : Nat :=
  let sent := e.outRate m fun _ => true
  let pr := match e.probed with
    | some (r, t) => if m < t + 10000 then r else 0
    | none => 0
  let top := max (sent * 3 / 2 + 100000) pr
  match e.remb with
  | some (r, t) => if m < t + 2000 then min top r else top
  | none => top

/-- One run of the estimate (R163). -/
def Est.run (e : Est) (p : FwdPol) (aMax m : Nat) : Est :=
  let x := e.seen p.feedback m 500
  let aMin := p.aMin * 1000
  let e := { e with lastRun := some m, reports := e.reports.filter fun r => decide (m < r.1 + 500) }
  if x.stale then { e with a := max aMin (e.a / 2), st := 3 }
  else if x.up || x.lossOver 10 then { e with a := max aMin (min e.a (x.rx * 85 / 100)), st := 2, tDec := some m }
  else if x.down || x.lossOver 2 || e.tDec.any (fun t => decide (m < t + 500)) then { e with st := 1 }
  else { e with a := min aMax (min (e.ceiling m) (e.a * 105 / 100 + 10000)), st := 0, incSince := if e.st = 0 then e.incSince else m }

/-! ## Choosing layers (R166) -/

/-- A slot in a selection: its number, pin, ladder, and the ladder step wanted (none is PAUSE). -/
structure Sel where
  slot : Nat
  pinMode : Nat
  pinS : Nat
  pinT : Nat
  ladder : List (Nat × Nat × Nat)
  want : Option Nat

/-- The rate of the step wanted. -/
def Sel.rate (x : Sel) : Nat := ((x.want.bind fun i => x.ladder[i]?).map (·.2.2)).getD 0

/-- Is a layer within the slot's pin? -/
def Sel.within (x : Sel) (st : Nat × Nat × Nat) : Bool := decide (st.1 ≤ x.pinS) && decide (st.2.1 ≤ x.pinT)

/-- The highest present layer at or below a pin, or the lowest present layer (R166, R186). -/
def Sel.fixed (x : Sel) : Nat := ((x.ladder.zipIdx.filter fun y => x.within y.1).getLast?.map (·.2)).getD 0

/-- The next ladder step above the one wanted, within a CAP pin. -/
def Sel.next (x : Sel) : Option (Nat × Nat) :=
  match x.want with
  | none => none
  | some i => (x.ladder.zipIdx.find? fun y => decide (i < y.2) && (x.pinMode ≠ 1 || x.within y.1)).map fun y => (y.2, y.1.2.2)

/-- The slots that a FIX pin holds take their layers first, then every other slot its lowest layer or PAUSE. -/
def selectBase : List Sel → Int → List Sel × Int
  | [], b => ([], b)
  | x :: xs, b =>
    if x.pinMode = 2 then
      let r := selectBase xs b
      (x :: r.1, r.2)
    else
      let r0 : Int := ((x.ladder[0]?).map (·.2.2)).getD 0
      if r0 ≤ b then
        let r := selectBase xs (b - r0)
        ({ x with want := some 0 } :: r.1, r.2)
      else
        let r := selectBase xs b
        ({ x with want := none } :: r.1, r.2)

/-- One pass of growth over the slots: whether any grew. -/
def selectGrow : List Sel → Int → Bool × List Sel × Int
  | [], b => (false, [], b)
  | x :: xs, b =>
    match (if x.pinMode = 2 then none else x.next) with
    | some (i, r) =>
      let d : Int := (r : Int) - x.rate
      if d ≤ b then
        let q := selectGrow xs (b - d)
        (true, { x with want := some i } :: q.2.1, q.2.2)
      else
        let q := selectGrow xs b
        (q.1, x :: q.2.1, q.2.2)
    | none =>
      let q := selectGrow xs b
      (q.1, x :: q.2.1, q.2.2)

/-- Growth until no slot grows. -/
def selectAll : Nat → List Sel → Int → List Sel
  | 0, xs, _ => xs
  | fuel + 1, xs, b =>
    let q := selectGrow xs b
    if q.1 then selectAll fuel q.2.1 q.2.2 else q.2.1

/-- The source that a slot's choice is made on: that of a pending re-point (R182), else its own. -/
def Slot.choice (v : Slot) : SlotSrc := (v.pendSrc.map (·.1)).getD v.src

/-- The slots of a selection, by PRIO high first, then SLOT low first; a slot whose source has no measured layer keeps its
choice and takes no part. -/
def State.candidates (s : State) (l : Leg) : List Sel :=
  let vs := l.slots.filter fun x => x.2.media = 1 && (x.2.state == 1 || x.2.state == 2 || x.2.state == 3) && x.2.pinMode ≠ 3
  (sortBy (fun a b => decide (b.2.prio < a.2.prio)) vs).filterMap fun x =>
    let all := ((s.srcTrack x.2.choice).map (·.ladder)).getD []
    let ld := if x.2.encSel = 3 then all else all.filter fun y => y.1 == x.2.encSel
    if ld.isEmpty then none else some ⟨x.1, x.2.pinMode, x.2.pinS, x.2.pinT, ld, none⟩

/-- The budget of a leg (R166). -/
def Leg.budget (l : Leg) (m : Nat) : Int :=
  (l.est.a * (100 - l.pol.headroom) / 100 : Nat) - (l.est.outRate m fun k => k == 1 || k == 2 : Nat)

/-- The selection of R166. -/
def State.selection (s : State) (l : Leg) : List Sel :=
  let xs := (s.candidates l).map fun x => if x.pinMode = 2 then { x with want := some x.fixed } else x
  let b := l.budget s.time.m - (((xs.filter fun x => x.pinMode == 2).map (·.rate)).sum : Nat)
  let q := selectBase xs b
  selectAll ((xs.map fun x => x.ladder.length).sum + 1) q.1 q.2

/-! ## Applying a choice (R167) -/

/-- Schedule a switch of layer; a spatial wait already running goes on. -/
def Slot.schedule (v : Slot) (m : Nat) : Slot :=
  let at_ := match v.pendLayer with
    | some (sp, _, t) => if v.curS < sp then t else m
    | none => m
  { v with pendLayer := some (v.wantS, v.wantT, at_), holdFrom := none }

/-- Start the hold timer unless it runs. -/
def Slot.hold (v : Slot) (m : Nat) : Slot := { v with holdFrom := some (v.holdFrom.getD m) }

/-- Apply the choice of a run to a slot (R167): `cause` is that of EV_FWD_LAYER. -/
def State.applyWant (s : State) (leg : Nat) (cause : Nat) (x : Sel) : State :=
  match (s.leg leg).bind fun l => tget l.slots x.slot with
  | none => s
  | some v =>
    let m := s.time.m
    let step := (x.want.bind fun i => x.ladder[i]?).map fun y => (y.1, y.2.1)
    let w := step.getD (v.wantS, v.wantT)
    let v' := { v with wantPause := step.isNone, wantS := w.1, wantT := w.2 }
    let put := fun v : Slot => s.modSlot leg x.slot fun _ => v
    if v.pendSrc.isSome then put v'
    else if v.state = 1 then
      if step.isNone then (put { v' with state := 3, holdFrom := none }).layerEvent leg x.slot cause
      else match s.srcTrack v.src with
        | some t => if t.encOf v.wantS ≠ t.encOf w.1 then (put v').requestKey v.src (t.encOf w.1) false else put v'
        | none => put v'
    else if v.state = 3 then
      if step.isNone then put { v' with holdFrom := none }
      else if x.pinMode = 2 then (put v').waitKey leg x.slot
      else put (v'.hold m)
    else if step.isNone then put { v' with holdFrom := none, pendLayer := none }
    else if !layerAbove x.ladder w (v.curS, v.curT) then
      put { v' with holdFrom := none, pendLayer := if w = (v.curS, v.curT) then none else some (w.1, w.2, m) }
    else if x.pinMode = 2 || v.pendLayer.any (fun p => layerAbove x.ladder (p.1, p.2.1) (v.curS, v.curT)) then put (v'.schedule m)
    else put (v'.hold m)

/-- The selection of a leg and its application (R166, R167). -/
def State.selectLayers (s : State) (leg cause : Nat) : State :=
  match s.leg leg with
  | none => s
  | some l => (s.selection l).foldl (fun s x => s.applyWant leg cause x) s

/-! ## Probes (R164) -/

/-- Is a slot below the layer that it would take without a budget? -/
def Sel.short (x : Sel) : Bool := x.pinMode ≠ 2 && (x.want.isNone || x.next.isSome)

/-- The rate of a slot's next ladder step. -/
def Sel.stepRate (x : Sel) : Nat :=
  match x.want with
  | none => ((x.ladder[0]?).map (·.2.2)).getD 0
  | some _ => ((x.next).map (·.2)).getD 0

/-- Padding-only packets on a leg's padding stream (R164): `n` packets of 255 bytes at priority 0. -/
def State.sendPadding (s : State) (leg slot : Nat) : Nat → State
  | 0 => s
  | n + 1 => match (s.leg leg).bind fun l => tget l.slots slot with
    | none => s
    | some v =>
      let rtx := v.outRtx ≠ 0
      let q := if rtx then v.stream.rtxNext else v.stream.next
      let s := s.modSlot leg slot fun v => { v with stream :=
        if rtx then { v.stream with rtxNext := v.stream.rtxNext + 1 } else { v.stream with next := v.stream.next + 1 } }
      (s.pushOut { leg := leg, slot := some slot, prio := 0, ssrc := if rtx then v.outRtx else v.outSsrc, seq := q % 65536
                   roc := q / 65536, ts := v.stream.lastTs, pt := if rtx then v.outRtxPt else v.outPt, pad := true
                   payloadLen := 255 }).sendPadding leg slot n

/-- Start a probe window where R164 asks for one, after the selection `xs`. -/
def State.probe (s : State) (leg : Nat) (xs : List Sel) : State :=
  match s.leg leg, xs.find? Sel.short with
  | some l, some x =>
    let m := s.time.m
    let e := l.est
    if !l.pol.probe || e.st ≠ 0 || m < e.incSince + 1000 || m < e.nextProbe || e.probing.isSome || l.state ≠ 1 then s
    else
      let sent := e.outRate m fun _ => true
      let other := sent - x.rate
      let target := min (x.stepRate * 100 / (100 - l.pol.headroom) + other) (min (2 * e.a) (s.aMax l))
      let video := sortBy (fun a b => decide (b.2.prio < a.2.prio)) (l.slots.filter fun v => v.2.media == 1)
      let on := ((video.find? fun v => v.2.outRtx ≠ 0).orElse fun _ => video.head?).map (·.1)
      let bytes := (target - sent) * 50 / 8000
      let s := s.modLeg leg fun l => { l with est := { l.est with probing := some (m + 50, target) } }
      match on with
      | some k => s.sendPadding leg k ((bytes + 254) / 255)
      | none => s
  | _, _ => s

/-- PROBE_WINDOW_END (R164). -/
def doProbeWindowEnd (leg : Nat) (s : State) : State :=
  match s.leg leg with
  | none => s
  | some l => match l.est.probing with
    | none => s
    | some (stop, _) =>
      let m := s.time.m
      if m < stop then s else
      let x := l.est.seen l.pol.feedback m 50
      let e := { l.est with probing := none }
      s.setLeg leg { l with est :=
        if !x.up && !x.lossOver 2 then
          let r := x.rx * 95 / 100
          { e with probed := some (r, m), a := max e.a r, nextProbe := m + 2000 }
        else { e with nextProbe := m + 5000 } }

/-- RATE_ESTIMATE: the run of the leg's control flow every 50 ticks (R163, R165, R166, R167, R164). -/
def doRateEstimate (leg : Nat) (s : State) : State :=
  match s.leg leg with
  | none => s
  | some l =>
    let m := s.time.m
    if !startsAt 50 leg m || l.est.lastRun = some m || s.stoppedFlow (.legControl leg) then s else
    let l := Leg.setShaper { l with est := l.est.run l.pol (s.aMax l) m }
    let s := s.setLeg leg l
    let s := s.measureJobs l
    let xs := s.selection l
    (s.selectLayers leg 0).probe leg xs

/-! ## Timers of a choice -/

/-- UP_HOLD_EXPIRE: the hold reaches UP_HOLD (R167): the up-switch is scheduled, or a paused slot waits for a key picture. -/
def doUpHoldExpire (leg slot : Nat) (s : State) : State :=
  match s.leg leg with
  | none => s
  | some l => match tget l.slots slot with
    | none => s
    | some v => match v.holdFrom with
      | none => s
      | some t =>
        if s.time.m < t + l.pol.upHold then s
        else if v.state = 3 then (s.modSlot leg slot fun v => { v with holdFrom := none }).waitKey leg slot
        else if v.state = 2 && !v.wantPause then s.modSlot leg slot fun v => v.schedule s.time.m
        else s.modSlot leg slot fun v => { v with holdFrom := none }

/-- SPATIAL_SWITCH_TIMEOUT: a scheduled spatial up-switch has found no switching point for 3,000 ms: a key picture is
requested (R167). -/
def doSpatialSwitchTimeout (leg slot : Nat) (s : State) : State :=
  match (s.leg leg).bind fun l => tget l.slots slot with
  | none => s
  | some v => match v.pendLayer with
    | none => s
    | some (sp, tp, t) =>
      if v.state ≠ 2 || sp ≤ v.curS || s.time.m < t + 3000 then s
      else
        let s := s.modSlot leg slot fun v => { v with pendLayer := some (sp, tp, s.time.m) }
        match s.srcTrack v.src with
        | some tr => s.requestKey v.src (tr.encOf sp) false
        | none => s

/-- FWD_SWITCH_SLOW: no key picture of the new source within 5,000 ms of a re-point (R182): the event once, and a key request
again. -/
def doFwdSwitchSlow (leg slot : Nat) (s : State) : State :=
  match (s.leg leg).bind fun l => tget l.slots slot with
  | none => s
  | some v => match v.pendSrc with
    | none => s
    | some (src, t, n, posted) =>
      if v.media = 0 || s.time.m < t + 5000 then s
      else
        let obj := match src with
          | .track k _ _ => k
          | .job j => j
        let s := if posted then s else s.postLeg leg { code := evFwdSwitchSlow, d0 := slot, d1 := obj, d2 := n }
        let s := s.modSlot leg slot fun v => { v with pendSrc := some (src, t, n + 1, true) }
        match s.srcTrack src with
        | some tr => s.requestKey src (tr.encOf v.wantS) false
        | none => s

/-! ## The meanings -/

/-- The meaning of LAYER_RATE_MEASURE (R160). -/
def execLayerRateMeasure (leg : Nat) (track : Nat) (s : State) : Host.Outcome State Fault Refusal :=
  answer (Instr.layerRateMeasure leg track).wf (doLayerRateMeasure leg track s)

/-- The meaning of PROBE_WINDOW_END (R164). -/
def execProbeWindowEnd (leg : Nat) (s : State) : Host.Outcome State Fault Refusal :=
  answer (Instr.probeWindowEnd leg).wf (doProbeWindowEnd leg s)

/-- The meaning of RATE_ESTIMATE (R163). -/
def execRateEstimate (leg : Nat) (s : State) : Host.Outcome State Fault Refusal :=
  answer (Instr.rateEstimate leg).wf (doRateEstimate leg s)

/-- The meaning of UP_HOLD_EXPIRE (R167). -/
def execUpHoldExpire (leg : Nat) (slot : Nat) (s : State) : Host.Outcome State Fault Refusal :=
  answer (Instr.upHoldExpire leg slot).wf (doUpHoldExpire leg slot s)

/-- The meaning of SPATIAL_SWITCH_TIMEOUT (R167). -/
def execSpatialSwitchTimeout (leg : Nat) (slot : Nat) (s : State) : Host.Outcome State Fault Refusal :=
  answer (Instr.spatialSwitchTimeout leg slot).wf (doSpatialSwitchTimeout leg slot s)

/-- The meaning of FWD_SWITCH_SLOW (R182). -/
def execFwdSwitchSlow (leg : Nat) (slot : Nat) (s : State) : Host.Outcome State Fault Refusal :=
  answer (Instr.fwdSwitchSlow leg slot).wf (doFwdSwitchSlow leg slot s)

end Sys2Proof.Machine
end

