-- ==== Sys2Proof/Machine/Tracks.lean ====
section
/-! DEFINITION. Source tracks (R152 to R156, R160, R177 to R180): layers and frames of a packet, reception, breaks and what
stays decodable, and the storing of a packet in the Hamper. -/

namespace Sys2Proof.Machine

/-! ## Elements and layers (R153, R154) -/

/-- The element that the leg's map names by this ID; ID 0 is not used. -/
def extBy (id : Nat) (els : List ExtElem) : Option ExtElem := if id = 0 then none else els.find? fun e => e.id == id

/-- What a packet shows of its place in its stream. -/
structure Lay where
  s : Nat := 0
  t : Nat := 0
  key : Bool := false
  start : Option Bool := none
  fin : Option Bool := none
  /-- decode targets that it marks a switch for -/
  targets : List (Nat × Nat) := []
  /-- it is a temporal switching point: VP8 Y, frame marking B -/
  sync : Bool := false
  chains : List Nat := []

/-- Layers, key picture, frame limits and switch marks of a packet of a video codec (R154). -/
def videoLay (l : Leg) (codec : Nat) (r : Rtp) : Lay :=
  let dd : Option ExtVal := (extBy l.pol.idDd r.exts).map (·.val)
  let fm : Option ExtVal := (extBy l.pol.idFm r.exts).map (·.val)
  if codec = 11 then
    match dd, r.codec with
    | some (.depDesc _ sp tp key start fin sw chains _ _), _ => { s := sp, t := tp, key := key, start := some start, fin := some fin, targets := sw, chains := chains }
    | _, .av1 n => { key := n }
    | _, _ => {}
  else if codec = 10 then
    match r.codec with
    | .vp8 tid y _ _ key => { t := tid, key := key, sync := y }
    | _ => {}
  else
    let key := match r.codec with
      | .nal k => if codec = 8 then k == 5 else decide (16 ≤ k) && decide (k ≤ 23)
      | _ => false
    match fm with
    | some (.frameMark tid lid b _ e start _) => { s := lid, t := tid, key := key, start := some start, fin := some e, sync := b }
    | _ => { key := key }

/-- Is timestamp `a` after `b`, modulo 2^32? -/
def tsAfter (a b : Nat) : Bool :=
  let d := (a + 2 ^ 32 - b % 2 ^ 32) % 2 ^ 32
  decide (0 < d) && decide (d < 2 ^ 31)

/-- The layer of a packet of a track: in a simulcast track the encoding index, in a single-layer track layer (0, 0). -/
def layOf (l : Leg) (t : Track) (enc : Nat) (r : Rtp) : Lay :=
  if t.media = 0 then { key := true, start := some true, fin := some true }
  else
    let x := videoLay l t.codec r
    if t.layering = 2 then { x with s := enc } else if t.layering = 0 then { x with s := 0, t := 0 } else x

/-! ## Breaks (R179, R180) -/

/-- The breaks that the start of a frame ends. -/
def Enc.restore (e : Enc) (x : Lay) : Enc :=
  if x.key then { e with brokenAbove := none, brokenFrom := none, brokenAll := false, brokenChains := [] }
  else { e with
    brokenAbove := if e.brokenAbove.any (fun t => decide (x.t ≤ t)) then none else e.brokenAbove
    brokenFrom := if e.brokenFrom.any (fun k => x.targets.any fun y => decide (k ≤ y.1)) then none else e.brokenFrom
    brokenChains := e.brokenChains.filter fun c => !x.chains.contains c }

/-- The highest layer of an encoding that is still decodable: none where the whole encoding is withheld (R179). -/
def Enc.decodable (e : Enc) : Option (Nat × Nat) :=
  let cut := match e.brokenFrom, e.brokenChains.min? with
    | some a, some b => min a b
    | some a, none => a
    | none, some b => b
    | none, none => 3
  if e.brokenAll || cut = 0 then none else some (cut - 1, (e.brokenAbove.getD 2))

/-- The layer of a lost packet: that of the packet before it where that did not end its frame, else of the packet after it
(log entry 22). -/
def Enc.lostLayer (e : Enc) (seq : Nat) : Nat × Nat :=
  let near := fun f : Nat → Nat => (List.range 31).findSome? fun k => e.hamper.find? fun h => h.seq == f (k + 1)
  match near fun k => (seq + 65536 - k) % 65536 with
  | some h => if !h.fin then (h.s, h.t) else ((near fun k => (seq + k) % 65536).map fun h => (h.s, h.t)).getD (0, 0)
  | none => ((near fun k => (seq + k) % 65536).map fun h => (h.s, h.t)).getD (0, 0)

/-- The break that a packet lost in layer (s, t) makes (R179). -/
def Enc.break_ (e : Enc) (av1 : Bool) (layering sp tp : Nat) : Enc :=
  if 0 < tp then { e with brokenAbove := some ((e.brokenAbove.map fun x => min x tp).getD tp) }
  else if av1 then { e with brokenChains := if e.brokenChains.contains sp then e.brokenChains else e.brokenChains ++ [sp] }
  else if layering = 1 && 0 < sp then { e with brokenFrom := some ((e.brokenFrom.map fun x => min x sp).getD sp) }
  else { e with brokenAll := true }

/-! ## Reception (R173, R177) -/

/-- Signed difference of two 16-bit numbers. -/
def seqDiff (a b : Nat) : Int :=
  let d : Nat := (a + 65536 - b % 65536) % 65536
  if d < 32768 then (d : Int) else (d : Int) - 65536

/-- A source number arrives: missing numbers that a gap shows, and those that it fills (R177). A jump of more than 1,024 is a
restart and shows no gap. -/
def Enc.arrive (e : Enc) (cc : Bool) (seq m us : Nat) : Enc :=
  let r := { e.recv with got := e.recv.got + 1, arrivals := if cc then e.recv.arrivals ++ [(seq, us)] else [] }
  match e.recv.hi with
  | none => { e with recv := { r with base := seq, hi := some seq } }
  | some h =>
    let d := seqDiff seq h
    if d ≤ 0 then { e with recv := r, missing := e.missing.filter fun x => x.seq ≠ seq }
    else
      let d := d.toNat
      let gap := if 1024 < d then [] else (List.range (d - 1)).map fun k => ({ seq := (h + k + 1) % 65536, since := m } : Missing)
      { e with recv := { r with hi := some (h + d) }, missing := e.missing ++ gap }

/-- Store a packet in an encoding (R155, R156): the last 1,024 packets of the last 1.5 s. -/
def Enc.store (e : Enc) (h : HamperPkt) : Enc :=
  let l := (e.hamper.filter fun x => x.seq ≠ h.seq && decide (h.tick < x.tick + 1500)) ++ [h]
  { e with hamper := l.drop (l.length - 1024) }

/-- A stored packet by its number, while it is not older than 1.5 s. -/
def Enc.stored (e : Enc) (seq m : Nat) : Option HamperPkt := e.hamper.find? fun h => h.seq == seq && decide (m < h.tick + 1500)

/-! ## NACKs and losses (R177) -/

/-- The interval between NACKs: max(10 ms, round-trip time). -/
def Leg.nackGap (l : Leg) : Nat := max 10 l.est.rttMs

/-- Is a NACK due for a missing number? -/
def Missing.due (x : Missing) (gap m : Nat) : Bool := x.nacks == 0 || (decide (x.nacks < 3) && decide (x.lastNack + gap ≤ m))

/-- Set the NACK timer of an encoding with RTX for the tick at which its next NACK is due. -/
def State.armNack (s : State) (leg track enc : Nat) : State :=
  match s.leg leg, (s.leg leg).bind fun l => tget l.tracks track with
  | some l, some t => match t.encs[enc]? with
    | some e =>
      let due := (e.missing.filter fun x => decide (x.nacks < 3)).map fun x => if x.nacks = 0 then s.time.m + 1 else x.lastNack + l.nackGap
      if e.rtxSsrc = 0 || s.timerSet (.nack leg track enc) then s
      else match due.min? with
        | some d => s.setTimer (max d (s.time.m + 1)) (.nack leg track enc)
        | none => s
    | none => s
  | _, _ => s

/-- NACK_SEND: the NACK timer of an encoding has fallen due (R177): one NACK names every number whose NACK is due. -/
def doNackSend (leg track enc : Nat) (s : State) : State :=
  match s.leg leg, (s.leg leg).bind fun l => tget l.tracks track with
  | some l, some t => match t.encs[enc]? with
    | some e =>
      let m := s.time.m
      let due := e.missing.filter fun x => x.due l.nackGap m
      if e.rtxSsrc = 0 || s.timerSet (.nack leg track enc) || due.isEmpty then s
      else
        let hit := fun x : Missing => if x.due l.nackGap m then { x with nacks := x.nacks + 1, lastNack := m } else x
        let s := s.modLeg leg fun l => l.modTrack track fun t => t.modEnc enc fun e => { e with missing := e.missing.map hit }
        (s.sendFb leg [.nack e.ssrc (due.map (·.seq))]).armNack leg track enc
    | none => s
  | _, _ => s

/-- May a missing number be declared lost (R177)? -/
def Missing.lost (x : Missing) (rtx : Bool) (rtt m : Nat) : Bool :=
  if rtx then x.nacks == 3 && decide (x.lastNack + rtt < m) else decide (x.since + 20 ≤ m)

/-- May a lost number belong to the frame: not before its first packet, not after its last, and near those received (log
entry 22)? -/
def DecFrame.lacks (f : DecFrame) (seq : Nat) : Bool :=
  !f.submitted && !f.first.any (fun a => decide (seqDiff seq a < 0)) && !f.last.any (fun b => decide (0 < seqDiff seq b)) &&
    f.got.any fun g => decide ((seqDiff seq g).natAbs ≤ 30)

/-- The frames of decode jobs that a lost packet leaves incomplete (R233). -/
def State.decLost (s : State) (leg gen track enc layering seq : Nat) : State :=
  let mine := fun j : DecJob => j.srcLeg == leg && j.srcGen == gen && j.srcTrack == track && (layering ≠ 2 || j.decS == enc)
  let put := fun f : DecFrame => if f.lacks seq && f.lostAt.isNone then { f with lostAt := some s.time.m } else f
  { s with decJobs := tmap (fun j => if mine j then { j with frames := j.frames.map put } else j) s.decJobs }

/-- LOSS_DECLARED (R177, R179): the frame is broken, and a loss in temporal layer 0 asks for a key picture. -/
def doLossDeclared (leg track enc seq : Nat) (s : State) : State :=
  match s.leg leg, (s.leg leg).bind fun l => tget l.tracks track with
  | some l, some t => match t.encs[enc]? with
    | some e =>
      if !e.missing.any fun x => x.seq == seq && x.lost (e.rtxSsrc ≠ 0) l.est.rttMs s.time.m then s
      else
        let s := s.modLeg leg fun l => l.modTrack track fun t => t.modEnc enc fun e => { e with missing := e.missing.filter fun x => x.seq ≠ seq }
        if t.media = 0 then s
        else
          let s := s.decLost leg l.gen track enc t.layering seq
          let p := if t.layering = 0 then (0, 0) else e.lostLayer seq
          let av1 := t.codec == 11 && l.pol.idDd ≠ 0
          let s := s.modLeg leg fun l => l.modTrack track fun t => t.modEnc enc fun e => e.break_ av1 t.layering p.1 p.2
          if p.2 = 0 then s.requestKey (.track leg l.gen track) enc false else s
    | none => s
  | _, _ => s

/-- KEY_REQUEST_SEND: KEY_MIN has passed since the last request of an encoding with merged requests (R178). -/
def doKeyRequestSend (leg track enc : Nat) (s : State) : State :=
  match s.leg leg, (s.leg leg).bind fun l => tget l.tracks track with
  | some l, some t => match t.encs[enc]? with
    | some e =>
      if e.keyMerged && !e.keyLast.any (fun k => decide (s.time.m < k + l.pol.keyMin)) then s.sendKey leg track enc e e.keyFir else s
    | none => s
  | _, _ => s

/-! ## A packet of a track (R152, R155, R160) -/

/-- The track, encoding and kind (RTX or not) of an SSRC on a leg. -/
def Leg.bySsrc (l : Leg) (ssrc : Nat) : Option (Nat × Nat × Bool) :=
  l.tracks.findSome? fun t => t.2.encs.zipIdx.findSome? fun e =>
    if e.1.ssrc = ssrc then some (t.1, e.2, false)
    else if e.1.rtxSsrc = ssrc && e.1.rtxSsrc ≠ 0 then some (t.1, e.2, true) else none

/-- An encoding after one of its packets: reception, breaks, key requests settled (R178), ladder bytes, template structure. -/
def Enc.took (e : Enc) (l : Leg) (x : Lay) (seq m us ip : Nat) (r : Rtp) : Enc :=
  let e := e.arrive (l.pol.feedback == 11) seq m us
  let start := x.start.getD true
  let e := if start then e.restore x else e
  let e := if start && x.key then { e with keyMerged := false, keyFir := false } else e
  let e := if 2 < x.s || 2 < x.t then e else { e with window := e.window ++ [(m, x.s, x.t, ip)] }
  match extBy l.pol.idDd r.exts with
  | some ⟨_, len, .depDesc _ _ _ _ _ _ _ _ true _⟩ => { e with ddLen := len }
  | _ => e

/-- A packet of a declared track is received, stored and numbered (R152, R155, R177): the packet that the forwarding pipes
see. -/
def State.trackIn (s : State) (leg track enc : Nat) (rtx : Bool) (p : Rtp) (ip stamp : Nat) : State × Option FwdPkt :=
  match s.leg leg, (s.leg leg).bind fun l => tget l.tracks track with
  | some l, some t => match t.encs[enc]? with
    | some e =>
      let seq := if rtx then p.osn.getD p.seq else p.seq
      let r := { p with seq := seq, osn := none, ssrc := e.ssrc, pt := t.pt, payloadLen := p.payloadLen - p.padding - (if rtx then 2 else 0), padding := 0 }
      let x := layOf l t enc r
      let newer := !e.recv.lastTs.any fun a => !tsAfter r.ts a
      let x := { x with start := some (x.start.getD newer), fin := some (x.fin.getD r.marker) }
      let tooHigh := decide (2 < x.s) || decide (2 < x.t)
      let x := if tooHigh then { x with key := false, targets := [], sync := false, start := some false } else x
      let e' := e.took l x seq s.time.m s.nowUs ip r
      let e' := if newer then { e' with recv := { e'.recv with lastTs := some r.ts } } else e'
      let marks := x.targets ++ if x.sync then [(3, x.t), (3, x.t + 1), (3, x.t + 2)] else []
      let h : HamperPkt := ⟨seq, x.s, x.t, x.key, x.start.getD false, x.fin.getD false, marks, ip, hamperBytes ip, stamp, s.time.m, s.hamperOrder, r⟩
      let s := s.evictFor (hamperBytes ip) s.hamperCount
      let s := { s with hamperOrder := s.hamperOrder + 1 }
      let s := s.modLeg leg fun l => l.modTrack track fun t => t.modEnc enc fun old =>
        let kept := { e' with hamper := old.hamper }
        kept.store h
      let s := if tooHigh then s.occur srcFwdLayerUnsupported (s.occLeg leg) else s
      let s := s.armNack leg track enc
      let dec := if tooHigh then none else if t.media = 0 then some (0, 0) else e'.decodable
      (s, some ⟨.track leg l.gen track, enc, t.media, x.s, x.t, x.key, x.start.getD false, x.fin.getD false, marks, seq, dec, stamp, r⟩)
    | none => (s, none)
  | _, _ => (s, none)

/-! ## The meanings -/

/-- The meaning of NACK_SEND (R177). -/
def execNackSend (leg : Nat) (track : Nat) (enc : Nat) (s : State) : Host.Outcome State Fault Refusal :=
  answer (Instr.nackSend leg track enc).wf (doNackSend leg track enc s)

/-- The meaning of LOSS_DECLARED (R177). -/
def execLossDeclared (leg : Nat) (track : Nat) (enc : Nat) (seq : Nat) (s : State) : Host.Outcome State Fault Refusal :=
  answer (Instr.lossDeclared leg track enc seq).wf (doLossDeclared leg track enc seq s)

/-- The meaning of KEY_REQUEST_SEND (R178). -/
def execKeyRequestSend (leg : Nat) (track : Nat) (enc : Nat) (s : State) : Host.Outcome State Fault Refusal :=
  answer (Instr.keyRequestSend leg track enc).wf (doKeyRequestSend leg track enc s)

end Sys2Proof.Machine
end

