-- ==== Sys2Proof/Machine/Pipes.lean ====
section
/-! DEFINITION. The forwarding pipes (R161, R162, R168 to R170, R174, R175, R179, R180, R182): for each subscriber of a source
packet, the slot's switches at a frame start, its number, and its copy; and retransmission (R176). -/

namespace Sys2Proof.Machine

/-! ## Switches at a frame start (R159, R161, R167, R180, R186) -/

/-- The layer of a slot cut to what is decodable. -/
def cutLayer (a b : Nat × Nat) : Nat × Nat := (min a.1 b.1, min a.2 b.2)

/-- Is the scheduled change to (ps, pt) made at the start of this frame (R161)? -/
def switchHere (layering : Nat) (cur tgt : Nat × Nat) (p : FwdPkt) : Bool :=
  let marked := p.switches.contains tgt || p.switches.contains (3, tgt.2) ||
    (layering == 2 && p.switches.any fun x => x.1 ≠ 3 && x.2 == tgt.2)
  let temporal := decide (tgt.2 < cur.2) || (decide (p.t ≤ tgt.2) && (marked || p.t == 0))
  if layering = 2 then
    if tgt.1 ≠ cur.1 then p.enc == tgt.1 && p.key else p.enc == cur.1 && temporal
  else if tgt.1 < cur.1 then p.s == 0 && (decide (tgt.2 ≤ cur.2) || temporal)
  else if cur.1 < tgt.1 then p.key || p.switches.contains tgt
  else temporal

/-- A slot taking a layer; its next copy is the first after the change (R170). -/
def Slot.take (v : Slot) (x : Nat × Nat) : Slot :=
  { v with state := 2, curS := x.1, curT := x.2, pendLayer := none, stream := { v.stream with fresh := true } }

/-- The lower encoding that a slot drops to when its own is withheld whole: the highest present and decodable (R180). -/
def Track.lowerEnc (t : Track) (cur : Nat × Nat) : Option (Nat × Nat) :=
  if t.layering ≠ 2 then none
  else ((List.range cur.1).reverse.find? fun e => t.ladder.any (fun x => x.1 == e) && ((t.encs[e]?).any fun x => x.decodable.isSome)).map fun e =>
    (e, min cur.2 (((t.encs[e]?).bind fun x => x.decodable).getD (0, 0)).2)

/-- A slot at the start of a frame of its source: the slot, and the cause of EV_FWD_LAYER if its layer or state changed
(R188). -/
def Slot.frameStart (v : Slot) (t : Track) (p : FwdPkt) (m : Nat) : Slot × Option Nat :=
  let mine := p.enc == t.encOf (if v.state = 2 then v.curS else v.wantS)
  let want := if t.layering = 2 then (p.enc, v.wantT) else (v.wantS, v.wantT)
  if v.pinMode = 3 && v.state ≠ 4 && mine then ({ v with state := 4, pendLayer := none, holdFrom := none }, none)
  else if v.media = 0 || v.state = 3 || v.state = 4 || v.state = 5 then (v, none)
  else if v.state = 1 then
    if p.key && p.start && mine then (({ v with cut := false }).take (cutLayer want (p.dec.getD (0, 0))), some 3) else (v, none)
  else if v.state = 6 then
    match p.dec with
    | some d => if mine then (({ v with cut := false }).take (cutLayer want d), some 2) else (v, none)
    | none => (v, none)
  else if mine && v.wantPause then ({ v with state := 3, pendLayer := none, holdFrom := none }, some 0)
  else if mine && p.dec.isNone then
    match t.lowerEnc (v.curS, v.curT) with
    | some x => ({ v with cut := true, pendLayer := some (x.1, x.2, m) }, none)
    | none => ({ v with state := 6, cut := false, pendLayer := none }, some 2)
  else
    let cur := (v.curS, v.curT)
    let d := if t.layering = 2 then (v.curS, (p.dec.getD (2, 2)).2) else p.dec.getD (2, 2)
    let low := if mine then cutLayer cur d else cur
    if low ≠ cur then (({ v with cut := true }).take low, some 2)
    else if v.cut && mine && t.layering ≠ 2 && cutLayer (v.wantS, v.wantT) d = (v.wantS, v.wantT) && (v.wantS, v.wantT) ≠ cur then
      (({ v with cut := false }).take (v.wantS, v.wantT), some 2)
    else if v.cut && t.layering = 2 && v.curS < v.wantS && p.key && p.enc = v.wantS then
      (({ v with cut := false }).take (v.wantS, v.wantT), some 2)
    else match v.pendLayer with
      | some (a, b, _) =>
        if switchHere t.layering cur (a, b) p then (v.take (a, b), some (if v.pinMode = 2 then 1 else 0)) else (v, none)
      | none => (v, none)

/-! ## Which packets a slot forwards (R161, R175, R179) -/

/-- Is the packet part of the layer that the slot forwards, and decodable? -/
def Slot.includes (v : Slot) (t : Track) (p : FwdPkt) : Bool :=
  v.state == 2 &&
  (if v.media = 0 then true
   else match p.dec with
     | none => false
     | some d =>
       let curT := if t.layering = 2 && v.pendLayer.any (fun x => decide (x.1 < v.curS)) then 0 else v.curT
       if t.layering = 2 then p.enc == v.curS && decide (p.t ≤ min curT d.2)
       else decide (p.s ≤ min v.curS d.1) && decide (p.t ≤ min curT d.2))

/-- The priority of a copy (R162). -/
def copyPrio (t : Track) (p : FwdPkt) : Nat :=
  if p.media = 0 then 2
  else if t.layering = 0 then 1
  else if p.t = 0 && (t.layering = 2 || p.s = 0) then 1 else 0

/-! ## Numbers (R168) -/

/-- What renumbering does with a source packet. -/
inductive Numbered where
  /-- forwarded with this outbound index -/
  | out (idx : Nat)
  /-- a padding-only packet fills this reserved index -/
  | pad (idx : Nat)
  | nothing
  | late
  | jump (idx : Option Nat)

/-- Renumber one source packet: the stream after it, and what is sent. While the receiver is not live the record follows the
source, and no number is reserved or taken (R175). -/
def Stream.number (x : Stream) (enc seq : Nat) (fwd live : Bool) : Stream × Numbered :=
  let x := if x.hiEnc = enc then x else { x with hi := none, hiEnc := enc, reserved := [] }
  let h := x.hi.getD ((seq + 65535) % 65536)
  let d := seqDiff seq h
  if d ≤ 0 then
    if d ≤ -1024 then (x, if live then .late else .nothing)
    else match x.reserved.find? fun r => r.1 == seq with
      | some (_, idx) =>
        if !live then (x, .nothing)
        else ({ x with reserved := x.reserved.filter fun r => r.1 ≠ seq }, if fwd then .out idx else .pad idx)
      | none => (x, .nothing)
  else
    let d := d.toNat
    let x := { x with hi := some seq }
    if !live then (x, .nothing)
    else if 1024 < d then
      let x := { x with reserved := [] }
      if fwd then ({ x with next := x.next + 1 }, .jump (some x.next)) else (x, .jump none)
    else
      let gap := (List.range (d - 1)).map fun k => ((h + k + 1) % 65536, x.next + k)
      let old := x.reserved.filter fun r => decide (seqDiff seq r.1 < 1024)
      let x := { x with reserved := old ++ gap.filter (fun r => decide (seqDiff seq r.1 < 1024)), next := x.next + (d - 1) }
      if fwd then ({ x with next := x.next + 1 }, .out x.next) else (x, .nothing)

/-! ## The copy (R169, R170) -/

/-- The RTP clock of a codec (R169). -/
def clockOf (media codec : Nat) : Nat := if media ≠ 0 then 90000 else if codec = 0 then 48000 else 8000

/-- Timestamp offset of a packet from its source on a stream (R169): at creation the drawn start, at a re-point the last
outbound timestamp plus the time between the arrivals at the clock rate, and at least 1. -/
def Stream.offset (x : Stream) (clock ts stamp : Nat) : Nat :=
  match x.tsOff with
  | some o => if x.repoint then (x.lastTs + max 1 ((stamp - x.lastArr) * clock / secU) + 2 ^ 32 - ts % 2 ^ 32) % 2 ^ 32 else o
  | none => (x.lastTs + 2 ^ 32 - ts % 2 ^ 32) % 2 ^ 32

/-- An index offset that makes the next value continue the last by 1 in `w` values (R170). -/
def contOff (last : Option Nat) (v w : Nat) : Nat := (last.map fun l => (l + 1 + w - v % w) % w).getD 0

/-- Frame number, TL0PICIDX and PictureID that a packet shows (R170). -/
def picIndices (l : FwdPol) (r : Rtp) : Option Nat × Option Nat × Option Nat :=
  let f := match (extBy l.idDd r.exts).map (·.val) with
    | some (.depDesc n _ _ _ _ _ _ _ _ _) => some n
    | _ => none
  let tl := match (extBy l.idFm r.exts).map (·.val) with
    | some (.frameMark _ _ _ _ _ _ x) => x
    | _ => none
  match r.codec with
  | .vp8 _ _ tl0 pic _ => (f, some tl0, some pic)
  | _ => (f, tl, none)

/-- The stream ready for its next copy: offsets set at creation and at a re-point (R169, R170). -/
def Stream.begin_ (x : Stream) (src : Option FwdPol) (clock : Nat) (p : FwdPkt) : Stream :=
  let off := x.offset clock p.rtp.ts p.stamp
  let x' := { x with tsOff := some off }
  if !x.repoint then x'
  else match src.map fun l => picIndices l p.rtp with
    | some (f, t0, pc) => { x' with
        ddOff := (f.map fun v => contOff x.lastFrame v 65536).getD x.ddOff
        tl0Off := (t0.map fun v => contOff x.lastTl0 v 256).getD x.tl0Off
        picOff := (pc.map fun v => contOff x.lastPic v 32768).getD x.picOff }
    | none => x'

/-- The elements of a copy (R170): those that the receiver's map names, with its IDs. `dd` is the length of the source's last
extended descriptor and `sel` the selected layer, whose decode targets the first descriptor of a new selection marks active; the absolute send time is written at encryption. -/
def copyExts (src : Option FwdPol) (pol : FwdPol) (x : Stream) (sel : Nat × Nat) (dd tw : Nat) (r : Rtp) : List ExtElem :=
  let by_ := fun id : FwdPol → Nat => src.bind fun l => extBy (id l) r.exts
  let lvl := match by_ fun l => l.idLevel with
    | some e => [{ e with id := pol.idLevel, len := 1 }]
    | none => []
  let fm := match by_ fun l => l.idFm with
    | some ⟨_, n, .frameMark a b c d e f t⟩ => [⟨pol.idFm, n, .frameMark a b c d e f (t.map fun v => (v + x.tl0Off) % 256)⟩]
    | _ => []
  let de := match by_ fun l => l.idDd with
    | some ⟨_, n, .depDesc f s t k a b sw ch ext act⟩ =>
      [⟨pol.idDd, if ext then n else if x.fresh then dd else 3, .depDesc ((f + x.ddOff) % 65536) s t k a b sw ch (ext || x.fresh)
        (if x.fresh then some sel else act)⟩]
    | _ => []
  (if pol.idLevel ≠ 0 then lvl else []) ++ (if pol.idTwSeq ≠ 0 then [⟨pol.idTwSeq, 2, .twSeq tw⟩] else []) ++
    (if pol.idDd ≠ 0 then de else []) ++ (if pol.idFm ≠ 0 then fm else []) ++ (if pol.idAst ≠ 0 then [⟨pol.idAst, 3, .absSend 0⟩] else [])

/-- The payload of a copy with its picture indices moved (R170). -/
def copyCodec (x : Stream) (c : CodecInfo) : CodecInfo :=
  match c with
  | .vp8 tid y tl0 pic key => .vp8 tid y ((tl0 + x.tl0Off) % 256) ((pic + x.picOff) % 32768) key
  | c => c

/-- The marker of a copy (R169). -/
def copyMarker (v : Slot) (t : Track) (p : FwdPkt) : Bool :=
  if v.media = 0 then p.rtp.marker || v.stream.repoint
  else p.rtp.marker || (t.layering == 1 && p.fin && p.s == v.curS && decide (v.curS < 2))

/-- The copy of a packet with an outbound index. -/
def makeCopy (leg k : Nat) (l : Leg) (v : Slot) (t : Track) (src : Option FwdPol) (dd idx : Nat) (p : FwdPkt) : OutPkt :=
  let x := v.stream
  { leg := leg, slot := some k, prio := copyPrio t p, ssrc := v.outSsrc, seq := idx % 65536, roc := idx / 65536
    ts := (p.rtp.ts + x.tsOff.getD 0) % 2 ^ 32, pt := v.outPt, marker := copyMarker v t p, csrc := p.rtp.csrc
    exts := fitExts l.pol.twoByteOk (copyExts src l.pol x (v.curS, v.curT) dd l.est.twNext p.rtp)
    payloadLen := p.rtp.payloadLen - p.rtp.padding, codec := copyCodec x p.rtp.codec
    src := match p.src with
      | .track n _ k => some (n, k, p.enc, p.seq)
      | .job j => some (65536 + j, 0, p.enc, p.seq) }

/-- The stream after a copy: the newest copy is what a re-point continues from; the copy enters the retransmission index
(R176). -/
def Stream.after (x : Stream) (src : Option FwdPol) (p : FwdPkt) (o : OutPkt) : Stream :=
  let e : RtxEntry := { seq := o.seq, enc := p.enc, srcSeq := p.seq, pkt := o }
  let idx := (x.index.filter fun y => y.seq ≠ o.seq) ++ [e]
  let x : Stream := { x with sent := true, fresh := false, repoint := false, index := idx.drop (idx.length - 1024) }
  if x.hi = some p.seq then
    match src.map fun l => picIndices l p.rtp with
    | some (f, t0, pc) => { x with
        lastTs := o.ts, lastArr := p.stamp
        lastFrame := (f.map fun v => (v + x.ddOff) % 65536).orElse fun _ => x.lastFrame
        lastTl0 := (t0.map fun v => (v + x.tl0Off) % 256).orElse fun _ => x.lastTl0
        lastPic := (pc.map fun v => (v + x.picOff) % 32768).orElse fun _ => x.lastPic }
    | none => { x with lastTs := o.ts, lastArr := p.stamp }
  else x

/-- The leg counter of transport-wide numbers advances with every packet that carries one (R170). -/
def Leg.tookTw (l : Leg) : Leg := if l.pol.idTwSeq = 0 then l else { l with est := { l.est with twNext := (l.est.twNext + 1) % 65536 } }

/-! ## Fan-out (R174, R175) -/

/-- The map by which an encode job names the elements of its own packets (R154, R239). -/
def jobPol : FwdPol := { idDd := 1, idFm := 2 }

/-- The extension map of a packet's source. -/
def State.srcPol (s : State) (src : SlotSrc) : Option FwdPol :=
  match src with
  | .track n _ _ => (s.leg n).map (·.pol)
  | .job _ => some jobPol

/-- Is the slot's pending re-point made at this packet (R182)? -/
def Slot.repointHere (v : Slot) (t : Track) (p : FwdPkt) : Bool :=
  v.pendSrc.any (fun q => q.1 == p.src) && (v.media == 0 || (p.key && p.start && p.enc == t.encOf v.wantS))

/-- A slot re-pointed at its first packet or key picture (R182); one that waited returns to its encode job without FALLBACK (R417). -/
def Slot.repointed (v : Slot) (p : FwdPkt) : Slot :=
  let back := match p.src with
    | .job _ => true
    | .track _ _ _ => false
  let v := { v with src := p.src, pendSrc := none, pendLayer := none, cut := false, fallback := v.fallback && !back
                    homeJob := if back then none else v.homeJob
                    stream := { v.stream with hi := none, reserved := [], repoint := true, fresh := true } }
  if v.state = 2 then v.take (v.wantS, v.wantT) else v

/-- One fan-out decision: slot `k` of leg `n` and a packet of track `t`. -/
def State.decide_ (s : State) (n k : Nat) (t : Track) (p : FwdPkt) : State :=
  match s.leg n, (s.leg n).bind fun l => tget l.slots k with
  | some l, some v =>
    let live := l.state == 1
    let was := (v.curS, v.curT)
    let moved := v.repointHere t p
    let v := if moved then v.repointed p else v
    if v.src ≠ p.src || v.state = 5 then s
    else
      let r := if p.start then v.frameStart t p s.time.m else (v, none)
      let v := r.1
      let s := s.modSlot n k fun _ => v
      let s := match r.2 with
        | some cause => s.layerEvent n k cause
        | none => if moved && was ≠ (v.curS, v.curT) then s.layerEvent n k 0 else s
      if t.layering = 2 && p.enc ≠ t.encOf (if v.state = 2 then v.curS else v.wantS) then s
      else
        let inc := v.includes t p
        let shed := s.prot.shedding && inc && live && copyPrio t p == 0
        let s := if shed then s.occur srcHubShed (s.occLeg n) else s
        let q := v.stream.number p.enc p.seq (inc && !shed) live
        let v := { v with stream := q.1 }
        let src := s.srcPol p.src
        let dd := ((t.encs[p.enc]?).map (·.ddLen)).getD 3
        let copy := fun (s : State) (idx : Nat) =>
          let v := { v with stream := v.stream.begin_ src (clockOf p.media t.codec) p }
          let o := makeCopy n k l v t src dd idx p
          let v := { v with stream := v.stream.after src p o }
          (s.modLeg n fun l => (l.modSlot k fun _ => v).tookTw).pushOut o
        let keep := fun s : State => s.modSlot n k fun _ => v
        match q.2 with
        | .out idx => copy s idx
        | .jump (some idx) => copy (s.occur srcFwdSeqJump (s.occLeg n)) idx
        | .jump none => keep (s.occur srcFwdSeqJump (s.occLeg n))
        | .late => keep (s.occur srcFwdTooLate (s.occLeg n))
        | .nothing => keep s
        | .pad idx =>
          let o : OutPkt := { leg := n, slot := some k, prio := 0, ssrc := v.outSsrc, seq := idx % 65536, roc := idx / 65536,
                              ts := v.stream.lastTs, pt := v.outPt, pad := true, payloadLen := 255,
                              exts := fitExts l.pol.twoByteOk (copyExts none l.pol v.stream (v.curS, v.curT) 3 l.est.twNext p.rtp) }
          ((keep s).modLeg n Leg.tookTw).pushOut o
  | _, _ => s

/-- The fan-out list of a source, in ascending order of receiving leg (R174). -/
def State.fanout (s : State) (src : SlotSrc) : List (Nat × Nat) :=
  s.legs.flatMap fun x => (x.2.slots.filter fun v => v.2.src == src || v.2.pendSrc.any fun q => q.1 == src).map fun v => (x.1, v.1)

/-- FORWARD_PACKET: the packet at the head is fanned out under the list in force (R174, R181); it never goes back to the leg
that sent it. An enqueue may meet an error of the leg queue store (R145), which comes first. -/
def doForwardPacket (err : Option LqErr) (s : State) : State :=
  let s := s.metLq err
  match s.fwdQ with
  | [] => s
  | p :: rest =>
    let s := { s with fwdQ := rest }
    let own := match p.src with
      | .track n _ _ => some n
      | .job _ => none
    match s.srcTrack p.src with
    | none => s
    | some t => (s.fanout p.src).foldl (fun s x => if some x.1 = own then s else s.decide_ x.1 x.2 t p) s

/-! ## Retransmission (R176) -/

/-- Is the source packet of a copy still in the Hamper? -/
def State.inHamper (s : State) (o : OutPkt) : Bool :=
  match o.src with
  | none => false
  | some (n, k, e, q) =>
    let t := if n < 65536 then (s.leg n).bind fun l => tget l.tracks k else tget s.jobTracks (n - 65536)
    (t.bind fun t => t.encs[e]?).any fun x => (x.stored q s.time.m).isSome

/-- One number of a receiver's NACK on slot `k` of leg `n` (R176). -/
def State.retransmit (s : State) (n k seq : Nat) : State :=
  match s.leg n, (s.leg n).bind fun l => tget l.slots k with
  | some l, some v =>
    let o := s.occOn (.legControl n) (s.occLeg n)
    let m := s.time.m
    if v.outRtx = 0 then s.occur srcNackNoRtx o
    else match v.stream.index.find? fun e => e.seq == seq with
      | none => s.occur srcNackMiss o
      | some e =>
        let newest := (v.stream.next + 65535) % 65536
        if 1024 ≤ seqDiff newest seq || !s.inHamper e.pkt then s.occur srcNackMiss o
        else if e.last.any fun t => decide (m < t + l.nackGap) then s.occur srcNackIgnored o
        else
          let q := v.stream.rtxNext
          let exts := e.pkt.exts.map fun x => match x.val with
            | .twSeq _ => { x with val := .twSeq l.est.twNext }
            | _ => x
          let pkt := { e.pkt with prio := 0, ssrc := v.outRtx, pt := v.outRtxPt, seq := q % 65536, roc := q / 65536, osn := some seq, exts := exts }
          let mark := fun y : RtxEntry => if y.seq = seq then { y with last := some m } else y
          (s.modLeg n fun l => (l.modSlot k fun v => { v with stream := { v.stream with
            rtxNext := q + 1, rtxSent := true, index := v.stream.index.map mark } }).tookTw).pushOut pkt
  | _, _ => s

/-! ## The meanings -/

/-- The meaning of FORWARD_PACKET (R174). -/
def execForwardPacket (err : Option LqErr) (s : State) : Host.Outcome State Fault Refusal :=
  answer (Instr.forwardPacket err).wf (doForwardPacket err s)

end Sys2Proof.Machine
end

