-- ==== Sys2Proof/Machine/Samples.lean ====
section
/-! DEFINITION. Sample arithmetic of Campfire (R189, R192, R196, R198 to R200): levels, ramps, crossfades and mixes. -/

namespace Sys2Proof.Machine

/-! ## Rounding and limits (R189, R286) -/

/-- p / q rounded half up, for q > 0. -/
def roundDiv (p : Int) (q : Nat) : Int := (2 * p + q) / (2 * q : Nat)

/-- A sample within the range of R189. -/
def satSample (x : Int) : Int := max (-8388608) (min 8388607 x)

/-- Samples outside the range of R189. -/
def clipped (l : List Int) : Nat := (l.filter fun x => decide (satSample x ≠ x)).length

/-- A block of exactly 48 samples. -/
def block48 (l : List Int) : List Int := (List.range 48).map fun k => l.getD k 0

/-- Silence. -/
def silence : List Int := List.replicate 48 0

/-! ## Levels (R192, R196) -/

/-- Sum of the squares of samples. -/
def energy (l : List Int) : Nat := (l.map fun x => x.natAbs * x.natAbs).sum

/-- The greatest number below 2^`n` above `e`, in steps of bits from the top, that satisfies `ok`. -/
def searchBits (ok : Nat → Bool) (e : Nat) : Nat → Nat
  | 0 => e
  | n + 1 => searchBits ok (if ok (e + 2 ^ n) then e + 2 ^ n else e) n

/-- 10 × log10 of the mean square of a block, in hundredths of dBov rounded down (log entry 33); −160 dBov for silence. The
greatest E with 10^(E/1000) at most the mean square. -/
def levelDb (l : List Int) : Int :=
  let a := energy l ^ 1000 * 10 ^ 16000
  let b := (l.length * 2 ^ 46) ^ 1000
  if energy l = 0 then -16000 else (searchBits (fun e => decide (10 ^ e * b ≤ a)) 0 14 : Int) - 16000

/-- u of a block (R192): 127 plus its level rounded, within 0 to 127. -/
def blockU (l : List Int) : Nat := (max 0 (min 127 (127 + (levelDb l + 50) / 100))).toNat

/-- U after a new u, both in 1/1024 dB (R192, log entry 12). -/
def stepU (u new : Nat) : Nat := if u < new then u + (new - u) / 4 else u - (u - new) / 16

/-! ## Ramps (R198) -/

/-- The raised-cosine ramp w[0] to w[47]. -/
def rampTable : List Nat := [35, 140, 315, 558, 869, 1247, 1690, 2195, 2761, 3386, 4066, 4799, 5581, 6410, 7282, 8192,
  9138, 10114, 11118, 12144, 13188, 14245, 15312, 16384, 17456, 18523, 19580, 20624, 21650, 22654, 23630, 24576,
  25486, 26358, 27187, 27969, 28702, 29382, 30007, 30573, 31078, 31521, 31899, 32210, 32453, 32628, 32733, 32768]

/-- w[k]. -/
def rampAt (k : Nat) : Nat := rampTable.getD k 32768

/-- The crossfade of two blocks. -/
def xfade (old new : List Int) : List Int :=
  (List.range 48).map fun k => roundDiv (old.getD k 0 * (32768 - rampAt k : Nat) + new.getD k 0 * rampAt k) 32768

/-- A concealment block: the block with the ramp-out weights (R211). -/
def fadeOut (l : List Int) : List Int := xfade l silence
/-- The first good block after one: it enters with the ramp-in weights (R211). -/
def fadeIn (l : List Int) : List Int := xfade silence l

/-! ## Mixes (R198 to R200) -/

/-- An input of a mix: its ramp (0 steady, 1 in, 2 out) and its block. -/
abbrev MixIn : Type := Nat × List Int

/-- The weight of an input at sample `k`. -/
def mixWeight (ramp k : Nat) : Nat := if ramp = 1 then rampAt k else if ramp = 2 then 32768 - rampAt k else 32768

/-- P and W at sample `k` (R199). -/
def mixSum (ins : List MixIn) (k : Nat) : Int := (ins.map fun i => i.2.getD k 0 * (mixWeight i.1 k : Int)).sum
def mixTotal (ins : List MixIn) (k : Nat) : Nat := (ins.map fun i => mixWeight i.1 k).sum

/-- The mix under the scale 1/n (R199). -/
def mixEven (ins : List MixIn) : List Int :=
  (List.range 48).map fun k => if mixTotal ins k = 0 then 0 else roundDiv (mixSum ins k) (mixTotal ins k)

/-- The coefficients g(n) (R200). -/
def rootCoef (n : Nat) : Nat := [0, 0x800000, 0x5A827A, 0x49E69D, 0x400000, 0x393E4C, 0x34417B, 0x306124, 0x2D413D].getD n 0x2D413D

/-- c_k (R200). -/
def coefAt (old new k : Nat) : Int := old + roundDiv (((new : Int) - old) * (k + 1)) 48

/-- The inputs that a signal holds at the end of the tick. -/
def mixCount (ins : List MixIn) : Nat := (ins.filter fun i => i.1 ≠ 2).length

/-- The mix under the scale 1/√n before saturation (R200): silent where it holds no input. -/
def mixRoot (old : Nat) (ins : List MixIn) : List Int :=
  let n := mixCount ins
  (List.range 48).map fun k => if n = 0 then 0 else roundDiv (mixSum ins k * coefAt old (rootCoef n) k) (2 ^ 38)

/-- A signal of the mix under a scale: its samples, and how many saturated (R199, R200). -/
def mixScaled (scale : Bool) (old : Nat) (ins : List MixIn) : List Int × Nat :=
  if scale then ((mixRoot old ins).map satSample, clipped (mixRoot old ins)) else (mixEven ins, 0)

/-- A signal in a tick in which the scale may change (R210): the crossfade of the results under both scales. -/
def mixSignal (was now : Bool) (old : Nat) (ins : List MixIn) : List Int × Nat :=
  let r := mixScaled now old ins
  if was = now then r else (xfade (mixScaled was old ins).1 r.1, r.2)

/-- The coefficient that a signal of `n` inputs leaves (R200): that of an empty signal stays as it was. -/
def coefAfter (old n : Nat) : Nat := if n = 0 then old else rootCoef n

end Sys2Proof.Machine
end

