-- ==== Sys2Proof/Machine/Audio.lean ====
section
/-! DEFINITION. Campfire at work (R189 to R215): jitter buffers, loudness, candidates, voice, the active set, the mix,
encoding, cascade contributions and detection. -/

namespace Sys2Proof.Machine

abbrev evAudTalkers : Nat := 0x0901
abbrev evAudDtmf : Nat := 0x0902
abbrev evAudHowl : Nat := 0x0903
abbrev evAudVad : Nat := 0x0904
abbrev evAudStageFault : Nat := 0x0905
abbrev evAudCascLate : Nat := 0x0906

/-- Change the input of a leg. -/
def State.modIn (s : State) (leg : Nat) (g : AudIn → AudIn) : State := s.modAud leg fun a => { a with inp := g a.inp }
/-- Change the detectors of a leg. -/
def State.modDet (s : State) (leg : Nat) (g : AudDet → AudDet) : State := s.modAud leg fun a => { a with det := g a.det }

/-! ## The jitter buffer (R191) -/

/-- Signed difference of two timestamps. -/
def tsDiff (a b : Nat) : Int := tickDiff a b

/-- The first tick from `t` on that has the phase of object `n` for frames of `len` ticks (R104). -/
def phaseFrom (len n t : Nat) : Nat := t + (n % len + len - t % len) % len

/-- Ticks of one frame, from two timestamps in a row: kept where they do not lie 1 to 60 ms apart (log entry 34). -/
def Jb.frameFrom (b : Jb) (ts clock : Nat) : Nat :=
  match b.lastTs with
  | some t =>
    let d := tsDiff ts t * 1000 / clock
    if 1 ≤ d && d ≤ 60 then d.toNat else b.frameMs
  | none => b.frameMs

/-- The buffer with its anchor: the first packet sets it, at the leg's phase and at least JIT_TARGET ticks after its own. -/
def Jb.anchored (b : Jb) (leg jit tick ts : Nat) : Jb :=
  if b.anchor.isSome then b else { b with anchor := some (phaseFrom b.frameMs leg (tick + jit), ts) }

/-- The playout tick of a timestamp. -/
def Jb.playAt (b : Jb) (ts clock : Nat) : Int :=
  match b.anchor with
  | some (t, a) => (t : Int) + tsDiff ts a * 1000 / clock
  | none => 0

/-- What becomes of a packet in the jitter buffer: kept, late or early (R191). -/
inductive JbFate where
  | kept | late | early

/-- A packet of the input track enters the jitter buffer; `tick` is the one it belongs to (R15, R191). -/
def Jb.insert (b : Jb) (leg jit clock m tick : Nat) (vBit : Bool) (p : Rtp) : Jb × JbFate :=
  let b := { b with frameMs := b.frameFrom p.ts clock, lastTs := some p.ts, arrivals := b.arrivals + 1 }
  let b := b.anchored leg jit tick p.ts
  let play : Int := b.playAt p.ts clock
  let b := { b with early := b.early && decide (((tick + jit + b.frameMs : Nat) : Int) ≤ play) }
  if play ≤ (m : Int) then ({ b with late := b.late + 1 }, .late)
  else if (m : Int) + 500 < play then (b, .early)
  else if b.frames.any fun f => f.ts == p.ts then (b, .kept)
  else ({ b with frames := insertBy (fun x y => decide (x.play < y.play)) ⟨play.toNat, p.ts, vBit, p⟩ b.frames }, .kept)

/-- The audio level of a packet, where the leg maps it (R153, R192). -/
def Leg.levelOf (l : Leg) (p : Rtp) : Option (Nat × Bool) :=
  let v : Option ExtVal := (extBy l.pol.idLevel p.exts).map (·.val)
  match v with
  | some (.level v b) => some (v, b)
  | _ => none

/-- An audio packet of the input track of a feeding leg (R191, R192). -/
def State.audioIn (s : State) (leg codec tick : Nat) (p : Rtp) : State :=
  match s.leg leg with
  | none => s
  | some l =>
    let lv := l.levelOf p
    let r := l.aud.inp.jb.insert leg l.aud.cfg.jit (clockOf 0 codec) s.time.m tick ((lv.map (·.2)).getD false) p
    let lvls := (lv.map fun x => (tick, (127 - x.1) * 1024)).toList
    let s := s.modIn leg fun i => { i with jb := r.1, lastPkt := some tick, pendU := i.pendU ++ lvls }
    match r.2 with
    | .kept => s
    | .late => s.occur srcJbLate (s.occOn (.legAudio leg) (s.occLeg leg))
    | .early => s.occur srcJbEarly (s.occOn (.legAudio leg) (s.occLeg leg))

/-- The decision at the end of a window (R191): one frame later, one frame earlier, or none. -/
def Jb.decide_ (b : Jb) : Option Bool :=
  if 2 ≤ b.late then some true else if b.early && 0 < b.arrivals then some false else none

/-- The anchor one frame later, with a gap; or one frame earlier, with a frame dropped (R191). -/
def Jb.shift (b : Jb) (later : Bool) : Jb :=
  let n := b.frameMs
  let mv := fun t : Nat => if later then t + n else t - n
  { b with anchor := b.anchor.map fun x => (mv x.1, x.2), move := none
           frames := (if later then b.frames else b.frames.drop 1).map fun f => { f with play := mv f.play } }

/-- JB_REANCHOR: the window of 2,000 ms closes, and the anchor moves at the next frame without voice, or 2,000 ms later
(R191). -/
def doJbReanchor (leg : Nat) (s : State) : State :=
  match s.leg leg with
  | none => s
  | some l =>
    if !l.cfg.feeds then s
    else
      let m := s.time.m
      let b := l.aud.inp.jb
      let b := if b.move.isNone && b.windowStart + 2000 ≤ m then
          { b with move := b.decide_.map fun x => (x, m + 2000), windowStart := m, late := 0, arrivals := 0, early := true }
        else b
      match b.move with
      | some (later, by_) =>
        if !l.aud.inp.vad || by_ ≤ m then (s.modIn leg fun i => { i with jb := b.shift later }).occur srcJbReanchor (s.occOn (.legAudio leg) (s.occLeg leg))
        else s.modIn leg fun i => { i with jb := b }
      | none => s.modIn leg fun i => { i with jb := b }

/-- LOUDNESS_RESET: the leg has sent no packet for 60 ms (R192). -/
def doLoudnessReset (leg : Nat) (s : State) : State :=
  match s.leg leg with
  | none => s
  | some l => if l.aud.inp.lastPkt.any fun t => decide (s.time.m < t + 60) then s else s.modIn leg fun i => { i with u := 0, pendU := [] }

/-! ## Decoding (R191, R194, R196) -/

/-- The buffer at tick `m`: the frame that falls due is taken up by a candidate's decoder, or discarded; a decoder whose leg
is no candidate stops after its frame (R191, R194). -/
def Jb.play (b : Jb) (cand : Bool) (m : Nat) : Jb :=
  let rest := b.frames.filter fun f => !decide (f.play ≤ m)
  match (b.frames.filter fun f => decide (f.play ≤ m)).getLast? with
  | some f => { b with frames := rest, running := cand, curEnd := f.play + b.frameMs, vBit := f.vBit, concealRun := 0 }
  | none => if b.running && !cand && b.curEnd ≤ m then { b with running := false } else b

/-- Is a frame playing at tick `m`? -/
def Jb.covered (b : Jb) (m : Nat) : Bool := decide (m < b.curEnd)

/-- Post EV_AUD_VAD at a change, at most once per 100 ticks (R196). -/
def State.vadEvent (s : State) (leg : Nat) : State :=
  match s.leg leg with
  | none => s
  | some l =>
    let i := l.aud.inp
    if !l.aud.cfg.vadEv || i.vad == i.vadPosted || i.vadEvTick.any (fun t => decide (s.time.m < t + 100)) then s
    else (s.modIn leg fun i => { i with vadPosted := i.vad, vadEvTick := some s.time.m }).postLeg leg { code := evAudVad, d0 := b2n i.vad }

/-- The loudness and the voice of the block just decoded (R192, R196): after the input stages (R206). -/
def State.heard (s : State) (leg : Nat) : State :=
  match s.leg leg with
  | none => s
  | some l =>
    let i := l.aud.inp
    let x := i.cur.samples
    let e := levelDb x
    let n := if e < i.noise then e else i.noise + 5
    let silent := decide (60 < i.jb.concealRun)
    let v := !silent && ((decide (n + 900 ≤ e) && decide (-6000 ≤ e)) || (l.aware && i.jb.vBit))
    let put := fun i : AudIn => { i with
      noise := n, vad := v, cur := { i.cur with vad := v }
      pendU := if l.aware then i.pendU else i.pendU ++ [(s.time.m, blockU x * 1024)] }
    (s.modIn leg put).vadEvent leg

/-! ### DTMF tones (R204) -/

/-- A pause of 40 ms has not passed since the same digit. -/
def AudDet.tooSoon (d : AudDet) (k m : Nat) : Bool := d.toneDone.any fun x => x.1 == k && decide (m < x.2 + 41)

/-- One block with or without a digit's tones: a digit is accepted once its pair has lasted 40 ms. -/
def AudDet.hear (d : AudDet) (tone : Option Nat) (m : Nat) : AudDet :=
  let kept := d.tones.filter fun t => t.accepted || t.last + 1 == m
  match tone with
  | none => { d with tones := kept.filter fun t => t.accepted }
  | some k =>
    if kept.any fun t => t.digit == k && decide (m < t.last + 21) then
      { d with tones := kept.map fun t => if t.digit = k then { t with last := m, accepted := t.accepted || decide (t.start + 39 ≤ m) } else t }
    else if d.tooSoon k m then { d with tones := kept }
    else { d with tones := kept ++ [⟨k, m, m, false⟩] }

/-- Is the input kept out of the mix by DTMF_MUTE (R204)? -/
def Aud.muted (a : Aud) (m : Nat) : Bool := a.cfg.dtmfMute && (a.det.tones.any (·.accepted) || decide (m < a.det.muteUntil))

/-- Is an attachment at work in tick `m`: attached before it, and not yet detached and faded (R208)? -/
def StageAtt.live (a : StageAtt) (m : Nat) : Bool := decide (a.at_ < m) && !a.until_.any fun e => decide (e + 1 < m)

/-- The attachments at work at a point of an object in this tick: those that fade out first. -/
def State.stagesAt (s : State) (point obj : Nat) : List StageAtt :=
  (s.stageGone ++ s.stageAtts).filter fun a => a.point == point && a.obj == obj && a.live s.time.m

/-- AUDIO_DECODE: the leg's jitter buffer at this tick: a decoding leg's block is decoded, or concealed for at most 60 ms
(R191, R194); the block goes on to the input stages, loudness, voice and detection. -/
def doAudioDecode (leg : Nat) (blk : AudioBlock) (s : State) : State :=
  match s.leg leg with
  | none => s
  | some l =>
    let m := s.time.m
    let i := l.aud.inp
    if !l.cfg.feeds || i.cur.tick = some m || s.stoppedFlow (.legAudio leg) then s
    else
      let b := i.jb.play i.cand m
      if !b.running then (s.modIn leg fun i => { i with jb := b, vad := false }).vadEvent leg
      else
        let b := if b.covered m then b else { b with concealRun := b.concealRun + 1 }
        let x := if b.concealRun ≤ 60 then (block48 blk.samples).map satSample else silence
        let s := s.modIn leg fun i => { i with jb := b, prev := i.cur, cur := { tick := some m, samples := x } }
        let s := if l.aud.cfg.dtmfInband then s.modDet leg fun d => d.hear blk.tone m else s
        if (s.stagesAt 0 leg).isEmpty then s.heard leg else s

/-! ## Candidates (R193) -/

/-- The levels of packets and blocks of earlier ticks taken into U. -/
def AudIn.foldU (i : AudIn) (m : Nat) : AudIn :=
  { i with u := (i.pendU.filter fun x => decide (x.1 < m)).foldl (fun u x => stepU u x.2) i.u, pendU := i.pendU.filter fun x => !decide (x.1 < m) }

/-- The feeding legs of a conference, in ascending order. -/
def State.feeders (s : State) (conf : Nat) : List (Nat × Leg) := s.legs.filter fun x => x.2.feedsConf conf

/-- Is a feeding leg eligible (R193, R205)? -/
def Leg.mayFeed (l : Leg) : Bool := l.cfg.feeds && l.state == 1 && !l.aud.cfg.inMute && !(l.aud.det.howlOn && l.aud.cfg.howlAct)

/-- A leg becomes a candidate, its decoder reset, or is one no more (R194). -/
def State.setCand (s : State) (leg : Nat) (on : Bool) : State :=
  s.modIn leg fun i => { i with cand := on, loud := if on then s.time.m else i.loud, jb := if on then { i.jb with running := false } else i.jb }

/-- The first part of the selection for one leg: eligibility, level-blind legs, and candidates that have been silent. -/
def State.candOne (s : State) (p : MixPol) (x : Nat × Leg) : State :=
  let i := x.2.aud.inp
  if !x.2.mayFeed then (if i.cand then s.setCand x.1 false else s)
  else if !x.2.aware then (if i.cand then s else s.setCand x.1 true)
  else if !i.cand then s
  else
    let loud := if (127 - p.floor) * 1024 ≤ i.u then s.time.m else i.loud
    if loud + p.candHold ≤ s.time.m then s.setCand x.1 false else s.modIn x.1 fun i => { i with loud := loud }

/-- U of a leg. -/
def State.uOf (s : State) (leg : Nat) : Nat := ((s.leg leg).map (·.aud.inp.u)).getD 0

/-- The one with the lowest U, the highest leg ID on a tie. -/
def State.quietest (s : State) (legs : List Nat) : Option Nat := bestBy (fun n => 2 ^ 20 - s.uOf n) legs.reverse

/-- The selection of candidates of a conference (R193). -/
def State.candidatesOf (s : State) (conf : Nat) (c : Conf) : State :=
  let s := (s.feeders conf).foldl (fun s x => s.candOne c.pol x) s
  let fs := (s.feeders conf).filter fun x => x.2.aware
  let ins := (fs.filter fun x => x.2.aud.inp.cand).map (·.1)
  match bestBy s.uOf ((fs.filter fun x => x.2.mayFeed && !x.2.aud.inp.cand).map (·.1)) with
  | none => s
  | some x =>
    if s.uOf x < (127 - c.pol.floor) * 1024 then s
    else if ins.length < c.pol.candMax then s.setCand x true
    else match s.quietest (ins.filter fun n => !c.active.any fun a => a.leg == n && a.ramp ≠ 2) with
      | some w => if s.uOf w + c.pol.hyst * 1024 ≤ s.uOf x then (s.setCand w false).setCand x true else s
      | none => s

/-! ## The active set (R197) -/

/-- The block of a leg's input for tick `t`. -/
def AudIn.blkAt (i : AudIn) (t : Nat) : Option Blk :=
  if i.cur.tick = some t then some i.cur else if i.prev.tick = some t then some i.prev else none

/-- The block decoded in the previous tick. -/
def State.lastBlk (s : State) (leg : Nat) : Option Blk :=
  if s.time.m = 0 then none else (s.leg leg).bind fun l => l.aud.inp.blkAt (s.time.m - 1)

/-- Was the input voiced in the previous tick? -/
def State.voiced (s : State) (leg : Nat) : Bool := (s.lastBlk leg).any (·.vad)

/-- May the input be in the active set of the conference? -/
def State.mayMix (s : State) (conf leg : Nat) : Bool :=
  (s.leg leg).any fun l => l.feedsConf conf && l.aud.inp.cand && !l.aud.muted s.time.m

/-- Members that do not ramp out. -/
def staying (as : List ActIn) : List ActIn := as.filter fun a => a.ramp ≠ 2

/-- Ramp one member out. -/
def rampOutOf (as : List ActIn) (leg : Nat) : List ActIn := as.map fun a => if a.site.isNone && a.leg = leg then { a with ramp := 2 } else a

/-- Members with the lowest U ramp out until the set fits (R210). -/
def State.fitActive (s : State) (most : Nat) : Nat → List ActIn → List ActIn
  | 0, as => as
  | fuel + 1, as =>
    if (staying as).length ≤ most then as
    else match s.quietest ((sortBy (fun a b => decide (a < b)) ((staying as).map (·.leg)))) with
      | some w => s.fitActive most fuel (rampOutOf as w)
      | none => as

/-- One voiced candidate enters the set, in room or in place of a quieter member; one replacement in a tick. -/
def State.enlist (s : State) (p : MixPol) (r : Bool × List ActIn) (x : Nat) : Bool × List ActIn :=
  let now := staying r.2
  let new : ActIn := { leg := x, heard := s.time.m, ramp := 1 }
  if r.2.any fun a => a.leg == x then r
  else if now.length < p.activeMax then (r.1, r.2 ++ [new])
  else if r.1 then r
  else
    let ids := sortBy (fun a b => decide (a < b)) (now.map (·.leg))
    match (s.quietest (ids.filter fun n => !s.voiced n)).orElse fun _ => s.quietest ids with
    | some w => if s.uOf w + p.hyst * 1024 ≤ s.uOf x then (true, rampOutOf r.2 w ++ [new]) else r
    | none => r

/-- The active set of the tick (R197, R210): members heard, members that ramp out, and those that ramp in. -/
def State.activeOf (s : State) (conf : Nat) (c : Conf) : List ActIn :=
  let m := s.time.m
  let keep := fun a : ActIn =>
    if a.ramp = 2 then a
    else
      let heard := if s.voiced a.leg then m else a.heard
      { a with heard := heard, ramp := if !s.mayMix conf a.leg || heard + c.pol.hang ≤ m then 2 else 0 }
  let as := s.fitActive c.pol.activeMax c.active.length (c.active.map keep)
  let cs := ((s.feeders conf).map (·.1)).filter fun n => s.mayMix conf n && s.voiced n
  ((sortBy (fun a b => decide (s.uOf b < s.uOf a)) cs).foldl (s.enlist c.pol) (false, as)).2

/-- The block that a member brings to the mix (R198, R211): the one decoded in the previous tick; a concealment block at
the first miss, silence after it; one that ramps out repeats its last block where its decoder has stopped. -/
def State.bring (s : State) (a : ActIn) : ActIn :=
  let a := { a with u := s.uOf a.leg, vad := s.voiced a.leg }
  match s.lastBlk a.leg, decide (a.ramp = 2) with
  | some b, true => { a with block := b.samples }
  | none, true => a
  | some b, false => { a with block := if a.missed = 0 then b.samples else fadeIn b.samples, missed := 0 }
  | none, false => { a with block := if a.missed = 0 then fadeOut a.block else silence, missed := a.missed + 1 }

/-! ## The combined set of a cascaded conference (R212, R214, R215) -/

/-- The module number by which contributions are ordered. -/
def State.siteNo (s : State) (site : Option Nat) : Nat := site.getD (s.casc.self.getD 0)

/-- The members that the contributions for a source tick bring: level 127 − U. -/
def Contrib.members (k : Contrib) : List ActIn :=
  k.blocks.map fun b => { site := k.site, leg := b.1, u := (127 - b.2.2.1) * 1024, vad := b.2.1, block := b.2.2.2 }

/-- Members of the last combined set whose module is late for the first time: a concealment block stands for them. -/
def lateMembers (old : List ActIn) (here : List Contrib) : List ActIn :=
  (old.filter fun a => a.missed = 0 && !here.any fun k => k.site == a.site).map fun a => { a with block := fadeOut a.block, missed := 1 }

/-- The combined set for source tick `t` (R214). -/
def State.combine (s : State) (c : Conf) (t : Nat) : List ActIn :=
  let here := c.contribs.filter fun k => k.tick == t
  let all := here.flatMap Contrib.members ++ lateMembers c.combined here
  let before := fun a b : ActIn => decide (b.u < a.u) || (a.u == b.u && (decide (s.siteNo a.site < s.siteNo b.site) ||
    (s.siteNo a.site == s.siteNo b.site && decide (a.leg < b.leg))))
  let new := (sortBy before all).take c.pol.activeMax
  let same := fun a b : ActIn => a.site == b.site && a.leg == b.leg
  let ins := new.map fun a => { a with ramp := if c.combined.any (same a) then 0 else 1 }
  let outs := (c.combined.filter fun a => !new.any (same a)).map fun a =>
    { a with ramp := 2, block := ((all.find? (same a)).map (·.block)).getD a.block }
  ins ++ outs

/-- A cascade leg whose module's contributions are late (R215). -/
def State.cascLate (s : State) (conf : Nat) (t : Nat) (leg : Nat) : State :=
  match s.conf conf, s.leg leg with
  | some c, some l =>
    let here := l.aud.det.cascSite.isSome && c.contribs.any fun k => k.tick == t && k.site == l.aud.det.cascSite
    if here || l.state ≠ 1 then s
    else
      let s := (s.occur srcCascLate (s.occOn (.legAudio leg) (s.occLeg leg))).modDet leg fun d => { d with cascLate := d.cascLate + 1 }
      if l.aud.det.cascLateEv.any (fun x => decide (s.time.m < x + 1000)) then s
      else
        let s := s.postLeg leg { code := evAudCascLate, d0 := l.aud.det.cascLate + 1, d1 := l.aud.det.cascDelay, d2 := c.pol.cascD }
        s.modDet leg fun d => { d with cascLate := 0, cascLateEv := some s.time.m, cascDelay := 0 }
  | _, _ => s

/-! ## What legs hear (R201, R211) -/

/-- The kind and the samples of the signal that the conference gives a leg. -/
def Conf.signalFor (c : Conf) (leg : Nat) (mute : Bool) : Nat × List Int :=
  if mute then (0, silence)
  else match tget c.minus leg with
    | some x => (2, x)
    | none => (1, c.common)

/-- The signal of a kind that a leg heard before, as the conference gives it now: one that leaves the set still has its
mix-minus. -/
def Conf.oldSignal (c : Conf) (leg kind : Nat) : List Int :=
  if kind = 0 then silence
  else if kind = 1 then c.common
  else ((tget c.minus leg).orElse fun _ => tget c.leaving leg).getD c.common

/-- Concealment of `n` missing blocks after a signal (R211). -/
def concealment (x : List Int) : Nat → List Int
  | 0 => []
  | n + 1 => fadeOut x ++ concealment (fadeOut x) n

/-- The samples of a frame that are kept: 60 ms. -/
def lastSamples (l : List Int) : List Int := l.drop (l.length - 2880)

/-- A leg's output takes the signal of its conference's last mix (R201): the signal before it goes into the frame, missing
ones are concealed, and a change of kind or route crossfades. -/
def State.hear (s : State) (leg : Nat) : State :=
  match s.leg leg with
  | none => s
  | some l => match (s.conf l.aud.cfg.outConf).bind fun c => c.mixTick.map fun t => (c, t) with
    | none => s
    | some (c, t) =>
      let o := l.aud.out
      if !l.cfg.hears || o.outTick.any (fun x => decide (t ≤ x)) then s
      else
        let gap := ((o.outTick.map fun x => t - x - 1).getD 0)
        let buf := o.frameBuf ++ (if o.taken then [] else o.outSig) ++ concealment o.outSig (min gap 60)
        let new := c.signalFor leg l.aud.cfg.outMute
        let other := if o.outFrom = l.aud.cfg.outConf then some c else s.conf o.outFrom
        let old := match other with
          | some k => k.oldSignal leg o.outKind
          | none => o.outSig
        let x := if new.1 ≠ o.outKind || (new.1 ≠ 0 && o.outFrom ≠ l.aud.cfg.outConf) then xfade old new.2 else new.2
        let x := if gap = 0 then x else fadeIn x
        s.modAud leg fun a => { a with out := { a.out with
          outKind := new.1, outFrom := l.aud.cfg.outConf, outSig := x, outTick := some t, taken := false, frameBuf := lastSamples buf } }

/-! ## MIX_RUN -/

/-- The conference after the mix of these members (R199, R200, R210), and how many samples saturated. -/
def Conf.mixOf (c : Conf) (as : List ActIn) : Conf × Nat :=
  let was := c.lastScale
  let now := c.pol.scale
  let pair := fun a : ActIn => (a.ramp, a.block)
  let sig := fun (coef : Nat) (ins : List MixIn) => mixSignal was now (if was then coef else rootCoef (mixCount ins)) ins
  let cm := sig c.coefCommon (as.map pair)
  let mine := (as.filter fun a => a.site.isNone).map fun a =>
    (a, sig c.coefMinus ((as.filter fun b => !(b.site == a.site && b.leg == a.leg)).map pair))
  let n := (staying as).length
  ({ c with
     common := cm.1
     minus := (mine.filter fun x => x.1.ramp ≠ 2).foldl (fun t x => tset t x.1.leg x.2.1) []
     leaving := (mine.filter fun x => x.1.ramp = 2).foldl (fun t x => tset t x.1.leg x.2.1) []
     coefCommon := coefAfter c.coefCommon n, coefMinus := coefAfter c.coefMinus (n - 1), lastScale := now },
   cm.2 + (mine.map fun x => x.2.2).sum)

/-- The set after its tick: those that ramped out have left. -/
def settleSet (as : List ActIn) : List ActIn := (staying as).map fun a => { a with ramp := 0 }

/-- EV_AUD_TALKERS (R222). -/
def State.talkers (s : State) (conf : Nat) (c : Conf) (as : List ActIn) : State :=
  let ids := as.map (·.leg) ++ List.replicate 8 0xFFFF
  let w := fun k => ids.getD (2 * k) 0xFFFF + 65536 * ids.getD (2 * k + 1) 0xFFFF
  s.postObj c.creator { code := evAudTalkers, obj := conf, d0 := w 0, d1 := w 1, d2 := w 2, d3 := w 3 }

/-- The mix of a conference in this tick: of the active set, or in a cascaded conference of the combined set for source tick
M − 1 − D (R199, R212). -/
def State.mixNow (s : State) (conf : Nat) (c : Conf) (as : List ActIn) : State :=
  let m := s.time.m
  let d := c.pol.cascD
  if d = 0 then
    let r := c.mixOf as
    (s.modConf conf fun _ => { r.1 with active := settleSet as, mixTick := some m }).occurN srcMixSat (s.occOn (.confMix conf) { obj := some conf, tenant := some c.tenant }) r.2
  else
    let t := (m + 2 ^ 32 - 1 - d) % 2 ^ 32
    let set := s.combine c t
    let s := (s.cascLegs conf).foldl (fun s n => s.cascLate conf t n) s
    let r := c.mixOf set
    let put := { r.1 with
      active := settleSet as, combined := settleSet set, mixTick := some m
      contribs := c.contribs.filter fun k => decide (0 < tickDiff k.tick t) }
    (s.modConf conf fun _ => put).occurN srcMixSat (s.occOn (.confMix conf) { obj := some conf, tenant := some c.tenant }) r.2

/-- The stage instances of talkers that have left A are discarded (R304). -/
def State.pruneTalkers (s : State) (conf : Nat) : State :=
  let keep := fun i : StageInst => i.talker == 0xFFFF || (s.conf conf).any fun c => thas c.minus i.talker || thas c.leaving i.talker
  let put := fun a : StageAtt => if a.point = 1 && a.obj = conf then { a with insts := a.insts.filter keep } else a
  { s with stageAtts := s.stageAtts.map put, stageGone := s.stageGone.map put }

/-- MIX_RUN: once per tick the mix flow of a conference selects its candidates (R193) and its active set (R197), and makes
the common mix and each mix-minus (R199); every leg that hears it has taken the signal of the tick before (R201). -/
def doMixRun (conf : Nat) (s : State) : State :=
  match s.conf conf with
  | none => s
  | some c =>
    if !c.mix || c.mixTick = some s.time.m || s.stoppedFlow (.confMix conf) then s
    else
      let s := (s.legs.filter fun x => x.2.cfg.hears && x.2.aud.cfg.outConf == conf).foldl (fun s x => s.hear x.1) s
      let s := (s.feeders conf).foldl (fun s x => s.modIn x.1 fun i => i.foldU s.time.m) s
      let s := s.candidatesOf conf c
      let as := (s.activeOf conf c).map s.bring
      let changed := c.pol.talkEv && decide ((staying as).map (·.leg) ≠ c.active.map (·.leg))
      let s := (s.mixNow conf c as).pruneTalkers conf
      if changed then s.talkers conf c (staying as) else s

/-! ## Encoding (R202) -/

/-- The inputs that the signal of a leg contains, in descending U. -/
def Conf.inputsFor (c : Conf) (leg kind : Nat) : List ActIn :=
  let all := if c.pol.cascD = 0 then c.active else c.combined
  if kind = 0 then []
  else sortBy (fun a b => decide (b.u < a.u)) (all.filter fun a => kind = 1 || !(a.site.isNone && a.leg == leg))

/-- The SSRC of a leg's audio input. -/
def State.inputSsrc (s : State) (leg : Nat) : Option Nat :=
  ((s.leg leg).bind fun l => tget l.tracks l.aud.cfg.inTrack).bind fun t => (t.encs[0]?).map (·.ssrc)

/-- The extension elements of a packet that the module makes (R170, R202). -/
def ownExts (pol : FwdPol) (lvl : Nat) (v : Bool) (tw : Nat) : List ExtElem :=
  fitExts pol.twoByteOk ((if pol.idLevel ≠ 0 then [⟨pol.idLevel, 1, .level lvl v⟩] else []) ++
    (if pol.idTwSeq ≠ 0 then [⟨pol.idTwSeq, 2, .twSeq tw⟩] else []) ++ (if pol.idAst ≠ 0 then [⟨pol.idAst, 3, .absSend 0⟩] else []))

/-- Bytes of a coded frame (R190): the codec's for Opus, 8 per millisecond for the others. -/
def frameSize (e : EncSet) (payloadLen : Nat) : Nat := if e.codec = 0 then payloadLen else 8 * e.frameMs

/-- Bitrate of the next Opus frame, kb/s (R202). -/
def Leg.opusRate (l : Leg) : Nat :=
  let e := l.aud.cfg.enc
  if e.adapt then min e.opusMax (max e.opusMin (l.est.a / 5000)) else e.opusMax

/-- The output identity of a leg with its numbers drawn, where it has none yet (R202): the index and the timestamp. -/
def State.drawStream (s : State) (o : AudOut) : Nat × Nat × State :=
  match o.encNext, o.encTs with
  | some a, some b => (a, b, s)
  | _, _ =>
    let p := s.draw 65536
    let q := p.2.draw (2 ^ 32)
    (p.1, q.1, q.2)

/-- AUDIO_ENCODE: at the leg's frame boundary its encoder codes the frame, and its packet goes out (R202); new encoder
settings come into force (R209). The spec states no marker bit for it: a free value. -/
def doAudioEncode (leg : Nat) (payloadLen : Nat) (s : State) : State :=
  match s.leg leg with
  | none => s
  | some l0 =>
    let m := s.time.m
    if !l0.cfg.hears || l0.cfg.kind ≠ 0 || l0.aud.out.encAt = some m || !startsAt l0.aud.out.enc.frameMs leg m || s.stoppedFlow (.legEncode leg) then s
    else
      let s := s.hear leg
      match s.leg leg with
      | none => s
      | some l =>
        let o := l.aud.out
        let e := o.enc
        let ready := o.outTick.any (fun t => decide (t < m)) && !o.taken
        let frame := lastSamples (o.frameBuf ++ if ready then o.outSig else [])
        let frame := frame.drop (frame.length - 48 * e.frameMs)
        let size := frameSize e payloadLen
        let send := l.state == 1 && l.aud.cfg.outSsrc ≠ 0 && !(e.codec == 0 && e.dtx && size == 0)
        let step := e.frameMs * clockOf 0 e.codec / 1000
        let after := fun (o : AudOut) => { o with frameBuf := [], taken := o.taken || ready, enc := l.aud.cfg.enc, encRate := l.opusRate, encAt := some m }
        if !send then s.modAud leg fun a => { a with out := { after a.out with encTs := a.out.encTs.map fun t => (t + step) % 2 ^ 32 } }
        else
          let d := s.drawStream o
          let mk := d.2.2.draw 2
          let ins := ((mk.2.conf o.outFrom).map fun c => c.inputsFor leg o.outKind).getD []
          let csrc := ((ins.filter fun a => a.site.isNone).filterMap fun a => mk.2.inputSsrc a.leg).take 8
          let p : OutPkt := { leg := leg, prio := 2, ssrc := l.aud.cfg.outSsrc, seq := d.1 % 65536, roc := d.1 / 65536, ts := d.2.1
                              pt := l.aud.cfg.outPt, marker := mk.1 == 1, csrc := csrc
                              exts := ownExts l.pol (127 - blockU frame) (ins.any (·.vad)) l.est.twNext, payloadLen := size }
          let put := fun x : Leg => { x with aud := { x.aud with out := { after x.aud.out with encNext := some (d.1 + 1), encTs := some ((d.2.1 + step) % 2 ^ 32) } } }
          (mk.2.modLeg leg fun x => (put x).tookTw).pushOut p

/-! ## Cascade contributions (R212, R213, R215) -/

/-- The local contributions of the source tick just ended: the members of A with their blocks. -/
def State.localBlocks (s : State) (c : Conf) : List (Nat × Bool × Nat × List Int) :=
  ((staying c.active).take 8).filterMap fun a => (s.lastBlk a.leg).map fun b => (a.leg, b.vad, 127 - s.uOf a.leg / 1024, b.samples)

/-- The packet of contributions on one cascade leg. -/
def State.sendContrib (s : State) (c : Conf) (tick : Nat) (blocks : List (Nat × Bool × Nat × List Int)) (leg : Nat) : State :=
  match s.leg leg with
  | none => s
  | some l =>
    if !l.cfg.hears || l.state ≠ 1 || l.aud.cfg.outSsrc = 0 then s
    else
      let seq := l.aud.out.encNext.elim (s.draw 65536) fun n => (n, s)
      let p : OutPkt := { leg := leg, prio := 2, ssrc := l.aud.cfg.outSsrc, seq := seq.1 % 65536, roc := seq.1 / 65536
                          ts := tick * 48 % 2 ^ 32, pt := c.pol.cascPt, exts := ownExts { l.pol with idLevel := 0 } 0 false l.est.twNext
                          payloadLen := 8 + 148 * blocks.length
                          codec := .casc 1 c.pol.confTag (s.casc.self.getD 0) tick blocks }
      let put := fun x : Leg => { x with aud := { x.aud with out := { x.aud.out with encNext := some (seq.1 + 1) } } }
      (seq.2.modLeg leg fun x => (put x).tookTw).pushOut p

/-- CASC_CONTRIB_SEND: each tick the module sends the contributions of the tick before on every cascade leg of a cascaded
conference, and holds its own copy (R212, R213). -/
def doCascContribSend (conf : Nat) (s : State) : State :=
  match s.conf conf with
  | none => s
  | some c =>
    let t := (s.time.m + 2 ^ 32 - 1) % 2 ^ 32
    if c.pol.cascD = 0 || s.time.m = 0 || s.stoppedFlow (.confMix conf) || c.contribs.any (fun k => k.site.isNone && k.tick == t) then s
    else
      let blocks := s.localBlocks c
      let s := s.modConf conf fun c => { c with contribs := c.contribs ++ [⟨none, t, blocks⟩] }
      (s.cascLegs conf).foldl (fun s n => s.sendContrib c t blocks n) s

/-- A contribution packet on a cascade leg (R213, R215). -/
def State.cascIn (s : State) (leg : Nat) (l : Leg) (ver tag site tick : Nat) (blocks : List (Nat × Bool × Nat × List Int)) : State :=
  match s.conf l.cfg.conf with
  | none => s
  | some c =>
    if ver ≠ 1 || tag ≠ c.pol.confTag then s.occur srcCascTagDrop (s.occOn (.legAudio leg) (s.occLeg leg))
    else
      let late := tickDiff s.tick tick
      let s := s.modDet leg fun d => { d with cascSite := some site, cascDelay := max d.cascDelay late.toNat }
      if c.pol.cascD = 0 then s
      else if (c.pol.cascD : Int) + 1 ≤ late then s.occur srcCascLate (s.occOn (.legAudio leg) (s.occLeg leg))
      else s.modConf l.cfg.conf fun c => { c with
        contribs := (c.contribs.filter fun k => !(k.site == some site && k.tick == tick)) ++ [⟨some site, tick, blocks⟩] }

/-! ## Detection (R204, R205) -/

/-- EV_AUD_DTMF (R222). -/
def State.dtmfEvent (s : State) (leg digit ms how start : Nat) : State :=
  s.postLeg leg { code := evAudDtmf, d0 := digit, d1 := ms, d2 := how, d3 := start % 2 ^ 32 }

/-- A telephone-event packet on the input track (R204): reported at its first packet with the E bit. -/
def State.teIn (s : State) (leg : Nat) (l : Leg) (clock ts event : Nat) (e : Bool) (dur : Nat) : State :=
  if !l.aud.cfg.dtmfTe || 15 < event then s.occur srcAudTeDrop (s.occOn (.legAudio leg) (s.occLeg leg))
  else if l.aud.det.teDone = some ts then s
  else
    let m := s.time.m
    let start := ((l.aud.det.tes.find? fun t => t.ts == ts).map (·.start)).getD m
    let rest := l.aud.det.tes.filter fun t => t.ts ≠ ts
    let ms := dur * 1000 / clock
    if e then (s.modDet leg fun d => { d with tes := rest, teDone := some ts }).dtmfEvent leg event ms 1 start
    else s.modDet leg fun d => { d with tes := rest ++ [⟨ts, event, ms, start, m⟩] }

/-- DTMF_DIGIT_END: an in-band digit ends after 20 ms without its pair; a telephone event after 200 ms without packets
(R204). -/
def doDtmfDigitEnd (leg : Nat) (tele : Bool) (s : State) : State :=
  match s.leg leg with
  | none => s
  | some l =>
    let d := l.aud.det
    let m := s.time.m
    if tele then
      match d.tes.find? fun t => decide (t.last + 200 ≤ m) with
      | some t => (s.modDet leg fun d => { d with tes := d.tes.filter fun x => x.ts ≠ t.ts, teDone := some t.ts }).dtmfEvent leg t.event t.dur 2 t.start
      | none => s
    else
      match d.tones.find? fun t => t.accepted && decide (t.last + 20 ≤ m) with
      | some t =>
        (s.modDet leg fun d => { d with tones := d.tones.filter fun x => x ≠ t, toneDone := some (t.digit, t.last), muteUntil := m + 40 }).dtmfEvent
          leg t.digit (t.last + 1 - t.start) 0 t.start
      | none => s

/-- EV_AUD_HOWL (R222). -/
def State.howlEvent (s : State) (leg : Nat) (l : Leg) (hz : Nat) (above : Int) (start : Bool) : State :=
  s.postLeg leg { code := evAudHowl, d0 := hz, d1 := field 32 (above / 10), d2 := b2n l.aud.cfg.howlAct, d3 := b2n start }

/-- Is it a peak that howl needs (R205)? -/
def HowlPeak.fits (p : HowlPeak) : Bool :=
  decide (200 ≤ p.hz) && decide (p.hz ≤ 8000) && decide (-300 ≤ p.level) && decide (240 ≤ p.above)

/-- HOWL_ANALYSIS: one analysis of the decoded input (R205): howl starts at the fifteenth in a row with the peak, and ends
at the fiftieth in a row without. -/
def doHowlAnalysis (leg : Nat) (peak : Option HowlPeak) (s : State) : State :=
  match s.leg leg with
  | none => s
  | some l =>
    let d := l.aud.det
    if !l.aud.cfg.howl || !l.aud.inp.jb.running || s.stoppedFlow (.legAudio leg) then s
    else match peak.filter HowlPeak.fits with
      | some p =>
        let same := decide (p.hz ≤ d.howlHz + 25) && decide (d.howlHz ≤ p.hz + 25) && d.howlRun ≠ 0
        let run := if same then d.howlRun + 1 else 1
        let s := s.modDet leg fun d => { d with howlRun := run, howlHz := if same then d.howlHz else p.hz, howlAbove := p.above, howlQuiet := 0 }
        if !d.howlOn && 15 ≤ run then (s.modDet leg fun d => { d with howlOn := true }).howlEvent leg l p.hz p.above true else s
      | none =>
        let s := s.modDet leg fun d => { d with howlRun := 0, howlQuiet := d.howlQuiet + 1 }
        if d.howlOn && 50 ≤ d.howlQuiet + 1 then (s.modDet leg fun d => { d with howlOn := false }).howlEvent leg l d.howlHz d.howlAbove false else s

/-! ## The meanings -/

/-- The meaning of JB_REANCHOR (R191). -/
def execJbReanchor (leg : Nat) (s : State) : Host.Outcome State Fault Refusal :=
  answer (Instr.jbReanchor leg).wf (doJbReanchor leg s)

/-- The meaning of LOUDNESS_RESET (R192). -/
def execLoudnessReset (leg : Nat) (s : State) : Host.Outcome State Fault Refusal :=
  answer (Instr.loudnessReset leg).wf (doLoudnessReset leg s)

/-- The meaning of AUDIO_DECODE (R191). -/
def execAudioDecode (leg : Nat) (blk : AudioBlock) (s : State) : Host.Outcome State Fault Refusal :=
  answer (Instr.audioDecode leg blk).wf (doAudioDecode leg blk s)

/-- The meaning of MIX_RUN (R199). -/
def execMixRun (conf : Nat) (s : State) : Host.Outcome State Fault Refusal :=
  answer (Instr.mixRun conf).wf (doMixRun conf s)

/-- The meaning of AUDIO_ENCODE (R202). -/
def execAudioEncode (leg : Nat) (payloadLen : Nat) (s : State) : Host.Outcome State Fault Refusal :=
  answer (Instr.audioEncode leg payloadLen).wf (doAudioEncode leg payloadLen s)

/-- The meaning of CASC_CONTRIB_SEND (R213). -/
def execCascContribSend (conf : Nat) (s : State) : Host.Outcome State Fault Refusal :=
  answer (Instr.cascContribSend conf).wf (doCascContribSend conf s)

/-- The meaning of DTMF_DIGIT_END (R204). -/
def execDtmfDigitEnd (leg : Nat) (tele : Bool) (s : State) : Host.Outcome State Fault Refusal :=
  answer (Instr.dtmfDigitEnd leg tele).wf (doDtmfDigitEnd leg tele s)

/-- The meaning of HOWL_ANALYSIS (R205). -/
def execHowlAnalysis (leg : Nat) (peak : Option HowlPeak) (s : State) : Host.Outcome State Fault Refusal :=
  answer (Instr.howlAnalysis leg peak).wf (doHowlAnalysis leg peak s)

end Sys2Proof.Machine
end

