-- ==== Sys2Proof/Machine/Flags.lean ====
section
/-! DEFINITION. Flags that the spec computes: the bad-frame flags of a received frame (R355). -/

namespace Sys2Proof.Machine

/-- The flags of a received frame (R355): FCS, RUNT, OVERSIZE, CODE. Its bytes exclude the FCS. -/
def frameFlags (f : Frame) : Bool × Bool × Bool × Bool :=
  (f.fcsBad, decide (f.bytes + 4 < 64), decide (9022 < f.bytes + 4), f.codeErr)

end Sys2Proof.Machine
end

