-- ==== Sys2Proof/Machine/RtcpIo.lean ====
section
/-! DEFINITION. RTCP of a leg (R163, R165, R172, R173): what received packets do, the compound packets, and transport
feedback to source legs. -/

namespace Sys2Proof.Machine

/-! ## Times -/

/-- TB0 as NTP time (R173): UTC counted from 1900 in seconds and units of 2^-16 ns; the UTC offset is 0 before any Announce. -/
def State.ntp (s : State) : Nat × Nat :=
  let b := s.base 0
  let utc : Int := (b.ann.map (·.utc)).getD 0
  (((b.val / secU + 2208988800 : Nat) - utc).toNat % 2 ^ 32, b.val % secU)

/-- The fraction of an NTP second. -/
def ntpFrac (part : Nat) : Nat := part * 2 ^ 32 / secU

/-- The middle 32 bits of the NTP time, in 2^-16 s. -/
def State.ntpMid (s : State) : Nat := (s.ntp.1 % 65536) * 65536 + ntpFrac s.ntp.2 / 65536

/-! ## Received packets (R172) -/

/-- The round-trip time that a report block gives, in 2^-16 s (R165, RFC 3550). -/
def blockRtt (now : Nat) (b : ReportBlock) : Option Nat :=
  let r := (now + 2 * 2 ^ 32 - b.lsr % 2 ^ 32 - b.dlsr % 2 ^ 32) % 2 ^ 32
  if b.lsr = 0 || 2 ^ 31 ≤ r then none else some r

/-- The report blocks of an SR or RR (R163, R165): the highest fraction lost and the round-trip time. -/
def State.rtcpBlocks (s : State) (leg : Nat) (bs : List ReportBlock) : State :=
  if bs.isEmpty then s
  else
    let now := s.ntpMid
    let rtt := (bs.filterMap (blockRtt now)).getLast?
    s.modLeg leg fun l => { l with est := { l.est with
      rrLoss := (bs.map (·.fractionLost)).foldl max 0
      lastRr := s.time.m
      rttMs := (rtt.map fun r => r * 1000 / 65536).getD l.est.rttMs } }

/-- Keep the timestamp pair of a source's SR (R172). -/
def State.rtcpSr (s : State) (leg ssrc ntpSec ntpFr rtpTs : Nat) : State :=
  match (s.leg leg).bind fun l => l.bySsrc ssrc with
  | some (t, e, false) =>
    s.modLeg leg fun l => l.modTrack t fun tr => tr.modEnc e fun x =>
      { x with sr := some ((ntpSec % 65536) * 65536 + ntpFr / 65536 % 65536, rtpTs, s.time.ref) }
  | _ => s

/-- Keep a CNAME per track, up to 32 bytes (R172). -/
def State.rtcpCname (s : State) (leg : Nat) (item : Nat × List Byte) : State :=
  match (s.leg leg).bind fun l => l.bySsrc item.1 with
  | some (t, _, _) => s.modLeg leg fun l => l.modTrack t fun tr => { tr with cname := item.2.take 32 }
  | none => s

/-- The slot of a leg whose stream has this SSRC. -/
def Leg.slotOf (l : Leg) (ssrc : Nat) : Option (Nat × Slot) := l.slots.find? fun v => v.2.outSsrc == ssrc

/-- The encoding that a receiver's key request on a slot asks for: that of a pending switch or re-point, else the one that
the slot forwards (R178). -/
def State.keyTarget (s : State) (v : Slot) : Option (SlotSrc × Nat) :=
  let src := v.choice
  let sp := if v.pendSrc.isSome then v.wantS
    else match v.pendLayer with
      | some (p, _, _) => p
      | none => if v.state = 2 then v.curS else v.wantS
  (s.srcTrack src).map fun t => (src, t.encOf sp)

/-- A PLI or FIR on one outbound SSRC (R178). -/
def State.rtcpKey (s : State) (leg ssrc : Nat) (fir : Bool) : State :=
  match (s.leg leg).bind fun l => l.slotOf ssrc with
  | some (_, v) =>
    if v.media = 0 || v.state = 5 then s
    else match s.keyTarget v with
      | some (src, e) => s.requestKey src e fir
      | none => s
  | none => s

/-- A generic NACK (R176): a number on no outbound SSRC of the leg is in no index. -/
def State.rtcpNack (s : State) (leg ssrc : Nat) (seqs : List Nat) : State :=
  match (s.leg leg).bind fun l => l.slotOf ssrc with
  | some (k, _) => seqs.foldl (fun s q => s.retransmit leg k q) s
  | none => s.occurN srcNackMiss (s.occOn (.legControl leg) (s.occLeg leg)) seqs.length

/-! ### Arrival feedback (R163) -/

/-- Close the group being formed: its delay variation against the group before it is accumulated. -/
def Est.closeGroup (e : Est) : Est :=
  match e.openGrp with
  | none => e
  | some (_, send, arr) =>
    let acc := match e.prevGrp with
      | some (ps, pa) => e.acc + (((arr : Int) - pa) - ((send : Int) - ps))
      | none => e.acc
    let gs := e.groups ++ [((arr : Int), acc)]
    { e with acc := acc, prevGrp := some (send, arr), groups := gs.drop (gs.length - 20), openGrp := none }

/-- One reported packet: packets sent within one 5 ms span form a group. -/
def Est.groupOne (e : Est) (send arr : Nat) : Est :=
  match e.openGrp with
  | some (f, l, a) =>
    if send ≤ f + 5000 then { e with openGrp := some (f, max l send, max a arr) }
    else { e.closeGroup with openGrp := some (send, send, arr) }
  | none => { e with openGrp := some (send, send, arr) }

/-- The packets that a feedback reports and that this module sent: send time, IP bytes, arrival. -/
def Est.matched (e : Est) (fmt m : Nat) (arr : List (Nat × Option Nat)) : List (Nat × Nat × Option Nat) :=
  let tbl := if fmt = 15 then e.sentTw else e.sentSs
  arr.filterMap fun a => (tbl.reverse.find? fun r => r.1 == a.1 && decide (m < r.2.1 + 2000)).map fun r => (r.2.2.1, r.2.2.2, a.2)

/-- A feedback packet of a format (R163). -/
def Est.feedback (e : Est) (fmt m : Nat) (arr : List (Nat × Option Nat)) : Est :=
  let hits := e.matched fmt m arr
  let came := hits.filterMap fun h => h.2.2.map fun a => (h.1, a)
  let rx := (hits.map fun h => if h.2.2.isSome then h.2.1 else 0).sum
  let e := { e with
    reports := e.reports ++ [(m, fmt, rx, hits.length, hits.length - came.length)]
    lastTw := if fmt = 15 then m else e.lastTw
    lastCc := if fmt = 15 then e.lastCc else m }
  (sortBy (fun a b => decide (a.1 < b.1)) came).foldl (fun e p => e.groupOne p.1 p.2) e

/-- The round-trip time that transport feedback gives (R165): a free value, no longer than the time since the newest
packet reported as received was sent (log entry 24). -/
def State.feedbackRtt (s : State) (leg : Nat) (hits : List (Nat × Nat × Option Nat)) : State :=
  match ((hits.filter fun h => h.2.2.isSome).map (·.1)).max? with
  | none => s
  | some t =>
    let r := s.draw ((s.nowUs - t) / 1000 + 1)
    r.2.modLeg leg fun l => { l with est := { l.est with rttMs := r.1 } }

/-- Arrival feedback on a leg. -/
def State.rtcpFeedback (s : State) (leg fmt : Nat) (arr : List (Nat × Option Nat)) : State :=
  match s.leg leg with
  | none => s
  | some l => (s.setLeg leg { l with est := l.est.feedback fmt s.time.m arr }).feedbackRtt leg (l.est.matched fmt s.time.m arr)

/-- One packet of an RTCP compound (R172). -/
def State.rtcpOne (s : State) (leg : Nat) (p : Rtcp) : State :=
  match p with
  | .sr ssrc sec frac ts bs => (s.rtcpSr leg ssrc sec frac ts).rtcpBlocks leg bs
  | .rr _ bs => s.rtcpBlocks leg bs
  | .sdes items => items.foldl (fun s i => s.rtcpCname leg i) s
  | .bye _ => s.occur srcRtcpByeRx (s.occOn (.legControl leg) (s.occLeg leg))
  | .nack media seqs => s.rtcpNack leg media seqs
  | .feedback fmt arr => s.rtcpFeedback leg fmt arr
  | .pli media => s.rtcpKey leg media false
  | .fir ssrcs => ssrcs.foldl (fun s x => s.rtcpKey leg x true) s
  | .remb r => s.modLeg leg fun l => { l with est := { l.est with remb := some (r, s.time.m) } }
  | .other => s.occur srcRtcpOtherDrop (s.occOn (.legControl leg) (s.occLeg leg))

/-- An RTCP compound, or a reduced-size packet, of a leg (R172). -/
def State.rtcpIn (s : State) (leg : Nat) (ps : List Rtcp) : State := ps.foldl (fun s p => s.rtcpOne leg p) s

/-! ## Compound packets (R173) -/

/-- The CNAME of a slot's stream: its source track's, or the leg's own while none is known. -/
def State.slotCname (s : State) (l : Leg) (v : Slot) : List Byte :=
  let c := ((s.srcTrack v.src).map (·.cname)).getD []
  if c.isEmpty then cnameBytes l.pol.cname else c

/-- The encoding that a slot's stream is made from. -/
def State.slotEnc (s : State) (v : Slot) : Option (Track × Enc) :=
  match s.srcTrack v.src with
  | some t => (t.encs[t.encOf v.curS]?).map fun e => (t, e)
  | none => none

/-- The SRs of a slot: its stream's and its RTX stream's, where packets were sent and the source has sent an SR. -/
def State.slotSrs (s : State) (v : Slot) : List Rtcp :=
  match s.slotEnc v with
  | some (t, e) => match e.sr, v.stream.tsOff with
    | some (_, ts, at_), some off =>
      let now := (ts + (s.time.ref - at_) * clockOf t.media t.codec / secU + off) % 2 ^ 32
      let one := fun ssrc : Nat => (.sr ssrc s.ntp.1 (ntpFrac s.ntp.2) now [] : Rtcp)
      (if v.stream.sent && v.state ≠ 5 then [one v.outSsrc] else []) ++
        (if v.stream.rtxSent && v.outRtx ≠ 0 && v.state ≠ 5 then [one v.outRtx] else [])
    | _, _ => []
  | none => []

/-- The SDES items of a slot. -/
def State.slotSdes (s : State) (l : Leg) (v : Slot) : List (Nat × List Byte) :=
  (if v.stream.sent then [(v.outSsrc, s.slotCname l v)] else []) ++
    (if v.stream.rtxSent && v.outRtx ≠ 0 then [(v.outRtx, s.slotCname l v)] else [])

/-- The incoming encodings of a leg that have sent packets, as (track, encoding). -/
def Leg.incoming (l : Leg) : List (Nat × Nat) :=
  l.tracks.flatMap fun t => (t.2.encs.zipIdx.filter fun e => e.1.recv.hi.isSome).map fun e => (t.1, e.2)

/-- Numbers expected of an encoding so far (RFC 3550). -/
def Recv.expected (r : Recv) : Nat := (r.hi.map fun h => h + 1 - r.base).getD 0

/-- The report block of an encoding (R173; fields as RFC 3550). -/
def Enc.block (e : Enc) (ref : Nat) : ReportBlock :=
  let want := e.recv.expected - e.recv.expPrior
  let lost := want - (e.recv.got - e.recv.gotPrior)
  { ssrc := e.ssrc, fractionLost := min 255 (lost * 256 / max 1 want)
    lsr := (e.sr.map (·.1)).getD 0
    dlsr := (e.sr.map fun x => (ref - x.2.2) * 65536 / secU % 2 ^ 32).getD 0 }

/-- What a report leaves as the start of the next. -/
def Enc.reported (e : Enc) : Enc := { e with recv := { e.recv with expPrior := e.recv.expected, gotPrior := e.recv.got } }

/-- The encodings that the next RR reports: up to 31, taken in turn. -/
def Leg.reportTurn (l : Leg) : List (Nat × Nat) :=
  let all := l.incoming
  let from_ := if all.isEmpty then 0 else l.rtcpTurn % all.length
  (all.drop from_ ++ all.take from_).take 31

/-- The encoding of a leg by track and index. -/
def Leg.enc (l : Leg) (t e : Nat) : Option Enc := (tget l.tracks t).bind fun x => x.encs[e]?

/-- The compound packet of a leg (R173). -/
def State.compound (s : State) (l : Leg) : List Rtcp :=
  let vs := l.slots.map (·.2)
  let blocks := l.reportTurn.filterMap fun x => (l.enc x.1 x.2).map fun e => e.block s.time.ref
  let mixed := if l.aud.out.encNext.isSome then [(l.aud.cfg.outSsrc, cnameBytes l.pol.cname)] else []
  vs.flatMap s.slotSrs ++ [.rr l.pol.localSsrc blocks,
    .sdes ([(l.pol.localSsrc, cnameBytes l.pol.cname)] ++ vs.flatMap (s.slotSdes l) ++ mixed)]

/-- RTCP_SEND: the leg's RTCP interval ends (R173); the next is drawn. -/
def doRtcpSend (leg : Nat) (s : State) : State :=
  match s.leg leg with
  | none => s
  | some l =>
    if !l.rtcpDue.any (fun d => decide (d ≤ s.time.m)) || s.timerSet (.rtcp leg) || s.stoppedFlow (.legControl leg) then s
    else
      let turn := l.reportTurn
      let t := s.sendRtcp leg (s.compound l)
      let t := t.modLeg leg fun l => { l with rtcpTurn := if l.incoming.isEmpty then 0 else (l.rtcpTurn + turn.length) % l.incoming.length }
      let t := turn.foldl (fun s x => s.modLeg leg fun l => l.modTrack x.1 fun tr => tr.modEnc x.2 Enc.reported) t
      t.rtcpTimer leg

/-! ## Transport feedback to sources (R173) -/

/-- A transport-wide number arrives on a leg: numbers below the next to report were reported already. -/
def Leg.twArrive (l : Leg) (n us : Nat) : Leg :=
  match l.twHi with
  | none => { l with twHi := some n, twSeen := [(n, us)] }
  | some b => if seqDiff n b < 0 then l else { l with twSeen := (l.twSeen.filter fun x => x.1 ≠ n) ++ [(n, us)] }

/-- The numbers from `base` to the highest seen, each with its arrival or as lost. -/
def reportRun (base : Nat) (seen : List (Nat × Nat)) : List (Nat × Option Nat) :=
  let n := ((seen.map fun x => (x.1 + 65536 - base) % 65536 + 1).max?).getD 0
  (List.range n).map fun i =>
    let q := (base + i) % 65536
    (q, (seen.find? fun x => x.1 == q).map (·.2))

/-- The RFC 8888 report of an encoding: from the lowest number seen since the last report. -/
def Enc.ccRun (e : Enc) : List (Nat × Option Nat) :=
  let hi := e.recv.hi.getD 0
  let lo := (e.recv.arrivals.map fun x => (x.1 + 65536 + 32767 - hi % 65536) % 65536).min?
  match lo with
  | none => []
  | some d => (reportRun ((d + hi + 65536 - 32767) % 65536) e.recv.arrivals).map fun x => (e.ssrc * 65536 + x.1, x.2)

/-- TRANSPORT_FEEDBACK_SEND: every 50 ms, to a source leg that writes transport-wide numbers, in the format that FB_MODE
selects (R173, R184). -/
def doTransportFeedbackSend (leg : Nat) (s : State) : State :=
  match s.leg leg with
  | none => s
  | some l =>
    match l.twHi with
    | none => s
    | some b =>
      if l.pol.fbMode = 3 then s.modLeg leg fun l => { l with twSeen := [] }
      else if l.pol.fbMode = 2 then
        let runs := (l.tracks.flatMap fun t => t.2.encs.map Enc.ccRun).filter fun r => !r.isEmpty
        let t := s.modLeg leg fun l => { l with twSeen := [], tracks := tmap (fun t => { t with encs := t.encs.map fun e =>
          { e with recv := { e.recv with arrivals := [] } } }) l.tracks }
        if runs.isEmpty then t else t.sendFb leg (runs.map fun r => .feedback 11 r)
      else
        let run := reportRun b l.twSeen
        let t := s.modLeg leg fun l => { l with twSeen := [], twHi := some ((b + run.length) % 65536) }
        if run.isEmpty then t else t.sendFb leg [.feedback 15 run]

/-! ## The meanings -/

/-- The meaning of RTCP_SEND (R173). -/
def execRtcpSend (leg : Nat) (s : State) : Host.Outcome State Fault Refusal :=
  answer (Instr.rtcpSend leg).wf (doRtcpSend leg s)

/-- The meaning of TRANSPORT_FEEDBACK_SEND (R173). -/
def execTransportFeedbackSend (leg : Nat) (s : State) : Host.Outcome State Fault Refusal :=
  answer (Instr.transportFeedbackSend leg).wf (doTransportFeedbackSend leg s)

end Sys2Proof.Machine
end

