-- ==== Sys2Proof/Machine/Ports.lean ====
section
/-! DEFINITION. Line ports (R352 to R366): lanes and power of the SerDes domains, the link, port commands, reception up to
the cipher farm (R125, R148, R150, R151, R355 to R357, R425), and the slow path (R359 to R362). -/

namespace Sys2Proof.Machine

abbrev evPortLink : Nat := 0x0301
abbrev evPktRing : Nat := 0x0302
abbrev evProtYield : Nat := 0x0E04

/-! ## Lanes and domains -/

/-- Lanes of a mode (R352). -/
def modeLanes (mode : Nat) : Nat := [0, 8, 4, 2, 1, 1, 1].getD mode 0
/-- The ports on which a mode is allowed are multiples of this (R352). -/
def modeStep (mode : Nat) : Nat := [1, 4, 2, 1, 1, 1, 1].getD mode 1
/-- The lanes that a port claims: the first, and one past the last (R352, R353). -/
def claimed (n mode : Nat) : Nat × Nat := (2 * n, 2 * n + modeLanes mode)

/-- Set domains on or off (R464): `f` gives a domain's state from its present one. -/
def State.domains (s : State) (f : Nat → Bool → Bool) : State :=
  { s with power := { s.power with pdOn := (List.range 80).filter fun d => f d (s.power.pdOn.contains d) } }

/-- Is a lane of line domain `j` claimed (R353)? -/
def State.lqClaimed (s : State) (j : Nat) : Bool :=
  (List.range 16).any fun n => let c := claimed n (s.port n).cfg.mode; decide (max c.1 (4 * j) < min c.2 (4 * j + 4))

/-- Is a link group of cascade domain `j` not OFF (R367)? -/
def State.ksUsed (s : State) (j : Nat) : Bool := (List.range 4).any fun i => (s.group (4 * j + i)).st ≠ 0

/-- Bring the SerDes domains in step with the lanes claimed (R464, R467); a faulted domain stays off (R466). -/
def State.serdes (s : State) : State :=
  s.domains fun d on =>
    if s.power.pdFault.contains d then false
    else if 60 ≤ d && d < 68 then s.lqClaimed (d - 60)
    else if 68 ≤ d && d < 72 then s.ksUsed (d - 68)
    else on

/-! ## The link (R354, R358, R386) -/

/-- EV_PORT_LINK. -/
def State.linkEvent (s : State) (n up cause : Nat) : State :=
  s.postAll { code := evPortLink, obj := n, d0 := up, d1 := cause, d2 := (s.port n).cnt.linkDowns }

/-- LINK_UP (R354). -/
def doLinkUp (port : Nat) (s : State) : State :=
  let p := s.port port
  if p.cfg.mode = 0 || p.released || p.link then s
  else (s.modPort port fun p => { p with link := true, locked := 2 ^ modeLanes p.cfg.mode - 1, upCause := 0 }).linkEvent port 1 p.upCause

/-- A port's link goes down (R354, R358): its transmit queues are discarded. -/
def State.linkLost (s : State) (n cause : Nat) : State :=
  let s := if (s.port n).link then
      (s.modPort n fun p => { p with link := false, wire := none, upCause := cause, cnt := { p.cnt with linkDowns := min 65535 (p.cnt.linkDowns + 1) } }).linkEvent n 0 cause
    else s.modPort n fun p => { p with wire := none, upCause := cause }
  s.dropTq n

/-- LINK_DOWN (R354): which lanes keep block lock is a free value (log entry 26). -/
def doLinkDown (port : Nat) (s : State) : State :=
  if !(s.port port).link then s
  else
    let r := (s.linkLost port 0).draw (2 ^ modeLanes (s.port port).cfg.mode)
    r.2.modPort port fun p => { p with locked := r.1 }

/-! ## Port commands -/

/-- The release or restore that holds a port (R50). -/
def State.portBusy (s : State) (n : Nat) : Option Nat :=
  s.busyHandle fun o => (o.opcode == 0x0303 || o.opcode == 0x0304) && o.a == n || o.opcode == 0x0F01 && o.phase == 4 && o.a == 4 + 16 * n

/-- The fault that a running long operation holds the object (R50). -/
def busy (h : Option Nat) : Bool × Nat × Nat := (h.isSome, eBusy, h.getD 0)

/-- Does a leg, a PTP instance or the transparent clock use the port (R366)? -/
def State.portUsed (s : State) (n : Nat) : Bool :=
  s.legs.any (fun x => x.2.cfg.port == n) || s.time.bases.any (fun b => b.inst.role ≠ 0 && hasBit b.inst.ports n) || hasBit s.time.tcPorts n

/-- Would another port's lanes be claimed too (R353)? -/
def State.lanesTaken (s : State) (n mode : Nat) : Bool :=
  let c := claimed n mode
  (List.range 16).any fun m =>
    let d := claimed m (s.port m).cfg.mode
    m ≠ n && decide (max c.1 d.1 < min c.2 d.2)

/-- PORT.CONFIG (R363, R366): a change of mode takes the link down, discards the transmit queues and restarts the port and its
counters. -/
def doPortConfig (ch : Nat) (s : State) : State := runCmd ch 0x0301 (fun c s =>
  let n := c.f 1 0 4
  let cfg : PortCfg := { mode := c.f 1 4 3, errDeliver := c.bit 1 7, lt := c.bit 1 8, hostPf := c.f 1 9 1, slowClass := c.f 1 10 3
                         mac := c.f 2 0 16 * 2 ^ 32 + c.f 3 0 32 }
  let change := cfg.mode ≠ (s.port n).cfg.mode
  checks [badArg (cfg.mode == 7 || n % modeStep cfg.mode ≠ 0 || cfg.slowClass == 7 || c.f 1 13 19 ≠ 0) 1,
      badArg (c.f 2 16 16 ≠ 0 || (cfg.mode ≠ 0 && (cfg.mac == 0 || hasBit cfg.mac 40))) 2, busy (s.portBusy n),
      (change && s.portUsed n, eState, 0x0301), (change && s.lanesTaken n cfg.mode, eState, 0x0302),
      (change && (s.port n).released, eState, 0x0303)]
    (if change then
       ok ((s.linkLost n 1).modPort n fun p => { p with cfg := cfg, cnt := {}, locked := 0 }).serdes
     else ok (s.modPort n fun p => { p with cfg := cfg }))) s

/-- PORT.STATUS (R364). -/
def doPortStatus (ch : Nat) (s : State) : State := runCmd ch 0x0302 (fun c s =>
  let n := c.f 1 0 4
  let p := s.port n
  let k := p.cnt
  let clear := c.bit 1 4 && (isPF c.issuer || c.issuer == 0xC8)
  checks [reserved c 1 5 27]
    (okWords (if clear then s.modPort n fun p => { p with cnt := {} } else s)
      [p.cfg.mode + 8 * b2n p.link + 16 * b2n p.released + 32 * b2n p.cfg.errDeliver + 256 * p.locked + 65536 * k.linkDowns,
       k.fecCorr, k.fecUncorr, k.fcs, k.runt + 65536 * k.oversize, k.code + 65536 * k.macCtrl, k.txLinkDown])) s

/-- PORT.RELEASE (R365): the port leaves service. -/
def doPortRelease (ch : Nat) (s : State) : State := runCmd ch 0x0303 (fun c s =>
  let n := c.f 1 0 4
  let p := s.port n
  checks [reserved c 1 4 28, busy (s.portBusy n), (p.cfg.mode == 0, eState, 0x0304), (p.released, eAlreadyDone, 0)]
    (startLong c s n 0 0 fun _ s => (s.modPort n fun p => { p with released := true, op := 1, locked := 0 }).linkLost n 2)) s

/-- PORT_RELEASE_COMPLETE (R365, R451): a PTP slave port on it counts as lost (R84), and pending SerDes firmware is loaded. -/
def doPortReleaseComplete (port : Nat) (s : State) : State :=
  match s.findOp 0x0303 fun o => o.a == port with
  | none => s
  | some o =>
    let s := if (s.port port).fwPending then s.componentEvent 4 port false else s
    let s := s.modPort port fun p => { p with op := 0, fwPending := false }
    let mine := (List.range 4).filter fun n => (s.base n).master.any fun a => a.port == port
    (mine.foldl (fun s n => s.tbMasterLost n) s).opDone o eOk 0

/-- PORT.RESTORE (R365). -/
def doPortRestore (ch : Nat) (s : State) : State := runCmd ch 0x0304 (fun c s =>
  let n := c.f 1 0 4
  checks [reserved c 1 4 28, busy (s.portBusy n), (!(s.port n).released, eAlreadyDone, 0)]
    (startLong c s n 0 0 fun _ s => s.modPort n fun p => { p with released := false, op := 2, upCause := 2 })) s

/-- PORT_RESTORE_COMPLETE (R365): the link is up, or 2,000 ms have passed without it. -/
def doPortRestoreComplete (port : Nat) (up : Bool) (s : State) : State :=
  match s.findOp 0x0304 fun o => o.a == port with
  | none => s
  | some o =>
    if (s.port port).link ≠ up || (!up && decide (s.time.m < o.since + 2000)) then s
    else (s.modPort port fun p => { p with op := 0 }).opDone o (if up then eOk else eTimeout) (if up then 0 else 0x0301)

/-- The abort of a release returns the port to service; that of a restore leaves it released (R365). -/
def State.portAbort (s : State) (release : Bool) (n : Nat) : State :=
  if release then s.modPort n fun p => { p with released := false, op := 0, upCause := 2 }
  else (s.modPort n fun p => { p with released := true, op := 0, locked := 0 }).linkLost n 2

/-! ## Slow-path reception (R359, R360, R362) -/

/-- Bytes of a ring's slots. -/
def PktRing.slotBytes (r : PktRing) : Nat := 2048 * 2 ^ r.slot
/-- Slots of a ring. -/
def PktRing.size (r : PktRing) : Nat := 2 ^ r.sizeLog2
/-- A ring is full when advancing its tail would make it equal its head. -/
def PktRing.full (r : PktRing) : Bool := (r.tail + 1) % r.size == r.head % r.size

/-- A ring with a slot written at TAIL. -/
def PktRing.put (r : PktRing) (x : PktSlot) : PktRing :=
  let cap := min x.framelen (r.slotBytes - 64)
  let t := r.tail + 1
  { r with
    slots := r.slots ++ [{ x with caplen := cap, trunc := decide (cap < x.framelen), phase := r.phase }]
    tail := if t = r.size then 0 else t
    phase := if t = r.size then !r.phase else r.phase }

/-- Write a frame into ring `ring` of function `f`; a ring that becomes non-empty posts EV_PKT_RING (R362). -/
def State.putSlot (s : State) (f ring : Nat) (x : PktSlot) : State :=
  let r := (s.fn f).rings.getD ring {}
  if !r.en || r.full then s.modFn f fun g => g.modRing ring fun r => { r with lost := (r.lost + 1) % 2 ^ 32 }
  else
    let n := r.put x
    let tell := decide (r.tail = r.head % r.size) && r.ie && r.armed
    let s := s.modFn f fun g => g.modRing ring fun _ => { n with armed := r.armed && !tell }
    if tell then s.offerAll [f] { code := evPktRing, obj := ring, d0 := n.tail } else s

/-- The function of a port's HOST_PF. -/
def State.hostPf (s : State) (port : Nat) : Nat := 64 * (s.port port).cfg.hostPf

/-- The slot of a frame (R360). -/
def State.slotFor (s : State) (port kind : Nat) (f : Frame) : PktSlot :=
  { caplen := 0, port := port, kind := kind, phase := true, framelen := min 16383 (f.bytes + 4), tick := s.tick, stamp := (s.base 0).val }

/-- A frame without a leg goes to the ring of the port's HOST_PF (R360). -/
def State.slowRx (s : State) (port kind : Nat) (f : Frame) : State := s.putSlot (s.hostPf port) 0 (s.slotFor port kind f)

/-- STUN and DTLS go to the function that created the leg, tagged with the leg (R151, R360). -/
def State.slowLeg (s : State) (port kind : Nat) (f : Frame) (leg : Nat) (l : Leg) : State :=
  if l.creator < 128 then s.putSlot l.creator 0 { s.slotFor port kind f with leg := some (leg, l.gen) }
  else s.putSlot (s.hostPf port) 0 { s.slotFor port kind f with leg := some (leg, l.gen) }

/-! ## Addresses (R355, R357, R425) -/

/-- The multicast addresses of a PTP instance's transport (R355, IEEE 1588): PRESUMED, log entry 27. -/
def ptpGroups (transport : Nat) : List Nat :=
  match transport with
  | 1 => [0x01005E000181, 0x01005E00006B]
  | 2 => [0x333300000181, 0x33330000006B]
  | _ => []

/-- Does the MAC accept the destination address (R355)? -/
def State.accepts (s : State) (port dst : Nat) : Bool :=
  dst == (s.port port).cfg.mac || dst == 0xFFFFFFFFFFFF || dst == 0x011B19000000 || dst == 0x0180C200000E || dst / 2 ^ 24 == 0x3333FF ||
    s.time.bases.any fun b => b.inst.role ≠ 0 && hasBit b.inst.ports port && (ptpGroups b.inst.transport).contains dst

/-- The legs on a port and VLAN with a local address. -/
def State.legsAt (s : State) (port : Nat) (vlan : Option Nat) (ipv6 : Bool) (addr : Nat) : List (Nat × Leg) :=
  s.legs.filter fun x => x.2.cfg.port == port && (if x.2.cfg.vlanEn then some x.2.cfg.vlanId else none) == vlan &&
    x.2.cfg.ipv6 == ipv6 && x.2.cfg.laddr == addr

/-- Queue one of the module's own frames in TQ7 (R330). -/
def State.ownFrame (s : State) (port len kind arg : Nat) : State :=
  s.modPort port fun p => { p with tq := lmod p.tq 7 [] fun q => q ++ [{ len := len, since := s.time.ref, own := some (kind, arg) }] }

/-- Yield a leg to another module (R425). -/
def State.yieldLeg (s : State) (leg : Nat) (l : Leg) (port mac : Nat) : State :=
  let s := s.occurN srcProtYieldDrop (s.occLeg leg) l.queue.length
  let s := s.modLeg leg fun l => { l with yielded := true, queue := [] }
  s.postLeg leg { code := evProtYield, d0 := mac % 2 ^ 32, d1 := mac / 2 ^ 32 % 65536, d2 := port }

/-- A claim for an address from a MAC address (R425). -/
def State.claim (s : State) (port : Nat) (vlan : Option Nat) (ipv6 : Bool) (addr mac : Nat) : State :=
  if mac = (s.port port).cfg.mac then s
  else (s.legsAt port vlan ipv6 addr).foldl (fun s x => s.yieldLeg x.1 x.2 port mac) s

/-- Does the module answer for the address (R357)? Not for the legs that it has yielded (log entry 25). -/
def State.answersFor (s : State) (port : Nat) (vlan : Option Nat) (ipv6 : Bool) (addr : Nat) : Bool :=
  (s.legsAt port vlan ipv6 addr).any fun x => !x.2.yielded

/-- An ARP frame (R357, R425). -/
def State.arpRx (s : State) (port : Nat) (f : Frame) (vlan : Option Nat) (req : Bool) (mac sender target : Nat) : State :=
  let s := if req && sender == target then s.claim port vlan false sender mac else s
  if req && s.answersFor port vlan false target then s.ownFrame port 60 1 target
  else s.slowRx port 2 f

/-- A Neighbor Discovery frame (R357, R425). -/
def State.ndRx (s : State) (port : Nat) (f : Frame) (vlan : Option Nat) (solicit override : Bool) (mac target : Nat) : State :=
  let s := if !solicit && override then s.claim port vlan true target mac else s
  if solicit && s.answersFor port vlan true target then s.ownFrame port (86 + if vlan.isSome then 4 else 0) 1 target
  else s.slowRx port 3 f

/-! ## Parsing, classification, policing (R125, R126, R148, R150, R151) -/

/-- The counter of a packet that the ingress parser drops (R150). -/
def parseDrop (v6 : Bool) (k : IpChecks) (ipLen : Nat) : Option Nat :=
  if !v6 && (decide (k.ihl < 5) || decide (15 < k.ihl)) then some srcRxParseDrop
  else if k.fragment then some srcRxFrag
  else if v6 && (k.routing || decide (64 < k.v6opts)) then some srcRxParseDrop
  else if !k.udp || decide (9000 < ipLen) then some srcRxParseDrop
  else if if v6 then k.csumZero || !k.csumOk else !k.csumZero && !k.csumOk then some srcRxCsum
  else none

/-- The leg that a packet is classified to (R125). -/
def State.classify (s : State) (port : Nat) (f : Flow5) : Option (Nat × Leg) :=
  s.legs.find? fun x => decide (x.2.cfg.key = (port, f.vlan, f.ipv6, f.dst * 65536 + f.dport, f.src, f.sport))

/-- The policer after the time since its last packet (R148): rate in kb/s, tokens in 1/256 byte. -/
def Policer.filled (p : Policer) (ref : Nat) : Policer :=
  let n := (ref - p.last) * p.rate * 32000 + p.rem
  { p with tokens := min (p.depth * 256 : Nat) (p.tokens + (n / secU : Nat)), rem := n % secU, last := ref }

/-- Police a packet of length `len` (R148): does it conform? -/
def Policer.police (p : Policer) (ref len : Nat) : Bool × Policer :=
  if p.rate = 0 then (true, p)
  else
    let q := p.filled ref
    if (len * 256 : Int) ≤ q.tokens then (true, { q with tokens := q.tokens - (len * 256 : Nat) }) else (false, q)

/-- Count a packet classified to a leg (R138). -/
def Leg.countRx (l : Leg) (bytes : Nat) : Leg :=
  { l with stats := { l.stats with rxPkts := min (l.stats.rxPkts + 1) (2 ^ 64 - 1), rxBytes := min (l.stats.rxBytes + bytes) (2 ^ 64 - 1) } }

/-- Count a failed authentication (R138, R318). -/
def State.authFail (s : State) (leg : Nat) : State :=
  s.modLeg leg fun l => { l with stats := { l.stats with authFail := min (l.stats.authFail + 1) 0xFFFFFFFF } }

/-- The sort of a payload by its first byte (R151); RTP of another version and large extension blocks are dropped (R152,
R153). `fr` is the frame of a packet from a line port. -/
def State.sortPayload (s : State) (port leg : Nat) (l : Leg) (fr : Frame) (ipLen : Nat) (p : Payload) : State :=
  let drop := s.occur srcRxParseDrop { unit := some port }
  let take := { s with inQ := s.inQ ++ [⟨port, leg, l.gen, ipLen, fr.bytes, s.time.ref, s.time.m, p⟩] }
  match p with
  | .rtp r _ => if r.version ≠ 2 || 256 < r.extBytes then drop else take
  | .rtcp _ _ _ _ => take
  | .raw first _ =>
    if first ≤ 3 then s.slowLeg port 0 fr leg l
    else if 20 ≤ first && first ≤ 63 then s.slowLeg port 1 fr leg l
    else if 128 ≤ first && first ≤ 191 then s.authFail leg
    else drop

/-- An IP packet on a port (R125, R126, R148 to R151). -/
def State.ipRx (s : State) (port : Nat) (fr : Frame) (f : Flow5) (k : IpChecks) (ipLen : Nat) (p : Payload) : State :=
  let o : Occ := { unit := some port }
  match parseDrop f.ipv6 k ipLen with
  | some src => s.occur src o
  | none => match s.classify port f with
    | none => s.occur srcRxNoLeg o
    | some (n, l) =>
      let s := s.setLeg n (l.countRx fr.bytes)
      if l.state = 0 || l.state = 2 then s.occur srcRxLegNotLive (s.occLeg n)
      else
        let r := l.policer.police s.time.ref (wireLen (s.port port).overhead fr.bytes)
        let s := s.modLeg n fun l => { l with policer := r.2 }
        if r.1 then s.sortPayload port n l fr ipLen p
        else (s.modLeg n fun l => { l with stats := { l.stats with policeDrop := min (l.stats.policeDrop + 1) 0xFFFFFFFF } }).occur
          srcPoliceDrop (s.occLeg n)

/-! ## FRAME_RX (R355) -/

/-- Count a bad frame under each flag that applies. -/
def State.countBad (s : State) (port : Nat) (fl : Bool × Bool × Bool × Bool) : State :=
  let o : Occ := { unit := some port }
  let one := fun (b : Bool) (src : Nat) (s : State) => if b then s.occur src o else s
  let s := one fl.2.2.2 srcRxCodeErr (one fl.2.2.1 srcRxOversize (one fl.2.1 srcRxRunt (one fl.1 srcRxFcsErr s)))
  s.modPort port fun p => { p with cnt := { p.cnt with
    fcs := min 0xFFFFFFFF (p.cnt.fcs + b2n fl.1), runt := min 65535 (p.cnt.runt + b2n fl.2.1),
    oversize := min 65535 (p.cnt.oversize + b2n fl.2.2.1), code := min 65535 (p.cnt.code + b2n fl.2.2.2) } }

/-- Count the FEC codewords that a frame met (R364). -/
def State.countFec (s : State) (port : Nat) (f : Frame) : State :=
  if (s.port port).cfg.mode = 6 then s
  else s.modPort port fun p => { p with cnt := { p.cnt with
    fecCorr := min 0xFFFFFFFF (p.cnt.fecCorr + f.fecCorr), fecUncorr := min 0xFFFFFFFF (p.cnt.fecUncorr + f.fecUncorr) } }

/-- A bad frame: dropped, or written with its flags to the diagnostic ring (R355). -/
def State.badFrame (s : State) (port : Nat) (f : Frame) : State :=
  let fl := frameFlags f
  let s := s.countBad port fl
  if (s.port port).cfg.errDeliver then
    s.putSlot (s.hostPf port) 2 { s.slotFor port 8 f with fcs := fl.1, runt := fl.2.1, oversize := fl.2.2.1, code := fl.2.2.2 }
  else s

/-- A good frame by what it carries (R150, R356, R357). -/
def State.goodFrame (s : State) (port : Nat) (f : Frame) : State :=
  let o : Occ := { unit := some port }
  let vlan := f.tags.head?.map (·.1)
  match f.body with
  | .macControl => (s.modPort port fun p => { p with cnt := { p.cnt with macCtrl := min 65535 (p.cnt.macCtrl + 1) } }).occur srcRxMacCtrl o
  | body =>
    if 1 < f.tags.length then s.occur srcRxParseDrop o
    else match body with
      | .lldp => s.slowRx port 4 f
      | .arp req mac sender target => s.arpRx port f vlan req mac sender target
      | .nd solicit ovr mac target => s.ndRx port f vlan solicit ovr mac target
      | .ptp m => s.ptpRx port m
      | .ip fl k ipLen p => s.ipRx port f { fl with vlan := vlan } k ipLen p
      | _ => s.occur srcRxParseDrop o

/-- FRAME_RX: a frame arrives on a line port (R355). A port that is off, released or without link receives none. -/
def doFrameRx (port : Nat) (f : Frame) (s : State) : State :=
  let p := s.port port
  if p.cfg.mode = 0 || p.released || !p.link then s
  else
    let s := s.countFec port f
    if !s.accepts port f.dstMac then s.occur srcRxMacFilter { unit := some port }
    else if frameFlags f ≠ (false, false, false, false) then s.badFrame port f
    else s.goodFrame port f

/-! ## Slow-path transmission (R361) -/

/-- May a VF send the slot's frame: does it name a leg of the VF's tenant on the port, with the leg's own values? -/
def State.vfMaySend (s : State) (fn : Nat) (x : SlowSlot) : Bool :=
  match s.leg x.leg with
  | none => false
  | some l =>
    x.legValid && l.gen == x.gen && s.tenantOf fn == some (s.legTenant l) && l.cfg.port == x.port &&
      x.srcMac == (s.port x.port).cfg.mac &&
      decide (l.cfg.key = (x.port, x.flow.vlan, x.flow.ipv6, x.flow.src * 65536 + x.flow.sport, x.flow.dst, x.flow.dport))

/-- The item of a slow-path frame that carries a leg. -/
def slowPkt (x : SlowSlot) : OutPkt := { leg := x.leg, prio := 3, payloadLen := x.len, encrypted := true, slow := true }

/-- What the qualifiers of the slow path's sources match (R500): the slot's port, and the leg that it names. -/
def State.slowOcc (s : State) (x : SlowSlot) : Occ :=
  if x.legValid then { obj := some x.leg, tenant := (s.leg x.leg).map s.legTenant, unit := some x.port } else { unit := some x.port }

/-- Send a slot's frame (R361); a leg that is gone counts LEG_GONE_DISCARD (R137), a yielded one PROT_YIELD_DROP (R425). -/
def State.slowSend (s : State) (x : SlowSlot) : State :=
  if x.legValid then
    match s.leg x.leg with
    | some l =>
      if l.gen ≠ x.gen then s.occur srcLegGoneDiscard { obj := some x.leg, unit := some x.port }
      else if l.yielded then s.occur srcProtYieldDrop (s.occLeg x.leg)
      else s.enqueueLeg x.leg (slowPkt x) (max 60 x.len)
    | none => s.occur srcLegGoneDiscard { obj := some x.leg, unit := some x.port }
  else s.modPort x.port fun p => { p with slowQ := p.slowQ ++ [{ len := max 60 x.len, own := some (3, 0) }] }

/-- SPTX_SLOT_SEND: the slot at HEAD of the transmit ring is sent or discarded, and HEAD advances past it (R361). -/
def doSptxSlotSend (fn : Nat) (slot : SlowSlot) (s : State) : State :=
  let r := (s.fn fn).rings.getD 1 {}
  if !r.en || r.head % r.size = r.tail % r.size then s
  else
    let o := s.slowOcc slot
    let s := s.modFn fn fun g => g.modRing 1 fun r => { r with head := (r.head + 1) % r.size }
    if slot.len < 14 || 9018 < slot.len || r.slotBytes - 64 < slot.len then s.occur srcSlowTxBad o
    else if !isPF fn && !s.vfMaySend fn slot then s.occur srcSlowTxDenied o
    else s.slowSend slot

/-! ## The meanings -/

/-- The meaning of LINK_UP (R354). -/
def execLinkUp (port : Nat) (s : State) : Host.Outcome State Fault Refusal :=
  answer (Instr.linkUp port).wf (doLinkUp port s)

/-- The meaning of LINK_DOWN (R354). -/
def execLinkDown (port : Nat) (s : State) : Host.Outcome State Fault Refusal :=
  answer (Instr.linkDown port).wf (doLinkDown port s)

/-- The meaning of PORT_CONFIG (R363). -/
def execPortConfig (ch : Nat) (s : State) : Host.Outcome State Fault Refusal :=
  answer (Instr.portConfig ch).wf (doPortConfig ch s)

/-- The meaning of PORT_STATUS (R364). -/
def execPortStatus (ch : Nat) (s : State) : Host.Outcome State Fault Refusal :=
  answer (Instr.portStatus ch).wf (doPortStatus ch s)

/-- The meaning of PORT_RELEASE (R365). -/
def execPortRelease (ch : Nat) (s : State) : Host.Outcome State Fault Refusal :=
  answer (Instr.portRelease ch).wf (doPortRelease ch s)

/-- The meaning of PORT_RELEASE_COMPLETE (R365). -/
def execPortReleaseComplete (port : Nat) (s : State) : Host.Outcome State Fault Refusal :=
  answer (Instr.portReleaseComplete port).wf (doPortReleaseComplete port s)

/-- The meaning of PORT_RESTORE (R365). -/
def execPortRestore (ch : Nat) (s : State) : Host.Outcome State Fault Refusal :=
  answer (Instr.portRestore ch).wf (doPortRestore ch s)

/-- The meaning of PORT_RESTORE_COMPLETE (R365). -/
def execPortRestoreComplete (port : Nat) (up : Bool) (s : State) : Host.Outcome State Fault Refusal :=
  answer (Instr.portRestoreComplete port up).wf (doPortRestoreComplete port up s)

/-- The meaning of FRAME_RX (R355). -/
def execFrameRx (port : Nat) (f : Frame) (s : State) : Host.Outcome State Fault Refusal :=
  answer (Instr.frameRx port f).wf (doFrameRx port f s)

/-- The meaning of SPTX_SLOT_SEND (R361). -/
def execSptxSlotSend (fn : Nat) (slot : SlowSlot) (s : State) : Host.Outcome State Fault Refusal :=
  answer (Instr.sptxSlotSend fn slot).wf (doSptxSlotSend fn slot s)

end Sys2Proof.Machine
end

