-- ==== Sys2Proof/Machine/Protect.lean ====
section
/-! DEFINITION. Partner protection (R409, R419 to R425, R432, R433): classes, reservations, shadow messages, the takeover of
a lost module's legs, and address claims. -/

namespace Sys2Proof.Machine

abbrev evPartnerTakeover : Nat := 0x0E02
abbrev evShadowLag : Nat := 0x0E05

/-! ## The partner (R419, R430) -/

/-- FWREV's major version (R507). -/
def State.fwMajor (s : State) : Nat := s.upd.fwActive / 2 ^ 24

/-- The peer module that a link group reaches (R384). -/
def State.peerOf (s : State) (g : Nat) : Option Nat := (s.casc.peers.find? fun p => p.2.group == g).map (·.1)

/-- Is the partner's group UP? -/
def State.partnerUp (s : State) : Bool := s.partnerGroup.any fun g => s.groupUp g

/-- Word 8 of SYS.HEALTH (R430): the partner, its state, and the age of the last shadow it applied (65,535 while it has
applied none, log entry 29). -/
def State.partnerWord (s : State) : Nat :=
  let st := if !s.prot.en then 0 else if !s.partnerUp then 1 else if s.prot.lagging then 3 else 2
  let age := match s.prot.appliedBase with
    | some b => min 65535 (max 0 (tickDiff s.tick b)).toNat
    | none => 65535
  (if s.prot.en then s.prot.partner else 15) + 16 * st + 65536 * age

/-! ## Reservations (R420, R422) -/

/-- The pool that reservations take: legs, mixed legs, decode places, cycles. -/
def Prot.inUse (p : Prot) : Nat × Nat × Nat × Nat :=
  ((p.reservations.map (·.legs)).sum, (p.reservations.map (·.mixed)).sum, (p.reservations.map (·.decode)).sum, (p.reservations.map (·.cycles)).sum)

/-- Does the pool hold a reservation's needs? -/
def Prot.room (p : Prot) (r : Reserve) : Bool :=
  let u := p.inUse
  decide (u.1 + r.legs ≤ p.poolLegs) && decide (u.2.1 + r.mixed ≤ p.poolMixed) && decide (u.2.2.1 + r.decode ≤ p.poolDecode) &&
    decide (u.2.2.2 + r.cycles ≤ p.poolCycles)

/-- RESERVE: a peer asks for a reservation (R420, R422). -/
def doReserve (g : Nat) (r : Reserve) (s : State) : State :=
  match s.peerOf g with
  | none => s
  | some p =>
    let ok := s.prot.room r
    let s := if ok then { s with prot := { s.prot with reservations := s.prot.reservations ++ [⟨p, r.leg, r.legs, r.mixed, r.decode, r.cycles⟩] } } else s
    s.sendControl g 2 r (b2n (!ok))

/-- RELEASE: a peer gives a reservation up. -/
def doRelease (g : Nat) (r : Reserve) (s : State) : State :=
  match s.peerOf g with
  | none => s
  | some p => { s with prot := { s.prot with reservations := s.prot.reservations.filter fun x => !(x.peer == p && x.leg == r.leg) } }

/-! ## PROT.CLASS (R409, R420, R432, R434) -/

/-- Does a protected flow lie on a locked group whose buddies are no group of its size (R119)? -/
def State.groupUnpaired (s : State) : Bool :=
  s.trail.flows.any fun p => s.serves p.2.owner && (s.cluster p.2.place).group.isSome &&
    !(s.placeSize (buddyOf p.2.place) == s.placeSize p.2.place && (s.cluster (buddyOf p.2.place)).group.any (·.1 == buddyOf p.2.place))

/-- The partner port of a port: none where it is mapped to 0xF (R433). -/
def State.mapped (s : State) (port : Nat) : Option Nat :=
  match tget s.prot.portMap port with
  | some p => if p = 15 then none else some p
  | none => none

/-- Send RESERVE for a leg and wait for the answer (R420). -/
def State.askReserve (s : State) (c : Ctx) (leg : Nat) (l : Leg) (g : Nat) : State :=
  let tag := (s.ctl.resTag + 1) % 65536
  let s := { s with ctl := { s.ctl with resTag := tag, waits := tset s.ctl.waits c.ch ⟨c.tag, leg, 2, tag, g, s.time.m⟩ } }
  s.sendControl g 1 (s.legNeeds leg l tag) 0

/-- PROT.CLASS (R432). -/
def doProtClass (ch : Nat) (s : State) : State := runCmd ch 0x0E01 (fun c s =>
  let leg := c.f 1 0 16
  let cls := c.f 1 24 2
  match s.leg leg with
  | none => .fail eBadarg 1
  | some l =>
    let t := s.modLeg leg fun l => { l with prot := cls }
    checks ([badArg (cls == 3 || c.f 1 26 6 ≠ 0) 1] ++ legObj s c.issuer leg (c.f 1 16 8) ++
        [(cls == l.prot, eAlreadyDone, 0), (cls == 2 && !s.partnerUp, eState, 0x0E01), (cls ≠ 0 && t.groupUnpaired, eState, 0x0E02),
         (cls == 2 && (s.mapped l.cfg.port).isNone, eState, 0x0E03),
         (cls == 2 && Config.peerFwMajor s.prot.partner ≠ s.fwMajor, eState, 0x0E04)])
      (if cls = 2 then withFlows t (softFor leg) fun _ => .hold (s.askReserve c leg l (s.partnerGroup.getD 0))
       else withFlows ((if l.prot = 2 then s.releaseLeg leg l else s).modLeg leg fun l => { l with prot := cls }) (softFor leg) ok)) s

/-- End the wait of a channel: its command is answered, and the commands behind it go on. -/
def State.endWait (s : State) (ch : Nat) (w : ProtWait) (st det : Nat) : State :=
  (({ s with ctl := { s.ctl with waits := tdel s.ctl.waits ch } }).respond ch 0x0E01 w.tag st det []).drain ch

/-- Tell the partner that the reservation of a leg that keeps its class is not needed. -/
def State.unreserve (s : State) (w : ProtWait) : State :=
  match s.leg w.leg with
  | some l =>
    let tag := (s.ctl.resTag + 1) % 65536
    let s := { s with ctl := { s.ctl with resTag := tag } }
    s.sendControl w.group 3 (s.legNeeds w.leg l tag) 0
  | none => s

/-- RESERVE_ACK: the partner's answer (R420). A leg destroyed meanwhile has answered RELEASE for itself or needs it now. -/
def doReserveAck (g tag status : Nat) (s : State) : State :=
  match s.ctl.waits.find? fun w => w.2.resTag == tag && w.2.group == g with
  | none => s
  | some (ch, w) =>
    if status ≠ 0 then s.endWait ch w eNospace 0x0E02
    else match s.leg w.leg with
      | none => s.endWait ch w eStale 0
      | some _ => match (s.modLeg w.leg fun l => { l with prot := 2 }).reflow (softFor w.leg) with
        | .ok t => t.endWait ch w eOk 0
        | .error e => (s.unreserve w).endWait ch w e.1 e.2

/-- RESERVE_TIMEOUT: no answer within 50 ms, or the partner's group left UP while control waits (R420). -/
def doReserveTimeout (ch : Nat) (s : State) : State :=
  match tget s.ctl.waits ch with
  | none => s
  | some w => if w.since + 50 ≤ s.time.m || !s.groupUp w.group then (s.unreserve w).endWait ch w eTimeout 0x0E01 else s

/-! ## PROT.PARTNER (R433) -/

/-- The port map of words 3 and 4. -/
def portMapOf (c : Ctx) : List (Nat × Nat) :=
  (List.range 16).map fun n => (n, c.f (3 + n / 8) (4 * (n % 8)) 4)

/-- PROT.PARTNER. -/
def doProtPartner (ch : Nat) (buf : BufRead) (s : State) : State := runCmd ch 0x0E02 (fun c s =>
  let op := c.f 1 0 2
  let n := s.prot.map.length
  checks [badLen c (if op = 3 then 1 else 4), reserved c 1 2 30]
    (match op with
     | 0 => checks [reserved c 2 6 26, badArg (s.casc.self == some (c.f 2 0 4)) 1]
         (ok { s with prot := { s.prot with partner := c.f 2 0 4, en := c.bit 2 4, hostPf := c.f 2 5 1, portMap := portMapOf c
                                            fullNext := true, appliedBase := none, sentLog := [], lagging := false } })
     | 1 => checks [reserved c 3 16 16]
         (ok { s with prot := { s.prot with poolLegs := c.f 2 0 16, poolMixed := c.f 2 16 16, poolDecode := c.f 3 0 16, poolCycles := c.f 4 0 32 } })
     | 2 => checks (descChecks c 2 true ++ [badArg (decide (descLen c 2 < 16 * n)) 2] ++ bufChecks buf) (okWords s [n])
     | _ => okWords s [s.partnerWord, (s.legs.filter fun x => x.2.prot == 2).length, s.prot.inUse.1])) s

/-! ## Shadow messages (R421) -/

/-- The shadow of a track. -/
def shadowTrack (t : Nat × Track) : ShadowTrack :=
  ⟨t.1, t.2.media, t.2.codec, t.2.layering, t.2.pt, t.2.rtxPt, t.2.encs.map fun e => (e.ssrc, e.rtxSsrc)⟩

/-- The shadow of a subscription; a slot that an encode job feeds is none. -/
def shadowSlot (v : Nat × Slot) : Option ShadowSlot :=
  match v.2.src with
  | .track n _ t => some ⟨v.1, n, t, v.2.media, v.2.outSsrc, v.2.outRtx, v.2.outPt, v.2.outRtxPt, v.2.prio, v.2.stream.next, v.2.stream.rtxNext, v.2.stream.lastTs⟩
  | .job _ => none

/-- The shadow of a leg, its port mapped through the port map (R424). -/
def State.shadowLeg (s : State) (n : Nat) (l : Leg) : ShadowLeg :=
  let c := l.cfg
  { leg := n, gen := l.gen, conf := c.conf, tenant := s.legTenant l, mix := (s.conf c.conf).any (·.mix)
    port := (s.mapped c.port).getD 15
    flow := ⟨if c.vlanEn then some c.vlanId else none, c.ipv6, c.laddr, c.lport, c.raddr, c.rport⟩
    audMode := c.audMode, audDir := c.audDir, vidMode := c.vidMode, vidDir := c.vidDir, kind := c.kind, pcp := c.pcp, dscp := c.dscp
    qto := c.qto, consentTo := c.consentTo, qlimit := c.qlimit, mac := c.mac, legState := l.state
    rxKey := (l.keys.rxCur.map (·.words)).getD [], txKey := (l.keys.txCur.map (·.words)).getD [], srtcp := l.keys.srtcp
    tracks := l.tracks.map shadowTrack, slots := l.slots.filterMap shadowSlot
    outSsrc := l.aud.cfg.outSsrc, outPt := l.aud.cfg.outPt, encNext := l.aud.out.encNext }

/-- The shadows of the module's PROT_PARTNER legs. -/
def State.shadows (s : State) : List ShadowLeg := (s.legs.filter fun x => x.2.prot == 2).map fun x => s.shadowLeg x.1 x.2

/-- SHADOW_MESSAGE_SEND: at boundaries whose M is a multiple of 20 (R421). Its length in cells is a free value: the format of
its records is the firmware's (log entry 30). -/
def doShadowMessageSend (s : State) : State :=
  match s.partnerGroup with
  | none => s
  | some g =>
    if s.time.m % 20 ≠ 0 || !s.groupUp g then s
    else
      let p := s.prot
      let full := p.fullNext || 49 ≤ p.sinceFull
      let now := s.shadows
      let base := (s.time.m - 1) % 2 ^ 32
      let seq := (p.seq + 1) % 2 ^ 32
      let gone := (p.lastSent.filter fun x => !now.any fun y => y.leg == x.leg && y.gen == x.gen).map (·.leg)
      let m : ShadowMsg := ⟨seq, base, full, if full then now else now.filter fun x => !p.lastSent.contains x, if full then [] else gone, true⟩
      let r := s.draw 65536
      let s := { r.2 with prot := { p with seq := seq, fullNext := false, sinceFull := if full then 0 else p.sinceFull + 1
                                           sentLog := p.sentLog ++ [(seq, base)], lastSent := now } }
      s.modGroup g fun x => { x with cells := { x.cells with vc1 := x.cells.vc1 ++ [{ msg := .shadow m, cells := r.1 + 1, since := s.time.m }] } }

/-- The legs of a peer's shadow after a message. -/
def PeerShadow.merge (p : PeerShadow) (m : ShadowMsg) : List ShadowLeg :=
  if m.full then m.legs
  else (p.legs.filter fun x => !m.removed.contains x.leg && !m.legs.any fun y => y.leg == x.leg) ++ m.legs

/-- SHADOW: a peer's shadow message (R421): applied when it is whole and follows the last one applied, or carries the full
state; a missing message is answered by FULL_REQUEST. -/
def doShadow (g : Nat) (m : ShadowMsg) (s : State) : State :=
  match s.peerOf g with
  | none => s
  | some p =>
    let h := tgetD s.prot.shadows p {}
    if m.whole && (m.full || (h.valid && m.seq == (h.seq + 1) % 2 ^ 32)) then
      let h' : PeerShadow := { h with seq := m.seq, baseTick := m.baseTick, valid := true, legs := h.merge m }
      { s with prot := { s.prot with shadows := tset s.prot.shadows p h' } }
    else s.sendControl g 4 ⟨0, 0, 0, 0, 0, 0⟩ h.seq

/-- FULL_REQUEST: the partner asks for the full state (R421). -/
def doFullRequest (g _seq : Nat) (s : State) : State :=
  if s.partnerGroup = some g then { s with prot := { s.prot with fullNext := true } } else s

/-- The partner has applied a shadow message (R375, R421). -/
def State.shadowApplied (s : State) (seq : Nat) : State :=
  match s.prot.sentLog.find? fun x => x.1 == seq with
  | none => s
  | some x =>
    let rest := s.prot.sentLog.filter fun y => (y.1 + 2 ^ 32 - seq - 1) % 2 ^ 32 < 2 ^ 31
    let late := rest.any fun y => decide (40 < tickDiff s.tick y.2)
    { s with prot := { s.prot with appliedBase := some x.2, sentLog := rest, lagging := s.prot.lagging && late } }

/-- SHADOW_LAG: a message is not applied within 40 ticks after its BASE_TICK (R421). -/
def doShadowLag (s : State) : State :=
  match s.prot.sentLog.find? fun x => decide (40 < tickDiff s.tick x.2) with
  | none => s
  | some x =>
    if !s.prot.en || s.prot.lagging then s
    else
      let last := ((s.partnerGroup.map fun g => (s.group g).peerShadow).getD 0)
      ({ s with prot := { s.prot with lagging := true } }).postAll
        { code := evShadowLag, obj := s.prot.partner, d0 := last, d1 := (tickDiff s.tick x.2).toNat }

/-! ## Partner takeover (R423, R424) -/

/-- Every index of a stream below `next` counts as used (R322). -/
def LegKeys.usedBelow (k : LegKeys) (ssrc next : Nat) : LegKeys :=
  if next = 0 then k
  else { k with guards := (k.guards.filter fun g => g.ssrc ≠ ssrc) ++ [⟨ssrc, next - 1, (List.range (min next 1024)).map fun i => next - 1 - i⟩] }

/-- Indices that a partner skips (R322). -/
abbrev partnerSkip : Nat := 8192

/-- A subscription that a takeover recreates: its source is named by the origin's leg until all legs stand. -/
def takenSlot (r : ShadowSlot) : Slot :=
  { state := if r.media = 0 then 2 else 1, src := .track r.srcLeg 0 r.srcTrack, media := r.media, outSsrc := r.outSsrc, outRtx := r.outRtx
    outPt := r.outPt, outRtxPt := r.outRtxPt, prio := r.prio
    stream := { next := r.next + partnerSkip, rtxNext := r.rtxNext + partnerSkip, lastTs := r.lastTs } }

/-- The settings of a leg that a takeover recreates. -/
def takenCfg (r : ShadowLeg) (conf : Nat) : LegCfg :=
  { conf := conf, kind := r.kind, port := r.port, ipv6 := r.flow.ipv6, audMode := r.audMode, audDir := r.audDir, vidMode := r.vidMode
    vidDir := r.vidDir, vlanEn := r.flow.vlan.isSome, vlanId := r.flow.vlan.getD 0, pcp := r.pcp, dscp := r.dscp, lport := r.flow.dport
    rport := r.flow.sport, qto := r.qto, consentTo := r.consentTo, qlimit := r.qlimit, mac := r.mac, laddr := r.flow.dst, raddr := r.flow.src }

/-- The keys of a leg that a takeover recreates, with its send indices advanced (R322). -/
def takenKeys (r : ShadowLeg) : LegKeys :=
  let key := fun ws : List Nat => if ws.isEmpty then none else some ({ words := ws } : KeyCtx)
  let idx := r.srtcp + partnerSkip
  let k : LegKeys := { rxCur := key r.rxKey, txCur := key r.txKey, srtcp := idx, srtcpUsed := some (idx - 1) }
  let k := r.slots.foldl (fun k v => (k.usedBelow v.outSsrc (v.next + partnerSkip)).usedBelow v.outRtx (v.rtxNext + partnerSkip)) k
  match r.encNext with
  | some i => k.usedBelow r.outSsrc (i + partnerSkip)
  | none => k

/-- A leg that a takeover recreates (R423): PROT_BUDDY, in its shadowed state. -/
def State.takenLeg (s : State) (p : Nat) (r : ShadowLeg) (conf gen : Nat) : Leg :=
  let l := newLeg s (takenCfg r conf) gen (64 * s.prot.hostPf)
  { l with
    state := r.legState, liveSince := s.time.m, prot := 1, origin := some (p, r.leg, r.gen), keys := takenKeys r
    tracks := r.tracks.map fun t => (t.track, { media := t.media, codec := t.codec, layering := t.layering, pt := t.pt, rtxPt := t.rtxPt
                                                encs := t.encs.map fun e => { ssrc := e.1, rtxSsrc := e.2 } })
    slots := r.slots.map fun v => (v.slot, takenSlot v)
    aud := { l.aud with
      cfg := { l.aud.cfg with outSsrc := r.outSsrc, outPt := r.outPt }
      out := { l.aud.out with encNext := r.encNext.map (· + partnerSkip) } } }

/-- A takeover in progress: conferences and legs by their origin's IDs, and how many legs were refused. -/
structure Takeover where
  s : State
  confs : List (Nat × Nat) := []
  legs : List (Nat × Nat) := []
  refused : Nat := 0

/-- The conference of a record: the one already made for it, or a new one. -/
def Takeover.conf (k : Takeover) (r : ShadowLeg) : Option (Nat × Takeover) :=
  match tget k.confs r.conf with
  | some c => some (c, k)
  | none => match firstFree k.s.confs 0 16384 with
    | some c => some (c, { k with
        s := { k.s with confs := tset k.s.confs c { tenant := r.tenant, mix := r.mix, group := 0, creator := 64 * k.s.prot.hostPf } }
        confs := tset k.confs r.conf c })
    | none => none

/-- Refuse a leg (R423). -/
def Takeover.refuse (k : Takeover) (r : ShadowLeg) : Takeover :=
  { k with s := k.s.occur srcProtPartnerRefused { obj := some r.leg, tenant := some r.tenant }, refused := k.refused + 1 }

/-- Take one leg over (R423): its conference comes up even where the leg is refused. -/
def Takeover.leg (p : Nat) (k : Takeover) (r : ShadowLeg) : Takeover :=
  match k.conf r with
  | none => k.refuse r
  | some (c, k2) => match k2.s.freeLeg 0 65536 with
  | none => k2.refuse r
  | some id =>
    let gen := k2.s.nextGen id
    let l := k2.s.takenLeg p r c gen
    let t := k2.s.addLeg id l
    if 15 < r.port || k.s.portOut r.port || k.s.keyUsed none l.cfg || 8192 < t.mixedLegs || 16384 < t.decodePlaces then k2.refuse r
    else match t.reflow (softFor id) with
      | .error _ => k2.refuse r
      | .ok t =>
        let t := ({ t with prot := { t.prot with map := t.prot.map ++ [[p, r.leg, r.gen, id, gen, c]] } }).consentTimer id
        { k2 with s := t, legs := tset k2.legs r.leg id }

/-- Point the recreated subscriptions at the legs that replace their sources; those whose source was not taken over have lost
it (R183). -/
def State.resolve (s : State) (legs : List (Nat × Nat)) : State :=
  let fix := fun v : Slot => match v.src with
    | .track n _ t => (match tget legs n with
      | some id => { v with src := .track id (((s.leg id).map (·.gen)).getD 0) t }
      | none => { v with state := 5 })
    | .job _ => v
  legs.foldl (fun s x => s.modLeg x.2 fun l => { l with slots := tmap fix l.slots }) s

/-- One claim for a leg's local address from its port's MAC address in TQ7 (R424). -/
def State.sendClaim (s : State) (l : Leg) : State :=
  s.ownFrame l.cfg.port (if l.cfg.ipv6 then 86 + (if l.cfg.vlanEn then 4 else 0) else 60) 2 l.cfg.laddr

/-- Claim each distinct local address of the legs taken over, the claims to be repeated twice (R424). -/
def State.claimAll (s : State) (ids : List Nat) : State :=
  (ids.foldl (fun (a : List (Nat × Bool × Nat × Bool × Nat) × State) id =>
    match a.2.leg id with
    | none => a
    | some l =>
      let key := (l.cfg.port, l.cfg.vlanEn, l.cfg.vlanId, l.cfg.ipv6, l.cfg.laddr)
      if a.1.contains key then a
      else (key :: a.1, (a.2.sendClaim l).modLeg id fun l => { l with claims := 2, claimAt := a.2.time.m })) ([], s)).2

/-- The module is a lost peer's partner: it takes its legs over from the last shadow applied (R423). -/
def State.partnerLost (s : State) (p : Nat) : State :=
  match tget s.prot.shadows p with
  | none => s
  | some h =>
    if !h.valid then s
    else
      let k := h.legs.foldl (Takeover.leg p) { s := s }
      let t := (k.s.resolve k.legs).claimAll (k.legs.map (·.2))
      let t := { t with prot := { t.prot with shadows := tdel t.prot.shadows p } }
      t.postObj (64 * t.prot.hostPf) { code := evPartnerTakeover, obj := p, d0 := k.legs.length, d1 := k.refused, d2 := h.seq, d3 := h.baseTick }

/-- CLAIM_REPEAT: 10 ms and 20 ms after the takeover (R424). -/
def doClaimRepeat (leg : Nat) (s : State) : State :=
  match s.leg leg with
  | none => s
  | some l =>
    if l.claims = 0 || s.time.m < l.claimAt + (3 - l.claims) * 10 then s
    else (s.sendClaim l).modLeg leg fun l => { l with claims := l.claims - 1 }

/-! ## The meanings -/

/-- The meaning of RESERVE (R422). -/
def execReserve (g : Nat) (r : Reserve) (s : State) : Host.Outcome State Fault Refusal :=
  answer (Instr.reserve g r).wf (doReserve g r s)

/-- The meaning of RELEASE (R422). -/
def execRelease (g : Nat) (r : Reserve) (s : State) : Host.Outcome State Fault Refusal :=
  answer (Instr.release g r).wf (doRelease g r s)

/-- The meaning of PROT_CLASS (R432). -/
def execProtClass (ch : Nat) (s : State) : Host.Outcome State Fault Refusal :=
  answer (Instr.protClass ch).wf (doProtClass ch s)

/-- The meaning of RESERVE_ACK (R420). -/
def execReserveAck (g : Nat) (tag : Nat) (status : Nat) (s : State) : Host.Outcome State Fault Refusal :=
  answer (Instr.reserveAck g tag status).wf (doReserveAck g tag status s)

/-- The meaning of RESERVE_TIMEOUT (R420). -/
def execReserveTimeout (ch : Nat) (s : State) : Host.Outcome State Fault Refusal :=
  answer (Instr.reserveTimeout ch).wf (doReserveTimeout ch s)

/-- The meaning of PROT_PARTNER (R433). -/
def execProtPartner (ch : Nat) (buf : BufRead) (s : State) : Host.Outcome State Fault Refusal :=
  answer (Instr.protPartner ch buf).wf (doProtPartner ch buf s)

/-- The meaning of SHADOW_MESSAGE_SEND (R421). -/
def execShadowMessageSend (s : State) : Host.Outcome State Fault Refusal :=
  answer Instr.shadowMessageSend.wf (doShadowMessageSend s)

/-- The meaning of SHADOW (R421). -/
def execShadow (g : Nat) (m : ShadowMsg) (s : State) : Host.Outcome State Fault Refusal :=
  answer (Instr.shadow g m).wf (doShadow g m s)

/-- The meaning of FULL_REQUEST (R422). -/
def execFullRequest (g : Nat) (seq : Nat) (s : State) : Host.Outcome State Fault Refusal :=
  answer (Instr.fullRequest g seq).wf (doFullRequest g seq s)

/-- The meaning of SHADOW_LAG (R421). -/
def execShadowLag (s : State) : Host.Outcome State Fault Refusal :=
  answer Instr.shadowLag.wf (doShadowLag s)

/-- The meaning of CLAIM_REPEAT (R424). -/
def execClaimRepeat (leg : Nat) (s : State) : Host.Outcome State Fault Refusal :=
  answer (Instr.claimRepeat leg).wf (doClaimRepeat leg s)

end Sys2Proof.Machine
end

