-- ==== Sys2Proof/Machine/Cascade.lean ====
section
/-! DEFINITION. Rinzeku link groups (R367 to R386): bring-up, the cell layer, heartbeats, width changes, lane failures,
cascaded media on a group, and the CASC commands. -/

namespace Sys2Proof.Machine

abbrev evCascGroup : Nat := 0x0401
abbrev evCascPeerLost : Nat := 0x0402
abbrev evCascLane : Nat := 0x0403

/-! ## Width -/

/-- Lanes of a mask. -/
def laneCount (mask : Nat) : Nat := ((List.range 4).filter (hasBit mask)).length
/-- Width that a number of good lanes allows: ×4, ×2, ×1 or none (R367). -/
def widthOf (lanes : Nat) : Nat := if 4 ≤ lanes then 4 else if 2 ≤ lanes then 2 else lanes
/-- The mask of a width on the lowest-numbered good lanes (R367). -/
def maskFor (good w : Nat) : Nat := maskOf (((List.range 4).filter (hasBit good)).take w)
/-- The widest mask that the good lanes allow. -/
def widest (good : Nat) : Nat := maskFor good (widthOf (laneCount good))
/-- The present width of a group. -/
def LinkGroup.width (x : LinkGroup) : Nat := laneCount x.active
/-- Cell slots of a tick at a width (R367). -/
def slotsPerTick (w : Nat) : Nat := match w with
  | 4 => 103805
  | 2 => 51902
  | 1 => 25951
  | _ => 0

/-! ## Group states -/

/-- Change the cell layer of a group. -/
def State.modCells (s : State) (g : Nat) (f : CellLayer → CellLayer) : State := s.modGroup g fun x => { x with cells := f x.cells }

/-- Queue a VC0 cell. -/
def State.sendCtl (s : State) (g : Nat) (m : LinkCtl) : State := s.modCells g fun c => { c with vc0 := c.vc0 ++ [m] }

/-- EV_CASC_GROUP (R386). -/
def State.groupEvent (s : State) (g old cause : Nat) : State :=
  let x := s.group g
  s.postAll { code := evCascGroup, obj := g, d0 := x.st + 256 * old, d1 := x.width, d2 := cause }

/-- A group at rest in a state: its cell layer and measurements are empty. -/
def LinkGroup.fresh (x : LinkGroup) (st : Nat) : LinkGroup :=
  { x with st := st, cells := {}, active := 0, hbSeen := false, hbRun := 0, delays := [], winCells := 0, winTicks := 0, tickCells := 0
           ownClosed := false, shedOut := none, wakeOut := none, next := none, peerNext := none, wakeAfter := false, mismatch := false
           fwStage := 0 }

/-- Start bringing a group up (R374); firmware that waits for its next enable is loaded (R451). -/
def LinkGroup.train (x : LinkGroup) : LinkGroup := { x.fresh 1 with fwPending := false }

/-- Lanes of a group have loaded the cascade SerDes firmware (R451, R457). -/
def State.lanesLoaded (s : State) (g : Nat) (lanes : List Nat) : State :=
  lanes.foldl (fun s l => s.componentEvent 5 (4 * g + l) false) s

/-- Start bringing a group up; firmware that waited for it is loaded on its lanes. -/
def State.trainGroup (s : State) (g : Nat) : State :=
  (if (s.group g).fwPending then s.lanesLoaded g [0, 1, 2, 3] else s).modGroup g LinkGroup.train

/-- The group comes UP (R374, R376). -/
def State.groupIsUp (s : State) (g : Nat) : State :=
  let x := s.group g
  let s := s.modGroup g fun x => { x with st := 3, active := widest x.good, again := false }
  let s := if s.partnerGroup = some g then { s with prot := { s.prot with fullNext := true } } else s
  s.groupEvent g x.st (if x.again then 4 else 0)

/-- The group leaves UP: the peer is lost (R376), and its partner takes over (R423). -/
def State.groupDown (s : State) (g : Nat) (signal : Bool) : State :=
  let x := s.group g
  let s := s.modGroup g fun x => { x.fresh 4 with again := true }
  let s := s.postAll { code := evCascPeerLost, obj := x.peer, d0 := g, d1 := b2n signal, d2 := x.hbTick }
  (s.groupEvent g x.st (if signal then 2 else 3)).partnerLost x.peer

/-- PEER_LOST (R376). -/
def doPeerLost (g : Nat) (signal : Bool) (s : State) : State :=
  let x := s.group g
  if x.st = 3 && (signal || 3 ≤ x.hbRun) then s.groupDown g signal else s

/-- CASC_GROUP_RETRY: every 100 ms a DOWN group retries its bring-up (R376). -/
def doCascGroupRetry (g : Nat) (s : State) : State :=
  if (s.group g).st = 4 then s.trainGroup g else s

/-- LANE_EQUALISATION_DONE: the lanes are equalised, and HELLO follows (R374). -/
def doLaneEqualisationDone (g : Nat) (s : State) : State :=
  if (s.group g).st = 1 then s.modGroup g fun x => { x with st := 2 } else s

/-- HELLO_SEND: every 100 µs (R374). -/
def doHelloSend (g : Nat) (s : State) : State := if (s.group g).st = 2 then s.sendCtl g { op := 0 } else s

/-- Is the announced identity the one expected (R374)? -/
def State.rightPeer (s : State) (g fedId module : Nat) : Bool := fedId == s.casc.fedId && module == (s.group g).peer

/-- A wrong identity keeps the group in HELLO; its first sight posts EV_CASC_GROUP with cause 1 (R374). -/
def State.wrongPeer (s : State) (g : Nat) : State :=
  let x := s.group g
  if x.st ≠ 2 || x.mismatch then s else (s.modGroup g fun x => { x with mismatch := true }).groupEvent g x.st 1

/-- Credits that a HELLO announced. -/
def CellLayer.credit (c : CellLayer) (cr : List Nat) : CellLayer :=
  { c with hello := cr, cr1 := cr.getD 0 0, cr2 := cr.getD 1 0, cr3 := cr.getD 2 0 }

/-- HELLO: received, it gives the peer's identity and credits and is acknowledged (R371, R374). -/
def doHello (g fedId module : Nat) (credits : List Nat) (s : State) : State :=
  let x := s.group g
  if x.st ≠ 2 && x.st ≠ 3 then s
  else if !s.rightPeer g fedId module then s.wrongPeer g
  else
    let s := s.modGroup g fun x => { x with mismatch := false }
    let s := if x.cells.hello.isEmpty then s.modCells g fun c => c.credit credits else s
    s.sendCtl g { op := 1 }

/-- HELLO_ACK: from the right peer it brings the group UP (R374). -/
def doHelloAck (g fedId module : Nat) (s : State) : State :=
  if (s.group g).st ≠ 2 then s
  else if s.rightPeer g fedId module then s.groupIsUp g else s.wrongPeer g

/-! ## The cell layer: receiving (R368 to R371) -/

/-- Is 16-bit number `a` before `b`? -/
def seqBefore (a b : Nat) : Bool := decide (seqDiff a b < 0)

/-- Credits returned on a channel. -/
def CellLayer.addCredit (c : CellLayer) (vc n : Nat) : CellLayer :=
  match vc with
  | 1 => { c with cr1 := c.cr1 + n }
  | 2 => { c with cr2 := c.cr2 + n }
  | 3 => { c with cr3 := c.cr3 + n }
  | _ => c

/-- A cell of a message is in the buffer; the last one completes the message, and its cells are freed (log entry 31). -/
def CellLayer.buffer (c : CellLayer) (vc : Nat) (eop : Bool) : CellLayer :=
  match vc with
  | 1 => if eop then { c with part1 := 0, freed1 := c.freed1 + c.part1 + 1 } else { c with part1 := c.part1 + 1 }
  | 2 => if eop then { c with part2 := 0, freed2 := c.freed2 + c.part2 + 1 } else { c with part2 := c.part2 + 1 }
  | 3 => if eop then { c with part3 := 0, freed3 := c.freed3 + c.part3 + 1 } else { c with part3 := c.part3 + 1 }
  | _ => c

/-- The acknowledgement and credits of an accepted cell. -/
def CellLayer.heard (c : CellLayer) (x : Cell) : CellLayer :=
  let c := { c with ackSeq := x.ack, kept := c.kept.filter fun k => !seqBefore k.1 x.ack, replay := c.replay.filter fun k => !seqBefore k.1 x.ack }
  c.addCredit x.crVc x.crCount

/-- Ask for the expected cell (R370). -/
def State.askRetry (s : State) (g : Nat) : State :=
  let c := (s.group g).cells
  (s.modCells g fun c => { c with retryDue := true }).sendCtl g { op := 2, retrySeq := c.expSeq }

/-- Discard a cell: the first of a run asks for the expected cell; repeats are RETRY_REPEAT's (R370). -/
def State.discardCell (s : State) (g src : Nat) : State :=
  let s := s.occur src { unit := some g }
  if (s.group g).cells.retryDue then s else s.askRetry g

/-- CELL_RX: a cell is accepted in sequence, or discarded with a RETRY (R369, R370). IDLE takes no number. -/
def doCellRx (g : Nat) (cell : Cell) (s : State) : State :=
  let x := s.group g
  if x.st ≠ 2 && x.st ≠ 3 then s
  else if !cell.crcOk then s.discardCell g srcCascCrc
  else if cell.typ = 0 then s.modCells g fun c => c.heard cell
  else if cell.seq ≠ x.cells.expSeq then s.discardCell g srcCascOos
  else
    let exp := (x.cells.expSeq + 1) % 65536
    let s := s.modCells g fun c => { ((c.heard cell).buffer cell.vc cell.eop) with expSeq := exp, retryDue := false }
    s.modGroup g fun x => { x with peerNext := x.peerNext.filter fun n => seqBefore exp n.2 }

/-- RETRY_REPEAT: the expected cell has not arrived within 2 µs (R370). -/
def doRetryRepeat (g : Nat) (s : State) : State := if (s.group g).cells.retryDue then s.askRetry g else s

/-- A message in progress starts again whole (R370). -/
def restart (q : List VcMsg) : List VcMsg := q.map fun m => { m with sent := 0 }

/-- Re-initialise the cell layer (R370): a VC2 packet in progress is lost. -/
def State.reinit (s : State) (g : Nat) : State :=
  let c := (s.group g).cells
  let cut := c.vc2.any fun m => decide (0 < m.sent)
  let s := s.modCells g fun c => ({ vc0 := c.vc0, vc1 := restart c.vc1, vc2 := c.vc2.filter fun m => m.sent = 0, vc3 := restart c.vc3 } : CellLayer).credit c.hello
  let s := if cut then s.occur srcCascMediaLost { unit := some g } else s
  s.occur srcCascReinit { unit := some g }

/-- RETRY: the transmitter resends from the named cell, or re-initialises the layer where it is no longer held (R370). -/
def doRetry (g seq : Nat) (s : State) : State :=
  let x := s.group g
  if x.st ≠ 2 && x.st ≠ 3 then s
  else if seq = x.cells.nextSeq then s
  else if x.cells.kept.any fun k => k.1 == seq then
    s.modGroup g fun x => { x with replays := x.replays + 1, cells := { x.cells with replay := x.cells.kept.filter fun k => !seqBefore k.1 seq } }
  else s.reinit g

/-! ## The cell layer: sending (R369 to R371) -/

/-- The channel with the most freed cells, and how many it has (R371). -/
def CellLayer.mostFreed (c : CellLayer) : Nat × Nat :=
  if c.freed2 ≤ c.freed1 && c.freed3 ≤ c.freed1 then (1, c.freed1) else if c.freed3 ≤ c.freed2 then (2, c.freed2) else (3, c.freed3)

/-- Take freed cells to return as credits. -/
def CellLayer.returnCredits (c : CellLayer) : Nat × Nat × CellLayer :=
  let p := c.mostFreed
  let n := min 255 p.2
  if n = 0 then (0, 0, c)
  else (p.1, n, match p.1 with
    | 1 => { c with freed1 := c.freed1 - n }
    | 2 => { c with freed2 := c.freed2 - n }
    | _ => { c with freed3 := c.freed3 - n })

/-- The head message of a channel with one more cell sent. -/
def sendOneCell (q : List VcMsg) : List VcMsg :=
  match q with
  | [] => []
  | m :: ms => if m.cells ≤ m.sent + 1 then ms else { m with sent := m.sent + 1 } :: ms

/-- A cell chosen for sending: its type, channel, SOP and EOP, and the layer after it. -/
structure Chosen where
  typ : Nat
  vc : Nat
  sop : Bool
  eop : Bool
  cells : CellLayer

/-- The next cell of a message channel. -/
def headCell (typ vc : Nat) (q : List VcMsg) (c : CellLayer) : Option Chosen :=
  match q with
  | [] => none
  | m :: _ => some ⟨typ, vc, m.sent == 0, decide (m.cells ≤ m.sent + 1), c⟩

/-- The next cell by strict priority (R369), of a channel that holds a credit (R371). -/
def CellLayer.choose (c : CellLayer) (up : Bool) : Option Chosen :=
  match c.vc0 with
  | m :: ms => some ⟨if m.op = 8 then 1 else 2, 0, true, true, { c with vc0 := ms }⟩
  | [] =>
    if !up then none
    else if !c.vc2.isEmpty && 0 < c.cr2 then headCell 4 2 c.vc2 { c with vc2 := sendOneCell c.vc2, cr2 := c.cr2 - 1 }
    else if !c.vc3.isEmpty && 0 < c.cr3 then headCell 5 3 c.vc3 { c with vc3 := sendOneCell c.vc3, cr3 := c.cr3 - 1 }
    else if !c.vc1.isEmpty && 0 < c.cr1 then headCell 3 1 c.vc1 { c with vc1 := sendOneCell c.vc1, cr1 := c.cr1 - 1 }
    else none

/-- Start a wake to the widest mask that the good lanes allow (R380). -/
def State.startWake (s : State) (g : Nat) : State :=
  let full := widest (s.group g).good
  (s.modGroup g fun x => { x with wakeOut := some full, shedOut := none, wakeAfter := false }).sendCtl g { op := 5, mask := full }

/-- Lanes leave service: a forced shed to the widest mask on the others, or DOWN where none is left (R382). -/
def State.lanesFail (s : State) (g : Nat) (lanes : List Nat) : State :=
  let bad := lanes.filter fun l => hasBit (s.group g).good l
  let good := (s.group g).good - (bad.map fun l => 2 ^ l).sum
  let s := s.modGroup g fun x => { x with good := good }
  let s := bad.foldl (fun s l => s.postAll { code := evCascLane, obj := g, d0 := l, d1 := 1, d2 := (s.group g).width }) s
  if (s.group g).st ≠ 3 then s
  else if good = 0 then s.groupDown g true
  else if bad.any fun l => hasBit (s.group g).active l then
    (s.modGroup g fun x => { x with shedOut := some (widest good) }).sendCtl g { op := 3, mask := widest good, force := true }
  else s

/-- A width change takes effect at its AT_SEQ: the window restarts (R378, R379, R380). A wake that the loading of SerDes
firmware waited for goes on with lanes 0 and 1 (R451). -/
def State.widthNow (s : State) (g : Nat) : State :=
  let x := s.group g
  match x.next with
  | none => s
  | some (mask, at_) =>
    if seqBefore x.cells.nextSeq at_ then s
    else
      let wider := decide (x.width < laneCount mask)
      let o : Occ := { unit := some g }
      let s := s.modGroup g fun x => { x with
        active := mask, next := none, winCells := 0, winTicks := 0, wakeOut := if wider then none else x.wakeOut
        sheds := if wider then x.sheds else x.sheds + 1, wakes := if wider then x.wakes + 1 else x.wakes }
      let s := s.occur (if wider then srcCascWake else srcCascShed) o
      if wider && x.fwStage = 2 then (s.modGroup g fun x => { x with fwStage := 3 }).lanesFail g [0, 1]
      else if x.wakeAfter then s.startWake g else s

/-- The header of a cell that leaves. -/
def mkCell (typ src vc : Nat) (sop eop : Bool) (seq : Nat) (c : CellLayer) (cr : Nat × Nat) : Cell :=
  ⟨typ, src, vc, sop, eop, seq, c.expSeq, cr.1, cr.2, true⟩

/-- CELL_TX: the next cell of a group (R369): a cell to be resent, a new one by priority and credit, or IDLE; with 1,024
cells unacknowledged, IDLE (R370). -/
def doCellTx (g : Nat) (s : State) : State :=
  if (s.group g).st ≠ 2 && (s.group g).st ≠ 3 then s
  else
    let s := s.widthNow g
    let x := s.group g
    let self := s.casc.self.getD 0
    let r := x.cells.returnCredits
    let c := r.2.2
    let cr := (r.1, r.2.1)
    match c.replay with
    | k :: ks =>
      let cell := mkCell (if k.2 = 0 then 2 else k.2 + 2) self k.2 true true k.1 c cr
      s.modGroup g fun x => { x with cells := { c with replay := ks, lastTx := some cell }, winCells := x.winCells + 1 }
    | [] =>
      let new := if 1024 ≤ c.kept.length then none else c.choose (x.st == 3)
      match new with
      | none => s.modCells g fun _ => { c with lastTx := some (mkCell 0 self 0 false false c.nextSeq c cr) }
      | some h =>
        let q := h.cells
        let cell := mkCell h.typ self h.vc h.sop h.eop c.nextSeq c cr
        s.modGroup g fun x => { x with
          cells := { q with nextSeq := (c.nextSeq + 1) % 65536, kept := c.kept ++ [(c.nextSeq, h.vc)], lastTx := some cell }
          winCells := x.winCells + 1, tickCells := x.tickCells + b2n (h.vc ≠ 1) }

/-! ## Heartbeats (R375, R376) and wake conditions (R378) -/

/-- Cells that wait in a channel. -/
def waitingCells (q : List VcMsg) : Nat := (q.map fun m => m.cells - m.sent).sum

/-- Does an end below full width ask for full width at a boundary (R378, R381)? With SHED clear a narrowed group wakes. -/
def LinkGroup.wants (x : LinkGroup) (m : Nat) : Bool :=
  let slots := slotsPerTick x.width
  !x.shed || decide (3 * slots < 4 * x.tickCells) || decide (slots < 20 * (waitingCells x.cells.vc2 + waitingCells x.cells.vc3)) ||
    (x.cells.vc1.head?).any fun v => decide (v.since + 5 ≤ m)

/-- The wake check of a boundary. -/
def State.wakeCheck (s : State) (g : Nat) : State :=
  let x := s.group g
  if x.width = 0 || widthOf (laneCount x.good) ≤ x.width || x.wakeOut.isSome || !x.wants s.time.m then s
  else if x.next.isSome then s.modGroup g fun x => { x with wakeAfter := true }
  else s.startWake g

/-- HEARTBEAT_SEND: after each boundary of the tick an UP group sends a heartbeat (R375); the tick without an accepted one
counts as missed (R376, R383), and the utilisation of the tick is judged (R378). -/
def doHeartbeatSend (g : Nat) (s : State) : State :=
  let x := s.group g
  if x.st ≠ 3 then s
  else
    let s := (s.sendCtl g { op := 8 }).modGroup g fun x => { x with
      hbSeen := false, hbRun := if x.hbSeen then 0 else x.hbRun + 1, hbMissed := if x.hbSeen then x.hbMissed else x.hbMissed + 1
      winTicks := x.winTicks + 1 }
    (s.wakeCheck g).modGroup g fun x => { x with tickCells := 0 }

/-- HEARTBEAT: accepted from the peer expected (R375): the path delay while both ends are LOCKED, and the last shadow that
the peer applied (R421). -/
def doHeartbeat (g : Nat) (hb : Heartbeat) (s : State) : State :=
  let x := s.group g
  if x.st ≠ 3 || hb.src ≠ x.peer || hb.fedId ≠ s.casc.fedId then s
  else
    let both := (s.base 0).st == 3 && hb.tbState == 3
    let ds := x.delays ++ [hb.recvTime - hb.sendTime]
    let s := s.modGroup g fun x => { x with
      hbSeen := true, hbRun := 0, hbTick := hb.hbTick, peerShadow := hb.shadowSeq
      delays := if both then ds.drop (ds.length - 16) else [] }
    if s.partnerGroup = some g then s.shadowApplied hb.shadowSeq else s

/-- The path delay of a group in ns (R375): 0 if unknown. -/
def LinkGroup.pathDelay (x : LinkGroup) : Nat :=
  if x.delays.isEmpty then 0 else (max 0 (x.delays.sum / (x.delays.length : Int) / 65536)).toNat

/-! ## Shedding and waking (R378 to R381) -/

/-- SHED_WINDOW_CLOSE: a window of 100 ticks closes (R378); below 25 % an end with SHED set proposes the next lower width. -/
def doShedWindowClose (g : Nat) (s : State) : State :=
  let x := s.group g
  if x.st ≠ 3 || x.winTicks < 100 then s
  else
    let low := decide (4 * x.winCells < slotsPerTick x.width * x.winTicks)
    let s := s.modGroup g fun x => { x with winCells := 0, winTicks := 0, ownClosed := low }
    if !low || !x.shed || x.width < 2 || x.shedOut.isSome || x.wakeOut.isSome || x.next.isSome then s
    else
      let mask := maskFor x.good (x.width / 2)
      (s.modGroup g fun x => { x with shedOut := some mask }).sendCtl g { op := 3, mask := mask }

/-- The AT_SEQ of a narrowing: 64 cells ahead (R379). -/
def CellLayer.ahead (c : CellLayer) : Nat := (c.nextSeq + 64) % 65536

/-- Narrow from an AT_SEQ 64 cells ahead, with the message that says so (R379). -/
def State.narrow (s : State) (g op mask : Nat) : State :=
  let at_ := (s.group g).cells.ahead
  (s.modGroup g fun x => { x with next := some (mask, at_) }).sendCtl g { op := op, mask := mask, atSeq := at_ }

/-- SHED_REQ (R379, R381, R382): accepted when forced, or when this end's own window also closed low; refused during a wake.
Of two requests that of the lower module number stands. -/
def doShedReq (g mask : Nat) (force : Bool) (s : State) : State :=
  let x := s.group g
  if x.st ≠ 3 then s
  else if force then (s.modGroup g fun x => { x with shedOut := none }).narrow g 4 mask
  else
    let mine := x.shedOut.isSome && decide (s.casc.self.getD 0 < x.peer)
    if mine then s
    else
      let s := s.modGroup g fun x => { x with shedOut := none }
      if x.ownClosed && x.wakeOut.isNone && x.next.isNone && laneCount mask < x.width then s.narrow g 4 mask
      else s.sendCtl g { op := 4, mask := x.active, atSeq := x.cells.nextSeq }

/-- SHED_ACK (R379): on acceptance the initiator narrows with WIDTH_COMMIT; on refusal it tries after its next window. -/
def doShedAck (g mask atSeq : Nat) (s : State) : State :=
  let x := s.group g
  match x.shedOut with
  | none => s
  | some m =>
    let s := s.modGroup g fun x => { x with shedOut := none }
    if mask = m then (s.modGroup g fun x => { x with peerNext := some (mask, atSeq) }).narrow g 7 mask else s

/-- WIDTH_COMMIT (R379): the sequence from which the peer's new width applies. -/
def doWidthCommit (g mask atSeq : Nat) (s : State) : State :=
  if (s.group g).st = 3 then s.modGroup g fun x => { x with peerNext := some (mask, atSeq) } else s

/-- WAKE_REQ (R380, R381): the responder resumes signalling; the wake prevails over a shed not yet committed. -/
def doWakeReq (g mask : Nat) (s : State) : State :=
  if (s.group g).st = 3 then s.modGroup g fun x => { x with wakeOut := some mask, shedOut := none } else s

/-- WAKE_LANES_LOCKED (R380): this end's receivers are locked and deskewed on every lane of the new MASK. -/
def doWakeLanesLocked (g : Nat) (s : State) : State :=
  match (s.group g).wakeOut with
  | some mask => s.sendCtl g { op := 6, mask := mask }
  | none => s

/-- WAKE_ACK (R380): this end widens from its AT_SEQ, which for a wake the spec does not place: a free value up to 64 cells
ahead (log entry 32). -/
def doWakeAck (g mask : Nat) (s : State) : State :=
  let x := s.group g
  if x.wakeOut.isNone || x.st ≠ 3 then s
  else
    let r := s.draw 65
    let at_ := (x.cells.nextSeq + r.1) % 65536
    (r.2.modGroup g fun x => { x with next := some (mask, at_) }).sendCtl g { op := 7, mask := mask, atSeq := at_ }

/-! ## Lanes (R382, R451) -/

/-- LANE_FAIL (R382). -/
def doLaneFail (g lane : Nat) (s : State) : State := if (s.group g).st = 0 then s else s.lanesFail g [lane]

/-- A lane is good again after its PRBS31 check (R382). -/
def State.laneGood (s : State) (g lane : Nat) : State :=
  (s.modGroup g fun x => { x with good := x.good + 2 ^ lane }).postAll { code := evCascLane, obj := g, d0 := lane, d1 := 0, d2 := (s.group g).width }

/-- LANE_RETURN (R382): the lane is used at the next wake. Lanes that load SerDes firmware return in pairs, and the group
wakes (R451). -/
def doLaneReturn (g lane : Nat) (s : State) : State :=
  let x := s.group g
  if x.st = 0 || hasBit x.good lane || (s.busyHandle fun o => o.opcode == 0x0F01 && o.phase == 4 && o.a == 5 + 16 * (4 * g + lane)).isSome then s
  else
    let s := s.laneGood g lane
    let y := s.group g
    if y.fwStage = 1 && hasBit y.good 2 && hasBit y.good 3 then
      ((s.modGroup g fun x => { x with fwStage := 2 }).lanesLoaded g [2, 3]).startWake g
    else if y.fwStage = 3 && hasBit y.good 0 && hasBit y.good 1 then
      ((s.modGroup g fun x => { x with fwStage := 0, fwPending := false }).lanesLoaded g [0, 1]).startWake g
    else s

/-- Load SerDes firmware (R451): an UP group treats lanes 2 and 3 as failed; one that is OFF or DOWN loads at its next enable. -/
def State.groupFirmware (s : State) (g : Nat) : State :=
  let s := s.modGroup g fun x => { x with fwPending := true }
  if (s.group g).st = 3 then (s.modGroup g fun x => { x with fwStage := 1 }).lanesFail g [2, 3] else s

/-! ## Cascaded media (R377) -/

/-- CASC_MEDIA_RX: an IP packet of VC2 is classified as a frame on its peer's RX_PORT, with VLAN RX_VLAN or untagged. -/
def doCascMediaRx (g : Nat) (f : Flow5) (c : IpChecks) (ipLen : Nat) (p : Payload) (s : State) : State :=
  match s.casc.peers.find? fun x => x.2.group == g with
  | none => s
  | some (_, x) =>
    if (s.group g).st ≠ 3 then s
    else
      let vlan := if x.rxVlanEn then some x.rxVlan else none
      let fr : Frame := { dstMac := (s.port x.rxPort).cfg.mac, tags := (vlan.map fun v => (v, 0)).toList
                          bytes := max 60 (ipLen + 14 + if x.rxVlanEn then 4 else 0), fcsBad := false, codeErr := false, fecCorr := 0
                          fecUncorr := 0, body := .ip f c ipLen p }
      s.ipRx x.rxPort fr { f with vlan := vlan } c ipLen p

/-! ## CASC.GROUP (R383, R385) -/

/-- The enable that holds a group. -/
def State.groupBusy (s : State) (g : Nat) : Option Nat := s.busyHandle fun o => o.opcode == 0x0401 && o.a == g

/-- A group goes OFF at once (R383). -/
def State.groupOff (s : State) (g : Nat) : State := (s.modGroup g fun x => { x.fresh 0 with again := false }).serdes

/-- The words of a query. -/
def LinkGroup.words (x : LinkGroup) : List Nat :=
  [x.st + 16 * x.width + 256 * x.good + 4096 * x.active + 65536 * x.peer + 2 ^ 20 * b2n x.shed, x.hbMissed % 2 ^ 32, x.replays % 2 ^ 32,
   x.pathDelay % 2 ^ 32, x.sheds % 65536 + 65536 * (x.wakes % 65536)]

/-- Is the group bound to a peer other than `p` (R385)? -/
def State.boundOther (s : State) (g p : Nat) : Bool := s.casc.peers.any fun x => x.2.group == g && x.1 ≠ p

/-- CASC.GROUP. -/
def doCascGroup (ch : Nat) (s : State) : State := runCmd ch 0x0401 (fun c s =>
  let g := c.f 1 0 4
  let op := c.f 1 4 2
  let shed := c.bit 1 6
  let peer := c.f 1 8 4
  let x := s.group g
  checks [badArg (c.f 1 7 1 ≠ 0 || c.f 1 12 20 ≠ 0) 1, if op = 3 then (false, 0, 0) else busy (s.groupBusy g)]
    (match op with
     | 0 => checks [(s.casc.self.isNone, eState, 0x0402), (s.boundOther g peer, eState, 0x0404), (x.st ≠ 0, eAlreadyDone, 0)]
         (startLong c s g 0 0 fun _ s => ((s.trainGroup g).modGroup g fun x => { x with peer := peer, shed := shed, good := 15, again := false }).serdes)
     | 1 => checks [(x.st == 0, eAlreadyDone, 0)] (ok ((s.groupOff g).groupEvent g x.st 0))
     | 2 =>
       let t := s.modGroup g fun x => { x with shed := shed }
       ok (if shed then t else t.wakeCheck g)
     | _ => okWords s x.words)) s

/-- CASC_GROUP_ENABLE_COMPLETE (R383, R385): UP, or not after 1,000 ms; where the peer announced another identity, that is
the reason. -/
def doCascGroupEnableComplete (g : Nat) (up : Bool) (s : State) : State :=
  match s.findOp 0x0401 fun o => o.a == g with
  | none => s
  | some o =>
    let x := s.group g
    if up then (if x.st = 3 then s.opDone o eOk 0 else s)
    else if x.st = 3 || s.time.m < o.since + 1000 then s
    else if x.mismatch then s.opDone o eState 0x0403 else s.opDone o eTimeout 0x0401

/-! ## CASC.PEER (R384, R385) -/

/-- Is some link group not OFF? -/
def State.anyGroup (s : State) : Bool := s.casc.groups.any fun x => x.2.st ≠ 0

/-- CASC.PEER. -/
def doCascPeer (ch : Nat) (s : State) : State := runCmd ch 0x0402 (fun c s =>
  let op := c.f 1 0 2
  let n := c.f 1 4 4
  let v6 := c.bit 2 4
  checks [badArg (op == 3) 1, badLen c ([2, 6, 1].getD op 1), badArg (c.f 1 2 2 ≠ 0 || c.f 1 8 24 ≠ 0 || (op ≠ 0 && s.casc.self == some n)) 1]
    (match op with
     | 0 => checks [reserved c 2 20 12, (s.anyGroup, eState, 0x0401)]
         (ok { s with casc := { s.casc with fedId := c.f 2 0 16, self := some (c.f 2 16 4) } })
     | 1 =>
       let p : Peer := ⟨c.f 2 0 4, v6, c.bit 2 5, c.bit 2 6, c.f 2 8 4, c.f 2 12 12, addrOf v6 (c.w 3) (c.w 4) (c.w 5) (c.w 6)⟩
       let x := s.group p.group
       checks ([badArg (c.f 2 7 1 ≠ 0 || c.f 2 24 8 ≠ 0) 2] ++ unusedWords c v6 [4, 5, 6] ++
           [busy (s.groupBusy p.group), (s.boundOther p.group n || (x.st ≠ 0 && x.peer ≠ n), eState, 0x0404)])
         (ok { s with casc := { s.casc with peers := tset s.casc.peers n p } })
     | _ => checks [((tget s.casc.peers n).isNone, eAlreadyDone, 0)] (ok { s with casc := { s.casc with peers := tdel s.casc.peers n } }))) s

/-! ## The meanings -/

/-- The meaning of PEER_LOST (R376). -/
def execPeerLost (g : Nat) (signal : Bool) (s : State) : Host.Outcome State Fault Refusal :=
  answer (Instr.peerLost g signal).wf (doPeerLost g signal s)

/-- The meaning of CASC_GROUP_RETRY (R376). -/
def execCascGroupRetry (g : Nat) (s : State) : Host.Outcome State Fault Refusal :=
  answer (Instr.cascGroupRetry g).wf (doCascGroupRetry g s)

/-- The meaning of LANE_EQUALISATION_DONE (R374). -/
def execLaneEqualisationDone (g : Nat) (s : State) : Host.Outcome State Fault Refusal :=
  answer (Instr.laneEqualisationDone g).wf (doLaneEqualisationDone g s)

/-- The meaning of HELLO_SEND (R374). -/
def execHelloSend (g : Nat) (s : State) : Host.Outcome State Fault Refusal :=
  answer (Instr.helloSend g).wf (doHelloSend g s)

/-- The meaning of HELLO (R374). -/
def execHello (g : Nat) (fedId : Nat) (module : Nat) (credits : List Nat) (s : State) : Host.Outcome State Fault Refusal :=
  answer (Instr.hello g fedId module credits).wf (doHello g fedId module credits s)

/-- The meaning of HELLO_ACK (R374). -/
def execHelloAck (g : Nat) (fedId : Nat) (module : Nat) (s : State) : Host.Outcome State Fault Refusal :=
  answer (Instr.helloAck g fedId module).wf (doHelloAck g fedId module s)

/-- The meaning of CELL_RX (R370). -/
def execCellRx (g : Nat) (cell : Cell) (s : State) : Host.Outcome State Fault Refusal :=
  answer (Instr.cellRx g cell).wf (doCellRx g cell s)

/-- The meaning of RETRY_REPEAT (R370). -/
def execRetryRepeat (g : Nat) (s : State) : Host.Outcome State Fault Refusal :=
  answer (Instr.retryRepeat g).wf (doRetryRepeat g s)

/-- The meaning of RETRY (R370). -/
def execRetry (g : Nat) (seq : Nat) (s : State) : Host.Outcome State Fault Refusal :=
  answer (Instr.retry g seq).wf (doRetry g seq s)

/-- The meaning of CELL_TX (R369). -/
def execCellTx (g : Nat) (s : State) : Host.Outcome State Fault Refusal :=
  answer (Instr.cellTx g).wf (doCellTx g s)

/-- The meaning of HEARTBEAT_SEND (R375). -/
def execHeartbeatSend (g : Nat) (s : State) : Host.Outcome State Fault Refusal :=
  answer (Instr.heartbeatSend g).wf (doHeartbeatSend g s)

/-- The meaning of HEARTBEAT (R375). -/
def execHeartbeat (g : Nat) (hb : Heartbeat) (s : State) : Host.Outcome State Fault Refusal :=
  answer (Instr.heartbeat g hb).wf (doHeartbeat g hb s)

/-- The meaning of SHED_WINDOW_CLOSE (R378). -/
def execShedWindowClose (g : Nat) (s : State) : Host.Outcome State Fault Refusal :=
  answer (Instr.shedWindowClose g).wf (doShedWindowClose g s)

/-- The meaning of SHED_REQ (R379). -/
def execShedReq (g : Nat) (mask : Nat) (force : Bool) (s : State) : Host.Outcome State Fault Refusal :=
  answer (Instr.shedReq g mask force).wf (doShedReq g mask force s)

/-- The meaning of SHED_ACK (R379). -/
def execShedAck (g : Nat) (mask : Nat) (atSeq : Nat) (s : State) : Host.Outcome State Fault Refusal :=
  answer (Instr.shedAck g mask atSeq).wf (doShedAck g mask atSeq s)

/-- The meaning of WIDTH_COMMIT (R379). -/
def execWidthCommit (g : Nat) (mask : Nat) (atSeq : Nat) (s : State) : Host.Outcome State Fault Refusal :=
  answer (Instr.widthCommit g mask atSeq).wf (doWidthCommit g mask atSeq s)

/-- The meaning of WAKE_REQ (R380). -/
def execWakeReq (g : Nat) (mask : Nat) (s : State) : Host.Outcome State Fault Refusal :=
  answer (Instr.wakeReq g mask).wf (doWakeReq g mask s)

/-- The meaning of WAKE_LANES_LOCKED (R380). -/
def execWakeLanesLocked (g : Nat) (s : State) : Host.Outcome State Fault Refusal :=
  answer (Instr.wakeLanesLocked g).wf (doWakeLanesLocked g s)

/-- The meaning of WAKE_ACK (R380). -/
def execWakeAck (g : Nat) (mask : Nat) (s : State) : Host.Outcome State Fault Refusal :=
  answer (Instr.wakeAck g mask).wf (doWakeAck g mask s)

/-- The meaning of LANE_FAIL (R382). -/
def execLaneFail (g : Nat) (lane : Nat) (s : State) : Host.Outcome State Fault Refusal :=
  answer (Instr.laneFail g lane).wf (doLaneFail g lane s)

/-- The meaning of LANE_RETURN (R382). -/
def execLaneReturn (g : Nat) (lane : Nat) (s : State) : Host.Outcome State Fault Refusal :=
  answer (Instr.laneReturn g lane).wf (doLaneReturn g lane s)

/-- The meaning of CASC_MEDIA_RX (R377). -/
def execCascMediaRx (g : Nat) (f : Flow5) (c : IpChecks) (ipLen : Nat) (p : Payload) (s : State) : Host.Outcome State Fault Refusal :=
  answer (Instr.cascMediaRx g f c ipLen p).wf (doCascMediaRx g f c ipLen p s)

/-- The meaning of CASC_GROUP (R383). -/
def execCascGroup (ch : Nat) (s : State) : Host.Outcome State Fault Refusal :=
  answer (Instr.cascGroup ch).wf (doCascGroup ch s)

/-- The meaning of CASC_GROUP_ENABLE_COMPLETE (R383). -/
def execCascGroupEnableComplete (g : Nat) (up : Bool) (s : State) : Host.Outcome State Fault Refusal :=
  answer (Instr.cascGroupEnableComplete g up).wf (doCascGroupEnableComplete g up s)

/-- The meaning of CASC_PEER (R384). -/
def execCascPeer (ch : Nat) (s : State) : Host.Outcome State Fault Refusal :=
  answer (Instr.cascPeer ch).wf (doCascPeer ch s)

end Sys2Proof.Machine
end

