-- ==== Sys2Proof/Machine/Keys.lean ====
section
/-! DEFINITION. Keys of a leg and key pages (R312, R315 to R327): the KEY commands, the end of a receive fallback, roll-over
of keys, the receive windows and the send index guards. -/

namespace Sys2Proof.Machine

abbrev evRekey : Nat := 0x0701
abbrev evKeyLimit : Nat := 0x0702
abbrev evKeyRoll : Nat := 0x0704

/-! ## Contexts and pages -/

/-- The hub half that processes the packets of a port (R310): its own, or the other while it is out of service. -/
def State.halfOf (s : State) (port : Nat) : Nat :=
  if s.prot.halves.getD (port / 8) false then port / 8 else 1 - port / 8

/-- Key contexts in use of a tenant (R312), those of destroyed legs included until they are freed (R324). -/
def State.contextsOf (s : State) (tenant : Nat) : Nat :=
  ((s.legs.filter fun p => s.legTenant p.2 == tenant).map fun p => p.2.keys.contexts).sum +
    ((s.keyDying.filter fun p => p.2.2.1 == tenant).map fun p => p.2.2.2).sum

/-- Engines bound to a tenant's page (R313). -/
def State.enginesOf (s : State) (tenant : Nat) : Nat := (s.ciphers.filter fun p => p.2.page == some tenant).length

/-- What the qualifiers of the cipher sources match for a leg (R500): the port is the hub half. -/
def State.occHalf (s : State) (leg : Nat) : Occ :=
  { obj := some leg, tenant := (s.leg leg).map s.legTenant, unit := (s.leg leg).map fun l => s.halfOf l.cfg.port }

/-- Change the keys of a leg. -/
def State.modKeys (s : State) (leg : Nat) (g : LegKeys → LegKeys) : State := s.modLeg leg fun l => { l with keys := g l.keys }

/-! ## Installing -/

/-- Install a key (R323): a current key starts fresh windows or guards, and a current send key ends REKEY_REQUIRED. -/
def LegKeys.install (k : LegKeys) (send next : Bool) (x : KeyCtx) : LegKeys :=
  match send, next with
  | false, false => { k with rxCur := some x, wins := [] }
  | false, true => { k with rxNext := some x }
  | true, false => { k with txCur := some x, guards := [], rekey := false, limitSrtp := false, limitSrtcp := false }
  | true, true => { k with txNext := some x }

/-- Has the direction a current key? -/
def LegKeys.keyed (k : LegKeys) (send : Bool) : Bool := if send then k.txCur.isSome else k.rxCur.isSome
/-- Is the slot of a direction occupied? -/
def LegKeys.holds (k : LegKeys) (send next : Bool) : Bool :=
  match send, next with
  | false, false => k.rxCur.isSome
  | false, true => k.rxNext.isSome
  | true, false => k.txCur.isSome
  | true, true => k.txNext.isSome

/-- The argument words of KEY.INSTALL that must be 0 (R323, R326). -/
def keyZeroWords (c : Ctx) : List (Bool × Nat × Nat) :=
  let prof := c.f 1 26 2
  ([6, 7, 8, 9].map fun k => badArg (prof ≠ 3 && c.w k ≠ 0#32) k) ++
    [badArg (if prof < 2 then c.f 13 0 16 ≠ 0 else c.w 13 ≠ 0#32) 13,
     badArg (!(c.bit 1 24 && c.bit 1 25) && c.w 14 ≠ 0#32) 14]

/-- KEY.INSTALL (R323). -/
def doKeyInstall (ch : Nat) (s : State) : State := runCmd ch 0x0701 (fun c s =>
  let leg := c.f 1 0 16
  let send := c.bit 1 24
  let next := c.bit 1 25
  let key : KeyCtx := { words := c.f 1 26 2 :: (List.range 12).map fun i => (c.w (i + 2)).toNat, atTick := (c.w 14).toNat }
  let t := s.modKeys leg fun k => k.install send next key
  let tenant := ((s.leg leg).map s.legTenant).getD 0xFFF
  let most := (tgetD s.pages tenant {}).ctxMax
  let keys := ((s.leg leg).map (·.keys)).getD {}
  checks ([legUsed s leg, reserved c 1 28 4] ++ keyZeroWords c ++ legObj s c.issuer leg (c.f 1 16 8) ++
      [(next && !keys.keyed send, eState, 0x0701), (!send && next && keys.rxFallUntil.isSome, eState, 0x0702),
       (decide (most ≠ 0) && decide (most < t.contextsOf tenant), eNospace, 0x0701)])
    (ok (t.rekeyed leg))) s

/-! ## Retiring -/

/-- Retire a slot (R324): a current key takes the next key of its direction with it. -/
def LegKeys.retire (k : LegKeys) (send next : Bool) : LegKeys :=
  match send, next with
  | false, false => { k with rxCur := none, rxNext := none, rxFallUntil := none }
  | false, true => { k with rxNext := none, rxFallUntil := none }
  | true, false => { k with txCur := none, txNext := none }
  | true, true => { k with txNext := none }

/-- Retire a slot of a leg: its fallback timer stops with the fallback. -/
def State.retireKey (s : State) (leg : Nat) (send next : Bool) : State :=
  let s := s.modKeys leg fun k => k.retire send next
  if send then s else s.stopTimer (.fallbackEnd leg)

/-- KEY.RETIRE (R324). -/
def doKeyRetire (ch : Nat) (s : State) : State := runCmd ch 0x0702 (fun c s =>
  let leg := c.f 1 0 16
  let send := c.bit 1 24
  let next := c.bit 1 25
  let keys := ((s.leg leg).map (·.keys)).getD {}
  checks ([legUsed s leg, reserved c 1 26 6] ++ legObj s c.issuer leg (c.f 1 16 8) ++ [(!keys.holds send next, eAlreadyDone, 0)])
    (ok ((s.retireKey leg send next).rekeyed leg))) s

/-! ## Pages -/

/-- Unbind the engines of a page, wiping them (R313, R325). -/
def State.wipePage (s : State) (tenant : Nat) : State :=
  let s' := { s with ciphers := tmap (fun e => if e.page = some tenant then { e with page := none } else e) s.ciphers }
  let bound := fun h : Nat => (s.ciphers.filter fun p => p.2.page == some tenant && p.1 / 1536 == h).length
  (s'.occurN srcCipherRebind { tenant := some tenant, unit := some 0 } (bound 0)).occurN srcCipherRebind { tenant := some tenant, unit := some 1 } (bound 1)

/-- Retire both current keys of a leg (R325). -/
def State.wipeLeg (s : State) (leg : Nat) : State := ((s.retireKey leg false false).retireKey leg true false).rekeyed leg

/-- KEY.PAGE (R325). -/
def doKeyPage (ch : Nat) (s : State) : State := runCmd ch 0x0703 (fun c s =>
  let t := c.f 1 0 12
  let op := c.f 1 12 2
  let ctx := c.f 2 0 19
  let eng := c.f 2 19 12
  let mine := s.legs.filter fun p => s.legTenant p.2 == t
  checks [badArg (op == 3) 1, badLen c (if op = 0 then 2 else 1), reserved c 1 14 18]
    (match op with
     | 0 =>
       checks [badArg (c.bit 2 31 || (ctx ≠ 0 && (decide (ctx < 4) || decide (262144 < ctx))) ||
           (eng ≠ 0 && (decide (eng < 96) || decide (3072 < eng)))) 2]
         (ok { s with pages := tset s.pages t { ctxMax := ctx, engMax := eng } })
     | 1 =>
       let held := mine.filter fun p => decide (0 < p.2.keys.contexts)
       okWords ((held.foldl (fun s p => s.wipeLeg p.1) s).wipePage t) [held.length]
     | _ => okWords s [s.contextsOf t, s.enginesOf t, (mine.filter fun p => p.2.keys.rekey).length])) s

/-- KEY_CONTEXT_FREE: the contexts of a destroyed leg are freed by the boundary of tick T + 2 (R324). -/
def doKeyContextFree (leg : Nat) (s : State) : State :=
  match tget s.keyDying leg with
  | some (t, _, _) => if t + 2 ≤ s.time.m && !s.timerSet (.keyFree leg) then { s with keyDying := tdel s.keyDying leg } else s
  | none => s

/-! ## Receiving (R318, R319) -/

/-- RX_FALLBACK_END: 500 ticks after a receive roll-over the fallback is wiped (R318). -/
def doRxFallbackEnd (leg : Nat) (s : State) : State :=
  match (s.leg leg).bind (·.keys.rxFallUntil) with
  | some t => if t ≤ s.time.m && !s.timerSet (.fallbackEnd leg) then s.modKeys leg fun k => { k with rxNext := none, rxFallUntil := none } else s
  | none => s

/-- Does a packet authenticate under a key? By reference (log entry 3): it is intact and was protected under these words. -/
def KeyCtx.opens (k : KeyCtx) (p : Protection) : Bool := p.intact && p.keyWords == k.words

/-- The key that a packet authenticates under: 0 current, 1 next slot (R318). -/
def LegKeys.authUnder (k : LegKeys) (p : Protection) : Option Nat :=
  if k.rxCur.any (·.opens p) then some 0
  else if k.rxNext.any (·.opens p) then some 1 else none

/-- Promote the receive next key, the old key staying as a fallback for 500 ticks (R318). -/
def State.rxRoll (s : State) (leg : Nat) : State :=
  let s := s.modKeys leg fun k => { k with rxCur := k.rxNext, rxNext := k.rxCur, rxFallUntil := some (s.time.m + 500) }
  (s.setTimer (s.time.m + 500) (.fallbackEnd leg)).postLeg leg { code := evKeyRoll, d0 := 0, d1 := s.tick }

/-- The window of an SSRC (R319). -/
def LegKeys.win (k : LegKeys) (ssrc : Nat) (rtcp : Bool) : Option RxWin := k.wins.find? fun w => w.ssrc == ssrc && w.rtcp == rtcp

/-- The SRTP index of a sequence number from the highest index received (RFC 3711, R319): the roll-over counter that brings
it nearest. -/
def rtpIndex (hi seq : Nat) : Nat :=
  let v := hi / 65536
  let l := hi % 65536
  if l < 32768 then (if l + 32768 < seq && 0 < v then (v - 1) * 65536 + seq else v * 65536 + seq)
  else if seq + 32768 < l then (v + 1) * 65536 + seq else v * 65536 + seq

/-- Is an index below its window, or already received (R319)? -/
def RxWin.replay (w : RxWin) (i : Nat) : Bool := decide (i + 256 ≤ w.hi) || w.seen.contains i

/-- The window after an authenticated index. -/
def RxWin.take (w : RxWin) (i : Nat) : RxWin :=
  let hi := max w.hi i
  { w with hi := hi, seen := i :: w.seen.filter fun j => decide (hi < j + 256) }

/-- Record an authenticated index of an SSRC: the first starts its window (R319). -/
def LegKeys.took (k : LegKeys) (ssrc : Nat) (rtcp : Bool) (i : Nat) : LegKeys :=
  match k.win ssrc rtcp with
  | some _ => { k with wins := k.wins.map fun w => if w.ssrc = ssrc && w.rtcp == rtcp then w.take i else w }
  | none => { k with wins := k.wins ++ [⟨ssrc, rtcp, i, [i]⟩] }

/-! ## Sending (R317, R320, R321) -/

/-- Bring a send next key into force when its tick has come (R317, R320). -/
def State.txRoll (s : State) (leg : Nat) : State :=
  match s.leg leg with
  | none => s
  | some l => match l.keys.txNext with
    | some k =>
      if 0 ≤ tickDiff s.tick k.atTick then
        (s.modKeys leg fun x => { (x.install true false k) with txNext := none }).postLeg leg { code := evKeyRoll, d0 := 1, d1 := s.tick }
      else s
    | none => s

/-- May an SRTP index be used on a stream (R320)? -/
def LegKeys.sendOk (k : LegKeys) (ssrc i : Nat) : Bool :=
  match k.guards.find? fun g => g.ssrc == ssrc with
  | none => true
  | some g => decide (g.hi < i) || (decide (g.hi < i + 1024) && !g.used.contains i)

/-- Mark an SRTP index as used. -/
def LegKeys.sendMark (k : LegKeys) (ssrc i : Nat) : LegKeys :=
  match k.guards.find? fun g => g.ssrc == ssrc with
  | none => { k with guards := k.guards ++ [⟨ssrc, i, [i]⟩] }
  | some g =>
    let hi := max g.hi i
    let g' : TxGuard := { g with hi := hi, used := i :: g.used.filter fun j => decide (hi < j + 1024) }
    { k with guards := k.guards.map fun x => if x.ssrc = ssrc then g' else x }

/-- Why a packet's index is refused (R320, R327): 0 it would repeat, 1 SRTP exhausted, 2 SRTCP exhausted. -/
def LegKeys.refusal (k : LegKeys) (rtcp : Bool) (ssrc i : Nat) : Option Nat :=
  if rtcp then (if 2 ^ 31 ≤ i then some 2 else if k.srtcpUsed.any (i ≤ ·) then some 0 else none)
  else if 2 ^ 48 ≤ i then some 1 else if k.sendOk ssrc i then none else some 0

/-- The index that a packet to a leg is encrypted with: its own for SRTP, the leg's next for SRTCP. -/
def sendIndex (k : LegKeys) (p : OutPkt) : Nat := if p.isRtcp then k.srtcp else p.roc * 65536 + p.seq

/-- Count a refused packet (R320). -/
def State.keyRefuse (s : State) (leg : Nat) : State := s.occur srcKeyRefuse (s.occHalf leg)

/-- The refusal of an index under the current send key: REKEY_REQUIRED with its event (R320). -/
def State.refuseIndex (s : State) (leg code ssrc i : Nat) : State :=
  ((s.keyRefuse leg).modKeys leg fun k => { k with rekey := true }).postLeg leg
    { code := evRekey, d0 := code, d1 := ssrc, d2 := i % 2 ^ 32, d3 := i / 2 ^ 32 }

/-- Use an index (R320), with EV_KEY_LIMIT at the first 2^47 of any stream or 2^30 of SRTCP under the key (R321). -/
def State.useIndex (s : State) (leg : Nat) (rtcp : Bool) (ssrc i : Nat) : State :=
  match s.leg leg with
  | none => s
  | some l =>
    let k := l.keys
    let e : Event := { code := evKeyLimit, d0 := b2n rtcp, d1 := ssrc, d2 := i % 2 ^ 32, d3 := i / 2 ^ 32 }
    if rtcp then
      let t := s.modKeys leg fun k => { k with srtcp := i + 1, srtcpUsed := some i, limitSrtcp := k.limitSrtcp || decide (2 ^ 30 ≤ i) }
      if decide (2 ^ 30 ≤ i) && !k.limitSrtcp then t.postLeg leg e else t
    else
      let t := s.modKeys leg fun k => { (k.sendMark ssrc i) with limitSrtp := k.limitSrtp || decide (2 ^ 47 ≤ i) }
      if decide (2 ^ 47 ≤ i) && !k.limitSrtp then t.postLeg leg e else t

/-! ## The meanings -/

/-- The meaning of KEY_INSTALL (R323). -/
def execKeyInstall (ch : Nat) (s : State) : Host.Outcome State Fault Refusal :=
  answer (Instr.keyInstall ch).wf (doKeyInstall ch s)

/-- The meaning of KEY_RETIRE (R324). -/
def execKeyRetire (ch : Nat) (s : State) : Host.Outcome State Fault Refusal :=
  answer (Instr.keyRetire ch).wf (doKeyRetire ch s)

/-- The meaning of KEY_PAGE (R325). -/
def execKeyPage (ch : Nat) (s : State) : Host.Outcome State Fault Refusal :=
  answer (Instr.keyPage ch).wf (doKeyPage ch s)

/-- The meaning of KEY_CONTEXT_FREE (R324). -/
def execKeyContextFree (leg : Nat) (s : State) : Host.Outcome State Fault Refusal :=
  answer (Instr.keyContextFree leg).wf (doKeyContextFree leg s)

/-- The meaning of RX_FALLBACK_END (R318). -/
def execRxFallbackEnd (leg : Nat) (s : State) : Host.Outcome State Fault Refusal :=
  answer (Instr.rxFallbackEnd leg).wf (doRxFallbackEnd leg s)

end Sys2Proof.Machine
end

