-- ==== Sys2Proof/Machine/Cipher.lean ====
section
/-! DEFINITION. The cipher farm's engines and gangs (R310 to R314): the pass of one packet through the farm, and the
known-answer tests of an engine. -/

namespace Sys2Proof.Machine

abbrev evCipherFault : Nat := 0x0703

/-- Cipher engine `e`. -/
def State.cipher (s : State) (e : Nat) : CipherEng := tgetD s.ciphers e {}
/-- Change cipher engine `e`. -/
def State.modCipher (s : State) (e : Nat) (g : CipherEng → CipherEng) : State := { s with ciphers := tset s.ciphers e (g (s.cipher e)) }

/-- Engines of a half that are in service (R314, R327). -/
def State.enginesIn (s : State) (half : Nat) : Nat :=
  1536 - (s.ciphers.filter fun p => p.1 / 1536 == half && (p.2.offline || p.2.testing)).length

/-- Counter blocks of a packet (R311). -/
def cipherBlocks (bytes : Nat) : Nat := max 1 ((bytes + 15) / 16)

/-- May these engines form a gang for a tenant's packet of `n` blocks in a half (R311, R313)? -/
def State.gangOk (s : State) (half tenant n : Nat) (es : List Nat) : Bool :=
  let most := (tgetD s.pages tenant {}).engMax
  !es.isEmpty && decide (es.length ≤ min 96 n) && decide (es.eraseDups.length = es.length) &&
    es.all (fun e => e / 1536 == half && !(s.cipher e).offline && !(s.cipher e).testing) &&
    (most == 0 || decide (s.enginesOf tenant + (es.filter fun e => (s.cipher e).page ≠ some tenant).length ≤ most))

/-- Bind a gang to a page: an engine of another page is rebound and counted (R313). -/
def State.bindGang (s : State) (tenant : Nat) (es : List Nat) : State :=
  es.foldl (fun s e =>
    let old := (s.cipher e).page
    let s := s.modCipher e fun x => { x with page := some tenant, lastUse := s.time.ref }
    if old.isSome && old ≠ some tenant then s.occur srcCipherRebind { tenant := some tenant, unit := some (e / 1536) } else s) s

/-- Take an engine offline with its event (R314, R327). -/
def State.cipherOffline (s : State) (e cause : Nat) : State :=
  let s := s.modCipher e fun x => { x with offline := true, testing := false }
  s.postAll { code := evCipherFault, obj := e, d0 := cause, d1 := e / 1536, d2 := s.enginesIn (e / 1536) }

/-- An engine that mismatched leaves service for known-answer tests, or for good at the second mismatch within 1,000 ticks
(R314). -/
def State.cipherMismatch (s : State) (e : Nat) : State :=
  let again := (s.cipher e).lastMismatch.any fun t => decide (s.time.m < t + 1000)
  let s := s.modCipher e fun x => { x with testing := true, lastMismatch := some s.time.m }
  if again then s.cipherOffline e 1 else s

/-- What one packet's passage through the farm leaves: released, dropped, or not started for want of a gang. -/
inductive CipherOut where
  | released (s : State)
  | dropped (s : State)
  | waits

/-- One packet's passage (R311 to R314): binding, the comparison of every block, one retry on another gang. -/
def State.cipherPass (s : State) (half tenant n : Nat) (r : CipherRun) : CipherOut :=
  if !s.gangOk half tenant n r.engines then .waits
  else
    let o : Occ := { tenant := some tenant, unit := some half }
    let s := s.bindGang tenant r.engines
    let bad := r.engines.filter r.mismatch.contains
    let refused := r.tenantRefuse.filter r.engines.contains
    if bad.isEmpty && refused.isNone then .released s
    else
      let s := match refused with
        | some e => (s.occur srcCipherTenantRefuse o).cipherOffline e 3
        | none => s
      let s := if bad.isEmpty then s else s.occur srcCipherMismatch o
      let s := bad.foldl (fun s e => s.cipherMismatch e) s
      let retry := r.retryEngines.filter fun e => !r.engines.contains e
      if !s.gangOk half tenant n retry then .waits
      else
        let s := s.bindGang tenant retry
        let bad2 := retry.filter r.retryMismatch.contains
        match bad2 with
        | [] => .released s
        | e :: _ =>
          let s := (s.occur srcCipherMismatch o).occur srcCipherRetryFail o
          let s := s.postAll { code := evCipherFault, obj := e, d0 := 0, d1 := half, d2 := s.enginesIn half }
          .dropped (bad2.foldl (fun s e => s.cipherMismatch e) s)

/-- CIPHER_KAT: the known-answer tests of an engine end (R314). -/
def doCipherKat (engine : Nat) (pass : Bool) (s : State) : State :=
  if !(s.cipher engine).testing then s
  else if pass then s.modCipher engine fun x => { x with testing := false }
  else s.cipherOffline engine 2

/-! ## The meanings -/

/-- The meaning of CIPHER_KAT (R314). -/
def execCipherKat (engine : Nat) (pass : Bool) (s : State) : Host.Outcome State Fault Refusal :=
  answer (Instr.cipherKat engine pass).wf (doCipherKat engine pass s)

end Sys2Proof.Machine
end

