-- ==== Sys2Proof/Machine/Dsp.lean ====
section
/-! DEFINITION. The DSP cores of a cluster (R281 to R303): registers, arithmetic, addressing, the exposed pipeline, loops,
interrupts, and the switch between DUAL and SPLIT. -/

namespace Sys2Proof.Machine

abbrev evDmode : Nat := 0x1203

/-! ## Status (R282) -/

/-- A number with one bit replaced. -/
def withBit (n i : Nat) (b : Bool) : Nat := n / 2 ^ (i + 1) * 2 ^ (i + 1) + b2n b * 2 ^ i + n % 2 ^ i

/-- IE, PRIV, RMODE and BX of a core. -/
def Core.ie (c : Core) : Bool := hasBit c.sr 0
def Core.priv (c : Core) : Bool := hasBit c.sr 3
def Core.rmode (c : Core) : Bool := hasBit c.sr 4
def Core.bx (c : Core) : Bool := hasBit c.sr 5

/-- A write to SR (R282, R287): IE only in microcode, a 1 to RMODE only while BX is 1, SV and AV cleared by 1. -/
def Core.srWrite (c : Core) (v : Nat) : Core :=
  let x := withBit c.sr 0 (if c.priv then hasBit v 0 else c.ie)
  let x := withBit x 4 (hasBit v 4 && (c.bx || c.rmode))
  let x := withBit x 8 (hasBit c.sr 8 && !hasBit v 8)
  { c with sr := withBit x 9 (hasBit c.sr 9 && !hasBit v 9) }

/-- SV and AV set as an instruction sets them. -/
def Core.stick (c : Core) (sv av : Bool) : Core := { c with sr := withBit (withBit c.sr 8 (hasBit c.sr 8 || sv)) 9 (hasBit c.sr 9 || av) }

/-! ## Registers (R281) -/

/-- The value of a register, unsigned. -/
def Core.read (c : Core) : DReg → Nat
  | .d n => tgetD c.d n 0
  | .a n => tgetD c.a n 0
  | .m n => tgetD c.m n 0
  | .base n => tgetD c.base n 0
  | .len n => tgetD c.len n 0
  | .lcount n => tgetD c.lcount n 0
  | .lstart n => tgetD c.lstart n 0
  | .lend n => tgetD c.lend n 0
  | .lr => c.lr
  | .sr => c.sr
  | .ipc => c.ipc
  | .isr => c.isr
  | .ccountLo => c.ccount % 2 ^ 32
  | .ccountHi => c.ccount / 2 ^ 32

/-- The width of a register. -/
def dregBits : DReg → Nat
  | .d _ => 64
  | .base _ => 18
  | .len _ => 19
  | .lstart _ => 16
  | .lend _ => 16
  | .lr => 16
  | .ipc => 16
  | _ => 32

/-- The bits `lo` to `lo + n − 1` of `old` replaced by those of `v`. -/
def putBits (old lo n v : Nat) : Nat := old / 2 ^ (lo + n) * 2 ^ (lo + n) + v % 2 ^ n * 2 ^ lo + old % 2 ^ lo

/-- A register written; CCOUNT is read-only. -/
def Core.write (c : Core) (r : DReg) (v : Nat) : Core :=
  let v := v % 2 ^ dregBits r
  match r with
  | .d n => { c with d := tset c.d n v }
  | .a n => { c with a := tset c.a n v }
  | .m n => { c with m := tset c.m n v }
  | .base n => { c with base := tset c.base n v }
  | .len n => { c with len := tset c.len n v }
  | .lcount n => { c with lcount := tset c.lcount n v }
  | .lstart n => { c with lstart := tset c.lstart n v }
  | .lend n => { c with lend := tset c.lend n v }
  | .lr => { c with lr := v }
  | .sr => c.srWrite v
  | .ipc => { c with ipc := v }
  | .isr => { c with isr := v }
  | .ccountLo => c
  | .ccountHi => c

/-! ## Results in flight (R289, R290) -/

/-- Bundles until a write to a register by the arithmetic slot is usable. -/
def moveLatency : DReg → Nat
  | .base _ => 2
  | .len _ => 2
  | _ => 1

/-- A result lands. -/
def Core.land (c : Core) (f : Flight) : Core := c.write f.dst (putBits (c.read f.dst) f.lo f.n f.val)
/-- An accumulator result lands. -/
def Core.landAcc (c : Core) (f : AccFlight) : Core := { c with ac := tset c.ac f.ac f.val }

/-- One bundle passes: the results whose latency ends land in the order of their issue. -/
def Core.age (c : Core) : Core :=
  let fs := c.flights.map fun f => { f with left := f.left - 1 }
  let gs := c.accFlights.map fun f => { f with left := f.left - 1 }
  let c := { c with flights := fs.filter fun f => f.left ≠ 0, accFlights := gs.filter fun f => f.left ≠ 0 }
  (gs.filter fun f => f.left = 0).foldl Core.landAcc ((fs.filter fun f => f.left = 0).foldl Core.land c)

/-- Every result in flight lands (R291). -/
def Core.landAll (c : Core) : Core := c.accFlights.foldl Core.landAcc (c.flights.foldl Core.land { c with flights := [], accFlights := [] })

/-- The value that an accumulation takes: the latest of the accumulator, in flight or not. -/
def Core.accNow (c : Core) (ac : Nat) : Nat := ((c.accFlights.reverse.find? fun f => f.ac == ac).map (·.val)).getD (tgetD c.ac ac 0)

/-! ## Arithmetic (R283 to R286) -/

/-- Lane `i` of width `w`. -/
def laneOf (w v i : Nat) : Nat := v / 2 ^ (w * i) % 2 ^ w
/-- A signed lane. -/
def laneInt (w v i : Nat) : Int := signed w (laneOf w v i)
/-- An integer limited to a signed width, and whether it was limited. -/
def satTo (w : Nat) (x : Int) : Int × Bool :=
  let y := max (-(2 ^ (w - 1) : Int)) (min ((2 ^ (w - 1) : Int) - 1) x)
  (y, decide (y ≠ x))
/-- A result with `n` low-order bits dropped under RMODE (R286). -/
def roundShift (trunc : Bool) (x : Int) (n : Nat) : Int :=
  if n = 0 then x else if trunc then x / (2 ^ n : Int) else (x + 2 ^ (n - 1)) / (2 ^ n : Int)

/-- One lane of an operation: its value and whether it saturated. A shift by the lane's width or more leaves a free value. -/
def laneOne (op : LaneOp) (sat : Bool) (w x y : Nat) (free : Nat) : Nat × Bool :=
  let fit := fun v : Int => if sat then (field w (satTo w v).1, (satTo w v).2) else (field w v, false)
  match op with
  | .add => fit (signed w x + signed w y)
  | .sub => fit (signed w x - signed w y)
  | .shl => if w ≤ y then (free % 2 ^ w, false) else fit (signed w x * 2 ^ y)
  | .shr => if w ≤ y then (free % 2 ^ w, false) else fit (signed w x / (2 ^ y : Int))
  | .and => (x &&& y, false)
  | .or => (x ||| y, false)
  | .xor => (x ^^^ y, false)
  | .mov => (x, false)

/-- A register from its lanes. -/
def fromLanes (w : Nat) (l : List Nat) : Nat := (l.zipIdx.map fun x => x.1 % 2 ^ w * 2 ^ (w * x.2)).sum

/-- Lane by lane: `g` gives a lane's value and whether it saturated. -/
def lanewise (w : Nat) (g : Nat → Nat × Bool) : Nat × Bool :=
  let l := (List.range (64 / w)).map g
  (fromLanes w (l.map (·.1)), l.any (·.2))

/-- Add to a signed accumulator of `w` bits: the sum modulo 2^w, and whether it wrapped (R284). -/
def accAdd (w old : Nat) (x : Int) : Nat × Bool :=
  let v := signed w old + x
  (field w v, decide (signed w (field w v) ≠ v))

/-- Add to both halves of an accumulator. -/
def halvesAdd (old : Nat) (lo hi : Int) : Nat × Bool :=
  let a := accAdd 40 (old % 2 ^ 40) lo
  let b := accAdd 40 (old / 2 ^ 40) hi
  (a.1 + b.1 * 2 ^ 40, a.2 || b.2)

/-- What slot 2 leaves: accumulators, a register, SV and AV. -/
structure MacOut where
  acc : List AccFlight := []
  fl : List Flight := []
  sv : Bool := false
  av : Bool := false

/-- Slot 2 (R284, R285). -/
def Core.mac (c : Core) : MacInstr → MacOut
  | .nop => {}
  | .mac32 x y p q =>
    let u := c.read (.d x)
    let v := c.read (.d y)
    let a := accAdd 80 (c.accNow p) (laneInt 32 u 0 * laneInt 32 v 0)
    let b := accAdd 80 (c.accNow q) (laneInt 32 u 1 * laneInt 32 v 1)
    { acc := [⟨2, p, a.1⟩, ⟨2, q, b.1⟩], av := a.2 || b.2 }
  | .mac16 x y p q =>
    let u := c.read (.d x)
    let v := c.read (.d y)
    let m := fun i => laneInt 16 u i * laneInt 16 v i
    let a := halvesAdd (c.accNow p) (m 0) (m 1)
    let b := halvesAdd (c.accNow q) (m 2) (m 3)
    { acc := [⟨2, p, a.1⟩, ⟨2, q, b.1⟩], av := a.2 || b.2 }
  | .add32 x ac =>
    let a := halvesAdd (c.accNow ac) (laneInt 32 (c.read (.d x)) 0) (laneInt 32 (c.read (.d x)) 1)
    { acc := [⟨2, ac, a.1⟩], av := a.2 }
  | .extract ac half rd lane bits shift =>
    let v := tgetD c.ac ac 0
    let x := match half with
      | .full => signed 80 v
      | .lo => signed 40 (v % 2 ^ 40)
      | .hi => signed 40 (v / 2 ^ 40)
    let r := satTo bits (roundShift c.rmode x shift)
    { fl := [⟨2, .d rd, bits * lane, bits, field bits r.1⟩], sv := r.2 }
  | .clear ac => { acc := [⟨2, ac, 0⟩] }

/-! ## Addressing (R292, R293, R303) -/

/-- An update of an address register, corrected once in a circular buffer (R293). -/
def circular (base len : Nat) (a : Nat) (step : Int) : Nat :=
  let t := (a : Int) + step
  let t := if len ≠ 0 then (if (base : Int) + len ≤ t then t - len else if t < base then t + len else t) else t
  field 32 t

/-- The address used and the new value of the address register of an access (R292). -/
def Core.address (c : Core) (n : Nat) (mode : AddrMode) (size : Nat) : Int × Option Nat :=
  let an := c.read (.a n)
  let at_ : Int := (an % 2 ^ 18 : Nat)
  let m := signed 32 (c.read (.m n))
  let upd := fun step : Int => some (circular (c.read (.base n)) (c.read (.len n)) an step)
  match mode with
  | .offset i => (at_ + i * size, none)
  | .indexed => (at_ + m, none)
  | .postMod => (at_, upd m)
  | .postInc i => (at_, upd (i * size))

/-- A window of data memory: first byte, one past the last, and whether it may be written (R303). -/
structure Window where
  lo : Nat
  hi : Nat
  write : Bool

/-- The windows of a stage resident in slot `k` (R303). -/
def stageWindows (k : Nat) (st : Stage) : List Window :=
  [⟨0x10000 + k * 0x2000, 0x10000 + k * 0x2000 + st.consts.length, false⟩, ⟨0x1B000, 0x1B020, false⟩, ⟨0x1B040, 0x1B100, false⟩,
   ⟨0x1B140, 0x1B200, true⟩, ⟨0x20000 - st.scratch, 0x20000, true⟩, ⟨0x20000, 0x20000 + st.state, true⟩]

/-- The stages resident on a cluster, by slot: the distinct ones that its flows run, in ascending order (R206, R303). -/
def State.resident (s : State) (cl : Nat) : List Nat :=
  let c := ((s.cluster cl).group.map (·.1)).getD cl
  sortBy (fun a b => decide (a < b)) ((s.flowsOn c).flatMap fun p => s.ownerStages p.2.owner).eraseDups

/-- The windows that a core may access: all of data memory in microcode, those of the stage whose code runs otherwise. -/
def State.windows (s : State) (core : Nat) (c : Core) : List Window :=
  if c.priv then [⟨0, 0x40000, true⟩]
  else if c.pc < 0x8000 then []
  else
    let k := (c.pc - 0x8000) / 0x2000
    (((s.resident (core / 4))[k]?).bind (tget s.stages)).elim [] (stageWindows k)

/-- What slot 0 or 1 leaves: a fault, the address accessed, registers, bytes stored. -/
structure LsOut where
  fault : Bool := false
  addr : Option Nat := none
  fl : List Flight := []
  st : List (Nat × Byte) := []

/-- Slot 0 or 1. The bits of `Dn` above those loaded are a free value. -/
def Core.ls (c : Core) (ws : List Window) (free : Nat) (i : LsInstr) : LsOut :=
  let go := fun (n : Nat) (mode : AddrMode) (size : Nat) (write : Bool) (g : Nat → LsOut) =>
    let a := c.address n mode size
    let ok := decide (0 ≤ a.1) && a.1 % size == 0 && ws.any fun w => decide ((w.lo : Int) ≤ a.1) && decide (a.1 + size ≤ w.hi) && (w.write || !write)
    if !ok then { fault := true }
    else
      let r := g a.1.toNat
      { r with addr := some a.1.toNat, fl := r.fl ++ (a.2.map fun v => (⟨1, .a n, 0, 32, v⟩ : Flight)).toList }
  match i with
  | .nop => {}
  | .load rd n mode size => go n mode size false fun a =>
      { fl := [⟨3, .d rd, 0, 64, leNat (memReadList c.data a size) + free % 2 ^ (64 - 8 * size) * 2 ^ (8 * size)⟩] }
  | .store rs n mode size => go n mode size true fun a =>
      { st := (leBytes (c.read (.d rs)) size).zipIdx.map fun x => (a + x.2, x.1) }
  | .update n mode size =>
    { fl := ((c.address n mode size).2.map fun v => (⟨1, .a n, 0, 32, v⟩ : Flight)).toList }

/-! ## Slot 3 -/

/-- What slot 3 leaves: a fault, registers, SV, a branch to be taken, a loop to be set (level, last, count), a return from
interrupt. -/
structure AluOut where
  fault : Bool := false
  fl : List Flight := []
  sv : Bool := false
  target : Option Nat := none
  loop : Option (Nat × Nat × Nat) := none
  reti : Bool := false

/-- May the core's context write the register with this value (R282, R306)? -/
def Core.mayWrite (c : Core) (r : DReg) (v : Nat) : Bool :=
  c.priv || match r with
    | .sr => hasBit v 0 == c.ie
    | .ipc => false
    | .isr => false
    | _ => true

/-- A move into a register. -/
def Core.moveTo (c : Core) (r : DReg) (v : Nat) : AluOut :=
  if c.mayWrite r v then { fl := [⟨moveLatency r, r, 0, dregBits r, v⟩] } else { fault := true }

/-- Slot 3 (R283, R286, R288, R298). -/
def Core.alu (c : Core) (free : Nat → Nat) : AluInstr → AluOut
  | .nop => {}
  | .lane op w sat rd rx ry =>
    let u := c.read (.d rx)
    let v := c.read (.d ry)
    let r := lanewise w fun i => laneOne op sat w (laneOf w u i) (laneOf w v i) (free i)
    { fl := [⟨1, .d rd, 0, 64, r.1⟩], sv := r.2 }
  | .roundShift w rd rx n =>
    let r := lanewise w fun i => (field w (roundShift c.rmode (laneInt w (c.read (.d rx)) i) n), false)
    { fl := [⟨1, .d rd, 0, 64, r.1⟩] }
  | .fracMul w rd rx ry =>
    let r := lanewise w fun i =>
      let p := roundShift c.rmode (laneInt w (c.read (.d rx)) i * laneInt w (c.read (.d ry)) i) (w - 1)
      (if (satTo w p).2 then free i % 2 ^ w else field w p, false)
    { fl := [⟨1, .d rd, 0, 64, r.1⟩] }
  | .move dst src => c.moveTo dst (c.read src)
  | .moveImm dst imm => c.moveTo dst imm
  | .branch t => { target := some t }
  | .branchZero rx t => if c.read (.d rx) = 0 then { target := some t } else {}
  | .call t => { target := some t, fl := [⟨1, .lr, 0, 16, c.pc + 48⟩] }
  | .ret => { target := some c.lr }
  | .loop level last count => { loop := some (level, last, count % 2 ^ 32) }
  | .reti => if c.priv then { reti := true } else { fault := true }
  | .illegal => { fault := true }

/-- Is the instruction a branch or return, which the delay slot of another must not hold (R290)? -/
def isBranch : AluInstr → Bool
  | .branch _ => true
  | .branchZero _ _ => true
  | .call _ => true
  | .ret => true
  | .reti => true
  | _ => false

/-! ## Loops (R298, R299) -/

/-- The evaluation of the loops at the end of a bundle: the core and the next bundle's address. -/
def Core.loops (c : Core) : Core × Nat :=
  let n0 := tgetD c.lcount 0 0
  let n1 := tgetD c.lcount 1 0
  let end0 := c.pc = tgetD c.lend 0 0
  let end1 := c.pc = tgetD c.lend 1 0
  if end1 && decide (1 < n1) then ({ c with lcount := tset c.lcount 1 (n1 - 1) }, tgetD c.lstart 1 0)
  else
    let c := if end1 && n1 == 1 then { c with lcount := tset c.lcount 1 0 } else c
    if end0 && decide (1 < n0) then ({ c with lcount := tset c.lcount 0 (n0 - 1) }, tgetD c.lstart 0 0)
    else ((if end0 && n0 == 1 then { c with lcount := tset c.lcount 0 0 } else c), (c.pc + 16) % 65536)

/-- A LOOP at issue: the core, and for a count of 0 the bundle after the body. -/
def Core.setLoop (c : Core) (level last count : Nat) : Core × Option Nat :=
  ({ c with lstart := tset c.lstart level ((c.pc + 16) % 65536), lend := tset c.lend level last, lcount := tset c.lcount level count },
   if count = 0 then some ((last + 16) % 65536) else none)

/-! ## Bundles (R288) -/

/-- Cycles that a bundle stalls for data memory (R294, R295). -/
def stallOf (split : Bool) (addrs : List Nat) : Nat :=
  let bank := fun b => (addrs.filter fun a => a / 0x20000 == b).length
  if split then max (bank 0) (bank 1) - 1 else 0

/-- SR restored from ISR at a return from interrupt (R300): DMODE goes on showing the cluster's mode, reserved bits read 0, and
RMODE is 0 in a context whose BX is 0 (R282, R287). -/
def Core.restored (c : Core) : Nat :=
  let x := withBit (withBit (c.isr % 1024) 6 (hasBit c.sr 6)) 7 false
  withBit x 4 (hasBit x 4 && hasBit x 5)

/-- The end of a bundle: where the core goes on. A landing branch wins over the loops (R299). -/
def Core.goOn (c : Core) (o : AluOut) : Core :=
  if o.reti then { c with sr := c.restored, pc := c.ipc, branch := none }
  else
    let l := match o.loop with
      | some (level, last, count) => c.setLoop level last count
      | none => (c, none)
    let cost := if l.2.isSome then 2 else 0
    let c := { l.1 with ccount := (l.1.ccount + cost) % 2 ^ 64 }
    match c.branch with
    | some (1, t) => { c with pc := t, branch := none }
    | b =>
      let next : Option (Nat × Nat) := match b with
        | some (n, t) => some (n - 1, t)
        | none => o.target.map fun t => (2, t)
      let c := { c with branch := next }
      match l.2 with
      | some p => { c with pc := p }
      | none => let r := c.loops; { r.1 with pc := r.2 }

/-- One bundle of a core: the core after it, the stall cycles, or none where it causes a fault. -/
def Core.bundle (c : Core) (ws : List Window) (split : Bool) (free : Nat → Nat) (b : Bundle) : Option (Core × Nat) :=
  let x := c.ls ws (free 0) b.s0
  let y := c.ls ws (free 1) b.s1
  let m := c.mac b.s2
  let o := c.alu (fun i => free (2 + i)) b.s3
  if x.fault || y.fault || o.fault || (isBranch b.s3 && c.branch.isSome) then none
  else
    let stall := stallOf split (x.addr.toList ++ y.addr.toList)
    let c := { (c.stick (m.sv || o.sv) m.av) with
      flights := c.flights ++ x.fl ++ y.fl ++ m.fl ++ o.fl, accFlights := c.accFlights ++ m.acc
      data := x.st.foldl (fun (d : List Host.Cell) (p : Nat × Byte) => memWrite d p.1 p.2) c.data, ccount := (c.ccount + 1 + stall) % 2 ^ 64 }
    some ((c.goOn o).age, stall)

/-- CORE_BUNDLE: a powered core issues the bundle at its PC (R288 to R299). One that causes a fault has no effect of its own; the
core takes the fault before it issues again (R300). -/
def doCoreBundle (core : Nat) (b : Bundle) (s : State) : State :=
  let c := s.core core
  let cl := core / 4
  if !s.power.pdOn.contains cl || c.pendingFault then s
  else
    let n := s.fresh
    let s := { s with fresh := n + 6 }
    match c.bundle (s.windows core c) (s.rail cl).split (fun i => Config.freeValue (n + i)) b with
    | none => s.modCore core fun c => { c with pendingFault := true }
    | some (c, stall) => (s.modCore core fun _ => c).occurN srcSplitStall { cl := some cl } stall

/-! ## Interrupts (R300, R301) -/

/-- The hardware's part of taking an interrupt (R300): the depth IL stays within its field. -/
def Core.interrupt (c : Core) (handler : Nat) : Core :=
  let c := c.landAll
  let il := c.sr / 2 % 4
  let x := withBit (withBit c.sr 0 false) 3 true
  { c with ipc := c.pc, isr := c.sr, sr := x + (min 3 (il + 1) - il) * 2, pc := handler, pendingFault := false, branch := none }

/-- CORE_INTERRUPT: a fault is taken at the bundle that caused it; any other interrupt only while IE is 1, outside branch delay
slots. -/
def doCoreInterrupt (core : Nat) (kind : CoreInt) (handler : Nat) (s : State) : State :=
  let c := s.core core
  let take := if c.pendingFault then kind == .fault else kind != .fault && c.ie && c.branch.isNone
  if s.power.pdOn.contains (core / 4) && take then s.modCore core fun c => c.interrupt handler else s

/-! ## DUAL and SPLIT (R296, R297) -/

/-- A core through a switch: it holds for 8 cycles and shows the new mode. -/
def Core.switchMode (c : Core) (split : Bool) : Core := { c with ccount := (c.ccount + 8) % 2 ^ 64, sr := withBit c.sr 6 split }

/-- EV_DMODE at most once every 100 ticks (R297). -/
def State.dmodeEvent (s : State) (cl : Nat) (split : Bool) : State :=
  let r := s.rail cl
  if r.dmodeEv.any fun t => decide (s.time.m < t + 100) then s
  else (s.modRail cl fun r => { r with dmodeN := 0, dmodeEv := some s.time.m }).postAll
    { code := evDmode, obj := cl, d0 := b2n split, d1 := r.dmodeN, d2 := r.mv }

/-- A cluster switches its operand fetch (R296): all four cores at one cycle. -/
def State.switchMode (s : State) (cl : Nat) (split : Bool) : State :=
  let s := (List.range 4).foldl (fun s k => s.modCore (4 * cl + k) fun c => c.switchMode split) s
  (s.modRail cl fun r => { r with split := split, splitTick := s.time.m, dmodeN := r.dmodeN + 1 }).dmodeEvent cl split

/-- DMODE_SWITCH (R296, R469): to SPLIT once the margin at 0.68 V has stayed above 8 % for 100 ticks, or back to DUAL at 0.68 V or
more and no sooner than one tick after entering SPLIT. -/
def doDmodeSwitch (cl : Nat) (split : Bool) (s : State) : State :=
  let r := s.rail cl
  if !s.power.pdOn.contains cl || r.split == split then s
  else if split && !r.lowSince.any (fun t => decide (t + 100 ≤ s.time.m)) then s
  else if !split && (decide (r.mv < 680) || decide (s.time.m < r.splitTick + 1)) then s
  else s.switchMode cl split

/-! ## The meanings -/

/-- The meaning of CORE_BUNDLE (R288). -/
def execCoreBundle (core : Nat) (b : Bundle) (s : State) : Host.Outcome State Fault Refusal :=
  answer (Instr.coreBundle core b).wf (doCoreBundle core b s)

/-- The meaning of CORE_INTERRUPT (R300). -/
def execCoreInterrupt (core : Nat) (kind : CoreInt) (handler : Nat) (s : State) : Host.Outcome State Fault Refusal :=
  answer (Instr.coreInterrupt core kind handler).wf (doCoreInterrupt core kind handler s)

/-- The meaning of DMODE_SWITCH (R296). -/
def execDmodeSwitch (cl : Nat) (split : Bool) (s : State) : Host.Outcome State Fault Refusal :=
  answer (Instr.dmodeSwitch cl split).wf (doDmodeSwitch cl split s)

end Sys2Proof.Machine
end

