-- ==== Sys2Proof/Machine/Encrypt.lean ====
section
/-! DEFINITION. SRTP_ENCRYPT: the passage of a packet that the module sends through the cipher farm, and its entry into the
leg queue (R140, R170, R171, R175, R310, R311, R317, R320). -/

namespace Sys2Proof.Machine

/-- The absolute send time of TB0 (R170): 6.18 fixed-point seconds. -/
def State.absSend (s : State) : Nat := (s.base 0).val * 2 ^ 18 / secU % 2 ^ 24

/-- A packet with the absolute send time that it leaves with, written before it is protected (R170). -/
def OutPkt.stamped (p : OutPkt) (now : Nat) : OutPkt :=
  { p with exts := p.exts.map fun e => match e.val with
    | .absSend _ => { e with val := .absSend now }
    | _ => e }

/-- Encrypted bytes of a packet (R308, R311). -/
def OutPkt.cipherBytes (p : OutPkt) : Nat := if p.isRtcp then p.payloadLen - 8 else p.payloadLen + if p.osn.isSome then 2 else 0

/-- Is the packet a copy whose IP length exceeds the receiver's MTU (R171)? -/
def OutPkt.overMtu (p : OutPkt) (l : Leg) (profile : Nat) : Bool := !p.isRtcp && p.slot.isSome && decide (l.pol.mtu < p.ipLen l.cfg profile)

/-- The protected packet enters the leg queue (R140); an IPv4 leg's identification counter advances (R171). -/
def State.protect (s : State) (p : OutPkt) (words : List Nat) (i : Nat) : State :=
  match s.leg p.leg with
  | none => s
  | some l =>
    let q := { p.stamped s.absSend with encrypted := true, keyWords := words }
    let s := s.useIndex p.leg p.isRtcp p.ssrc i
    let s := if l.cfg.ipv6 then s else s.modLeg p.leg fun l => { l with ipId := (l.ipId + 1) % 65536 }
    s.enqueueLeg p.leg q (frameBytes l.cfg (q.ipLen l.cfg (keyProfile words)))

/-- A packet of a live leg meets its send key (R317, R320): `t` is the state in which the packet has left the line, and
`back` the one in which it still waits. -/
def State.encryptOne (t back : State) (p : OutPkt) (run : CipherRun) : State :=
  let t := t.txRoll p.leg
  match t.leg p.leg with
  | none => t
  | some l => match l.keys.txCur with
    | none => t
    | some k =>
      let half := t.halfOf l.cfg.port
      let i := sendIndex l.keys p
      if l.keys.rekey then t.keyRefuse p.leg
      else if p.overMtu l (keyProfile k.words) then t.occur srcFwdMtuDrop (t.occLeg p.leg)
      else match l.keys.refusal p.isRtcp p.ssrc i with
        | some code => t.refuseIndex p.leg code p.ssrc i
        | none =>
          if !(t.prot.halves.getD half false) then back
          else match t.cipherPass half (t.legTenant l) (cipherBlocks p.cipherBytes) run with
            | .waits => back
            | .dropped u => u
            | .released u => u.protect p k.words i

/-- SRTP_ENCRYPT: the packet at the head passes the farm half of its egress port. One for a leg that is gone counts
LEG_GONE_DISCARD (R137), one for a yielded leg PROT_YIELD_DROP (R425), and a leg that is not live sends nothing (R126). -/
def doSrtpEncrypt (run : CipherRun) (s : State) : State :=
  match s.outQ with
  | [] => s
  | p :: rest =>
    let t := { s with outQ := rest }
    match s.leg p.leg with
    | none => t.occur srcLegGoneDiscard { obj := some p.leg }
    | some l =>
      if l.gen ≠ p.gen then t.occur srcLegGoneDiscard { obj := some p.leg }
      else if l.yielded then t.occur srcProtYieldDrop (t.occLeg p.leg)
      else if l.state ≠ 1 then t
      else t.encryptOne s p run

/-! ## The meanings -/

/-- The meaning of SRTP_ENCRYPT (R320). -/
def execSrtpEncrypt (run : CipherRun) (s : State) : Host.Outcome State Fault Refusal :=
  answer (Instr.srtpEncrypt run).wf (doSrtpEncrypt run s)

end Sys2Proof.Machine
end

