-- ==== Sys2Proof/Machine/Forward.lean ====
section
/-! DEFINITION. The forwarding commands (R181 to R187): FWD.POLICY, FWD.SUBSCRIBE and FWD.PIN. -/

namespace Sys2Proof.Machine

/-! ## FWD.POLICY (R184) -/

/-- SELECT 0: the estimator. Until the estimate first runs, it and the rate of the leg's shaper follow A_START (R163, R332). -/
def fwdEstimator (c : Ctx) (s : State) (leg : Nat) (objs : List (Bool × Nat × Nat)) : Reply :=
  let put := fun l : Leg =>
    let p := { l.pol with
      aMin := c.f 2 0 16, aStart := c.f 2 16 16, aMax := c.f 3 0 24, headroom := c.f 3 24 8, shapePct := c.f 4 0 8
      fbMode := c.f 4 8 2, probe := c.bit 4 10, layerEv := c.bit 4 11, sendBye := c.bit 4 12, rsize := c.bit 4 13
      upHold := c.f 5 0 16, keyMin := c.f 5 16 16 }
    if l.est.lastRun.isNone then Leg.setShaper { l with pol := p, est := { l.est with a := c.f 2 16 16 * 1000 } } else { l with pol := p }
  checks ([badArg (c.f 2 0 16 < 16 || decide (c.f 2 16 16 < c.f 2 0 16)) 2, badArg (50 < c.f 3 24 8) 3,
      badArg (c.f 4 0 8 < 100 || 250 < c.f 4 0 8 || c.f 4 14 18 ≠ 0) 4,
      badArg (60000 < c.f 5 0 16 || c.f 5 16 16 < 100 || 5000 < c.f 5 16 16) 5] ++ objs)
    (ok (s.modLeg leg put))

/-- SELECT 1: transport. Mapping or unmapping the audio level of a feeding leg changes its decode places (R192, R195). -/
def fwdTransport (c : Ctx) (s : State) (leg : Nat) (objs : List (Bool × Nat × Nat)) : Reply :=
  let ids := [c.f 3 0 4, c.f 3 4 4, c.f 3 8 4, c.f 3 12 4, c.f 3 16 4]
  let used := ids.filter (· ≠ 0)
  let t := s.modLeg leg fun l => { l with pol := { l.pol with
    mtu := c.f 2 0 14, rtcpIv := c.f 2 16 16, idLevel := c.f 3 0 4, idTwSeq := c.f 3 4 4, idDd := c.f 3 8 4, idFm := c.f 3 12 4
    idAst := c.f 3 16 4, twoByteOk := c.bit 3 20 } }
  checks ([badArg (c.f 2 0 14 < 576 || 9000 < c.f 2 0 14 || c.f 2 14 2 ≠ 0 || c.f 2 16 16 < 100 || 10000 < c.f 2 16 16) 2,
      badArg (used.contains 15 || decide (used.eraseDups.length ≠ used.length) || c.f 3 21 11 ≠ 0) 3] ++ objs ++
      [((s.leg leg).any (fun l => l.cfg.feeds) && (placesFull t).1, eNospace, 0x0901)])
    (withFlows t (softFor leg) ok)

/-- The track that SELECT 2 declares over the one declared before: encodings whose SSRCs stay keep their state. -/
def declaredTrack (c : Ctx) (old : Option Track) : Track :=
  let encs := (List.range (c.f 2 10 2 + 1)).map fun e =>
    let ssrc := (c.w (3 + 2 * e)).toNat
    let rtx := (c.w (4 + 2 * e)).toNat
    match old.bind fun t => t.encs[e]? with
    | some x => if x.ssrc = ssrc && x.rtxSsrc = rtx then x
        else { ssrc := ssrc, rtxSsrc := rtx, keyLast := x.keyLast, keyMerged := x.keyMerged, keyFir := x.keyFir, firSeq := x.firSeq }
    | none => { ssrc := ssrc, rtxSsrc := rtx }
  { media := c.f 2 3 1, codec := c.f 2 4 4, layering := c.f 2 8 2, pt := c.f 2 12 7, rtxPt := c.f 2 19 7, encs := encs
    cname := (old.map (·.cname)).getD [], routeEpoch := (old.map (·.routeEpoch)).getD 0 }

/-- The SSRCs of a track. -/
def Track.ssrcs (t : Track) : List (Nat × Nat) := t.encs.map fun e => (e.ssrc, e.rtxSsrc)

/-- Video subscribers of a track that was declared again wait for a key picture (R159, R184). -/
def State.resubscribe (s : State) (leg track : Nat) : State :=
  s.legs.foldl (fun s x => (x.2.slots.filter fun v => v.2.reads leg (· == track) && v.2.media == 1 &&
    (v.2.state == 1 || v.2.state == 2 || v.2.state == 6)).foldl (fun s v => s.waitKey x.1 v.1) s) s

/-- SELECT 2: declare a track. A codec is one of the track's medium, and an audio track is single-layer (log entry 23). -/
def fwdTrack (c : Ctx) (s : State) (leg : Nat) (objs : List (Bool × Nat × Nat)) : Reply :=
  let k := c.f 2 0 3
  let old := (s.leg leg).bind fun l => tget l.tracks k
  let new := declaredTrack c old
  let codecOk := if new.media = 0 then decide (new.codec < 4) && new.layering == 0 else decide (8 ≤ new.codec) && decide (new.codec < 12)
  let fresh := { new with encs := new.encs.map fun e => ({ ssrc := e.ssrc, rtxSsrc := e.rtxSsrc } : Enc) }
  let kind := old.any fun t => t.media ≠ new.media || t.codec ≠ new.codec || t.layering ≠ new.layering
  checks ([badArg (!codecOk || new.layering == 3 || (new.layering ≠ 2 && c.f 2 10 2 ≠ 0) || c.f 2 26 6 ≠ 0) 2] ++ objs ++
      [(kind && s.subscribed leg k, eState, 0x0806)])
    (withFlows (s.modLeg leg fun l => { l with tracks := tset l.tracks k (if kind then fresh else new) }) (softFor leg) fun t =>
      ok (if old.any fun o => o.ssrcs ≠ new.ssrcs || o.pt ≠ new.pt || o.rtxPt ≠ new.rtxPt then t.resubscribe leg k else t))

/-- SELECT 3: remove a track (R183); one that is not declared is refused as R187 refuses it. -/
def fwdRemove (c : Ctx) (s : State) (leg : Nat) (objs : List (Bool × Nat × Nat)) : Reply :=
  let k := c.f 2 0 3
  checks ([reserved c 2 3 29] ++ objs ++ [(((s.leg leg).bind fun l => tget l.tracks k).isNone, eState, 0x0804)])
    (withFlows ((s.sourceLost leg (· == k)).modLeg leg fun l => { l with tracks := tdel l.tracks k }) (softFor leg) ok)

/-- FWD.POLICY (R184). -/
def doFwdPolicy (ch : Nat) (s : State) : State := runCmd ch 0x0801 (fun c s =>
  let leg := c.f 1 0 16
  let sel := c.f 1 24 4
  let enc := c.f 2 10 2
  let objs := legObj s c.issuer leg (c.f 1 16 8)
  checks [badArg (4 < sel) 1, badArg (sel == 2 && enc == 3) 2, badLen c ([5, 3, 4 + 2 * enc, 2, 6].getD sel 0),
      legUsed s leg, reserved c 1 28 4]
    (match sel with
     | 0 => fwdEstimator c s leg objs
     | 1 => fwdTransport c s leg objs
     | 2 => fwdTrack c s leg objs
     | 3 => fwdRemove c s leg objs
     | _ => checks objs (ok (s.modLeg leg fun l => { l with pol := { l.pol with
         localSsrc := (c.w 2).toNat, cname := [(c.w 3).toNat, (c.w 4).toNat, (c.w 5).toNat, (c.w 6).toNat] } })))) s

/-! ## FWD.SUBSCRIBE (R157, R181, R182, R185) -/

/-- Subscriptions in use (R157). -/
def State.subscriptions (s : State) : Nat := (s.legs.map fun p => p.2.slots.length).sum

/-- The settings of a set command beside its source: OUT_SSRC, OUT_RTX_SSRC, OUT_PT, OUT_RTX_PT, PRIO. -/
structure SubSet where
  ssrc : Nat
  rtx : Nat
  pt : Nat
  rtxPt : Nat
  prio : Nat
deriving DecidableEq

/-- The settings in force on a slot. -/
def Slot.sub (v : Slot) : SubSet := ⟨v.outSsrc, v.outRtx, v.outPt, v.outRtxPt, v.prio⟩
/-- A slot with other settings. -/
def Slot.withSub (v : Slot) (x : SubSet) : Slot := { v with outSsrc := x.ssrc, outRtx := x.rtx, outPt := x.pt, outRtxPt := x.rtxPt, prio := x.prio }

/-- A new subscription on a slot (R159, R168, R169): drawn starts of its numbers and timestamps; video waits for a key. -/
def State.newSlot (s : State) (leg k : Nat) (src : SlotSrc) (media : Nat) (x : SubSet) (sel : Nat := 3) : State :=
  let a := s.draw 65536
  let b := a.2.draw 65536
  let t := b.2.draw (2 ^ 32)
  let v : Slot := { state := 1, src := src, media := media, outSsrc := x.ssrc, outRtx := x.rtx, outPt := x.pt, outRtxPt := x.rtxPt
                    prio := x.prio, encSel := sel, wantS := if sel = 3 then 0 else sel, stream := { next := a.1, rtxNext := b.1, lastTs := t.1 } }
  let s := t.2.modLeg leg fun l => { l with slots := tset l.slots k v }
  (s.bumpRoute src).waitKey leg k

/-- Re-point a slot to another source (R182): audio at the new source's first packet, video at its key picture, while the old
source goes on; without one to forward, the slot takes the new source. -/
def State.repoint (s : State) (leg k : Nat) (v : Slot) (src : SlotSrc) (x : SubSet) : State :=
  let lists := (v.lists ++ [src]).eraseDups
  let s := lists.foldl (fun s y => s.bumpRoute y) s
  let base := { (v.withSub x) with pendLayer := none, holdFrom := none, pendSrc := none, fallback := false, homeJob := none }
  let put := fun v : Slot => s.modSlot leg k fun _ => v
  let moved := { base with src := src, cut := false, stream := { v.stream with hi := none, reserved := [], repoint := true, fresh := true } }
  if v.src = src && v.state ≠ 5 then put base
  else if v.media = 0 then put (if v.state = 5 then { moved with state := 2 } else { base with pendSrc := some (src, s.time.m, 0, false) })
  else if v.state = 2 then
    let t := put { base with pendSrc := some (src, s.time.m, 1, false) }
    match s.srcTrack src with
    | some tr => t.requestKey src (tr.encOf v.wantS) false
    | none => t
  else if v.state = 3 || v.state = 4 then put moved
  else (put { moved with state := 1 }).waitKey leg k

/-- The route epoch of a source's track. -/
def State.epochOf (s : State) (src : SlotSrc) : Nat := ((s.srcTrack src).map (·.routeEpoch)).getD 0

/-- Act on a set command that passed its checks (R185). -/
def fwdSet (s : State) (leg k : Nat) (old : Option Slot) (src : SlotSrc) (media : Nat) (x : SubSet) : Reply :=
  let done := fun t : State => okWords t [t.epochOf src]
  match old with
  | none => if 1048576 ≤ s.subscriptions then .fail eNospace 0x0801 else done (s.newSlot leg k src media x)
  | some v =>
    if v.outSsrc ≠ x.ssrc || v.media ≠ media then done ((s.endSlot leg k [src]).newSlot leg k src media x)
    else if v.choice ≠ src || v.state = 5 then done (s.repoint leg k v src x)
    else if v.sub = x then .fail eAlreadyDone 0
    else done (s.modSlot leg k fun v => v.withSub x)

/-- FWD.SUBSCRIBE set (R185, R187). -/
def fwdSubscribeSet (c : Ctx) (s : State) (leg k : Nat) (l : Leg) : Reply :=
  let n := c.f 2 0 16
  let tr := c.f 2 24 3
  let x : SubSet := ⟨(c.w 3).toNat, (c.w 4).toNat, c.f 5 0 7, c.f 5 8 7, c.f 5 16 8⟩
  let src := s.leg n
  let track := src.bind fun l => tget l.tracks tr
  let media := (track.map (·.media)).getD 0
  checks ([badArg (src.isNone || c.f 2 27 5 ≠ 0) 2, badArg (c.bit 5 7 || c.bit 5 15 || c.f 5 24 8 ≠ 0) 5] ++
      legObj s c.issuer leg (c.f 1 16 8) ++ legObj s c.issuer n (c.f 2 16 8) ++
      [(src.any fun y => y.cfg.conf ≠ l.cfg.conf, eState, 0x0801), (track.isNone, eState, 0x0804),
       (!(l.cfg.fwdSend media && src.any fun y => y.cfg.fwdRecv media), eState, 0x0802),
       (l.slots.any fun v => v.1 ≠ k && v.2.outSsrc == x.ssrc, eState, 0x0805), (l.keys.rekey, eRekey, 0)])
    (fwdSet s leg k (tget l.slots k) (.track n (c.f 2 16 8) tr) media x)

/-- The words of a query response (R185). -/
def State.slotWords (s : State) (l : Leg) (v : Option Slot) : List Nat :=
  let w5 := min (l.est.a / 1000) (2 ^ 24 - 1) + 2 ^ 24 * l.est.st
  match v with
  | none => [0, 0, 0, w5]
  | some v =>
    let src := match v.src with
      | .track n g t => n % 65536 + 65536 * t + 2 ^ 24 * g
      | .job _ => 0
    let cur := if v.state = 2 then v.curS * 16 + v.curT * 64 else 0
    [v.state + 8 * b2n v.fallback + cur + 256 * v.wantS + 1024 * v.wantT + 4096 * b2n v.wantPause + 65536 * s.epochOf v.src,
     src, v.outSsrc, w5]

/-- FWD.SUBSCRIBE (R185). -/
def doFwdSubscribe (ch : Nat) (s : State) : State := runCmd ch 0x0802 (fun c s =>
  let leg := c.f 1 0 16
  let k := c.f 1 24 6
  let op := c.f 1 30 2
  checks [badArg (op == 3) 1, badLen c (if op = 1 then 5 else 1), legUsed s leg]
    (match s.leg leg with
     | none => .fail eBadarg 1
     | some l => match op with
       | 0 => checks (legObj s c.issuer leg (c.f 1 16 8) ++ [((tget l.slots k).isNone, eState, 0x0803)]) (ok (s.removeSlot leg k).settle)
       | 1 => fwdSubscribeSet c s leg k l
       | _ => checks (legObj s c.issuer leg (c.f 1 16 8)) (okWords s (s.slotWords l (tget l.slots k))))) s

/-! ## FWD.PIN (R186) -/

/-- Apply a pin: it replaces a pending re-point (R182), and the leg's selection runs (R186). -/
def State.pin (s : State) (leg k mode sp tp : Nat) : State :=
  match (s.leg leg).bind fun l => tget l.slots k with
  | none => s
  | some v =>
    let s := (v.pendSrc.map (·.1)).toList.foldl (fun s y => s.bumpRoute y) s
    let s := s.modSlot leg k fun v => { v with pinMode := mode, pinS := sp, pinT := tp, pendSrc := none }
    let s := if v.pinMode = 3 && v.state = 4 then s.waitKey leg k else s
    s.selectLayers leg 1

/-- FWD.PIN (R186). -/
def doFwdPin (ch : Nat) (s : State) : State := runCmd ch 0x0803 (fun c s =>
  let leg := c.f 1 0 16
  let k := c.f 1 24 6
  let mode := c.f 2 0 2
  let sp := c.f 2 2 2
  let tp := c.f 2 4 2
  let v := (s.leg leg).bind fun l => tget l.slots k
  checks ([legUsed s leg, reserved c 1 30 2, badArg (c.f 2 6 26 ≠ 0 || sp == 3 || tp == 3) 2] ++ legObj s c.issuer leg (c.f 1 16 8) ++
      [(v.isNone, eState, 0x0803), badArg ((mode == 1 || mode == 2) && v.any (fun v => v.media == 0)) 2,
       (v.any fun v => v.pinMode == mode && ((mode == 0 || mode == 3) || (v.pinS == sp && v.pinT == tp)), eAlreadyDone, 0)])
    (ok (s.pin leg k mode sp tp))) s

/-! ## The meanings -/

/-- The meaning of FWD_POLICY (R184). -/
def execFwdPolicy (ch : Nat) (s : State) : Host.Outcome State Fault Refusal :=
  answer (Instr.fwdPolicy ch).wf (doFwdPolicy ch s)

/-- The meaning of FWD_SUBSCRIBE (R185). -/
def execFwdSubscribe (ch : Nat) (s : State) : Host.Outcome State Fault Refusal :=
  answer (Instr.fwdSubscribe ch).wf (doFwdSubscribe ch s)

/-- The meaning of FWD_PIN (R186). -/
def execFwdPin (ch : Nat) (s : State) : Host.Outcome State Fault Refusal :=
  answer (Instr.fwdPin ch).wf (doFwdPin ch s)

end Sys2Proof.Machine
end

