-- ==== Sys2Proof/Machine/Surfaces.lean ====
section
/-! DEFINITION. Picture surfaces in HBM (R234, R262, R270): their sizes, the newest completed one, readers, and the choice of a
free one. -/

namespace Sys2Proof.Machine

/-! ## Sizes (R234, R270) -/

/-- Tiles across or down. -/
def tilesOf (n : Nat) : Nat := (n + 15) / 16
/-- Bytes of a tile slot. -/
def slotBytes (depth : Nat) : Nat := if depth = 10 then 480 else 384
/-- Offset of tile slot 0: the header and the index. -/
def dataOff (w h : Nat) : Nat := 64 + (tilesOf w * tilesOf h + 63) / 64 * 64
/-- Bytes of an NBC surface. -/
def nbcSize (w h depth : Nat) : Nat := dataOff w h + tilesOf w * tilesOf h * slotBytes depth

/-- Reference surfaces of a decode job by codec. -/
def refCount (codec : Nat) : Nat := if codec = 8 then 16 else if codec = 9 then 6 else if codec = 10 then 3 else 8
/-- The depth for which a decode job's surfaces are sized: the greatest that its codec decodes (R223). -/
def sizedDepth (codec : Nat) : Nat := if codec = 9 || codec = 11 then 10 else 8
/-- Bytes of the surfaces of a decode job: its references and three outputs. -/
def decJobBytes (codec w h : Nat) : Nat := (refCount codec + 3) * nbcSize w h (sizedDepth codec)
/-- Bytes of region 2 that are allocated. -/
def State.videoBytes (s : State) : Nat := (s.decJobs.map fun p => decJobBytes p.2.codec p.2.maxW p.2.maxH).sum

/-- Bytes of a still image: its surface, and its alpha plane. -/
def stillBytes (x : Surface) : Nat := nbcSize x.w x.h 8 + x.alpha.length
/-- Bytes of a canvas: its output surfaces and its still images. -/
def canvasSize (c : Canvas) : Nat :=
  c.nsurf * nbcSize c.w c.h 8 + (c.layers.map fun l => ((l.2.still.toList ++ (l.2.pend.bind fun p => p.2.2.1).toList).map stillBytes).sum).sum
/-- Bytes of region 3 that are allocated. -/
def State.canvasBytes (s : State) : Nat := (s.canvases.map fun p => canvasSize p.2).sum

/-- Bytes of a region (R389). -/
def State.regionSize (s : State) (r : Nat) : Nat := ((s.hbm.regions[r]?).map (·.size)).getD 0 * 2 ^ 30

/-! ## Producers and readers -/

/-- What produces surfaces: a canvas or a decode job. -/
inductive Producer where
  | canvas (c : Nat)
  | decode (j : Nat)
deriving DecidableEq, Repr

/-- The producer that a source kind of an encode job names (R253). -/
def encSource (kind src : Nat) : Producer := if kind = 0 then .canvas src else .decode src

/-- The surfaces of a producer, newest last. -/
def State.surfaces (s : State) : Producer → List Surface
  | .canvas c => ((tget s.canvases c).map (·.surfaces)).getD []
  | .decode j => ((tget s.decJobs j).map (·.surfaces)).getD []

/-- Change the surfaces of a producer. -/
def State.modSurfaces (s : State) (p : Producer) (g : List Surface → List Surface) : State :=
  match p with
  | .canvas c => { s with canvases := tupd s.canvases c fun x => { x with surfaces := g x.surfaces } }
  | .decode j => { s with decJobs := tupd s.decJobs j fun x => { x with surfaces := g x.surfaces } }

/-- The newest completed surface of a producer. -/
def State.newest (s : State) (p : Producer) : Option Surface := (s.surfaces p).getLast?

/-- Numbers of readers: the frame that a canvas composes, a layer that holds, an encode frame. -/
def readerCanvas (c : Nat) : Nat := c
def readerLayer (c layer : Nat) : Nat := 1000 + 64 * c + layer
def readerEnc (job enc : Nat) : Nat := 20000 + 4 * job + enc

/-- A reader holds the surface with a number (SEQ) of a producer. -/
def State.holdSurf (s : State) (p : Producer) (seq reader : Nat) : State :=
  s.modSurfaces p fun l => l.map fun x => if x.seq = seq then { x with readers := reader :: x.readers } else x

/-- A reader lets go of every surface of a producer. -/
def State.dropSurf (s : State) (p : Producer) (reader : Nat) : State :=
  s.modSurfaces p fun l => l.map fun x => { x with readers := x.readers.filter (· ≠ reader) }

/-- A reader lets go of every surface of the module. -/
def State.dropReader (s : State) (reader : Nat) : State :=
  let drop := fun l : List Surface => l.map fun x => { x with readers := x.readers.filter (· ≠ reader) }
  { s with canvases := tmap (fun x => { x with surfaces := drop x.surfaces }) s.canvases
           decJobs := tmap (fun x => { x with surfaces := drop x.surfaces }) s.decJobs }

/-- Is one of `n` surfaces free: unused so far, or neither the newest nor held by a reader (R234, R262)? -/
def surfFree (l : List Surface) (n : Nat) : Bool := decide (l.length < n) || l.dropLast.any fun x => x.readers.isEmpty

/-- The first element that satisfies `p` taken out. -/
def dropFirst {α : Type} (p : α → Bool) : List α → List α
  | [] => []
  | a :: as => if p a then as else a :: dropFirst p as

/-- A picture written into a free one of `n` surfaces: it is the newest. -/
def putSurf (l : List Surface) (n : Nat) (x : Surface) : List Surface :=
  if l.length < n then l ++ [x] else dropFirst (fun y => y.readers.isEmpty) l.dropLast ++ l.getLast?.toList ++ [x]

/-! ## Frame status (R251) -/

abbrev fsKey : Nat := 1
abbrev fsConcealed : Nat := 2
abbrev fsCoasted : Nat := 4
abbrev fsSkipped : Nat := 8
abbrev fsDropped : Nat := 16
abbrev fsPreempted : Nat := 32
abbrev fsLate : Nat := 64
abbrev fsForcedKey : Nat := 128
abbrev fsBandSerial : Nat := 256
abbrev fsRateCapped : Nat := 512

/-- A frame status: its flags, the layer, and the highest quantiser. -/
def frameStatus (flags : List (Bool × Nat)) (sp tp qmax : Nat) : Nat :=
  ((flags.filter (·.1)).map (·.2)).sum + 4096 * (sp % 4) + 16384 * (tp % 4) + 65536 * min qmax 255

end Sys2Proof.Machine
end

