-- ==== Sys2Proof/Machine/Compose.lean ====
section
/-! DEFINITION. The composer's arithmetic (R266, R267, R269): scaling, crops, look-up tables, alpha and blending. -/

namespace Sys2Proof.Machine

/-! ## The scaler (R267) -/

/-- The cubic convolution weight, a = −0.5, at distance `n`/32, in units of 1/65536 (2 × 32³). -/
def cubic (n : Nat) : Int :=
  if n ≤ 32 then 3 * (n ^ 3 : Nat) - 160 * (n ^ 2 : Nat) + 65536
  else if n < 64 then -((n ^ 3 : Nat) : Int) + 160 * (n ^ 2 : Nat) - 8192 * n + 131072
  else 0

/-- A weight in units of 1/64, rounded half up. -/
def quantTap (v : Int) : Int := (v + 512) / 1024

/-- The four taps of a phase: the two centre ones absorb the difference from 64, in shares that the spec leaves open. -/
def taps (phase : Nat) : List Int :=
  let t := [quantTap (cubic (32 + phase)), quantTap (cubic phase), quantTap (cubic (32 - phase)), quantTap (cubic (64 - phase))]
  let d := 64 - t.sum
  let part : Int := (Config.tapShare phase % (d.natAbs + 1) : Nat)
  let first := if 0 ≤ d then part else -part
  [t.getD 0 0, t.getD 1 0 + first, t.getD 2 0 + (d - first), t.getD 3 0]

/-- The position of destination sample `i` in the source, in 1/32 sample: (i + 0.5) × sw / dw − 0.5. -/
def srcPos (i sw dw : Nat) : Int :=
  let num : Int := 32 * ((2 * i + 1) * sw : Nat) - 32 * (dw : Int)
  let den : Int := 2 * dw
  if Config.phaseRound % 2 = 1 then (2 * num + den) / (2 * den) else num / den

/-- The four source samples (limited to 0 to n − 1) and their taps for a destination sample: edge samples are replicated. -/
def tapsAt (i sw dw n : Nat) : List (Nat × Int) :=
  let p := srcPos i sw dw
  let b := p / 32
  (taps (p % 32).toNat).zipIdx.map fun t => ((max 0 (min ((n : Int) - 1) (b + t.2 - 1))).toNat, t.1)

/-- A scaled sample: `get` reads the crop at column and row; `n` and `m` are the columns and rows present. Rounded half up, once,
and limited to the sample range (log entry 35). -/
def scaled (get : Nat → Nat → Nat) (i j sw sh dw dh n m top : Nat) : Nat :=
  if sw = dw && sh = dh then get (min i (n - 1)) (min j (m - 1))
  else
    let v := ((tapsAt j sh dh m).map fun r => r.2 * ((tapsAt i sw dw n).map fun c => c.2 * (get c.1 r.1 : Int)).sum).sum
    (max 0 (min (top : Int) ((v + 2048) / 4096))).toNat

/-! ## A layer (R264, R266, R269) -/

/-- A layer as a frame draws it: geometry, the surface that it reads if any, the crop in force, and how much of it the source
picture has. -/
structure Drawn where
  geo : LayGeo
  pic : Option Surface
  sw : Nat
  sh : Nat
  n : Nat
  m : Nat

/-- Is a ratio within 1/4 to 4 (R266)? -/
def ratioOk (d s : Nat) : Bool := decide (s ≤ 4 * d) && decide (d ≤ 4 * s) && s ≠ 0 && d ≠ 0

/-- The crop of a layer on the picture of the frame: a crop of 0 is the whole picture. -/
def drawnOf (g : LayGeo) (pic : Option Surface) : Drawn :=
  match pic with
  | none => ⟨g, none, 0, 0, 0, 0⟩
  | some p =>
    let sw := if g.sw = 0 then p.w else g.sw
    let sh := if g.sh = 0 then p.h else g.sh
    ⟨g, pic, sw, sh, min sw (p.w - g.sx), min sh (p.h - g.sy)⟩

/-- Does the frame's ratio fall outside the range? -/
def Drawn.badRatio (d : Drawn) : Bool := d.pic.isSome && !(ratioOk d.geo.dw d.sw && ratioOk d.geo.dh d.sh)

/-- The place of a canvas pixel in the layer's rectangle. -/
def Drawn.at_ (d : Drawn) (x y : Nat) : Option (Nat × Nat) :=
  let i := (x : Int) - d.geo.dx
  let j := (y : Int) - d.geo.dy
  if 0 ≤ i && i < d.geo.dw && 0 ≤ j && j < d.geo.dh then some (i.toNat, j.toNat) else none

/-- Does the source picture reach the place; elsewhere the fill colour shows. -/
def Drawn.reaches (d : Drawn) (i j : Nat) : Bool :=
  d.pic.isSome && !d.badRatio && decide ((2 * i + 1) * d.sw < 2 * d.n * d.geo.dw) && decide ((2 * j + 1) * d.sh < 2 * d.m * d.geo.dh)

/-- A luma (or alpha) sample of a plane of the picture. -/
def Drawn.luma (d : Drawn) (plane : List Nat) (w i j top : Nat) : Nat :=
  scaled (fun c r => plane.getD ((d.geo.sy + r) * w + d.geo.sx + c) 0) i j d.sw d.sh d.geo.dw d.geo.dh d.n d.m top

/-- A chroma sample, at half resolution. -/
def Drawn.chroma (d : Drawn) (plane : List Nat) (w i j top : Nat) : Nat :=
  scaled (fun c r => plane.getD ((d.geo.sy / 2 + r) * w + d.geo.sx / 2 + c) 0) i j (d.sw / 2) (d.sh / 2) (d.geo.dw / 2) (d.geo.dh / 2)
    (d.n / 2) (d.m / 2) top

/-- a8 of the layer at a place (R269 step 3). -/
def Drawn.alpha (d : Drawn) (i j : Nat) : Nat :=
  match d.pic with
  | some p =>
    if d.geo.alphaPlane && !p.alpha.isEmpty && d.reaches i j then (2 * d.geo.alpha * d.luma p.alpha p.w i j 255 + 255) / 510
    else d.geo.alpha
  | none => d.geo.alpha

/-- The blend weight of an a8. -/
def weightOf (a8 : Nat) : Nat := a8 + a8 / 128

/-- Entry of a table of R269: reset entry i is 4 × i. -/
def lutAt (t : Option (List Nat)) (i : Nat) : Nat := match t with
  | some l => l.getD i 0
  | none => 4 * i

/-- The luma sample of a layer, 12 bits (R269 step 2). -/
def Drawn.sample (d : Drawn) (lut : Option (List Nat)) (i j : Nat) : Nat :=
  match d.pic with
  | some p =>
    if d.reaches i j then
      (if p.depth = 10 then lutAt lut (d.luma p.y p.w i j 1023) else lutAt lut (4 * d.luma p.y p.w i j 255))
    else lutAt lut (4 * d.geo.fillY)
  | none => lutAt lut (4 * d.geo.fillY)

/-- The chroma sample of a layer, 12 bits: Cb, or Cr where `cr`. -/
def Drawn.chromaSample (d : Drawn) (cr : Bool) (i j : Nat) : Nat :=
  let fill := 16 * if cr then d.geo.fillCr else d.geo.fillCb
  match d.pic with
  | some p =>
    let plane := if cr then p.cr else p.cb
    if d.reaches (2 * i) (2 * j) then
      (if p.depth = 10 then 4 * d.chroma plane (p.w / 2) i j 1023 else 16 * d.chroma plane (p.w / 2) i j 255)
    else fill
  | none => fill

/-! ## Pixels (R269) -/

/-- Step 4. -/
def blend (d s a : Nat) : Nat := (s * a + d * (256 - a) + 128) / 256

/-- Step 5: the output luma of a 12-bit result. -/
def outLuma (lut : Option (List Nat)) (l : Nat) : Nat :=
  let i := l / 4
  let e := fun k : Nat => (lutAt lut (min k 1023) : Int)
  let v := e i + ((e (i + 1) - e i) * (l % 4 : Nat) + 2) / 4
  (max 0 (min 255 ((v + 8) / 16))).toNat

/-- Step 6. -/
def outChroma (d : Nat) : Nat := min 255 ((d + 8) / 16)

/-- An output luma sample: the layers are in blend order, the bottom first. -/
def lumaAt (lutIn lutOut : Option (List Nat)) (bgY : Nat) (ls : List Drawn) (x y : Nat) : Nat :=
  outLuma lutOut (ls.foldl (fun d l => match l.at_ x y with
    | some (i, j) => blend d (l.sample lutIn i j) (weightOf (l.alpha i j))
    | none => d) (lutAt lutIn (4 * bgY)))

/-- The mean of the four a8 values over a chroma sample, rounded half up. -/
def Drawn.chromaAlpha (d : Drawn) (i j : Nat) : Nat :=
  (d.alpha (2 * i) (2 * j) + d.alpha (2 * i + 1) (2 * j) + d.alpha (2 * i) (2 * j + 1) + d.alpha (2 * i + 1) (2 * j + 1) + 2) / 4

/-- An output chroma sample at chroma column and row. -/
def chromaAt (bg : Nat) (cr : Bool) (ls : List Drawn) (x y : Nat) : Nat :=
  outChroma (ls.foldl (fun d l => match l.at_ (2 * x) (2 * y) with
    | some (i, j) => blend d (l.chromaSample cr (i / 2) (j / 2)) (weightOf (l.chromaAlpha (i / 2) (j / 2)))
    | none => d) (16 * bg))

end Sys2Proof.Machine
end

