-- ==== Sys2Proof/Machine/Nbc.lean ====
section
/-! DEFINITION. The NBC surface format to the bit (R270 to R274): prediction, group coding, tiles, and the bytes of a surface. -/

namespace Sys2Proof.Machine

/-! ## Bits -/

/-- The `n` low bits of a number, the most significant first. -/
def toBits : Nat → Nat → List Bool
  | 0, _ => []
  | n + 1, v => (v / 2 ^ n % 2 == 1) :: toBits n v

/-- The number that bits spell, the most significant first. -/
def ofBits (bs : List Bool) : Nat := bs.foldl (fun n b => 2 * n + b2n b) 0

/-- The number in the next `n` bits, and the bits after it. -/
def readBits (n : Nat) (bs : List Bool) : Nat × List Bool := (ofBits (bs.take n), bs.drop n)

/-- One bits counted up to a 0 bit, which is consumed, or up to `n` of them. -/
def readOnes : Nat → List Bool → Nat × List Bool
  | 0, bs => (0, bs)
  | _, [] => (0, [])
  | n + 1, true :: bs => let r := readOnes n bs; (r.1 + 1, r.2)
  | _ + 1, false :: bs => (0, bs)

/-! ## Samples (R273) -/

/-- The prediction of the next sample of a plane of width `w`, from those before it in raster order. -/
def predict (d w : Nat) (done : List Nat) : Nat :=
  let n := done.length
  let a := done.getD (n - 1) 0
  let b := done.getD (n - w) 0
  let c := done.getD (n - w - 1) 0
  if n = 0 then 2 ^ (d - 1)
  else if n < w then a
  else if n % w = 0 then b
  else if max a b ≤ c then min a b
  else if c ≤ min a b then max a b
  else a + b - c

/-- u of a sample `x` predicted as `p`. -/
def residual (d p x : Nat) : Nat :=
  let e := (x + 2 ^ d - p) % 2 ^ d
  if e < 2 ^ (d - 1) then 2 * e else 2 * (2 ^ d - e) - 1

/-- The sample that u gives under a prediction. -/
def restore (d p u : Nat) : Nat :=
  if u % 2 = 0 then (p + u / 2) % 2 ^ d else (((p : Int) - ((u + 1) / 2 : Nat)) % (2 ^ d : Nat)).toNat

/-- The code of u under k: a unary quotient and k bits, or an escape of D bits. -/
def codeU (d k u : Nat) : List Bool :=
  let q := u / 2 ^ k
  if q < 15 then List.replicate q true ++ false :: toBits k u else List.replicate 15 true ++ toBits d u

/-- The u that the next bits code. -/
def readU (d k : Nat) (bs : List Bool) : Nat × List Bool :=
  let q := readOnes 15 bs
  if q.1 = 15 then readBits d q.2
  else let r := readBits k q.2; (q.1 * 2 ^ k + r.1, r.2)

/-! ## Groups and planes (R273, R274) -/

/-- The u values of samples that follow `done`. -/
def usOf (d w : Nat) : List Nat → List Nat → List Nat
  | _, [] => []
  | done, x :: xs => residual d (predict d w done) x :: usOf d w (done ++ [x]) xs

/-- Bits of a group under k. -/
def groupCost (d k : Nat) (us : List Nat) : Nat := (us.map fun u => (codeU d k u).length).sum

/-- The k from 0 to `n` that gives the fewest bits, the lowest on a tie. -/
def bestK (d : Nat) (us : List Nat) : Nat → Nat
  | 0 => 0
  | n + 1 => let k := bestK d us n; if groupCost d (n + 1) us < groupCost d k us then n + 1 else k

/-- `n` groups of 16 samples coded after `done`. -/
def encGroups (d w : Nat) : Nat → List Nat → List Nat → List Bool
  | 0, _, _ => []
  | n + 1, done, xs =>
    let us := usOf d w done (xs.take 16)
    let k := bestK d us 10
    toBits 4 k ++ us.flatMap (codeU d k) ++ encGroups d w n (done ++ xs.take 16) (xs.drop 16)

/-- `n` samples read after `done`. -/
def decSamples (d w k : Nat) : Nat → List Nat → List Bool → List Nat × List Bool
  | 0, done, bs => (done, bs)
  | n + 1, done, bs =>
    let r := readU d k bs
    decSamples d w k n (done ++ [restore d (predict d w done) r.1]) r.2

/-- `n` groups read after `done`. -/
def decGroups (d w : Nat) : Nat → List Nat → List Bool → List Nat × List Bool
  | 0, done, bs => (done, bs)
  | n + 1, done, bs =>
    let k := readBits 4 bs
    let r := decSamples d w k.1 16 done k.2
    decGroups d w n r.1 r.2

/-! ## Tiles (R272, R274) -/

/-- A tile: 16 × 16 luma samples and 8 × 8 of each chroma plane. -/
structure Tile where
  y : List Nat
  cb : List Nat
  cr : List Nat
deriving DecidableEq, Repr

/-- A tile as it is stored: MODE, UNITS, and UNITS × 256 bits. -/
structure Coding where
  mode : Nat
  units : Nat
  bits : List Bool
deriving DecidableEq, Repr

/-- UNITS of a raw tile. -/
def rawUnits (d : Nat) : Nat := (384 * d + 255) / 256

/-- Are all samples of a plane equal? -/
def flat (l : List Nat) : Bool := l.all (· == l.headD 0)

/-- The bits of a predicted tile. -/
def predictedBits (d : Nat) (t : Tile) : List Bool := encGroups d 16 16 [] t.y ++ encGroups d 8 4 [] t.cb ++ encGroups d 8 4 [] t.cr

/-- Zero bits up to a number of units. -/
def padBits (units : Nat) (bs : List Bool) : List Bool := bs ++ List.replicate (256 * units - bs.length) false

/-- The choice that every writer makes for a tile (R274). -/
def encTile (d : Nat) (t : Tile) : Coding :=
  if flat t.y && flat t.cb && flat t.cr then
    ⟨2, 1, padBits 1 (toBits d (t.y.headD 0) ++ toBits d (t.cb.headD 0) ++ toBits d (t.cr.headD 0))⟩
  else
    let bs := predictedBits d t
    let n := (bs.length + 255) / 256
    if n < rawUnits d then ⟨1, n, padBits n bs⟩
    else ⟨0, rawUnits d, padBits (rawUnits d) ((t.y ++ t.cb ++ t.cr).flatMap (toBits d))⟩

/-- `n` samples of `d` bits. -/
def readRaw (d : Nat) : Nat → List Bool → List Nat × List Bool
  | 0, bs => ([], bs)
  | n + 1, bs => let r := readBits d bs; let q := readRaw d n r.2; (r.1 :: q.1, q.2)

/-- The tile that a reader finds: none for the reserved mode. -/
def decTile (d : Nat) (c : Coding) : Option Tile :=
  match c.mode with
  | 0 =>
    let y := readRaw d 256 c.bits
    let cb := readRaw d 64 y.2
    let cr := readRaw d 64 cb.2
    some ⟨y.1, cb.1, cr.1⟩
  | 1 =>
    let y := decGroups d 16 16 [] c.bits
    let cb := decGroups d 8 4 [] y.2
    let cr := decGroups d 8 4 [] cb.2
    some ⟨y.1, cb.1, cr.1⟩
  | 2 =>
    let y := readBits d c.bits
    let cb := readBits d y.2
    let cr := readBits d cb.2
    some ⟨List.replicate 256 y.1, List.replicate 64 cb.1, List.replicate 64 cr.1⟩
  | _ => none

/-! ## Surfaces (R270, R271) -/

/-- An `n` × `n` block of a plane of `w` × `h` samples: beyond the picture the last column and row repeat. -/
def blockOf (plane : List Nat) (w h n tx ty : Nat) : List Nat :=
  (List.range (n * n)).map fun i => plane.getD (min (h - 1) (ty * n + i / n) * w + min (w - 1) (tx * n + i % n)) 0

/-- The tiles of a picture, in raster order. -/
def tilesIn (x : Surface) : List Tile :=
  let tw := tilesOf x.w
  (List.range (tw * tilesOf x.h)).map fun i =>
    ⟨blockOf x.y x.w x.h 16 (i % tw) (i / tw), blockOf x.cb (x.w / 2) (x.h / 2) 8 (i % tw) (i / tw),
     blockOf x.cr (x.w / 2) (x.h / 2) 8 (i % tw) (i / tw)⟩

/-- Bits packed into bytes, the most significant first. -/
def packBits : Nat → List Bool → List Byte
  | 0, _ => []
  | n + 1, bs => BitVec.ofNat 8 (ofBits (bs.take 8)) :: packBits n (bs.drop 8)

/-- The sixteen words of the header. -/
def nbcHeader (x : Surface) : List Nat :=
  [0x3043424E, x.w % 65536 + 65536 * (x.h % 65536), x.depth + 16, tilesOf x.w + 65536 * tilesOf x.h, x.fstat, x.tick, x.seq, 64,
   dataOff x.w x.h, slotBytes x.depth, 0, 0, 0, 0, 0, 0]

/-- A slot: the used bytes of the tile, then bytes that the spec leaves undefined. -/
def slotOf (depth off : Nat) (c : Coding) : List Byte :=
  packBits (32 * c.units) c.bits ++ (List.range (slotBytes depth - 32 * c.units)).map fun i => Config.slotFill (off + 32 * c.units + i)

/-- The bytes of an NBC surface. -/
def nbcBytes (x : Surface) : List Byte :=
  let cs := (tilesIn x).map (encTile x.depth)
  let index := cs.map fun c => BitVec.ofNat 8 (c.units + 16 * c.mode)
  let off := dataOff x.w x.h
  (nbcHeader x).flatMap (fun v => leBytes v 4) ++ index ++ List.replicate (off - 64 - index.length) 0#8 ++
    (cs.zipIdx.flatMap fun c => slotOf x.depth (off + c.2 * slotBytes x.depth) c.1)

end Sys2Proof.Machine
end

