-- ==== Sys2Proof/Machine/VideoCmds.lean ====
section
/-! DEFINITION. The video commands (R226, R227, R252 to R255): VID.DECODE, VID.ENCODE, VID.KEYREQ. -/

namespace Sys2Proof.Machine

/-! ## What the commands share -/

/-- Luma samples of a picture of level 5.1, and of level 6.0 (R223). -/
abbrev level51 : Nat := 8912896
abbrev level60 : Nat := 33177600

/-- The locked group that GROUP names: none for 0x3F. -/
def groupArg (g : Nat) : Option Nat := if g = 0x3F then none else some g
/-- Clusters of the locked group that begins at a cluster. -/
def State.groupSize (s : State) (g : Nat) : Nat :=
  match (s.cluster g).group with
  | some (f, k) => if f = g then k else 0
  | none => 0
/-- GROUP names no first cluster of a locked group (R255). -/
def badGroup (s : State) (g : Nat) : Bool × Nat × Nat := ((groupArg g).any fun n => s.groupSize n == 0, eState, 0x0A05)
/-- A size above level 5.1 without H.265 or AV1 on a locked group of four (R249, R255). -/
def overLevel (s : State) (g codec w h : Nat) : Bool × Nat × Nat :=
  (decide (level51 < w * h) && !((codec == 9 || codec == 11) && (groupArg g).any fun n => s.groupSize n == 4), eState, 0x0A04)
/-- The object is of another tenant. -/
def tenantObj (s : State) (issuer : Nat) (tenant : Option Nat) : Bool × Nat × Nat := (tenant.any fun t => !s.mayTouch issuer t, eTenant, 2)

/-- Cluster of an owner's flow, as a response shows it. -/
def State.clusterOf (s : State) (o : FlowOwner) : Nat := (s.placeOf o).getD 0

/-- Is a decode job shown or held by a canvas layer, or taken by an encode job (R237, R265)? -/
def State.producerUsed (s : State) (kind src : Nat) : Bool :=
  s.encJobs.any (fun x => x.2.cfg.src == src && x.2.cfg.srcKind == (if kind = 1 then 1 else 0)) ||
    s.canvases.any fun c => c.2.layers.any fun l => l.2.src == ⟨kind, src⟩ || l.2.pend.any fun p => p.1 == ⟨kind, src⟩

/-- Frames of a job taken off every engine. -/
def Engine.without (e : Engine) (dec enc : Nat → Bool) : Engine where
  pipes := e.pipes.map fun p => p.filter fun r => !enc r.job
  preempted := e.preempted.filter fun r => !enc r.job
  waiting := e.waiting.filter fun r => !enc r.job
  decRun := e.decRun.filter fun r => !dec r.1
  decWait := e.decWait.filter fun r => !dec r.1

/-! ## VID.DECODE (R252) -/

/-- OP 0: create. -/
def vidDecCreate (c : Ctx) (s : State) : Reply :=
  let leg := c.f 2 0 16
  let tr := c.f 2 24 3
  let l := s.leg leg
  let t := l.bind fun l => tget l.tracks tr
  let g := c.f 1 16 6
  let w := c.f 3 0 16
  let h := c.f 3 16 16
  let fps := c.f 4 0 7
  let codec := (t.map (·.codec)).getD 8
  let free := firstFree s.decJobs 0 3072
  let id := free.getD 0
  let job : DecJob := { srcLeg := leg, srcGen := c.f 2 16 8, srcTrack := tr, decS := c.f 2 27 2, decT := c.f 2 29 2, maxW := w, maxH := h,
                        maxFps := fps, vjit := c.f 4 8 8, prio := c.f 1 2 2, group := groupArg g, creator := c.issuer
                        tenant := (l.map s.legTenant).getD 0, codec := codec }
  checks ([badArg (c.f 1 2 2 == 3) 1, legUsed s leg, badArg (c.f 2 27 2 == 3 || c.f 2 29 2 == 3 || c.bit 2 31) 2,
      badArg (decide (w < 16) || decide (7680 < w) || decide (h < 16) || decide (4320 < h)) 3,
      badArg (fps == 0 || decide (60 < fps) || c.bit 4 7 || decide (200 < c.f 4 8 8) || c.f 4 16 16 ≠ 0) 4] ++
      legObj s c.issuer leg (c.f 2 16 8) ++
      [(!((l.any fun l => l.cfg.compRecv) && t.any fun t => t.media == 1), eState, 0x0A01),
       (decide (codec < 8) || decide (11 < codec), eState, 0x0A02), overLevel s g codec w h, badGroup s g, (free.isNone, eNospace, 0x0A03),
       (decide (s.regionSize 2 < s.videoBytes + decJobBytes codec w h), eNospace, 0x0A04)])
    (withFlows { s with decJobs := tset s.decJobs id job } noSoft fun t => okWords t [id + 65536 * t.clusterOf (.decode id)])

/-- OP 1: modify; a new layer is taken at a switching point (R232). -/
def vidDecModify (c : Ctx) (s : State) (id : Nat) (j : DecJob) : Reply :=
  let a := (c.f 2 27 2, c.f 2 29 2)
  checks [badArg (c.f 1 2 2 == 3) 1, badArg (a.1 == 3 || a.2 == 3 || c.f 2 0 8 ≠ 0 || c.f 2 16 11 ≠ 0 || c.bit 2 31 || decide (200 < c.f 2 8 8)) 2,
      tenantObj s c.issuer (some j.tenant)]
    (ok { s with decJobs := tset s.decJobs id { j with
      vjit := c.f 2 8 8, prio := c.f 1 2 2, pend := if a = (j.decS, j.decT) then none else some a } })

/-- A decode job ends: its frame in progress is discarded. -/
def State.endDecode (s : State) (id : Nat) : State :=
  { s with decJobs := tdel s.decJobs id, engines := tmap (fun e => e.without (· == id) fun _ => false) s.engines }.settle

/-- VID.DECODE (R252). -/
def doVidDecode (ch : Nat) (s : State) : State := runCmd ch 0x0A01 (fun c s =>
  let op := c.f 1 0 2
  let id := c.f 1 4 12
  checks [badLen c ([4, 2, 1, 1].getD op 0), reserved c 1 22 10]
    (if op = 0 then vidDecCreate c s
     else match tget s.decJobs id with
     | none => .fail eBadarg 1
     | some j => match op with
       | 1 => vidDecModify c s id j
       | 2 => checks [tenantObj s c.issuer (some j.tenant), (s.producerUsed 1 id, eState, 0x0A06)] (ok (s.endDecode id))
       | _ => checks [tenantObj s c.issuer (some j.tenant)]
           (okWords s [j.fstat, j.decoded, j.concealedN, j.curW % 65536 + 65536 * (j.curH % 65536), s.clusterOf (.decode id) + 64 * j.prio]))) s

/-! ## VID.ENCODE (R237, R238, R253) -/

/-- The frame rate and the size of a source: those of a canvas, none for a decode job. -/
def State.sourceForm (s : State) (kind src : Nat) : Option (Nat × Nat × Nat) :=
  if kind = 0 then (tget s.canvases src).map fun c => (c.fps, c.w, c.h) else none

/-- The tenant of a source. -/
def State.sourceTenant (s : State) (kind src : Nat) : Option Nat :=
  if kind = 0 then (tget s.canvases src).map (·.tenant) else (tget s.decJobs src).map (·.tenant)

/-- Encodings of a MODE (R238). -/
def modeEncs (mode : Nat) : Nat := if mode = 4 then 2 else if mode = 5 then 3 else 1
/-- LAYERING of the track that a job makes (R184, R238). -/
def modeLayering (mode : Nat) : Nat := if mode = 0 then 0 else if mode < 4 then 1 else 2

/-- The settings of a create command. -/
def encCfgOf (c : Ctx) : EncCfg where
  src := c.f 2 0 12
  srcKind := c.f 2 12 1
  codec := c.f 2 16 4
  profile := c.f 2 20 1
  mode := c.f 2 21 3
  outW := c.f 3 0 16
  outH := c.f 3 16 16
  fps := c.f 4 0 6
  q := c.f 4 6 6
  keyIv := c.f 4 16 16
  rateMax := c.f 5 0 24
  follow := c.bit 5 24
  coastEv := c.bit 5 25
  frameCap := c.f 6 0 24
  pktMax := c.f 7 0 14

/-- Is FPS one that the source allows (R237)? -/
def fpsOk (form : Option (Nat × Nat × Nat)) (fps : Nat) : Bool :=
  form.all fun f => fps == f.1 || 2 * fps == f.1 || 3 * fps == f.1

/-- Is each dimension between a quarter of the source's and the source's own (R237)? -/
def scaleOk (form : Option (Nat × Nat × Nat)) (w h : Nat) : Bool :=
  form.all fun f => decide (w ≤ f.2.1) && decide (f.2.1 ≤ 4 * w) && decide (h ≤ f.2.2) && decide (f.2.2 ≤ 4 * h)

/-- KEY_IV within its range. -/
def keyIvOk (v : Nat) : Bool := v == 0 || decide (500 ≤ v)

/-- The track of a job, with a drawn length of the AV1 template structure, which the spec does not give. -/
def State.jobTrack (s : State) (e : EncCfg) : Track × State :=
  let d := s.draw 253
  ({ media := 1, codec := e.codec, layering := modeLayering e.mode, pt := 0, rtxPt := 0
     encs := List.replicate (modeEncs e.mode) { ssrc := 0, rtxSsrc := 0, ddLen := 3 + d.1 } }, d.2)

/-- OP 0: create. -/
def vidEncCreate (c : Ctx) (s : State) (buf : BufRead) : Reply :=
  let e := encCfgOf c
  let ring := c.bit 2 24
  let g := c.f 1 16 6
  let form := s.sourceForm e.srcKind e.src
  let tenant := s.sourceTenant e.srcKind e.src
  let free := firstFree s.encJobs 0 1536
  let id := free.getD 0
  let job : EncJob := { cfg := e, prio := c.f 1 3 2, group := groupArg g, creator := c.issuer, tenant := tenant.getD 0
                        ring := if ring then some { size := descLen c 8 } else none, encs := List.replicate (modeEncs e.mode) {} }
  let t := s.jobTrack e
  checks ([badLen c (if ring then 10 else 7), badArg (c.f 1 3 2 == 3) 1, badArg tenant.isNone 1,
      badArg (decide (e.codec < 8) || decide (11 < e.codec) || (e.profile == 1 && e.codec ≠ 8) || decide (5 < e.mode) ||
        ((e.mode == 2 || e.mode == 3) && e.codec ≠ 11) || c.f 2 25 7 ≠ 0 || c.f 2 13 3 ≠ 0 || !fpsOk form e.fps) 2,
      badArg (e.outW % 2 ≠ 0 || e.outH % 2 ≠ 0 || decide (e.outW < 64) || decide (7680 < e.outW) || decide (e.outH < 64) || decide (4320 < e.outH) ||
        !scaleOk form e.outW e.outH) 3,
      badArg (e.fps == 0 || decide (60 < e.fps) || c.f 4 12 4 ≠ 0 || !keyIvOk e.keyIv) 4, reserved c 5 26 6, reserved c 6 24 8,
      badArg (decide (e.pktMax < 256) || decide (8960 < e.pktMax) || c.f 7 14 18 ≠ 0) 7] ++
      (if ring then descChecks c 8 true ++ [(decide (descLen c 8 < 1048576), eBadarg, 0x8008)] else []) ++
      [tenantObj s c.issuer tenant, overLevel s g e.codec e.outW e.outH, badGroup s g, (free.isNone, eNospace, 0x0A03)] ++
      (if ring then bufChecks buf else []))
    (withFlows { t.2 with encJobs := tset s.encJobs id job, jobTracks := tset s.jobTracks id t.1 } noSoft fun t =>
      okWords t [id + 65536 * t.clusterOf (.encode id)])

/-- OP 1: modify. -/
def vidEncModify (c : Ctx) (s : State) (id : Nat) (j : EncJob) : Reply :=
  let p := c.f 1 3 2
  let cfg := { j.cfg with
    q := c.f 2 6 6, keyIv := c.f 2 16 16, rateMax := c.f 3 0 24, follow := c.bit 3 24, coastEv := c.bit 3 25, frameCap := c.f 4 0 24 }
  checks [badArg (p == 3) 1, badArg (c.f 2 12 4 ≠ 0 || !keyIvOk cfg.keyIv) 2, reserved c 3 26 6, reserved c 4 24 8,
      tenantObj s c.issuer (some j.tenant), (p == 0 && s.legs.any (fun x => x.2.attachedTo id), eState, 0x0A03)]
    (ok { s with encJobs := tset s.encJobs id { j with cfg := cfg, prio := p } })

/-- Is a slot attached to the job, or about to be? -/
def Slot.ofJob (v : Slot) (id : Nat) : Bool := v.src == .job id || v.homeJob == some id || v.pendSrc.any fun p => p.1 == .job id

/-- An encode job ends: its attached streams end as removal ends them (R183), and it lets go of its source. -/
def State.endEncode (s : State) (id : Nat) : State :=
  let s := s.legs.foldl (fun s x => s.removeSlots x.1 (·.ofJob id)) s
  let s := (List.range 3).foldl (fun s k => s.dropReader (readerEnc id k)) s
  { s with encJobs := tdel s.encJobs id, jobTracks := tdel s.jobTracks id
           engines := tmap (fun e => e.without (fun _ => false) (· == id)) s.engines }.settle

/-- OP 4: attach a receiving slot; its streams obey R158 to R183 (R239). -/
def vidEncAttach (c : Ctx) (s : State) (id : Nat) (j : EncJob) : Reply :=
  let leg := c.f 2 0 16
  let k := c.f 2 24 6
  let sel := c.f 5 24 2
  let x : SubSet := ⟨(c.w 3).toNat, (c.w 4).toNat, c.f 5 0 7, c.f 5 8 7, c.f 5 16 8⟩
  let l := s.leg leg
  let old := l.bind fun l => tget l.slots k
  checks ([legUsed s leg, badArg (c.f 5 26 6 ≠ 0 || c.bit 5 7 || c.bit 5 15 || (sel ≠ 3 && decide (j.encs.length ≤ sel))) 5,
      tenantObj s c.issuer (some j.tenant)] ++ legObj s c.issuer leg (c.f 2 16 8) ++
      [(!(l.any fun l => l.cfg.compSend) || j.prio == 0, eState, 0x0A03),
       (l.any fun l => l.slots.any fun v => v.1 ≠ k && v.2.outSsrc == x.ssrc, eState, 0x0805), (l.any fun l => l.keys.rekey, eRekey, 0)])
    (match old with
     | none =>
       if 1048576 ≤ s.subscriptions then .fail eNospace 0x0801
       else withFlows (s.newSlot leg k (.job id) 1 x sel) (softFor leg) ok
     | some v =>
       if v.choice = .job id && v.sub = x && v.encSel = sel && v.state ≠ 5 then .fail eAlreadyDone 0
       else
         let set := fun s : State => s.modSlot leg k fun v => { v with encSel := sel }
         let t :=
           if v.outSsrc ≠ x.ssrc || v.media ≠ 1 then (s.endSlot leg k [.job id]).newSlot leg k (.job id) 1 x sel
           else if v.choice ≠ .job id || v.state = 5 then (set s).repoint leg k v (.job id) x
           else (set s).modSlot leg k fun v => v.withSub x
         withFlows t (softFor leg) ok)

/-- OP 5: detach, a removal under R183. -/
def vidEncDetach (c : Ctx) (s : State) (id : Nat) (j : EncJob) : Reply :=
  let leg := c.f 2 0 16
  let k := c.f 2 24 6
  let v := (s.leg leg).bind fun l => tget l.slots k
  checks ([legUsed s leg, tenantObj s c.issuer (some j.tenant)] ++ legObj s c.issuer leg (c.f 2 16 8) ++
      [(!(v.any fun v => v.ofJob id), eState, 0x0803)])
    (ok (s.removeSlot leg k).settle)

/-- VID.ENCODE (R253). -/
def doVidEncode (ch : Nat) (buf : BufRead) (s : State) : State := runCmd ch 0x0A02 (fun c s =>
  let op := c.f 1 0 3
  let id := c.f 1 5 11
  let lenOk := if op = 0 then c.len == 7 || c.len == 10 else c.len == [0, 4, 1, 1, 5, 2].getD op 0
  checks [badArg (decide (5 < op)) 1, (!lenOk, eBadarg, 0x8001), reserved c 1 22 10]
    (if op = 0 then vidEncCreate c s buf
     else match tget s.encJobs id with
     | none => .fail eBadarg 1
     | some j => match op with
       | 1 => vidEncModify c s id j
       | 2 => checks [tenantObj s c.issuer (some j.tenant)] (ok (s.endEncode id))
       | 3 => checks [tenantObj s c.issuer (some j.tenant)] (okWords s [j.fstat, j.coded, j.coasted, j.skipped])
       | 4 => vidEncAttach c s id j
       | _ => vidEncDetach c s id j)) s

/-! ## VID.KEYREQ (R254) -/

/-- Milliseconds until the key picture of an encoding may start, after a request (R241). -/
def Encoding.keyWait (e : Encoding) (m : Nat) : Nat :=
  if e.keyCoding then 0 else (e.lastKey.map fun k => k + 500 - m).getD 0

/-- VID.KEYREQ (R254): for every encoding the longest wait. -/
def doVidKeyreq (ch : Nat) (s : State) : State := runCmd ch 0x0A03 (fun c s =>
  let id := c.f 1 0 11
  let k := c.f 1 11 2
  let j := tget s.encJobs id
  let n := (j.map (·.encs.length)).getD 0
  let es := if k = 3 then List.range n else [k]
  checks [reserved c 1 13 19, badArg (j.isNone || (k ≠ 3 && decide (n ≤ k))) 1, tenantObj s c.issuer (j.map (·.tenant))]
    (let t := es.foldl (fun s e => s.jobKey id e) s
     let waits := ((tget t.encJobs id).map fun j => es.map fun e => (j.encs.getD e {}).keyWait t.time.m).getD []
     okWords t [waits.foldl max 0])) s

/-! ## The meanings -/

/-- The meaning of VID_DECODE (R252). -/
def execVidDecode (ch : Nat) (s : State) : Host.Outcome State Fault Refusal :=
  answer (Instr.vidDecode ch).wf (doVidDecode ch s)

/-- The meaning of VID_ENCODE (R253). -/
def execVidEncode (ch : Nat) (buf : BufRead) (s : State) : Host.Outcome State Fault Refusal :=
  answer (Instr.vidEncode ch buf).wf (doVidEncode ch buf s)

/-- The meaning of VID_KEYREQ (R254). -/
def execVidKeyreq (ch : Nat) (s : State) : Host.Outcome State Fault Refusal :=
  answer (Instr.vidKeyreq ch).wf (doVidKeyreq ch s)

end Sys2Proof.Machine
end

