-- ==== Sys2Proof/Machine/LayoutCmds.lean ====
section
/-! DEFINITION. The layout commands (R257, R258, R264, R265, R268, R275 to R279): LAY.CANVAS, LAY.LAYER, LAY.ORDER, LAY.LUT. -/

namespace Sys2Proof.Machine

/-! ## Room on a composer (R258) -/

/-- Canvases that a composer serves. -/
def State.servedBy (s : State) (q : Nat) : List (Nat × Canvas) := s.canvases.filter fun x => x.2.composer == q
/-- Output rate of a canvas. -/
def Canvas.outRate (c : Canvas) : Nat := c.w * c.h * c.fps
/-- Output rate that a composer serves. -/
def State.outRateOf (s : State) (q : Nat) : Nat := ((s.servedBy q).map (·.2.outRate)).sum

/-- Pixels of a layer's crop, as R258 counts them. -/
def State.cropSize (s : State) (l : Layer) (src : LaySrc) (g : LayGeo) (still : Option Surface) : Nat :=
  let whole := match src.kind with
    | 1 => ((tget s.decJobs src.src).map fun (j : DecJob) => (j.maxW, j.maxH)).getD (0, 0)
    | 2 => ((tget s.canvases src.src).map fun (c : Canvas) => (c.w, c.h)).getD (0, 0)
    | 3 => ((still.orElse fun _ => l.still).map fun (x : Surface) => (x.w, x.h)).getD (0, 0)
    | _ => (0, 0)
  if src.kind = 0 then 0 else (if g.sw = 0 then whole.1 else g.sw) * (if g.sh = 0 then whole.2 else g.sh)

/-- Input rate of a canvas: a layer that waits for its new source counts the greater of the two. -/
def State.inRate (s : State) (c : Canvas) : Nat :=
  (c.layers.map fun l =>
    let now := s.cropSize l.2 l.2.src l.2.geo l.2.still
    match l.2.pend with
    | some (src, g, still, _) => max now (s.cropSize l.2 src g still)
    | none => now).sum * c.fps
/-- Input rate that a composer serves. -/
def State.inRateOf (s : State) (q : Nat) : Nat := ((s.servedBy q).map fun x => s.inRate x.2).sum

/-- The faults of R258 with the canvases as they are: too many, output rate, input rate of composer `q`. -/
def composerFull (s : State) (q : Nat) : List (Bool × Nat × Nat) :=
  [(decide (48 < (s.servedBy q).length), eNospace, 0x0B01), (decide (2500000000 < s.outRateOf q), eNospace, 0x0B02),
   (decide (5000000000 < s.inRateOf q), eNospace, 0x0B03)]

/-- Region 3 cannot hold the surfaces and still images. -/
def canvasRegionFull (s : State) : Bool × Nat × Nat := (decide (s.regionSize 3 < s.canvasBytes), eNospace, 0x0B04)

/-- Has the composer room for the canvas, and is it in service? -/
def State.composerRoom (s : State) (q : Nat) (id : Nat) (c : Canvas) : Bool :=
  let t := { s with canvases := tset s.canvases id { c with composer := q } }
  (s.prot.composers.getD q false) && (composerFull t q).all fun f => !f.1

/-- The composer with the most free output rate among those with room, the lowest-numbered on a tie (R257, R428). -/
def State.chooseComposer (s : State) (id : Nat) (c : Canvas) (not_ : Option Nat) : Option Nat :=
  bestBy (fun q => 2500000000 - s.outRateOf q) ((List.range 4).filter fun q => some q ≠ not_ && s.composerRoom q id c)

/-! ## LAY.CANVAS (R257, R275) -/

/-- The canvas ID that a new canvas on composer `q` takes. -/
def State.canvasId (s : State) (q : Nat) : Option Nat := (firstFree s.canvases (48 * q) 48).orElse fun _ => firstFree s.canvases 0 192

/-- OP 0: create. -/
def layCreate (c : Ctx) (s : State) : Reply :=
  let w := c.f 2 0 16
  let h := c.f 2 16 16
  let fps := c.f 3 0 6
  let n := c.f 3 7 4
  let sw := c.f 3 16 16
  let tenant := if isPF c.issuer then c.f 5 0 12 else (s.tenantOf c.issuer).getD 0
  let fresh : Canvas := { composer := 0, tenant := tenant, creator := c.issuer, w := w, h := h, fps := fps, lowDelay := c.bit 3 6
                          nsurf := if n = 0 then 4 else n, switchMax := if sw = 0 then 1000 else sw
                          bgY := c.f 4 0 8, bgCb := c.f 4 8 8, bgCr := c.f 4 16 8 }
  let q := if c.f 1 16 3 = 7 then (s.chooseComposer 192 fresh none).getD 0 else c.f 1 16 3
  let cv := { fresh with composer := q }
  let t := { s with canvases := tset s.canvases 192 cv }
  let id := s.canvasId q
  checks ([badArg (decide (4 ≤ c.f 1 16 3) && c.f 1 16 3 ≠ 7 || c.f 1 3 5 ≠ 0 || c.f 1 19 13 ≠ 0) 1,
      badArg (w % 2 ≠ 0 || h % 2 ≠ 0 || decide (w < 64) || decide (3840 < w) || decide (h < 64) || decide (2160 < h)) 2,
      badArg (fps == 0 || decide (60 < fps) || c.f 3 11 5 ≠ 0 || (n ≠ 0 && (decide (n < 3) || decide (8 < n))) ||
        (sw ≠ 0 && (decide (sw < 100) || decide (10000 < sw)))) 3,
      reserved c 4 24 8, reserved c 5 12 20] ++ composerFull t q ++ [(id.isNone, eNospace, 0x0B01), canvasRegionFull t])
    (let n := id.getD 0
     withFlows { s with canvases := tset s.canvases n cv } noSoft fun t => okWords t [n + 256 * q])

/-- OP 1: modify. -/
def layModify (c : Ctx) (s : State) (id : Nat) (v : Canvas) : Reply :=
  let sw := c.f 2 16 16
  checks [badArg (c.f 2 11 5 ≠ 0 || (sw ≠ 0 && (decide (sw < 100) || decide (10000 < sw)))) 2, reserved c 3 24 8,
      tenantObj s c.issuer (some v.tenant)]
    (ok { s with canvases := tset s.canvases id { v with
      lowDelay := c.bit 2 6, switchMax := if sw = 0 then 1000 else sw, bgY := c.f 3 0 8, bgCb := c.f 3 8 8, bgCr := c.f 3 16 8 } })

/-- A canvas ends: its surfaces and its flow are freed, and it lets go of what it reads. -/
def State.endCanvas (s : State) (id : Nat) : State :=
  let s := (List.range 64).foldl (fun s l => s.dropReader (readerLayer id l)) (s.dropReader (readerCanvas id))
  { s with canvases := tdel s.canvases id }.settle

/-- OP 4: snapshot. -/
def laySnapshot (c : Ctx) (s : State) (buf : BufRead) : Reply :=
  let src := c.f 2 0 12
  let kind := c.f 2 12 1
  let p := encSource kind src
  let tenant := s.sourceTenant kind src
  let x := s.newest p
  checks ([badArg tenant.isNone 1] ++ descChecks c 3 true ++ [tenantObj s c.issuer tenant, (x.isNone, eState, 0x0B02),
      badArg (x.any fun y => decide (descLen c 3 < nbcSize y.w y.h y.depth)) 5] ++ bufChecks buf)
    (ok { s with hostCopy := (x.map nbcBytes).getD [] })

/-- LAY.CANVAS (R275). -/
def doLayCanvas (ch : Nat) (buf : BufRead) (s : State) : State := runCmd ch 0x0B01 (fun c s =>
  let op := c.f 1 0 3
  let id := c.f 1 8 8
  checks [badArg (decide (4 < op)) 1, badLen c ([5, 3, 1, 1, 5].getD op 0)]
    (match op with
     | 0 => layCreate c s
     | 4 => laySnapshot c s buf
     | _ => match tget s.canvases id with
       | none => .fail eBadarg 1
       | some v => checks [badArg (c.f 1 3 5 ≠ 0 || c.f 1 19 13 ≠ 0) 1]
         (match op with
          | 1 => layModify c s id v
          | 2 => checks [tenantObj s c.issuer (some v.tenant), (s.producerUsed 2 id || s.encJobs.any fun e => e.2.cfg.srcKind == 0 && e.2.cfg.src == id, eState, 0x0A06)]
              (ok (s.endCanvas id))
          | _ => checks [tenantObj s c.issuer (some v.tenant)]
              (okWords s [v.composer + 4 * b2n v.lowDelay + 16 * v.fps, v.composed, v.skipped, ((s.newest (.canvas id)).map (·.tick)).getD 0])))) s

/-! ## LAY.LAYER (R264 to R266, R276) -/

/-- A source of a layer as a producer. -/
def LaySrc.producer (x : LaySrc) : Option Producer := if x.kind = 1 then some (.decode x.src) else if x.kind = 2 then some (.canvas x.src) else none

/-- A geometry from the words of a set. -/
def layGeoOf (c : Ctx) : LayGeo where
  sync := c.bit 2 3
  alphaPlane := c.bit 2 4
  alpha := c.f 2 8 8
  sx := c.f 3 0 16
  sy := c.f 3 16 16
  sw := c.f 4 0 16
  sh := c.f 4 16 16
  dx := signed 16 (c.f 5 0 16)
  dy := signed 16 (c.f 5 16 16)
  dw := c.f 6 0 16
  dh := c.f 6 16 16
  fillY := c.f 7 0 8
  fillCb := c.f 7 8 8
  fillCr := c.f 7 16 8

/-- Bytes of a still image in the buffer: Y, Cb, Cr, and the alpha plane. -/
def stillLen (g : LayGeo) : Nat := g.sw * g.sh + g.sw * g.sh / 2 + if g.alphaPlane then g.sw * g.sh else 0

/-- The still image of a buffer. -/
def stillOf (g : LayGeo) (bs : List Byte) (tick : Nat) : Surface :=
  let v := bs.map (·.toNat)
  let n := g.sw * g.sh
  { w := g.sw, h := g.sh, depth := 8, y := v.take n, cb := (v.drop n).take (n / 4), cr := (v.drop (n + n / 4)).take (n / 4)
    alpha := if g.alphaPlane then v.drop (n + n / 2) else [], tick := tick }

/-- The layer after a set (R265): a change of source of a layer that shows a picture waits for a frame boundary, holding the
surface shown last. -/
def layerSet (old : Option Layer) (src : LaySrc) (g : LayGeo) (still : Option Surface) (m : Nat) : Layer :=
  match old with
  | none => { src := src, geo := g, still := still }
  | some l =>
    if l.pend.isSome then { l with pend := some (src, g, still, m) }
    else if l.src ≠ src && l.shown.isSome then { l with pend := some (src, g, still, m), held := l.shown }
    else { l with src := src, geo := g, still := still, shown := if l.src = src then l.shown else none, lastSeq := if l.src = src then l.lastSeq else 0 }

/-- The surface that a layer begins to hold is held as a reader. -/
def State.holdLayer (s : State) (id n : Nat) (l : Layer) : State :=
  match l.src.producer, l.held with
  | some p, some x => (s.dropSurf p (readerLayer id n)).holdSurf p x.seq (readerLayer id n)
  | _, _ => s

/-- OP 0: set. -/
def laySet (c : Ctx) (s : State) (id n : Nat) (v : Canvas) (buf : BufRead) : Reply :=
  let kind := c.f 2 0 3
  let src : LaySrc := ⟨kind, if kind = 1 || kind = 2 then c.f 2 16 12 else 0⟩
  let g := layGeoOf c
  let odd := fun k : Nat => badArg (c.f k 0 1 ≠ 0 || c.f k 16 1 ≠ 0) k
  let still := kind == 3
  let tenant := if kind = 1 then (tget s.decJobs src.src).map (·.tenant) else if kind = 2 then (tget s.canvases src.src).map (·.tenant) else some v.tenant
  let old := tget v.layers n
  let image := if still then some (stillOf g (bufBytes buf (stillLen g)) s.tick) else none
  let put := fun im : Option Surface =>
    let l := layerSet old src g im s.time.m
    ({ s with canvases := tset s.canvases id { v with layers := tset v.layers n l } }, l)
  let t := put image
  checks ([badArg (decide (3 < kind)) 2, badArg (still && (c.len == 7 || g.sw == 0 || g.sh == 0)) 4, badLen c (if still then 10 else 7),
      badArg (c.f 2 5 3 ≠ 0 || c.f 2 28 4 ≠ 0) 2, badArg tenant.isNone 1, odd 3, odd 4, odd 5, odd 6, reserved c 7 24 8,
      badArg (kind ≠ 0 && ((g.sw ≠ 0 && !ratioOk g.dw g.sw) || (g.sh ≠ 0 && !ratioOk g.dh g.sh))) 2] ++
      (if still then descChecks c 8 false ++ [descSize c 8 (stillLen g)] else []) ++
      [tenantObj s c.issuer (some v.tenant), tenantObj s c.issuer tenant, (tenant.any fun x => x ≠ v.tenant, eTenant, 2),
       (src == ⟨2, id⟩, eState, 0x0B01)] ++ composerFull t.1 v.composer ++ [canvasRegionFull t.1] ++ (if still then bufChecks buf else []))
    (withFlows (t.1.holdLayer id n t.2) noSoft ok)

/-- The state of a layer (R276): 0 unused, 1 showing, 2 holding, 3 fill. -/
def Layer.code (l : Layer) : Nat := if l.pend.isSome then 2 else if l.src.kind ≠ 0 && (l.shown.isNone || l.filling) then 3 else 1

/-- LAY.LAYER (R276). -/
def doLayLayer (ch : Nat) (buf : BufRead) (s : State) : State := runCmd ch 0x0B02 (fun c s =>
  let id := c.f 1 0 8
  let n := c.f 1 8 6
  let op := c.f 1 14 2
  checks [badArg (op == 3) 2, (if op = 0 then c.len ≠ 7 && c.len ≠ 10 else c.len ≠ 1, eBadarg, 0x8001)]
    (match tget s.canvases id with
     | none => .fail eBadarg 1
     | some v => match op with
       | 0 => laySet c s id n v buf
       | 1 => checks [tenantObj s c.issuer (some v.tenant)]
           (ok ({ s with canvases := tset s.canvases id { v with layers := tdel v.layers n } }.dropReader (readerLayer id n)).settle)
       | _ =>
         let l := tget v.layers n
         let x := l.bind fun l => if l.pend.isSome then l.held else l.shown
         checks [tenantObj s c.issuer (some v.tenant)]
           (okWords s [(l.map (·.code)).getD 0, (x.map (·.fstat)).getD 0, (x.map (·.tick)).getD 0]))) s

/-! ## LAY.ORDER and LAY.LUT (R268, R269, R277, R278) -/

/-- The word of the first entry that is out of range, or that names a layer a second time. -/
def orderFault : Nat → List Nat → List Word → Option Nat
  | _, _, [] => none
  | k, seen, w :: ws => if w.fld 6 26 ≠ 0 || seen.contains (w.fld 0 6) then some k else orderFault (k + 1) (w.fld 0 6 :: seen) ws

/-- LAY.ORDER (R277). -/
def doLayOrder (ch : Nat) (s : State) : State := runCmd ch 0x0B03 (fun c s =>
  let id := c.f 1 0 8
  let mode := c.f 1 8 1
  let count := c.f 1 9 7
  let bad := orderFault 2 [] (c.args.drop 1)
  let v := tget s.canvases id
  checks [badLen c (1 + count), badArg (v.isNone || (mode == 0 && count ≠ 0) || (mode == 1 && (count == 0 || decide (64 < count)))) 1,
      badArg bad.isSome (bad.getD 0), tenantObj s c.issuer (v.map (·.tenant))]
    (ok { s with canvases := tupd s.canvases id fun v => { v with
      orderMode := mode, order := if mode = 0 then [] else (c.args.drop 1).map fun w => w.fld 0 6 } })) s

/-- The 16-bit entries of a table. -/
def lutWords : Nat → List Byte → List Nat
  | 0, _ => []
  | n + 1, bs => leNat (bs.take 2) :: lutWords n (bs.drop 2)

/-- LAY.LUT (R278). -/
def doLayLut (ch : Nat) (buf : BufRead) (s : State) : State := runCmd ch 0x0B04 (fun c s =>
  let id := c.f 1 0 8
  let out := c.bit 1 8
  let reset := c.bit 1 9
  let v := tget s.canvases id
  let l := lutWords 1024 (bufBytes buf 2048)
  let put := fun t : Option (List Nat) => ok { s with canvases := tupd s.canvases id fun v => if out then { v with lutOut := t } else { v with lutIn := t } }
  checks [badLen c (if reset then 1 else 4), badArg v.isNone 1]
    (if reset then checks [tenantObj s c.issuer (v.map (·.tenant))] (put none)
     else checks (descChecks c 2 false ++ [descSize c 2 2048, tenantObj s c.issuer (v.map (·.tenant))] ++ bufChecks buf ++
         [badArg (l.any fun x => decide (4096 ≤ x)) 2]) (put (some l)))) s

/-! ## The meanings -/

/-- The meaning of LAY_CANVAS (R275). -/
def execLayCanvas (ch : Nat) (buf : BufRead) (s : State) : Host.Outcome State Fault Refusal :=
  answer (Instr.layCanvas ch buf).wf (doLayCanvas ch buf s)

/-- The meaning of LAY_LAYER (R276). -/
def execLayLayer (ch : Nat) (buf : BufRead) (s : State) : Host.Outcome State Fault Refusal :=
  answer (Instr.layLayer ch buf).wf (doLayLayer ch buf s)

/-- The meaning of LAY_ORDER (R277). -/
def execLayOrder (ch : Nat) (s : State) : Host.Outcome State Fault Refusal :=
  answer (Instr.layOrder ch).wf (doLayOrder ch s)

/-- The meaning of LAY_LUT (R278). -/
def execLayLut (ch : Nat) (buf : BufRead) (s : State) : Host.Outcome State Fault Refusal :=
  answer (Instr.layLut ch buf).wf (doLayLut ch buf s)

end Sys2Proof.Machine
end

