-- ==== Sys2Proof/Machine/Video.lean ====
section
/-! DEFINITION. Video frames (R228, R231 to R246, R249, R251): the engines, decode frames from their packets to their surfaces,
and encode frames from a surface to packets and recordings. What a standard decoder finds and what a standard encoder makes
of each row are operands. -/

namespace Sys2Proof.Machine

abbrev evVidConceal : Nat := 0x0A01
abbrev evVidCoast : Nat := 0x0A02
abbrev evVidLimit : Nat := 0x0A03

/-- A count that saturates at 32 bits. -/
def bump (n : Nat) : Nat := min (n + 1) 0xFFFFFFFF

/-- The cluster whose engine runs an owner's frames: none while its flow is stopped (R226, R416). -/
def State.engineOf (s : State) (o : FlowOwner) : Option Nat :=
  match s.flowOf o with
  | some (_, f) => if f.stopped then none else some f.place
  | none => none

/-! ## The packets of a decode job (R232, R233) -/

/-- Is every number from the first packet of the frame to its last present? -/
def DecFrame.whole (f : DecFrame) : Bool :=
  match f.first, f.last with
  | some a, some b =>
    let n := seqDiff b a
    decide (0 ≤ n) && (List.range (n.toNat + 1)).all fun k => f.got.contains ((a + k) % 65536)
  | _, _ => false

/-- One packet put into its frame. -/
def DecFrame.add (f : DecFrame) (start fin : Bool) (seq t m : Nat) : DecFrame :=
  let f := { f with
    got := if f.got.contains seq then f.got else f.got ++ [seq]
    first := if start then some seq else f.first, last := if fin then some seq else f.last, t := t }
  if f.complete.isNone && f.whole then { f with complete := some m } else f

/-- The frames of a job, in decoding order, with a packet added to its own. -/
def addPacket (ts tick m : Nat) (start fin : Bool) (seq t : Nat) : List DecFrame → List DecFrame
  | [] => [({ ts := ts, firstTick := tick } : DecFrame).add start fin seq t m]
  | f :: fs =>
    if f.ts = ts then f.add start fin seq t m :: fs
    else if tsAfter f.ts ts then ({ ts := ts, firstTick := tick } : DecFrame).add start fin seq t m :: f :: fs
    else f :: addPacket ts tick m start fin seq t fs

/-- Does the job read packets of this encoding and layer (R232)? -/
def DecJob.reads (j : DecJob) (layering : Nat) (p : FwdPkt) : Bool :=
  if layering = 2 then p.enc == j.decS && decide (p.t ≤ j.decT)
  else if layering = 1 then decide (p.s ≤ j.decS) && decide (p.t ≤ j.decT)
  else true

/-- The job at the start of a frame: a pending layer is taken at a switching point (R161, R232). -/
def DecJob.switched (j : DecJob) (layering : Nat) (p : FwdPkt) : DecJob :=
  match j.pend with
  | some a => if p.start && switchHere layering (j.decS, j.decT) a p then { j with decS := a.1, decT := a.2, pend := none } else j
  | none => j

/-- A packet of a source track reaches one decode job: one of a frame already submitted is discarded. -/
def State.jobPacket (s : State) (id : Nat) (layering tick : Nat) (p : FwdPkt) : State :=
  match tget s.decJobs id with
  | none => s
  | some j =>
    let j := j.switched layering p
    let s := { s with decJobs := tset s.decJobs id j }
    if !j.reads layering p then s
    else if j.lastSubmitted.any fun t => !tsAfter p.rtp.ts t then s.occur srcVidLatePkt (s.occOn (.decode id) (occJob id j.tenant))
    else
      let start := p.start && (layering ≠ 1 || p.s == 0)
      let fin := p.rtp.marker || (p.fin && (layering ≠ 1 || p.s == j.decS))
      s.modDec id fun j => { j with frames := addPacket p.rtp.ts tick s.time.m start fin p.seq p.t j.frames }

/-- The decode jobs that read a track. -/
def State.jobsOf (s : State) (leg gen track : Nat) : List Nat :=
  (s.decJobs.filter fun x => x.2.srcLeg == leg && x.2.srcGen == gen && x.2.srcTrack == track).map (·.1)

/-- A packet of a track reaches every decode job that reads it. -/
def State.toJobs (s : State) (leg gen track layering tick : Nat) (p : FwdPkt) : State :=
  (s.jobsOf leg gen track).foldl (fun s id => s.jobPacket id layering tick p) s

/-! ## DECODE_FRAME_SUBMIT (R233) -/

/-- Is the frame due at tick `m`: complete, awaited for VJIT ticks, short of a lost packet, or behind a later complete frame? -/
def DecJob.due (j : DecJob) (f : DecFrame) (later : List DecFrame) (m : Nat) : Bool :=
  let before := fun t : Option Nat => t.any fun t => decide (t < m)
  before f.complete || (j.vjit ≠ 0 && decide (f.firstTick + j.vjit ≤ m)) || before f.lostAt || later.any fun g => before g.complete

/-- Frames that were submitted, are no reference and have not started are dropped. -/
def State.dropFrames (s : State) (id : Nat) (j : DecJob) : State :=
  let late := j.frames.filter fun f => f.submitted && !f.started && !f.isRef
  late.foldl (fun s f =>
    let s := { s with engines := tmap (fun e => { e with decWait := e.decWait.filter (· ≠ (id, f.ts)) }) s.engines }
    (s.modDec id fun j => { j with
      frames := j.frames.filter (fun x => x.ts ≠ f.ts), fstat := frameStatus [(true, fsDropped)] j.decS f.t 0 }).occur srcVidDecDrop (s.occOn (.decode id) (occJob id j.tenant))) s

/-- DECODE_FRAME_SUBMIT: the next frame of a job in decoding order goes to the engine at the first tick at which it is due;
`isRef` tells whether its own headers make it a reference. -/
def doDecodeFrameSubmit (job : Nat) (isRef : Bool) (s : State) : State :=
  match tget s.decJobs job, s.engineOf (.decode job) with
  | some j, some c =>
    match j.frames.dropWhile (·.submitted) with
    | [] => s
    | f :: later =>
      if !j.due f later s.time.m then s
      else
        let s := s.dropFrames job j
        let s := s.modDec job fun j => { j with lastSubmitted := some f.ts }
        let s := s.modFrame job f.ts fun f => { f with submitted := true, isRef := isRef }
        (s.modEngine c fun e => { e with decWait := e.decWait ++ [(job, f.ts)] }).decNext c
  | _, _ => s

/-! ## DECODE_FRAME_COMPLETE (R225, R234 to R236, R249) -/

/-- Why a picture exceeds the limits of its job or of R223: 0 size, 1 profile or depth, 2 level, 3 interlaced. -/
def DecJob.limit (j : DecJob) (four : Bool) (p : DecodedPic) : Option Nat :=
  let most := if four && (j.codec == 9 || j.codec == 11) then level60 else level51
  if j.maxW < p.w || j.maxH < p.h || most < p.w * p.h then some 0
  else if !p.profileOk then some 1
  else if !p.levelOk then some 2
  else if p.interlaced then some 3
  else none

/-- A refused frame is treated as never received (R225). -/
def State.decRefused (s : State) (id : Nat) (f : DecFrame) (p : DecodedPic) (cause : Nat) : State :=
  match tget s.decJobs id with
  | none => s
  | some j =>
    let n := j.limitN + 1
    let m := s.time.m
    let s := (s.modDec id fun j => { j with fstat := frameStatus [(true, fsDropped)] j.decS f.t 0, limitN := n }).occur srcVidDecLimit (s.occOn (.decode id) (occJob id j.tenant))
    if j.limitEv.any fun t => decide (m < t + 1000) then s
    else
      (s.modDec id fun j => { j with limitN := 0, limitEv := some m }).postObj j.creator
        { code := evVidLimit, obj := id, d0 := n, d1 := p.w % 65536 + 65536 * (p.h % 65536), d2 := cause }

/-- EV_VID_CONCEAL at the first concealed frame after a clean one, and at the first clean one after it (R236). -/
def State.concealEvent (s : State) (id : Nat) (bad : Bool) : State :=
  match tget s.decJobs id with
  | none => s
  | some j =>
    if bad && !j.concealing then
      (s.modDec id fun j => { j with concealing := true, concealRun := 1, concealTick := s.tick }).postObj j.creator
        { code := evVidConceal, obj := id, d0 := 1, d2 := s.tick }
    else if bad then s.modDec id fun j => { j with concealRun := j.concealRun + 1 }
    else if j.concealing then
      (s.modDec id fun j => { j with concealing := false }).postObj j.creator
        { code := evVidConceal, obj := id, d1 := j.concealRun, d2 := j.concealTick }
    else s

/-- The picture goes to a free output surface; without one it is decoded, and no output is written (R234). -/
def State.decOutput (s : State) (id : Nat) (j : DecJob) (p : DecodedPic) (fstat : Nat) : State :=
  if !p.shown then s
  else if !surfFree j.surfaces 3 then s.occur srcVidDecNosurf (s.occOn (.decode id) (occJob id j.tenant))
  else
    let x : Surface := { w := p.w, h := p.h, depth := p.depth, y := p.y, cb := p.cb, cr := p.cr, fstat := fstat, tick := s.tick, seq := j.seq + 1 }
    s.modDec id fun j => { j with seq := j.seq + 1, surfaces := putSurf j.surfaces 3 x }

/-- A frame that was decoded: its status, its counts, its events, a key request where temporal layer 0 is broken. -/
def State.decDone (s : State) (id : Nat) (j : DecJob) (f : DecFrame) (k : Nat) (p : DecodedPic) : State :=
  let broken := p.lostBlocks || f.complete.isNone
  let bad := broken || p.refsMissing || p.refConcealed
  let serial := decide (1 < k) && !p.bandStarts
  let late := j.frames.any fun g => g.submitted && tsAfter g.ts f.ts
  let st := frameStatus [(p.key, fsKey), (bad, fsConcealed), (f.preempted, fsPreempted), (late, fsLate), (serial, fsBandSerial)] j.decS f.t p.qmax
  let s := if serial then s.occur srcVidBandSerial (s.occOn (.decode id) (occJob id j.tenant)) else s
  let s := s.decOutput id j p st
  let s := s.modDec id fun j => { j with
    fstat := st, decoded := bump j.decoded, concealedN := if bad then bump j.concealedN else j.concealedN, curW := p.w, curH := p.h }
  let s := s.concealEvent id bad
  if f.t = 0 && (broken || p.refsMissing) then
    let enc := ((s.srcTrack (.track j.srcLeg j.srcGen j.srcTrack)).map fun t => t.encOf j.decS).getD 0
    s.requestKey (.track j.srcLeg j.srcGen j.srcTrack) enc false
  else s

/-- DECODE_FRAME_COMPLETE: the frame that the decoder runs is finished. -/
def doDecodeFrameComplete (job : Nat) (pic : DecodedPic) (s : State) : State :=
  match tget s.decJobs job, s.engineOf (.decode job) with
  | some j, some c =>
    match (s.engine c).decRun with
    | none => s
    | some r => match j.frames.find? fun f => f.ts == r.2 with
      | none => s
      | some f =>
        if r.1 ≠ job then s
        else
          let k := s.placeSize c
          let s := match j.limit (k == 4) pic with
            | some cause => s.decRefused job f pic cause
            | none => s.decDone job j f k pic
          let s := s.modDec job fun j => { j with frames := j.frames.filter fun g => g.ts ≠ f.ts }
          (s.modEngine c fun e => { e with decRun := none }).decNext c
  | _, _ => s

/-! ## The encoder: what a frame is (R238, R242, R243) -/

/-- The temporal layer of the frame that comes `n` frames after a key picture (R238). -/
def layerAt (mode n : Nat) : Nat := if mode = 0 then 0 else [0, 2, 1, 2].getD (n % 4) 0

/-- Must the next frame be a key picture (R241, R242)? -/
def Encoding.keyDue (e : Encoding) (keyIv m : Nat) : Bool :=
  e.lastKey.isNone || e.forced || (e.keyPending && e.lastKey.all fun k => decide (k + 500 ≤ m)) ||
    (keyIv ≠ 0 && e.lastKey.all fun k => decide (k + keyIv ≤ m))

/-- The highest quantiser of a codec, and the base that Q sets (R243). -/
def quantMax (codec : Nat) : Nat := if codec = 10 then 127 else if codec = 11 then 255 else 51
def quantBase (codec q : Nat) : Nat := if codec = 10 then 2 * q else if codec = 11 then 4 * q else (2 * q * 51 + 63) / 126
/-- The quantiser of a frame (R243). -/
def quantOf (codec q : Nat) (key : Bool) (t : Nat) : Nat :=
  if key then quantBase codec q - 2 else min (quantBase codec q + t) (quantMax codec)

/-- Luma lines of a CTU row, and the side of the units of its coast cost (R231, R245). -/
def rowLines (codec : Nat) : Nat := if codec = 9 || codec = 11 then 64 else 16

/-- The coast cost of a row of `units` (R245). -/
def coastCost (units : Nat) (key : Bool) : Nat := 8 + (units * (if key then 24 else 2) + 7) / 8

/-- The rows of a temporal unit, one list for each spatial layer: the coast cost of each (R245). -/
def rowCosts (codec : Nat) (key : Bool) (sizes : List (Nat × Nat)) : List (List Nat) :=
  let n := rowLines codec
  sizes.map fun x => List.replicate ((x.2 + n - 1) / n) (coastCost ((x.1 + n - 1) / n) key)

/-- A size within that of its source: the scaler never enlarges (R237). -/
def within (a b : Nat × Nat) : Nat × Nat := (min a.1 b.1, min a.2 b.2)

/-- The pictures of encoding `k`: its spatial layers, only the lowest where the job is reduced to it. -/
def EncCfg.layers (c : EncCfg) (k : Nat) (src : Nat × Nat) (base : Bool) : List (Nat × Nat) :=
  let l := (c.sizes.getD k []).map fun a => within a src
  if base then l.take 1 else l

/-! ## The leaky bucket (R244, R246) -/

/-- The lowest budget among the attached slots that are ACTIVE or WAIT_KEY, kb/s. -/
def State.lowestBudget (s : State) (id : Nat) : Option Nat :=
  ((s.legs.filter fun x => x.2.slots.any fun v => v.2.src == .job id && (v.2.state == 1 || v.2.state == 2)).map fun x =>
    (x.2.budget s.time.m).toNat / 1000).min?

/-- The rate of R244 in bits per millisecond: none where nothing limits it. -/
def State.rateOf (s : State) (id : Nat) (c : EncCfg) : Option Nat :=
  let own := if c.rateMax = 0 then none else some c.rateMax
  if !c.follow || c.mode ≠ 0 then own
  else match own, s.lowestBudget id with
    | some a, some b => some (min a b)
    | none, b => b
    | a, none => a

/-- The level of the bucket at tick `m`, in bits. -/
def Encoding.drained (e : Encoding) (rate : Option Nat) (m : Nat) : Nat := e.level - rate.getD 0 * (m - e.lastDrain)

/-- The budget of a frame in bytes (R244): none where nothing limits it. -/
def frameBudget (rate : Option Nat) (cap level : Nat) : Option Nat :=
  let room := rate.map fun r => (1000 * r - level) / 8
  if cap = 0 then room else some (min cap (room.getD cap))

/-! ## Frames that are not coded (R244, R463) -/

/-- A frame of an encoding that is not coded: SKIPPED, and counted. -/
def State.encSkip (s : State) (id k : Nat) (cap : Bool) : State :=
  match tget s.encJobs id with
  | none => s
  | some j =>
    let st := frameStatus [(true, fsSkipped)] (if j.encs.length = 1 then 0 else k) 0 0
    let s := s.modEncJob id fun j => { j with fstat := st, skipped := bump j.skipped }
    s.occur (if cap then srcPwrCapSkip else srcVidEncSkip) (s.occOn (.encode id) (occJob id j.tenant))

/-- A frame of an encoding becomes ready: one that has not started by then is SKIPPED, one on a pipe will be LATE. -/
def State.encReady (s : State) (id k : Nat) : State :=
  match tget s.encJobs id with
  | none => s
  | some j => match j.encs[k]? with
    | none => s
    | some e =>
      let s := if e.ready.isSome then s.encSkip id k false else s
      let m := s.time.m
      let s := s.modEncoding id k fun e => { e with ready := some m, readyAt := some m, runLate := e.running }
      match s.engineOf (.encode id) with
      | none => s
      | some c => s.modEngine c fun e => { e with waiting := e.waiting.filter (fun r => !r.is id k) ++ [⟨id, k, j.prio, 0⟩] }

/-- A ready frame goes without being coded; the temporal pattern goes on (R238). -/
def State.encDrop (s : State) (id k : Nat) (key cap : Bool) : State :=
  let s := (s.encSkip id k cap).modEncoding id k fun e => { e with ready := none, sinceKey := if key then e.sinceKey else e.sinceKey + 1 }
  { s with engines := tmap (fun e => { e with waiting := e.waiting.filter fun r => !r.is id k }) s.engines }

/-- Is a frame left out by the power cap (R462)? -/
def capSkips (steps : List Nat) (prio mode k t : Nat) (alt : Bool) : Bool :=
  let half := if mode = 0 then alt else t == 2
  let on := fun n => steps.contains n
  if prio = 0 then on 1
  else if prio = 1 then (on 2 && half) || (on 3 && (k ≠ 0 || t ≠ 0))
  else on 4 && half

/-- Is a frame left out by the degradation of R417? -/
def degradeSkips (step k t : Nat) : Bool := step == 3 || (step == 1 && (k ≠ 0 || t ≠ 0))

/-! ## ENCODE_FRAME_START (R237, R241 to R244) -/

/-- A transcode's frame becomes ready at each of its frame starts, staggered by its source leg (R104, R237). -/
def State.transcodeReady (s : State) (id k : Nat) (j : EncJob) : State :=
  let m := s.time.m
  let leg := ((tget s.decJobs j.cfg.src).map (·.srcLeg)).getD 0
  if j.cfg.srcKind = 1 && videoStarts j.cfg.fps leg m && (j.encs.getD k {}).readyAt ≠ some m && (s.newest (.decode j.cfg.src)).isSome
  then s.encReady id k else s

/-- The picture that a frame takes: the one that its canvas is composing since it became ready, or the newest completed surface (R237, R262). Its SEQ, its
size, and whether it is held as a reader. -/
def State.picture (s : State) (c : EncCfg) (ready : Option Nat) : Option (Nat × (Nat × Nat) × Bool) :=
  let done := (s.newest (encSource c.srcKind c.src)).map fun x => (x.seq, (x.w, x.h), true)
  if c.srcKind = 1 then done
  else match tget s.canvases c.src with
    | some v => if v.run.any (fun r => ready == some r.tick) then some (v.seq + 1, (v.w, v.h), false) else done
    | none => none

/-- A frame starts on a pipe with its budget. -/
def State.encGo (s : State) (id k c i : Nat) (r : PipeRun) (header : Nat) (key base : Bool) (t : Nat) (b : Option Nat) (pic : Nat × (Nat × Nat) × Bool) : State :=
  match tget s.encJobs id with
  | none => s
  | some j =>
    let m := s.time.m
    let level := (j.encs.getD k {}).drained (s.rateOf id j.cfg) m
    let s := if pic.2.2 then s.holdSurf (encSource j.cfg.srcKind j.cfg.src) pic.1 (readerEnc id k) else s
    (s.modEncoding id k fun e => { e with
      ready := none, running := true, runHeader := header, runKey := key, runForced := key && e.forced, runBudget := b
      runPreempted := false, runLate := false, runT := t, runBase := base, runSize := pic.2.1, runSrc := pic.1
      level := level, lastDrain := m, capAlt := !e.capAlt
      keyCoding := key, keyPending := e.keyPending && !key, forced := e.forced && !key, lastKey := if key then some m else e.lastKey }).onPipe c i r

/-- The picture size of a frame changes from that of the frame before (R242). -/
def Encoding.resized (e : Encoding) (src : Nat × Nat) (c : EncCfg) (k : Nat) : Bool :=
  e.frameNo ≠ 0 && c.layers k e.runSize false ≠ c.layers k src false

/-- ENCODE_FRAME_START: a ready frame of an encoding takes a pipe when its turn comes; `header` is its header bytes. A frame
that may not be coded, or whose budget cannot hold even its coasted rows, is SKIPPED. -/
def doEncodeFrameStart (job enc header : Nat) (s : State) : State :=
  match tget s.encJobs job with
  | none => s
  | some j0 =>
    let s := s.transcodeReady job enc j0
    match tget s.encJobs job, s.engineOf (.encode job) with
    | some j, some c => match j.encs[enc]?, s.picture j.cfg (j.encs.getD enc {}).ready with
      | some e, some pic =>
        let m := s.time.m
        if e.ready.isNone || e.running || j.degrade = 2 then s
        else
          let key := e.keyDue j.cfg.keyIv m || e.resized pic.2.1 j.cfg enc
          let t := if key then 0 else layerAt j.cfg.mode e.sinceKey
          let steps := s.power.applied
          let base := j.degrade == 1 || (j.prio == 1 && steps.contains 3)
          if capSkips steps j.prio j.cfg.mode enc t e.capAlt then
            (s.encDrop job enc key true).modEncoding job enc fun e => { e with capAlt := !e.capAlt }
          else if degradeSkips j.degrade enc t then s.encDrop job enc key false
          else
            let rate := s.rateOf job j.cfg
            let b := frameBudget rate j.cfg.frameCap (e.drained rate m)
            let least := header + ((rowCosts j.cfg.codec key (j.cfg.layers enc pic.2.1 base)).map (·.sum)).sum
            if b.any fun b => decide (b < least) then s.encDrop job enc key false
            else
              let eng := s.engine c
              match eng.encBest, eng.pipeFor j.prio with
              | some r, some i => if r.is job enc then s.encGo job enc c i r header key base t b pic else s
              | _, _ => s
      | _, _ => s
    | _, _ => s

/-! ## Coding the rows (R245, R249) -/

/-- The coding of a band so far: quantiser, bytes used, rows done, the highest quantiser used, whether it was raised, and
whether the rest was coasted, with what its rows may cost. -/
structure RowRun where
  qp : Nat
  used : Nat
  r : Nat := 0
  qmax : Nat
  capped : Bool := false
  coast : Option Nat := none

/-- One row of `n` bytes, with the coast cost of the rows from it on (`here`) and after it (`after`), of `rows` in the band. -/
def RowRun.row (x : RowRun) (b : Option Nat) (base top rows n here after : Nat) : RowRun :=
  match x.coast, b with
  | some _, _ => x
  | none, none => { x with used := x.used + n, r := x.r + 1 }
  | none, some b =>
    if x.used + n + after ≤ b then
      let used := x.used + n
      if b * (x.r + 1) * 11 < used * 10 * rows && x.qp < top then
        { x with used := used, r := x.r + 1, qp := x.qp + 1, capped := true, qmax := max x.qmax x.qp }
      else
        { x with used := used, r := x.r + 1, qmax := max x.qmax x.qp
                 qp := if used * 10 * rows < b * (x.r + 1) * 9 && base < x.qp then x.qp - 1 else x.qp }
    else { x with coast := some here, qmax := top }

/-- The rows of a band: their coded sizes and their coast costs. -/
def codeBand (b : Option Nat) (base top rows : Nat) : RowRun → List Nat → List Nat → RowRun
  | x, n :: ns, k :: ks => codeBand b base top rows (x.row b base top rows n (k + ks.sum) ks.sum) ns ks
  | x, [], k :: ks => codeBand b base top rows (x.row b base top rows 0 (k + ks.sum) ks.sum) [] ks
  | x, _, [] => x

/-- The first rows of each of `n` bands, the extra rows in the lower-numbered bands (R119). -/
def bandLen (rows n i : Nat) : Nat := rows / n + if i < rows % n then 1 else 0

/-- The bands of a frame from number `i` on, each with its part of the budget (R249); the header lies in the first. -/
def codeBands (b : Option Nat) (base top total k header : Nat) : Nat → Nat → List Nat → List Nat → List RowRun
  | 0, _, _, _ => []
  | fuel + 1, i, ns, ks =>
    let n := bandLen total k i
    let part := b.map fun b => b * n / total
    let x : RowRun := { qp := base, used := if i = 0 then header else 0, qmax := base }
    codeBand part base top n x (ns.take n) (ks.take n) :: codeBands b base top total k header fuel (i + 1) (ns.drop n) (ks.drop n)

/-- What the coding of a frame gives: bytes without the coasted rows, the most that these cost, whether any coasted, whether a
quantiser was raised, and the highest used. -/
structure Coded where
  used : Nat
  coastMost : Nat
  coasted : Bool
  capped : Bool
  qmax : Nat

/-- A frame from its bands (R119, R245). -/
def codedOf (l : List RowRun) : Coded where
  used := (l.map (·.used)).sum
  coastMost := (l.map fun x => x.coast.getD 0).sum
  coasted := l.any fun x => x.coast.isSome
  capped := l.any (·.capped)
  qmax := (l.map (·.qmax)).foldl max 0

/-! ## Packets (R224, R239) -/

/-- The layer information that the encoder writes (R154, R224): the Dependency Descriptor, the frame marking, or the VP8
descriptor. -/
def layerExts (codec mode frame sp tp ddLen tl0 : Nat) (key start fin : Bool) : List ExtElem :=
  if codec = 11 then
    [⟨1, if key && start && sp = 0 then ddLen else 3,
      .depDesc (frame % 65536) sp tp key start fin (if tp < 2 then [(3, tp + 1), (3, tp + 2)] else []) [] (key && start && sp == 0) none⟩]
  else if codec = 10 then []
  else if mode = 0 then [⟨2, 1, .frameMark 0 0 false key fin start none⟩]
  else [⟨2, 3, .frameMark tp 0 (tp == 1) key fin start (some (tl0 % 256))⟩]

/-- What the payload shows of its codec. -/
def payloadInfo (codec frame tp tl0 : Nat) (key start : Bool) : CodecInfo :=
  if codec = 10 then .vp8 tp (tp == 1) (tl0 % 256) (frame % 32768) (key && start)
  else if codec = 11 then .av1 (key && start)
  else .nal (if key then (if codec = 8 then 5 else 19) else 1)

/-- Split a layer frame into payloads of at most `most` bytes. -/
def payloads (bytes most : Nat) : List Nat :=
  let n := max 1 ((bytes + most - 1) / most)
  (List.range n).map fun i => if i + 1 < n then most else bytes - most * (n - 1)

/-- One packet of a job's stream: it is stored as an ordinary stream's (R155) and handed to the forwarding pipes. -/
def State.jobOut (s : State) (id k : Nat) (p : FwdPkt) : State :=
  let ip := p.rtp.payloadLen + 12 + p.rtp.extBytes + 28
  let m := s.time.m
  let h : HamperPkt := ⟨p.seq, p.s, p.t, p.key, p.start, p.fin, p.switches, ip, hamperBytes ip, p.stamp, m, s.hamperOrder, p.rtp⟩
  let s := s.evictFor (hamperBytes ip) s.hamperCount
  let s := { s with hamperOrder := s.hamperOrder + 1 }
  let s := s.modSrc (.job id) fun t => t.modEnc k fun e => { e with window := e.window ++ [(m, p.s, p.t, ip)] }.store h
  { s with fwdQ := s.fwdQ ++ [p] }

/-- A spatial layer of a frame as it is sent: layer (or encoding), bytes, and whether it is the last of the unit. -/
abbrev LayerOut : Type := Nat × Nat × Bool

/-- The packets of one spatial layer. -/
def State.sendLayer (s : State) (id k : Nat) (c : EncCfg) (e : Encoding) (ts ddLen : Nat) (l : LayerOut) : State :=
  let sizes := payloads l.2.1 c.pktMax
  (sizes.zipIdx).foldl (fun s x =>
    let start := x.2 == 0
    let fin := x.2 + 1 == sizes.length
    let exts := layerExts c.codec c.mode (e.frameNo * 4 + l.1) (if c.mode < 4 then l.1 else 0) e.runT ddLen e.tl0 e.runKey start fin
    let seq := (((tget s.encJobs id).bind fun j => j.encs[k]?).map (·.seq)).getD 0
    let rtp : Rtp := { version := 2, marker := fin && l.2.2, pt := 0, seq := seq % 65536, ts := ts, ssrc := 0, csrc := [], exts := exts
                       extBytes := extBlockLen exts, payloadLen := x.1, padding := 0, osn := none, codec := payloadInfo c.codec e.frameNo e.runT e.tl0 e.runKey start }
    let marks := if e.runT < 2 then [(3, e.runT + 1), (3, e.runT + 2)] else []
    let p : FwdPkt := ⟨.job id, k, 1, l.1, e.runT, e.runKey, start, fin, marks, seq % 65536, some (2, 2), s.time.ref, rtp⟩
    (s.modEncoding id k fun e => { e with seq := e.seq + 1 }).jobOut id k p) s

/-! ## Recording (R240) -/

/-- Where a record of `need` bytes goes, with RD read: none where the ring cannot hold it; it never wraps. -/
def RecRing.place (r : RecRing) (need rd : Nat) : Option Nat :=
  if rd ≤ r.wr then
    if r.wr + need ≤ r.size && !(r.wr + need == r.size && rd == 64) then some r.wr
    else if 64 + need < rd then some 64 else none
  else if r.wr + need < rd then some r.wr else none

/-- Bytes of a record: a header of 32 bytes and the frame, padded to 64. -/
def recordSize (len : Nat) : Nat := (32 + len + 63) / 64 * 64

/-- The ring after a record. -/
def RecRing.put (r : RecRing) (off : Nat) (x : RecRecord) : RecRing :=
  let stop := off + recordSize x.len
  { r with wr := if r.size ≤ stop then 64 else stop
           records := r.records.filter (fun y => y.off + 32 + y.len ≤ off || stop ≤ y.off) ++ [x] }

/-- Record a frame, where the job records. -/
def State.record (s : State) (id : Nat) (bytes fstat ts rd : Nat) : State :=
  match tget s.encJobs id with
  | none => s
  | some j => match j.ring with
    | none => s
    | some r =>
      match r.place (recordSize bytes) rd with
      | some off => s.modEncJob id fun j => { j with ring := some (r.put off ⟨off, bytes, s.tick, fstat, ts⟩) }
      | none => s.occur srcVidRecDrop (s.occOn (.encode id) (occJob id j.tenant))

/-! ## ENCODE_FRAME_COMPLETE (R18, R239 to R246) -/

/-- EV_VID_COAST: at most once per 1,000 ticks per job. -/
def State.coastEvent (s : State) (id k fstat : Nat) (b : Nat) : State :=
  match tget s.encJobs id with
  | none => s
  | some j =>
    let n := j.coastN + 1
    let m := s.time.m
    if !j.cfg.coastEv || j.coastEv.any (fun t => decide (m < t + 1000)) then s.modEncJob id fun j => { j with coastN := n }
    else (s.modEncJob id fun j => { j with coastN := 0, coastEv := some m }).postObj j.creator
      { code := evVidCoast, obj := id + 4096 * k, d0 := n, d1 := fstat, d2 := b }

/-- Cut the bytes of a temporal unit among its spatial layers: each has its rows' bytes, and the last the rest. -/
def layerBytes (sizes : List Nat) (ns : List Nat) (total : Nat) : List Nat :=
  match sizes with
  | [] => []
  | [_] => [total]
  | n :: rest => let b := min total (ns.take n).sum; b :: layerBytes rest (ns.drop n) (total - b)

/-- Has the picture of a running frame been composed to its last band? -/
def State.pictureDone (s : State) (c : EncCfg) (seq : Nat) : Bool :=
  c.srcKind == 1 || (tget s.canvases c.src).all fun v => v.run.isNone || decide (seq ≤ v.seq)

/-- The tick in which a picture was completed: its surface's, or the present one where no surface has it any more. -/
def State.pictureTick (s : State) (c : EncCfg) (seq : Nat) : Nat :=
  (((s.surfaces (encSource c.srcKind c.src)).find? fun x => x.seq == seq).map (·.tick)).getD s.tick

/-- The frame on a pipe is coded to its last row: its status, its packets and its record; the bytes of coasted rows, of which
the spec gives the most, are free (log entry 2). -/
def State.encFinish (s : State) (id k cl : Nat) (j : EncJob) (e : Encoding) (rows : List Nat) (rd : Nat) : State :=
  let cfg := j.cfg
  let costs := rowCosts cfg.codec e.runKey (cfg.layers k e.runSize e.runBase)
  let all := costs.flatten
  let bands := codeBands e.runBudget (quantOf cfg.codec cfg.q e.runKey e.runT) (quantMax cfg.codec) all.length (s.placeSize cl) e.runHeader
    (s.placeSize cl) 0 rows all
  let x := codedOf bands
  let d := s.draw (x.coastMost + 1)
  let bytes := x.used + d.1
  let sp := if cfg.mode < 4 then costs.length - 1 else k
  let st := frameStatus [(e.runKey, fsKey), (x.coasted, fsCoasted), (e.runPreempted, fsPreempted), (e.runLate, fsLate), (e.runForced, fsForcedKey),
    (x.capped, fsRateCapped)] sp e.runT x.qmax
  let ts := s.pictureTick cfg e.runSrc * 90 % 2 ^ 32
  let ddLen := (((tget s.jobTracks id).bind fun t => t.encs[k]?).map (·.ddLen)).getD 3
  let e := { e with tl0 := if e.runT = 0 then e.tl0 + 1 else e.tl0 }
  let s := d.2.modEncJob id fun j => { j with fstat := st, coded := bump j.coded, coasted := if x.coasted then bump j.coasted else j.coasted }
  let s := s.modEncoding id k fun y => { y with
    running := false, keyCoding := false, tl0 := e.tl0, frameNo := y.frameNo + 1, sinceKey := if e.runKey then 1 else y.sinceKey + 1
    level := y.level + 8 * bytes }
  let s := s.dropSurf (encSource cfg.srcKind cfg.src) (readerEnc id k)
  let s := if x.coasted then s.coastEvent id k st (e.runBudget.getD 0) else s
  let outs := (layerBytes (costs.map (·.length)) rows bytes).zipIdx.map fun b => (if cfg.mode < 4 then b.2 else k, b.1, b.2 + 1 == costs.length)
  let s := if j.prio = 0 then s else outs.foldl (fun s l => s.sendLayer id k cfg e ts ddLen l) s
  s.record id bytes st ts rd

/-- ENCODE_FRAME_COMPLETE: `rows` holds the coded size of each row at the quantiser in force when it was coded, `recRd` the
RD that the module reads in the recording ring. -/
def doEncodeFrameComplete (job enc : Nat) (rows : List Nat) (recRd : Nat) (s : State) : State :=
  match tget s.encJobs job, s.engineOf (.encode job) with
  | some j, some c => match j.encs[enc]?, (s.engine c).pipes.findIdx? fun p => p.any fun r => r.is job enc with
    | some e, some i =>
      if !e.running || !s.pictureDone j.cfg e.runSrc then s
      else ((s.encFinish job enc c j e rows recRd).modEngine c fun x => { x with pipes := x.pipes.set i none }).resumePipes c 2
    | _, _ => s
  | _, _ => s

/-! ## The meanings -/

/-- The meaning of DECODE_FRAME_SUBMIT (R233). -/
def execDecodeFrameSubmit (job : Nat) (isRef : Bool) (s : State) : Host.Outcome State Fault Refusal :=
  answer (Instr.decodeFrameSubmit job isRef).wf (doDecodeFrameSubmit job isRef s)

/-- The meaning of DECODE_FRAME_COMPLETE (R234). -/
def execDecodeFrameComplete (job : Nat) (pic : DecodedPic) (s : State) : Host.Outcome State Fault Refusal :=
  answer (Instr.decodeFrameComplete job pic).wf (doDecodeFrameComplete job pic s)

/-- The meaning of ENCODE_FRAME_START (R237). -/
def execEncodeFrameStart (job : Nat) (enc : Nat) (header : Nat) (s : State) : Host.Outcome State Fault Refusal :=
  answer (Instr.encodeFrameStart job enc header).wf (doEncodeFrameStart job enc header s)

/-- The meaning of ENCODE_FRAME_COMPLETE (R18). -/
def execEncodeFrameComplete (job : Nat) (enc : Nat) (rows : List Nat) (recRd : Nat) (s : State) : Host.Outcome State Fault Refusal :=
  answer (Instr.encodeFrameComplete job enc rows recRd).wf (doEncodeFrameComplete job enc rows recRd s)

end Sys2Proof.Machine
end

