-- ==== Sys2Proof/Machine/Layout.lean ====
section
/-! DEFINITION. Canvas frames (R259 to R266, R269): their start and snapshot, the switch of a layer's source, and the composer's
bands. -/

namespace Sys2Proof.Machine

abbrev evLaySwitch : Nat := 0x0B01
abbrev evLaySkip : Nat := 0x0B02

/-- Change a canvas. -/
def State.modCanvas (s : State) (id : Nat) (g : Canvas → Canvas) : State := { s with canvases := tupd s.canvases id g }

/-! ## When a frame is due (R260) -/

/-- The newest surface of a layer's source. -/
def State.layerNewest (s : State) (x : LaySrc) : Option Surface := x.producer.bind s.newest

/-- Has every awaited layer a new surface? -/
def State.syncArrived (s : State) (c : Canvas) : Bool :=
  c.layers.all fun l => !l.2.geo.sync || l.2.pend.isSome || l.2.src.producer.isNone ||
    (s.layerNewest l.2.src).any fun x => decide (l.2.lastSeq < x.seq)

/-- Is a frame of the canvas due at this tick boundary? -/
def State.frameDue (s : State) (id : Nat) (c : Canvas) : Bool :=
  let m := s.time.m
  if c.lastStart = some m then false
  else if !c.lowDelay then videoStarts c.fps id m
  else match c.lastStart with
    | none => s.syncArrived c
    | some t => decide (t + 1000 / c.fps ≤ m) && (s.syncArrived c || decide (t + (1000 + c.fps - 1) / c.fps ≤ m))

/-! ## Switching a source (R265) -/

/-- The layer shows its pending source from now on. -/
def Layer.switched (l : Layer) : Layer :=
  match l.pend with
  | some (src, g, still, _) => { l with src := src, geo := g, still := still, pend := none, held := none, shown := none, lastSeq := 0 }
  | none => l

/-- A layer switches, with EV_LAY_SWITCH. -/
def State.layerSwitch (s : State) (id n : Nat) (cause : Nat) : State :=
  match tget s.canvases id with
  | none => s
  | some c => match tget c.layers n with
    | none => s
    | some l => match l.pend with
      | none => s
      | some (_, _, _, t) =>
        ((s.modCanvas id fun c => { c with layers := tset c.layers n l.switched }).dropReader (readerLayer id n)).postObj c.creator
          { code := evLaySwitch, obj := id, d0 := n, d1 := cause, d2 := s.time.m - t }

/-- Is a pending source ready? -/
def State.sourceReady (s : State) (x : LaySrc) : Bool :=
  x.producer.isNone || (s.layerNewest x).any fun y => y.fstat / fsConcealed % 2 == 0

/-- At a frame start, the layers whose pending source is ready switch. -/
def State.switchReady (s : State) (id : Nat) (c : Canvas) : State :=
  (c.layers.filter fun l => l.2.pend.any fun p => s.sourceReady p.1).foldl (fun s l => s.layerSwitch id l.1 0) s

/-- LAYER_SWITCH_TIMEOUT: the new source is not ready within SWITCH_MAX: its newest surface is shown whatever its status, or
the fill colour. -/
def doLayerSwitchTimeout (c layer : Nat) (s : State) : State :=
  match tget s.canvases c with
  | none => s
  | some v => match (tget v.layers layer).bind (·.pend) with
    | some (src, _, _, t) =>
      if s.sourceReady src || s.time.m < t + v.switchMax then s
      else s.layerSwitch c layer (if (s.layerNewest src).isSome then 1 else 2)
    | none => s

/-! ## The snapshot (R261) -/

/-- The surface that a layer reads in a frame. -/
def State.layerSurface (s : State) (l : Layer) : Option Surface :=
  if l.pend.isSome then l.held else if l.src.kind = 3 then l.still else s.layerNewest l.src

/-- A layer as the frame takes it. -/
def State.layerTaken (s : State) (l : Layer) : Layer :=
  let x := s.layerSurface l
  { l with shown := x, filling := (drawnOf l.geo x).badRatio, lastSeq := ((s.layerNewest l.src).map (·.seq)).getD l.lastSeq }

/-- The frame holds the surfaces that it reads. -/
def State.holdSnapshot (s : State) (id : Nat) (ls : List (Nat × Layer)) : State :=
  ls.foldl (fun s l => match l.2.src.producer, l.2.shown with
    | some p, some x => s.holdSurf p x.seq (readerCanvas id)
    | _, _ => s) s

/-- Encode jobs that take this frame of the canvas (R237). -/
def State.takers (s : State) (id : Nat) (c : Canvas) : List (Nat × EncJob) :=
  s.encJobs.filter fun x => x.2.cfg.srcKind == 0 && x.2.cfg.src == id && c.dueN % (c.fps / x.2.cfg.fps) == 0

/-- Each encoding of the jobs that take the frame. -/
def State.eachTaker (s : State) (id : Nat) (c : Canvas) (g : State → Nat → Nat → State) : State :=
  (s.takers id c).foldl (fun s x => (List.range x.2.encs.length).foldl (fun s k => g s x.1 k) s) s

/-- The frame is not composed (R263). -/
def State.canvasSkip (s : State) (id : Nat) (c : Canvas) (cause : Nat) : State :=
  let m := s.time.m
  let n := c.skipN + 1
  let s := (s.eachTaker id c fun s j k => s.encSkip j k false).occur srcLaySkip { obj := some id, tenant := some c.tenant, unit := some c.composer }
  let s := s.modCanvas id fun c => { c with skipped := c.skipped + 1, skipN := n, lastStart := some m, dueN := c.dueN + 1 }
  if c.skipEv.any fun t => decide (m < t + 1000) then s
  else (s.modCanvas id fun c => { c with skipN := 0, skipEv := some m }).postObj c.creator { code := evLaySkip, obj := id, d0 := n, d1 := cause, d2 := s.tick }

/-- The frame starts with its snapshot, and becomes ready for the encode jobs that take it (R237, R261). -/
def State.canvasGo (s : State) (id : Nat) : State :=
  match tget s.canvases id with
  | none => s
  | some c =>
    let m := s.time.m
    let ls := tmap s.layerTaken c.layers
    let bad := (ls.filter fun l => l.2.filling).length
    let run : CanvasRun := { tick := m, layers := ls, orderMode := c.orderMode, order := c.order, lutIn := c.lutIn, lutOut := c.lutOut, bg := (c.bgY, c.bgCb, c.bgCr) }
    let s := (s.modCanvas id fun c => { c with layers := ls, run := some run, lastStart := some m, dueN := c.dueN + 1 }).holdSnapshot id ls
    let s := s.occurN srcLayRatio { obj := some id, tenant := some c.tenant, unit := some c.composer } bad
    s.eachTaker id c fun s j k => s.encReady j k

/-- CANVAS_FRAME_START (R260, R261, R263, R265). A canvas that a failed composer still holds skips its frames (R428). -/
def doCanvasFrameStart (c : Nat) (s : State) : State :=
  match tget s.canvases c with
  | none => s
  | some v =>
    if !s.frameDue c v then s
    else if v.run.isSome then (s.canvasSkip c v 1).modCanvas c fun v => { v with run := v.run.map fun r => { r with late := true } }
    else if !(s.prot.composers.getD v.composer false) || !surfFree v.surfaces v.nsurf then s.canvasSkip c v 0
    else (s.switchReady c v).canvasGo c

/-! ## Bands (R259, R262, R269) -/

/-- The canvas whose band a composer takes next: low-delay first, then the frame that started earliest, then the lower ID. -/
def State.nextBand (s : State) (q : Nat) : Option (Nat × Canvas × CanvasRun) :=
  let l := (s.servedBy q).filterMap fun x => x.2.run.map fun r => (x.1, x.2, r)
  let before := fun a b : Nat × Canvas × CanvasRun =>
    (a.2.1.lowDelay && !b.2.1.lowDelay) || (a.2.1.lowDelay == b.2.1.lowDelay && decide (a.2.2.tick < b.2.2.tick))
  (sortBy before l).head?

/-- The layers of a frame in blend order (R268). -/
def CanvasRun.drawn (r : CanvasRun) : List Drawn :=
  let ls := if r.orderMode = 0 then r.layers.map (·.2) else r.order.filterMap (tget r.layers)
  ls.map fun l => drawnOf l.geo l.shown

/-- Rows `from_` up to `to_` of a plane of width `w`. -/
def rowsOf (w from_ to_ : Nat) (px : Nat → Nat → Nat) : List Nat :=
  (List.range ((to_ - from_) * w)).map fun i => px (i % w) (from_ + i / w)

/-- The frame with its next band of 64 rows composed. -/
def CanvasRun.compose (r : CanvasRun) (w h : Nat) : CanvasRun :=
  let a := 64 * r.band
  let b := min h (a + 64)
  let ls := r.drawn
  { r with
    band := r.band + 1
    y := r.y ++ rowsOf w a b (lumaAt r.lutIn r.lutOut r.bg.1 ls)
    cb := r.cb ++ rowsOf (w / 2) (a / 2) (b / 2) (chromaAt r.bg.2.1 false ls)
    cr := r.cr ++ rowsOf (w / 2) (a / 2) (b / 2) (chromaAt r.bg.2.2 true ls) }

/-- A frame composed to its last band is the canvas's newest surface. -/
def State.canvasDone (s : State) (id : Nat) (c : Canvas) (r : CanvasRun) : State :=
  let x : Surface := { w := c.w, h := c.h, depth := 8, y := r.y, cb := r.cb, cr := r.cr, fstat := if r.late then fsLate else 0, tick := s.tick, seq := c.seq + 1 }
  (s.dropReader (readerCanvas id)).modCanvas id fun c => { c with
    run := none, seq := c.seq + 1, composed := c.composed + 1, surfaces := putSurf c.surfaces c.nsurf x }

/-- COMPOSER_BAND: the composer composes its next band. -/
def doComposerBand (cmp : Nat) (s : State) : State :=
  if !(s.prot.composers.getD cmp false) then s
  else match s.nextBand cmp with
    | none => s
    | some (id, c, r) =>
      let r := r.compose c.w c.h
      if c.h ≤ 64 * r.band then s.canvasDone id c r else s.modCanvas id fun c => { c with run := some r }

/-! ## The meanings -/

/-- The meaning of LAYER_SWITCH_TIMEOUT (R265). -/
def execLayerSwitchTimeout (c : Nat) (layer : Nat) (s : State) : Host.Outcome State Fault Refusal :=
  answer (Instr.layerSwitchTimeout c layer).wf (doLayerSwitchTimeout c layer s)

/-- The meaning of CANVAS_FRAME_START (R260). -/
def execCanvasFrameStart (c : Nat) (s : State) : Host.Outcome State Fault Refusal :=
  answer (Instr.canvasFrameStart c).wf (doCanvasFrameStart c s)

/-- The meaning of COMPOSER_BAND (R259). -/
def execComposerBand (cmp : Nat) (s : State) : Host.Outcome State Fault Refusal :=
  answer (Instr.composerBand cmp).wf (doComposerBand cmp s)

end Sys2Proof.Machine
end

