-- ==== Sys2Proof/Machine/Failures.lean ====
section
/-! DEFINITION. Failures inside the module (R413 to R418, R426 to R429): the takeover of a failed cluster by its buddy, flows that
start again, degradation of a buddy's codec jobs, hub halves, Trailhead copies, composers, and the module stop. -/

namespace Sys2Proof.Machine

abbrev evUnitFault : Nat := 0x0102
abbrev evUnitRestored : Nat := 0x0103
abbrev evProtTakeover : Nat := 0x0E01
abbrev evProtDegrade : Nat := 0x0E03

/-- EV_UNIT_FAULT (R435): `kind` and `unit` as R431 numbers them. -/
def State.unitFault (s : State) (kind unit cause : Nat) : State :=
  s.postAll { code := evUnitFault, obj := kind + 16 * unit, d0 := cause, d1 := s.tick }

/-- Domains switched off or on; one that faulted is marked (R464, R466). -/
def State.domainOff (s : State) (d : Nat) (fault : Bool) : State :=
  let s := s.domains fun e on => on && e ≠ d
  if fault && !s.power.pdFault.contains d then { s with power := { s.power with pdFault := s.power.pdFault ++ [d] } } else s
def State.domainRestore (s : State) (d : Nat) : State := s.domains fun e on => on || e == d

/-! ## Calibrations that end (R453, R454) -/

abbrev evCalDone : Nat := 0x0F01

/-- The calibration requests on a unit, in arrival order (R453). -/
def State.calOps (s : State) (a : Nat) : List LongOp := s.ctl.ops.filter fun o => o.opcode == 0x0F01 && o.state == 0 && o.a == a

/-- A calibration's result is recorded: 0 passed, 1 passed with new values, 2 failed (R454, R457). -/
def State.calResult (s : State) (o : LongOp) (result durUs : Nat) : State :=
  let s := s.modOp o.fn o.handle fun o => { o with phase := 5 }
  s.complete o { code := evCalDone, obj := o.a, d0 := result, d1 := o.waited, d2 := durUs } (if result = 2 then eHw else eOk)

/-- A unit fails while it drains or is calibrated: its calibration fails (R454). -/
def State.calLost (s : State) (a : Nat) : State :=
  match (s.calOps a).find? fun o => o.phase == 1 || o.phase == 4 with
  | some o => (s.undrain o).calResult { o with waited := if o.phase = 4 then o.waited else s.time.m - o.since } 2 0
  | none => s

/-! ## Module stop (R429) -/

/-- Module stop: every SerDes lane idle, PPS_OUT and the other timing outputs low, both PCIe links down, MOD_READY deasserted,
FAULT_N asserted, and THERMTRIP_N too where a temperature caused it (R476, R489). -/
def State.stopModule (s : State) (thermal : Bool) : State :=
  let ports := tmap (fun p : Port => { p with link := false, locked := 0, wire := none }) s.ports
  let groups := tmap (fun x : LinkGroup => if x.st = 0 then x else x.fresh 4) s.casc.groups
  let pins : Pins := { s.pins with ppsOut := false, pcie := [false, false], modReady := false, fault := true, thermTrip := s.pins.thermTrip || thermal }
  { s with
    ports := ports, casc := { s.casc with groups := groups }, pins := pins
    time := { s.time with outEn := false }, power := { s.power with cond := .stopped } }

/-- MODULE_STOP (R429). -/
def doModuleStop (s : State) : State := if s.power.cond = .stopped || s.power.cond = .unpowered then s else s.stopModule false

/-! ## Flows that start again (R416) -/

/-- Take a job's frames off every engine. -/
def State.offEngines (s : State) (dec enc : Nat → Bool) : State := { s with engines := tmap (fun e => e.without dec enc) s.engines }

/-- The frames of an encode job that were ready or on a pipe are given up. -/
def State.haltEncode (s : State) (id : Nat) : State :=
  let s := (s.offEngines (fun _ => false) (· == id)).modEncJob id fun j => { j with
    encs := j.encs.map fun e => { e with ready := none, running := false, keyCoding := false } }
  (List.range 3).foldl (fun s k => s.dropReader (readerEnc id k)) s

/-- Every encoding of a job starts with a key picture (R242, R416). -/
def State.forceKeys (s : State) (id : Nat) : State := s.modEncJob id fun j => { j with encs := j.encs.map fun e => { e with forced := true } }

/-- The instances of the stages at a point of an object start afresh (R304). -/
def State.resetStages (s : State) (point obj : Nat) : State :=
  { s with stageAtts := s.stageAtts.map fun a => if a.point = point && a.obj = obj then { a with insts := [] } else a }

/-- What an owner's work starts again from: decoders wait for a key picture, encoders start with one, audio anchors again, and
numbers that were used stay used (R322, R416). -/
def State.restart (s : State) (o : FlowOwner) : State :=
  match o with
  | .decode j => match tget s.decJobs j with
    | some d =>
      let src : SlotSrc := .track d.srcLeg d.srcGen d.srcTrack
      let s := (s.offEngines (· == j) fun _ => false).modDec j fun d => { d with frames := [], concealing := false }
      s.requestKey src (((s.srcTrack src).map fun t => t.encOf d.decS).getD 0) false
    | none => s
  | .encode j => (s.haltEncode j).forceKeys j
  | .legAudio n => (s.resetStages 0 n).modLeg n fun l => { l with aud := { l.aud with
      inp := {}, det := { cascSite := l.aud.det.cascSite, teDone := l.aud.det.teDone } } }
  | .legEncode n => (s.resetStages 2 n).modLeg n fun l => { l with aud := { l.aud with
      out := { enc := l.aud.out.enc, encNext := l.aud.out.encNext, encTs := l.aud.out.encTs } } }
  | .legControl n =>
    let m := s.time.m
    s.modLeg n fun l => { l with est := { a := l.pol.aStart * 1000, incSince := m, lastTw := m, lastCc := m, lastRr := m, twNext := l.est.twNext } }
  | .confMix c => (s.resetStages 1 c).modConf c fun k => { k with active := [], combined := [], mixTick := none, common := [], minus := [], leaving := [], contribs := [] }
  | .canvas c => (s.dropReader (readerCanvas c)).modCanvas c fun v => { v with run := none }

/-! ## Cluster failure (R414, R415, R418) -/

/-- Is every cluster of a place in service? -/
def State.placeUp (s : State) (c : Nat) : Bool := (List.range (s.placeSize c)).all fun k => (s.cluster (c + k)).inService

/-- Discard items of one flow that satisfy `p`, counting each by EPOCH_DISCARD. -/
def State.discardItems (s : State) (n cl : Nat) (p : Item → Bool) : State :=
  match tget s.trail.flows n with
  | none => s
  | some f =>
    let hit := fun i : Item => i.flow == n && p i
    let k := ((s.trail.ready.flatten ++ f.waiting).filter hit).length
    let t := { s.trail with ready := s.trail.ready.map fun (l : List Item) => l.filter fun i => !hit i }
    let s := { s with trail := t }
    (s.setFlow n { f with waiting := f.waiting.filter fun i => !hit i }).occurN srcEpochDiscard (s.occFlow cl f.owner) k

/-- The items in service on a failed cluster's cores are lost: they are not run again (R414). -/
def State.dropServing (s : State) (cl : Nat) : State :=
  (s.trail.cores.filter fun p => p.1 / 4 == cl).foldl (fun s p =>
    let s := { s with trail := { s.trail with cores := tdel s.trail.cores p.1 } }
    match tget s.trail.flows p.2.flow with
    | some f => (s.setFlow p.2.flow { f with serving := none }).occur srcEpochDiscard (s.occFlow cl f.owner)
    | none => s) s

/-- A flow of the failed cluster enters its next epoch without a drain marker; items of an older epoch are discarded, and those
that have not started carry the new one. -/
def State.nextEpoch (s : State) (n cl : Nat) : State :=
  match tget s.trail.flows n with
  | none => s
  | some f =>
    let s := s.discardItems n cl fun i => i.epoch ≠ f.epoch
    let e := (f.epoch + 1) % 256
    let mark := fun i : Item => if i.flow = n then { i with epoch := e } else i
    let s := { s with trail := { s.trail with ready := s.trail.ready.map fun (l : List Item) => l.map mark } }
    match tget s.trail.flows n with
    | some f => s.setFlow n { f with epoch := e, marker := none, waiting := f.waiting.map mark }
    | none => s

/-- The old epoch of a flow that was moving away from the failed cluster ends. -/
def State.endMarker (s : State) (n cl : Nat) : State :=
  match tget s.trail.flows n with
  | none => s
  | some f =>
    let s := s.discardItems n cl fun i => i.epoch ≠ f.epoch
    match tget s.trail.flows n with
    | some f => s.setFlow n { f with marker := none }
    | none => s

/-- A protected flow goes on at the buddy (R414); its codec frames restart there (R250). -/
def State.takeOver (s : State) (b n : Nat) : State :=
  match tget s.trail.flows n with
  | some f => (s.setFlow n { f with place := b, taken := true }).carry f.owner f.place b
  | none => s

/-- A flow that no cluster holds: its work starts again from the beginning (R416). -/
def State.haltFlow (s : State) (n : Nat) : State :=
  match tget s.trail.flows n with
  | some f => ((s.setFlow n { f with stopped := true, waiting := [], marker := none, taken := false }).restart f.owner).discardItems n f.place fun _ => true
  | none => s

/-- Indices that a buddy skips (R322). -/
abbrev buddySkip : Nat := 256

/-- The SRTCP index of a leg advances by `k`, and every index below counts as used. -/
def LegKeys.skipRtcp (k : LegKeys) (n : Nat) : LegKeys := { k with srtcp := k.srtcp + n, srtcpUsed := some (k.srtcp + n - 1) }

/-- The send indices of the streams that a taken-over flow numbers advance (R322). -/
def State.skipIndices (s : State) (o : FlowOwner) : State :=
  match o with
  | .legEncode n => s.modLeg n fun l =>
    let out := l.aud.out
    let next := out.encNext.map (· + buddySkip)
    { l with aud := { l.aud with out := { out with encNext := next } }
             keys := (l.keys.usedBelow l.aud.cfg.outSsrc (next.getD 0)).skipRtcp buddySkip }
  | .legControl n => s.modLeg n fun l => { l with keys := l.keys.skipRtcp buddySkip }
  | _ => s

/-- The failed cluster's domain is off, its cores and records are at reset, and it is out of service; a shared channel that it
holds is free (R31). -/
def State.clusterGone (s : State) (cl : Nat) (fault : Bool) : State :=
  let s := s.domainOff cl fault
  let s := s.modChan (264 + cl % 24) fun c =>
    if c.held && c.holder == decide (24 ≤ cl) then { c with held := false, msg := if c.full then c.msg else List.replicate 16 0#32 } else c
  let s := (List.range 4).foldl (fun (s : State) k => { s with cores := tdel s.cores (4 * cl + k) }) s
  (s.modCluster cl fun c => { c with inService := false, pendingLogs := [], extraAt := none, overLoaded := false, overPasses := 0, reload := false }).dropServing cl

/-- Declared use of a codec job's engine by the rate at which it codes (R227, R417): an encode job under step 1 codes its lowest
layer at temporal layer 0, one frame in four of a temporal pattern; under steps 2 and 3 nothing. -/
def EncJob.rateAt (j : EncJob) (step : Nat) : Nat :=
  let all := (j.cfg.sizes.map (encodingRate j.cfg.fps)).sum
  if step = 0 then all
  else if step = 1 then
    let p := ((j.cfg.sizes.head?.bind fun l => l.head?).getD (0, 0))
    p.1 * p.2 * (if j.cfg.mode = 0 then j.cfg.fps else (j.cfg.fps + 3) / 4)
  else 0

/-- The encode rate in force on a place. -/
def State.encNow (s : State) (b : Nat) : Nat :=
  ((s.flowsOn b).map fun p => match p.2.owner with
    | .encode j => ((tget s.encJobs j).map fun (e : EncJob) => e.rateAt e.degrade).getD 0
    | _ => 0).sum

/-- Does the engine of a place hold its encode jobs (R227)? -/
def State.encFits (s : State) (b : Nat) : Bool := decide (s.encNow b ≤ s.placeSize b * encLimit)

/-- The unprotected encode jobs of a place, largest pixel rate first. -/
def State.looseJobs (s : State) (b : Nat) : List Nat :=
  let js := (s.flowsOn b).filterMap fun p => match p.2.owner with
    | .encode j => if p.2.protect then none else (tget s.encJobs j).map fun (e : EncJob) => (j, e.rateAt 0)
    | _ => none
  (sortBy (fun x y => decide (y.2 < x.2)) js).map (·.1)

/-- The source track of a canvas's decode-job layer with the largest DW × DH, the lowest layer number on a tie (R417). -/
def State.mainTrack (s : State) (canvas : Nat) : Option SlotSrc :=
  let ls := ((tget s.canvases canvas).map (·.layers)).getD []
  let best := bestBy (fun n => ((tget ls n).map fun (l : Layer) => l.geo.dw * l.geo.dh).getD 0) ((ls.filter fun l => l.2.src.kind == 1).map (·.1))
  ((best.bind (tget ls)).bind fun (l : Layer) => tget s.decJobs l.src.src).map fun (d : DecJob) => .track d.srcLeg d.srcGen d.srcTrack

/-- The slots that a job feeds, or fed before step 2. -/
def State.jobSlots (s : State) (p : Slot → Bool) : List (Nat × Nat × Slot) :=
  s.legs.flatMap fun x => (x.2.slots.filter fun v => p v.2).map fun v => (x.1, v.1, v.2)

/-- Step 2 for a job: it stops, and each attached slot is re-pointed to the track that stands for its canvas, as FALLBACK. -/
def State.stopJob (s : State) (id : Nat) (canvas : Nat) : State :=
  let s := s.haltEncode id
  match s.mainTrack canvas with
  | none => s
  | some src => (s.jobSlots fun v => v.src == .job id && v.state ≠ 5).foldl (fun s x =>
      (s.repoint x.1 x.2.1 x.2.2 src x.2.2.sub).modSlot x.1 x.2.1 fun v => { v with fallback := true, homeJob := some id }) s

/-- One step of R417 on a job, with its event. -/
def State.degradeOne (s : State) (b step id : Nat) : State :=
  match tget s.encJobs id with
  | none => s
  | some j =>
    let s := s.modEncJob id fun j => { j with degrade := step }
    let s := if step = 2 then s.stopJob id j.cfg.src else s
    s.postAll { code := evProtDegrade, obj := b, d0 := step, d1 := id }

/-- One step of R417 on the jobs of a list, up to the job at which the limits hold. -/
def State.degradeStep (b step : Nat) (may : EncJob → Bool) : List Nat → State → State
  | [], s => s
  | id :: ids, s =>
    if s.encFits b then s
    else State.degradeStep b step may ids (if (tget s.encJobs id).any may then s.degradeOne b step id else s)

/-- Degrade a buddy's unprotected encode jobs until its engine holds them (R417). -/
def State.degrade (s : State) (b : Nat) : State :=
  let js := s.looseJobs b
  let s := State.degradeStep b 1 (fun j => j.degrade == 0) js s
  let s := State.degradeStep b 2 (fun j => decide (j.degrade < 2) && j.cfg.srcKind == 0) js s
  State.degradeStep b 3 (fun j => decide (j.degrade < 2)) js s

/-- A cluster fails (R414 to R418): cause 0 power, 1 memory, 2 HBM response, 3 microcode, 4 no acknowledgement. -/
def State.failCluster (s : State) (cl cause : Nat) : State :=
  if !(s.cluster cl).inService then s
  else
    let p := ((s.cluster cl).group.map (·.1)).getD cl
    let b := buddyOf p
    let up := s.placeUp b
    let mine := (s.flowsOn p).map (·.1)
    let kept := if up then ((s.flowsOn p).filter (·.2.protect)).map (·.1) else []
    let lost := mine.filter fun n => !kept.contains n
    let owners := (s.flowsOn p).filterMap fun x => if kept.contains x.1 then some x.2.owner else none
    let leaving := (s.trail.flows.filter fun x => x.2.place ≠ p && x.2.marker.any fun k => k.cluster == p).map (·.1)
    let s := ((s.unitFault 0 cl cause).clusterGone cl (cause == 0)).calLost (16 * cl)
    let s := leaving.foldl (fun s n => s.endMarker n p) s
    let s := mine.foldl (fun s n => s.nextEpoch n p) s
    let s := kept.foldl (fun s n => s.takeOver b n) s
    let s := lost.foldl (fun s n => s.haltFlow n) s
    if !up then s
    else
      let s := owners.foldl (fun s o => s.skipIndices o) s
      let s := s.modCluster b fun c => { c with pendingLogs := [], extraAt := some s.time.m }
      (s.postAll { code := evProtTakeover, obj := cl, d0 := b, d1 := kept.length, d2 := lost.length }).degrade b

/-- UNPROTECTED_REPLACE: the stopped flows that a failed cluster left are placed again in ascending flow number; one that finds
no cluster stays stopped and is counted (R416). -/
def doUnprotectedReplace (cl : Nat) (s : State) : State :=
  (s.trail.flows.filter fun p => p.2.stopped && (p.2.place == cl || p.2.place == ((s.cluster cl).group.map (·.1)).getD cl)).foldl (fun s p =>
    match s.findPlace p.1 p.2 with
    | .ok c => s.setFlow p.1 { p.2 with place := c, stopped := false }
    | .error _ => s.occur srcProtUnplaced { obj := some p.1, tenant := s.ownerTenant p.2.owner }) s

/-- SHADOW_APPLY: the cluster's shadow-application item applies the logs of earlier ticks to its copies; the item ends with
ITEM_COMPLETE (R413). -/
def doShadowApply (cl : Nat) (s : State) : State :=
  if s.trail.cores.any fun p => p.2.flow == flowMax + cl then
    s.modCluster cl fun c => { c with pendingLogs := c.pendingLogs.filter fun t => decide (s.time.m ≤ t) }
  else s

/-! ## The steps of R417 undone -/

/-- A slot that step 2 moved returns to its job at the job's first key picture. -/
def State.slotHome (s : State) (leg k id : Nat) (v : Slot) : State :=
  let s := (v.lists ++ [SlotSrc.job id]).eraseDups.foldl (fun s y => s.bumpRoute y) s
  if v.src = .job id then s.modSlot leg k fun v => { v with pendSrc := none, fallback := false, homeJob := none }
  else if v.state = 5 then
    (s.modSlot leg k fun v => { v with
      src := .job id, pendSrc := none, fallback := false, homeJob := none, stream := { v.stream with hi := none, reserved := [], repoint := true, fresh := true } }).waitKey leg k
  else s.modSlot leg k fun v => { v with pendSrc := some (.job id, s.time.m, 1, false), pendLayer := none }

/-- A job's step of R417 is undone, with a key picture. -/
def State.undoOne (s : State) (id step : Nat) : State :=
  let s := (s.modEncJob id fun j => { j with degrade := if step = 1 then 0 else 1 }).forceKeys id
  if step = 2 then (s.jobSlots fun v => v.homeJob == some id).foldl (fun s x => s.slotHome x.1 x.2.1 id x.2.2) s else s

/-- Undo steps in reverse order while the engine has room for the job. -/
def State.undoSteps (s : State) (b : Nat) : Nat → State
  | 0 => s
  | fuel + 1 =>
    let js := ((s.flowsOn b).filterMap fun p => match p.2.owner with
      | .encode j => (tget s.encJobs j).bind fun (e : EncJob) => if e.degrade = 0 then none else some (j, e.degrade, e.rateAt 0)
      | _ => none)
    match sortBy (fun x y => decide (y.2.1 < x.2.1) || (x.2.1 == y.2.1 && decide (x.2.2 < y.2.2))) js with
    | [] => s
    | (id, step, _) :: rest =>
      let t := s.undoOne id step
      if !t.encFits b then s
      else if rest.isEmpty && step = 1 then t.postAll { code := evProtDegrade, obj := b, d0 := 0, d1 := id }
      else t.undoSteps b fuel

/-- DEGRADE_UNDO (R417). -/
def doDegradeUndo (cl : Nat) (s : State) : State := s.undoSteps cl (2 * s.encJobs.length + 1)

/-! ## Hub halves, Trailhead copies, composers (R426 to R428) -/

/-- A hub half fails (R426): the packets in flight in it are lost, and the other half serves every port and track. -/
def State.failHalf (s : State) (h cause : Nat) : State :=
  if !(s.prot.halves.getD h false) then s
  else
    let two := s.prot.halves.getD (1 - h) false
    let pipeHalf := fun x : SlotSrc => match x with
      | .track n _ _ => n % 4 / 2
      | .job j => j % 4 / 2
    let t := { s with
      inQ := if two then s.inQ.filter fun p => p.port / 8 ≠ h else []
      outQ := if two then s.outQ.filter fun p => ((s.leg p.leg).map fun (l : Leg) => l.cfg.port / 8) ≠ some h else []
      fwdQ := if two then s.fwdQ.filter fun p => pipeHalf p.src ≠ h else [] }
    let t := ({ t with prot := { t.prot with halves := t.prot.halves.set h false } }).domainOff (72 + h) (cause == 0)
    if two then (t.unitFault 2 h cause).calLost (2 + 16 * h) else t.stopModule false

/-- HUB_HALF_FAIL. -/
def doHubHalfFail (h cause : Nat) (s : State) : State := s.failHalf h cause

/-- A Trailhead copy fails (R427): items in service and the ready lists stay; without the other copy the module stops. -/
def State.failTrail (s : State) (i cause : Nat) : State :=
  if !(s.trail.copies.getD i false) then s
  else
    let two := s.trail.copies.getD (1 - i) false
    let t := { s.trail with copies := s.trail.copies.set i false, active := if s.trail.active = i then 1 - i else s.trail.active }
    let s := ({ s with trail := t }).domainOff (76 + i) (cause == 0)
    if two then (s.unitFault 3 i cause).calLost (6 + 16 * i) else s.stopModule false

/-- TRAILHEAD_FAIL: the active copy fails. -/
def doTrailheadFail (cause : Nat) (s : State) : State := s.failTrail s.trail.active cause

/-- Move one canvas off a composer, if another has room (R428): it starts again from its next frame. -/
def State.moveCanvas (s : State) (id : Nat) (q : Option Nat) : State :=
  match tget s.canvases id with
  | none => s
  | some v => match s.chooseComposer id v q with
    | none => s
    | some c =>
      let s := (s.dropReader (readerCanvas id)).modCanvas id fun v => { v with composer := c, run := none }
      match s.flowOf (.canvas id) with
      | none => s
      | some (n, f) =>
        if f.stopped || f.place / 12 = c then s
        else match s.findPlace n f with
          | .ok t => s.moveFlow n t
          | .error _ => s.haltFlow n

/-- A composer's canvases move, in ascending ID order; the frames that it was composing are given up. -/
def State.clearComposer (s : State) (c : Nat) : State :=
  let ids := (s.servedBy c).map (·.1)
  let s := ids.foldl (fun s id => (s.dropReader (readerCanvas id)).modCanvas id fun v => { v with run := none }) s
  ids.foldl (fun s id => s.moveCanvas id (some c)) s

/-- A composer fails (R428). -/
def State.failComposer (s : State) (c cause : Nat) : State :=
  if !(s.prot.composers.getD c false) then s
  else
    let s := ({ s with prot := { s.prot with composers := s.prot.composers.set c false } }).domainOff (52 + c) (cause == 0)
    ((s.unitFault 1 c cause).calLost (1 + 16 * c)).clearComposer c

/-- COMPOSER_FAIL. -/
def doComposerFail (c cause : Nat) (s : State) : State := s.failComposer c cause

/-- CANVAS_MOVE: a canvas that stayed on a failed composer moves as soon as one has room (R428). -/
def doCanvasMove (c : Nat) (s : State) : State :=
  match tget s.canvases c with
  | some v => if s.prot.composers.getD v.composer false then s else s.moveCanvas c none
  | none => s

/-! ## The meanings -/

/-- The meaning of MODULE_STOP (R429). -/
def execModuleStop (s : State) : Host.Outcome State Fault Refusal :=
  answer Instr.moduleStop.wf (doModuleStop s)

/-- The meaning of UNPROTECTED_REPLACE (R416). -/
def execUnprotectedReplace (cl : Nat) (s : State) : Host.Outcome State Fault Refusal :=
  answer (Instr.unprotectedReplace cl).wf (doUnprotectedReplace cl s)

/-- The meaning of SHADOW_APPLY (R413). -/
def execShadowApply (cl : Nat) (s : State) : Host.Outcome State Fault Refusal :=
  answer (Instr.shadowApply cl).wf (doShadowApply cl s)

/-- The meaning of DEGRADE_UNDO (R417). -/
def execDegradeUndo (cl : Nat) (s : State) : Host.Outcome State Fault Refusal :=
  answer (Instr.degradeUndo cl).wf (doDegradeUndo cl s)

/-- The meaning of HUB_HALF_FAIL (R426). -/
def execHubHalfFail (h : Nat) (cause : Nat) (s : State) : Host.Outcome State Fault Refusal :=
  answer (Instr.hubHalfFail h cause).wf (doHubHalfFail h cause s)

/-- The meaning of TRAILHEAD_FAIL (R427). -/
def execTrailheadFail (cause : Nat) (s : State) : Host.Outcome State Fault Refusal :=
  answer (Instr.trailheadFail cause).wf (doTrailheadFail cause s)

/-- The meaning of COMPOSER_FAIL (R428). -/
def execComposerFail (c : Nat) (cause : Nat) (s : State) : Host.Outcome State Fault Refusal :=
  answer (Instr.composerFail c cause).wf (doComposerFail c cause s)

/-- The meaning of CANVAS_MOVE (R428). -/
def execCanvasMove (c : Nat) (s : State) : Host.Outcome State Fault Refusal :=
  answer (Instr.canvasMove c).wf (doCanvasMove c s)

end Sys2Proof.Machine
end

