-- ==== Sys2Proof/Machine/Ingress.lean ====
section
/-! DEFINITION. SRTP_DECRYPT: the passage of a received packet through the cipher farm (R310 to R314, R318, R319) and what an
authenticated packet does (R126 to R128, R152, R155, R172, R191, R204, R213, R232). -/

namespace Sys2Proof.Machine

/-! ## Authentication (R318, R319) -/

/-- The sender SSRC of a packet, whether it is SRTCP, and its index: given for SRTCP, estimated for SRTP (R319). -/
def LegKeys.rxIndex (k : LegKeys) (p : Payload) : Nat × Bool × Nat :=
  match p with
  | .rtp r _ => (r.ssrc, false, ((k.win r.ssrc false).map fun w => rtpIndex w.hi r.seq).getD r.seq)
  | .rtcp ssrc index _ _ => (ssrc, true, index)
  | .raw _ _ => (0, false, 0)

/-- Is the packet below its window, or already received (R319)? -/
def LegKeys.isReplay (k : LegKeys) (p : Payload) : Bool :=
  let x := k.rxIndex p
  (k.win x.1 x.2.1).any fun w => w.replay x.2.2

/-- What protects a packet (log entry 3). -/
def protectionOf (p : Payload) : Protection :=
  match p with
  | .rtp _ x => x
  | .rtcp _ _ _ x => x
  | .raw _ _ => ⟨[], false⟩

/-- Encrypted bytes of a packet (R308, R311): the RTP payload, or what follows the first 8 bytes of the SRTCP compound. -/
def InPkt.cipherBytes (p : InPkt) (l : Leg) : Nat :=
  match p.payload with
  | .rtp r _ => r.payloadLen
  | _ => p.ipLen - ((if l.cfg.ipv6 then 40 else 20) + 8 + 8 + 4 + srtcpTag ((l.keys.rxCur.map fun k => keyProfile k.words).getD 0))

/-- A packet that authenticates (R318, R319, R127, R128): the key rolls over if it was the next one, the window and the
roll-over counter move, the consent timer restarts, and a leg without consent is live again. -/
def State.authenticated (s : State) (leg : Nat) (l : Leg) (under : Nat) (p : Payload) : State :=
  let x := l.keys.rxIndex p
  let s := if under = 1 && l.keys.rxFallUntil.isNone then s.rxRoll leg else s
  let s := s.modLeg leg fun l => { l with keys := l.keys.took x.1 x.2.1 x.2.2, lastAuth := s.time.m }
  if l.state = 3 then s.legGoes leg 1 3 else s.consentTimer leg

/-! ## RTP packets (R152) -/

/-- Is the packet a telephone event on the leg's input track (R204)? The track's own payload type never is one. -/
def Leg.teleEvent (l : Leg) (track : Nat) (t : Track) (rtx : Bool) (r : Rtp) : Option (Nat × Bool × Nat) :=
  if t.media = 0 && l.cfg.feeds && track = l.aud.cfg.inTrack && !rtx && r.pt = l.aud.cfg.tePt && r.pt ≠ t.pt then
    match r.codec with
    | .teleEvent ev e dur => some (ev, e, dur)
    | _ => none
  else none

/-- A contribution packet on a cascade leg (R213). -/
def State.cascPacket (s : State) (l : Leg) (r : Rtp) : Option (Nat × Nat × Nat × Nat × List (Nat × Bool × Nat × List Int)) :=
  if l.cfg.kind = 1 && (s.conf l.cfg.conf).any fun c => c.pol.cascPt == r.pt then
    match r.codec with
    | .casc ver tag site tick blocks => some (ver, tag, site, tick, blocks)
    | _ => none
  else none

/-- Where the packet of a track goes after it is stored (R152): the forwarding pipes, Campfire's input, decode jobs. -/
def State.route (s : State) (leg : Nat) (l : Leg) (track : Nat) (t : Track) (rtx : Bool) (tick : Nat) (r : Rtp) (p : FwdPkt) : State :=
  let s := if l.cfg.fwdRecv t.media then { s with fwdQ := s.fwdQ ++ [p] } else s
  let s := if t.media = 1 && l.cfg.compRecv then s.toJobs leg l.gen track t.layering tick p else s
  match l.teleEvent track t rtx r with
  | some (ev, e, dur) => s.teIn leg l (clockOf 0 t.codec) r.ts ev e dur
  | none => if t.media = 0 && l.cfg.feeds && track = l.aud.cfg.inTrack then s.audioIn leg t.codec tick p.rtp else s

/-- An authenticated RTP packet of a live leg (R152, R155). -/
def State.rtpIn (s : State) (k : InPkt) (r : Rtp) : State :=
  match s.leg k.leg with
  | none => s
  | some l =>
    let tw := (extBy l.pol.idTwSeq r.exts).bind fun e => match e.val with
      | .twSeq n => some n
      | _ => none
    let s := match tw with
      | some n => s.modLeg k.leg fun l => l.twArrive n (k.stamp / usU)
      | none => s
    match s.cascPacket l r with
    | some (ver, tag, site, tick, blocks) => s.cascIn k.leg l ver tag site tick blocks
    | none => match l.bySsrc r.ssrc with
      | none => s.occur srcRxUnknownSsrc (s.occLeg k.leg)
      | some (track, enc, rtx) =>
        if r.payloadLen ≤ r.padding + (if rtx then 2 else 0) then s.occur srcFwdPadDrop (s.occLeg k.leg)
        else match tget l.tracks track with
          | none => s
          | some t =>
            let q := s.trackIn k.leg track enc rtx r k.ipLen k.stamp
            match q.2 with
            | some p => q.1.route k.leg l track t rtx k.tick r p
            | none => q.1

/-! ## SRTP_DECRYPT -/

/-- A packet that the farm releases (R318, R319, R126): the whole packet was compared, and now its tag is judged. -/
def State.released (s : State) (k : InPkt) : State :=
  match s.leg k.leg with
  | none => s
  | some l => match l.keys.authUnder (protectionOf k.payload) with
    | none => s.authFail k.leg
    | some under =>
      let s := s.authenticated k.leg l under k.payload
      if l.state ≠ 1 then s
      else match k.payload with
        | .rtp r _ => s.rtpIn k r
        | .rtcp _ _ ps _ => s.rtcpIn k.leg ps
        | .raw _ _ => s

/-- SRTP_DECRYPT: the packet at the head passes the farm half of its port (R310). A packet whose leg is gone goes with it; one
whose leg has left the states that authenticate is dropped (R126); a replayed one is dropped before it takes a gang (R319). -/
def doSrtpDecrypt (run : CipherRun) (s : State) : State :=
  match s.inQ with
  | [] => s
  | k :: rest =>
    let t := { s with inQ := rest }
    match s.leg k.leg with
    | none => t
    | some l =>
      let half := s.halfOf k.port
      if l.gen ≠ k.gen then t
      else if l.state = 0 || l.state = 2 then t.occur srcRxLegNotLive (t.occLeg k.leg)
      else if l.keys.isReplay k.payload then t.occur srcRxReplay { t.occHalf k.leg with unit := some half }
      else if !(s.prot.halves.getD half false) then s
      else match t.cipherPass half (s.legTenant l) (cipherBlocks (k.cipherBytes l)) run with
        | .waits => s
        | .dropped u => u
        | .released u => u.released k

/-! ## The meanings -/

/-- The meaning of SRTP_DECRYPT (R311). -/
def execSrtpDecrypt (run : CipherRun) (s : State) : Host.Outcome State Fault Refusal :=
  answer (Instr.srtpDecrypt run).wf (doSrtpDecrypt run s)

end Sys2Proof.Machine
end

