-- ==== Sys2Proof/Machine/Memory.lean ====
section
/-! DEFINITION. The HBM3E memory controller (R387 to R408). Contents live in `State.mem` at address
pseudo-channel × 2^31 + local address. -/

namespace Sys2Proof.Machine

abbrev evHbmUe : Nat := 0x0D01
abbrev evHbmMargin : Nat := 0x0D02
abbrev evHbmRh : Nat := 0x0D03

/-! ## Address orders (R389 to R391) -/

/-- Bytes of a region of `size` GiB on each pseudo-channel, one copy (R389). -/
def share (size : Nat) : Nat := size * 2 ^ 23

/-- Bytes of local address space on each pseudo-channel (R387). -/
abbrev localBytes : Nat := 1152 * 2 ^ 20

/-- The pseudo-channel and local address that an order gives offset `o` of a region of `size` GiB (R390). -/
def mapAddr (order size o : Nat) : Nat × Nat :=
  match order with
  | 0 => (o / 2 ^ 8 % 128, o / 2 ^ 15 * 256 + o % 256)
  | 1 => (o / 2 ^ 10 % 128, o / 2 ^ 19 * 4096 + o / 2 ^ 8 % 4 * 1024 + o / 2 ^ 17 % 4 * 256 + o % 256)
  | 2 => (o / 2 ^ 12 % 128, o / 2 ^ 19 * 4096 + o % 4096)
  | _ =>
    let quarter := size * 2 ^ 28
    let r := o % quarter
    (32 * (o / quarter) + r / 2 ^ 8 % 32, r / 2 ^ 13 * 256 + r % 256)

/-- The offset that an order gives a pseudo-channel and local address: the inverse of `mapAddr`. -/
def unmapAddr (order size n p : Nat) : Nat :=
  match order with
  | 0 => (p / 256 * 128 + n) * 256 + p % 256
  | 1 => ((p / 4096 * 4 + p / 256 % 4) * 128 + n) * 1024 + p / 1024 % 4 * 256 + p % 256
  | 2 => (p / 4096 * 128 + n) * 4096 + p % 4096
  | _ => n / 32 * (size * 2 ^ 28) + (p / 256 * 32 + n % 32) * 256 + p % 256

/-- The pseudo-channel of the second copy under DUP (R390): on stack (q + 2) mod 4. -/
def copyPc (n : Nat) : Nat := (n + 64) % 128

/-- The cell address of a pseudo-channel's local address. -/
def cellAddr (n p : Nat) : Nat := n * 2 ^ 31 + p

/-- Where a local address lies (R391): SID, bank group, bank, row. -/
structure Place where
  sid : Nat
  bg : Nat
  bank : Nat
  row : Nat
deriving DecidableEq, Repr

/-- The split of a physical local address (R391). -/
def place (p : Nat) : Place := ⟨p / 2 ^ 14 % 3, p / 2 ^ 10 % 4, p / 2 ^ 12 % 4, p / 2 ^ 14 / 3⟩

/-- The bank's number among the 48 of a pseudo-channel. -/
def Place.ix (p : Place) : Nat := p.sid * 16 + p.bg * 4 + p.bank

/-! ## The error log (R399) -/

/-- Write an entry at TAIL, or count it in LOST; answers its index, 0xFFFF if lost. -/
def Hbm.logEntry (h : Hbm) (e : HbmLog) : Nat × Hbm :=
  let t := (h.tail + 1) % 256
  if t = h.head then (0xFFFF, { h with lost := min (h.lost + 1) 0xFFFFFFFF })
  else (h.tail, { h with log := tset h.log h.tail e, tail := t })

/-- A log entry for a word of a region (R399). -/
def State.logFor (s : State) (kind pc addr sym mid region off : Nat) : HbmLog :=
  let p := place addr
  ⟨kind, pc, p.sid, p.bg, p.bank, p.row, addr % 1024 / 32, sym, mid, region, s.tick, off / 256⟩

/-- Log an error. -/
def State.hbmLog (s : State) (e : HbmLog) : Nat × State :=
  let r := s.hbm.logEntry e
  (r.1, { s with hbm := r.2 })

/-! ## Row disturbance (R394, R395) -/

/-- Number of activations of a row that calls for refresh management (R394). -/
abbrev rowLimit : Nat := 2048

/-- Can a requester be throttled (R395): it carries a master identity and is no real-time port? -/
def mayThrottle (r : MemReq) : Bool := r.rtPort.isNone && r.mid ≠ 0xFF

/-- The master identity with the most activations in a bank. -/
def busiest (l : List (Nat × Nat)) (bank : Nat) : Option Nat :=
  let here := l.filter fun p => p.1 / 256 == bank
  match (here.map (·.2)).max? with
  | none => none
  | some m => (here.find? fun p => p.2 == m).map fun p => p.1 % 256

/-- Refresh management of a row's neighbours, the throttle of the busiest master, and EV_HBM_RH (R394, R395). -/
def State.rowHammer (s : State) (pc : Nat) (p : Place) : State :=
  let b := p.ix
  let s := s.occur srcHbmRfm { unit := some pc }
  let who := busiest (s.pchan pc).midActs b
  let s := s.modPchan pc fun c => { c with
    rhN := c.rhN + 1
    acts := [p.row - 2, p.row - 1, p.row + 1, p.row + 2].foldl
      (fun a r => if r = p.row then a else tdel a (b * 32768 + r)) c.acts
    throttled := match who with
      | some m => (m, b) :: c.throttled.filter (· ≠ (m, b))
      | none => c.throttled }
  let s := if who.isSome then s.occur srcHbmThrottle { unit := some pc } else s
  let c := s.pchan pc
  if c.rhEv.any fun t => s.time.m < t + 1000 then s
  else
    let s := s.postAll { code := evHbmRh, obj := pc, d0 := p.sid + 4 * p.bg + 16 * p.bank, d1 := who.getD 0xFF, d2 := c.rhN, d3 := p.row }
    s.modPchan pc fun c => { c with rhN := 0, rhEv := some s.time.m }

/-- The activation that a request makes when its row is not the open one (R394). -/
def State.activate (s : State) (pc addr : Nat) (r : MemReq) : State :=
  let p := place addr
  let b := p.ix
  let c := s.pchan pc
  if tget c.openRow b = some p.row then s
  else
    let n := tgetD c.acts (b * 32768 + p.row) 0 + 1
    let s := s.modPchan pc fun c => { c with
      openRow := tset c.openRow b p.row
      acts := tset c.acts (b * 32768 + p.row) n
      midActs := if mayThrottle r then tmod c.midActs (b * 256 + r.mid) 0 (· + 1) else c.midActs }
    if n = rowLimit then s.rowHammer pc p else s

/-! ## Requests (R392 to R398) -/

/-- Number of erroneous symbols of a word. -/
def badCount (syms : List Nat) : Nat := syms.eraseDups.length

/-- A corrected error (R396): HBM_CE, and a log entry under CE_LOG. -/
def State.corrected (s : State) (pc addr sym mid region off : Nat) : State :=
  let s := s.modPchan pc fun c => { c with ce := min (c.ce + 1) 0xFFFFFFFF }
  if s.hbm.ceLog then (s.hbmLog (s.logFor 0 pc addr sym mid region off)).2 else s

/-- HBM_UE of a pseudo-channel. -/
def State.ueCount (s : State) (pc : Nat) : State := s.modPchan pc fun c => { c with ue := min (c.ue + 1) 0xFFFFFFFF }

/-- An uncorrectable error that reaches the requester (R396, R398): log kind 1, EV_HBM_UE, no data. -/
def State.errorResponse (s : State) (pc addr sym mid region off : Nat) (both : Bool) : State :=
  let l := s.hbmLog (s.logFor 1 pc addr sym mid region off)
  let s := l.2.postAll { code := evHbmUe, obj := pc, d0 := region, d1 := off / 256, d2 := mid + 256 * b2n both, d3 := l.1 }
  { s with hbm := { s.hbm with last := none } }

/-- What an error response makes of a requester that has no row of its own for it (R398): the forwarding pipe's copy
and the MAC's frame count HBM_UE_DROP, the frame ending with an inverted FCS. -/
def State.ueOutcome (s : State) (r : MemReq) (pc : Nat) : State :=
  match r.rtPort with
  | some k =>
    if 52 ≤ k && k < 68 then
      (s.modPort (k - 52) fun p => { p with wire := none, aborted := p.aborted + b2n p.wire.isSome }).occur srcHbmUeDrop { unit := some pc }
    else s
  | none => if r.mid = 0xFF && r.region = 1 then s.occur srcHbmUeDrop { unit := some pc } else s

/-- The bytes of the 32-byte word at a place. -/
def State.wordAt (s : State) (pc addr : Nat) : List Byte := memReadList s.mem (cellAddr pc addr) 32

/-- Write a word at a place. -/
def State.putWord (s : State) (pc addr : Nat) (bs : List Byte) : State :=
  { s with mem := memWriteList s.mem (cellAddr pc addr) bs }

/-- A write of a word (R396, R406): to the layout in force and its copy, and to the layout that a migration builds. -/
def State.memWriteWord (s : State) (g : Region) (o : Nat) (bs : List Byte) : State :=
  let a := mapAddr g.order g.size o
  let s := s.putWord a.1 (g.base + a.2) bs
  if g.dup then s.putWord (copyPc a.1) (g.base + share g.size + a.2) bs else s

/-- A read of a word (R396 to R398). -/
def State.memReadWord (s : State) (g : Region) (r : MemReq) (o : Nat) : State :=
  let a := mapAddr g.order g.size o
  let addr := g.base + a.2
  let poisoned := s.hbm.poison.contains (r.region, o / 32)
  let n := if poisoned then 2 else badCount r.badSyms
  let sym := if poisoned then 0x1F else r.badSyms.headD 0x1F
  let give (s : State) (pc addr : Nat) : State :=
    let w := s.wordAt pc addr
    { s with hbm := { s.hbm with last := some w } }
  if n = 0 then give s a.1 addr
  else if n = 1 then give (s.corrected a.1 addr sym r.mid r.region o) a.1 addr
  else
    let s := s.ueCount a.1
    if !g.dup then (s.errorResponse a.1 addr sym r.mid r.region o false).ueOutcome r a.1
    else
      let pc2 := copyPc a.1
      let addr2 := g.base + share g.size + a.2
      if badCount r.badCopy ≤ 1 && !poisoned then
        let w := s.wordAt pc2 addr2
        let s := (s.putWord a.1 addr w).occur srcHbmCopyRecover { unit := some a.1 }
        let s := (s.hbmLog (s.logFor 2 a.1 addr sym r.mid r.region o)).2
        { s with hbm := { s.hbm with last := some w } }
      else ((s.ueCount pc2).errorResponse a.1 addr sym r.mid r.region o true).ueOutcome r a.1

/-- A real-time port raises panic below 25 per cent of its read buffer, counted by HBM_PANIC, and clears it above 50 (R393). -/
def State.panic (s : State) (r : MemReq) : State :=
  match r.rtPort with
  | none => s
  | some p =>
    if r.level < 25 && !s.hbm.panics.contains p then
      State.occur { s with hbm := { s.hbm with panics := p :: s.hbm.panics } } srcHbmPanic { unit := some p }
    else if 50 < r.level then { s with hbm := { s.hbm with panics := s.hbm.panics.filter (· ≠ p) } }
    else s

/-- HBM_REQUEST: a request to the memory controller is served (R390 to R398). A request outside its region, which no
requester forms, changes nothing. -/
def doHbmRequest (r : MemReq) (s : State) : State :=
  match s.hbm.regions[r.region]? with
  | none => s
  | some g =>
    let o := r.off / 32 * 32
    if g.size * 2 ^ 30 ≤ o then s
    else
      let a := mapAddr g.order g.size o
      let s := (s.panic r).activate a.1 (g.base + a.2) r
      if r.write then
        let bs := (r.data ++ List.replicate 32 0#8).take 32
        let s := s.memWriteWord g o bs
        { s with hbm := { s.hbm with poison := s.hbm.poison.filter (· ≠ (r.region, o / 32)) } }
      else s.memReadWord g r o

/-- The region that owns a local address. -/
def State.regionAt (s : State) (p : Nat) : Option Nat :=
  s.hbm.regions.findIdx? fun g => decide (g.base ≤ p ∧ p < g.base + share g.size * (1 + b2n g.dup))

/-- SCRUB: the background scrub reads a word of a pseudo-channel (R396): one bad symbol is corrected, more are
uncorrectable. A word of a mirrored region's second copy has its offset in the first (R406). -/
def doScrub (pc addr : Nat) (badSyms : List Nat) (s : State) : State :=
  let p := addr / 32 * 32 % localBytes
  let r := (s.regionAt p).getD 7
  let off := match s.hbm.regions[r]? with
    | some g =>
      if p - g.base < share g.size then unmapAddr g.order g.size pc (p - g.base)
      else unmapAddr g.order g.size (copyPc pc) (p - g.base - share g.size)
    | none => 0
  if badCount badSyms = 0 then s
  else if badCount badSyms = 1 then s.corrected pc p (badSyms.headD 0x1F) 0xFF r off
  else (s.ueCount pc).errorResponse pc p (badSyms.headD 0x1F) 0xFF r off false

/-- REFRESH_WINDOW_END: activation counts restart and every throttle of the window ends (R394). -/
def doRefreshWindowEnd (s : State) : State :=
  { s with hbm := { s.hbm with pcs := s.hbm.pcs.map fun (k, c) => (k, { c with acts := [], midActs := [], throttled := [] }) } }

/-! ## Training and tracking (R401 to R404) -/

/-- MARGIN_ALARM: the tracker schedules an incremental retraining (R402). -/
def doMarginAlarm (pc margin lane : Nat) (s : State) : State :=
  s.modPchan pc fun c => { c with needRetrain := true, margin := margin, lane := lane }

/-- LOADED_VERIFICATION_DUE: every pseudo-channel of the stack with a LIGHT record is to be verified (R403). -/
def doLoadedVerificationDue (stack : Nat) (s : State) : State :=
  forEach (List.range 32) s fun i s =>
    s.modPchan (32 * stack + i) fun c => if c.loaded then c else { c with needVerify := true }

/-- EV_HBM_MARGIN (R403, R404, R408). -/
def State.marginEvent (s : State) (pc outcome : Nat) : State :=
  let c := s.pchan pc
  s.postAll { code := evHbmMargin, obj := pc, d0 := c.margin, d1 := c.lane, d2 := outcome, d3 := b2n c.loaded }

/-- A retraining (R402): new record, HBM_RETRAIN, log kind 3, EV_HBM_MARGIN. The record is LIGHT unless the stack's
traffic at that moment is at least 25 GB/s (R401), which `loaded` says: a free value (log entry 2). -/
def State.retrain (s : State) (pc : Nat) (e : StallEnv) (loaded : Bool) : State :=
  let temp := tgetD s.power.temps (54 + pc / 32) 0
  let s := s.modPchan pc fun c => { c with
    needRetrain := false, loaded := loaded, trainTemp := temp, trainTick := s.tick, margin := e.margin, lane := e.lane
    retrains := min (c.retrains + 1) 0xFFFF }
  let s := s.occur srcHbmRetrain { unit := some pc }
  let s := (s.hbmLog (s.logFor 3 pc 0 0x1F 0xFF 0 0)).2
  s.marginEvent pc 0

/-- Has another pseudo-channel of the stack stalled in this tick (R404)? -/
def State.stackStalled (s : State) (pc : Nat) : Bool :=
  s.hbm.pcs.any fun (k, c) => k ≠ pc && k / 32 == pc / 32 && c.lastStall == some s.time.m

/-- Is another pseudo-channel of the stack before this one (R404): a retraining before a verification, and then the
lower number? -/
def State.stallFirst (s : State) (pc : Nat) : Bool :=
  let me := s.pchan pc
  !s.hbm.pcs.any fun (k, c) => k ≠ pc && k / 32 == pc / 32 &&
    ((c.needRetrain && (!me.needRetrain || k < pc)) || (c.needVerify && !me.needRetrain && k < pc))

/-- RETRAIN_STALL: retraining or verification of a pseudo-channel in the part of the tick after T + 750 µs, or its
deferral after T + 960 µs (R403, R404). -/
def doRetrainStall (pc : Nat) (e : StallEnv) (s : State) : State :=
  let c := s.pchan pc
  if !(c.needRetrain || c.needVerify) || e.us < 750 then s
  else if 960 ≤ e.us then s.occur srcHbmRetrainDefer { unit := some pc }
  else if e.panic || e.lowBuffer || e.rfmOutstanding || s.stackStalled pc || !s.stallFirst pc then s
  else
    let s := s.modPchan pc fun c => { c with lastStall := some s.time.m }
    if c.needRetrain then (s.draw 2).2.retrain pc e ((s.draw 2).1 == 1)
    else if e.pass then
      (s.modPchan pc fun c => { c with needVerify := false, loaded := true, margin := e.margin, lane := e.lane }).marginEvent pc 1
    else
      (s.modPchan pc fun c => { c with needVerify := false, needRetrain := true, margin := e.margin, lane := e.lane }).marginEvent pc 2

/-! ## MEM.MAP (R405 to R407) -/

/-- The local ranges that regions and running migrations occupy. -/
def State.ranges (s : State) : List (Nat × Nat) :=
  s.hbm.regions.flatMap fun g =>
    (g.base, g.base + share g.size * (1 + b2n g.dup)) :: (match g.mig with
      | some (_, dup, size, base) => [(base, base + share size * (1 + b2n dup))]
      | none => [])

/-- The lowest local base at which `len` bytes are free (log entry 14). -/
def State.freeBase (s : State) (len : Nat) : Option Nat :=
  let rs := s.ranges.filter fun r => r.1 < r.2
  let ok (b : Nat) : Bool := b + len ≤ localBytes && rs.all fun r => b + len ≤ r.1 || r.2 ≤ b
  (((0 :: rs.map (·.2)).filter ok)).min?

/-- Bytes in use of a region (R405): the Hamper's occupancy, the surfaces allocated (R234, R258), or the extent of the content
written. -/
def State.regionUsed (s : State) (r : Nat) : Nat :=
  match s.hbm.regions[r]? with
  | none => 0
  | some g =>
    if r = 1 then s.hamperUsed
    else if r = 2 then s.videoBytes
    else if r = 3 then s.canvasBytes
    else
      let here := s.mem.filter fun c => decide (g.base ≤ c.1 % 2 ^ 31 ∧ c.1 % 2 ^ 31 < g.base + share g.size)
      ((here.map fun c => unmapAddr g.order g.size (c.1 / 2 ^ 31) (c.1 % 2 ^ 31 - g.base) + 1).max?).getD 0

/-- Change region `r`. -/
def State.modRegion (s : State) (r : Nat) (g : Region → Region) : State :=
  { s with hbm := { s.hbm with regions := lmod s.hbm.regions r ⟨0, false, 0, 0, 0, none⟩ g } }

/-- MEM.MAP set (R405 to R407). -/
def memMapSet (c : Ctx) (s : State) : Reply :=
  let r := c.f 1 2 3
  let order := c.f 1 5 2
  let dup := c.bit 1 7
  let size := c.f 1 16 8
  let g := s.hbm.regions.getD r ⟨0, false, 0, 0, 0, none⟩
  let base := s.freeBase (share size * (1 + b2n dup))
  let busy := s.findOp 0x0D01 fun o => o.a == r
  checks [badArg (144 < size) 1, badArg (r = 0 && !(order = 3 && dup)) 2, badArg (dup && order ≠ 3) 2,
    (busy.isSome, eBusy, (busy.map (·.handle)).getD 0),
    (decide (g.order = order ∧ g.dup = dup ∧ g.size = size), eAlreadyDone, 0),
    (base.isNone, eNospace, 0x0D01),
    (decide (r ≠ 1 ∧ r ≠ 7) && decide (size * 2 ^ 30 < s.regionUsed r), eNospace, 0x0D02)]
  (startLong c s r 0 0 fun _ s => s.modRegion r fun g => { g with mig := some (order, dup, size, base.getD 0) })

/-- MEM_MAP (R405). -/
def doMemMap (ch : Nat) (s : State) : State := runCmd ch 0x0D01 (fun c s =>
  let g := s.hbm.regions.getD (c.f 1 2 3) ⟨0, false, 0, 0, 0, none⟩
  let p := s.pchan (c.f 1 8 7)
  checks [badArg (c.f 1 0 2 = 3) 2, reserved c 1 15 1, reserved c 1 24 8]
  (match c.f 1 0 2 with
  | 0 => memMapSet c s
  | 1 => okWords s [g.order + 4 * b2n g.dup + 8 * b2n g.mig.isSome + 256 * g.size,
      (s.regionUsed (c.f 1 2 3) + 2 ^ 20 - 1) / 2 ^ 20]
  | _ => okWords s [b2n p.loaded + 256 * field 8 (p.trainTemp / 16) +
        65536 * field 8 (tgetD s.power.temps (54 + c.f 1 8 7 / 32) 0 / 16),
      p.trainTick, p.margin % 256 + 256 * p.lane + 65536 * p.retrains])) s

/-- The contents of a region's layout in force: offset and byte of each listed cell of the first copy. -/
def State.regionCells (s : State) (g : Region) : List (Nat × Byte) :=
  (s.mem.filter fun c => decide (g.base ≤ c.1 % 2 ^ 31 ∧ c.1 % 2 ^ 31 < g.base + share g.size)).map fun c =>
    (unmapAddr g.order g.size (c.1 / 2 ^ 31) (c.1 % 2 ^ 31 - g.base), c.2)

/-- Memory without the cells of a region's layout. -/
def memWithout (m : List Host.Cell) (g : Region) : List Host.Cell :=
  m.filter fun c => !decide (g.base ≤ c.1 % 2 ^ 31 ∧ c.1 % 2 ^ 31 < g.base + share g.size * (1 + b2n g.dup))

/-- Write one byte of a region through a layout, both copies under DUP. -/
def memPut (m : List Host.Cell) (g : Region) (o : Nat) (b : Byte) : List Host.Cell :=
  let a := mapAddr g.order g.size o
  let m := memWrite m (cellAddr a.1 (g.base + a.2)) b
  if g.dup then memWrite m (cellAddr (copyPc a.1) (g.base + share g.size + a.2)) b else m

/-- MIGRATION_SWITCH: the copied region switches to its new layout, the operation's arbitration point (R406); shrinking
the Hamper evicts. -/
def doMigrationSwitch (region : Nat) (s : State) : State :=
  match s.hbm.regions[region]? with
  | none => s
  | some g =>
    match g.mig, s.findOp 0x0D01 fun o => o.a == region with
    | some (order, dup, size, base), some op =>
      let g' : Region := { g with order := order, dup := dup, size := size, base := base, mig := none }
      let cells := (s.regionCells g).filter fun c => c.1 < size * 2 ^ 30
      let mem := cells.foldl (fun m c => memPut m g' c.1 c.2) (memWithout s.mem g)
      let s := ({ s with mem := mem }).modRegion region fun _ => g'
      let s := if region = 1 then s.evictFor 0 s.hamperCount else s
      s.opDone op eOk 0
    | _, _ => s

/-! ## The meanings -/

/-- The meaning of HBM_REQUEST (R392). -/
def execHbmRequest (r : MemReq) (s : State) : Host.Outcome State Fault Refusal :=
  answer (Instr.hbmRequest r).wf (doHbmRequest r s)

/-- The meaning of SCRUB (R396). -/
def execScrub (pc : Nat) (addr : Nat) (badSyms : List Nat) (s : State) : Host.Outcome State Fault Refusal :=
  answer (Instr.scrub pc addr badSyms).wf (doScrub pc addr badSyms s)

/-- The meaning of REFRESH_WINDOW_END (R394). -/
def execRefreshWindowEnd (s : State) : Host.Outcome State Fault Refusal :=
  answer Instr.refreshWindowEnd.wf (doRefreshWindowEnd s)

/-- The meaning of MARGIN_ALARM (R402). -/
def execMarginAlarm (pc : Nat) (margin : Nat) (lane : Nat) (s : State) : Host.Outcome State Fault Refusal :=
  answer (Instr.marginAlarm pc margin lane).wf (doMarginAlarm pc margin lane s)

/-- The meaning of LOADED_VERIFICATION_DUE (R403). -/
def execLoadedVerificationDue (stack : Nat) (s : State) : Host.Outcome State Fault Refusal :=
  answer (Instr.loadedVerificationDue stack).wf (doLoadedVerificationDue stack s)

/-- The meaning of RETRAIN_STALL (R404). -/
def execRetrainStall (pc : Nat) (e : StallEnv) (s : State) : Host.Outcome State Fault Refusal :=
  answer (Instr.retrainStall pc e).wf (doRetrainStall pc e s)

/-- The meaning of MEM_MAP (R405). -/
def execMemMap (ch : Nat) (s : State) : Host.Outcome State Fault Refusal :=
  answer (Instr.memMap ch).wf (doMemMap ch s)

/-- The meaning of MIGRATION_SWITCH (R406). -/
def execMigrationSwitch (region : Nat) (s : State) : Host.Outcome State Fault Refusal :=
  answer (Instr.migrationSwitch region).wf (doMigrationSwitch region s)

end Sys2Proof.Machine
end

