-- ==== Sys2Proof/Machine/Monitors.lean ====
section
/-! DEFINITION. Event counters and queue samplers: MON.COUNTER (R498 to R503), MON.SAMPLE and the samples (R341, R504, R505). -/

namespace Sys2Proof.Machine

/-! ## Counter sources (R500) -/

/-- A group's sources: their number, and from which source number on each qualifier is carried (0: none carries it). -/
structure SrcGroup where
  sources : Nat
  obj : Nat → Bool
  port : Bool
  tenant : Nat → Bool

/-- The catalogue of R500. -/
def srcGroup (g : Nat) : Option SrcGroup :=
  let no := fun _ : Nat => false
  let all := fun _ : Nat => true
  match g with
  | 0x01 => some ⟨3, (· == 2), false, no⟩
  | 0x02 => some ⟨2, no, true, no⟩
  | 0x03 => some ⟨10, fun n => decide (8 ≤ n), true, fun n => decide (8 ≤ n)⟩
  | 0x04 => some ⟨6, no, true, no⟩
  | 0x06 => some ⟨9, fun n => decide (2 ≤ n), true, fun n => decide (2 ≤ n)⟩
  | 0x07 => some ⟨6, fun n => decide (5 ≤ n), true, all⟩
  | 0x08 => some ⟨16, fun n => decide (4 ≤ n), true, fun n => decide (4 ≤ n)⟩
  | 0x09 => some ⟨10, all, false, all⟩
  | 0x0A => some ⟨8, all, false, all⟩
  | 0x0B => some ⟨2, all, true, all⟩
  | 0x0C => some ⟨3, no, true, no⟩
  | 0x0D => some ⟨7, no, true, no⟩
  | 0x0E => some ⟨4, all, false, all⟩
  | 0x12 => some ⟨4, all, false, no⟩
  | 0x13 => some ⟨2, (· == 1), false, no⟩
  | _ => none

/-- The catalogue entry of a source, if SEL is not reserved. -/
def sourceOf (sel : Nat) : Option SrcGroup := (srcGroup (sel / 256)).filter fun g => decide (1 ≤ sel % 256) && decide (sel % 256 ≤ g.sources)

/-- Does the source carry every qualifier that QEN enables (R499, R500)? -/
def carries (sel qen : Nat) : Bool :=
  match sourceOf sel with
  | some g => (!hasBit qen 1 || g.obj (sel % 256)) && (!hasBit qen 2 || g.tenant (sel % 256)) && (!hasBit qen 3 || g.port)
  | none => false

/-- Has the source the tenant qualifier? -/
def tenantSource (sel : Nat) : Bool := (sourceOf sel).any fun g => g.tenant (sel % 256)

/-! ## MON.COUNTER (R502, R503) -/

/-- Is the issuer a VF? -/
def isVF (f : Nat) : Bool := decide (f < 128) && !isPF f

/-- Change the monitors. -/
def State.modMon (s : State) (f : Mon → Mon) : State := { s with mon := f s.mon }

/-- May the issuer not act on a counter: owned by another, from a VF or the management controller (R503)? -/
def State.counterOther (s : State) (issuer i : Nat) : Bool :=
  !isPF issuer && (tget s.mon.counters i).any fun c => c.owner ≠ issuer

/-- The settings of a configure, the tenant qualifier forced for a VF (R501). -/
def State.counterOf (s : State) (c : Ctx) : Counter :=
  let vf := isVF c.issuer
  let qen := c.f 2 16 4
  { owner := c.issuer, sel := c.f 2 0 16, qen := if vf && !hasBit qen 2 then qen + 4 else qen
    clMask := c.f 3 0 32 + 2 ^ 32 * c.f 4 0 16, tenant := if vf then (s.tenantOf c.issuer).getD 0xFFF else c.f 4 16 12
    object := c.f 5 0 18, portq := c.f 5 18 8 }

/-- OP 0: configure a counter, or with ANY the lowest free one. -/
def monConfigure (c : Ctx) (s : State) : Reply :=
  let sel := c.f 2 0 16
  let any := c.bit 1 2
  let n := if any then firstFree s.mon.counters 0 256 else some (c.f 1 8 8)
  checks [badLen c 5, badArg (c.f 1 4 4 ≠ 0 || c.f 1 16 16 ≠ 0) 1, badArg (sourceOf sel).isNone 1, badArg (c.f 2 20 12 ≠ 0 || !carries sel (c.f 2 16 4)) 2,
      reserved c 4 28 4, reserved c 5 26 6, (isVF c.issuer && !tenantSource sel, eTenant, 1),
      (!any && s.counterOther c.issuer (c.f 1 8 8), eTenant, 2), (n.isNone, eNospace, 0x1101)]
    (let i := n.getD 0
     okWords (s.modMon fun m => { m with counters := tset m.counters i (s.counterOf c) }) [i])

/-- OP 1 and 2: read, clearing with CLEAR, or release. -/
def monReadRelease (c : Ctx) (s : State) : Reply :=
  let i := c.f 1 8 8
  checks [badLen c 1, badArg (c.f 1 4 4 ≠ 0 || c.f 1 16 16 ≠ 0) 1, (s.counterOther c.issuer i, eTenant, 2)]
    (match tget s.mon.counters i with
     | none => .fail eState 0x1101
     | some k =>
       if c.f 1 0 2 = 2 then ok (s.modMon fun m => { m with counters := tdel m.counters i })
       else okWords (if c.bit 1 3 then s.modMon fun m => { m with counters := tset m.counters i { k with value := 0 } } else s)
         [k.value % 2 ^ 32, k.value / 2 ^ 32])

/-- MON.COUNTER. -/
def doMonCounter (ch : Nat) (s : State) : State := runCmd ch 0x1101 (fun c s =>
  match c.f 1 0 2 with
  | 0 => monConfigure c s
  | 3 => .fail eBadarg 1
  | _ => monReadRelease c s) s

/-! ## MON.SAMPLE (R504) -/

/-- Queues that a sampler selects. -/
def Sampler.queues (x : Sampler) : Nat := if x.kind = 0 then x.count else 8 * (bitsOf x.ports 16).length

/-- Queues per tick of running samplers, as a fraction (R504). -/
def sampleLoad (l : List Sampler) : Nat × Nat := l.foldl (fun p x => (p.1 * x.n + x.queues * p.2, p.2 * x.n)) (0, 1)

/-- Do the running samplers, with a new one of `mid`, stay within 65,536 queues per tick? -/
def State.sampleRoom (s : State) (mid : Nat) (x : Sampler) : Bool :=
  let p := sampleLoad (x :: (s.mon.samplers.filter fun y => y.1 ≠ mid && y.2.running).map (·.2))
  decide (p.1 ≤ 65536 * p.2)

/-- The sampler that a start asks for. -/
def samplerOf (c : Ctx) : Sampler :=
  let kind := c.f 1 2 1
  { kind := kind, n := c.f 2 0 10, first := if kind = 0 then c.f 3 0 16 else 0, count := if kind = 0 then c.f 3 16 13 else 0
    ports := if kind = 0 then 0 else c.f 3 0 16, size := 64 + (descLen c 4 - 64) / 32 * 32 }

/-- OP 0: start, from the next sample boundary. A buffer that is not reached fails as R43 states. -/
def sampleStart (c : Ctx) (buf : BufRead) (s : State) : Reply :=
  let x := { samplerOf c with last := some s.time.m }
  checks ([badLen c 6, badArg (c.f 1 3 29 ≠ 0) 1, badArg (x.n == 0 || decide (1000 < x.n) || c.f 2 10 22 ≠ 0) 2,
        badArg (c.f 3 29 3 ≠ 0 || (x.kind == 0 && (x.count == 0 || decide (4096 < x.count) || decide (65536 < x.first + x.count)))) 3] ++
      descChecks c 4 true ++
      [badArg (decide (descLen c 4 < 64 + 32 * x.queues)) 4, (x.kind == 1 && isVF c.issuer, eTenant, 1), (!s.sampleRoom c.issuer x, eNospace, 0x1102)] ++
      bufChecks buf)
    (ok (s.modMon fun m => { m with samplers := tset m.samplers c.issuer x }))

/-- MON.SAMPLE. -/
def doMonSample (ch : Nat) (buf : BufRead) (s : State) : State := runCmd ch 0x1102 (fun c s =>
  let mine := tget s.mon.samplers c.issuer
  match c.f 1 0 2 with
  | 0 => sampleStart c buf s
  | 1 => checks [badLen c 1, badArg (c.f 1 3 29 ≠ 0) 1]
      (ok (s.modMon fun m => { m with samplers := tupd m.samplers c.issuer fun x => { x with running := false } }))
  | 2 => checks [badLen c 1, badArg (c.f 1 3 29 ≠ 0) 1]
      (okWords s [(mine.map fun x => x.n + 65536 * b2n x.running).getD 0, ((mine.map (·.sets)).getD 0) % 2 ^ 32])
  | _ => .fail eBadarg 1) s

/-! ## Samples (R341, R505) -/

/-- Microseconds since a value of the reference counter, saturating. -/
def State.delayOf (s : State) (at_ : Option Nat) : Nat := min 65535 ((at_.map fun t => (s.time.ref - t) / usU).getD 0)

/-- The record of a leg queue; an ID not in use has an empty queue. -/
def State.legSample (s : State) (leg : Nat) : SampleRec :=
  match s.leg leg with
  | some l =>
    let bytes := (l.queue.map fun i => wireLen (s.port l.cfg.port).overhead i.len).sum
    ⟨leg, 0, s.tick, l.queue.length, bytes, s.delayOf (l.queue.head?.map (·.at_)), l.shaper.tokens / 256⟩
  | none => ⟨leg, 0, s.tick, 0, 0, 0, 0⟩

/-- The record of a MAC transmit queue. -/
def State.tqSample (s : State) (port q : Nat) : SampleRec :=
  let l := (s.port port).tq.getD q []
  ⟨8 * port + q, 1, s.tick, l.length, (l.map fun i => wireLen (s.port port).overhead i.len).sum, s.delayOf (l.head?.map (·.since)), 0⟩

/-- One sample set: a VF's legs of its own tenant only (R504). -/
def State.sampleSet (s : State) (mid : Nat) (x : Sampler) : List SampleRec :=
  if x.kind = 1 then (bitsOf x.ports 16).flatMap fun p => (List.range 8).map (s.tqSample p)
  else
    let legs := (List.range x.count).map (x.first + ·)
    (legs.filter fun n => !isVF mid || (s.leg n).any fun l => s.tenantOf mid == some (s.legTenant l)).map s.legSample

/-- Bytes free in a ring between WR and RD; equal offsets leave the whole ring free. -/
def Sampler.room (x : Sampler) (rd : Nat) : Nat := if rd = x.wr then x.size - 64 else if x.wr < rd then rd - x.wr else x.size - 64 - (x.wr - rd)

/-- WR after `n` records. -/
def Sampler.advance (x : Sampler) (n : Nat) : Nat := 64 + (x.wr - 64 + 32 * n) % (max 1 (x.size - 64))

/-- SAMPLE: at a boundary whose M is a multiple of N, the sampler of an issuer writes a whole set, or counts it as lost. -/
def doSample (mid rd : Nat) (s : State) : State :=
  match tget s.mon.samplers mid with
  | none => s
  | some x =>
    if !x.running || s.time.m % x.n ≠ 0 || x.last = some s.time.m then s
    else
      let set := s.sampleSet mid x
      let y := if 32 * set.length ≤ x.room rd then { x with wr := x.advance set.length, sets := x.sets + 1, records := set }
        else { x with lost := (x.lost + set.length) % 2 ^ 32 }
      s.modMon fun m => { m with samplers := tset m.samplers mid { y with last := some s.time.m } }

/-! ## The meanings -/

/-- The meaning of MON_COUNTER (R502). -/
def execMonCounter (ch : Nat) (s : State) : Host.Outcome State Fault Refusal :=
  answer (Instr.monCounter ch).wf (doMonCounter ch s)

/-- The meaning of MON_SAMPLE (R504). -/
def execMonSample (ch : Nat) (buf : BufRead) (s : State) : Host.Outcome State Fault Refusal :=
  answer (Instr.monSample ch buf).wf (doMonSample ch buf s)

/-- The meaning of SAMPLE (R341). -/
def execSample (mid : Nat) (rd : Nat) (s : State) : Host.Outcome State Fault Refusal :=
  answer (Instr.sample mid rd).wf (doSample mid rd s)

end Sys2Proof.Machine
end

