-- ==== Sys2Proof/Machine/Update.lean ====
section
/-! DEFINITION. Live update (R436 to R451, R456, R457): the update session, commit, trial, fallback and revert, the reload of
clusters and SerDes firmware, settings copies, and the takeover of control (R53). -/

namespace Sys2Proof.Machine

abbrev evUpdFallback : Nat := 0x1001

/-! ## Control takeover (R53) -/

/-- The standby pair becomes active: its queues and long operations go on; every enabled event ring is told, and FWREV shows the
image then active (R507). -/
def State.takeControl (s : State) : State :=
  let s := { s with ctl := { s.ctl with active := 1 - s.ctl.active } }
  ((List.range 128).filter fun f => (s.fn f).ev.en).foldl (fun s f => s.modFn f fun r => r.offer { code := evCtlTakeover, tick := s.tick }) s

/-! ## Transfer (R438, R439) -/

/-- The commit or revert that runs. -/
def State.committing (s : State) : Option Nat := s.busyHandle fun o => o.opcode == 0x1003 || o.opcode == 0x1004

/-- The checks of a session: open, owned by the issuer, no commit running (R456). -/
def sessionChecks (c : Ctx) (s : State) : List (Bool × Nat × Nat) :=
  [busy s.committing, (s.upd.session.isNone, eState, 0x1007), (s.upd.session.any fun x => x.owner ≠ c.issuer, eState, 0x1001)]

/-- UPD.BEGIN (R438, R456; while a commit runs E_BUSY, log entry 37). -/
def doUpdBegin (ch : Nat) (s : State) : State := runCmd ch 0x1001 (fun c s =>
  let len := (c.w 1).toNat
  checks [busy s.committing, (s.upd.session.any fun x => x.owner ≠ c.issuer, eState, 0x1001), (decide (3 ≤ s.upd.phase), eState, 0x1002),
      (decide (268435456 < len) || len % 4 ≠ 0, eNospace, 0x1001)]
    (ok { s with upd := { s.upd with session := some { owner := c.issuer, len := len }, phase := 1 } })) s

/-- 4 KiB units that a block covers. -/
def unitsOf (off len : Nat) : List Nat := (List.range ((len + 4095) / 4096)).map (off / 4096 + ·)

/-- UPD.BLOCK (R439): the block is checked and written; a block at offset 0 shows the image's SVN. The image that a session
overwrites is no longer there for a revert (R437, R446). -/
def doUpdBlock (ch : Nat) (buf : BufRead) (flashOk : Bool) (s : State) : State := runCmd ch 0x1002 (fun c s =>
  let off := (c.w 1).toNat
  let n := descLen c 3
  let len := (s.upd.session.map (·.len)).getD 0
  let bs := bufBytes buf n
  checks ([badArg (off % 4096 ≠ 0 || (s.upd.session.isSome && decide (len < off + n))) 1] ++ descChecks c 3 false ++
      [(decide (1048576 < n) || (n % 4096 ≠ 0 && off + n ≠ len && s.upd.session.isSome), eBadarg, 0x8008)] ++
      sessionChecks c s ++ bufChecks buf ++ [badArg (crc32 bs ≠ (c.w 2).toNat) 2, (!flashOk, eHw, 0x1001)])
    (match s.upd.session with
     | none => ok s
     | some x =>
       let x := { x with units := x.units ++ (unitsOf off n).filter fun u => !x.units.contains u }
       ok { s with upd := { s.upd with
         session := some x, fwOther := 0, svnImage := if off = 0 then ((bs.getD 16 0).toNat % 64) else s.upd.svnImage } })) s

/-! ## Commit (R440, R441) -/

/-- Has every unit of the image been received? -/
def UpdSession.whole (x : UpdSession) : Bool := (unitsOf 0 x.len).all x.units.contains

/-- The standby pair is taken to boot an image. -/
def State.beginBoot (s : State) (phase : Nat) : State :=
  { s with upd := { s.upd with phase := phase }, ctl := { s.ctl with standbyReady := false } }

/-- UPD.COMMIT (R440). -/
def doUpdCommit (ch : Nat) (s : State) : State := runCmd ch 0x1003 (fun c s =>
  checks ([reserved c 1 0 32] ++ sessionChecks c s ++ [(!(s.upd.session.any (·.whole)), eState, 0x1003)])
    (startLong c s 0 0 s.upd.phase fun _ s => s.beginBoot 2)) s

/-- The stepping that IDENT gives (R507). -/
abbrev identStep : Nat := 0x21

/-- What the boot of an image finds, in the order of R440, with the statuses of R441. -/
def State.bootFault (s : State) (i : Image) (e : CommitEnv) : Option (Nat × Nat) :=
  ([(!e.flashOk, eHw, 0x1001), (!i.magicOk, eState, 0x1004), (decide (i.part ≠ 0x6548) || decide (identStep < i.stepMin), eState, 0x1005),
    (!i.tableOk, eState, 0x1004), (i.keyRevoked, eState, 0x1004), (!i.sigOk, eState, 0x1004), (decide (i.svn < s.upd.svnFused), eLocked, 0x1001),
    (decide (s.fwMajor < i.stateMin), eState, 0x1005), (!e.migrateOk, eState, 0x1006)].find? (·.1)).map fun f => (f.2.1, f.2.2)

/-- Clusters in the order of a reload: single clusters, then locked groups by their first clusters (R449, R450). -/
def State.reloadOrder (s : State) : List Nat :=
  (List.range 48).filter (fun c => (s.cluster c).group.isNone) ++ (List.range 48).filter fun c => (s.cluster c).group.any (·.1 == c)

/-- Components of an image over those installed: a kind that it omits keeps the component installed (R436). -/
def mergeComps (old new : List (Nat × Nat)) : List (Nat × Nat) := new.foldl (fun t x => tset t x.1 x.2) old

/-- SerDes firmware of an image waits for its ports and groups, or is loaded by shedding (R451). -/
def State.serdesFirmware (s : State) (kinds : List Nat) : State :=
  let s := if kinds.contains 4 then { s with ports := tmap (fun (p : Port) => { p with fwPending := p.fwPending || p.cfg.mode ≠ 0 }) s.ports } else s
  let s := if kinds.contains 5 then (s.casc.groups.map (·.1)).foldl (fun s g => s.groupFirmware g) s else s
  if kinds.contains 6 then { s with pins := { s.pins with pciePend := [true, true] } } else s

/-- An image takes over and is on trial (R440 step 4, R442, R447): the pair that ran the previous image stays standby. A change of
SET_VER keeps the settings' old copy; the migrated values are those in force (log entry 38). -/
def State.goTrial (s : State) (i : Image) : State :=
  let u := s.upd
  let migrated := i.setVer ≠ u.setVer
  let u' : Upd := { u with
    phase := 3, session := none, fwActive := i.fwrev, fwOther := u.fwActive, confirmed := none, svnImage := i.svn
    trialEnd := s.time.m + u.window * 60000, setVer := i.setVer, otherVer := u.setVer
    oldSettings := if migrated then some (u.tenants, u.mode, u.window) else u.oldSettings
    comps := mergeComps u.comps i.comps, otherComps := u.comps, reloading := s.reloadOrder }
  let s := { s with upd := u', ctl := { s.ctl with standbyReady := true } }
  s.takeControl.serdesFirmware (i.comps.map (·.1))

/-- UPD_COMMIT_TAKEOVER: the boot of the image ends: it takes over, or the commit fails and the standby pair boots the running
image again (R440, R441). -/
def doUpdCommitTakeover (img : Image) (env : CommitEnv) (s : State) : State :=
  match s.findOp 0x1003 fun _ => true with
  | none => s
  | some o => match s.bootFault img env with
    | some (st, det) => ({ s with upd := { s.upd with phase := 1 } }).opDone o st det
    | none => (s.goTrial img).opDone o eOk 0

/-! ## Trial, confirmation, fallback (R442 to R447) -/

/-- SYS.CONFIRM (R443, R445). -/
def doSysConfirm (ch : Nat) (fuseOk : Bool) (s : State) : State := runCmd ch 0x0105 (fun c s =>
  let u := s.upd
  let raise := decide (u.svnFused < u.svnImage)
  checks [(decide ((c.w 1).toNat ≠ s.fwrev), eStale, 1), (u.phase ≠ 3 && u.confirmed == some u.fwActive, eAlreadyDone, 0),
      (u.phase ≠ 3, eState, 0x1008), (!u.reloading.isEmpty, eState, 0x100A), (raise && !fuseOk, eHw, 0x1002)]
    (ok { s with
      upd := { u with phase := 0, confirmed := some u.fwActive, svnFused := max u.svnFused u.svnImage, trialEnd := 0
                      bootArea := if u.mode = 0 then 1 - u.bootArea else u.bootArea }
      ctl := { s.ctl with standbyReady := false } })) s

/-- Fallback (R444, R447): the pair that holds the previous image takes over; the image on trial is rejected and gone. -/
def State.fallback (s : State) (cause : Nat) : State :=
  let u := s.upd
  let back := if u.otherVer ≠ u.setVer then u.oldSettings else none
  let cfg := back.getD (u.tenants, u.mode, u.window)
  let u' : Upd := { u with
    phase := 4, fwActive := u.fwOther, fwOther := 0, trialEnd := 0, confirmed := none, setVer := u.otherVer
    tenants := cfg.1, mode := cfg.2.1, window := cfg.2.2, oldSettings := if back.isSome then none else u.oldSettings
    comps := u.otherComps, reloading := s.reloadOrder }
  let s := ({ s with upd := u', ctl := { s.ctl with standbyReady := false } }).takeControl
  s.postAll { code := evUpdFallback, obj := u.fwActive, d0 := cause, d1 := u.fwOther }

/-- CONFIRM_WINDOW_EXPIRE (R444). -/
def doConfirmWindowExpire (s : State) : State :=
  if s.upd.phase = 3 && s.upd.trialEnd ≤ s.time.m then s.fallback 0 else s

/-- UPD.REVERT (R446). -/
def doUpdRevert (ch : Nat) (s : State) : State := runCmd ch 0x1004 (fun c s =>
  let trial := s.upd.phase == 3
  checks [reserved c 1 0 32, busy s.committing, (s.upd.fwOther == 0 || s.upd.phase == 4, eState, 0x1008)]
    (startLong c s 0 (b2n trial) s.upd.phase fun _ s => if trial then { s with upd := { s.upd with phase := 5 } } else s.beginBoot 5)) s

/-- UPD_REVERT_COMPLETE: the previous image is active, after a fallback or on trial; or its boot failed (R446). -/
def doUpdRevertComplete (img : Image) (env : CommitEnv) (s : State) : State :=
  match s.findOp 0x1004 fun _ => true with
  | none => s
  | some o =>
    if o.b = 1 then (s.fallback 2).opDone o eOk 0
    else match s.bootFault img env with
      | some (st, det) => ({ s with upd := { s.upd with phase := o.c } }).opDone o st det
      | none => (s.goTrial img).opDone o eOk 0

/-- The abort of a commit or a revert: the steps are undone, and the standby pair boots the running image again (R441). -/
def State.updAbort (s : State) (o : LongOp) : State := { s with upd := { s.upd with phase := o.c } }

/-- STANDBY_BOOT_COMPLETE: a pair that boots the running image stands by (R441, R443, R444); after a fallback once the clusters
are reloaded. -/
def doStandbyBootComplete (s : State) : State :=
  let u := s.upd
  if s.ctl.standbyReady || !(s.ctl.pairs.getD (1 - s.ctl.active) false) || u.phase = 2 || (u.phase = 5 && s.committing.isSome) ||
      (u.phase = 4 && !u.reloading.isEmpty) then s
  else { s with ctl := { s.ctl with standbyReady := true }, upd := { u with phase := if u.phase = 4 then 0 else u.phase } }

/-- The active pair fails (R53, R429, R444): the standby pair takes over, during a trial as a fallback. The failed pair stays out of
service. -/
def State.failControl (s : State) : State :=
  if !s.ctl.standbyReady then s
  else
    let bad := s.ctl.active
    let s := { s with ctl := { s.ctl with pairs := s.ctl.pairs.set bad false } }
    if s.upd.phase = 3 || (s.upd.phase = 5 && s.committing.isSome) then s.fallback 1
    else ({ s with ctl := { s.ctl with standbyReady := false } }).takeControl

/-- CONTROL_TAKEOVER. -/
def doControlTakeover (s : State) : State := s.failControl

/-! ## Cluster reload (R449, R450) -/

/-- Move a cluster's flows: each to the buddy where it fits there, else by R111; none where one does not fit. -/
def State.drainTo (avoid b : Nat) : List (Nat × Flow) → State → Option State
  | [], s => some s
  | (n, f) :: fs, s =>
    let cs := (s.placesFor f.owner).filter (· ≠ avoid)
    let t := if cs.contains b && s.fits n f b then some b else bestBy s.freeOf (cs.filter (s.fits n f))
    match t with
    | some c => State.drainTo avoid b fs (s.moveFlow n c)
    | none => none

/-- Is the cluster empty: no flow on it, none draining from it, no item in service? -/
def State.emptied_ (s : State) (cl : Nat) : Bool :=
  !s.trail.flows.any (fun p => !p.2.stopped && (p.2.place == cl || p.2.marker.any fun k => k.cluster == cl)) &&
    !s.trail.cores.any fun p => p.1 / 4 == cl

/-- The clusters of a place. -/
def State.members (s : State) (c : Nat) : List Nat := (List.range (s.placeSize c)).map (c + ·)

/-- A place is loaded with the new microcode: its cores start at reset, and its self-test passes or fails it (R449). -/
def State.loadPlace (s : State) (c : Nat) (pass : Bool) : State :=
  let kinds := [2, 3].filter fun k => thas s.upd.comps k
  (s.members c).foldl (fun s cl =>
    let s := (List.range 4).foldl (fun (s : State) k => { s with cores := tdel s.cores (4 * cl + k) }) s
    let s := s.modCluster cl fun x => { x with reload := false }
    let s := (if kinds.isEmpty then [2] else kinds).foldl (fun s k => s.componentEvent k cl (!pass)) s
    if pass then s else s.failCluster cl 1) s

/-- A locked group's flows stop while it is reloaded: encode frames are SKIPPED, and encode jobs restart with a key picture
(R450). -/
def State.stopGroup (s : State) (c : Nat) : State :=
  (s.flowsOn c).foldl (fun s p => match p.2.owner with
    | .encode j =>
      let ready := (((tget s.encJobs j).map (·.encs)).getD []).zipIdx.filter fun e => e.1.ready.isSome || e.1.running
      let s := ready.foldl (fun s e => s.encSkip j e.2 false) s
      (s.haltEncode j).forceKeys j
    | _ => s) s

/-- CLUSTER_RELOAD: the next place of the list is drained, loaded, tested and returned. The command that finds it not yet empty
starts the drain, or tries it again where no room was free. -/
def doClusterReload (cl : Nat) (pass : Bool) (s : State) : State :=
  match s.upd.reloading with
  | [] => s
  | c :: rest =>
    if c ≠ cl then s
    else
      let next := fun s : State => { s with upd := { s.upd with reloading := rest } }
      if !s.placeUp c then next s
      else if (s.cluster c).group.isSome then next ((s.stopGroup c).loadPlace c pass)
      else
        let t := if (s.flowsOn c).isEmpty then some s else State.drainTo c (buddyOf c) (s.flowsOn c) s
        match t with
        | none => s
        | some t =>
          let t := t.modCluster c fun x => { x with reload := true }
          if t.emptied_ c then next (t.loadPlace c pass) else t

/-! ## UPD.STATUS (R456) -/

/-- KiB of the image received. -/
def UpdSession.kib (x : UpdSession) : Nat := (x.units.map fun u => min 4096 (x.len - 4096 * u)).sum / 1024

/-- Components not yet loaded everywhere. -/
def State.pendingComps (s : State) : Nat :=
  let on := fun k => thas s.upd.comps k
  maskOf ((if s.upd.reloading.isEmpty then [] else [2, 3].filter on) ++ (if s.ports.any (·.2.fwPending) then [4] else []) ++
    (if s.casc.groups.any (·.2.fwPending) then [5] else []) ++ (if s.pins.pciePend.any id then [6] else []))

/-- UPD.STATUS (R456): without a session the owner is a free value (log entry 2). -/
def doUpdStatus (ch : Nat) (s : State) : State := runCmd ch 0x1005 (fun c s =>
  let u := s.upd
  let r := s.draw 256
  let p := match u.session with
    | some x => (x.owner, s)
    | none => r
  let left := if u.phase = 3 then (u.trialEnd - s.time.m + 999) / 1000 else 0
  checks [reserved c 1 0 32]
    (okWords p.2 [u.phase + 8 * u.mode + 256 * p.1 + 65536 * (left % 65536), u.fwActive, u.fwOther, u.svnFused % 64 + 256 * (u.svnImage % 64),
       (u.session.map (·.kib)).getD 0, s.pendingComps])) s

/-! ## The meanings -/

/-- The meaning of UPD_BEGIN (R438). -/
def execUpdBegin (ch : Nat) (s : State) : Host.Outcome State Fault Refusal :=
  answer (Instr.updBegin ch).wf (doUpdBegin ch s)

/-- The meaning of UPD_BLOCK (R439). -/
def execUpdBlock (ch : Nat) (buf : BufRead) (flashOk : Bool) (s : State) : Host.Outcome State Fault Refusal :=
  answer (Instr.updBlock ch buf flashOk).wf (doUpdBlock ch buf flashOk s)

/-- The meaning of UPD_COMMIT (R440). -/
def execUpdCommit (ch : Nat) (s : State) : Host.Outcome State Fault Refusal :=
  answer (Instr.updCommit ch).wf (doUpdCommit ch s)

/-- The meaning of UPD_COMMIT_TAKEOVER (R440). -/
def execUpdCommitTakeover (img : Image) (env : CommitEnv) (s : State) : Host.Outcome State Fault Refusal :=
  answer (Instr.updCommitTakeover img env).wf (doUpdCommitTakeover img env s)

/-- The meaning of SYS_CONFIRM (R443). -/
def execSysConfirm (ch : Nat) (fuseOk : Bool) (s : State) : Host.Outcome State Fault Refusal :=
  answer (Instr.sysConfirm ch fuseOk).wf (doSysConfirm ch fuseOk s)

/-- The meaning of CONFIRM_WINDOW_EXPIRE (R444). -/
def execConfirmWindowExpire (s : State) : Host.Outcome State Fault Refusal :=
  answer Instr.confirmWindowExpire.wf (doConfirmWindowExpire s)

/-- The meaning of UPD_REVERT (R446). -/
def execUpdRevert (ch : Nat) (s : State) : Host.Outcome State Fault Refusal :=
  answer (Instr.updRevert ch).wf (doUpdRevert ch s)

/-- The meaning of UPD_REVERT_COMPLETE (R446). -/
def execUpdRevertComplete (img : Image) (env : CommitEnv) (s : State) : Host.Outcome State Fault Refusal :=
  answer (Instr.updRevertComplete img env).wf (doUpdRevertComplete img env s)

/-- The meaning of STANDBY_BOOT_COMPLETE (R444). -/
def execStandbyBootComplete (s : State) : Host.Outcome State Fault Refusal :=
  answer Instr.standbyBootComplete.wf (doStandbyBootComplete s)

/-- The meaning of CONTROL_TAKEOVER (R53). -/
def execControlTakeover (s : State) : Host.Outcome State Fault Refusal :=
  answer Instr.controlTakeover.wf (doControlTakeover s)

/-- The meaning of CLUSTER_RELOAD (R449). -/
def execClusterReload (cl : Nat) (pass : Bool) (s : State) : Host.Outcome State Fault Refusal :=
  answer (Instr.clusterReload cl pass).wf (doClusterReload cl pass s)

/-- The meaning of UPD_STATUS (R456). -/
def execUpdStatus (ch : Nat) (s : State) : Host.Outcome State Fault Refusal :=
  answer (Instr.updStatus ch).wf (doUpdStatus ch s)

end Sys2Proof.Machine
end

