-- ==== Sys2Proof/Machine/System.lean ====
section
/-! DEFINITION. The module as a whole: settings (R447, R448), SYS.HEALTH and SYS.RESET_UNIT (R430, R431), calibration (R452 to
R455), OP.ABORT (R55 to R57), Function Level Reset (R52, R490), and domains that fault (R464, R466). -/

namespace Sys2Proof.Machine

/-- Change the protection registers. -/
def State.modProt (s : State) (f : Prot → Prot) : State := { s with prot := f s.prot }

/-! ## Settings (R448) -/

/-- Has the function created an object that still exists? -/
def State.ownsObjects (s : State) (f : Nat) : Bool :=
  s.legs.any (fun x => x.2.creator == f) || s.confs.any (fun x => x.2.creator == f) || s.decJobs.any (fun x => x.2.creator == f) ||
    s.encJobs.any (fun x => x.2.creator == f) || s.canvases.any fun x => x.2.creator == f

/-- Does the key exist, with an index that it takes? -/
def settingOk (key ix : Nat) : Bool := if key = 1 then decide (ix < 128) && !isPF ix else (key == 2 || key == 3) && ix == 0

/-- The value of a setting in force. -/
def State.setting (s : State) (key ix : Nat) : Nat :=
  match key with
  | 1 => match s.tenantOf ix with
    | some t => t + 2 ^ 31
    | none => 0
  | 2 => s.upd.mode
  | _ => s.upd.window

/-- Is the value in its range? A VF that is not bound keeps no tenant number. -/
def settingValueOk (key : Nat) (w : Word) : Bool :=
  match key with
  | 1 => w.fld 12 19 == 0
  | 2 => decide (w.toNat < 2)
  | _ => decide (1 ≤ w.toNat) && decide (w.toNat ≤ 60)

/-- The settings with one changed. -/
def Upd.setSetting (u : Upd) (key ix : Nat) (w : Word) : Upd :=
  match key with
  | 1 => { u with tenants := if w.bit 31 then tset u.tenants ix (w.fld 0 12) else tdel u.tenants ix }
  | 2 => { u with mode := w.toNat }
  | _ => { u with window := w.toNat }

/-- SYS.CONFIG.SET (R442, R448). -/
def doSysConfigSet (ch : Nat) (s : State) : State := runCmd ch 0x0101 (fun c s =>
  let key := c.f 1 0 16
  let ix := c.f 1 16 16
  let w := c.w 2
  let same := if key = 1 && !w.bit 31 then (s.tenantOf ix).isNone else s.setting key ix == w.toNat
  checks [badArg (!settingOk key ix) 1, badArg (!settingValueOk key w) 2, (s.upd.phase == 3, eState, 0x1009), (same, eAlreadyDone, 0),
      (key == 1 && s.ownsObjects ix, eState, 0x0101), (key == 2 && s.upd.session.isSome, eState, 0x1002)]
    (ok { s with upd := s.upd.setSetting key ix w })) s

/-- SYS.CONFIG.GET (R448). -/
def doSysConfigGet (ch : Nat) (s : State) : State := runCmd ch 0x0102 (fun c s =>
  checks [badArg (!settingOk (c.f 1 0 16) (c.f 1 16 16)) 1] (okWords s [s.setting (c.f 1 0 16) (c.f 1 16 16)])) s

/-! ## SYS.HEALTH (R430) -/

/-- The standby pair stands by (R430). -/
def State.standbyUp (s : State) : Bool := s.ctl.standbyReady && s.ctl.pairs.getD (1 - s.ctl.active) false

/-- Is a unit of the module out of service (R430)? -/
def State.degraded (s : State) : Bool :=
  (List.range 48).any (fun c => !(s.cluster c).inService) || s.prot.halves.any (! ·) || s.prot.composers.any (! ·) || s.trail.copies.any (! ·) ||
    s.ctl.pairs.any (! ·) || s.ciphers.any fun e => e.2.offline

/-- STATE of R430. -/
def State.healthState (s : State) : Nat := if !s.pins.modReady then 0 else if s.degraded then 2 else 1

/-- The bits of a list of flags. -/
def flagBits (l : List Bool) : Nat := maskOf ((List.range l.length).filter fun i => l.getD i false)

/-- SYS.HEALTH. -/
def doSysHealth (ch : Nat) (s : State) : State := runCmd ch 0x0103 (fun c s =>
  let failed := maskOf ((List.range 48).filter fun k => !(s.cluster k).inService)
  let overs := maskOf ((List.range 48).filter fun k => decide (3 ≤ (s.cluster k).overPasses))
  checks [reserved c 1 0 32]
    (okWords s [s.healthState + 4 * flagBits s.prot.halves + 16 * flagBits s.trail.copies + 64 * b2n s.standbyUp + 256 * flagBits s.prot.composers,
       failed % 2 ^ 32, failed / 2 ^ 32, overs % 2 ^ 32, overs / 2 ^ 32, s.leastHeadroom, s.partnerWord])) s

/-! ## SYS.RESET_UNIT (R431) -/

/-- Units of each kind of R431. -/
def resetLimit (kind : Nat) : Nat := [48, 4, 2, 2, 2, 3072].getD kind 0

/-- The calibration kind of a kind of R431 (R452). -/
def calKindOf (kind : Nat) : Option Nat := [some 0, some 1, some 2, some 6].getD kind none

/-- The operation that drains or calibrates a unit, or resets it already, or reloads it (R431, R453). -/
def State.unitBusy (s : State) (kind unit : Nat) : Option Nat :=
  let cal := (calKindOf kind).bind fun k => ((s.calOps (k + 16 * unit)).find? fun o => o.phase == 1 || o.phase == 4).map (·.handle)
  let upd := (s.ctl.ops.reverse.find? fun o => o.opcode == 0x1003 || o.opcode == 0x1004).map (·.handle)
  let own := s.busyHandle fun o => o.opcode == 0x0104 && o.a == kind + 16 * unit
  let drain := if kind = 0 then (if (s.cluster unit).reload then upd else (s.cluster unit).drain.map (·.2))
    else if kind = 4 then s.committing else none
  ((cal.orElse fun _ => own).orElse fun _ => drain)

/-- The unit that may not be reset: the last half or copy, or the active pair. -/
def State.lastUnit (s : State) (kind unit : Nat) : Bool :=
  match kind with
  | 2 => s.prot.halves.getD unit false && !s.prot.halves.getD (1 - unit) false
  | 3 => s.trail.copies.getD unit false && !s.trail.copies.getD (1 - unit) false
  | 4 => unit == s.ctl.active
  | _ => false

/-- The clusters whose flows a reset moves: the cluster's own, but for a locked group, whose flows cannot move (R115). -/
def State.drainCluster (s : State) (cl : Nat) : Option State :=
  if (s.flowsOn (((s.cluster cl).group.map (·.1)).getD cl)).isEmpty then some s
  else if (s.cluster cl).group.isSome then none
  else State.moveAll [cl] (s.flowsOn cl) s

/-- A drained unit is powered off and reset (R431). -/
def State.unitOff (s : State) (kind unit : Nat) : State :=
  match kind with
  | 0 => s.clusterGone unit false
  | 1 => (({ s with prot := { s.prot with composers := s.prot.composers.set unit false } }).domainOff (52 + unit) false).clearComposer unit
  | 2 => ({ s with prot := { s.prot with halves := s.prot.halves.set unit false } }).domainOff (72 + unit) false
  | 3 =>
    let t := { s.trail with copies := s.trail.copies.set unit false, active := if s.trail.active = unit then 1 - unit else s.trail.active }
    ({ s with trail := t }).domainOff (76 + unit) false
  | 4 => ({ s with ctl := { s.ctl with pairs := s.ctl.pairs.set unit false, standbyReady := false } }).domainOff (74 + unit) false
  | _ => s.modCipher unit fun e => { e with offline := true, testing := false }

/-- A unit returns to service empty (R431). -/
def State.unitOn (s : State) (kind unit : Nat) : State :=
  match kind with
  | 0 =>
    let s := s.domainRestore unit
    let s := { s with power := { s.power with rails := tdel s.power.rails unit } }
    s.modCluster unit fun c => { inService := true, group := c.group }
  | 1 => ({ s with prot := { s.prot with composers := s.prot.composers.set unit true } }).domainRestore (52 + unit)
  | 2 => ({ s with prot := { s.prot with halves := s.prot.halves.set unit true } }).domainRestore (72 + unit)
  | 3 => ({ s with trail := { s.trail with copies := s.trail.copies.set unit true } }).domainRestore (76 + unit)
  | 4 => ({ s with ctl := { s.ctl with pairs := s.ctl.pairs.set unit true, standbyReady := true } }).domainRestore (74 + unit)
  | _ => s.modCipher unit fun _ => {}

/-- Power off each cluster whose reset waits for its drain and whose drain markers have passed (R116, R431). -/
def State.powerOffs (s : State) : State :=
  (s.ctl.ops.filter fun o => o.opcode == 0x0104 && o.state == 0 && o.phase == 0).foldl (fun s o =>
    let cl := o.a / 16
    if s.trail.flows.any fun p => p.2.marker.any fun k => k.cluster == cl then s
    else (s.modOp o.fn o.handle fun o => { o with phase := 1 }).unitOff 0 cl) s

/-- DRAIN_MARKER_PASS (R116): it may end the drain of a cluster that is to be reset. -/
def doDrainMarkerPass (flow : Nat) (s : State) : State := (s.drainMarker flow).powerOffs

/-- CLUSTER_FAIL (R414): a cluster that failed while draining is drained. -/
def doClusterFail (cl cause : Nat) (s : State) : State := (s.failCluster cl cause).powerOffs

/-- Start a unit's reset: a cluster's flows move and its power-off waits for their markers; any other unit goes off at once. -/
def State.startReset (s : State) (fn h kind unit : Nat) : State :=
  if kind = 0 then (s.modCluster unit fun c => { c with drain := some (fn, h) }).powerOffs
  else (s.modOp fn h fun o => { o with phase := 1 }).unitOff kind unit

/-- SYS.RESET_UNIT. -/
def doSysResetUnit (ch : Nat) (s : State) : State := runCmd ch 0x0104 (fun c s =>
  let kind := c.f 1 0 4
  let unit := c.f 1 4 12
  checks [badArg (decide (5 < kind) || decide (resetLimit kind ≤ unit) || c.f 1 16 16 ≠ 0) 1, (s.lastUnit kind unit, eState, 0x0E05),
      busy (s.unitBusy kind unit)]
    (match (if kind = 0 then s.drainCluster unit else some s) with
     | none => .fail eNospace 0x0401
     | some t => startLong c t (kind + 16 * unit) 0 0 fun h t => t.startReset c.issuer h kind unit)) s

/-- UNIT_RESET_COMPLETE: the self-test of a unit that was powered off (R431). -/
def doUnitResetComplete (kind unit : Nat) (pass : Bool) (s : State) : State :=
  let s := s.powerOffs
  match s.findOp 0x0104 fun o => o.a == kind + 16 * unit && o.phase == 1 with
  | none => s
  | some o =>
    let s := s.undrain o
    if pass then ((s.unitOn kind unit).postAll { code := evUnitRestored, obj := o.a }).opDone o eOk 0
    else s.opDone o eHw 0x0E01

/-! ## Calibration (R452 to R455) -/

/-- Units of each kind of R452. -/
def calLimit (kind : Nat) : Nat := [48, 4, 2, 128, 16, 64, 2].getD kind 0

/-- Set a calibration's phase. -/
def State.calPhase (s : State) (o : LongOp) (p : Nat) : State := s.modOp o.fn o.handle fun o => { o with phase := p }

/-- Keep what a calibration restores: whether the unit, or the lane, was in service. -/
def State.calKeep (s : State) (o : LongOp) (was : Bool) : State := s.modOp o.fn o.handle fun o => { o with b := b2n was }

/-- Is the unit held by another operation: its own reset, or another drain (R453)? -/
def State.calHeld (s : State) (o : LongOp) : Bool :=
  (s.busyHandle fun x => x.opcode == 0x0104 && calKindOf (x.a % 16) == some (o.a % 16) && x.a / 16 == o.a / 16).isSome ||
    (o.a % 16 == 0 && (s.cluster (o.a / 16)).drain.any fun d => d ≠ (o.fn, o.handle))

/-- Start or retry the drain of the unit of the request that is first in line (R452, R453). -/
def State.calDrain (s : State) (o : LongOp) : State :=
  let u := o.a / 16
  if o.phase = 4 then s
  else if s.calHeld o then s.calPhase o 0
  else match o.a % 16 with
    | 0 =>
      if !(s.cluster u).inService then s.calPhase o 1
      else
        let fs := s.flowsOn (((s.cluster u).group.map (·.1)).getD u)
        let t := if fs.isEmpty then some s else if (s.cluster u).group.isSome then none else State.drainTo u (buddyOf u) fs s
        match t with
        | none => s.calPhase o 2
        | some t => (t.modCluster u fun c => { c with drain := some (o.fn, o.handle) }).calPhase o 1
    | 1 =>
      let t := s.clearComposer u
      t.calPhase o (if (t.servedBy u).isEmpty then 1 else 2)
    | 2 => s.calPhase o (if s.prot.halves.getD (1 - u) false then 1 else 2)
    | 3 => s.calPhase o 1
    | 4 => s.calPhase o (if (s.port u).released && (s.port u).op = 0 then 1 else 3)
    | 5 =>
      if o.phase = 1 then s
      else
        let good := hasBit (s.group (u / 4)).good (u % 4)
        let t := if (s.group (u / 4)).st = 0 then s.modGroup (u / 4) fun x => { x with good := x.good - (if good then 2 ^ (u % 4) else 0) }
          else s.lanesFail (u / 4) [u % 4]
        (t.calKeep o good).calPhase o 1
    | _ =>
      if s.trail.active = u && s.trail.copies.getD u false && !s.trail.copies.getD (1 - u) false then s.calPhase o 2
      else ({ s with trail := { s.trail with active := if s.trail.copies.getD (1 - u) false then 1 - u else s.trail.active } }).calPhase o 1

/-- The request that is first in line on a unit starts or retries its drain. -/
def State.calNext (s : State) (a : Nat) : State :=
  match (s.calOps a).head? with
  | some o => s.calDrain o
  | none => s

/-- Is the unit drained (R452)? -/
def State.calReady (s : State) (kind u : Nat) : Bool :=
  match kind with
  | 0 => !(s.cluster u).inService || (!(s.cluster u).reload && s.emptied_ (((s.cluster u).group.map (·.1)).getD u) && !s.trail.cores.any fun p => p.1 / 4 == u)
  | 5 => !hasBit (s.group (u / 4)).active (u % 4)
  | _ => true

/-- The unit leaves service for the work of the calibration. -/
def State.calTake (s : State) (o : LongOp) : State :=
  let u := o.a / 16
  match o.a % 16 with
  | 1 => (s.calKeep o (s.prot.composers.getD u false)).modProt fun p => { p with composers := p.composers.set u false }
  | 2 => (s.calKeep o (s.prot.halves.getD u false)).modProt fun p => { p with halves := p.halves.set u false }
  | 6 =>
    let t := s.calKeep o (s.trail.copies.getD u false)
    { t with trail := { t.trail with copies := t.trail.copies.set u false } }
  | _ => s

/-- The unit returns to service after its calibration, or its abort. A unit that was out of service before stays out (R429). -/
def State.calReturn (s : State) (o : LongOp) : State :=
  let u := o.a / 16
  let was := o.b == 1
  let s := s.undrain o
  match o.a % 16 with
  | 1 => if o.phase = 4 then s.modProt fun p => { p with composers := p.composers.set u was } else s
  | 2 => if o.phase = 4 then s.modProt fun p => { p with halves := p.halves.set u was } else s
  | 5 => if was && !hasBit (s.group (u / 4)).good (u % 4) then s.laneGood (u / 4) (u % 4) else s
  | 6 => if o.phase = 4 then { s with trail := { s.trail with copies := s.trail.copies.set u was } } else s
  | _ => s

/-- CAL.REQUEST (R452). -/
def doCalRequest (ch : Nat) (s : State) : State := runCmd ch 0x0F01 (fun c s =>
  let a := c.f 1 0 16
  checks [badArg (decide (calLimit (a % 16) ≤ a / 16) || c.f 1 16 16 ≠ 0) 1]
    (startLong c s a 0 0 fun _ s => s.calNext a)) s

/-- CAL_START: the work begins on a drained unit. -/
def doCalStart (kind unit : Nat) (s : State) : State :=
  let a := kind + 16 * unit
  let s := s.calNext a
  match (s.calOps a).head? with
  | none => s
  | some o =>
    if o.phase ≠ 1 || !s.calReady kind unit then s
    else (s.calTake o).modOp o.fn o.handle fun o => { o with phase := 4, waited := s.time.m - o.since }

/-- The further effects of a calibration that passed: a hub half's offline engines return (R314), a pseudo-channel has a new record
(R400, R401), a cascade lane is good again (R382). -/
def State.calPassed (s : State) (kind u : Nat) : State :=
  match kind with
  | 2 => { s with ciphers := s.ciphers.map fun e => (e.1, if e.1 / 1536 = u then { e.2 with offline := false, testing := false } else e.2) }
  | 3 =>
    let r := s.draw 2
    let temp := tgetD s.power.temps (54 + u / 32) 0
    r.2.modPchan u fun c => { c with loaded := r.1 == 1, trainTemp := temp, trainTick := s.tick, needRetrain := false, needVerify := false }
  | 5 => if hasBit (s.group (u / 4)).good (u % 4) then s else s.laneGood (u / 4) (u % 4)
  | _ => s

/-- A unit that failed its calibration stays out of service until SYS.RESET_UNIT (R454). -/
def State.calFailed (s : State) (kind u : Nat) : State :=
  match kind with
  | 0 => s.clusterGone u false
  | 1 => s.domainOff (52 + u) false
  | 2 => s.domainOff (72 + u) false
  | 6 => s.domainOff (76 + u) false
  | _ => s

/-- CAL_DONE: the result is recorded (R454, R457): 0 passed, 1 passed with new values, 2 failed. -/
def doCalDone (kind unit result durUs : Nat) (s : State) : State :=
  let a := kind + 16 * unit
  match (s.calOps a).find? fun o => o.phase == 4 with
  | none => s
  | some o =>
    let s := if result = 2 then (s.undrain o).calFailed kind unit else (s.calReturn o).calPassed kind unit
    (s.calResult o result durUs).calNext a

/-- CAL.STATUS (R455). -/
def doCalStatus (ch : Nat) (s : State) : State := runCmd ch 0x0F02 (fun c s =>
  let o := s.ctl.ops.reverse.find? fun o => o.opcode == 0x0F01 && o.fn == c.f 1 16 8 && o.handle == c.f 1 0 16
  checks [badArg (c.f 1 24 8 ≠ 0 || o.isNone) 1]
    (match o with
     | none => ok s
     | some o =>
       let started := o.phase = 4 || o.phase = 5
       okWords s [(if o.state = 2 then 6 else if o.state = 1 then 5 else o.phase) + 16 * o.a, if started || o.state ≠ 0 then o.waited else s.time.m - o.since])) s

/-! ## OP.ABORT (R55 to R57) -/

/-- Undo what an operation had done. -/
def State.undoOp (s : State) (o : LongOp) : State :=
  match o.opcode with
  | 0x0303 => s.portAbort true o.a
  | 0x0304 => s.portAbort false o.a
  | 0x0401 => s.groupOff o.a
  | 0x0D01 => { s with hbm := { s.hbm with regions := lmod s.hbm.regions o.a ⟨0, false, 0, 0, 0, none⟩ fun r => { r with mig := none } } }
  | 0x0F01 => ((s.calReturn o).modOp o.fn o.handle fun x => { x with waited := if o.phase = 4 then x.waited else s.time.m - x.since })
  | 0x1003 => s.updAbort o
  | 0x1004 => s.updAbort o
  | _ => s.undrain o

/-- Has the operation passed its arbitration point (R55): its completion is recorded, or a unit's reset is past its power-off? -/
def LongOp.final (o : LongOp) : Bool := o.state == 1 || (o.opcode == 0x0104 && o.phase == 1)

/-- OP.ABORT. -/
def doOpAbort (ch : Nat) (s : State) : State := runCmd ch 0x1301 (fun c s =>
  match s.ctl.ops.reverse.find? fun o => o.fn == c.issuer && o.handle == c.f 1 0 16 with
  | none => .fail eBadarg 1
  | some o =>
    checks [reserved c 1 16 16, (o.state == 2, eState, 1), (o.final, eAlreadyDone, 0)]
      (let s := (s.undoOp o).modOp o.fn o.handle fun o => { o with state := 2 }
       ok (if o.opcode = 0x0F01 then s.calNext o.a else s))) s

/-! ## Function Level Reset (R52, R490) -/

/-- The commands and responses of a channel pair are forgotten. -/
def Control.clearChannel (c : Control) (ch : Nat) : Control :=
  { c with queues := tdel c.queues ch, segs := tdel c.segs ch, discards := tdel c.discards ch, rsps := tdel c.rsps (ch + 1), waits := tdel c.waits ch }

/-- The registers of a function that Function Level Reset returns to their reset values. -/
def Fn.flr (f : Fn) : Fn := { vecs := f.vecs, nextHandle := f.nextHandle, opsStarted := f.opsStarted }

/-- The long operations of a function go on, their completion events discarded (R52). -/
def LongOp.flr (f : Nat) (o : LongOp) : LongOp := if o.fn = f then { o with discard := true, posted := o.posted || o.state == 1 } else o

/-- FLR of function `f`. -/
def State.flr (s : State) (f : Nat) : State :=
  let s := match tget s.ctl.waits (2 * f) with
    | some w => s.unreserve w
    | none => s
  let chans := tdel (tdel s.chans (2 * f)) (2 * f + 1)
  let ops := s.ctl.ops.map (LongOp.flr f)
  let s := { s with chans := chans, ctl := { s.ctl.clearChannel (2 * f) with ops := ops } }
  let s := s.modFn f Fn.flr
  let s := { s with mon := { s.mon with samplers := tupd s.mon.samplers f fun x => { x with running := false } } }
  let s := { s with encJobs := tmap (fun j => if j.creator = f then { j with ring := none } else j) s.encJobs }
  if isPF f then { s with time := { s.time with ptm := s.time.ptm.set (pcieOf f) {} } } else s

/-- FUNCTION_LEVEL_RESET (R52). -/
def doFunctionLevelReset (fn : Nat) (s : State) : State := s.flr fn

/-- VF_ENABLE_CLEAR: a Function Level Reset of every VF of the port (R490). -/
def doVfEnableClear (port : Nat) (s : State) : State := (List.range 63).foldl (fun s k => s.flr (64 * port + 1 + k)) s

/-! ## Domains that fault (R466) -/

/-- The first port that claims a lane of the line domain. -/
def State.domainPorts (s : State) (j : Nat) : List Nat :=
  (List.range 16).filter fun n => let c := claimed n (s.port n).cfg.mode; decide (max c.1 (4 * j) < min c.2 (4 * j + 4))

/-- A control pair's domain faults: the active pair hands over, or the module stops; a standby pair leaves service (R429). -/
def State.pairFault (s : State) (i : Nat) : State :=
  let s := s.domainOff (74 + i) true
  if s.ctl.active ≠ i then ({ s with ctl := { s.ctl with pairs := s.ctl.pairs.set i false, standbyReady := false } }).unitFault 4 i 0
  else if s.standbyUp then (s.failControl).unitFault 4 i 0
  else s.stopModule false

/-- DOMAIN_FAULT: the domain goes off, its PD_FAULT bit is set, and its unit fails (R466). What the spec says of no unit (the quadrant
fabrics) changes only the domain: the clusters behind it fail by commands of their own. -/
def doDomainFault (d : Nat) (s : State) : State :=
  let s := s.domainOff d true
  if d < 48 then (s.failCluster d 0).powerOffs
  else if d < 52 then s
  else if d < 56 then s.failComposer (d - 52) 0
  else if d < 60 then s.stopModule false
  else if d < 68 then (s.domainPorts (d - 60)).foldl (fun s n => s.linkLost n 0) s
  else if d < 72 then (List.range 4).foldl (fun s i =>
    let g := 4 * (d - 68) + i
    if (s.group g).st = 3 then s.groupDown g true else s) s
  else if d < 74 then s.failHalf (d - 72) 0
  else if d < 76 then s.pairFault (d - 74)
  else if d < 78 then s.failTrail (d - 76) 0
  else { s with pins := { s.pins with pcie := s.pins.pcie.set (d - 78) false } }

/-! ## The meanings -/

/-- The meaning of SYS_CONFIG_SET (R448). -/
def execSysConfigSet (ch : Nat) (s : State) : Host.Outcome State Fault Refusal :=
  answer (Instr.sysConfigSet ch).wf (doSysConfigSet ch s)

/-- The meaning of SYS_CONFIG_GET (R448). -/
def execSysConfigGet (ch : Nat) (s : State) : Host.Outcome State Fault Refusal :=
  answer (Instr.sysConfigGet ch).wf (doSysConfigGet ch s)

/-- The meaning of SYS_HEALTH (R430). -/
def execSysHealth (ch : Nat) (s : State) : Host.Outcome State Fault Refusal :=
  answer (Instr.sysHealth ch).wf (doSysHealth ch s)

/-- The meaning of DRAIN_MARKER_PASS (R116). -/
def execDrainMarkerPass (flow : Nat) (s : State) : Host.Outcome State Fault Refusal :=
  answer (Instr.drainMarkerPass flow).wf (doDrainMarkerPass flow s)

/-- The meaning of CLUSTER_FAIL (R414). -/
def execClusterFail (cl : Nat) (cause : Nat) (s : State) : Host.Outcome State Fault Refusal :=
  answer (Instr.clusterFail cl cause).wf (doClusterFail cl cause s)

/-- The meaning of SYS_RESET_UNIT (R431). -/
def execSysResetUnit (ch : Nat) (s : State) : Host.Outcome State Fault Refusal :=
  answer (Instr.sysResetUnit ch).wf (doSysResetUnit ch s)

/-- The meaning of UNIT_RESET_COMPLETE (R431). -/
def execUnitResetComplete (kind : Nat) (unit : Nat) (pass : Bool) (s : State) : Host.Outcome State Fault Refusal :=
  answer (Instr.unitResetComplete kind unit pass).wf (doUnitResetComplete kind unit pass s)

/-- The meaning of CAL_REQUEST (R452). -/
def execCalRequest (ch : Nat) (s : State) : Host.Outcome State Fault Refusal :=
  answer (Instr.calRequest ch).wf (doCalRequest ch s)

/-- The meaning of CAL_START (R453). -/
def execCalStart (kind : Nat) (unit : Nat) (s : State) : Host.Outcome State Fault Refusal :=
  answer (Instr.calStart kind unit).wf (doCalStart kind unit s)

/-- The meaning of CAL_DONE (R454). -/
def execCalDone (kind : Nat) (unit : Nat) (result : Nat) (durUs : Nat) (s : State) : Host.Outcome State Fault Refusal :=
  answer (Instr.calDone kind unit result durUs).wf (doCalDone kind unit result durUs s)

/-- The meaning of CAL_STATUS (R455). -/
def execCalStatus (ch : Nat) (s : State) : Host.Outcome State Fault Refusal :=
  answer (Instr.calStatus ch).wf (doCalStatus ch s)

/-- The meaning of OP_ABORT (R57). -/
def execOpAbort (ch : Nat) (s : State) : Host.Outcome State Fault Refusal :=
  answer (Instr.opAbort ch).wf (doOpAbort ch s)

/-- The meaning of FUNCTION_LEVEL_RESET (R52). -/
def execFunctionLevelReset (fn : Nat) (s : State) : Host.Outcome State Fault Refusal :=
  answer (Instr.functionLevelReset fn).wf (doFunctionLevelReset fn s)

/-- The meaning of VF_ENABLE_CLEAR (R490). -/
def execVfEnableClear (port : Nat) (s : State) : Host.Outcome State Fault Refusal :=
  answer (Instr.vfEnableClear port).wf (doVfEnableClear port s)

/-- The meaning of DOMAIN_FAULT (R466). -/
def execDomainFault (d : Nat) (s : State) : Host.Outcome State Fault Refusal :=
  answer (Instr.domainFault d).wf (doDomainFault d s)

end Sys2Proof.Machine
end

