-- ==== Sys2Proof/Machine/Power.lean ====
section
/-! DEFINITION. Power, telemetry and the adaptive loops (R458 to R476), start-up, the reset pins and module reset (R467, R487 to
R489). -/

namespace Sys2Proof.Machine

abbrev evPowerCap : Nat := 0x0104
abbrev evThermal : Nat := 0x0105
abbrev evSupply : Nat := 0x0106

/-- Change the power registers. -/
def State.modPower (s : State) (f : Power → Power) : State := { s with power := f s.power }
/-- Change the pins. -/
def State.modPins (s : State) (f : Pins → Pins) : State := { s with pins := f s.pins }

/-- Is the module powered? -/
def State.powered (s : State) : Bool := s.power.cond ≠ .unpowered

/-! ## The 48 V side (R459, R460) -/

/-- EV_SUPPLY (R476). -/
def State.supplyEvent (s : State) (cause mv status : Nat) : State := s.postAll { code := evSupply, d0 := cause, d1 := mv, d2 := status }

/-- TELEMETRY_READ: the readings of one millisecond (R459); readings that return end TLM_LOST, and a converter fault that the
PMBus status word newly reports is told (R476). -/
def doTelemetryRead (t : Telemetry) (s : State) : State :=
  if !s.powered then s
  else
    let lost := s.power.tlmLost
    let fault := t.status ≠ 0 && s.power.tlm.status = 0
    let s := s.modPower fun p => { p with tlm := t, tlmLost := false }
    let s := if lost then s.supplyEvent 3 t.mv t.status else s
    if fault then s.supplyEvent 1 t.mv t.status else s

/-- TELEMETRY_LOST: no reading for 10 ms (R459). -/
def doTelemetryLost (s : State) : State :=
  if !s.powered || s.power.tlmLost then s
  else (s.modPower fun p => { p with tlmLost := true }).supplyEvent 2 s.power.tlm.mv s.power.tlm.status

/-- INPUT_VOLTAGE_EXCURSION: the input is outside 40 V to 60 V; told at most once per 1,000 ticks (R460). -/
def doInputVoltageExcursion (mv : Nat) (s : State) : State :=
  if !s.powered || (40000 ≤ mv && mv ≤ 60000) || s.power.supplyEv.any (fun t => decide (s.time.m < t + 1000)) then s
  else (s.modPower fun p => { p with supplyEv := some s.time.m }).supplyEvent 0 mv s.power.tlm.status

/-! ## The power cap (R462, R463) -/

/-- The applications of the cap in order: steps 1 to 4, then three of step 5 and three of step 6 (R462). -/
def capSteps : List Nat := [1, 2, 3, 4, 5, 5, 5, 6, 6, 6]

/-- EV_POWER_CAP (R476). -/
def State.capEvent (s : State) (mean up : Nat) : State :=
  s.postAll { code := evPowerCap, d0 := s.power.step + 16 * s.power.ceil, d1 := mean, d2 := up }

/-- POWER_CAP_STEP: the mean of the last 10 ms exceeds 330 W, or no telemetry arrives: the next step is applied, at most one every
10 ms (R459, R463). -/
def doPowerCapStep (mean10ms : Nat) (s : State) : State :=
  let p := s.power
  if !p.ac || !s.powered || (mean10ms ≤ 330 && !p.tlmLost) || p.capAt.any (fun t => decide (s.time.m < t + 10)) then s
  else match capSteps[p.applied.length]? with
    | none => s
    | some k => ((s.modPower fun p => { p with applied := k :: p.applied, capAt := some s.time.m }).clocksFall).capEvent mean10ms 1

/-- POWER_CAP_UNDO: the mean of the last 1 s has stayed below 315 W: the latest application is undone, one a second (R463). -/
def doPowerCapUndo (mean1s : Nat) (s : State) : State :=
  let p := s.power
  if !p.ac || !s.powered || 315 ≤ mean1s || p.tlmLost || p.applied.isEmpty || p.capAt.any (fun t => decide (s.time.m < t + 1000)) then s
  else (s.modPower fun p => { p with applied := p.applied.tail, capAt := some s.time.m }).capEvent mean1s 0

/-! ## The voltage loop and droop (R469, R471) -/

/-- The rail after one report (R469), towards the clock `f` that the ceilings allow: the margin is a percentage of the clock period,
so at `f` it is at least 4 % where (100 - margin) × f is at most 96 × the present clock. In DUAL the rail stays at 0.68 V or more
(R296). -/
def Rail.report (r : Rail) (margin f : Nat) : Rail :=
  let floor := if r.split then 600 else 680
  if margin < 4 then
    if 850 ≤ r.mv then { r with vCeil := max 1400 (r.vCeil - 100) } else { r with mv := r.mv + 5 }
  else if r.mhz < f then
    if (100 - margin) * f ≤ 96 * r.mhz then { r with mhz := f } else { r with mv := min 850 (r.mv + 5) }
  else if 8 < margin then { r with mv := max floor (r.mv - 5) }
  else r

/-- The counts of ticks that the loop keeps (R469): at 0.68 V in DUAL with more than 8 % margin, and at 0.80 V or less; 100 ticks of
the latter raise a voltage ceiling by 100 MHz. -/
def Rail.counts (r : Rail) (margin m : Nat) : Rail :=
  let low := !r.split && r.mv == 680 && decide (8 < margin)
  let r := { r with lowSince := if low then r.lowSince.or (some m) else none, vLowSince := if r.mv ≤ 800 then r.vLowSince.or (some m) else none }
  if r.vCeil < 2200 && r.vLowSince.any (fun t => decide (t + 100 ≤ m)) then { r with vCeil := r.vCeil + 100, vLowSince := some m } else r

/-- VOLTAGE_LOOP_REPORT: a report of a cluster's critical-path monitors (R469). -/
def doVoltageLoopReport (cl margin : Nat) (s : State) : State :=
  if !s.domainOn cl then s
  else
    let r := s.rail cl
    (s.modRail cl fun _ => (r.report margin (s.clockCeiling r)).counts margin s.time.m).clockFall cl

/-- DROOP: the rail is more than 40 mV below its setting: the clock period stretches, which is counted (R471). -/
def doDroop (cl mv : Nat) (s : State) : State :=
  let r := s.rail cl
  if !s.domainOn cl || r.droop || r.mv ≤ mv + 40 then s
  else (s.modRail cl fun r => { r with droop := true }).occur srcDroopStretch { cl := some cl }

/-- DROOP_END: the rail has been within 20 mV of its setting for 64 cycles (R471). -/
def doDroopEnd (cl : Nat) (s : State) : State := if (s.rail cl).droop then s.modRail cl fun r => { r with droop := false } else s

/-! ## Temperature (R473). Readings are in 1/16 °C. -/

/-- The crossings of one threshold, in °C, by a reading (R473). -/
def State.crossing (s : State) (sensor threshold : Nat) (old new : Int) : State :=
  let t : Int := 16 * threshold
  let e : Event := { code := evThermal, obj := sensor, d0 := field 32 new, d1 := threshold }
  if old < t && t ≤ new then s.postAll { e with d2 := 1 } else if new < t && t ≤ old then s.postAll e else s

/-- The thermal ceiling of a cluster after a reading: down 100 MHz a tick from 105 °C on, up 100 MHz every 10 ticks below 103 °C. -/
def Rail.thermal (r : Rail) (reading : Int) (m : Nat) : Rail :=
  if 105 * 16 ≤ reading then
    if r.tAt = some m then r else { r with tCeil := max 1400 (r.tCeil - 100), tAt := some m }
  else if reading < 103 * 16 && r.tCeil < 2200 && r.tAt.all (fun t => decide (t + 10 ≤ m)) then
    { r with tCeil := r.tCeil + 100, tAt := some m }
  else r

/-- A number put into a list, or taken out. -/
def withMember (l : List Nat) (n : Nat) (on : Bool) : List Nat := if on then (if l.contains n then l else l ++ [n]) else l.filter (· ≠ n)

/-- What a sensor's unit does at a reading (R473). -/
def State.thermalUnit (s : State) (sensor : Nat) (reading : Int) : State :=
  if sensor < 48 then
    let s := s.modCluster sensor fun c => { c with tempMax := max c.tempMax reading }
    (s.modRail sensor fun r => r.thermal reading s.time.m).clockFall sensor
  else if sensor < 52 then
    if 105 * 16 ≤ reading then s.modPower fun p => { p with cmpHalf := withMember p.cmpHalf (sensor - 48) true }
    else if reading < 103 * 16 then s.modPower fun p => { p with cmpHalf := withMember p.cmpHalf (sensor - 48) false }
    else s
  else if 54 ≤ sensor && sensor < 58 then s.modPower fun p => { p with hbmFast := withMember p.hbmFast (sensor - 54) (decide (85 * 16 ≤ reading)) }
  else s

/-- The trip threshold of a sensor, in °C: 115 for an HBM stack, 125 for any other (R473). -/
def tripAt (sensor : Nat) : Nat := if 54 ≤ sensor && sensor < 58 then 115 else 125

/-- A reading of a sensor: the register, the crossings, the unit's action, and the trip. -/
def State.reading (s : State) (sensor : Nat) (reading : Int) : State :=
  if !s.powered then s
  else
    let old := tgetD s.power.temps sensor 0
    let s := s.modPower fun p => { p with temps := tset p.temps sensor reading }
    let s := (s.crossing sensor 105 old reading).crossing sensor 115 old reading
    let s := s.thermalUnit sensor reading
    if (16 * tripAt sensor : Int) ≤ reading && !s.pins.thermTrip then s.stopModule true else s

/-- THERMAL_LOOP (R473). -/
def doThermalLoop (sensor : Nat) (reading : Int) (s : State) : State := s.reading sensor reading

/-- THERMAL_TRIP (R473). -/
def doThermalTrip (sensor : Nat) (reading : Int) (s : State) : State := s.reading sensor reading

/-! ## Start-up and reset (R33, R467, R488) -/

/-- The binding of channel `c` that the boot firmware writes (R23, R33). -/
def bootBind (c : Nat) : Bind :=
  if c < 264 then
    let host := if c < 256 then c / 2 else 0xC8
    if c % 2 = 0 then ⟨host, 0xC0, false, true⟩ else ⟨0xC0, host, false, true⟩
  else ⟨0x80 + (c - 264), 0xC0, true, true⟩

/-- The domains that the start-up powers (R464, R467). -/
def bootDomains : List Nat := (List.range 60) ++ [72, 73, 74, 75, 76, 77, 78, 79]

/-- What the flash and the fuses keep through a reset (R437, R447): an image on trial is left, and the previous image boots with the
settings kept for it. -/
def Upd.kept (u : Upd) : Upd :=
  let back := if u.phase = 3 && u.otherVer ≠ u.setVer then u.oldSettings else none
  let cfg := back.getD (u.tenants, u.mode, u.window)
  let trial := u.phase == 3
  { mode := cfg.2.1, window := cfg.2.2, tenants := cfg.1, fwActive := if trial then u.fwOther else u.fwActive, fwOther := if trial then 0 else u.fwOther
    confirmed := if trial then none else u.confirmed, svnFused := u.svnFused, setVer := if trial then u.otherVer else u.setVer, otherVer := u.otherVer
    oldSettings := if back.isSome then none else u.oldSettings, bootArea := u.bootArea, comps := if trial then u.otherComps else u.comps, otherComps := u.otherComps }

/-- The module without power: every register at reset, what the flash keeps, and the model's own fields (R460, R489). -/
def State.unpower (s : State) : State :=
  let pins : Pins := { perst0 := s.pins.perst0, perst1 := s.pins.perst1 }
  { State.reset with pending := s.pending, fresh := s.fresh, rdata := s.rdata, upd := s.upd.kept, pins := pins }

/-- The start-up from step 2 to MOD_READY (R467): the time bases at 0, the boot image's FWREV, the bindings locked, every unit in
service, and the PCIe links of the ports whose reset pin is deasserted up. -/
def State.start (s : State) (fwrev : Nat) (ac : Bool) : State :=
  let t := s.unpower
  let on := (List.range 48).map fun c => (c, ({ inService := true } : Cluster))
  let pins : Pins := { t.pins with modReady := true, pcie := [!t.pins.perst0, !t.pins.perst1] }
  let upd : Upd := { t.upd with fwActive := if t.upd.fwActive = 0 then fwrev else t.upd.fwActive }
  { t with
    binds := (List.range 288).map fun c => (c, bootBind c)
    bindLock := true
    ctl := { t.ctl with pairs := [true, true], standbyReady := true }
    time := { t.time with outEn := true }
    trail := { t.trail with copies := [true, true] }
    clusters := on
    prot := { t.prot with halves := [true, true], composers := [true, true, true, true] }
    upd := upd
    power := { t.power with cond := .serving, pdOn := bootDomains, ac := ac }
    pins := pins }

/-- POWER_ON: input power is applied, and OPERATION is on (R467, R479). -/
def doPowerOn (fwrev : Nat) (ac : Bool) (s : State) : State := if s.powered || s.power.hotSwapOff then s else s.start (fwrev % 2 ^ 32) ac

/-- POWER_REMOVED (R460). -/
def doPowerRemoved (s : State) : State := s.unpower

/-- PMB_CTRL_LOW: the module is unpowered (R478). -/
def doPmbCtrlLow (s : State) : State := (s.unpower).modPower fun p => { p with hotSwapOff := s.power.hotSwapOff }

/-- PMBUS_COMMAND: OPERATION (0x01) at the hot-swap controller turns the module off, or allows power again (R479); the on bit is bit 7,
PRESUMED from PMBus. Telemetry and status commands change nothing. -/
def doPmbusCommand (addr cmd : Nat) (data : List Byte) (s : State) : State :=
  match data with
  | b :: _ =>
    if addr ≠ 0x40 || cmd ≠ 1 then s
    else if b.toNat < 128 then (s.unpower).modPower fun p => { p with hotSwapOff := true }
    else s.modPower fun p => { p with hotSwapOff := false }
  | [] => s

/-- Module reset: the module restarts from step 2 of the start-up (R488). -/
def State.restartModule (s : State) : State := s.start s.upd.fwActive s.power.ac

/-- MODULE_RESET: both reset pins have been asserted throughout the same 100 ms (R488). -/
def doModuleReset (s : State) : State := if s.powered && s.pins.perst0 && s.pins.perst1 then s.restartModule else s

/-- A reset pin's level. -/
def Pins.setPerst (p : Pins) (n : Nat) (b : Bool) : Pins := if n = 0 then { p with perst0 := b } else { p with perst1 := b }

/-- PERST_ASSERT: a module reset while the module is stopped; else a fundamental reset of the port: its link goes down, and every
function of it is reset (R488). -/
def doPerstAssert (p : Nat) (s : State) : State :=
  let s := s.modPins fun x => x.setPerst p true
  match s.power.cond with
  | .unpowered => s
  | .serving =>
    let s := s.modPins fun x => { x with pcie := x.pcie.set p false }
    (List.range 64).foldl (fun s k => s.flr (64 * p + k)) s
  | _ => s.restartModule

/-- PERST_DEASSERT: the port's link trains again (R488), with the PCIe SerDes firmware that waits (R451). -/
def doPerstDeassert (p : Nat) (s : State) : State :=
  let s := s.modPins fun x => x.setPerst p false
  if s.power.cond ≠ .serving || !s.domainOn (78 + p) then s
  else
    let wait := s.pins.pciePend.getD p false
    let s := s.modPins fun x => { x with pcie := x.pcie.set p true, pciePend := x.pciePend.set p false }
    if wait then s.componentEvent 6 p false else s

/-! ## The meanings -/

/-- The meaning of TELEMETRY_READ (R459). -/
def execTelemetryRead (t : Telemetry) (s : State) : Host.Outcome State Fault Refusal :=
  answer (Instr.telemetryRead t).wf (doTelemetryRead t s)

/-- The meaning of TELEMETRY_LOST (R459). -/
def execTelemetryLost (s : State) : Host.Outcome State Fault Refusal :=
  answer Instr.telemetryLost.wf (doTelemetryLost s)

/-- The meaning of INPUT_VOLTAGE_EXCURSION (R460). -/
def execInputVoltageExcursion (mv : Nat) (s : State) : Host.Outcome State Fault Refusal :=
  answer (Instr.inputVoltageExcursion mv).wf (doInputVoltageExcursion mv s)

/-- The meaning of POWER_CAP_STEP (R463). -/
def execPowerCapStep (mean10ms : Nat) (s : State) : Host.Outcome State Fault Refusal :=
  answer (Instr.powerCapStep mean10ms).wf (doPowerCapStep mean10ms s)

/-- The meaning of POWER_CAP_UNDO (R463). -/
def execPowerCapUndo (mean1s : Nat) (s : State) : Host.Outcome State Fault Refusal :=
  answer (Instr.powerCapUndo mean1s).wf (doPowerCapUndo mean1s s)

/-- The meaning of VOLTAGE_LOOP_REPORT (R469). -/
def execVoltageLoopReport (cl : Nat) (margin : Nat) (s : State) : Host.Outcome State Fault Refusal :=
  answer (Instr.voltageLoopReport cl margin).wf (doVoltageLoopReport cl margin s)

/-- The meaning of DROOP (R471). -/
def execDroop (cl : Nat) (mv : Nat) (s : State) : Host.Outcome State Fault Refusal :=
  answer (Instr.droop cl mv).wf (doDroop cl mv s)

/-- The meaning of DROOP_END (R471). -/
def execDroopEnd (cl : Nat) (s : State) : Host.Outcome State Fault Refusal :=
  answer (Instr.droopEnd cl).wf (doDroopEnd cl s)

/-- The meaning of THERMAL_LOOP (R473). -/
def execThermalLoop (sensor : Nat) (reading : Int) (s : State) : Host.Outcome State Fault Refusal :=
  answer (Instr.thermalLoop sensor reading).wf (doThermalLoop sensor reading s)

/-- The meaning of THERMAL_TRIP (R473). -/
def execThermalTrip (sensor : Nat) (reading : Int) (s : State) : Host.Outcome State Fault Refusal :=
  answer (Instr.thermalTrip sensor reading).wf (doThermalTrip sensor reading s)

/-- The meaning of POWER_ON (R467). -/
def execPowerOn (fwrev : Nat) (ac : Bool) (s : State) : Host.Outcome State Fault Refusal :=
  answer (Instr.powerOn fwrev ac).wf (doPowerOn fwrev ac s)

/-- The meaning of POWER_REMOVED (R460). -/
def execPowerRemoved (s : State) : Host.Outcome State Fault Refusal :=
  answer Instr.powerRemoved.wf (doPowerRemoved s)

/-- The meaning of PMB_CTRL_LOW (R478). -/
def execPmbCtrlLow (s : State) : Host.Outcome State Fault Refusal :=
  answer Instr.pmbCtrlLow.wf (doPmbCtrlLow s)

/-- The meaning of PMBUS_COMMAND (R479). -/
def execPmbusCommand (addr : Nat) (cmd : Nat) (data : List Byte) (s : State) : Host.Outcome State Fault Refusal :=
  answer (Instr.pmbusCommand addr cmd data).wf (doPmbusCommand addr cmd data s)

/-- The meaning of MODULE_RESET (R488). -/
def execModuleReset (s : State) : Host.Outcome State Fault Refusal :=
  answer Instr.moduleReset.wf (doModuleReset s)

/-- The meaning of PERST_ASSERT (R488). -/
def execPerstAssert (p : Nat) (s : State) : Host.Outcome State Fault Refusal :=
  answer (Instr.perstAssert p).wf (doPerstAssert p s)

/-- The meaning of PERST_DEASSERT (R488). -/
def execPerstDeassert (p : Nat) (s : State) : Host.Outcome State Fault Refusal :=
  answer (Instr.perstDeassert p).wf (doPerstDeassert p s)

end Sys2Proof.Machine
end

