-- ==== Sys2Proof/Machine/Stages.lean ====
section
/-! DEFINITION. Custom stages (R206 to R208, R219, R302 to R306): AUD.STAGE, a stage's run and the expiry of its timer. -/

namespace Sys2Proof.Machine

/-! ## The stage image (R302) -/

/-- Word `k` of an image. -/
def imageWord (bs : List Byte) (k : Nat) : Nat := leNat ((bs.drop (4 * k)).take 4)

/-- Bytes of the image that its header gives. -/
def stageSize (bs : List Byte) : Nat := 32 + imageWord bs 2 + imageWord bs 4

/-- The header's own rules: magic, version, reserved words, lengths, entry and scratch. -/
def stageHeaderOk (bs : List Byte) : Bool :=
  let code := imageWord bs 2
  let entry := imageWord bs 3
  imageWord bs 0 == 0x4754534E && imageWord bs 1 == 1 && code % 16 == 0 && decide (16 ≤ code) && entry % 16 == 0 && decide (entry < code) &&
    imageWord bs 4 % 8 == 0 && decide (imageWord bs 5 ≤ 16384) && imageWord bs 7 == 0

/-- The image lies within the buffer that was read, and its code and constants have the CRC of the header. -/
def stageBodyOk (bs : List Byte) : Bool :=
  decide (stageSize bs ≤ bs.length) && crc32 ((bs.drop 32).take (stageSize bs - 32)) == imageWord bs 6

/-- The stage of an image. -/
def stageOf (bs : List Byte) (cycles delay state : Nat) : Stage where
  code := (bs.drop 32).take (imageWord bs 2)
  entry := imageWord bs 3
  consts := (bs.drop (32 + imageWord bs 2)).take (imageWord bs 4)
  scratch := imageWord bs 5
  cycles := cycles
  delay := delay
  state := state

/-! ## AUD.STAGE (R219, R221) -/

/-- The stage is not loaded. -/
def stageLoaded (s : State) (st : Nat) : Bool × Nat × Nat := ((tget s.stages st).isNone, eState, 0x0903)

/-- OP 0: load. An image over 8,192 bytes is a matter of capacity, checked after its other rules. -/
def stageLoad (c : Ctx) (s : State) (st : Nat) (buf : BufRead) : Reply :=
  let cycles := c.f 5 0 24
  let delay := c.f 6 0 9
  let state := c.f 6 16 16
  let bs := bufBytes buf (descLen c 2)
  let big := decide (8192 < stageSize bs)
  checks (descChecks c 2 false ++ [badArg (cycles == 0 || decide (1000000 < cycles)) 5, reserved c 5 24 8,
      badArg (decide (480 < delay) || c.f 6 9 7 ≠ 0 || decide (32768 < state)) 6, ((tget s.stages st).isSome, eState, 0x0904)] ++
      bufChecks buf ++ [badArg (!stageHeaderOk bs) 2, badArg (!big && !stageBodyOk bs) 2, (big, eNospace, 0x0903)])
    (ok { s with stages := tset s.stages st (stageOf bs cycles delay state) })

/-- The place of an attachment. -/
def StageAtt.isAt (a : StageAtt) (point obj pos : Nat) : Bool := a.point == point && a.obj == obj && a.pos == pos

/-- Take off what is attached at a place: what was at work fades out in the first tick after the response (R208). -/
def State.takeOff (s : State) (point obj pos : Nat) : State :=
  let m := s.time.m
  let old := (s.stageAtts.filter fun a => a.isAt point obj pos && decide (a.at_ < m)).map fun a => { a with until_ := some m }
  { s with stageAtts := s.stageAtts.filter (fun a => !a.isAt point obj pos)
           stageGone := (s.stageGone.filter fun a => a.live (m + 1)) ++ old }

/-- The checks of the object of a place: a leg for points 0 and 2, a conference for point 1. -/
def stageObj (c : Ctx) (s : State) (point obj : Nat) : List (Bool × Nat × Nat) × List (Bool × Nat × Nat) :=
  if point = 1 then ([badArg (s.conf obj).isNone 1], [confObj s c.issuer obj, mixConf s obj])
  else ([legUsed s obj], [mixLeg s obj])

/-- OP 1: attach. -/
def stageAttach (c : Ctx) (s : State) (st : Nat) : Reply :=
  let point := c.f 2 0 2
  let pos := c.f 2 2 2
  let obj := c.f 2 16 16
  let k := stageObj c s point obj
  let put := fun s : State => { s with stageAtts := s.stageAtts ++
    [{ point := point, obj := obj, pos := pos, stage := st, params := [(c.w 3).toNat, (c.w 4).toNat, (c.w 5).toNat], at_ := s.time.m }] }
  checks ([badArg (point == 3 || c.f 2 4 12 ≠ 0) 2] ++ k.1 ++ k.2 ++ [stageLoaded s st])
    (withFlows (put (s.takeOff point obj pos)) noSoft ok)

/-- OP 2: detach; with nothing attached there it has no effect. -/
def stageDetach (c : Ctx) (s : State) : Reply :=
  let point := c.f 2 0 2
  let pos := c.f 2 2 2
  let obj := c.f 2 16 16
  let k := stageObj c s point obj
  checks ([badArg (point == 3 || c.f 2 4 12 ≠ 0) 2] ++ k.1 ++ k.2) (ok (s.takeOff point obj pos).settle)

/-- OP 3: unload. -/
def stageUnload (s : State) (st : Nat) : Reply :=
  checks [stageLoaded s st, (s.stageAtts.any fun a => a.stage == st, eState, 0x0903)] (ok { s with stages := tdel s.stages st })

/-- AUD.STAGE (R219). -/
def doAudStage (ch : Nat) (buf : BufRead) (s : State) : State := runCmd ch 0x0903 (fun c s =>
  let st := c.f 1 2 6
  let op := c.f 1 0 2
  checks [badLen c ([6, 5, 2, 1].getD op 0), reserved c 1 8 24]
    (match op with
     | 0 => stageLoad c s st buf
     | 1 => stageAttach c s st
     | 2 => stageDetach c s
     | _ => stageUnload s st)) s

/-! ## Running -/

/-- The block that the stages of a point hold in this tick, where there is one to process (R206): a decoded input, the
common mix (talker 0xFFFF) or a mix-minus, the signal that goes to a leg's encoder. -/
def State.stageBlock (s : State) (point obj talker : Nat) : Option (List Int) :=
  let m := s.time.m
  if point = 1 then
    match s.conf obj with
    | none => none
    | some c =>
      if c.mixTick ≠ some m then none
      else if talker = 0xFFFF then some c.common
      else (tget c.minus talker).orElse fun _ => tget c.leaving talker
  else
    match s.leg obj with
    | none => none
    | some l =>
      if talker ≠ 0xFFFF then none
      else if point = 0 then (if l.cfg.feeds && l.aud.inp.cur.tick = some m then some l.aud.inp.cur.samples else none)
      else if l.cfg.hears && !l.aud.out.taken && l.aud.out.outTick.any (fun t => decide (t < m)) then some l.aud.out.outSig else none

/-- Put a block back. -/
def State.putBlock (s : State) (point obj talker : Nat) (x : List Int) : State :=
  match point with
  | 0 => s.modIn obj fun i => { i with cur := { i.cur with samples := x } }
  | 1 => s.modConf obj fun c =>
      if talker = 0xFFFF then { c with common := x }
      else if thas c.minus talker then { c with minus := tset c.minus talker x } else { c with leaving := tset c.leaving talker x }
  | _ => s.modAud obj fun a => { a with out := { a.out with outSig := x } }

/-- A leg's signal for the encode flow of this tick is the one mixed before it (R201). -/
def State.stageHear (s : State) (point obj : Nat) : State :=
  let behind := ((s.leg obj).bind fun l => s.conf l.aud.cfg.outConf).any fun c => c.mixTick ≠ some s.time.m
  if point = 2 && behind then s.hear obj else s

/-- The instance of an attachment for a talker; a new one has its state zeroed (R303, R304). -/
def StageAtt.inst (a : StageAtt) (talker n : Nat) : StageInst :=
  (a.insts.find? fun i => i.talker == talker).getD { talker := talker, state := List.replicate n 0#8 }

/-- Has the attachment run for this talker in tick `m`? -/
def StageAtt.ranAt (a : StageAtt) (talker m : Nat) : Bool := a.insts.any fun i => i.talker == talker && i.ran == some m

/-- The attachment with an instance put in. -/
def StageAtt.withInst (a : StageAtt) (i : StageInst) : StageAtt :=
  { a with insts := (a.insts.filter fun x => x.talker ≠ i.talker) ++ [i] }

/-- Change an attachment at work. -/
def State.modAtt (s : State) (a : StageAtt) (g : StageAtt → StageAtt) : State :=
  let same := fun b : StageAtt => b.isAt a.point a.obj a.pos && b.at_ == a.at_ && b.until_ == a.until_
  let put := fun b : StageAtt => if same b then g b else b
  { s with stageAtts := s.stageAtts.map put, stageGone := s.stageGone.map put }

/-- The attachment whose turn it is at a position: those at earlier positions have run, those that fade out go first. -/
def State.stageTurn (s : State) (point obj pos talker : Nat) : Option StageAtt :=
  let todo := (s.stagesAt point obj).filter fun a => !a.ranAt talker s.time.m
  if todo.any fun a => decide (a.pos < pos) then none else todo.find? fun a => a.pos == pos

/-- What leaves a position (R208): the output, crossfaded in the first tick of an attachment from the signal without it, or
from the output of the stage that it replaces, and in the tick after a detach back to the signal without it; the stage
that is being replaced leaves its input for the other. -/
def State.stageJoin (s : State) (a : StageAtt) (talker : Nat) (x y : List Int) : List Int :=
  let m := s.time.m
  let peers := (s.stagesAt a.point a.obj).filter fun b => b.pos == a.pos
  if a.until_.any fun e => e + 1 == m then
    (if peers.any fun b => b.at_ + 1 == m then x else xfade y x)
  else if a.at_ + 1 = m then
    let old := (peers.find? fun b => b.until_.any fun e => e + 1 == m).bind fun b =>
      (b.insts.find? fun i => i.talker == talker && i.ran == some m).map (·.out)
    xfade (old.getD x) y
  else y

/-- After the last stage of an input point: loudness, voice and detection see the block (R206). -/
def State.stagesDone (s : State) (point obj : Nat) : State :=
  if point = 0 && (s.stagesAt 0 obj).all (fun a => a.ranAt 0xFFFF s.time.m) then s.heard obj else s

/-- Detach a stage that failed, and post EV_AUD_STAGE_FAULT (R207, R222, R306). -/
def State.stageFault (s : State) (a : StageAtt) : State :=
  let s := { s with
    stageAtts := s.stageAtts.filter (fun b => !(b.isAt a.point a.obj a.pos && b.at_ == a.at_))
    stageGone := s.stageGone.filter fun b => !(b.isAt a.point a.obj a.pos && b.at_ == a.at_) }
  let e : Event := { code := evAudStageFault, obj := a.obj, d0 := a.point, d1 := a.pos, d2 := a.stage }
  let s := if a.point = 1 then (match s.conf a.obj with
      | some c => s.postObj c.creator e
      | none => s) else s.postLeg a.obj e
  s.settle

/-- What the qualifiers of a stage's counters match. -/
def State.occStage (s : State) (point obj : Nat) : Occ :=
  if point = 1 then s.occOn (.confMix obj) { obj := some obj, tenant := (s.conf obj).map (·.tenant) }
  else s.occOn (if point = 0 then .legAudio obj else .legEncode obj) (s.occLeg obj)

/-- Run a position: `g` says what comes of the instance and the block. -/
def State.stageAct (s : State) (point obj pos talker : Nat) (g : StageAtt → Stage → List Int → State → State) : State :=
  let s := s.stageHear point obj
  match s.stageTurn point obj pos talker, s.stageBlock point obj talker with
  | some a, some x => match tget s.stages a.stage with
    | some st => (g a st x s).stagesDone point obj
    | none => s
  | _, _ => s

/-- A run that gave a block: it goes on within the range of R189, or the input goes on (R207, R304). -/
def State.stageOutput (s : State) (a : StageAtt) (st : Stage) (talker : Nat) (x samples : List Int) (passOn : Bool) (state : List Byte) : State :=
  let raw := block48 samples
  let y := if passOn then x else raw.map satSample
  let i := a.inst talker st.state
  let s := if passOn then s else s.occurN srcStageSat (s.occStage a.point a.obj) (clipped raw)
  let out := s.stageJoin a talker x y
  let i' : StageInst := { i with first := false, state := (state ++ List.replicate st.state 0#8).take st.state, ran := some s.time.m, out := y }
  (s.modAtt a fun b => { b.withInst i' with stops := 0 }).putBlock a.point a.obj talker out

/-- STAGE_RUN: one run of an attached stage on one signal of its point in this tick (R206 to R208, R303 to R306). What the
operator's code leaves is the operand. -/
def doStageRun (point obj pos talker : Nat) (r : StageResult) (s : State) : State :=
  s.stageAct point obj pos talker fun a st x s => match r with
    | .output samples passOn state => s.stageOutput a st talker x samples passOn state
    | .fault => (s.occur srcStageProt (s.occStage point obj)).stageFault a

/-- STAGE_TIMER_EXPIRE: a run that takes more than twice its CYCLES is stopped, and its input goes on (R207, R305). -/
def doStageTimerExpire (point obj pos talker : Nat) (s : State) : State :=
  s.stageAct point obj pos talker fun a st x s =>
    let s := s.occur srcStageOver (s.occStage point obj)
    if 8 ≤ a.stops + 1 then s.stageFault a
    else
      let out := s.stageJoin a talker x x
      let i : StageInst := { a.inst talker st.state with ran := some s.time.m, out := x }
      (s.modAtt a fun b => { b.withInst i with stops := b.stops + 1 }).putBlock point obj talker out

/-! ## The meanings -/

/-- The meaning of AUD_STAGE (R219). -/
def execAudStage (ch : Nat) (buf : BufRead) (s : State) : Host.Outcome State Fault Refusal :=
  answer (Instr.audStage ch buf).wf (doAudStage ch buf s)

/-- The meaning of STAGE_RUN (R304). -/
def execStageRun (point : Nat) (obj : Nat) (pos : Nat) (talker : Nat) (r : StageResult) (s : State) : Host.Outcome State Fault Refusal :=
  answer (Instr.stageRun point obj pos talker r).wf (doStageRun point obj pos talker r s)

/-- The meaning of STAGE_TIMER_EXPIRE (R207). -/
def execStageTimerExpire (point : Nat) (obj : Nat) (pos : Nat) (talker : Nat) (s : State) : Host.Outcome State Fault Refusal :=
  answer (Instr.stageTimerExpire point obj pos talker).wf (doStageTimerExpire point obj pos talker s)

end Sys2Proof.Machine
end

