-- ==== Sys2Proof/Machine/Dispatch.lean ====
section
/-! DEFINITION. One arm per command: its meaning. -/

namespace Sys2Proof.Machine

def exec (i : Instr) (s : State) : Host.Outcome State Fault Refusal :=
  match i with
  | .mboxMsgWrite mid ch ix w => Sys2Proof.Machine.execMboxMsgWrite mid ch ix w s
  | .go mid ch w => Sys2Proof.Machine.execGo mid ch w s
  | .take mid ch => Sys2Proof.Machine.execTake mid ch s
  | .heldTimeout ch => Sys2Proof.Machine.execHeldTimeout ch s
  | .bindLock mid w => Sys2Proof.Machine.execBindLock mid w s
  | .controlTakeMessage => Sys2Proof.Machine.execControlTakeMessage s
  | .evrCtlEnable fn w => Sys2Proof.Machine.execEvrCtlEnable fn w s
  | .evrHeadWrite fn w => Sys2Proof.Machine.execEvrHeadWrite fn w s
  | .heldEventPost fn => Sys2Proof.Machine.execHeldEventPost fn s
  | .holdoffExpire fn => Sys2Proof.Machine.execHoldoffExpire fn s
  | .rcRegisterRead fn off => Sys2Proof.Machine.execRcRegisterRead fn off s
  | .registerWrite addr w => Sys2Proof.Machine.execRegisterWrite addr w s
  | .tbSnapCapture fn w => Sys2Proof.Machine.execTbSnapCapture fn w s
  | .tickNowRead fn => Sys2Proof.Machine.execTickNowRead fn s
  | .ptmDialogue port master => Sys2Proof.Machine.execPtmDialogue port master s
  | .lqFlush fn w => Sys2Proof.Machine.execLqFlush fn w s
  | .lqFlushComplete fn => Sys2Proof.Machine.execLqFlushComplete fn s
  | .prCtlEnable fn ring w => Sys2Proof.Machine.execPrCtlEnable fn ring w s
  | .prHeadWrite fn ring w => Sys2Proof.Machine.execPrHeadWrite fn ring w s
  | .sptxTailWrite fn w => Sys2Proof.Machine.execSptxTailWrite fn w s
  | .sptxSlotSend fn slot => Sys2Proof.Machine.execSptxSlotSend fn slot s
  | .cntLoRead fn ix => Sys2Proof.Machine.execCntLoRead fn ix s
  | .smbWrite bytes pecOk => Sys2Proof.Machine.execSmbWrite bytes pecOk s
  | .smbPointer bytes pecOk => Sys2Proof.Machine.execSmbPointer bytes pecOk s
  | .smbRead pecOk => Sys2Proof.Machine.execSmbRead pecOk s
  | .sysConfigSet ch => Sys2Proof.Machine.execSysConfigSet ch s
  | .sysConfigGet ch => Sys2Proof.Machine.execSysConfigGet ch s
  | .sysHealth ch => Sys2Proof.Machine.execSysHealth ch s
  | .sysResetUnit ch => Sys2Proof.Machine.execSysResetUnit ch s
  | .unitResetComplete kind unit pass => Sys2Proof.Machine.execUnitResetComplete kind unit pass s
  | .sysConfirm ch fuseOk => Sys2Proof.Machine.execSysConfirm ch fuseOk s
  | .tbConfig ch => Sys2Proof.Machine.execTbConfig ch s
  | .tbArm ch => Sys2Proof.Machine.execTbArm ch s
  | .tbStatus ch => Sys2Proof.Machine.execTbStatus ch s
  | .tickSource ch => Sys2Proof.Machine.execTickSource ch s
  | .tickSourceSwitch => Sys2Proof.Machine.execTickSourceSwitch s
  | .portConfig ch => Sys2Proof.Machine.execPortConfig ch s
  | .portStatus ch => Sys2Proof.Machine.execPortStatus ch s
  | .portRelease ch => Sys2Proof.Machine.execPortRelease ch s
  | .portReleaseComplete port => Sys2Proof.Machine.execPortReleaseComplete port s
  | .portRestore ch => Sys2Proof.Machine.execPortRestore ch s
  | .portRestoreComplete port up => Sys2Proof.Machine.execPortRestoreComplete port up s
  | .cascGroup ch => Sys2Proof.Machine.execCascGroup ch s
  | .cascGroupEnableComplete g up => Sys2Proof.Machine.execCascGroupEnableComplete g up s
  | .cascPeer ch => Sys2Proof.Machine.execCascPeer ch s
  | .confCreate ch => Sys2Proof.Machine.execConfCreate ch s
  | .confModify ch => Sys2Proof.Machine.execConfModify ch s
  | .confDestroy ch => Sys2Proof.Machine.execConfDestroy ch s
  | .legCreate ch => Sys2Proof.Machine.execLegCreate ch s
  | .legModify ch => Sys2Proof.Machine.execLegModify ch s
  | .legDestroy ch => Sys2Proof.Machine.execLegDestroy ch s
  | .legStats ch => Sys2Proof.Machine.execLegStats ch s
  | .legIdFree leg => Sys2Proof.Machine.execLegIdFree leg s
  | .keyInstall ch => Sys2Proof.Machine.execKeyInstall ch s
  | .keyRetire ch => Sys2Proof.Machine.execKeyRetire ch s
  | .keyPage ch => Sys2Proof.Machine.execKeyPage ch s
  | .keyContextFree leg => Sys2Proof.Machine.execKeyContextFree leg s
  | .fwdPolicy ch => Sys2Proof.Machine.execFwdPolicy ch s
  | .fwdSubscribe ch => Sys2Proof.Machine.execFwdSubscribe ch s
  | .fwdPin ch => Sys2Proof.Machine.execFwdPin ch s
  | .audRoute ch => Sys2Proof.Machine.execAudRoute ch s
  | .audMixpolicy ch => Sys2Proof.Machine.execAudMixpolicy ch s
  | .audStage ch buf => Sys2Proof.Machine.execAudStage ch buf s
  | .audDetect ch => Sys2Proof.Machine.execAudDetect ch s
  | .vidDecode ch => Sys2Proof.Machine.execVidDecode ch s
  | .vidEncode ch buf => Sys2Proof.Machine.execVidEncode ch buf s
  | .vidKeyreq ch => Sys2Proof.Machine.execVidKeyreq ch s
  | .layCanvas ch buf => Sys2Proof.Machine.execLayCanvas ch buf s
  | .layLayer ch buf => Sys2Proof.Machine.execLayLayer ch buf s
  | .layOrder ch => Sys2Proof.Machine.execLayOrder ch s
  | .layLut ch buf => Sys2Proof.Machine.execLayLut ch buf s
  | .shpNode ch => Sys2Proof.Machine.execShpNode ch s
  | .shpPolice ch => Sys2Proof.Machine.execShpPolice ch s
  | .gateList ch buf => Sys2Proof.Machine.execGateList ch buf s
  | .memMap ch => Sys2Proof.Machine.execMemMap ch s
  | .migrationSwitch region => Sys2Proof.Machine.execMigrationSwitch region s
  | .protClass ch => Sys2Proof.Machine.execProtClass ch s
  | .protPartner ch buf => Sys2Proof.Machine.execProtPartner ch buf s
  | .calRequest ch => Sys2Proof.Machine.execCalRequest ch s
  | .calStart kind unit => Sys2Proof.Machine.execCalStart kind unit s
  | .calDone kind unit result durUs => Sys2Proof.Machine.execCalDone kind unit result durUs s
  | .calStatus ch => Sys2Proof.Machine.execCalStatus ch s
  | .updBegin ch => Sys2Proof.Machine.execUpdBegin ch s
  | .updBlock ch buf flashOk => Sys2Proof.Machine.execUpdBlock ch buf flashOk s
  | .updCommit ch => Sys2Proof.Machine.execUpdCommit ch s
  | .updCommitTakeover img env => Sys2Proof.Machine.execUpdCommitTakeover img env s
  | .updRevert ch => Sys2Proof.Machine.execUpdRevert ch s
  | .updRevertComplete img env => Sys2Proof.Machine.execUpdRevertComplete img env s
  | .updStatus ch => Sys2Proof.Machine.execUpdStatus ch s
  | .confirmWindowExpire => Sys2Proof.Machine.execConfirmWindowExpire s
  | .clusterReload cl pass => Sys2Proof.Machine.execClusterReload cl pass s
  | .monCounter ch => Sys2Proof.Machine.execMonCounter ch s
  | .monSample ch buf => Sys2Proof.Machine.execMonSample ch buf s
  | .clLock ch => Sys2Proof.Machine.execClLock ch s
  | .clLockComplete first => Sys2Proof.Machine.execClLockComplete first s
  | .opAbort ch => Sys2Proof.Machine.execOpAbort ch s
  | .functionLevelReset fn => Sys2Proof.Machine.execFunctionLevelReset fn s
  | .vfEnableClear port => Sys2Proof.Machine.execVfEnableClear port s
  | .controlTakeover => Sys2Proof.Machine.execControlTakeover s
  | .powerOn fwrev ac => Sys2Proof.Machine.execPowerOn fwrev ac s
  | .powerRemoved => Sys2Proof.Machine.execPowerRemoved s
  | .inputVoltageExcursion mv => Sys2Proof.Machine.execInputVoltageExcursion mv s
  | .pmbCtrlLow => Sys2Proof.Machine.execPmbCtrlLow s
  | .pmbusCommand addr cmd data => Sys2Proof.Machine.execPmbusCommand addr cmd data s
  | .telemetryRead t => Sys2Proof.Machine.execTelemetryRead t s
  | .telemetryLost => Sys2Proof.Machine.execTelemetryLost s
  | .perstAssert p => Sys2Proof.Machine.execPerstAssert p s
  | .perstDeassert p => Sys2Proof.Machine.execPerstDeassert p s
  | .moduleReset => Sys2Proof.Machine.execModuleReset s
  | .moduleStop => Sys2Proof.Machine.execModuleStop s
  | .thermalTrip sensor reading => Sys2Proof.Machine.execThermalTrip sensor reading s
  | .domainFault d => Sys2Proof.Machine.execDomainFault d s
  | .ppsInEdge => Sys2Proof.Machine.execPpsInEdge s
  | .ppsInLost => Sys2Proof.Machine.execPpsInLost s
  | .todInLine bytes msAfterEdge => Sys2Proof.Machine.execTodInLine bytes msAfterEdge s
  | .clk10mInPresent => Sys2Proof.Machine.execClk10mInPresent s
  | .clk10mInLost => Sys2Proof.Machine.execClk10mInLost s
  | .ppsOutEdge => Sys2Proof.Machine.execPpsOutEdge s
  | .todOutLine => Sys2Proof.Machine.execTodOutLine s
  | .ptpMessageTx tb port kind => Sys2Proof.Machine.execPtpMessageTx tb port kind s
  | .ptpMasterLost tb => Sys2Proof.Machine.execPtpMasterLost tb s
  | .ptpTcFrame inPort outPort m ingress egress => Sys2Proof.Machine.execPtpTcFrame inPort outPort m ingress egress s
  | .tickBoundary => Sys2Proof.Machine.execTickBoundary s
  | .delayEntryDue list => Sys2Proof.Machine.execDelayEntryDue list s
  | .trailheadDispatch core => Sys2Proof.Machine.execTrailheadDispatch core s
  | .itemComplete core => Sys2Proof.Machine.execItemComplete core s
  | .duePointReached point => Sys2Proof.Machine.execDuePointReached point s
  | .placementPass loads => Sys2Proof.Machine.execPlacementPass loads s
  | .extraPlacementPass cl => Sys2Proof.Machine.execExtraPlacementPass cl s
  | .drainMarkerPass flow => Sys2Proof.Machine.execDrainMarkerPass flow s
  | .frameRx port f => Sys2Proof.Machine.execFrameRx port f s
  | .srtpDecrypt run => Sys2Proof.Machine.execSrtpDecrypt run s
  | .cipherKat engine pass => Sys2Proof.Machine.execCipherKat engine pass s
  | .forwardPacket err => Sys2Proof.Machine.execForwardPacket err s
  | .srtpEncrypt run => Sys2Proof.Machine.execSrtpEncrypt run s
  | .legShaperRefill leg => Sys2Proof.Machine.execLegShaperRefill leg s
  | .groupRefill g => Sys2Proof.Machine.execGroupRefill g s
  | .qtoFire leg => Sys2Proof.Machine.execQtoFire leg s
  | .egressSelect port err => Sys2Proof.Machine.execEgressSelect port err s
  | .macTransmit port => Sys2Proof.Machine.execMacTransmit port s
  | .gateOversize port q => Sys2Proof.Machine.execGateOversize port q s
  | .gateIntervalEnd port => Sys2Proof.Machine.execGateIntervalEnd port s
  | .gateListStart port => Sys2Proof.Machine.execGateListStart port s
  | .gateRestart port => Sys2Proof.Machine.execGateRestart port s
  | .linkUp port => Sys2Proof.Machine.execLinkUp port s
  | .linkDown port => Sys2Proof.Machine.execLinkDown port s
  | .consentTimeout leg => Sys2Proof.Machine.execConsentTimeout leg s
  | .rateEstimate leg => Sys2Proof.Machine.execRateEstimate leg s
  | .layerRateMeasure leg track => Sys2Proof.Machine.execLayerRateMeasure leg track s
  | .probeWindowEnd leg => Sys2Proof.Machine.execProbeWindowEnd leg s
  | .upHoldExpire leg slot => Sys2Proof.Machine.execUpHoldExpire leg slot s
  | .spatialSwitchTimeout leg slot => Sys2Proof.Machine.execSpatialSwitchTimeout leg slot s
  | .fwdSwitchSlow leg slot => Sys2Proof.Machine.execFwdSwitchSlow leg slot s
  | .rtcpSend leg => Sys2Proof.Machine.execRtcpSend leg s
  | .transportFeedbackSend leg => Sys2Proof.Machine.execTransportFeedbackSend leg s
  | .nackSend leg track enc => Sys2Proof.Machine.execNackSend leg track enc s
  | .lossDeclared leg track enc seq => Sys2Proof.Machine.execLossDeclared leg track enc seq s
  | .keyRequestSend leg track enc => Sys2Proof.Machine.execKeyRequestSend leg track enc s
  | .rxFallbackEnd leg => Sys2Proof.Machine.execRxFallbackEnd leg s
  | .audioDecode leg blk => Sys2Proof.Machine.execAudioDecode leg blk s
  | .jbReanchor leg => Sys2Proof.Machine.execJbReanchor leg s
  | .loudnessReset leg => Sys2Proof.Machine.execLoudnessReset leg s
  | .mixRun conf => Sys2Proof.Machine.execMixRun conf s
  | .audioEncode leg payloadLen => Sys2Proof.Machine.execAudioEncode leg payloadLen s
  | .cascContribSend conf => Sys2Proof.Machine.execCascContribSend conf s
  | .dtmfDigitEnd leg tele => Sys2Proof.Machine.execDtmfDigitEnd leg tele s
  | .howlAnalysis leg peak => Sys2Proof.Machine.execHowlAnalysis leg peak s
  | .stageRun point obj pos talker r => Sys2Proof.Machine.execStageRun point obj pos talker r s
  | .stageTimerExpire point obj pos talker => Sys2Proof.Machine.execStageTimerExpire point obj pos talker s
  | .coreBundle core b => Sys2Proof.Machine.execCoreBundle core b s
  | .coreInterrupt core kind handler => Sys2Proof.Machine.execCoreInterrupt core kind handler s
  | .dmodeSwitch cl split => Sys2Proof.Machine.execDmodeSwitch cl split s
  | .decodeFrameSubmit job isRef => Sys2Proof.Machine.execDecodeFrameSubmit job isRef s
  | .decodeFrameComplete job pic => Sys2Proof.Machine.execDecodeFrameComplete job pic s
  | .encodeFrameStart job enc header => Sys2Proof.Machine.execEncodeFrameStart job enc header s
  | .encodeFrameComplete job enc rows recRd => Sys2Proof.Machine.execEncodeFrameComplete job enc rows recRd s
  | .canvasFrameStart c => Sys2Proof.Machine.execCanvasFrameStart c s
  | .composerBand cmp => Sys2Proof.Machine.execComposerBand cmp s
  | .layerSwitchTimeout c layer => Sys2Proof.Machine.execLayerSwitchTimeout c layer s
  | .cellRx g cell => Sys2Proof.Machine.execCellRx g cell s
  | .cellTx g => Sys2Proof.Machine.execCellTx g s
  | .retryRepeat g => Sys2Proof.Machine.execRetryRepeat g s
  | .hello g fedId module credits => Sys2Proof.Machine.execHello g fedId module credits s
  | .helloAck g fedId module => Sys2Proof.Machine.execHelloAck g fedId module s
  | .helloSend g => Sys2Proof.Machine.execHelloSend g s
  | .retry g seq => Sys2Proof.Machine.execRetry g seq s
  | .shedReq g mask force => Sys2Proof.Machine.execShedReq g mask force s
  | .shedAck g mask atSeq => Sys2Proof.Machine.execShedAck g mask atSeq s
  | .wakeReq g mask => Sys2Proof.Machine.execWakeReq g mask s
  | .wakeAck g mask => Sys2Proof.Machine.execWakeAck g mask s
  | .widthCommit g mask atSeq => Sys2Proof.Machine.execWidthCommit g mask atSeq s
  | .shedWindowClose g => Sys2Proof.Machine.execShedWindowClose g s
  | .laneFail g lane => Sys2Proof.Machine.execLaneFail g lane s
  | .laneReturn g lane => Sys2Proof.Machine.execLaneReturn g lane s
  | .heartbeat g hb => Sys2Proof.Machine.execHeartbeat g hb s
  | .heartbeatSend g => Sys2Proof.Machine.execHeartbeatSend g s
  | .peerLost g signal => Sys2Proof.Machine.execPeerLost g signal s
  | .cascGroupRetry g => Sys2Proof.Machine.execCascGroupRetry g s
  | .cascMediaRx g f c ipLen p => Sys2Proof.Machine.execCascMediaRx g f c ipLen p s
  | .shadowMessageSend => Sys2Proof.Machine.execShadowMessageSend s
  | .shadow g m => Sys2Proof.Machine.execShadow g m s
  | .shadowLag => Sys2Proof.Machine.execShadowLag s
  | .reserve g r => Sys2Proof.Machine.execReserve g r s
  | .reserveAck g tag status => Sys2Proof.Machine.execReserveAck g tag status s
  | .reserveTimeout ch => Sys2Proof.Machine.execReserveTimeout ch s
  | .release g r => Sys2Proof.Machine.execRelease g r s
  | .fullRequest g seq => Sys2Proof.Machine.execFullRequest g seq s
  | .claimRepeat leg => Sys2Proof.Machine.execClaimRepeat leg s
  | .shadowApply cl => Sys2Proof.Machine.execShadowApply cl s
  | .clusterFail cl cause => Sys2Proof.Machine.execClusterFail cl cause s
  | .degradeUndo cl => Sys2Proof.Machine.execDegradeUndo cl s
  | .unprotectedReplace cl => Sys2Proof.Machine.execUnprotectedReplace cl s
  | .hubHalfFail h cause => Sys2Proof.Machine.execHubHalfFail h cause s
  | .trailheadFail cause => Sys2Proof.Machine.execTrailheadFail cause s
  | .composerFail c cause => Sys2Proof.Machine.execComposerFail c cause s
  | .canvasMove c => Sys2Proof.Machine.execCanvasMove c s
  | .hbmRequest r => Sys2Proof.Machine.execHbmRequest r s
  | .scrub pc addr badSyms => Sys2Proof.Machine.execScrub pc addr badSyms s
  | .marginAlarm pc margin lane => Sys2Proof.Machine.execMarginAlarm pc margin lane s
  | .loadedVerificationDue stack => Sys2Proof.Machine.execLoadedVerificationDue stack s
  | .retrainStall pc e => Sys2Proof.Machine.execRetrainStall pc e s
  | .sample mid rd => Sys2Proof.Machine.execSample mid rd s
  | .powerCapStep mean10ms => Sys2Proof.Machine.execPowerCapStep mean10ms s
  | .powerCapUndo mean1s => Sys2Proof.Machine.execPowerCapUndo mean1s s
  | .voltageLoopReport cl margin => Sys2Proof.Machine.execVoltageLoopReport cl margin s
  | .droop cl mv => Sys2Proof.Machine.execDroop cl mv s
  | .droopEnd cl => Sys2Proof.Machine.execDroopEnd cl s
  | .thermalLoop sensor reading => Sys2Proof.Machine.execThermalLoop sensor reading s
  | .laneEqualisationDone g => Sys2Proof.Machine.execLaneEqualisationDone g s
  | .wakeLanesLocked g => Sys2Proof.Machine.execWakeLanesLocked g s
  | .refreshWindowEnd => Sys2Proof.Machine.execRefreshWindowEnd s
  | .bmcResponseHoldEnd ch => Sys2Proof.Machine.execBmcResponseHoldEnd ch s
  | .standbyBootComplete => Sys2Proof.Machine.execStandbyBootComplete s
  | .smbAlertResponse => Sys2Proof.Machine.execSmbAlertResponse s

end Sys2Proof.Machine
end

