-- ==== Sys2Proof/Safety.lean ====
section
/-! DEFINITION. The terms that the statements are written in: a Shafipo command at the head of its channel's queue, the
state it leaves when it has been answered, and what every run keeps. -/

namespace Sys2Proof.Machine

/-- A Shafipo command that control can execute (R47, R48): `c` names its channel, issuer, opcode, tag and arguments, it
is at the head of its request channel's queue with `rest` behind it, it was not refused when it was taken, no command
of the channel waits for an answer, and its issuer is no VF without a tenant (R51). -/
structure AtHead (s : State) (c : Ctx) (op : Nat) (rest : List Cmd) : Prop where
  chan : reqOk c.ch = true
  opcode : c.opcode = op
  issuer : c.issuer = issuerOf c.ch
  head : s.queue c.ch = ⟨op, c.tag, c.args, none⟩ :: rest
  idle : tget s.ctl.waits c.ch = none
  tenant : s.noTenant c.issuer op = false

/-- The state once the command at the head of the channel's queue has been taken off it. -/
def State.popped (s : State) (c : Ctx) (rest : List Cmd) : State := s.setQueue c.ch rest

/-- The state once command `c` has been answered on `u` (R37, R48): its response follows those that wait for the
response channel, which takes the first when it is free, and the commands behind it that were refused when they were
taken are answered. -/
def State.answered (u : State) (c : Ctx) (status detail : Nat) (words : List Nat) : State :=
  (u.respond c.ch c.opcode c.tag status detail words).drain c.ch

/-- Control holds nothing back on response channel `r`: it is free, no response waits for it, and it is not a channel of
the management controller that was taken less than 10 ms ago (R48, R486). -/
def State.rspFree (s : State) (r : Nat) : Prop :=
  (s.chan r).full = false ∧ tgetD s.ctl.rsps r [] = [] ∧ s.ctl.bmcHold.contains r = false

/-- The outcome is the next state that answering `c` on `u` gives. -/
def Answers (o : Host.Outcome State Fault Refusal) (u : State) (c : Ctx) (status detail : Nat) (words : List Nat) : Prop :=
  o = .next (u.answered c status detail words)

/-- The outcome is a next state that satisfies `P`. -/
def NextWith (o : Host.Outcome State Fault Refusal) (P : State → Prop) : Prop := ∃ t, o = .next t ∧ P t

/-- The commands that take power away or restart the module: memory and time begin anew (R482, R483). -/
def restartsModule : Instr → Bool
  | .powerOn _ _ => true
  | .powerRemoved => true
  | .pmbCtrlLow => true
  | .pmbusCommand _ _ _ => true
  | .moduleReset => true
  | .perstAssert _ => true
  | _ => false

/-- The commands that write the HBM's contents (R396, R406). -/
def writesMemory : Instr → Bool
  | .hbmRequest _ => true
  | .migrationSwitch _ => true
  | _ => false

/-- A tile of samples of `d` bits (R272). -/
structure TileOk (d : Nat) (t : Tile) : Prop where
  y : t.y.length = 256
  cb : t.cb.length = 64
  cr : t.cr.length = 64
  small : ∀ x ∈ t.y ++ t.cb ++ t.cr, x < 2 ^ d

end Sys2Proof.Machine
end

