-- ==== Sys2Proof/Certificates/Slice0/Obligations.lean ====
section
/-! DEFINITION. The statements for the provers. A Shafipo row is stated by `AtHead` (its command is at the head of its channel's
queue) and `Answers` (the next state is the given one with the command answered by status, DETAIL and words): every clause is an
equation for the whole next state, so what it does not name is unchanged. -/

open Sys2Proof Sys2Proof.Machine

/-- A step takes the command at the front of the queue and executes it on the state whose queue is the rest; on an empty queue one
nanosecond of Thermos time passes and nothing else changes (the model's choice, log entry 7). -/
def Obligations.StepRunsTheFrontCommand : Prop :=
  (∀ (s : State) (c : Instr) (rest : List Instr), step { s with pending := c :: rest } = exec c { s with pending := rest }) ∧
  (∀ s : State, s.pending = [] → step s = .next (idle s))

/-- Every command that names units that the module has runs to a next state, whatever the state it finds; and a command that names a unit
the module does not have stops with the one fault. No command is refused. -/
def Obligations.OnlyAbsentUnitsStop : Prop :=
  ∀ (i : Instr) (s : State), (i.wf = true → ∃ t, exec i s = .next t) ∧ (i.wf = false → exec i s = .fault .noSuchUnit)

/-- Module reset (R5, R32, R68): no command waits, every mailbox channel is empty and unbound and BIND_LOCK is clear, every time base reads 0 in FREERUN
at the nominal rate, no conference, leg, job or canvas exists and no port has a link; the queue and the memory satisfy what every step keeps. -/
def Obligations.ResetState : Prop :=
  State.reset.pending = [] ∧ State.reset.binds = [] ∧ State.reset.bindLock = false ∧
  (∀ c, (State.reset.chan c).full = false ∧ (State.reset.chan c).rie = false ∧ (State.reset.chan c).sie = false ∧ (State.reset.chan c).held = false ∧
    (State.reset.chan c).denied = false) ∧
  (∀ k, (State.reset.base k).val = 0 ∧ (State.reset.base k).st = 0 ∧ (State.reset.base k).rate = 0) ∧
  State.reset.confs = [] ∧ State.reset.legs = [] ∧ State.reset.decJobs = [] ∧ State.reset.encJobs = [] ∧ State.reset.canvases = [] ∧
  (∀ p, (State.reset.port p).link = false) ∧ Memory.wf State.reset.mem = true

/-- The region map at module reset (R388): region by region the order, DUP and the size of R388's table; it uses 136 GiB of the 144 and
leaves 8 free, and no two regions share a local address. -/
def Obligations.ResetMemoryMap : Prop :=
  (State.reset.hbm.regions.map fun g => (g.order, g.dup, g.size)) =
    [(3, true, 4), (0, false, 48), (2, false, 56), (2, false, 8), (0, false, 4), (0, false, 8), (1, false, 4), (0, false, 0)] ∧
  (State.reset.hbm.regions.map fun g => g.size * (1 + b2n g.dup)).sum = 136 ∧ localBytes * 128 = (136 + 8) * 2 ^ 30 ∧
  State.reset.hbm.regions.Pairwise fun g h => g.base + share g.size * (1 + b2n g.dup) ≤ h.base ∨ h.base + share h.size * (1 + b2n h.dup) ≤ g.base

/-- Every step keeps the canonical form of memory (addresses strictly rising, no entry equal to what an unlisted address reads as), and takes at most
the command at the front off the queue, in order. -/
def Obligations.EveryStepKeepsMemoryCanonical : Prop :=
  ∀ s t : State, Memory.wf s.mem = true → step s = .next t → Memory.wf t.mem = true ∧ t.pending = s.pending.tail

/-- Unless a command takes power away or restarts the module: time never runs backwards; a locked binding table stays locked and as it
is (R32); and no command but a memory request and a migration's switch changes any byte of memory (R396, R406). -/
def Obligations.WhatNoCommandTouches : Prop :=
  ∀ (i : Instr) (s t : State), restartsModule i = false → exec i s = .next t →
    s.time.ref ≤ t.time.ref ∧ (s.bindLock = true → t.bindLock = true ∧ t.binds = s.binds) ∧ t.pending = s.pending ∧
    (writesMemory i = false → t.mem = s.mem ∧ ∀ a, memRead t.mem a = memRead s.mem a)

/-- Answering a command (R37, R48) changes only the mailbox channels, the functions' interrupts, and control's queues of commands and responses: every
other piece of state is as the command left it. -/
def Obligations.AnswersChangeOnlyTheMailbox : Prop :=
  ∀ (u : State) (c : Ctx) (st det : Nat) (ws : List Nat), ∃ chans fns queues rsps,
    u.answered c st det ws = { u with chans := chans, fns := fns, ctl := { u.ctl with queues := queues, rsps := rsps } }

/-- While a channel is FULL, its sender's write of a message word only sets DENIED; a write of CTL that sets GO loses the
GO alone, its SIE is written, and DENIED reads 1 afterwards whatever the write says of DENIED (R28).

The mailbox commands run as R26, R27, R31 and R32 say: a sender's word is written while FULL is clear, and takes a
shared channel that nobody holds; GO sets FULL and rings the doorbell of a receiver that enabled it; the receiver's TAKE
answers word 0 and clears FULL and HELD; a hold of 100 µs without GO ends and its words are lost; MID 0xC0 locks the
table. -/
def Obligations.MailboxCommands : Prop :=
  (∀ (s : State) (mid ch i : Nat) (w : Word) (buddy : Bool),
    midOk mid = true → ch < 288 → i < 16 → (s.bind ch).role mid = .sender buddy → (s.chan ch).full = true →
    exec (.mboxMsgWrite mid ch i w) s = .next (s.modChan ch fun c => { c with denied := true }) ∧
    (((s.bind ch).shared = true → (s.chan ch).held = true → (s.chan ch).holder = buddy) → w.bit 0 = true →
      exec (.go mid ch w) s = .next (s.modChan ch fun c => { c with sie := w.bit 3, denied := true }))) ∧
  ((∀ (s : State) (mid ch i : Nat) (w : Word) (buddy : Bool),
    midOk mid = true → ch < 288 → i < 16 → (s.bind ch).role mid = .sender buddy → (s.chan ch).full = false →
    ((s.bind ch).shared = false →
      exec (.mboxMsgWrite mid ch i w) s = .next (s.modChan ch fun c => { c with msg := c.msg.set i w })) ∧
    ((s.bind ch).shared = true → ((s.chan ch).held = true → (s.chan ch).holder = buddy) →
      exec (.mboxMsgWrite mid ch i w) s =
        .next (s.modChan ch fun c => { c with msg := c.msg.set i w, held := true, holder := buddy })) ∧
    ((s.bind ch).shared = true → (s.chan ch).held = true → (s.chan ch).holder = !buddy →
      exec (.mboxMsgWrite mid ch i w) s = .next (s.modChan ch fun c => { c with denied := true }))) ∧
  (∀ (s : State) (mid ch : Nat) (w : Word) (buddy : Bool),
    midOk mid = true → ch < 288 → (s.bind ch).role mid = .sender buddy → (s.chan ch).full = false →
    ((s.bind ch).shared = true → (s.chan ch).held = true → (s.chan ch).holder = buddy) →
    w.bit 0 = true → w.bit 2 = (s.chan ch).rie →
    exec (.go mid ch w) s =
      let t := s.modChan ch fun c =>
        { c with full := true, sie := w.bit 3, denied := c.denied && !w.bit 6 }
      .next (if (s.chan ch).rie ∧ (s.bind ch).receiver < 128 then t.modFn (s.bind ch).receiver (fireVec 0) else t)) ∧
  (∀ (s : State) (mid ch : Nat), midOk mid = true → ch < 288 → (s.bind ch).role mid = .receiver →
    (s.chan ch).full = true → (s.bind ch).sender ≠ 0xC0 →
    exec (.take mid ch) s =
      let t := { s.modChan ch fun c => { c with full := false, held := false } with
        rdata := ((s.chan ch).msg.getD 0 0#32).toNat }
      .next (t.emptied ch)) ∧
  (∀ (s : State) (mid ch : Nat), midOk mid = true → ch < 288 → (s.bind ch).role mid = .receiver →
    (s.chan ch).full = false → exec (.take mid ch) s = .next { s with rdata := 0 }) ∧
  (∀ (s : State) (ch : Nat), 264 ≤ ch → ch < 288 → (s.chan ch).held = true → (s.chan ch).full = false →
    exec (.heldTimeout ch) s =
      .next (s.modChan ch fun c => { c with held := false, msg := List.replicate 16 0#32 })) ∧
  (∀ (s : State) (w : Word), w.bit 0 = true → exec (.bindLock 0xC0 w) s = .next { s with bindLock := true }))

/-- Control visits the request channels round-robin and takes a message with TAKE. One that is a whole command of the
index, framed as R36 says, with the LEN that every form of its opcode needs, a tag that is not in use and an issuer that
may issue it, goes to the end of its channel's queue with its argument words (R39, R46, R47). -/
def Obligations.ControlTakesACommand : Prop :=
  ∀ (s : State) (ch : Nat) (w0 : Word) (o : OpInfo),
    s.nextChannel = some ch → (s.chan ch).msg.getD 0 0#32 = w0 → w0 ≠ 0#32 →
    w0.bit 28 = false → w0.bit 29 = false → w0.fld 30 2 = 0 →
    tget s.ctl.discards ch = none → tget s.ctl.segs ch = none → s.tagInUse (issuerOf ch) (w0.fld 16 8) = false →
    opTable.find? (·.op == w0.fld 0 16) = some o → (∀ n, o.len = some n → n = w0.fld 24 4) →
    (s.chan ch).msg.length = 16 → s.issuerRefusal (issuerOf ch) o = none →
    exec .controlTakeMessage s =
      let t := (s.modChan ch Chan.taken).emptied ch
      let u := { t with ctl := { t.ctl with rr := ch } }
      .next ((u.setQueue ch (s.queue ch ++
        [⟨w0.fld 0 16, w0.fld 16 8, ((s.chan ch).msg.drop 1).take (w0.fld 24 4), none⟩])).drain ch)

/-- The event-ring commands (R34, R58, R59, R62): a write of EVR_CTL that sets EN starts an empty ring of the size written,
one to an enabled ring keeps the size; a write of EVR_HEAD consumes the entries before it, and posting resumes once HEAD
moves; held completions are posted in order while the ring has room; at the end of the holdoff vector 2 fires if an entry
deferred it and the ring still holds one.

The time registers of a function (R70, R91, R101): a capture takes every base that CAP names at one value of the
reference counter and leaves the others; a read of TICK_NOW answers the tick number and latches TICK_PHASE; a PTM dialogue
records the root port's time and the selected base for one instant. -/
def Obligations.EventRingsAndTimeRegisters : Prop :=
  ((∀ (s : State) (fn : Nat) (w : Word), fn < 128 → (s.fn fn).ev.en = false → w.bit 8 = true →
    exec (.evrCtlEnable fn w) s = .next (s.modFn fn fun r => { r with ev := { r.ev with
      sizeLog2 := max 6 (min 16 (w.fld 0 5)), en := true, all := if isPF fn then w.bit 9 else r.ev.all, ie := w.bit 10,
      head := 0, tail := 0, phase := true, entries := [], stopped := false } })) ∧
  (∀ (s : State) (fn : Nat) (w : Word), fn < 128 → (s.fn fn).ev.en = true →
    exec (.evrCtlEnable fn w) s = .next (s.modFn fn fun r => { r with ev := { r.ev with
      en := w.bit 8, all := if isPF fn then w.bit 9 else r.ev.all, ie := w.bit 10 } })) ∧
  (∀ (s : State) (fn : Nat) (w : Word), fn < 128 →
    exec (.evrHeadWrite fn w) s = .next (s.modFn fn fun r => { r with ev := { r.ev with
      head := w.fld 0 16
      entries := r.ev.entries.drop ((w.fld 0 16 % r.ev.size + r.ev.size - r.ev.head % r.ev.size) % r.ev.size)
      stopped := r.ev.stopped && w.fld 0 16 == r.ev.head } })) ∧
  (∀ (s : State) (fn : Nat) (e : Event) (es : List Event), fn < 128 → (s.fn fn).held = e :: es → (s.fn fn).ev.en = true →
    (s.fn fn).ev.stopped = false → 1 < (s.fn fn).ev.free →
    exec (.heldEventPost fn) s =
      exec (.heldEventPost fn) ((s.modFn fn fun r => { r with held := es }.putEvent e).markPosted fn e.handle)) ∧
  (∀ (s : State) (fn : Nat), fn < 128 →
    ((s.fn fn).held = [] ∨ (s.fn fn).ev.en = false ∨ (s.fn fn).ev.stopped = true ∨ (s.fn fn).ev.free ≤ 1) →
    exec (.heldEventPost fn) s = .next s) ∧
  (∀ (s : State) (fn : Nat), fn < 128 → (s.fn fn).ev.hold = true → (s.fn fn).ev.deferred = true → (s.fn fn).ev.ie = true →
    (s.fn fn).ev.tail ≠ (s.fn fn).ev.head % (s.fn fn).ev.size →
    exec (.holdoffExpire fn) s = .next (s.modFn fn fun r => fireVec 2 { r with ev := { r.ev with
      hold := decide (r.ev.holdoff ≠ 0), deferred := false } })) ∧
  (∀ (s : State) (fn : Nat), fn < 128 → (s.fn fn).ev.hold = true →
    ((s.fn fn).ev.deferred = false ∨ (s.fn fn).ev.tail = (s.fn fn).ev.head % (s.fn fn).ev.size) →
    exec (.holdoffExpire fn) s = .next (s.modFn fn fun r => { r with ev := { r.ev with hold := false, deferred := false } }))) ∧
  ((∀ (s : State) (fn : Nat) (w : Word), fn < 128 →
    exec (.tbSnapCapture fn w) s = .next (s.modFn fn fun r => { r with
      tbValid := r.tbValid ||| w.fld 0 4
      tbCap := r.tbCap.zipIdx.map fun (v, n) => if hasBit (w.fld 0 4) n then (s.base n).val else v })) ∧
  (∀ (s : State) (fn : Nat), fn < 128 →
    exec (.tickNowRead fn) s = .next { s.modFn fn fun r => { r with
      phUs := (s.base s.time.drv).val % msU / usU, phSrc := s.time.drv, phLocked := (s.base s.time.drv).st == 3 } with
      rdata := s.time.m % 2 ^ 32 }) ∧
  (∀ (s : State) (port t : Nat), port < 2 → (s.time.ptm.getD port {}).en = true →
    exec (.ptmDialogue port (some t)) s =
      let p := s.time.ptm.getD port {}
      let p' := { p with valid := true, host := t % 2 ^ 64, base := (s.base p.tb).val, seq := (p.seq + 1) % 2 ^ 16 }
      .next { s with time := { s.time with ptm := s.time.ptm.set port p' } }))

/-- LQ_FLUSH (R142 to R144): a write with FLUSH set, for a leg in use that the function may touch, while no flush of the
function runs, sets FLUSH and empties the leg's queue; it returns to 0 when the flush is complete.

The packet-ring registers (R59, R359, R361, R362): enabling a ring starts it empty at the size and slot written; a write
of the read pointer of a receive ring consumes the slots before it and re-arms EV_PKT_RING; a write of the tail of the
transmit ring hands its slots to the module. Ring 2 is a physical function's alone. -/
def Obligations.QueueAndPacketRingRegisters : Prop :=
  ((∀ (s : State) (fn : Nat) (w : Word) (l : Leg), fn < 128 → (s.fn fn).lqFlush = false → w.bit 16 = true →
    s.leg (w.fld 0 16) = some l → s.mayTouch fn (s.legTenant l) = true →
    ∃ t, exec (.lqFlush fn w) s = .next t ∧
      t = (s.modFn fn fun r => { r with
        lqLeg := w.fld 0 16, lqFlush := true, lqDenied := r.lqDenied && !w.bit 17 }).flush (w.fld 0 16) ∧
      t.leg (w.fld 0 16) = some { l with queue := [] }) ∧
  (∀ (s : State) (fn : Nat), fn < 128 →
    exec (.lqFlushComplete fn) s = .next (s.modFn fn fun r => { r with lqFlush := false }))) ∧
  ((∀ (s : State) (fn ring : Nat) (w : Word), fn < 128 → ring < 3 → (ring = 2 → isPF fn = true) →
    exec (.prCtlEnable fn ring w) s = .next (s.modFn fn fun r => r.modRing ring fun p =>
      if p.en then { p with en := w.bit 8, ie := w.bit 9 }
      else if w.bit 8 then { p with
        sizeLog2 := max 4 (min 12 (w.fld 0 4)), slot := w.fld 4 2, en := true, ie := w.bit 9
        head := 0, tail := 0, phase := true, slots := [], armed := true }
      else { p with sizeLog2 := max 4 (min 12 (w.fld 0 4)), slot := w.fld 4 2, ie := w.bit 9 })) ∧
  (∀ (s : State) (fn ring : Nat) (w : Word), fn < 128 → ring < 3 → ring ≠ 1 → (ring = 2 → isPF fn = true) →
    exec (.prHeadWrite fn ring w) s = .next (s.modFn fn fun r => r.modRing ring fun p => { p with
      head := w.fld 0 12
      slots := p.slots.drop ((w.fld 0 12 % 2 ^ p.sizeLog2 + 2 ^ p.sizeLog2 - p.head % 2 ^ p.sizeLog2) % 2 ^ p.sizeLog2)
      armed := true })) ∧
  (∀ (s : State) (fn : Nat) (w : Word), fn < 128 →
    exec (.sptxTailWrite fn w) s = .next (s.modFn fn fun r => r.modRing 1 fun p => { p with tail := w.fld 0 12 })))

/-- A read of a register that a read clears answers what it held and leaves 0 (R5): EVR_LOST and PR_LOST of the reading
function, and to a physical function the corrected and uncorrected counts of a pseudo-channel; offsets that the map does
not name read 0 and change nothing. CNT_LO answers the low half of a counter that the function may read and latches its high
half (R508).

A write of a register changes its fields that the writer may write (R5, R7, R32, R58, R490): EVR_MOD of the writing
function; an entry of the binding table from MID 0xC0 while the table is not locked, and nothing once it is; the mask of
an MSI-X vector, whose clearing sends the message that is pending; and nothing at an offset that the map does not name. -/
def Obligations.RegisterReadsAndWrites : Prop :=
  ((∀ (s : State) (fn : Nat), fn < 128 →
    exec (.rcRegisterRead fn 0x00A014) s = .next { s.modFn fn fun r => { r with ev := { r.ev with lost := 0 } } with
      rdata := (s.fn fn).ev.lost }) ∧
  (∀ (s : State) (fn ring : Nat), fn < 128 → ring < 3 → (ring = 2 → isPF fn = true) →
    exec (.rcRegisterRead fn (0x00D014 + 0x20 * ring)) s =
      .next { s.modFn fn fun x => x.modRing ring fun p => { p with lost := 0 } with
        rdata := ((s.fn fn).rings.getD ring {}).lost }) ∧
  (∀ (s : State) (fn n : Nat), isPF fn = true → n < 128 →
    exec (.rcRegisterRead fn (0x00E200 + 4 * n)) s =
      .next { s.modPchan n fun p => { p with ce := 0 } with rdata := (s.pchan n).ce } ∧
    exec (.rcRegisterRead fn (0x00E400 + 4 * n)) s =
      .next { s.modPchan n fun p => { p with ue := 0 } with rdata := (s.pchan n).ue }) ∧
  (∀ (s : State) (fn off : Nat), fn < 128 → 0x011800 ≤ off → exec (.rcRegisterRead fn off) s = .next { s with rdata := 0 }) ∧
  (∀ (s : State) (fn i : Nat) (c : Counter), fn < 128 → i < 256 → tget s.mon.counters i = some c →
    (isPF fn = true ∨ c.owner = fn) →
    exec (.cntLoRead fn i) s = .next { s.modFn fn fun r => { r with cntHi := tset r.cntHi i (c.value / 2 ^ 32) } with
      rdata := c.value % 2 ^ 32 })) ∧
  ((∀ (s : State) (fn : Nat) (w : Word), fn < 128 →
    exec (.registerWrite (.bar0 fn 0x00A018) w) s =
      .next (s.modFn fn fun r => { r with ev := { r.ev with holdoff := w.fld 0 16 } })) ∧
  (∀ (s : State) (c : Nat) (w : Word), c < 288 → s.bindLock = false →
    exec (.registerWrite (.limlum 0xC0 (0x003000 + 4 * c)) w) s =
      let b : Bind := ⟨w.fld 0 8, w.fld 8 8, w.bit 16 && decide (264 ≤ c), w.bit 31⟩
      .next { s with binds := tset s.binds c b }) ∧
  (∀ (s : State) (mid c : Nat) (w : Word), midOk mid = true → c < 288 → (s.bindLock = true ∨ mid ≠ 0xC0) →
    exec (.registerWrite (.limlum mid (0x003000 + 4 * c)) w) s = .next s) ∧
  (∀ (s : State) (fn v : Nat) (w : Word), fn < 128 → v < 4 →
    exec (.registerWrite (.bar2 fn (16 * v + 12)) w) s =
      let g (x : Vec) : Vec :=
        if w.bit 0 then { x with mask := true }
        else { x with mask := false, pend := false, fired := x.fired + b2n x.pend }
      .next (s.modFn fn fun r => { r with vecs := lmod r.vecs v {} g })) ∧
  (∀ (s : State) (fn off : Nat) (w : Word), fn < 128 → 0x011800 ≤ off →
    exec (.registerWrite (.bar0 fn off) w) s = .next s))

/-- The management SMBus (R35, R484 to R486): a Write block of seven good bytes inside the controller's mailbox window is a
write by MID 0xC8 of the message word or of CTL there, and one outside it writes nothing and counts SMB_DENIED; a Pointer
block sets the pointer; a Read block answers the four bytes at the pointer and moves it on by 4, a read of TAKE being the
controller's TAKE; the Alert Response Address is answered while ALERT_N is asserted; 10 ms after a response was taken the
next one that waits is sent. -/
def Obligations.ManagementBusCommands : Prop :=
  (∀ (s : State) (bytes : List Byte), s.power.cond = .serving → bytes.length = 7 →
    let off := smbOffset bytes
    let w := word (leNat (bytes.drop 3))
    let u := { s with pins := { s.pins with smbAns := some [] } }
    (∀ ch i, 256 ≤ ch → ch < 264 → i < 16 → off = 0x1000 + 0x80 * ch + 4 * i →
      exec (.smbWrite bytes true) s = exec (.mboxMsgWrite 0xC8 ch i w) u) ∧
    (∀ ch, 256 ≤ ch → ch < 264 → off = 0x1040 + 0x80 * ch → exec (.smbWrite bytes true) s = exec (.go 0xC8 ch w) u) ∧
    (off < 0x9000 ∨ 0x9400 ≤ off → exec (.smbWrite bytes true) s = .next (u.occur srcSmbDenied {}))) ∧
  (∀ (s : State) (bytes : List Byte) (pecOk : Bool), (pecOk = false ∨ bytes.length ≠ 7) →
    exec (.smbWrite bytes pecOk) s = .next { s with pins := { s.pins with smbAns := none } }) ∧
  (∀ (s : State) (bytes : List Byte), s.power.cond = .serving ∨ s.power.cond = .stopped → bytes.length = 3 →
    exec (.smbPointer bytes true) s =
      .next { s with pins := { s.pins with smbAns := some [], smbPtr := smbOffset bytes } }) ∧
  (∀ (s : State) (pecOk : Bool), s.power.cond = .serving ∨ s.power.cond = .stopped → s.pins.smbPtr = 0 →
    exec (.smbRead pecOk) s = .next { s with
      rdata := 0x6548214E, pins := { s.pins with smbAns := some (leBytes 0x6548214E 4), smbPtr := 4 } }) ∧
  (∀ (s : State) (pecOk : Bool) (ch : Nat), s.power.cond = .serving → 256 ≤ ch → ch < 264 →
    s.pins.smbPtr = 0x1044 + 0x80 * ch →
    ∃ t, exec (.take 0xC8 ch) s = .next t ∧
      exec (.smbRead pecOk) s = .next { t with pins := { t.pins with
        smbAns := some (leBytes t.rdata 4), smbPtr := 0x1048 + 0x80 * ch } }) ∧
  (∀ (s : State), s.power.cond = .serving ∨ s.power.cond = .stopped → s.alert = true →
    exec .smbAlertResponse s = .next { s with pins := { s.pins with smbAns := some [0x5B#8] } }) ∧
  (∀ (s : State) (ch : Nat) (m : List Word) (ms : List (List Word)), 256 ≤ ch → ch < 264 → ch % 2 = 1 →
    (s.chan ch).full = false → tgetD s.ctl.rsps ch [] = m :: ms →
    exec (.bmcResponseHoldEnd ch) s =
      let u := { s with ctl := { s.ctl with bmcHold := s.ctl.bmcHold.filter (· ≠ ch), rsps := tset s.ctl.rsps ch ms } }
      .next (u.sendMsg ch m))

/-- SYS.CONFIG.SET and SYS.CONFIG.GET (R448): a key written with a value in its range that differs from the one in force
takes it and answers E_OK; the key is read back; an unknown key or index, and a value out of range, are refused.

SYS.HEALTH answers eight words (R430): STATE with the bits of the hub halves, Trailhead copies, standby pair and composers
in service, the clusters out of service and the over-committed ones, the least protected headroom, and the partner's word. It
changes nothing but the channel's queue and responses. -/
def Obligations.SettingsAndHealth : Prop :=
  ((∀ (s : State) (c : Ctx) (rest : List Cmd), AtHead s c 0x0101 rest → c.f 1 0 16 = 1 → c.f 1 16 16 < 128 →
    c.f 1 16 16 ≠ 0 → c.f 1 16 16 ≠ 64 → (c.w 2).fld 12 19 = 0 → s.upd.phase ≠ 3 → s.ownsObjects (c.f 1 16 16) = false →
    ((c.w 2).bit 31 = true → s.tenantOf (c.f 1 16 16) ≠ some ((c.w 2).toNat - 2 ^ 31) →
      Answers (exec (.sysConfigSet c.ch) s) { s.popped c rest with
        upd := { s.upd with tenants := tset s.upd.tenants (c.f 1 16 16) ((c.w 2).fld 0 12) } } c 0 0 []) ∧
    ((c.w 2).bit 31 = false → (s.tenantOf (c.f 1 16 16)).isSome = true →
      Answers (exec (.sysConfigSet c.ch) s) { s.popped c rest with
        upd := { s.upd with tenants := tdel s.upd.tenants (c.f 1 16 16) } } c 0 0 [])) ∧
  (∀ (s : State) (c : Ctx) (rest : List Cmd), AtHead s c 0x0101 rest → c.f 1 0 16 = 2 → c.f 1 16 16 = 0 →
    (c.w 2).toNat < 2 → s.upd.phase ≠ 3 → s.upd.mode ≠ (c.w 2).toNat → s.upd.session = none →
    Answers (exec (.sysConfigSet c.ch) s) { s.popped c rest with upd := { s.upd with mode := (c.w 2).toNat } } c 0 0 []) ∧
  (∀ (s : State) (c : Ctx) (rest : List Cmd), AtHead s c 0x0101 rest → c.f 1 0 16 = 3 → c.f 1 16 16 = 0 →
    1 ≤ (c.w 2).toNat → (c.w 2).toNat ≤ 60 → s.upd.phase ≠ 3 → s.upd.window ≠ (c.w 2).toNat →
    Answers (exec (.sysConfigSet c.ch) s) { s.popped c rest with upd := { s.upd with window := (c.w 2).toNat } } c 0 0 []) ∧
  (∀ (s : State) (c : Ctx) (rest : List Cmd), AtHead s c 0x0102 rest →
    (c.f 1 0 16 = 2 → c.f 1 16 16 = 0 → Answers (exec (.sysConfigGet c.ch) s) (s.popped c rest) c 0 0 [s.upd.mode]) ∧
    (c.f 1 0 16 = 3 → c.f 1 16 16 = 0 → Answers (exec (.sysConfigGet c.ch) s) (s.popped c rest) c 0 0 [s.upd.window]) ∧
    (c.f 1 0 16 = 1 → c.f 1 16 16 < 128 → c.f 1 16 16 ≠ 0 → c.f 1 16 16 ≠ 64 → ∀ t, s.tenantOf (c.f 1 16 16) = some t →
      Answers (exec (.sysConfigGet c.ch) s) (s.popped c rest) c 0 0 [t + 2 ^ 31]) ∧
    (3 < c.f 1 0 16 → Answers (exec (.sysConfigGet c.ch) s) (s.popped c rest) c 2 1 []))) ∧
  (∀ (s : State) (c : Ctx) (rest : List Cmd), AtHead s c 0x0103 rest → c.f 1 0 32 = 0 →
    let out := (List.range 48).filter fun k => !(s.cluster k).inService
    let heavy := (List.range 48).filter fun k => decide (3 ≤ (s.cluster k).overPasses)
    let units := 4 * flagBits s.prot.halves + 16 * flagBits s.trail.copies + 64 * b2n s.standbyUp + 256 * flagBits s.prot.composers
    let tail := [maskOf out % 2 ^ 32, maskOf out / 2 ^ 32, maskOf heavy % 2 ^ 32, maskOf heavy / 2 ^ 32, s.leastHeadroom, s.partnerWord]
    (s.pins.modReady = false → Answers (exec (.sysHealth c.ch) s) (s.popped c rest) c 0 0 (units :: tail)) ∧
    (s.pins.modReady = true → out = [] → s.prot.halves.all id = true → s.prot.composers.all id = true →
      s.trail.copies.all id = true → s.ctl.pairs.all id = true → s.ciphers = [] →
      Answers (exec (.sysHealth c.ch) s) (s.popped c rest) c 0 0 ((1 + units) :: tail)) ∧
    (s.pins.modReady = true → (out ≠ [] ∨ false ∈ s.prot.halves ∨ false ∈ s.prot.composers ∨ false ∈ s.trail.copies ∨
        false ∈ s.ctl.pairs) →
      Answers (exec (.sysHealth c.ch) s) (s.popped c rest) c 0 0 ((2 + units) :: tail)))

/-- SYS.RESET_UNIT of a unit that may be reset is accepted (R54, R431): it answers E_DEFERRED with the operation's handle, and
a composer, a hub half, a Trailhead copy, a control pair or a cipher engine leaves service at once, a cluster once the drain
markers of its flows have passed; the self-test's result ends the operation, with EV_UNIT_RESTORED when it passed. A cluster
that fails, and a marker that passes, power off the clusters whose drain that ends.

Function Level Reset of a host function (R52, R490): its event ring, packet rings, snapshot, LQ_FLUSH and CNT_HI registers
and its two mailbox channels return to their reset values, the commands queued for it and the answers not yet sent are gone,
its sampler stops, and no encode job that it created has a recording ring; bindings, MSI-X table, other functions, legs and
conferences are as they were. Clearing VF Enable resets every VF of the port so, and no PF. -/
def Obligations.ResetsOfUnitsAndFunctions : Prop :=
  ((∀ (s : State) (c : Ctx) (rest : List Cmd) (kind unit : Nat), AtHead s c 0x0104 rest → c.f 1 0 4 = kind → c.f 1 4 12 = unit →
    c.f 1 16 16 = 0 → unit < [48, 4, 2, 2, 2, 3072].getD kind 0 → s.lastUnit kind unit = false → s.unitBusy kind unit = none →
    s.outstanding c.issuer < 256 →
    let h := (s.fn c.issuer).nextHandle
    (kind ≠ 0 →
      let u := ((((s.popped c rest).accept c.issuer c.tag 0x0104 (kind + 16 * unit) 0 0).2.modOp c.issuer h fun o =>
        { o with phase := 1 }).unitOff kind unit)
      Answers (exec (.sysResetUnit c.ch) s) u c 5 h [] ∧
      (kind = 1 → (s.canvases.any fun x => x.2.composer == unit) = false → u.prot.composers = s.prot.composers.set unit false) ∧
      (kind = 2 → u.prot.halves = s.prot.halves.set unit false) ∧
      (kind = 3 → u.trail.copies = s.trail.copies.set unit false) ∧
      (kind = 4 → u.ctl.pairs = s.ctl.pairs.set unit false ∧ u.ctl.standbyReady = false) ∧
      (kind = 5 → (u.cipher unit).offline = true)) ∧
    (kind = 0 → ∀ t, (s.popped c rest).drainCluster unit = some t →
      (t.outstanding c.issuer < 256 → Answers (exec (.sysResetUnit c.ch) s)
        (((t.accept c.issuer c.tag 0x0104 (16 * unit) 0 0).2.modCluster unit fun x =>
          { x with drain := some (c.issuer, (t.fn c.issuer).nextHandle) }).powerOffs) c 5 (t.fn c.issuer).nextHandle [])) ∧
    (kind = 0 → (s.popped c rest).drainCluster unit = none →
      Answers (exec (.sysResetUnit c.ch) s) (s.popped c rest) c 3 0x0401 [])) ∧
  (∀ (s : State) (kind unit : Nat) (o : LongOp), (∀ x ∈ s.ctl.ops, x.opcode = 0x0104 → x.state = 0 → x.phase = 1) →
    (s.findOp 0x0104 fun x => x.a == kind + 16 * unit && x.phase == 1) = some o →
    exec (.unitResetComplete kind unit true) s =
      .next ((((s.undrain o).unitOn kind unit).postAll { code := 0x0103, obj := kind + 16 * unit }).opDone o 0 0) ∧
    exec (.unitResetComplete kind unit false) s = .next ((s.undrain o).opDone o 13 0x0E01)) ∧
  (∀ (s : State) (flow : Nat), flow < 262144 → exec (.drainMarkerPass flow) s = .next (s.drainMarker flow).powerOffs) ∧
  (∀ (s : State) (cl cause : Nat), cl < 48 → cause ≤ 4 →
    exec (.clusterFail cl cause) s = .next (if (s.cluster cl).inService then (s.failCluster cl cause).powerOffs else s.powerOffs))) ∧
  ((∀ (s : State) (fn : Nat), fn < 128 → tget s.ctl.waits (2 * fn) = none →
    NextWith (exec (.functionLevelReset fn) s) fun t =>
      (t.fn fn).ev = {} ∧ (t.fn fn).rings = [{}, {}, {}] ∧ (t.fn fn).held = [] ∧ (t.fn fn).tbCap = [0, 0, 0, 0] ∧
      (t.fn fn).lqFlush = false ∧ (t.fn fn).cntHi = [] ∧ (t.fn fn).vecs = (s.fn fn).vecs ∧
      t.chan (2 * fn) = {} ∧ t.chan (2 * fn + 1) = {} ∧ t.queue (2 * fn) = [] ∧ tgetD t.ctl.rsps (2 * fn + 1) [] = [] ∧
      (∀ x, tget t.mon.samplers fn = some x → x.running = false) ∧
      (∀ j e, tget t.encJobs j = some e → e.creator = fn → e.ring = none) ∧
      (∀ g, g ≠ fn → t.fn g = s.fn g) ∧ (∀ k, k ≠ 2 * fn → k ≠ 2 * fn + 1 → t.chan k = s.chan k) ∧
      t.binds = s.binds ∧ t.legs = s.legs ∧ t.confs = s.confs) ∧
  (∀ (s : State) (port : Nat), port < 2 → (∀ f, tget s.ctl.waits (2 * f) = none) →
    NextWith (exec (.vfEnableClear port) s) fun t =>
      (∀ k, 1 ≤ k → k ≤ 63 → (t.fn (64 * port + k)).ev = {} ∧ (t.fn (64 * port + k)).rings = [{}, {}, {}]) ∧
      (∀ k, (k ≤ 64 * port ∨ 64 * port + 63 < k) → t.fn k = s.fn k) ∧ t.legs = s.legs ∧ t.confs = s.confs))

/-- Calibration (R452 to R455): CAL.REQUEST of a unit that exists is accepted, whatever the unit is doing, and the request
first in line on the unit starts its drain; CAL_START begins the work of a unit that is drained; CAL_DONE records the result
with EV_CAL_DONE and lets the next request begin; CAL.STATUS reports the request's phase, unit and time waited.

OP.ABORT (R55 to R57): for a running operation of its own function that is not yet final, abort is recorded first, what it
had done is undone, and the answer is E_OK; once completion was recorded the answer is E_ALREADY_DONE; a second abort answers
E_STATE 0x0001, and a handle without a record E_BADARG 1. Those answers change nothing. -/
def Obligations.CalibrationsAndAborts : Prop :=
  ((∀ (s : State) (c : Ctx) (rest : List Cmd), AtHead s c 0x0F01 rest → c.f 1 16 16 = 0 →
    c.f 1 4 12 < [48, 4, 2, 128, 16, 64, 2].getD (c.f 1 0 4) 0 → s.outstanding c.issuer < 256 →
    Answers (exec (.calRequest c.ch) s)
      (((s.popped c rest).accept c.issuer c.tag 0x0F01 (c.f 1 0 16) 0 0).2.calNext (c.f 1 0 16)) c 5 (s.fn c.issuer).nextHandle []) ∧
  (∀ (s : State) (kind unit : Nat) (o : LongOp) (os : List LongOp), s.calOps (kind + 16 * unit) = o :: os → o.phase = 4 →
    exec (.calStart kind unit) s = .next s) ∧
  (∀ (s u : State) (kind unit : Nat) (o : LongOp) (os : List LongOp), s.calNext (kind + 16 * unit) = u →
    u.calOps (kind + 16 * unit) = o :: os → o.phase = 1 → u.calReady kind unit = true →
    exec (.calStart kind unit) s = .next ((u.calTake o).modOp o.fn o.handle fun x =>
      { x with phase := 4, waited := u.time.m - x.since })) ∧
  (∀ (s : State) (kind unit result durUs : Nat) (o : LongOp),
    ((s.calOps (kind + 16 * unit)).find? fun x => x.phase == 4) = some o →
    (result < 2 → exec (.calDone kind unit result durUs) s =
      .next ((((s.calReturn o).calPassed kind unit).calResult o result durUs).calNext (kind + 16 * unit))) ∧
    (result = 2 → exec (.calDone kind unit result durUs) s =
      .next ((((s.undrain o).calFailed kind unit).calResult o 2 durUs).calNext (kind + 16 * unit)))) ∧
  (∀ (s : State) (c : Ctx) (rest : List Cmd) (o : LongOp), AtHead s c 0x0F02 rest → c.f 1 24 8 = 0 →
    (s.ctl.ops.reverse.find? fun x => x.opcode == 0x0F01 && x.fn == c.f 1 16 8 && x.handle == c.f 1 0 16) = some o →
    (o.state = 0 → o.phase < 4 → Answers (exec (.calStatus c.ch) s) (s.popped c rest) c 0 0 [o.phase + 16 * o.a, s.time.m - o.since]) ∧
    (o.state = 0 → o.phase = 4 → Answers (exec (.calStatus c.ch) s) (s.popped c rest) c 0 0 [4 + 16 * o.a, o.waited]) ∧
    (o.state = 1 → Answers (exec (.calStatus c.ch) s) (s.popped c rest) c 0 0 [5 + 16 * o.a, o.waited]) ∧
    (o.state = 2 → Answers (exec (.calStatus c.ch) s) (s.popped c rest) c 0 0 [6 + 16 * o.a, o.waited]))) ∧
  (∀ (s : State) (c : Ctx) (rest : List Cmd), AtHead s c 0x1301 rest → c.f 1 16 16 = 0 →
    let found := s.ctl.ops.reverse.find? fun x => x.fn == c.issuer && x.handle == c.f 1 0 16
    (∀ o, found = some o → o.state = 0 → (o.opcode = 0x0104 → o.phase ≠ 1) →
      let u := ((s.popped c rest).undoOp o).modOp o.fn o.handle fun x => { x with state := 2 }
      Answers (exec (.opAbort c.ch) s) (if o.opcode = 0x0F01 then u.calNext o.a else u) c 0 0 []) ∧
    (∀ o, found = some o → o.state = 1 → Answers (exec (.opAbort c.ch) s) (s.popped c rest) c 6 0 []) ∧
    (∀ o, found = some o → o.state = 2 → Answers (exec (.opAbort c.ch) s) (s.popped c rest) c 9 1 []) ∧
    (found = none → Answers (exec (.opAbort c.ch) s) (s.popped c rest) c 2 1 []))

/-- A module stop (R429, R489) leaves the module stopped, its ports down with nothing on the wire, both PCIe links down, PPS_OUT
low, MOD_READY deasserted and FAULT_N asserted. The failure of a hub half or of a Trailhead copy takes that unit out of service
and keeps the ready lists and the other half's waiting packets; with the other one out already it is a module stop (R426, R427).

CONTROL_TAKEOVER (R53, R429): with a standby pair ready and no image on trial, the standby pair becomes active, the failed
pair is out of service, no pair stands by, and commands, responses and long operations go on; with none ready nothing changes.
A pair in service that boots the running image stands by again (R441, R443). -/
def Obligations.StopsAndTakeovers : Prop :=
  ((∀ (s : State), s.power.cond ≠ .stopped → s.power.cond ≠ .unpowered →
    NextWith (exec .moduleStop s) fun t => t.power.cond = .stopped ∧ t.pins.modReady = false ∧ t.pins.fault = true ∧
      t.pins.ppsOut = false ∧ t.pins.pcie = [false, false] ∧ t.time.outEn = false ∧
      (∀ n p, tget t.ports n = some p → p.link = false ∧ p.wire = none) ∧
      (∀ g x, tget t.casc.groups g = some x → x.st = 0 ∨ x.st = 4) ∧ t.legs = s.legs ∧ t.mem = s.mem ∧ t.fns = s.fns) ∧
  (∀ (s : State) (h cause : Nat), h < 2 → s.prot.halves.getD h false = true →
    NextWith (exec (.hubHalfFail h cause) s) fun t => t.prot.halves = s.prot.halves.set h false ∧ t.legs = s.legs ∧ t.mem = s.mem ∧
      (s.prot.halves.getD (1 - h) false = true → t.inQ = s.inQ.filter (fun p => p.port / 8 ≠ h) ∧ t.power.cond = s.power.cond ∧
        t.ports = s.ports) ∧
      (s.prot.halves.getD (1 - h) false = false → t.inQ = [] ∧ t.outQ = [] ∧ t.fwdQ = [] ∧ t.power.cond = .stopped)) ∧
  (∀ (s : State) (cause : Nat), s.trail.copies.getD s.trail.active false = true →
    NextWith (exec (.trailheadFail cause) s) fun t => t.trail.copies = s.trail.copies.set s.trail.active false ∧
      t.trail.ready = s.trail.ready ∧ t.trail.cores = s.trail.cores ∧ t.trail.active = 1 - s.trail.active ∧ t.legs = s.legs ∧ t.mem = s.mem ∧
      (s.trail.copies.getD (1 - s.trail.active) false = true → t.power.cond = s.power.cond) ∧
      (s.trail.copies.getD (1 - s.trail.active) false = false → t.power.cond = .stopped))) ∧
  ((∀ (s : State), s.ctl.standbyReady = true → s.upd.phase ≠ 3 → s.upd.phase ≠ 5 →
    NextWith (exec .controlTakeover s) fun t =>
      t.ctl = { s.ctl with active := 1 - s.ctl.active, standbyReady := false, pairs := s.ctl.pairs.set s.ctl.active false } ∧
      t.chans = s.chans ∧ t.legs = s.legs ∧ t.trail = s.trail ∧ t.mem = s.mem ∧
      (∀ f, (s.fn f).ev.en = false → t.fn f = s.fn f)) ∧
  (∀ (s : State), s.ctl.standbyReady = false → exec .controlTakeover s = .next s) ∧
  (∀ (s : State), s.ctl.standbyReady = false → s.ctl.pairs.getD (1 - s.ctl.active) false = true → s.upd.phase ≠ 2 →
    (s.upd.phase = 5 → s.committing = none) → (s.upd.phase = 4 → s.upd.reloading = []) →
    exec .standbyBootComplete s =
      .next { s with
        ctl := { s.ctl with standbyReady := true }, upd := { s.upd with phase := if s.upd.phase = 4 then 0 else s.upd.phase } }))

/-- A composer that fails leaves service, posts EV_UNIT_FAULT, and its canvases move (R428); a canvas that stayed on a failed
composer moves once one in service has room, and otherwise stays.

After a cluster failure: a flow that stopped with the cluster starts again on a cluster that holds it, and one that none holds
counts PROT_UNPLACED and stays stopped (R416); the shadow-application item takes the logs of earlier ticks (R413); the
degradation steps are undone once the engine has room for the job (R417). -/
def Obligations.FailuresAndTheirRepair : Prop :=
  ((∀ (s : State) (c cause : Nat), c < 4 → s.prot.composers.getD c false = true →
    exec (.composerFail c cause) s =
      let u := ({ s with prot := { s.prot with composers := s.prot.composers.set c false } }).domainOff (52 + c) (cause == 0)
      .next (((u.postAll { code := 0x0102, obj := 1 + 16 * c, d0 := cause, d1 := u.tick }).calLost (1 + 16 * c)).clearComposer c)) ∧
  (∀ (s : State) (c : Nat) (v : Canvas), c < 192 → tget s.canvases c = some v → s.prot.composers.getD v.composer false = false →
    (s.chooseComposer c v none = none → exec (.canvasMove c) s = .next s) ∧
    (∀ k, s.chooseComposer c v none = some k → s.flowOf (.canvas c) = none →
      exec (.canvasMove c) s =
        .next ((s.dropReader (readerCanvas c)).modCanvas c fun v => { v with composer := k, run := none })))) ∧
  ((∀ (s : State) (cl n : Nat) (f : Flow), cl < 48 → f.stopped = true → f.place = cl →
    (s.trail.flows.filter fun p => p.2.stopped) = [(n, f)] →
    (∀ k, s.findPlace n f = .ok k →
      exec (.unprotectedReplace cl) s = .next (s.setFlow n { f with place := k, stopped := false })) ∧
    (∀ e, s.findPlace n f = .error e →
      exec (.unprotectedReplace cl) s = .next (s.occur srcProtUnplaced { obj := some n, tenant := s.ownerTenant f.owner }))) ∧
  (∀ (s : State) (cl : Nat), cl < 48 → (s.trail.cores.any fun p => p.2.flow == 262144 + cl) = true →
    exec (.shadowApply cl) s = .next (s.modCluster cl fun c =>
      { c with pendingLogs := c.pendingLogs.filter fun t => decide (s.time.m ≤ t) })) ∧
  (∀ (s : State) (cl n j : Nat) (f : Flow) (e : EncJob), cl < 48 → s.flowsOn cl = [(n, f)] → f.owner = .encode j →
    tget s.encJobs j = some e → e.degrade = 1 → s.encJobs ≠ [] →
    exec (.degradeUndo cl) s = .next (if (s.undoOne j 1).encFits cl then
      (s.undoOne j 1).postAll { code := 0x0E03, obj := cl, d0 := 0, d1 := j } else s)))

/-- PROT.CLASS (R420, R432): a class 0 or 1 that differs from a leg's class takes effect and answers E_OK, with the leg's flows
placed for it, and a class 2 given up sends RELEASE; class 2, with the partner's group UP, sends RESERVE and waits. The partner's
RESERVE_ACK then gives the leg class 2, or fails the command with E_NOSPACE 0x0E02; no answer within 50 ms, or the group
leaving UP, fails it with E_TIMEOUT 0x0E01 and sends RELEASE, and the leg keeps its class.

PROT.PARTNER (R433): OP 0 names the partner, its enable, the PF of taken-over legs and the port map; OP 1 sets the pool
offered; OP 2 reports how many map entries it wrote; OP 3 reports the partner's word, the PROT_PARTNER legs and the legs
reserved. -/
def Obligations.ProtectionAndPartner : Prop :=
  ((∀ (s : State) (c : Ctx) (rest : List Cmd) (l : Leg) (v : State), AtHead s c 0x0E01 rest → s.leg (c.f 1 0 16) = some l →
    c.f 1 26 6 = 0 → l.gen = c.f 1 16 8 → s.mayTouch c.issuer (s.legTenant l) = true → c.f 1 24 2 ≠ l.prot →
    (c.f 1 24 2 = 1 → (s.modLeg (c.f 1 0 16) fun l => { l with prot := 1 }).groupUnpaired = false) →
    (c.f 1 24 2 < 2 → l.prot ≠ 2 → ((s.popped c rest).modLeg (c.f 1 0 16) fun l => { l with prot := c.f 1 24 2 }).reflow (softFor (c.f 1 0 16)) = .ok v →
      Answers (exec (.protClass c.ch) s) v c 0 0 []) ∧
    (c.f 1 24 2 < 2 → l.prot = 2 →
      (((s.popped c rest).releaseLeg (c.f 1 0 16) l).modLeg (c.f 1 0 16) fun l => { l with prot := c.f 1 24 2 }).reflow (softFor (c.f 1 0 16)) = .ok v →
      Answers (exec (.protClass c.ch) s) v c 0 0 [])) ∧
  (∀ (s : State) (c : Ctx) (rest : List Cmd) (l : Leg) (v : State) (g p : Nat), AtHead s c 0x0E01 rest →
    s.leg (c.f 1 0 16) = some l → c.f 1 26 6 = 0 → c.f 1 24 2 = 2 → l.gen = c.f 1 16 8 →
    s.mayTouch c.issuer (s.legTenant l) = true → l.prot ≠ 2 → s.partnerGroup = some g → s.groupUp g = true →
    (s.modLeg (c.f 1 0 16) fun l => { l with prot := 2 }).groupUnpaired = false → s.mapped l.cfg.port = some p →
    Config.peerFwMajor s.prot.partner = s.fwMajor →
    ((s.popped c rest).modLeg (c.f 1 0 16) fun l => { l with prot := 2 }).reflow (softFor (c.f 1 0 16)) = .ok v →
    exec (.protClass c.ch) s = .next (((s.popped c rest).askReserve c (c.f 1 0 16) l g).drain c.ch)) ∧
  (∀ (s : State) (g tag status ch : Nat) (w : ProtWait), g < 16 →
    (s.ctl.waits.find? fun w => w.2.resTag == tag && w.2.group == g) = some (ch, w) →
    (status ≠ 0 → exec (.reserveAck g tag status) s = .next (s.endWait ch w 3 0x0E02)) ∧
    (∀ l t, status = 0 → s.leg w.leg = some l →
      (s.modLeg w.leg fun l => { l with prot := 2 }).reflow (softFor w.leg) = .ok t →
      exec (.reserveAck g tag status) s = .next (t.endWait ch w 0 0))) ∧
  (∀ (s : State) (ch : Nat) (w : ProtWait), reqOk ch = true → tget s.ctl.waits ch = some w →
    (w.since + 50 ≤ s.time.m ∨ s.groupUp w.group = false →
      exec (.reserveTimeout ch) s = .next ((s.unreserve w).endWait ch w 12 0x0E01)) ∧
    (s.time.m < w.since + 50 → s.groupUp w.group = true → exec (.reserveTimeout ch) s = .next s))) ∧
  (∀ (s : State) (c : Ctx) (rest : List Cmd) (buf : BufRead), AtHead s c 0x0E02 rest → c.f 1 2 30 = 0 →
    (c.len = 4 → c.f 1 0 2 = 0 → c.f 2 6 26 = 0 → s.casc.self ≠ some (c.f 2 0 4) →
      NextWith (exec (.protPartner c.ch buf) s) fun t => t.prot.partner = c.f 2 0 4 ∧ t.prot.en = c.bit 2 4 ∧ t.prot.hostPf = c.f 2 5 1 ∧
        (∀ n, n < 16 → tget t.prot.portMap n = some (c.f (3 + n / 8) (4 * (n % 8)) 4)) ∧
        t.prot.reservations = s.prot.reservations ∧ t.legs = s.legs ∧ t.casc = s.casc) ∧
    (c.len = 4 → c.f 1 0 2 = 1 → c.f 3 16 16 = 0 →
      Answers (exec (.protPartner c.ch buf) s) { s.popped c rest with prot := { s.prot with
        poolLegs := c.f 2 0 16, poolMixed := c.f 2 16 16, poolDecode := c.f 3 0 16, poolCycles := c.f 4 0 32 } } c 0 0 []) ∧
    (c.len = 4 → c.f 1 0 2 = 2 → (∀ x ∈ descChecks c 2 true, x.1 = false) → 16 * s.prot.map.length ≤ descLen c 2 →
      (∀ x ∈ bufChecks buf, x.1 = false) → Answers (exec (.protPartner c.ch buf) s) (s.popped c rest) c 0 0 [s.prot.map.length]) ∧
    (c.len = 1 → c.f 1 0 2 = 3 → Answers (exec (.protPartner c.ch buf) s) (s.popped c rest) c 0 0
      [s.partnerWord, (s.legs.filter fun x => x.2.prot == 2).length, (s.prot.reservations.map (·.legs)).sum]))

/-- A peer's RESERVE that the pool holds is kept and answered RESERVE_ACK 0, and one that it does not hold is answered 1 and
nothing is kept; RELEASE gives up the reservation of that peer's leg; FULL_REQUEST from the partner makes the next shadow
message a full one (R420 to R422).

Shadow messages (R421, R424): at a boundary whose M is a multiple of 20, while the partner's group is UP, one message goes to
VC1 with the next SHADOW_SEQ and the tick before as BASE_TICK, full when that is due; a peer's message that is whole and
follows the last applied one, or is full, is applied, and any other is answered by FULL_REQUEST; a message not applied within
40 ticks posts EV_PROT_SHADOW_LAG once; the claims of a taken-over leg's address go out twice more. -/
def Obligations.PartnerMessages : Prop :=
  ((∀ (s : State) (g p : Nat) (r : Reserve), g < 16 → s.peerOf g = some p →
    (s.prot.room r = true → exec (.reserve g r) s =
      .next (State.sendControl { s with prot := { s.prot with reservations :=
        s.prot.reservations ++ [⟨p, r.leg, r.legs, r.mixed, r.decode, r.cycles⟩] } } g 2 r 0)) ∧
    (s.prot.room r = false → exec (.reserve g r) s = .next (s.sendControl g 2 r 1)) ∧
    exec (.release g r) s = .next { s with prot := { s.prot with
      reservations := s.prot.reservations.filter fun x => !(x.peer == p && x.leg == r.leg) } }) ∧
  (∀ (s : State) (g q : Nat), g < 16 → s.partnerGroup = some g →
    exec (.fullRequest g q) s = .next { s with prot := { s.prot with fullNext := true } })) ∧
  ((∀ (s : State) (g : Nat), s.partnerGroup = some g → s.groupUp g = true → s.time.m % 20 = 0 →
    NextWith (exec .shadowMessageSend s) fun t => t.prot.seq = (s.prot.seq + 1) % 2 ^ 32 ∧ t.prot.fullNext = false ∧ t.legs = s.legs ∧
      ∃ (m : ShadowMsg) (k : Nat), (t.group g).cells.vc1 = (s.group g).cells.vc1 ++ [{ msg := .shadow m, cells := k + 1, since := s.time.m }] ∧
        m.seq = t.prot.seq ∧ m.baseTick = (s.time.m - 1) % 2 ^ 32 ∧ m.whole = true ∧
        (s.prot.fullNext = true ∨ 49 ≤ s.prot.sinceFull → m.full = true ∧ m.legs = s.shadows) ∧
        (s.prot.fullNext = false → s.prot.sinceFull < 49 → m.full = false ∧ m.legs = s.shadows.filter fun x => !s.prot.lastSent.contains x)) ∧
  (∀ (s : State) (g p : Nat) (m : ShadowMsg), g < 16 → s.peerOf g = some p →
    let h := tgetD s.prot.shadows p {}
    let h' : PeerShadow := { h with seq := m.seq, baseTick := m.baseTick, valid := true, legs := h.merge m }
    (m.whole = true → (m.full = true ∨ h.valid = true ∧ m.seq = (h.seq + 1) % 2 ^ 32) →
      exec (.shadow g m) s = .next { s with prot := { s.prot with shadows := tset s.prot.shadows p h' } }) ∧
    ((m.whole = false ∨ m.full = false ∧ (h.valid = false ∨ m.seq ≠ (h.seq + 1) % 2 ^ 32)) →
      exec (.shadow g m) s = .next (s.sendControl g 4 ⟨0, 0, 0, 0, 0, 0⟩ h.seq))) ∧
  (∀ (s : State) (x : Nat × Nat), (s.prot.sentLog.find? fun x => decide (40 < tickDiff s.tick x.2)) = some x →
    s.prot.en = true → s.prot.lagging = false →
    NextWith (exec .shadowLag s) fun t => t.prot = { s.prot with lagging := true } ∧ t.legs = s.legs ∧
      ∃ d, t = State.postAll { s with prot := { s.prot with lagging := true } }
        { code := 0x0E05, obj := s.prot.partner, d0 := d, d1 := (tickDiff s.tick x.2).toNat }) ∧
  (∀ (s : State) (leg : Nat) (l : Leg), leg < 65536 → s.leg leg = some l → l.claims ≠ 0 → l.claimAt + (3 - l.claims) * 10 ≤ s.time.m →
    exec (.claimRepeat leg) s = .next ((s.sendClaim l).modLeg leg fun l => { l with claims := l.claims - 1 })))

/-- UPD.BEGIN and UPD.BLOCK (R438, R439, R456): with no commit running, no session of another owner and no image on trial, a
length that fits opens the owner's session; a block whose data and CRC are right, that the flash takes, is received. -/
def Obligations.UpdateTransfer : Prop :=
  (∀ (s : State) (c : Ctx) (rest : List Cmd), AtHead s c 0x1001 rest → s.committing = none → s.upd.phase < 3 →
    (∀ x, s.upd.session = some x → x.owner = c.issuer) → (c.w 1).toNat ≤ 268435456 → (c.w 1).toNat % 4 = 0 →
    Answers (exec (.updBegin c.ch) s)
      { s.popped c rest with upd := { s.upd with session := some { owner := c.issuer, len := (c.w 1).toNat }, phase := 1 } } c 0 0 []) ∧
  (∀ (s : State) (c : Ctx) (rest : List Cmd) (x : UpdSession) (bs : List Byte), AtHead s c 0x1002 rest → s.committing = none →
    s.upd.session = some x → x.owner = c.issuer → (c.w 1).toNat % 4096 = 0 → (c.w 1).toNat + descLen c 3 ≤ x.len →
    (∀ y ∈ descChecks c 3 false, y.1 = false) → descLen c 3 ≤ 1048576 →
    (descLen c 3 % 4096 = 0 ∨ (c.w 1).toNat + descLen c 3 = x.len) → crc32 (bufBytes (.bytes bs) (descLen c 3)) = (c.w 2).toNat →
    let x' : UpdSession := { x with units := x.units ++ (unitsOf (c.w 1).toNat (descLen c 3)).filter fun u => !x.units.contains u }
    let svn := if (c.w 1).toNat = 0 then ((bufBytes (.bytes bs) (descLen c 3)).getD 16 0).toNat % 64 else s.upd.svnImage
    Answers (exec (.updBlock c.ch (.bytes bs) true) s)
      { s.popped c rest with upd := { s.upd with session := some x', fwOther := 0, svnImage := svn } } c 0 0 [])

/-- UPD.COMMIT of a whole image is accepted and the standby pair boots it (R440); at the end of that boot the image takes over on
trial, or the boot's first fault is the completion status of the operation (R441). SYS.CONFIRM of the image on trial, once every
cluster is reloaded, ends the trial and raises the fused SVN to the image's (R443, R445); a trial whose window ends falls back
to the previous image with EV_UPD_FALLBACK (R444).

UPD.REVERT with a previous image present is accepted (R446): on trial it falls back with cause 2, otherwise the standby pair
boots the previous image, which takes over on trial or ends the operation with its boot fault. CLUSTER_RELOAD of the cluster
next in line that is empty loads and tests it and goes on to the next, and one out of service is passed over (R449). UPD.STATUS
answers six words of the session and the images, and changes nothing while a session is open (R456). -/
def Obligations.UpdateCommands : Prop :=
  ((∀ (s : State) (c : Ctx) (rest : List Cmd) (x : UpdSession), AtHead s c 0x1003 rest → c.f 1 0 32 = 0 → s.committing = none →
    s.upd.session = some x → x.owner = c.issuer → x.whole = true → s.outstanding c.issuer < 256 →
    Answers (exec (.updCommit c.ch) s) (((s.popped c rest).accept c.issuer c.tag 0x1003 0 0 s.upd.phase).2.beginBoot 2)
      c 5 (s.fn c.issuer).nextHandle []) ∧
  (∀ (s : State) (img : Image) (env : CommitEnv) (o : LongOp), (s.findOp 0x1003 fun _ => true) = some o →
    (∀ f, s.bootFault img env = some f →
      exec (.updCommitTakeover img env) s = .next (State.opDone { s with upd := { s.upd with phase := 1 } } o f.1 f.2)) ∧
    (s.bootFault img env = none → exec (.updCommitTakeover img env) s = .next ((s.goTrial img).opDone o 0 0))) ∧
  (∀ (s : State) (img : Image), (img.comps.map (·.1)).contains 5 = false →
    (s.goTrial img).upd.phase = 3 ∧ (s.goTrial img).upd.fwActive = img.fwrev ∧
    (s.goTrial img).upd.fwOther = s.upd.fwActive ∧ (s.goTrial img).upd.session = none ∧
    (s.goTrial img).upd.trialEnd = s.time.m + s.upd.window * 60000) ∧
  (∀ (s : State) (c : Ctx) (rest : List Cmd) (fuseOk : Bool), AtHead s c 0x0105 rest → (c.w 1).toNat = s.fwrev → s.upd.phase = 3 →
    s.upd.reloading = [] → (fuseOk = true ∨ s.upd.svnImage ≤ s.upd.svnFused) →
    NextWith (exec (.sysConfirm c.ch fuseOk) s) fun t => t.upd.phase = 0 ∧ t.upd.confirmed = some s.upd.fwActive ∧
      t.upd.svnFused = max s.upd.svnFused s.upd.svnImage ∧ t.upd.fwActive = s.upd.fwActive ∧
      t.upd.bootArea = (if s.upd.mode = 0 then 1 - s.upd.bootArea else s.upd.bootArea) ∧ t.ctl.standbyReady = false ∧ t.legs = s.legs) ∧
  (∀ (s : State), s.upd.phase = 3 → s.upd.trialEnd ≤ s.time.m →
    NextWith (exec .confirmWindowExpire s) fun t => t.upd.phase = 4 ∧ t.upd.fwActive = s.upd.fwOther ∧ t.upd.fwOther = 0 ∧
      t.ctl.active = 1 - s.ctl.active ∧ t.ctl.standbyReady = false ∧ t.legs = s.legs ∧ t.confs = s.confs)) ∧
  ((∀ (s : State) (c : Ctx) (rest : List Cmd), AtHead s c 0x1004 rest → c.f 1 0 32 = 0 → s.committing = none → s.upd.fwOther ≠ 0 →
    s.upd.phase ≠ 4 → s.outstanding c.issuer < 256 →
    let u := ((s.popped c rest).accept c.issuer c.tag 0x1004 0 (if s.upd.phase = 3 then 1 else 0) s.upd.phase).2
    Answers (exec (.updRevert c.ch) s) (if s.upd.phase = 3 then { u with upd := { s.upd with phase := 5 } } else u.beginBoot 5)
      c 5 (s.fn c.issuer).nextHandle []) ∧
  (∀ (s : State) (img : Image) (env : CommitEnv) (o : LongOp), (s.findOp 0x1004 fun _ => true) = some o →
    (o.b = 1 → exec (.updRevertComplete img env) s = .next ((s.fallback 2).opDone o 0 0)) ∧
    (o.b ≠ 1 → s.bootFault img env = none → exec (.updRevertComplete img env) s = .next ((s.goTrial img).opDone o 0 0)) ∧
    (∀ f, o.b ≠ 1 → s.bootFault img env = some f →
      exec (.updRevertComplete img env) s = .next (State.opDone { s with upd := { s.upd with phase := o.c } } o f.1 f.2))) ∧
  (∀ (s : State) (cl : Nat) (rest : List Nat) (pass : Bool), cl < 48 → s.upd.reloading = cl :: rest →
    (s.placeUp cl = false → exec (.clusterReload cl pass) s = .next { s with upd := { s.upd with reloading := rest } }) ∧
    (s.placeUp cl = true → (s.cluster cl).group = none → s.flowsOn cl = [] → s.emptied_ cl = true →
      let u := (s.modCluster cl fun x => { x with reload := true }).loadPlace cl pass
      exec (.clusterReload cl pass) s = .next { u with upd := { u.upd with reloading := rest } }) ∧
    (∀ g, s.placeUp cl = true → (s.cluster cl).group = some g →
      let u := (s.stopGroup cl).loadPlace cl pass
      exec (.clusterReload cl pass) s = .next { u with upd := { u.upd with reloading := rest } })) ∧
  (∀ (s : State) (c : Ctx) (rest : List Cmd) (x : UpdSession), AtHead s c 0x1005 rest → c.f 1 0 32 = 0 → s.upd.session = some x →
    s.upd.phase ≠ 3 →
    Answers (exec (.updStatus c.ch) s) (s.popped c rest) c 0 0 [s.upd.phase + 8 * s.upd.mode + 256 * x.owner, s.upd.fwActive, s.upd.fwOther,
      s.upd.svnFused % 64 + 256 * (s.upd.svnImage % 64), x.kib, s.pendingComps]) ∧
  (∀ (s : State) (c : Ctx) (rest : List Cmd), AtHead s c 0x1005 rest → c.f 1 0 32 = 0 → s.upd.session = none →
    NextWith (exec (.updStatus c.ch) s) fun t => t.upd = s.upd ∧ t.legs = s.legs ∧ t.trail = s.trail ∧ t.power = s.power))

/-- Power (R33, R460, R467, R478, R479, R488): POWER_ON of an unpowered module whose hot-swap controller is not off leaves it
serving, MOD_READY asserted, every unit in service, the binding table written and locked, the time bases at 0 and no leg; it
does nothing while the module is powered. POWER_REMOVED, PMB_CTRL_LOW and OPERATION off leave it unpowered with its registers at
reset. With both reset pins asserted MODULE_RESET starts it again with the image that the flash keeps.

The reset pins (R488): on a serving module PERST takes the port's link down and resets each of its 64 functions, the legs
going on; on a stopped one it is a module reset; the link of a port comes up again when its pin is deasserted. -/
def Obligations.PowerAndReset : Prop :=
  ((∀ (s : State) (fwrev : Nat) (ac : Bool), s.power.cond = .unpowered → s.power.hotSwapOff = false →
    NextWith (exec (.powerOn fwrev ac) s) fun t => t.power.cond = .serving ∧ t.pins.modReady = true ∧ t.bindLock = true ∧
      t.legs = [] ∧ t.confs = [] ∧ t.time.ref = 0 ∧ t.ctl.pairs = [true, true] ∧ t.prot.halves = [true, true] ∧
      t.trail.copies = [true, true] ∧ t.power.ac = ac ∧ t.pending = s.pending ∧
      t.bind 0 = ⟨0, 0xC0, false, true⟩ ∧ t.bind 1 = ⟨0xC0, 0, false, true⟩ ∧ t.bind 256 = ⟨0xC8, 0xC0, false, true⟩ ∧
      t.bind 287 = ⟨0x97, 0xC0, true, true⟩ ∧ (∀ c, c < 48 → (t.cluster c).inService = true) ∧
      (s.pins.perst0 = false → t.pins.pcie.getD 0 false = true) ∧ (s.pins.perst1 = true → t.pins.pcie.getD 1 true = false)) ∧
  (∀ (s : State) (fwrev : Nat) (ac : Bool), s.power.cond ≠ .unpowered → exec (.powerOn fwrev ac) s = .next s) ∧
  (∀ (s : State) (t : State), t.power.cond = .unpowered → t.legs = [] → t.fns = [] → t.time = {} → t.pins.modReady = false →
    t = s.unpower → exec .powerRemoved s = .next t ∧
    exec .pmbCtrlLow s = .next { t with power := { t.power with hotSwapOff := s.power.hotSwapOff } } ∧
    (∀ b ds, b.toNat < 128 → exec (.pmbusCommand 0x40 1 (b :: ds)) s = .next { t with power := { t.power with hotSwapOff := true } })) ∧
  (∀ (s : State), s.unpower.power.cond = .unpowered ∧ s.unpower.legs = [] ∧ s.unpower.fns = [] ∧ s.unpower.time = {} ∧
    s.unpower.pins.modReady = false) ∧
  (∀ (s : State), s.power.cond ≠ .unpowered → s.pins.perst0 = true → s.pins.perst1 = true →
    NextWith (exec .moduleReset s) fun t => t.power.cond = .serving ∧ t.legs = [] ∧ t.time.ref = 0 ∧ t.pins.pcie = [false, false] ∧
      t.bindLock = true ∧ t.upd.svnFused = s.upd.svnFused)) ∧
  ((∀ (s : State) (p : Nat), p < 2 → s.power.cond = .serving → (∀ f, tget s.ctl.waits (2 * f) = none) →
    NextWith (exec (.perstAssert p) s) fun t => t.legs = s.legs ∧ t.confs = s.confs ∧ t.power.cond = .serving ∧
      t.pins.pcie = s.pins.pcie.set p false ∧ (p = 0 → t.pins.perst0 = true) ∧ (p = 1 → t.pins.perst1 = true)) ∧
  (∀ (s : State) (p : Nat), p < 2 → s.power.cond = .stopped →
    NextWith (exec (.perstAssert p) s) fun t => t.power.cond = .serving ∧ t.legs = [] ∧ t.pins.modReady = true) ∧
  (∀ (s : State) (p : Nat), p < 2 → s.power.cond = .serving → s.domainOn (78 + p) = true → s.pins.pciePend.getD p false = false →
    NextWith (exec (.perstDeassert p) s) fun t => t.pins.pcie = s.pins.pcie.set p true ∧ (p = 0 → t.pins.perst0 = false) ∧
      (p = 1 → t.pins.perst1 = false) ∧ t.fns = s.fns))

/-- Telemetry and the power cap (R459, R460, R462, R463, R476): a reading is kept, and told by EV_SUPPLY when it ends a loss or
newly reports a fault; a loss and an excursion of the input voltage are told; above 330 W, or with no telemetry, the next step of
the cap is applied, at most one in 10 ms; below 315 W the latest is undone, at most one in a second.

The adaptive loops of a cluster that is on (R469, R471, R473): a report with less than 4 % margin raises a rail below 0.85 V by
5 mV, and at 0.85 V lowers the voltage ceiling by 100 MHz; a rail more than 40 mV below its setting stretches the clock, counts
DROOP_STRETCH once, and the stretch ends on DROOP_END; a temperature reading is kept, and at 125 °C (115 °C for an HBM stack) stops the
module with THERMTRIP_N. -/
def Obligations.PowerLoops : Prop :=
  ((∀ (s : State) (tl : Telemetry), s.power.cond ≠ .unpowered →
    NextWith (exec (.telemetryRead tl) s) fun t => t.power = { s.power with tlm := tl, tlmLost := false } ∧ t.legs = s.legs ∧
      (s.power.tlmLost = false → (tl.status = 0 ∨ s.power.tlm.status ≠ 0) → t.fns = s.fns)) ∧
  (∀ (s : State), s.power.cond ≠ .unpowered → s.power.tlmLost = false →
    exec .telemetryLost s = .next (State.postAll { s with power := { s.power with tlmLost := true } }
      { code := 0x0106, d0 := 2, d1 := s.power.tlm.mv, d2 := s.power.tlm.status })) ∧
  (∀ (s : State) (mv : Nat), s.power.cond ≠ .unpowered → (mv < 40000 ∨ 60000 < mv) →
    (∀ t, s.power.supplyEv = some t → t + 1000 ≤ s.time.m) →
    exec (.inputVoltageExcursion mv) s = .next (State.postAll { s with power := { s.power with supplyEv := some s.time.m } }
      { code := 0x0106, d0 := 0, d1 := mv, d2 := s.power.tlm.status })) ∧
  (∀ (s : State) (mean k : Nat), s.power.ac = true → s.power.cond ≠ .unpowered → (330 < mean ∨ s.power.tlmLost = true) →
    (∀ t, s.power.capAt = some t → t + 10 ≤ s.time.m) → [1, 2, 3, 4, 5, 5, 5, 6, 6, 6][s.power.applied.length]? = some k →
    let u := State.clocksFall { s with power := { s.power with applied := k :: s.power.applied, capAt := some s.time.m } }
    exec (.powerCapStep mean) s = .next (u.postAll { code := 0x0104, d0 := u.power.step + 16 * u.power.ceil, d1 := mean, d2 := 1 })) ∧
  (∀ (s : State) (mean : Nat), s.power.ac = true → s.power.cond ≠ .unpowered → mean < 315 → s.power.tlmLost = false →
    s.power.applied ≠ [] → (∀ t, s.power.capAt = some t → t + 1000 ≤ s.time.m) →
    NextWith (exec (.powerCapUndo mean) s) fun t => t.power = { s.power with applied := s.power.applied.tail, capAt := some s.time.m } ∧
      t.legs = s.legs ∧ t.clusters = s.clusters)) ∧
  ((∀ (s : State) (cl margin : Nat), cl < 48 → s.domainOn cl = true → margin < 4 →
    ∃ u : State, exec (.voltageLoopReport cl margin) s = .next (u.clockFall cl) ∧ u.legs = s.legs ∧
      ((s.rail cl).mv < 850 → (u.rail cl).mv = (s.rail cl).mv + 5 ∧ (∀ j, j ≠ cl → u.rail j = s.rail j)) ∧
      (850 ≤ (s.rail cl).mv → (u.rail cl).vCeil = max 1400 ((s.rail cl).vCeil - 100) ∧ (u.rail cl).mv = (s.rail cl).mv)) ∧
  (∀ (s : State) (cl mv : Nat), cl < 48 → s.domainOn cl = true → (s.rail cl).droop = false → mv + 40 < (s.rail cl).mv →
    exec (.droop cl mv) s = .next ((s.modRail cl fun r => { r with droop := true }).occur srcDroopStretch { cl := some cl })) ∧
  (∀ (s : State) (cl : Nat), cl < 48 → (s.rail cl).droop = true →
    exec (.droopEnd cl) s = .next (s.modRail cl fun r => { r with droop := false })) ∧
  (∀ (s : State) (sensor : Nat) (t : Int), sensor < 64 → s.power.cond = .serving → s.pins.thermTrip = false →
    (t < 16 * (if 54 ≤ sensor ∧ sensor < 58 then 115 else 125) →
      NextWith (exec (.thermalLoop sensor t) s) fun u => tget u.power.temps sensor = some t ∧ u.power.cond = .serving ∧
        u.pins = s.pins ∧ u.legs = s.legs) ∧
    (16 * (if 54 ≤ sensor ∧ sensor < 58 then 115 else 125) ≤ t →
      NextWith (exec (.thermalTrip sensor t) s) fun u => u.power.cond = .stopped ∧ u.pins.thermTrip = true ∧ u.pins.modReady = false ∧
        u.pins.fault = true ∧ tget u.power.temps sensor = some t)))

/-- TB.CONFIG (R94): KIND 0 sets a base's PTP instance, and a change of role, ports or transport restarts it, a LOCKED base then
entering HOLDOVER, and a base left without an instance keeps no Announce, offset or path delay (R96); KIND 1 sets the transparent clock's ports, KIND 2 a port's asymmetry, KIND 3 the timing inputs and outputs.

TB.ARM and TICK.SOURCE (R82, R83, R95, R102): a base that does not drive the ticks, or any base while no conference exists, is
armed with its source, or set to the value given; the tick source is selected while no conference exists. TB.STATUS answers ten
words and changes nothing (R96). -/
def Obligations.TimeBases : Prop :=
  ((∀ (s : State) (c : Ctx) (rest : List Cmd), AtHead s c 0x0201 rest → c.f 1 0 4 = 0 → c.len = 4 → c.f 1 6 26 = 0 → c.f 2 0 2 ≠ 3 →
    c.f 2 3 2 ≠ 3 → c.f 2 7 1 = 0 → -7 ≤ signed 8 (c.f 4 0 8) → signed 8 (c.f 4 0 8) ≤ 4 → -3 ≤ signed 8 (c.f 4 8 8) →
    signed 8 (c.f 4 8 8) ≤ 4 → -7 ≤ signed 8 (c.f 4 16 8) → signed 8 (c.f 4 16 8) ≤ 6 → 2 ≤ c.f 4 24 8 → c.f 4 24 8 ≤ 10 →
    (∀ k, k < 4 → k ≠ c.f 1 4 2 → overlaps (tbInst c) (s.base k).inst = false) →
    let n := c.f 1 4 2
    let i := tbInst c
    let o := (s.base n).inst
    let u := s.popped c rest
    (o.role = i.role → o.ports = i.ports → o.transport = i.transport →
      Answers (exec (.tbConfig c.ch) s) (u.modBase n fun b => b.setInst i) c 0 0 []) ∧
    ((o.role ≠ i.role ∨ o.ports ≠ i.ports ∨ o.transport ≠ i.transport) →
      let v := if (s.base n).st = 3 then u.tbHoldover n else u
      Answers (exec (.tbConfig c.ch) s)
        ((v.modBase n fun b => { b with master := none, newMeas := 0, t3 := none }).modBase n fun b => b.setInst i) c 0 0 [])) ∧
  (∀ (b : Base) (i : PtpInst), (b.setInst i).inst = i ∧ (b.setInst i).val = b.val ∧ (b.setInst i).st = b.st ∧
    (i.role = 0 → (b.setInst i).ann = none ∧ (b.setInst i).offset = 0 ∧ (b.setInst i).pathDelay = 0) ∧
    (i.role ≠ 0 → (b.setInst i).ann = b.ann ∧ (b.setInst i).offset = b.offset ∧ (b.setInst i).pathDelay = b.pathDelay)) ∧
  (∀ (s : State) (c : Ctx) (rest : List Cmd), AtHead s c 0x0201 rest → c.f 1 6 26 = 0 →
    (c.f 1 0 4 = 1 → c.len = 2 → c.f 2 16 16 = 0 → (bitsOf (c.f 2 0 16) 16).length ≠ 1 →
      Answers (exec (.tbConfig c.ch) s) { s.popped c rest with time := { s.time with tcPorts := c.f 2 0 16 } } c 0 0 []) ∧
    (c.f 1 0 4 = 2 → c.len = 3 →
      Answers (exec (.tbConfig c.ch) s)
        { s.popped c rest with time := { s.time with asym := tset s.time.asym (c.f 2 0 4) (signed 32 (c.w 3).toNat) } } c 0 0 []) ∧
    (c.f 1 0 4 = 3 → c.len = 3 → c.f 2 7 9 = 0 → 1 ≤ c.f 2 16 16 → c.f 2 16 16 ≤ 900 → -1000000 ≤ signed 32 (c.w 3).toNat →
      signed 32 (c.w 3).toNat ≤ 1000000 →
      Answers (exec (.tbConfig c.ch) s) { s.popped c rest with time := { s.time with
        ppsOutTb := c.f 2 0 2, todOutTb := c.f 2 2 2, ppsInTb := c.f 2 4 2, clk10En := c.bit 2 6,
        clk10 := s.time.clk10 && c.bit 2 6, ppsWidth := c.f 2 16 16, ppsCable := signed 32 (c.w 3).toNat } } c 0 0 []))) ∧
  ((∀ (s : State) (c : Ctx) (rest : List Cmd), AtHead s c 0x0202 rest → c.f 1 4 28 = 0 → (c.f 1 0 2 = s.time.sel → s.confs = []) →
    (c.len = 1 → c.f 1 2 2 = 0 → (s.base (c.f 1 0 2)).inst.role ≠ 0 →
      Answers (exec (.tbArm c.ch) s) (((s.popped c rest).tbTo (c.f 1 0 2) 1).modBase (c.f 1 0 2) fun b => { b with arm := some 0 }) c 0 0 []) ∧
    (c.len = 1 → c.f 1 2 2 = 1 → c.f 1 0 2 = s.time.ppsInTb →
      Answers (exec (.tbArm c.ch) s) (((s.popped c rest).tbTo (c.f 1 0 2) 1).modBase (c.f 1 0 2) fun b => { b with arm := some 1 }) c 0 0 []) ∧
    (c.len = 5 → c.f 1 2 2 = 2 → (c.w 3).toNat ≤ 999999999 →
      let v : Nat := ((c.w 4).toNat + 2 ^ 32 * c.f 5 0 16) * secU + (c.w 3).toNat * nsU + c.f 2 0 16
      Answers (exec (.tbArm c.ch) s) (((s.popped c rest).tbStep (c.f 1 0 2) v 0).modBase (c.f 1 0 2) fun b => { b with arm := none }) c 0 0 [])) ∧
  (∀ (s : State) (n : Nat) (v off : Int), n < 4 → s.time.bases.length = 4 →
    ((s.tbStep n v off).base n).val = v.toNat ∧ ((s.tbStep n v off).base n).st = 2 ∧ ((s.tbTo n 1).base n).st = 1 ∧
    ((s.tbTo n 1).base n).val = (s.base n).val) ∧
  (∀ (s : State) (c : Ctx) (rest : List Cmd), AtHead s c 0x0204 rest → c.f 1 2 30 = 0 → s.confs = [] → c.f 1 0 2 ≠ s.time.sel →
    Answers (exec (.tickSource c.ch) s) { s.popped c rest with time := { s.time with sel := c.f 1 0 2 } } c 0 0 []) ∧
  (∀ (s : State) (c : Ctx) (rest : List Cmd), AtHead s c 0x0203 rest → ∃ ws, ws.length = 10 ∧
    Answers (exec (.tbStatus c.ch) s) (s.popped c rest) c 0 0 ws))

/-- PTP (R72, R74, R77, R84): an instance's own message goes to TQ7 of its port with its next sequence number, and the departure
of a delay request is stamped; the loss of a selected master puts a base that follows it in HOLDOVER and posts EV_TB_REF_LOST; a
transit event message between two transparent-clock ports has its residence time added to its correction field.

The timing inputs and outputs (R86 to R90): a PPS_IN edge is stamped on its base, and disciplines a base armed with PPS_IN that
has taken its step; its loss is told once; a TOD_IN line that is bad or late is counted and discarded; CLK10M_IN locks Thermos while
it is enabled, and its loss is told; PPS_OUT rises and a TOD_OUT line is sent while the outputs are enabled. -/
def Obligations.TimingInputsAndMessages : Prop :=
  ((∀ (s : State) (tb port kind : Nat), tb < 4 → port < 16 → kind ≤ 3 → (s.base tb).inst.role ≠ 0 → hasBit (s.base tb).inst.ports port = true →
    (s.port port).link = true → (kind < 2 → (s.base tb).inst.slaveOnly = false) → (kind = 2 → (s.base tb).inst.mech ≠ 1) →
    (kind = 3 → (s.base tb).inst.mech ≠ 0) →
    let key := (port * 4 + tb) * 4 + kind
    let tm : Time := { s.time with ptpSeq := tset s.time.ptpSeq key ((tgetD s.time.ptpSeq key 0 + 1) % 65536) }
    let u := State.ptpQueue { s with time := tm } (s.base tb).inst port kind
    exec (.ptpMessageTx tb port kind) s = .next (if 2 ≤ kind then u.modBase tb fun b => { b with t3 := some b.val } else u)) ∧
  (∀ (s : State) (tb : Nat), tb < 4 → (s.base tb).master ≠ none →
    exec (.ptpMasterLost tb) s =
      .next (((s.tbHoldover tb).modBase tb fun b => { b with master := none, newMeas := 0 }).postAll { code := 0x0203, obj := tb, d0 := 0 })) ∧
  (∀ (s : State) (a b : Nat) (m : Ptp) (i e : Int), a < 16 → b < 16 → hasBit s.time.tcPorts a = true → hasBit s.time.tcPorts b = true →
    a ≠ b → s.ptpTerminates m.domain = false → PtpBody.isEvent m.body = true →
    exec (.ptpTcFrame a b m i e) s = .next { s with time := { s.time with tcOut := some (b, m.correction + (e - i)) } })) ∧
  ((∀ (s : State), let n := s.time.ppsInTb
    let off := fromSecond (s.base n).val
    let tm : Time := { s.time with ppsIn := some (s.time.ref, (s.base n).val), ppsInLost := false, ppsInOffset := off }
    let u : State := { s with time := tm }
    (((s.base n).arm ≠ some 1 ∨ (s.base n).st = 1) → exec .ppsInEdge s = .next u) ∧
    ((s.base n).arm = some 1 → (s.base n).st ≠ 1 → exec .ppsInEdge s = .next (u.measure n off))) ∧
  (∀ (s : State) (r v : Nat), s.time.ppsIn = some (r, v) → s.time.ppsInLost = false → r + 2 * secU < s.time.ref →
    NextWith (exec .ppsInLost s) fun t => t.time.ppsInLost = true ∧ t.legs = s.legs ∧ t.mem = s.mem ∧
      ((s.base s.time.ppsInTb).arm ≠ some 1 → t.time = { s.time with ppsInLost := true })) ∧
  (∀ (s : State) (bs : List Byte) (ms : Nat), (s.time.ppsIn = none ∨ bs.length ≠ 43 ∨ 900 < ms) →
    exec (.todInLine bs ms) s = .next (s.occur srcTodInBad {})) ∧
  (∀ (s : State) (bs : List Byte) (ms r v : Nat), s.time.ppsIn = some (r, v) → todOk bs = true → ms ≤ 900 →
    (s.base s.time.ppsInTb).arm = some 1 → (s.base s.time.ppsInTb).st = 1 →
    exec (.todInLine bs ms) s = .next (s.measure s.time.ppsInTb ((v : Int) - (decNat ((bs.drop 7).take 15) * secU : Nat)))) ∧
  (∀ (s : State), s.time.clk10En = true → exec .clk10mInPresent s = .next { s with time := { s.time with clk10 := true } }) ∧
  (∀ (s : State), s.time.clk10 = true →
    exec .clk10mInLost s = .next (State.postAll { s with time := { s.time with clk10 := false } } { code := 0x0203, obj := 0, d0 := 2 })) ∧
  (∀ (s : State), s.time.outEn = true →
    let sec := (((s.base s.time.ppsOutTb).val : Int) + s.time.ppsCable * 65536).toNat / secU
    (s.time.ppsOutAt ≠ some sec →
      exec .ppsOutEdge s = .next { s with time := { s.time with ppsOutAt := some sec }, pins := { s.pins with ppsOut := true } }) ∧
    exec .todOutLine s = .next { s with time := { s.time with todLine := s.todText s.time.todOutTb } }))

/-- The link of a port (R354, R358, R365): LINK_UP on a configured port in service sets the link and every lane's block lock, LINK_DOWN
clears the link and discards the transmit queues, and each posts EV_PORT_LINK; a release that ends answers E_OK, and a restore
E_OK with the link up or E_TIMEOUT 0x0301 after 2,000 ms without it.

The commands on a port (R363 to R366): PORT.CONFIG without a change of mode only writes the settings, and with one takes the link
down and starts the port and its counters afresh; PORT.STATUS gives its seven words and may clear the counters;
PORT.RELEASE and PORT.RESTORE start their operations. -/
def Obligations.Ports : Prop :=
  ((∀ (s : State) (n : Nat), n < 16 → (s.port n).cfg.mode ≠ 0 → (s.port n).released = false → (s.port n).link = false →
    exec (.linkUp n) s = .next ((s.modPort n fun p =>
      { p with link := true, locked := 2 ^ modeLanes p.cfg.mode - 1, upCause := 0 }).linkEvent n 1 (s.port n).upCause)) ∧
  (∀ (s : State) (n : Nat), n < 16 → (s.port n).link = true →
    ∃ k, exec (.linkDown n) s = .next (((((s.modPort n fun p => { p with link := false, wire := none, upCause := 0, cnt :=
        { p.cnt with linkDowns := min 65535 (p.cnt.linkDowns + 1) } }).linkEvent n 0 0).dropTq n).draw
          (2 ^ modeLanes (s.port n).cfg.mode)).2.modPort n fun p => { p with locked := k })) ∧
  (∀ (s : State) (n : Nat) (o : LongOp), n < 16 → s.findOp 0x0303 (fun o => o.a == n) = some o → (s.port n).fwPending = false →
    (∀ k a, k < 4 → (s.base k).master = some a → a.port ≠ n) →
    exec (.portReleaseComplete n) s = .next ((s.modPort n fun p => { p with op := 0, fwPending := false }).opDone o 0 0)) ∧
  (∀ (s : State) (n : Nat) (o : LongOp), n < 16 → s.findOp 0x0304 (fun o => o.a == n) = some o →
    ((s.port n).link = true → exec (.portRestoreComplete n true) s = .next ((s.modPort n fun p => { p with op := 0 }).opDone o 0 0)) ∧
    ((s.port n).link = false → o.since + 2000 ≤ s.time.m →
      exec (.portRestoreComplete n false) s = .next ((s.modPort n fun p => { p with op := 0 }).opDone o 12 0x0301)))) ∧
  ((∀ (s : State) (c : Ctx) (rest : List Cmd) (n : Nat) (cfg : PortCfg), AtHead s c 0x0301 rest → n = c.f 1 0 4 →
    cfg = { mode := c.f 1 4 3, errDeliver := c.bit 1 7, lt := c.bit 1 8, hostPf := c.f 1 9 1, slowClass := c.f 1 10 3, mac := c.f 2 0 16 * 2 ^ 32 + c.f 3 0 32 } →
    c.f 1 13 19 = 0 → c.f 2 16 16 = 0 → cfg.mode ≠ 7 → n % modeStep cfg.mode = 0 → cfg.slowClass ≠ 7 →
    (cfg.mode ≠ 0 → cfg.mac ≠ 0 ∧ hasBit cfg.mac 40 = false) → s.portBusy n = none →
    (cfg.mode = (s.port n).cfg.mode → Answers (exec (.portConfig c.ch) s) ((s.popped c rest).modPort n fun p => { p with cfg := cfg }) c 0 0 []) ∧
    (cfg.mode ≠ (s.port n).cfg.mode → s.portUsed n = false → s.lanesTaken n cfg.mode = false → (s.port n).released = false →
      Answers (exec (.portConfig c.ch) s)
        (((s.popped c rest).linkLost n 1).modPort n fun p => { p with cfg := cfg, cnt := {}, locked := 0 }).serdes c 0 0 [])) ∧
  (∀ (s : State) (c : Ctx) (rest : List Cmd) (p : Port), AtHead s c 0x0302 rest → c.f 1 5 27 = 0 → p = s.port (c.f 1 0 4) →
    Answers (exec (.portStatus c.ch) s)
      (if (c.bit 1 4 && (isPF c.issuer || c.issuer == 0xC8)) = true then (s.popped c rest).modPort (c.f 1 0 4) fun p => { p with cnt := {} } else s.popped c rest)
      c 0 0 [p.cfg.mode + 8 * b2n p.link + 16 * b2n p.released + 32 * b2n p.cfg.errDeliver + 256 * p.locked + 65536 * p.cnt.linkDowns,
        p.cnt.fecCorr, p.cnt.fecUncorr, p.cnt.fcs, p.cnt.runt + 65536 * p.cnt.oversize, p.cnt.code + 65536 * p.cnt.macCtrl, p.cnt.txLinkDown]) ∧
  (∀ (s : State) (c : Ctx) (rest : List Cmd) (n : Nat), n = c.f 1 0 4 → c.f 1 4 28 = 0 → s.portBusy n = none → s.outstanding c.issuer < 256 →
    (AtHead s c 0x0303 rest → (s.port n).cfg.mode ≠ 0 → (s.port n).released = false →
      Answers (exec (.portRelease c.ch) s) ((((s.popped c rest).accept c.issuer c.tag 0x0303 n 0 0).2.modPort n fun p =>
        { p with released := true, op := 1, locked := 0 }).linkLost n 2) c 5 (s.fn c.issuer).nextHandle []) ∧
    (AtHead s c 0x0304 rest → (s.port n).released = true →
      Answers (exec (.portRestore c.ch) s) (((s.popped c rest).accept c.issuer c.tag 0x0304 n 0 0).2.modPort n fun p =>
        { p with released := false, op := 2, upCause := 2 }) c 5 (s.fn c.issuer).nextHandle [])))

/-- FRAME_RX (R355 to R357): a port that is off, released or without link receives nothing; a frame for another address counts
RX_MAC_FILTER; a damaged frame is counted and, with ERR_DELIVER, written to ring 2; a good one is taken by what it carries,
and MAC control frames and frames of more than one VLAN tag are counted and dropped. The FEC codewords that it met are
counted in every case that receives it.

An IP packet that a port has received (R125, R148 to R151): one that fails the parser's checks is dropped and counted, and so
is one that no leg's 5-tuple matches and one of a leg that is not receiving; a packet of a LIVE leg is counted on it and
policed, and RTP that conforms enters the cipher farm's queue, while STUN and DTLS go to the leg's creator and a packet
above the rate counts POLICE_DROP.

SPTX_SLOT_SEND (R361): the slot at HEAD of an enabled transmit ring is taken and HEAD advances; a slot of a bad length counts
SLOW_TX_BAD, one that a VF may not send SLOW_TX_DENIED, and another is sent, on its port when it names no leg. On a
stopped or empty ring nothing happens. -/
def Obligations.Reception : Prop :=
  ((∀ (s : State) (n : Nat) (f : Frame), n < 16 → (Instr.frameRx n f).wf = true → ((s.port n).cfg.mode = 0 ∨ (s.port n).released = true ∨ (s.port n).link = false) →
    exec (.frameRx n f) s = .next s) ∧
  (∀ (s u : State) (n : Nat) (f : Frame), n < 16 → (Instr.frameRx n f).wf = true → (s.port n).cfg.mode ≠ 0 → (s.port n).released = false →
    (s.port n).link = true → u = s.countFec n f →
    (u.accepts n f.dstMac = false → exec (.frameRx n f) s = .next (u.occur srcRxMacFilter { unit := some n })) ∧
    (u.accepts n f.dstMac = true → frameFlags f ≠ (false, false, false, false) →
      ((u.countBad n (frameFlags f)).port n).cfg.errDeliver = false → exec (.frameRx n f) s = .next (u.countBad n (frameFlags f))) ∧
    (u.accepts n f.dstMac = true → frameFlags f = (false, false, false, false) →
      (f.body = .macControl → exec (.frameRx n f) s = .next ((u.modPort n fun p => { p with cnt :=
        { p.cnt with macCtrl := min 65535 (p.cnt.macCtrl + 1) } }).occur srcRxMacCtrl { unit := some n })) ∧
      (f.body ≠ .macControl → 1 < f.tags.length → exec (.frameRx n f) s = .next (u.occur srcRxParseDrop { unit := some n })) ∧
      (f.body = .lldp → f.tags.length < 2 → exec (.frameRx n f) s = .next (u.slowRx n 4 f)) ∧
      (∀ mac a b, f.body = .arp true mac a b → f.tags = [] → a ≠ b → u.answersFor n none false b = true →
        exec (.frameRx n f) s = .next (u.ownFrame n 60 1 b)) ∧
      (∀ mac a, f.body = .nd true false mac a → f.tags = [] → u.answersFor n none true a = true →
        exec (.frameRx n f) s = .next (u.ownFrame n 86 1 a)) ∧
      (∀ m, f.body = .ptp m → f.tags.length < 2 → exec (.frameRx n f) s = .next (u.ptpRx n m))))) ∧
  (∀ (s u : State) (n : Nat) (f : Frame) (fl : Flow5) (k : IpChecks) (len : Nat) (p : Payload), n < 16 → (Instr.frameRx n f).wf = true →
    (s.port n).cfg.mode ≠ 0 → (s.port n).released = false → (s.port n).link = true → u = s.countFec n f → u.accepts n f.dstMac = true →
    frameFlags f = (false, false, false, false) → f.tags = [] → f.body = .ip fl k len p →
    (∀ src, parseDrop fl.ipv6 k len = some src → exec (.frameRx n f) s = .next (u.occur src { unit := some n })) ∧
    (parseDrop fl.ipv6 k len = none → u.classify n { fl with vlan := none } = none → exec (.frameRx n f) s = .next (u.occur srcRxNoLeg { unit := some n })) ∧
    (∀ (leg : Nat) (l : Leg) (v : State), parseDrop fl.ipv6 k len = none → u.classify n { fl with vlan := none } = some (leg, l) →
      v = u.setLeg leg (l.countRx f.bytes) →
      (l.state = 0 ∨ l.state = 2 → exec (.frameRx n f) s = .next (v.occur srcRxLegNotLive (v.occLeg leg))) ∧
      (∀ q : Policer, l.state ≠ 0 → l.state ≠ 2 → l.policer.police v.time.ref (wireLen (v.port n).overhead f.bytes) = (true, q) →
        (∀ r b, p = .rtp r b → r.version = 2 → r.extBytes ≤ 256 → exec (.frameRx n f) s =
          .next (let w := v.modLeg leg fun l => { l with policer := q }
            { w with inQ := w.inQ ++ [⟨n, leg, l.gen, len, f.bytes, s.time.ref, s.time.m, p⟩] })) ∧
        (∀ first m, p = .raw first m → 20 ≤ first → first ≤ 63 → exec (.frameRx n f) s =
          .next ((v.modLeg leg fun l => { l with policer := q }).slowLeg n 1 f leg l))) ∧
      (∀ q : Policer, l.state ≠ 0 → l.state ≠ 2 → l.policer.police v.time.ref (wireLen (v.port n).overhead f.bytes) = (false, q) →
        exec (.frameRx n f) s = .next (let w := v.modLeg leg fun l => { l with policer := q }
          State.occur (w.modLeg leg fun l => { l with stats := { l.stats with policeDrop := min (l.stats.policeDrop + 1) 0xFFFFFFFF } })
            srcPoliceDrop (w.occLeg leg))))) ∧
  (∀ (s u : State) (fn : Nat) (x : SlowSlot) (r : PktRing), (Instr.sptxSlotSend fn x).wf = true → r = (s.fn fn).rings.getD 1 {} →
    u = (s.modFn fn fun g => g.modRing 1 fun r => { r with head := (r.head + 1) % r.size }) →
    (r.en = false ∨ r.head % r.size = r.tail % r.size → exec (.sptxSlotSend fn x) s = .next s) ∧
    (r.en = true → r.head % r.size ≠ r.tail % r.size →
      ((x.len < 14 ∨ 9018 < x.len ∨ r.slotBytes - 64 < x.len) → exec (.sptxSlotSend fn x) s = .next (u.occur srcSlowTxBad { unit := some x.port })) ∧
      (14 ≤ x.len → x.len ≤ 9018 → x.len ≤ r.slotBytes - 64 →
        (isPF fn = false → u.vfMaySend fn x = false → exec (.sptxSlotSend fn x) s = .next (u.occur srcSlowTxDenied { unit := some x.port })) ∧
        (isPF fn = true → x.legValid = false → exec (.sptxSlotSend fn x) s =
          .next (u.modPort x.port fun p => { p with slowQ := p.slowQ ++ [{ len := max 60 x.len, own := some (3, 0) }] })) ∧
        (∀ l, u.vfMaySend fn x = true → u.leg x.leg = some l → l.yielded = false → x.legValid = true → l.gen = x.gen →
          exec (.sptxSlotSend fn x) s = .next (u.enqueueLeg x.leg (slowPkt x) (max 60 x.len))))))

/-- TICK_BOUNDARY (R98, R99, R110) runs the boundary's work at the next millisecond boundary of the base that drives the ticks: M
there is the one that follows the millisecond in which the base stands, none skipped and none repeated, while the base
runs within a factor of two of its nominal rate. TICK_SOURCE_SWITCH (R102) does nothing while the selected base drives the ticks; otherwise the
selected base drives them from its own boundary on, and EV_TICK_SOURCE names both. -/
def Obligations.TickBoundaries : Prop :=
  (∀ s : State, exec .tickBoundary s = .next (s.toBoundary s.time.drv).boundaryWork) ∧
  (∀ (s : State) (n : Nat), n < s.time.bases.length → -1000000000000 < (s.base n).rate → (s.base n).rate < 1000000000000 →
    0 ≤ (s.base n).rem → (s.base n).rem < 1000000000000 →
    (s.toBoundary n).time.m = (s.base n).val / msU + 1 ∧ s.time.ref ≤ (s.toBoundary n).time.ref ∧
      (s.toBoundary n).time.drv = s.time.drv ∧ (s.toBoundary n).trail = s.trail ∧ (s.toBoundary n).legs = s.legs) ∧
  (∀ s : State, (s.time.sel = s.time.drv → exec .tickSourceSwitch s = .next s) ∧
    (∀ tm : Time, s.time.sel ≠ s.time.drv → tm = { (s.toBoundary s.time.sel).time with drv := s.time.sel } →
      exec .tickSourceSwitch s = .next (State.boundaryWork (State.postAll { s.toBoundary s.time.sel with time := tm }
        { code := 0x0204, obj := s.time.sel, d0 := s.time.drv, d1 := tm.m % 2 ^ 32 }))))

/-- Trailhead serves items (R105 to R107, R109): an idle core whose cluster is in service, and below which no core of the cluster
is idle, takes the first item in the order of service that may run there; the item in service is the core's until it
completes, when the flow's next waiting item becomes ready; the due entries of a delay list fire and leave the list.

DUE_POINT_REACHED (R112) leaves no item that passed its due point in a ready list, but for the timers' and RTCP's that it
releases again, and changes no leg, port or conference. PLACEMENT_PASS (R114) runs at boundaries whose M is a multiple of 100, once each,
and starts the clusters' overrun counts afresh; EXTRA_PLACEMENT_PASS (R415) looks at the buddy once, at the boundary after the takeover. -/
def Obligations.TrailheadItems : Prop :=
  ((∀ (s : State) (core : Nat) (i : Item), core < 192 → tget s.trail.cores core = none →
    (∀ k, k < core → core / 4 = k / 4 → (tget s.trail.cores k).isSome = true) → (s.cluster (core / 4)).inService = true →
    s.trail.copies.getD s.trail.active false = true → (s.order (s.placeOfCore core)).find? (s.mayRun (s.placeOfCore core)) = some i →
    exec (.trailheadDispatch core) s = .next (s.serve core i) ∧ tget (s.serve core i).trail.cores core = some i) ∧
  (∀ (s : State) (core : Nat), core < 192 →
    ((tget s.trail.cores core).isSome = true ∨ (s.cluster (core / 4)).inService = false ∨ s.trail.copies.getD s.trail.active false = false ∨
      (s.order (s.placeOfCore core)).find? (s.mayRun (s.placeOfCore core)) = none) → exec (.trailheadDispatch core) s = .next s) ∧
  (∀ (s u : State) (core : Nat) (i : Item) (f : Flow), core < 192 → tget s.trail.cores core = some i → tget s.trail.flows i.flow = some f →
    u = { s with trail := { s.trail with cores := tdel s.trail.cores core } } →
    (i.epoch = f.epoch → f.protect = false → exec (.itemComplete core) s =
      .next ((u.setFlow i.flow { f with serving := none }).wake i.flow { f with serving := none })) ∧
    (i.epoch ≠ f.epoch → f.marker = none → exec (.itemComplete core) s =
      .next (((u.occur srcEpochDiscard (u.occFlow (core / 4) f.owner)).setFlow i.flow { f with serving := none }).wake i.flow { f with serving := none }))) ∧
  (∀ (s : State) (core : Nat), core < 192 → tget s.trail.cores core = none → exec (.itemComplete core) s = .next s) ∧
  (∀ (s : State) (l : Nat), l < 4 → (∀ e ∈ s.trail.lost, e.what.list ≠ l) →
    exec (.delayEntryDue l) s = .next (((s.trail.delays.getD l []).filter fun e => decide (e.due ≤ s.time.m)).foldl (fun t e => t.fire e.what)
      { s with trail := { s.trail with delays := s.trail.delays.set l ((s.trail.delays.getD l []).filter fun e => !decide (e.due ≤ s.time.m)) } }))) ∧
  ((∀ (s : State) (p : Nat), p < 3 → NextWith (exec (.duePointReached p) s) fun t =>
    t.legs = s.legs ∧ t.ports = s.ports ∧ t.confs = s.confs ∧ t.time = s.time ∧ t.ctl = s.ctl ∧
    ((∀ i ∈ s.unstarted, i.work ≠ .timer ∧ i.work ≠ .rtcp) → ∀ i ∈ t.trail.ready.flatten, i.dueAt p s.time.m = false)) ∧
  (∀ (s : State) (ls : List ClusterLoad), (Instr.placementPass ls).wf = true →
    ((s.time.m % 100 ≠ 0 ∨ s.trail.lastPass = some s.time.m) → exec (.placementPass ls) s = .next s) ∧
    (s.time.m % 100 = 0 → s.trail.lastPass ≠ some s.time.m → NextWith (exec (.placementPass ls) s) fun t =>
      t.trail.lastPass = some s.time.m ∧ ∀ c, c < 48 → (t.cluster c).overRuns = 0 ∧ (t.cluster c).busy = (ls.getD c ⟨0, []⟩).busy)) ∧
  (∀ (s : State) (cl t : Nat), cl < 48 →
    ((s.cluster cl).extraAt = none → exec (.extraPlacementPass cl) s = .next s) ∧
    ((s.cluster cl).extraAt = some t → s.time.m ≤ t → exec (.extraPlacementPass cl) s = .next s) ∧
    (∀ u, (s.cluster cl).extraAt = some t → t < s.time.m → u = (s.modCluster cl fun c => { c with extraAt := none }) →
      exec (.extraPlacementPass cl) s = .next (State.relieve cl (sortBy (fun a b => decide (b.2.cycles < a.2.cycles)) (u.flowsOn cl)) 64 u))))

/-- CL.LOCK (R120) with clusters in service that no group holds, whose flows all find places elsewhere, is accepted, and answers
E_NOSPACE 0x0401 where they do not; CL_LOCK_COMPLETE makes them a group once every flow has left them, and waits until then.

DOMAIN_FAULT (R466): the domain goes off with its PD_FAULT bit set, and what it powers fails: a cluster, a composer, the whole
module for an HBM stack, the links of a line domain, a hub half, a Trailhead copy, a PCIe link; a quadrant fabric's domain only. -/
def Obligations.LockedGroupsAndDomains : Prop :=
  ((∀ (s : State) (c : Ctx) (rest : List Cmd) (first size : Nat) (ns : List Nat), AtHead s c 0x1201 rest → c.f 1 8 24 = 0 →
    first = c.f 1 0 6 → size = c.f 1 6 2 → first < 48 → (size = 1 ∧ first % 2 = 0 ∨ size = 2 ∧ first % 4 = 0) →
    ns = s.lockNames first size → (∀ k ∈ ns, (s.cluster k).group = none ∧ (s.cluster k).inService = true) → s.drainer ns = none →
    (State.moveAll ns (ns.flatMap s.flowsOn) (s.popped c rest) = none →
      Answers (exec (.clLock c.ch) s) (s.popped c rest) c 3 0x0401 []) ∧
    (∀ t, State.moveAll ns (ns.flatMap s.flowsOn) (s.popped c rest) = some t → t.outstanding c.issuer < 256 →
      Answers (exec (.clLock c.ch) s) (ns.foldl (fun t' k => t'.modCluster k fun x => { x with drain := some (c.issuer, (t.fn c.issuer).nextHandle) })
        (t.accept c.issuer c.tag 0x1201 first size 0).2) c 5 (t.fn c.issuer).nextHandle [])) ∧
  (∀ (s : State) (first : Nat) (o : LongOp) (ns : List Nat), first < 48 → s.findOp 0x1201 (fun o => o.a == first) = some o → ns = s.lockNames first o.b →
    ((∃ p ∈ s.trail.flows, p.2.place ∈ ns) → exec (.clLockComplete first) s = .next s) ∧
    ((∀ p ∈ s.trail.flows, p.2.place ∉ ns ∧ ∀ m, p.2.marker = some m → m.cluster ∉ ns) → exec (.clLockComplete first) s =
      .next (((ns.foldl (fun s k => s.modCluster k fun x => { x with group := if o.b = 0 then none else some (first, ns.length) }) s).undrain o).opDone o 0 0)))) ∧
  (∀ (s u : State) (d : Nat), d < 80 → u = s.domainOff d true →
    (s.power.pdFault.contains d = false → u.power.pdFault = s.power.pdFault ++ [d] ∧ u.power.pdOn.contains d = false) ∧
    (d < 48 → exec (.domainFault d) s = .next (u.failCluster d 0).powerOffs) ∧
    (48 ≤ d → d < 52 → exec (.domainFault d) s = .next u) ∧
    (52 ≤ d → d < 56 → exec (.domainFault d) s = .next (u.failComposer (d - 52) 0)) ∧
    (56 ≤ d → d < 60 → exec (.domainFault d) s = .next (u.stopModule false)) ∧
    (60 ≤ d → d < 68 → exec (.domainFault d) s = .next ((u.domainPorts (d - 60)).foldl (fun s n => s.linkLost n 0) u)) ∧
    (72 ≤ d → d < 74 → exec (.domainFault d) s = .next (u.failHalf (d - 72) 0)) ∧
    (74 ≤ d → d < 76 → exec (.domainFault d) s = .next (u.pairFault (d - 74))) ∧
    (76 ≤ d → d < 78 → exec (.domainFault d) s = .next (u.failTrail (d - 76) 0)) ∧
    (78 ≤ d → exec (.domainFault d) s = .next { u with pins := { s.pins with pcie := s.pins.pcie.set (d - 78) false } }))

/-- A link group comes up (R374, R376): equalised lanes go from state 1 to 2 and HELLO is sent; a HELLO of the right peer gives its
credits and is acknowledged; HELLO_ACK of the right peer brings the group UP at the widest mask of its good lanes, and another identity
leaves it in HELLO with one EV_CASC_GROUP of cause 1; three missed heartbeats or a lost signal take an UP group DOWN, and a DOWN group trains again.

HEARTBEAT_SEND queues one heartbeat on an UP group, counts a tick without one as missed, and starts the tick's measurement afresh; HEARTBEAT
from the peer expected sets HB_TICK and ends the run of misses, and the path delay takes the last 16 while both ends are LOCKED; one
from another source changes nothing (R375, R376). -/
def Obligations.LinkGroups : Prop :=
  ((∀ (s : State) (g : Nat), g < 16 →
    ((s.group g).st = 1 → exec (.laneEqualisationDone g) s = .next (s.modGroup g fun x => { x with st := 2 })) ∧
    ((s.group g).st ≠ 1 → exec (.laneEqualisationDone g) s = .next s) ∧
    ((s.group g).st = 2 → exec (.helloSend g) s = .next (s.sendCtl g { op := 0 })) ∧
    ((s.group g).st = 4 → (s.group g).fwPending = false → exec (.cascGroupRetry g) s = .next (s.modGroup g LinkGroup.train)) ∧
    ((s.group g).st ≠ 4 → exec (.cascGroupRetry g) s = .next s)) ∧
  (∀ (s : State) (g : Nat) (cr : List Nat), (Instr.hello g s.casc.fedId (s.group g).peer cr).wf = true →
    ((s.group g).st = 2 ∨ (s.group g).st = 3) → (s.group g).cells.hello = [] →
    exec (.hello g s.casc.fedId (s.group g).peer cr) s =
      .next (((s.modGroup g fun x => { x with mismatch := false }).modCells g fun c => c.credit cr).sendCtl g { op := 1 })) ∧
  (∀ (s : State) (g fed mod : Nat), (Instr.helloAck g fed mod).wf = true → (s.group g).st = 2 →
    (fed = s.casc.fedId → mod = (s.group g).peer → NextWith (exec (.helloAck g fed mod) s) fun t => t = s.groupIsUp g ∧
      ((t.group g).st = 3 ∧ (t.group g).active = widest (s.group g).good ∧ (t.group g).peer = (s.group g).peer)) ∧
    ((fed ≠ s.casc.fedId ∨ mod ≠ (s.group g).peer) → (s.group g).mismatch = false → exec (.helloAck g fed mod) s =
      .next ((s.modGroup g fun x => { x with mismatch := true }).groupEvent g 2 1))) ∧
  (∀ (s : State) (g : Nat) (signal : Bool), g < 16 →
    ((s.group g).st = 3 → (signal = true ∨ 3 ≤ (s.group g).hbRun) → exec (.peerLost g signal) s = .next (s.groupDown g signal)) ∧
    (((s.group g).st ≠ 3 ∨ signal = false ∧ (s.group g).hbRun < 3) → exec (.peerLost g signal) s = .next s))) ∧
  ((∀ (s : State) (g : Nat), g < 16 → (s.group g).st = 3 → NextWith (exec (.heartbeatSend g) s) fun t =>
    (t.group g).tickCells = 0 ∧ (t.group g).hbSeen = false ∧ (t.group g).hbRun = (if (s.group g).hbSeen then 0 else (s.group g).hbRun + 1) ∧
    (t.group g).hbMissed = (s.group g).hbMissed + (if (s.group g).hbSeen then 0 else 1) ∧
    ∃ l, (t.group g).cells.vc0 = (s.group g).cells.vc0 ++ { op := 8 } :: l) ∧
  (∀ (s : State) (g : Nat) (h : Heartbeat), (Instr.heartbeat g h).wf = true →
    (((s.group g).st ≠ 3 ∨ h.src ≠ (s.group g).peer ∨ h.fedId ≠ s.casc.fedId) → exec (.heartbeat g h) s = .next s) ∧
    ((s.group g).st = 3 → h.src = (s.group g).peer → h.fedId = s.casc.fedId → NextWith (exec (.heartbeat g h) s) fun t =>
      (t.group g).hbSeen = true ∧ (t.group g).hbRun = 0 ∧ (t.group g).hbTick = h.hbTick ∧
      ((s.base 0).st = 3 → h.tbState = 3 → (t.group g).delays =
        let ds := (s.group g).delays ++ [h.recvTime - h.sendTime]; ds.drop (ds.length - 16)) ∧
      (((s.base 0).st ≠ 3 ∨ h.tbState ≠ 3) → (t.group g).delays = []))))

/-- CELL_RX (R369, R370): a damaged or out-of-sequence cell is discarded and counted, and the first of a run asks for the expected
cell; the expected cell is accepted, its acknowledgement frees the cells kept, and the next number is expected; RETRY_REPEAT
asks again while the cell is missing; RETRY resends from a cell that is kept, and re-initialises the layer otherwise.

CELL_TX (R369 to R371): cells asked for again go first; with 1,024 unacknowledged, or nothing ready, IDLE goes without taking a number;
a new cell is chosen by the priority VC0, VC2, VC3, VC1 with a credit, takes the next SEQ modulo 2^16, and is kept. -/
def Obligations.Cells : Prop :=
  ((∀ (s : State) (g : Nat) (x : Cell), (Instr.cellRx g x).wf = true → ((s.group g).st = 2 ∨ (s.group g).st = 3) →
    (x.crcOk = false → exec (.cellRx g x) s = .next (s.discardCell g srcCascCrc)) ∧
    (x.crcOk = true → x.typ = 0 → exec (.cellRx g x) s = .next (s.modCells g fun c => c.heard x)) ∧
    (x.crcOk = true → x.typ ≠ 0 → x.seq ≠ (s.group g).cells.expSeq → exec (.cellRx g x) s = .next (s.discardCell g srcCascOos)) ∧
    (x.crcOk = true → x.typ ≠ 0 → x.seq = (s.group g).cells.expSeq → NextWith (exec (.cellRx g x) s) fun t =>
      (t.group g).cells.expSeq = (x.seq + 1) % 65536 ∧ (t.group g).cells.ackSeq = x.ack ∧ (t.group g).cells.retryDue = false ∧
      (∀ k ∈ (t.group g).cells.kept, k ∈ (s.group g).cells.kept ∧ seqBefore k.1 x.ack = false) ∧
      (∀ h, h ≠ g → t.group h = s.group h) ∧ t.legs = s.legs ∧ t.ports = s.ports)) ∧
  (∀ (s : State) (g src : Nat), (s.group g).cells.retryDue = false → ((s.discardCell g src).group g).cells.retryDue = true ∧
    ((s.discardCell g src).group g).cells.vc0 = (s.group g).cells.vc0 ++ [{ op := 2, retrySeq := (s.group g).cells.expSeq }]) ∧
  (∀ (s : State) (g : Nat), g < 16 →
    ((s.group g).cells.retryDue = true → exec (.retryRepeat g) s = .next (s.askRetry g)) ∧
    ((s.group g).cells.retryDue = false → exec (.retryRepeat g) s = .next s)) ∧
  (∀ (s : State) (g n : Nat), (Instr.retry g n).wf = true → ((s.group g).st = 2 ∨ (s.group g).st = 3) → n ≠ (s.group g).cells.nextSeq →
    ((∃ k ∈ (s.group g).cells.kept, k.1 = n) → exec (.retry g n) s = .next (s.modGroup g fun x =>
      { x with replays := x.replays + 1, cells := { x.cells with replay := x.cells.kept.filter fun k => !seqBefore k.1 n } })) ∧
    ((∀ k ∈ (s.group g).cells.kept, k.1 ≠ n) → exec (.retry g n) s = .next (s.reinit g)))) ∧
  (∀ (s : State) (g n cr : Nat) (c : CellLayer), g < 16 → ((s.group g).st = 2 ∨ (s.group g).st = 3) → (s.group g).next = none →
    (s.group g).cells.returnCredits = (n, cr, c) →
    (∀ k ks, c.replay = k :: ks → NextWith (exec (.cellTx g) s) fun t => (t.group g).cells.replay = ks ∧ (t.group g).cells.nextSeq = c.nextSeq ∧
      ∃ x, (t.group g).cells.lastTx = some x ∧ x.seq = k.1 ∧ x.ack = c.expSeq ∧ x.crVc = n ∧ x.crCount = cr) ∧
    (c.replay = [] → (1024 ≤ c.kept.length ∨ c.choose ((s.group g).st == 3) = none) → NextWith (exec (.cellTx g) s) fun t =>
      (t.group g).cells.nextSeq = c.nextSeq ∧ (t.group g).cells.kept = c.kept ∧ (t.group g).winCells = (s.group g).winCells ∧
      ∃ x, (t.group g).cells.lastTx = some x ∧ x.typ = 0 ∧ x.seq = c.nextSeq) ∧
    (∀ h, c.replay = [] → c.kept.length < 1024 → c.choose ((s.group g).st == 3) = some h → NextWith (exec (.cellTx g) s) fun t =>
      (t.group g).cells.nextSeq = (c.nextSeq + 1) % 65536 ∧ (t.group g).cells.kept = c.kept ++ [(c.nextSeq, h.vc)] ∧
      (t.group g).winCells = (s.group g).winCells + 1 ∧ ∃ x, (t.group g).cells.lastTx = some x ∧ x.typ = h.typ ∧ x.vc = h.vc ∧ x.seq = c.nextSeq) ∧
    (∀ m ms, c.vc0 = m :: ms → ∃ h, c.choose ((s.group g).st == 3) = some h ∧ h.vc = 0 ∧ h.cells.vc0 = ms) ∧
    (c.vc0 = [] → (s.group g).st = 3 → c.vc2 ≠ [] → 0 < c.cr2 → ∃ h, c.choose true = some h ∧ h.vc = 2 ∧ h.cells.cr2 = c.cr2 - 1) ∧
    (c.vc0 = [] → (s.group g).st = 3 → (c.vc2 = [] ∨ c.cr2 = 0) → c.vc3 ≠ [] → 0 < c.cr3 → ∃ h, c.choose true = some h ∧ h.vc = 3) ∧
    (c.vc0 = [] → (s.group g).st = 3 → (c.vc2 = [] ∨ c.cr2 = 0) → (c.vc3 = [] ∨ c.cr3 = 0) → c.vc1 ≠ [] → 0 < c.cr1 →
      ∃ h, c.choose true = some h ∧ h.vc = 1))

/-- Width changes (R378 to R381): a window of 100 ticks that closes below 25 % proposes the lower width; a SHED_REQ is accepted
when forced or when this end's own window closed low too, and refused with the present mask otherwise; SHED_ACK with the mask asked for narrows
with WIDTH_COMMIT; a wake is asked for, answered when the lanes are locked, and takes effect at its AT_SEQ.

Lanes (R382): a good lane that fails posts EV_CASC_LANE with ERR 1 and leaves the good lanes; on an UP group that used it a forced SHED_REQ with the
widest mask of the others follows, and with none left the group goes DOWN; a lane that returns is good again and posts EV_CASC_LANE. An IP packet
of cascaded media is classified as one of the peer's RX_PORT (R377). -/
def Obligations.WidthsAndLanes : Prop :=
  ((∀ (s : State) (g : Nat), g < 16 → (s.group g).st = 3 → 100 ≤ (s.group g).winTicks →
    (4 * (s.group g).winCells < slotsPerTick (s.group g).width * (s.group g).winTicks → (s.group g).shed = true → 2 ≤ (s.group g).width →
      (s.group g).shedOut = none → (s.group g).wakeOut = none → (s.group g).next = none → exec (.shedWindowClose g) s =
        .next (((s.modGroup g fun x => { x with winCells := 0, winTicks := 0, ownClosed := true }).modGroup g fun x =>
          { x with shedOut := some (maskFor (s.group g).good ((s.group g).width / 2)) }).sendCtl g
            { op := 3, mask := maskFor (s.group g).good ((s.group g).width / 2) })) ∧
    (slotsPerTick (s.group g).width * (s.group g).winTicks ≤ 4 * (s.group g).winCells → exec (.shedWindowClose g) s =
      .next (s.modGroup g fun x => { x with winCells := 0, winTicks := 0, ownClosed := false }))) ∧
  (∀ (s : State) (g mask : Nat), (Instr.shedReq g mask true).wf = true → (s.group g).st = 3 →
    exec (.shedReq g mask true) s = .next ((s.modGroup g fun x => { x with shedOut := none }).narrow g 4 mask)) ∧
  (∀ (s : State) (g mask : Nat), (Instr.shedReq g mask false).wf = true → (s.group g).st = 3 → (s.group g).shedOut = none →
    ((s.group g).ownClosed = true → (s.group g).wakeOut = none → (s.group g).next = none → laneCount mask < (s.group g).width →
      exec (.shedReq g mask false) s = .next ((s.modGroup g fun x => { x with shedOut := none }).narrow g 4 mask)) ∧
    ((s.group g).ownClosed = false → exec (.shedReq g mask false) s =
      .next ((s.modGroup g fun x => { x with shedOut := none }).sendCtl g { op := 4, mask := (s.group g).active, atSeq := (s.group g).cells.nextSeq }))) ∧
  (∀ (s : State) (g mask at_ m : Nat), (Instr.shedAck g mask at_).wf = true → (s.group g).shedOut = some m →
    (mask = m → exec (.shedAck g mask at_) s = .next (((s.modGroup g fun x => { x with shedOut := none }).modGroup g fun x =>
      { x with peerNext := some (mask, at_) }).narrow g 7 mask)) ∧
    (mask ≠ m → exec (.shedAck g mask at_) s = .next (s.modGroup g fun x => { x with shedOut := none }))) ∧
  (∀ (s : State) (g mask at_ : Nat), (Instr.widthCommit g mask at_).wf = true → (s.group g).st = 3 →
    exec (.widthCommit g mask at_) s = .next (s.modGroup g fun x => { x with peerNext := some (mask, at_) })) ∧
  (∀ (s : State) (g mask : Nat), (Instr.wakeReq g mask).wf = true → (s.group g).st = 3 →
    exec (.wakeReq g mask) s = .next (s.modGroup g fun x => { x with wakeOut := some mask, shedOut := none })) ∧
  (∀ (s : State) (g mask : Nat), g < 16 → (s.group g).wakeOut = some mask → exec (.wakeLanesLocked g) s = .next (s.sendCtl g { op := 6, mask := mask })) ∧
  (∀ (s : State) (g mask : Nat), (Instr.wakeAck g mask).wf = true → (s.group g).st = 3 → (s.group g).wakeOut ≠ none →
    ∃ k, exec (.wakeAck g mask) s = .next (((s.draw 65).2.modGroup g fun x => { x with next := some (mask, k) }).sendCtl g { op := 7, mask := mask, atSeq := k }) ∧
      k = ((s.group g).cells.nextSeq + (s.draw 65).1) % 65536)) ∧
  ((∀ (s : State) (g lane : Nat), (Instr.laneFail g lane).wf = true → (s.group g).st ≠ 0 → hasBit (s.group g).good lane = true →
    NextWith (exec (.laneFail g lane) s) fun t => ((s.group g).st ≠ 3 ∨ (s.group g).good ≠ 2 ^ lane → t.legs = s.legs) ∧
      ((s.group g).st = 3 → (s.group g).good ≠ 2 ^ lane → (t.group g).st = 3 ∧ (t.group g).good = (s.group g).good - 2 ^ lane ∧
        (hasBit (s.group g).active lane = true → (t.group g).shedOut = some (widest ((s.group g).good - 2 ^ lane)) ∧
          (t.group g).cells.vc0 = (s.group g).cells.vc0 ++ [{ op := 3, mask := widest ((s.group g).good - 2 ^ lane), force := true }]))) ∧
  (∀ (s : State) (g lane : Nat), (Instr.laneFail g lane).wf = true → (s.group g).st = 0 → exec (.laneFail g lane) s = .next s) ∧
  (∀ (s : State) (g lane : Nat), (Instr.laneReturn g lane).wf = true → (s.group g).st ≠ 0 → hasBit (s.group g).good lane = false → (s.group g).fwStage = 0 →
    (s.busyHandle fun o => o.opcode == 0x0F01 && o.phase == 4 && o.a == 5 + 16 * (4 * g + lane)) = none →
    exec (.laneReturn g lane) s = .next (s.laneGood g lane)) ∧
  (∀ (s : State) (g n : Nat) (x : Peer) (f : Flow5) (k : IpChecks) (len : Nat) (p : Payload), (Instr.cascMediaRx g f k len p).wf = true →
    (s.casc.peers.find? fun x => x.2.group == g) = some (n, x) → (s.group g).st = 3 →
    ∃ fr : Frame, fr.body = .ip f k len p ∧ exec (.cascMediaRx g f k len p) s =
      .next (s.ipRx x.rxPort fr { f with vlan := if x.rxVlanEn then some x.rxVlan else none } k len p)) ∧
  (∀ (s : State) (g : Nat) (f : Flow5) (k : IpChecks) (len : Nat) (p : Payload), (Instr.cascMediaRx g f k len p).wf = true →
    (s.casc.peers.find? fun x => x.2.group == g) = none → exec (.cascMediaRx g f k len p) s = .next s))

/-- CASC.GROUP (R383, R385): OP 0 starts the bring-up of a group that is OFF, OP 1 takes it OFF, OP 2 sets SHED, OP 3 reports its words; the enable ends with
E_OK once the group is UP, and after 1,000 ms with E_TIMEOUT 0x0401, or with E_STATE 0x0403 where the peer announced another identity. CASC.PEER (R384)
sets the module's own identity, binds a peer and unbinds it. -/
def Obligations.CascadeCommands : Prop :=
  (∀ (s : State) (c : Ctx) (rest : List Cmd) (g : Nat), AtHead s c 0x0401 rest → g = c.f 1 0 4 → c.f 1 7 1 = 0 → c.f 1 12 20 = 0 →
    (c.f 1 4 2 = 3 → Answers (exec (.cascGroup c.ch) s) (s.popped c rest) c 0 0 (s.group g).words) ∧
    (s.groupBusy g = none →
      (c.f 1 4 2 = 0 → s.casc.self ≠ none → s.boundOther g (c.f 1 8 4) = false → (s.group g).st = 0 → s.outstanding c.issuer < 256 →
        Answers (exec (.cascGroup c.ch) s) (((((s.popped c rest).accept c.issuer c.tag 0x0401 g 0 0).2.trainGroup g).modGroup g fun x =>
          { x with peer := c.f 1 8 4, shed := c.bit 1 6, good := 15, again := false }).serdes) c 5 (s.fn c.issuer).nextHandle []) ∧
      (c.f 1 4 2 = 1 → (s.group g).st ≠ 0 → Answers (exec (.cascGroup c.ch) s)
        (((s.popped c rest).groupOff g).groupEvent g (s.group g).st 0) c 0 0 []) ∧
      (c.f 1 4 2 = 2 → c.bit 1 6 = true → Answers (exec (.cascGroup c.ch) s) ((s.popped c rest).modGroup g fun x => { x with shed := true }) c 0 0 []) ∧
      (c.f 1 4 2 = 2 → c.bit 1 6 = false → Answers (exec (.cascGroup c.ch) s)
        (((s.popped c rest).modGroup g fun x => { x with shed := false }).wakeCheck g) c 0 0 []))) ∧
  (∀ (s : State) (g : Nat) (o : LongOp), g < 16 → s.findOp 0x0401 (fun o => o.a == g) = some o →
    ((s.group g).st = 3 → exec (.cascGroupEnableComplete g true) s = .next (s.opDone o 0 0)) ∧
    ((s.group g).st ≠ 3 → o.since + 1000 ≤ s.time.m → (s.group g).mismatch = false → exec (.cascGroupEnableComplete g false) s = .next (s.opDone o 12 0x0401)) ∧
    ((s.group g).st ≠ 3 → o.since + 1000 ≤ s.time.m → (s.group g).mismatch = true → exec (.cascGroupEnableComplete g false) s = .next (s.opDone o 9 0x0403))) ∧
  (∀ (s : State) (c : Ctx) (rest : List Cmd), AtHead s c 0x0402 rest → c.f 1 2 2 = 0 → c.f 1 8 24 = 0 →
    (c.f 1 0 2 = 0 → c.len = 2 → c.f 2 20 12 = 0 → s.anyGroup = false → Answers (exec (.cascPeer c.ch) s)
      { s.popped c rest with casc := { s.casc with fedId := c.f 2 0 16, self := some (c.f 2 16 4) } } c 0 0 []) ∧
    (∀ p : Peer, c.f 1 0 2 = 1 → c.len = 6 → s.casc.self ≠ some (c.f 1 4 4) → c.f 2 7 1 = 0 → c.f 2 24 8 = 0 →
      (c.bit 2 4 = false → c.w 4 = 0 ∧ c.w 5 = 0 ∧ c.w 6 = 0) → s.groupBusy (c.f 2 0 4) = none → s.boundOther (c.f 2 0 4) (c.f 1 4 4) = false →
      ((s.group (c.f 2 0 4)).st = 0 ∨ (s.group (c.f 2 0 4)).peer = c.f 1 4 4) →
      p = ⟨c.f 2 0 4, c.bit 2 4, c.bit 2 5, c.bit 2 6, c.f 2 8 4, c.f 2 12 12, addrOf (c.bit 2 4) (c.w 3) (c.w 4) (c.w 5) (c.w 6)⟩ → Answers (exec (.cascPeer c.ch) s)
      { s.popped c rest with casc := { s.casc with peers := tset s.casc.peers (c.f 1 4 4) p } } c 0 0 []) ∧
    (c.f 1 0 2 = 2 → c.len = 1 → s.casc.self ≠ some (c.f 1 4 4) → tget s.casc.peers (c.f 1 4 4) ≠ none → Answers (exec (.cascPeer c.ch) s)
      { s.popped c rest with casc := { s.casc with peers := tdel s.casc.peers (c.f 1 4 4) } } c 0 0 []))

/-- CONF.CREATE (R129) makes a conference with the lowest free ID and answers that ID; CONF.MODIFY (R130) changes its MIX or its egress
group, moving the shapers of its legs that follow it; CONF.DESTROY (R131) of a conference without legs removes it, with FORCE its legs first,
and answers how many legs went, and without FORCE a conference with legs fails with E_STATE 5.

LEG.CREATE (R132, R133) makes a leg of the arguments' settings with the lowest free ID and the next generation of that ID, and
answers both; LEG.MODIFY (R134, R136) changes marking, next hop and remote endpoint, each a new path epoch, and puts a leg on and off hold;
LEG.DESTROY (R137) ends it, and a wrong generation fails with E_STALE 1 and another tenant's leg with E_TENANT 2.

LEG.STATS (R138) answers the leg's counters and clears them if asked; a destroyed leg's ID is free from tick T + 2 (R137); a live leg
without an authenticated packet for CONSENT_TO ticks leaves LIVE with cause 2 (R128). -/
def Obligations.ConferencesAndLegs : Prop :=
  ((∀ (s : State) (c : Ctx) (rest : List Cmd) (id : Nat) (k : Conf) (t : State), AtHead s c 0x0501 rest → c.f 1 13 19 = 0 → c.f 2 12 20 = 0 →
    k = { tenant := if isPF c.issuer then c.f 1 0 12 else (s.tenantOf c.issuer).getD 0, mix := c.bit 1 12, group := c.f 2 0 12, creator := c.issuer } →
    (s.node (c.f 2 0 12)).takes k.tenant = true → firstFree s.confs 0 16384 = some id →
    State.reflow { s.popped c rest with confs := tset s.confs id k } noSoft = .ok t →
    Answers (exec (.confCreate c.ch) s) t c 0 0 [id]) ∧
  (∀ (s : State) (c : Ctx) (rest : List Cmd) (id : Nat) (k : Conf), AtHead s c 0x0502 rest → id = c.f 1 0 14 → s.conf id = some k →
    c.f 1 15 17 = 0 → s.mayTouch c.issuer k.tenant = true →
    (c.bit 1 14 = true → c.f 2 12 20 = 0 → (s.node (c.f 2 0 12)).takes k.tenant = true →
      Answers (exec (.confModify c.ch) s) (((s.popped c rest).modConf id fun f => { f with group := c.f 2 0 12 }).regroupLegs id k.group (c.f 2 0 12)) c 0 0 []) ∧
    (∀ t, c.bit 1 14 = false → c.f 2 1 31 = 0 → (c.bit 2 0 = true ∨ k.mix = false ∨ s.mixInUse id = false) →
      ((s.popped c rest).modConf id fun f => { f with mix := c.bit 2 0 }).reflow noSoft = .ok t →
      Answers (exec (.confModify c.ch) s) t c 0 0 [])) ∧
  (∀ (s : State) (c : Ctx) (rest : List Cmd) (id : Nat) (k : Conf) (ns : List Nat), AtHead s c 0x0503 rest → id = c.f 1 0 14 → s.conf id = some k →
    c.f 1 14 2 = 0 → c.f 1 17 15 = 0 → s.mayTouch c.issuer k.tenant = true → ns = (s.legs.filter fun p => p.2.cfg.conf == id).map (·.1) →
    (c.bit 1 16 = false → ns ≠ [] → Answers (exec (.confDestroy c.ch) s) (s.popped c rest) c 9 5 []) ∧
    (∀ t, (c.bit 1 16 = true ∨ ns = []) → t = ns.foldl (fun s n => s.destroyLeg n) (s.popped c rest) →
      Answers (exec (.confDestroy c.ch) s) (State.settle { t with confs := tdel t.confs id, stageAtts := t.stageAtts.filter fun a => !(a.point == 1 && a.obj == id) })
        c 0 0 [ns.length]))) ∧
  ((∀ (s : State) (c : Ctx) (rest : List Cmd) (id gen : Nat) (cfg : LegCfg) (k : Conf) (t v : State), AtHead s c 0x0601 rest → cfg = legCfgOf c →
    s.conf cfg.conf = some k → s.freeLeg 0 65536 = some id → gen = s.nextGen id →
    cfg.kind ≤ 1 → c.f 1 21 11 = 0 → cfg.audMode ≠ 3 → cfg.vidMode ≠ 3 → c.f 2 8 24 = 0 → c.f 3 22 10 = 0 → qlimitOk cfg.qlimit = true →
    (cfg.ipv6 = false → ∀ i ∈ [9, 10, 11, 13, 14, 15], c.w i = 0) → s.mayTouch c.issuer k.tenant = true → (s.node k.group).takes k.tenant = true → (cfg.audMode = 2 → k.mix = true) →
    s.keyUsed none cfg = false → s.portOut cfg.port = false → t = (s.popped c rest).addLeg id (newLeg (s.popped c rest) cfg gen c.issuer) →
    t.mixedLegs ≤ 8192 → t.decodePlaces ≤ 16384 → t.reflow (softFor id) = .ok v →
    Answers (exec (.legCreate c.ch) s) v c 0 0 [id + 65536 * gen]) ∧
  (∀ (s : State) (c : Ctx) (rest : List Cmd) (leg : Nat) (l : Leg), AtHead s c 0x0602 rest → leg = c.f 1 0 16 → s.leg leg = some l → c.f 1 28 4 = 0 →
    (s.mayTouch c.issuer (s.legTenant l) = true → l.gen = c.f 1 16 8 →
      (∀ cfg, c.f 1 24 4 = 3 → c.len = 2 → c.f 2 22 10 = 0 →
        cfg = { l.cfg with vlanEn := c.bit 2 15, vlanId := c.f 2 0 12, pcp := c.f 2 12 3, dscp := c.f 2 16 6 } → cfg ≠ l.cfg → s.keyUsed (some leg) cfg = false →
        Answers (exec (.legModify c.ch) s) ((s.popped c rest).modLeg leg fun x => { x with cfg := cfg, pathEpoch := (x.pathEpoch + 1) % 256 }) c 0 0 []) ∧
      (∀ cfg, c.f 1 24 4 = 4 → c.len = 3 → c.f 2 16 16 = 0 → cfg = { l.cfg with mac := c.f 2 0 16 * 2 ^ 32 + c.f 3 0 32 } → cfg ≠ l.cfg →
        s.keyUsed (some leg) cfg = false →
        Answers (exec (.legModify c.ch) s) ((s.popped c rest).modLeg leg fun x => { x with cfg := cfg, pathEpoch := (x.pathEpoch + 1) % 256 }) c 0 0 []) ∧
      (c.f 1 24 4 = 1 → c.len = 2 → c.f 2 1 31 = 0 → c.bit 2 0 = true → l.state = 1 →
        Answers (exec (.legModify c.ch) s) ((s.popped c rest).legGoes leg 2 0) c 0 0 [])) ∧
    (c.f 1 24 4 = 1 → c.len = 2 → c.f 2 1 31 = 0 → s.mayTouch c.issuer (s.legTenant l) = true → l.gen ≠ c.f 1 16 8 →
      Answers (exec (.legModify c.ch) s) (s.popped c rest) c 11 1 [])) ∧
  (∀ (s : State) (c : Ctx) (rest : List Cmd) (leg : Nat) (l : Leg), AtHead s c 0x0603 rest → leg = c.f 1 0 16 → s.leg leg = some l → c.f 1 24 8 = 0 →
    (s.mayTouch c.issuer (s.legTenant l) = true → l.gen = c.f 1 16 8 →
      Answers (exec (.legDestroy c.ch) s) ((s.popped c rest).destroyLeg leg).settle c 0 0 []) ∧
    (s.mayTouch c.issuer (s.legTenant l) = true → l.gen ≠ c.f 1 16 8 → Answers (exec (.legDestroy c.ch) s) (s.popped c rest) c 11 1 []) ∧
    (s.mayTouch c.issuer (s.legTenant l) = false → Answers (exec (.legDestroy c.ch) s) (s.popped c rest) c 8 2 []))) ∧
  ((∀ (s : State) (c : Ctx) (rest : List Cmd) (leg : Nat) (l : Leg), AtHead s c 0x0604 rest → leg = c.f 1 0 16 → s.leg leg = some l → c.f 1 25 7 = 0 →
    s.mayTouch c.issuer (s.legTenant l) = true → l.gen = c.f 1 16 8 →
    Answers (exec (.legStats c.ch) s) (if c.bit 1 24 then (s.popped c rest).modLeg leg fun x => { x with stats := {} } else s.popped c rest) c 0 0 l.statsWords) ∧
  (∀ (s : State) (leg t : Nat), leg < 65536 → tget s.dying leg = some t →
    (t + 2 ≤ s.time.m → exec (.legIdFree leg) s = .next { s with dying := tdel s.dying leg }) ∧
    (s.time.m < t + 2 → exec (.legIdFree leg) s = .next s)) ∧
  (∀ (s : State) (leg : Nat) (l : Leg), leg < 65536 → s.leg leg = some l →
    (l.state = 1 → 0 < l.cfg.consentTo → max l.lastAuth l.liveSince + l.cfg.consentTo ≤ s.time.m → s.timerSet (.consent leg) = false →
      exec (.consentTimeout leg) s = .next (s.legGoes leg 3 2)) ∧
    ((l.state ≠ 1 ∨ l.cfg.consentTo = 0 ∨ s.time.m < max l.lastAuth l.liveSince + l.cfg.consentTo) → exec (.consentTimeout leg) s = .next s)))

/-- KEY.INSTALL (R323) puts a key in the slot and direction named; KEY.RETIRE (R324) empties a slot that is occupied; KEY.PAGE (R325) sets a tenant's
limits, wipes its keys and engines, or reports them; the contexts of a destroyed leg are free from tick T + 2, and the fallback of a receive roll-over
ends after 500 ticks (R318, R324). -/
def Obligations.KeyCommands : Prop :=
  (∀ (s : State) (c : Ctx) (rest : List Cmd) (leg : Nat) (l : Leg) (key : KeyCtx) (t : State), AtHead s c 0x0701 rest → leg = c.f 1 0 16 → s.leg leg = some l →
    c.f 1 28 4 = 0 → (∀ x ∈ keyZeroWords c, x.1 = false) → s.mayTouch c.issuer (s.legTenant l) = true → l.gen = c.f 1 16 8 →
    (c.bit 1 25 = true → l.keys.keyed (c.bit 1 24) = true) → (c.bit 1 24 = false → c.bit 1 25 = true → l.keys.rxFallUntil = none) →
    key = { words := c.f 1 26 2 :: (List.range 12).map fun i => (c.w (i + 2)).toNat, atTick := (c.w 14).toNat } →
    t = (s.popped c rest).modKeys leg (fun k => k.install (c.bit 1 24) (c.bit 1 25) key) →
    ((tgetD s.pages (s.legTenant l) {}).ctxMax = 0 ∨ t.contextsOf (s.legTenant l) ≤ (tgetD s.pages (s.legTenant l) {}).ctxMax) →
    Answers (exec (.keyInstall c.ch) s) (t.rekeyed leg) c 0 0 []) ∧
  (∀ (s : State) (c : Ctx) (rest : List Cmd) (leg : Nat) (l : Leg), AtHead s c 0x0702 rest → leg = c.f 1 0 16 → s.leg leg = some l →
    c.f 1 26 6 = 0 → s.mayTouch c.issuer (s.legTenant l) = true → l.gen = c.f 1 16 8 →
    (l.keys.holds (c.bit 1 24) (c.bit 1 25) = true →
      Answers (exec (.keyRetire c.ch) s) (((s.popped c rest).retireKey leg (c.bit 1 24) (c.bit 1 25)).rekeyed leg) c 0 0 []) ∧
    (l.keys.holds (c.bit 1 24) (c.bit 1 25) = false → Answers (exec (.keyRetire c.ch) s) (s.popped c rest) c 6 0 [])) ∧
  (∀ (s : State) (c : Ctx) (rest : List Cmd), AtHead s c 0x0703 rest → c.f 1 14 18 = 0 →
    (c.f 1 12 2 = 0 → c.len = 2 → c.bit 2 31 = false → (c.f 2 0 19 = 0 ∨ 4 ≤ c.f 2 0 19 ∧ c.f 2 0 19 ≤ 262144) →
      (c.f 2 19 12 = 0 ∨ 96 ≤ c.f 2 19 12 ∧ c.f 2 19 12 ≤ 3072) → Answers (exec (.keyPage c.ch) s)
        { s.popped c rest with pages := tset s.pages (c.f 1 0 12) { ctxMax := c.f 2 0 19, engMax := c.f 2 19 12 } } c 0 0 []) ∧
    (∀ held, c.f 1 12 2 = 1 → c.len = 1 → held = (s.legs.filter fun p => s.legTenant p.2 == c.f 1 0 12).filter (fun p => decide (0 < p.2.keys.contexts)) →
      Answers (exec (.keyPage c.ch) s) ((held.foldl (fun s p => s.wipeLeg p.1) (s.popped c rest)).wipePage (c.f 1 0 12)) c 0 0 [held.length]) ∧
    (c.f 1 12 2 = 2 → c.len = 1 → Answers (exec (.keyPage c.ch) s) (s.popped c rest) c 0 0 [s.contextsOf (c.f 1 0 12), s.enginesOf (c.f 1 0 12),
      ((s.legs.filter fun p => s.legTenant p.2 == c.f 1 0 12).filter fun p => p.2.keys.rekey).length])) ∧
  (∀ (s : State) (leg t k n : Nat), leg < 65536 → tget s.keyDying leg = some (t, k, n) → s.timerSet (.keyFree leg) = false →
    (t + 2 ≤ s.time.m → exec (.keyContextFree leg) s = .next { s with keyDying := tdel s.keyDying leg }) ∧
    (s.time.m < t + 2 → exec (.keyContextFree leg) s = .next s)) ∧
  (∀ (s : State) (leg t : Nat) (l : Leg), leg < 65536 → s.leg leg = some l → l.keys.rxFallUntil = some t → s.timerSet (.fallbackEnd leg) = false →
    (t ≤ s.time.m → exec (.rxFallbackEnd leg) s = .next (s.modKeys leg fun k => { k with rxNext := none, rxFallUntil := none })) ∧
    (s.time.m < t → exec (.rxFallbackEnd leg) s = .next s))

/-- FWD.POLICY (R184): SELECT 0 sets the estimator, whose estimate follows A_START until it first runs, as does the rate of a shaper that SHP.NODE has not fixed, from its next refill; SELECT 1 the transport settings and
extension identifiers; SELECT 2 declares a track on a leg without it; SELECT 3 removes one, and a track that is not declared fails with E_STATE 0x0804; SELECT 4
sets the local SSRC and CNAME.

FWD.SUBSCRIBE (R185) makes a subscription on a free slot and answers the route epoch of its source, changes or re-points one, removes one, and
reports one; a set that changes nothing is E_ALREADY_DONE, and a slot without a subscription E_STATE 0x0803. FWD.PIN (R186) applies a pin. -/
def Obligations.Forwarding : Prop :=
  (∀ (s : State) (c : Ctx) (rest : List Cmd) (leg : Nat) (l : Leg), AtHead s c 0x0801 rest → leg = c.f 1 0 16 → s.leg leg = some l →
    c.f 1 28 4 = 0 → s.mayTouch c.issuer (s.legTenant l) = true → l.gen = c.f 1 16 8 →
    (∀ pol, c.f 1 24 4 = 0 → c.len = 5 → 16 ≤ c.f 2 0 16 → c.f 2 0 16 ≤ c.f 2 16 16 → c.f 3 24 8 ≤ 50 → 100 ≤ c.f 4 0 8 → c.f 4 0 8 ≤ 250 → c.f 4 14 18 = 0 →
      c.f 5 0 16 ≤ 60000 → 100 ≤ c.f 5 16 16 → c.f 5 16 16 ≤ 5000 →
      pol = { l.pol with aMin := c.f 2 0 16, aStart := c.f 2 16 16, aMax := c.f 3 0 24, headroom := c.f 3 24 8, shapePct := c.f 4 0 8, fbMode := c.f 4 8 2, probe := c.bit 4 10, layerEv := c.bit 4 11, sendBye := c.bit 4 12, rsize := c.bit 4 13, upHold := c.f 5 0 16, keyMin := c.f 5 16 16 } →
      Answers (exec (.fwdPolicy c.ch) s) ((s.popped c rest).setLeg leg (if l.est.lastRun.isNone then Leg.setShaper { l with pol := pol, est := { l.est with a := c.f 2 16 16 * 1000 } } else { l with pol := pol })) c 0 0 []) ∧
    (∀ x : Leg, x.shaper.next.fixed = false → x.est.a = x.pol.aStart * 1000 → x.setShaper.shaper.next.rate = x.pol.aStart * x.pol.shapePct / 100) ∧
    (∀ x : Leg, x.shaper.next.fixed = false → x.setShaper.shaper.rate = x.shaper.rate) ∧
    (∀ x : Leg, x.shaper.next.fixed = true → x.setShaper = x) ∧
    (∀ (pol : FwdPol) (t v : State), c.f 1 24 4 = 1 → c.len = 3 → 576 ≤ c.f 2 0 14 → c.f 2 0 14 ≤ 9000 → c.f 2 14 2 = 0 → 100 ≤ c.f 2 16 16 → c.f 2 16 16 ≤ 10000 →
      c.f 3 21 11 = 0 → ([c.f 3 0 4, c.f 3 4 4, c.f 3 8 4, c.f 3 12 4, c.f 3 16 4].filter (· ≠ 0)).contains 15 = false →
      (let ids := [c.f 3 0 4, c.f 3 4 4, c.f 3 8 4, c.f 3 12 4, c.f 3 16 4].filter (· ≠ 0); ids.eraseDups.length = ids.length) →
      pol = { l.pol with mtu := c.f 2 0 14, rtcpIv := c.f 2 16 16, idLevel := c.f 3 0 4, idTwSeq := c.f 3 4 4, idDd := c.f 3 8 4, idFm := c.f 3 12 4, idAst := c.f 3 16 4, twoByteOk := c.bit 3 20 } →
      t = (s.popped c rest).setLeg leg { l with pol := pol } → (l.cfg.feeds = true → t.decodePlaces ≤ 16384) → t.reflow (softFor leg) = .ok v →
      Answers (exec (.fwdPolicy c.ch) s) v c 0 0 []) ∧
    (∀ (tr : Track) (v : State), c.f 1 24 4 = 2 → c.f 2 10 2 = 0 → c.len = 4 → c.f 2 26 6 = 0 → c.f 2 8 2 ≠ 3 → tget l.tracks (c.f 2 0 3) = none →
      (c.f 2 3 1 = 0 ∧ c.f 2 4 4 < 4 ∧ c.f 2 8 2 = 0 ∨ c.f 2 3 1 = 1 ∧ 8 ≤ c.f 2 4 4 ∧ c.f 2 4 4 < 12) →
      tr = { media := c.f 2 3 1, codec := c.f 2 4 4, layering := c.f 2 8 2, pt := c.f 2 12 7, rtxPt := c.f 2 19 7, encs := [{ ssrc := (c.w 3).toNat, rtxSsrc := (c.w 4).toNat }] } →
      ((s.popped c rest).setLeg leg { l with tracks := tset l.tracks (c.f 2 0 3) tr }).reflow (softFor leg) = .ok v →
      Answers (exec (.fwdPolicy c.ch) s) v c 0 0 []) ∧
    (c.f 1 24 4 = 3 → c.len = 2 → c.f 2 3 29 = 0 →
      (tget l.tracks (c.f 2 0 3) = none → Answers (exec (.fwdPolicy c.ch) s) (s.popped c rest) c 9 0x0804 []) ∧
      (∀ v, tget l.tracks (c.f 2 0 3) ≠ none → (((s.popped c rest).sourceLost leg (· == c.f 2 0 3)).modLeg leg fun l =>
        { l with tracks := tdel l.tracks (c.f 2 0 3) }).reflow (softFor leg) = .ok v → Answers (exec (.fwdPolicy c.ch) s) v c 0 0 [])) ∧
    (c.f 1 24 4 = 4 → c.len = 6 → Answers (exec (.fwdPolicy c.ch) s) ((s.popped c rest).setLeg leg { l with pol := { l.pol with localSsrc := (c.w 2).toNat, cname := [(c.w 3).toNat, (c.w 4).toNat, (c.w 5).toNat, (c.w 6).toNat] } }) c 0 0 [])) ∧
  ((∀ (s : State) (c : Ctx) (rest : List Cmd) (leg k : Nat) (l : Leg), AtHead s c 0x0802 rest → leg = c.f 1 0 16 → k = c.f 1 24 6 → s.leg leg = some l →
    s.mayTouch c.issuer (s.legTenant l) = true → l.gen = c.f 1 16 8 →
    (c.f 1 30 2 = 0 → c.len = 1 → tget l.slots k ≠ none → Answers (exec (.fwdSubscribe c.ch) s) ((s.popped c rest).removeSlot leg k).settle c 0 0 []) ∧
    (c.f 1 30 2 = 0 → c.len = 1 → tget l.slots k = none → Answers (exec (.fwdSubscribe c.ch) s) (s.popped c rest) c 9 0x0803 []) ∧
    (c.f 1 30 2 = 2 → c.len = 1 → Answers (exec (.fwdSubscribe c.ch) s) (s.popped c rest) c 0 0 (s.slotWords l (tget l.slots k))) ∧
    (∀ (n : Nat) (q : Leg) (tr : Track) (x : SubSet) (src : SlotSrc), c.f 1 30 2 = 1 → c.len = 5 → n = c.f 2 0 16 → s.leg n = some q → c.f 2 27 5 = 0 → c.bit 5 7 = false → c.bit 5 15 = false →
      c.f 5 24 8 = 0 → s.mayTouch c.issuer (s.legTenant q) = true → q.gen = c.f 2 16 8 → q.cfg.conf = l.cfg.conf → tget q.tracks (c.f 2 24 3) = some tr →
      l.cfg.fwdSend tr.media = true → q.cfg.fwdRecv tr.media = true → (∀ v ∈ l.slots, v.1 ≠ k → v.2.outSsrc ≠ (c.w 3).toNat) → l.keys.rekey = false →
      x = ⟨(c.w 3).toNat, (c.w 4).toNat, c.f 5 0 7, c.f 5 8 7, c.f 5 16 8⟩ → src = .track n (c.f 2 16 8) (c.f 2 24 3) →
      (∀ t, tget l.slots k = none → s.subscriptions < 1048576 → t = (s.popped c rest).newSlot leg k src tr.media x →
        Answers (exec (.fwdSubscribe c.ch) s) t c 0 0 [t.epochOf src]) ∧
      (∀ v, tget l.slots k = some v → v.sub = x → v.media = tr.media → v.choice = src → v.state ≠ 5 → Answers (exec (.fwdSubscribe c.ch) s) (s.popped c rest) c 6 0 []) ∧
      (∀ v t, tget l.slots k = some v → v.outSsrc = x.ssrc → v.media = tr.media → v.choice ≠ src → t = (s.popped c rest).repoint leg k v src x →
        Answers (exec (.fwdSubscribe c.ch) s) t c 0 0 [t.epochOf src]))) ∧
  (∀ (s : State) (c : Ctx) (rest : List Cmd) (leg k mode : Nat) (l : Leg) (v : Slot), AtHead s c 0x0803 rest → leg = c.f 1 0 16 → k = c.f 1 24 6 → mode = c.f 2 0 2 → s.leg leg = some l →
    s.mayTouch c.issuer (s.legTenant l) = true → l.gen = c.f 1 16 8 → c.f 1 30 2 = 0 → c.f 2 6 26 = 0 → c.f 2 2 2 ≠ 3 → c.f 2 4 2 ≠ 3 → tget l.slots k = some v → v.media = 1 →
    v.pinMode ≠ mode → Answers (exec (.fwdPin c.ch) s) ((s.popped c rest).pin leg k mode (c.f 2 2 2) (c.f 2 4 2)) c 0 0 []))

/-- The rate of a leg (R160, R163 to R166): every 50 ticks of the leg the estimate runs, the shaper follows it and layers are chosen; a stale run halves the estimate
down to A_MIN, overuse or loss above 10 % takes it to at most 85 % of the received rate, and otherwise it grows by 5 % and 10 kb/s up to its ceiling; a video track's
ladder is measured; a probe window that ends without overuse raises the estimate to 95 % of what arrived, and waits 2,000 ms for the next, and otherwise 5,000 ms.

The timers of a slot (R167, R182): a hold of UP_HOLD schedules the up-switch of an active slot, and makes a paused slot wait for a key picture; a spatial up-switch
without a switching point for 3,000 ms, and a re-point without a key picture for 5,000 ms, request a key picture, the latter with its event once. Before the time is up nothing
changes. FORWARD_PACKET fans the packet at the head out to the slots of its source, and not to the leg that sent it (R174).

RTCP and feedback of a leg (R173, R177, R178): at the end of its interval the compound packet goes and the next interval is drawn; transport feedback reports the numbers since the
last one, in the format of FB_MODE; a NACK names every number whose NACK is due; a number that may be declared lost is no longer missing, and in temporal layer 0 of a video track
a key picture is requested; a merged key request goes once KEY_MIN has passed. -/
def Obligations.RatesSwitchesAndFeedback : Prop :=
  ((∀ (s : State) (leg : Nat) (l l' : Leg) (u : State), leg < 65536 → s.leg leg = some l → s.time.m % 50 = leg % 50 → l.est.lastRun ≠ some s.time.m →
    s.stoppedFlow (.legControl leg) = false → l' = Leg.setShaper { l with est := l.est.run l.pol (s.aMax l) s.time.m } → u = (s.setLeg leg l').measureJobs l' →
    exec (.rateEstimate leg) s = .next ((u.selectLayers leg 0).probe leg (u.selection l'))) ∧
  (∀ (s : State) (leg : Nat) (l : Leg), leg < 65536 → s.leg leg = some l → (s.time.m % 50 ≠ leg % 50 ∨ l.est.lastRun = some s.time.m) → exec (.rateEstimate leg) s = .next s) ∧
  (∀ (e : Est) (p : FwdPol) (top m : Nat) (x : Seen), x = e.seen p.feedback m 500 →
    (x.stale = true → (e.run p top m).a = max (p.aMin * 1000) (e.a / 2) ∧ (e.run p top m).st = 3) ∧
    (x.stale = false → (x.up = true ∨ x.reported * 10 < x.lost * 100) →
      (e.run p top m).a = max (p.aMin * 1000) (min e.a (x.rx * 85 / 100)) ∧ (e.run p top m).st = 2 ∧ (e.run p top m).tDec = some m) ∧
    (x.stale = false → x.up = false → x.lost * 100 ≤ x.reported * 2 → x.down = false → (∀ t, e.tDec = some t → t + 500 ≤ m) →
      (e.run p top m).a = min top (min (e.ceiling m) (e.a * 105 / 100 + 10000)) ∧ (e.run p top m).st = 0)) ∧
  (∀ (s : State) (leg tr : Nat) (l : Leg) (t : Track), leg < 65536 → tr < 8 → s.leg leg = some l → tget l.tracks tr = some t → t.media ≠ 0 →
    NextWith (exec (.layerRateMeasure leg tr) s) fun u => ∃ l', u.leg leg = some l' ∧ (tget l'.tracks tr).map (·.ladder) = some (t.measure s.time.m) ∧
      l'.slots = l.slots ∧ l'.est = l.est ∧ u.ports = s.ports ∧ u.confs = s.confs) ∧
  (∀ (s : State) (leg : Nat) (l : Leg) (stop r : Nat) (x : Seen), leg < 65536 → s.leg leg = some l → l.est.probing = some (stop, r) → x = l.est.seen l.pol.feedback s.time.m 50 →
    (s.time.m < stop → exec (.probeWindowEnd leg) s = .next s) ∧
    (stop ≤ s.time.m → x.up = false → x.lost * 100 ≤ x.reported * 2 → exec (.probeWindowEnd leg) s = .next (s.setLeg leg { l with est := { l.est with probing := none, probed := some (x.rx * 95 / 100, s.time.m), a := max l.est.a (x.rx * 95 / 100), nextProbe := s.time.m + 2000 } })) ∧
    (stop ≤ s.time.m → (x.up = true ∨ x.reported * 2 < x.lost * 100) → exec (.probeWindowEnd leg) s = .next (s.setLeg leg { l with est := { l.est with probing := none, nextProbe := s.time.m + 5000 } })))) ∧
  ((∀ (s : State) (leg k t : Nat) (l : Leg) (v : Slot), leg < 65536 → k < 64 → s.leg leg = some l → tget l.slots k = some v → v.holdFrom = some t →
    (s.time.m < t + l.pol.upHold → exec (.upHoldExpire leg k) s = .next s) ∧
    (t + l.pol.upHold ≤ s.time.m → v.state = 2 → v.wantPause = false → exec (.upHoldExpire leg k) s = .next (s.modSlot leg k fun v => v.schedule s.time.m)) ∧
    (t + l.pol.upHold ≤ s.time.m → v.state = 3 → exec (.upHoldExpire leg k) s = .next ((s.modSlot leg k fun v => { v with holdFrom := none }).waitKey leg k))) ∧
  (∀ (s : State) (leg k sp tp t : Nat) (l : Leg) (v : Slot), leg < 65536 → k < 64 → s.leg leg = some l → tget l.slots k = some v → v.pendLayer = some (sp, tp, t) →
    (s.time.m < t + 3000 → exec (.spatialSwitchTimeout leg k) s = .next s) ∧
    (∀ u tr, t + 3000 ≤ s.time.m → v.state = 2 → v.curS < sp → u = (s.modSlot leg k fun v => { v with pendLayer := some (sp, tp, s.time.m) }) → u.srcTrack v.src = some tr →
      exec (.spatialSwitchTimeout leg k) s = .next (u.requestKey v.src (tr.encOf sp) false))) ∧
  (∀ (s : State) (leg k t n : Nat) (posted : Bool) (src : SlotSrc) (l : Leg) (v : Slot), leg < 65536 → k < 64 → s.leg leg = some l → tget l.slots k = some v → v.pendSrc = some (src, t, n, posted) →
    (s.time.m < t + 5000 → exec (.fwdSwitchSlow leg k) s = .next s) ∧
    (∀ u tr, t + 5000 ≤ s.time.m → posted = true → u = (s.modSlot leg k fun v => { v with pendSrc := some (src, t, n + 1, true) }) → u.srcTrack src = some tr →
      exec (.fwdSwitchSlow leg k) s = .next (u.requestKey src (tr.encOf v.wantS) false)) ∧
    (∀ u tr m g j, t + 5000 ≤ s.time.m → posted = false → src = .track m g j →
      u = (s.postLeg leg { code := evFwdSwitchSlow, d0 := k, d1 := m, d2 := n }).modSlot leg k (fun v => { v with pendSrc := some (src, t, n + 1, true) }) →
      u.srcTrack src = some tr → exec (.fwdSwitchSlow leg k) s = .next (u.requestKey src (tr.encOf v.wantS) false))) ∧
  (∀ s : State, s.fwdQ = [] → exec (.forwardPacket none) s = .next s) ∧
  (∀ (s u : State) (p : FwdPkt) (rest : List FwdPkt) (n g j : Nat) (t : Track), s.fwdQ = p :: rest → p.src = .track n g j → u = { s with fwdQ := rest } →
    u.srcTrack p.src = some t → exec (.forwardPacket none) s =
      .next ((u.fanout p.src).foldl (fun s x => if x.1 = n then s else s.decide_ x.1 x.2 t p) u))) ∧
  ((∀ (s : State) (leg : Nat) (l : Leg), leg < 65536 → s.leg leg = some l →
    (∀ d u, l.rtcpDue = some d → d ≤ s.time.m → s.timerSet (.rtcp leg) = false → s.stoppedFlow (.legControl leg) = false →
      u = (s.sendRtcp leg (s.compound l)).modLeg leg (fun l => { l with rtcpTurn := if l.incoming.isEmpty then 0 else (l.rtcpTurn + l.reportTurn.length) % l.incoming.length }) →
      ∃ v, exec (.rtcpSend leg) s = .next (State.rtcpTimer v leg)) ∧
    ((l.rtcpDue = none ∨ ∃ d, l.rtcpDue = some d ∧ s.time.m < d) → exec (.rtcpSend leg) s = .next s)) ∧
  (∀ (s : State) (leg b : Nat) (l : Leg) (run : List (Nat × Option Nat)), leg < 65536 → s.leg leg = some l → l.twHi = some b → run = reportRun b l.twSeen →
    (l.pol.fbMode < 2 → run ≠ [] → exec (.transportFeedbackSend leg) s =
      .next ((s.modLeg leg fun l => { l with twSeen := [], twHi := some ((b + run.length) % 65536) }).sendFb leg [.feedback 15 run])) ∧
    (l.pol.fbMode = 3 → exec (.transportFeedbackSend leg) s = .next (s.modLeg leg fun l => { l with twSeen := [] }))) ∧
  (∀ (s : State) (leg : Nat) (l : Leg), leg < 65536 → s.leg leg = some l → l.twHi = none → exec (.transportFeedbackSend leg) s = .next s) ∧
  (∀ (s : State) (leg k i : Nat) (l : Leg) (t : Track) (e : Enc) (due : List Missing), leg < 65536 → k < 8 → i < 3 → s.leg leg = some l → tget l.tracks k = some t → t.encs[i]? = some e →
    due = e.missing.filter (fun x => x.due l.nackGap s.time.m) →
    (e.rtxSsrc ≠ 0 → s.timerSet (.nack leg k i) = false → due ≠ [] → exec (.nackSend leg k i) s =
      .next (((s.modLeg leg fun y => y.modTrack k fun t => t.modEnc i fun z => { z with missing := z.missing.map fun x => if x.due l.nackGap s.time.m then { x with nacks := x.nacks + 1, lastNack := s.time.m } else x }).sendFb leg [.nack e.ssrc (due.map (·.seq))]).armNack leg k i)) ∧
    ((e.rtxSsrc = 0 ∨ due = []) → exec (.nackSend leg k i) s = .next s) ∧
    (∀ q u, t.media = 0 → (∃ x ∈ e.missing, x.seq = q ∧ x.lost (e.rtxSsrc ≠ 0) l.est.rttMs s.time.m = true) →
      u = s.modLeg leg (fun y => y.modTrack k fun t => t.modEnc i fun z => { z with missing := z.missing.filter fun x => x.seq ≠ q }) → exec (.lossDeclared leg k i q) s = .next u) ∧
    (∀ q, (∀ x ∈ e.missing, x.seq = q → x.lost (e.rtxSsrc ≠ 0) l.est.rttMs s.time.m = false) → exec (.lossDeclared leg k i q) s = .next s) ∧
    (e.keyMerged = true → (∀ a, e.keyLast = some a → a + l.pol.keyMin ≤ s.time.m) → exec (.keyRequestSend leg k i) s = .next (s.sendKey leg k i e e.keyFir)) ∧
    (e.keyMerged = false → exec (.keyRequestSend leg k i) s = .next s)))

/-- The cipher farm (R126, R137, R314, R317 to R320): SRTP_DECRYPT takes the packet at the head; one of a leg that is gone or not receiving is dropped, a replayed one counts RX_REPLAY, one whose
farm half is out of service waits, and one that passes and fails authentication counts on the leg; SRTP_ENCRYPT takes the packet at the head of the send queue, counts
LEG_GONE_DISCARD for a leg that is gone, drops it in silence for a leg that is not live, and refuses it while the leg's send key is used up; an engine under test that passes its known-answer
tests serves again, and one that fails goes offline. -/
def Obligations.CipherFarm : Prop :=
  (∀ (s : State) (run : CipherRun), s.inQ = [] → exec (.srtpDecrypt run) s = .next s) ∧
  (∀ (s t : State) (run : CipherRun) (k : InPkt) (rest : List InPkt), s.inQ = k :: rest → t = { s with inQ := rest } →
    (s.leg k.leg = none → exec (.srtpDecrypt run) s = .next t) ∧
    (∀ l, s.leg k.leg = some l → l.gen = k.gen →
      ((l.state = 0 ∨ l.state = 2) → exec (.srtpDecrypt run) s = .next (t.occur srcRxLegNotLive (t.occLeg k.leg))) ∧
      (l.state ≠ 0 → l.state ≠ 2 → l.keys.isReplay k.payload = true → exec (.srtpDecrypt run) s =
        .next (t.occur srcRxReplay { t.occHalf k.leg with unit := some (s.halfOf k.port) })) ∧
      (l.state ≠ 0 → l.state ≠ 2 → l.keys.isReplay k.payload = false →
        (s.prot.halves.getD (s.halfOf k.port) false = false → exec (.srtpDecrypt run) s = .next s) ∧
        (s.prot.halves.getD (s.halfOf k.port) false = true →
          (t.cipherPass (s.halfOf k.port) (s.legTenant l) (cipherBlocks (k.cipherBytes l)) run = .waits → exec (.srtpDecrypt run) s = .next s) ∧
          (∀ u, t.cipherPass (s.halfOf k.port) (s.legTenant l) (cipherBlocks (k.cipherBytes l)) run = .dropped u → exec (.srtpDecrypt run) s = .next u) ∧
          (∀ u, t.cipherPass (s.halfOf k.port) (s.legTenant l) (cipherBlocks (k.cipherBytes l)) run = .released u → exec (.srtpDecrypt run) s = .next (u.released k)))))) ∧
  (∀ (u : State) (k : InPkt) (l : Leg), u.leg k.leg = some l → l.keys.authUnder (protectionOf k.payload) = none →
    u.released k = u.modLeg k.leg fun l => { l with stats := { l.stats with authFail := min (l.stats.authFail + 1) 0xFFFFFFFF } }) ∧
  (∀ (s : State) (run : CipherRun), s.outQ = [] → exec (.srtpEncrypt run) s = .next s) ∧
  (∀ (s t : State) (run : CipherRun) (p : OutPkt) (rest : List OutPkt), s.outQ = p :: rest → t = { s with outQ := rest } →
    (s.leg p.leg = none → exec (.srtpEncrypt run) s = .next (t.occur srcLegGoneDiscard { obj := some p.leg })) ∧
    (∀ l, s.leg p.leg = some l → l.gen = p.gen → l.yielded = true → exec (.srtpEncrypt run) s = .next (t.occur srcProtYieldDrop (t.occLeg p.leg))) ∧
    (∀ l, s.leg p.leg = some l → l.gen = p.gen → l.yielded = false → l.state ≠ 1 → exec (.srtpEncrypt run) s = .next t) ∧
    (∀ l, s.leg p.leg = some l → l.gen ≠ p.gen → exec (.srtpEncrypt run) s = .next (t.occur srcLegGoneDiscard { obj := some p.leg })) ∧
    (∀ l k, s.leg p.leg = some l → l.gen = p.gen → l.yielded = false → l.state = 1 → l.keys.txNext = none → l.keys.txCur = some k →
      (l.keys.rekey = true → exec (.srtpEncrypt run) s = .next (t.keyRefuse p.leg)) ∧
      (∀ code, l.keys.rekey = false → p.overMtu l (keyProfile k.words) = false → l.keys.refusal p.isRtcp p.ssrc (sendIndex l.keys p) = some code →
        exec (.srtpEncrypt run) s = .next (t.refuseIndex p.leg code p.ssrc (sendIndex l.keys p))) ∧
      (∀ u, l.keys.rekey = false → p.overMtu l (keyProfile k.words) = false → l.keys.refusal p.isRtcp p.ssrc (sendIndex l.keys p) = none →
        t.prot.halves.getD (t.halfOf l.cfg.port) false = true →
        t.cipherPass (t.halfOf l.cfg.port) (t.legTenant l) (cipherBlocks p.cipherBytes) run = .released u →
        exec (.srtpEncrypt run) s = .next (u.protect p k.words (sendIndex l.keys p))))) ∧
  (∀ (s : State) (e : Nat), e < 3072 → ∀ pass, ((s.cipher e).testing = false → exec (.cipherKat e pass) s = .next s) ∧
    ((s.cipher e).testing = true → pass = true → exec (.cipherKat e pass) s = .next (s.modCipher e fun x => { x with testing := false })) ∧
    ((s.cipher e).testing = true → pass = false → exec (.cipherKat e pass) s = .next (s.cipherOffline e 2)))

/-- Refills (R332, R336): every 16 µs a leg's shaper gains RATE × 16 µs / 8 bytes in 1/256 byte, up to its depth, the finer part carried over, and a change waiting comes into force (R335); every 4 µs a
group node gains RATE × 4 µs / 8 bytes so. QTO_FIRE (R141) makes the items present eligible once QTO ticks have passed since the queue's last read, and counts LQ_QTO.

EGRESS_SELECT (R331 to R339): after the slow path's frames and the discarding of items of an older path epoch, the tiers' choice, if any, leaves its leg queue: to its
port's transmit queue while the port has link, and counted as dropped otherwise. MAC_TRANSMIT (R343, R358): on a port with link the queues are served from TQ7 down; without link or
released they are discarded, and a port that is off does nothing.

Gate lists run on TB0 (R342 to R346): a pending list takes over at its start time with its first entry and EV_GATE_START; an entry's mask takes effect at the end of the interval before it;
after a step of TB0 the list starts its cycle again at the restart it waits for, counted by GATE_RESTART; a frame held through a whole cycle that still does not fit is
dropped and counted by GATE_OVERSIZE. -/
def Obligations.EgressScheduling : Prop :=
  ((∀ (s : State) (leg : Nat) (l : Leg) (n : Nat), leg < 65536 → s.leg leg = some l → l.shaper.pend = none → n = l.shaper.rate * 512 + l.shaper.rem →
    exec (.legShaperRefill leg) s = .next (s.setLeg leg { l with shaper := { l.shaper with tokens := min (l.shaper.tokens + (n / 1000 : Nat)) (max l.shaper.tokens (l.shaper.depthNow * 256)), rem := n % 1000 } })) ∧
  (∀ (s : State) (leg : Nat), leg < 65536 → s.leg leg = none → exec (.legShaperRefill leg) s = .next s) ∧
  (∀ (s : State) (leg : Nat) (l : Leg) (x : ShpSet), leg < 65536 → s.leg leg = some l → l.shaper.pend = some x →
    NextWith (exec (.legShaperRefill leg) s) fun t => ∃ l', t.leg leg = some l' ∧ l'.shaper.pend = none ∧ l'.shaper.group = x.group ∧ l'.shaper.weight = x.weight ∧
      l'.shaper.fixed = x.fixed ∧ l'.shaper.rate = x.rate ∧ l'.shaper.depth = x.depth ∧ l'.queue = l.queue ∧ l'.cfg = l.cfg ∧ t.nodes = s.nodes ∧ t.ports = s.ports ∧
      (x.group ≠ l.shaper.group → l'.shaper.vF = (s.port l.cfg.port).v0 x.group ∧ l'.shaper.tagged = false) ∧
      (x.group = l.shaper.group → l'.shaper.vF = l.shaper.vF ∧ l'.shaper.tagged = l.shaper.tagged)) ∧
  (∀ (s : State) (g n : Nat), g < 4096 → (s.node g).pend = none → n = (s.node g).rate * 128 + (s.node g).rem →
    exec (.groupRefill g) s = .next { s with nodes := tset s.nodes g { s.node g with tokens := min ((s.node g).tokens + (n / 1000 : Nat)) (max (s.node g).tokens ((s.node g).depthNow * 256)), rem := n % 1000 } }) ∧
  (∀ (s : State) (g r d : Nat), g < 4096 → (s.node g).pend = some (r, d) → NextWith (exec (.groupRefill g) s) fun t =>
    (t.node g).rate = r ∧ (t.node g).depth = d ∧ (t.node g).pend = none ∧
      (t.node g).tokens = (if (s.node g).resetTo = true then (((if d = 0 then max 65536 (r * 125 / 1000) else d) * 256 : Nat) : Int) else (0 : Int)) ∧ t.legs = s.legs) ∧
  (∀ (s : State) (leg : Nat) (l : Leg), leg < 65536 → s.leg leg = some l →
    ((l.queue = [] ∨ l.cfg.qto = 0 ∨ s.time.m < l.qLastRead + l.cfg.qto) → exec (.qtoFire leg) s = .next s) ∧
    (l.queue ≠ [] → l.cfg.qto ≠ 0 → l.qLastRead + l.cfg.qto ≤ s.time.m → NextWith (exec (.qtoFire leg) s) fun t =>
      ∃ l', t.leg leg = some l' ∧ l'.queue = l.queue.map (fun i => { i with released := true }) ∧ l'.qLastRead = s.time.m ∧
        l'.stats.lqQto = min (l.stats.lqQto + 1) 0xFFFFFFFF ∧ l'.cfg = l.cfg ∧ l'.shaper = l.shaper ∧ t.ports = s.ports ∧ t.nodes = s.nodes))) ∧
  ((∀ (s v t : State) (p : Nat), p < 16 → v = s.modPort p (Port.takeSlow s.time.ref) →
    t = (State.tagLegs ((v.legs.filter fun x => x.2.cfg.port == p).foldl (fun s x => s.dropStale x.1 x.2.queue.length) v) p).tagGroups p →
    (t.select p = none → exec (.egressSelect p none) s = .next t) ∧
    (∀ c g leg i len l it, t.select p = some (c, g, leg, i, len) → t.leg leg = some l → l.queue[i]? = some it → NextWith (exec (.egressSelect p none) s) fun u =>
      ∃ l', u.leg leg = some l' ∧ l'.queue = l.queue.eraseIdx i ∧ l'.qLastRead = t.time.m ∧ l'.cfg = l.cfg)) ∧
  (∀ (s : State) (p : Nat), p < 16 →
    ((s.port p).cfg.mode = 0 → exec (.macTransmit p) s = .next s) ∧
    ((s.port p).cfg.mode ≠ 0 → ((s.port p).link = false ∨ (s.port p).released = true) →
      exec (.macTransmit p) s = .next ((s.modPort p fun q => { q with wire := none }).dropTq p)) ∧
    ((s.port p).cfg.mode ≠ 0 → (s.port p).link = true → (s.port p).released = false →
      exec (.macTransmit p) s = .next ((s.modPort p fun q => { q with wire := none }).serveTq p (s.base 0).val 8))) ∧
  (∀ (s : State) (p t n : Nat) (x : TxItem) (xs : List TxItem), (s.port p).tq.getD n [] = x :: xs →
    ((s.port p).fitsGate n (wireLen (s.port p).overhead x.len) t = true → s.serveTq p t (n + 1) = s.startFrame p n x ∧ ((s.startFrame p n x).port p).wire = some x) ∧
    ((s.port p).fitsGate n (wireLen (s.port p).overhead x.len) t = false → s.serveTq p t (n + 1) = (s.holdFrame p n t x).serveTq p t n)) ∧
  (∀ (s : State) (p t n : Nat), (s.port p).tq.getD n [] = [] → s.serveTq p t (n + 1) = s.serveTq p t n)) ∧
  ((∀ (s t : State) (p : Nat) (g : Gates), p < 16 → (s.port p).gatePend = some g → s.passTo g.start = some t →
    exec (.gateListStart p) s = .next ((t.modPort p fun q => { q with gates := some g, gatePend := none, gateIdx := 0, gateHold := none }).gateEvent p g g.start false)) ∧
  (∀ (s : State) (p : Nat), p < 16 → (s.port p).gatePend = none → exec (.gateListStart p) s = .next s) ∧
  (∀ (s t : State) (p e m : Nat) (g : Gates), p < 16 → (s.port p).gates = some g → (s.port p).gateHold = none →
    (g.segs (g.cycleOf (s.base 0).val) ++ [(g.cycleOf (s.base 0).val + g.len, 0)]).find? (fun x => decide ((s.base 0).val < x.1)) = some (e, m) → s.passTo e = some t →
    exec (.gateIntervalEnd p) s = .next (t.modPort p fun q => { q with gateIdx := g.index (t.base 0).val })) ∧
  (∀ (s : State) (p : Nat), p < 16 → (s.port p).gates = none → exec (.gateIntervalEnd p) s = .next s) ∧
  (∀ (s t : State) (p r : Nat) (g : Gates), p < 16 → (s.port p).gates = some g → (s.port p).gateHold = some r → s.passTo r = some t →
    exec (.gateRestart p) s = .next (((t.modPort p fun q => { q with gateIdx := 0, gateHold := none }).occur srcGateRestart { unit := some p }).gateEvent p g r true)) ∧
  (∀ (s : State) (p : Nat), p < 16 → (s.port p).gateHold = none → exec (.gateRestart p) s = .next s) ∧
  (∀ (s : State) (p q h : Nat) (x : TxItem) (xs : List TxItem) (g : Gates), p < 16 → q < 8 → (s.port p).tq.getD q [] = x :: xs → (s.port p).gates = some g → x.heldAt = some h →
    (h + g.len ≤ (s.base 0).val → (s.port p).fitsGate q (wireLen (s.port p).overhead x.len) (s.base 0).val = false → exec (.gateOversize p q) s =
      .next ((s.modPort p fun p => { p with tq := lmod p.tq q [] fun l => l.drop 1 }).occur srcGateOversize { unit := some p, queue := some q })) ∧
    ((s.base 0).val < h + g.len → exec (.gateOversize p q) s = .next s)) ∧
  (∀ (s : State) (v : Nat), v ≤ (s.base 0).val → s.passTo v = some s))

/-- Errors of the leg queue store (R145, R146), which EGRESS_SELECT and FORWARD_PACKET may meet before their own effect: a single-bit error is counted in LQB_CE of the leg's block, and
changes nothing else; an uncorrectable descriptor loses the item at the head, counts LQB_UE and posts EV_LQ_ERROR with kind 1; an uncorrectable pointer resets the queue with kind 2; under
COMPAT any pointer error resets the queue, is latched in LQ_ERR while that holds no leg, and is told with kind 3. That an uncorrectable pointer leaves LQB_UE is the model's reading
(log entry 75). -/
def Obligations.QueueStoreErrors : Prop :=
  (∀ (s : State) (e : LqErr), e.leg < 65536 → exec (.forwardPacket (some e)) s = exec (.forwardPacket none) (s.lqError e)) ∧
  (∀ (s : State) (p : Nat) (e : LqErr), p < 16 → e.leg < 65536 → exec (.egressSelect p (some e)) s = exec (.egressSelect p none) (s.lqError e)) ∧
  (∀ (s : State) (p : Nat) (e : LqErr), p < 16 → e.leg < 65536 → ∃ t, exec (.egressSelect p (some e)) s = .next t) ∧
  (∀ (s : State) (e : LqErr) (l : Leg), s.leg e.leg = some l →
    (e.single = true → (e.pointer = false ∨ s.mon.compat = false) →
      s.lqError e = { s with mon := { s.mon with lqbCe := tset s.mon.lqbCe (e.leg / 1024) (min (tgetD s.mon.lqbCe (e.leg / 1024) 0 + 1) 0xFFFFFFFF) } }) ∧
    (∀ i it, e.single = false → e.pointer = false → headOf l.queue = some (i, it) → tgetD (s.lqError e).mon.lqbUe (e.leg / 1024) 0 = min (tgetD s.mon.lqbUe (e.leg / 1024) 0 + 1) 0xFFFFFFFF ∧
      (∃ l', (s.lqError e).leg e.leg = some l' ∧ l'.queue = l.queue.eraseIdx i ∧ l'.cfg = l.cfg ∧ l'.stats = l.stats) ∧ (s.lqError e).ports = s.ports) ∧
    (e.single = false → e.pointer = true → s.mon.compat = false → (s.lqError e).mon = s.mon ∧
      s.lqError e = (s.flush e.leg).postLeg e.leg { code := 0x0602, d0 := 2, d1 := e.leg / 1024, d2 := l.queue.length } ∧
      ∃ l', (s.lqError e).leg e.leg = some l' ∧ l'.queue = [] ∧ l'.cfg = l.cfg) ∧
    (e.pointer = true → s.mon.compat = true → (s.lqError e).mon.lqErrValid = true ∧ (s.lqError e).mon.lqErrCount = min (s.mon.lqErrCount + 1) 0xFF ∧
      (s.lqError e).mon.lqErrLeg = (if s.mon.lqErrValid then s.mon.lqErrLeg else e.leg) ∧ (s.lqError e).mon.lqbCe = s.mon.lqbCe ∧ (s.lqError e).mon.lqbUe = s.mon.lqbUe ∧
      ∃ l', (s.lqError e).leg e.leg = some l' ∧ l'.queue = [] ∧ l'.cfg = l.cfg))

/-- SHP.NODE (R335 to R338, R347) sets a leg's shaper from its next refill, a group node or a port's OVERHEAD, and reports each; SHP.POLICE (R348) sets, changes and clears a leg's policer, and answers
E_ALREADY_DONE where nothing changes; GATE.LIST (R345, R349) sets a list that starts at its base, or at the first cycle from 200 µs on, disables, and reports. -/
def Obligations.EgressCommands : Prop :=
  (∀ (s : State) (c : Ctx) (rest : List Cmd) (id : Nat), AtHead s c 0x0C01 rest → c.f 1 3 5 = 0 → id = c.f 1 16 16 →
    (∀ l, c.f 1 0 2 = 0 → s.leg id = some l → s.mayTouch c.issuer (s.legTenant l) = true → l.gen = c.f 1 8 8 →
      (c.bit 1 2 = true → c.len = 1 → Answers (exec (.shpNode c.ch) s) (s.popped c rest) c 0 0
        [l.shaper.next.group + l.shaper.next.weight * 4096 + b2n l.shaper.next.fixed * 2 ^ 20, l.shaper.rate, l.shaper.depthNow, tokenWord l.shaper.tokens]) ∧
      (∀ sh, c.bit 1 2 = false → c.len = 4 → c.f 2 12 8 ≠ 0 → c.f 2 21 11 = 0 → depthOk (c.f 4 0 24) = true → c.f 4 24 8 = 0 → (s.node (c.f 2 0 12)).takes (s.legTenant l) = true →
        sh = { l.shaper with pend := some { group := c.f 2 0 12, weight := c.f 2 12 8, fixed := c.bit 2 20, rate := if c.bit 2 20 then c.f 3 0 32 else l.est.a * l.pol.shapePct / 100000, depth := c.f 4 0 24 } } →
        Answers (exec (.shpNode c.ch) s) ((s.popped c rest).setLeg id { l with shaper := sh }) c 0 0 [])) ∧
    (c.f 1 0 2 = 1 → id < 4096 → isPF c.issuer = true →
      (c.bit 1 2 = true → c.len = 1 → Answers (exec (.shpNode c.ch) s) (s.popped c rest) c 0 0
        [(s.node id).cls + b2n (s.node id).resetTo * 8 + (s.node id).weight * 16 + (s.node id).tenant * 4096, (s.node id).rate, (s.node id).depthNow, tokenWord (s.node id).tokens]) ∧
      (∀ n, c.bit 1 2 = false → c.len = 4 → c.f 1 8 8 = 0 → c.f 2 0 3 ≠ 7 → c.f 2 4 8 ≠ 0 → c.f 2 24 8 = 0 → depthOk (c.f 4 0 24) = true → c.f 4 24 8 = 0 →
        (c.f 2 12 12 = (s.node id).tenant ∨ s.foreignLegs id (c.f 2 12 12) = false) →
        n = { s.node id with cls := c.f 2 0 3, resetTo := c.bit 2 3, weight := c.f 2 4 8, tenant := c.f 2 12 12, pend := if (c.f 3 0 32, c.f 4 0 24) = (s.node id).now then (s.node id).pend else some (c.f 3 0 32, c.f 4 0 24) } →
        Answers (exec (.shpNode c.ch) s) { s.popped c rest with nodes := tset s.nodes id n } c 0 0 [])) ∧
    (c.f 1 0 2 = 2 → id < 16 →
      (c.bit 1 2 = true → c.len = 1 → Answers (exec (.shpNode c.ch) s) (s.popped c rest) c 0 0 [field 8 (s.port id).overhead]) ∧
      (c.bit 1 2 = false → c.len = 2 → c.f 2 8 24 = 0 → isPF c.issuer = true →
        Answers (exec (.shpNode c.ch) s) ((s.popped c rest).modPort id fun q => { q with overhead := signed 8 (c.f 2 0 8) }) c 0 0 []))) ∧
  (∀ (s : State) (c : Ctx) (rest : List Cmd) (leg : Nat) (l : Leg) (p : Policer), AtHead s c 0x0C02 rest → leg = c.f 1 0 16 → s.leg leg = some l → c.f 1 24 8 = 0 → c.f 3 24 8 = 0 →
    s.mayTouch c.issuer (s.legTenant l) = true → l.gen = c.f 1 16 8 → (c.f 2 0 32 ≠ 0 → 9216 ≤ c.f 3 0 24) →
    (c.f 2 0 32 = l.policer.rate → (c.f 2 0 32 = 0 ∨ c.f 3 0 24 = l.policer.depth) → Answers (exec (.shpPolice c.ch) s) (s.popped c rest) c 6 0 []) ∧
    (c.f 2 0 32 = 0 → l.policer.rate ≠ 0 → Answers (exec (.shpPolice c.ch) s) ((s.popped c rest).setLeg leg { l with policer := {} }) c 0 0 []) ∧
    (c.f 2 0 32 ≠ 0 → l.policer.rate = 0 →
      p = { l.policer with rate := c.f 2 0 32, depth := c.f 3 0 24, tokens := c.f 3 0 24 * 256, rem := 0, last := s.time.ref } →
      Answers (exec (.shpPolice c.ch) s) ((s.popped c rest).setLeg leg { l with policer := p }) c 0 0 [])) ∧
  (∀ (s : State) (c : Ctx) (rest : List Cmd) (p : Nat) (buf : BufRead), AtHead s c 0x0C03 rest → p = c.f 1 0 4 → c.f 1 6 2 = 0 → c.f 1 17 15 = 0 → (s.port p).cfg.mode ≠ 0 →
    (c.f 1 4 2 = 1 → c.len = 1 → ((s.port p).gates ≠ none ∨ (s.port p).gatePend ≠ none) → Answers (exec (.gateList c.ch buf) s)
      ((s.popped c rest).modPort p fun q => { q with gates := none, gatePend := none, gateHold := none, gateIdx := 0 }) c 0 0 []) ∧
    (c.f 1 4 2 = 2 → c.len = 1 → (s.port p).gates = none → (s.port p).gatePend = none → Answers (exec (.gateList c.ch buf) s) (s.popped c rest) c 0 0 [0, 0, 0, 0]) ∧
    (∀ g, c.f 1 4 2 = 2 → c.len = 1 → (s.port p).gates = some g → (s.port p).gatePend = none → Answers (exec (.gateList c.ch buf) s) (s.popped c rest) c 0 0 (gateWords g false)) ∧
    (∀ es st g, c.f 1 4 2 = 0 → c.len = 8 → c.f 1 8 9 ≠ 0 → c.f 1 8 9 ≤ 256 → 1000 ≤ c.f 2 0 32 → c.f 2 0 32 ≤ 1000000000 → c.f 3 0 32 ≤ 999999999 → c.f 5 16 16 = 0 → isPF c.issuer = true →
      (∀ x ∈ descChecks c 6 false ++ [descSize c 6 (c.f 1 8 9 * 4)] ++ bufChecks buf, x.1 = false) →
      es = (wordsOf (bufBytes buf (c.f 1 8 9 * 4)) (c.f 1 8 9)).map (fun w => (w / 2 ^ 24 % 256, w % 2 ^ 24)) → (∀ e ∈ es, e.2 ≠ 0) →
      st = gateStart (s.base 0).val (((c.f 5 0 16 * 2 ^ 32 + c.f 4 0 32) * 1000000000 + c.f 3 0 32) * nsU) (c.f 2 0 32 * nsU) → g = ⟨c.f 2 0 32, st.1, st.2, es⟩ →
      Answers (exec (.gateList c.ch buf) s) ((s.popped c rest).modPort p fun q => { q with gatePend := some g }) c 0 0 (gateWords g true))) ∧
  (∀ now base cyc : Nat, 0 < cyc → (now + 200 * usU ≤ base → gateStart now base cyc = (base, false)) ∧
    (base < now + 200 * usU → (gateStart now base cyc).2 = true ∧ now + 200 * usU ≤ (gateStart now base cyc).1 ∧ (gateStart now base cyc).1 < now + 200 * usU + cyc ∧
      ∃ k, (gateStart now base cyc).1 = base + k * cyc))

/-- AUD.ROUTE (R217): SELECT 0 routes a leg's input and output to conferences with MIX and mutes them; SELECT 1 chooses its input track and jitter limit; SELECT 2 sets its encoder, in force at the
next frame; SELECT 3 its output SSRC and payload type. AUD.DETECT (R220) sets its detectors.

AUD.MIXPOLICY (R218): SELECT 0 sets how a conference chooses and mixes its inputs, SELECT 1 its cascade, and E_STATE 0x0905 answers a change of delay or tag while cascade legs are mixed.
AUD.STAGE (R219): OP 1 attaches a loaded stage to a place, OP 2 detaches, OP 3 unloads a stage that is attached nowhere, and E_STATE 0x0903 answers for one that is not loaded. -/
def Obligations.AudioSettings : Prop :=
  ((∀ (s : State) (c : Ctx) (rest : List Cmd) (leg : Nat) (l : Leg), AtHead s c 0x0901 rest → leg = c.f 1 0 16 → s.leg leg = some l → c.f 1 28 4 = 0 →
    s.mayTouch c.issuer (s.legTenant l) = true → l.gen = c.f 1 16 8 → l.cfg.audMode = 2 →
    (∀ a b ka kb cfg t v, c.f 1 24 4 = 0 → c.len = 3 → a = c.f 2 0 14 → b = c.f 2 16 14 → c.f 2 14 2 = 0 → c.f 2 30 2 = 0 → c.f 3 2 30 = 0 → s.conf a = some ka → s.conf b = some kb →
      ka.mix = true → kb.mix = true → s.mayTouch c.issuer ka.tenant = true → s.mayTouch c.issuer kb.tenant = true → l.aud.cfg.inConf = a →
      cfg = { l.aud.cfg with inConf := a, outConf := b, inMute := c.bit 3 0, outMute := c.bit 3 1 } →
      t = (s.popped c rest).setLeg leg { l with aud := { l.aud with cfg := cfg } } → t.decodePlaces ≤ 16384 → t.reflow (softFor leg) = .ok v →
      Answers (exec (.audRoute c.ch) s) v c 0 0 []) ∧
    (∀ t tr v, c.f 1 24 4 = 1 → c.len = 2 → c.f 2 3 5 = 0 → c.f 2 8 8 ≠ 0 → c.f 2 8 8 ≤ 200 → c.f 2 16 16 = 0 → tget l.tracks (c.f 2 0 3) = some tr → tr.media = 0 →
      l.aud.cfg.inTrack = c.f 2 0 3 → l.aud.cfg.jit ≠ c.f 2 8 8 →
      t = (s.popped c rest).setLeg leg { l with aud := { l.aud with cfg := { l.aud.cfg with jit := c.f 2 8 8 }, inp := { l.aud.inp with jb := { l.aud.inp.jb with anchor := none, move := none } } } } →
      t.reflow (softFor leg) = .ok v → Answers (exec (.audRoute c.ch) s) v c 0 0 []) ∧
    (∀ e t v, c.f 1 24 4 = 2 → c.len = 3 → e = ({ codec := c.f 2 0 4, frameMs := c.f 2 8 6, adapt := c.bit 2 16, dtx := c.bit 2 17, fec := c.bit 2 18, opusMin := c.f 3 0 16, opusMax := c.f 3 16 16 } : EncSet) →
      (e.codec < 4 ∧ l.cfg.kind ≠ 1 ∨ e.codec = 15 ∧ l.cfg.kind = 1) → c.f 2 4 4 = 0 → frameMsOk e.codec e.frameMs = true → c.f 2 14 2 = 0 → c.f 2 19 13 = 0 →
      6 ≤ e.opusMin → e.opusMin ≤ e.opusMax → e.opusMax ≤ 510 → t = (s.popped c rest).setLeg leg { l with aud := { l.aud with cfg := { l.aud.cfg with enc := e } } } →
      t.reflow (softFor leg) = .ok v → Answers (exec (.audRoute c.ch) s) v c 0 0 []) ∧
    (∀ x, c.f 1 24 4 = 3 → c.len = 3 → c.f 3 7 25 = 0 → x = (c.w 2).toNat → (x ≠ 0 → l.keys.rekey = false) →
      Answers (exec (.audRoute c.ch) s) ((s.popped c rest).setLeg leg { l with aud := { l.aud with cfg := { l.aud.cfg with outSsrc := x, outPt := c.f 3 0 7 }, out := if x = l.aud.cfg.outSsrc then l.aud.out else { l.aud.out with encNext := none, encTs := none } } }) c 0 0 [])) ∧
  (∀ (s : State) (c : Ctx) (rest : List Cmd) (leg : Nat) (l : Leg) (cfg : AudCfg) (t v : State), AtHead s c 0x0904 rest → leg = c.f 1 0 16 → s.leg leg = some l → c.f 1 24 8 = 0 →
    c.f 2 6 2 = 0 → c.f 2 15 17 = 0 → s.mayTouch c.issuer (s.legTenant l) = true → l.gen = c.f 1 16 8 → l.cfg.audMode = 2 →
    cfg = { l.aud.cfg with vadEv := c.bit 2 0, dtmfInband := c.bit 2 1, dtmfTe := c.bit 2 2, dtmfMute := c.bit 2 3, howl := c.bit 2 4, howlAct := c.bit 2 5, tePt := c.f 2 8 7 } →
    t = (s.popped c rest).setLeg leg { l with aud := { l.aud with cfg := cfg, det := l.aud.det.under cfg } } → t.reflow (softFor leg) = .ok v →
    Answers (exec (.audDetect c.ch) s) v c 0 0 [])) ∧
  ((∀ (s : State) (c : Ctx) (rest : List Cmd) (id : Nat) (k : Conf), AtHead s c 0x0902 rest → id = c.f 1 0 14 → s.conf id = some k → c.len = 3 → c.f 1 14 2 = 0 → c.f 1 18 14 = 0 →
    s.mayTouch c.issuer k.tenant = true → k.mix = true →
    (∀ p t v, c.f 1 16 2 = 0 → 1 ≤ c.f 2 0 4 → c.f 2 0 4 ≤ 8 → c.f 2 0 4 ≤ c.f 2 4 5 → c.f 2 4 5 ≤ 16 → c.f 2 23 9 = 0 → 20 ≤ c.f 3 0 16 → c.f 3 0 16 ≤ 10000 → 20 ≤ c.f 3 16 16 → c.f 3 16 16 ≤ 10000 →
      p = { k.pol with activeMax := c.f 2 0 4, candMax := c.f 2 4 5, scale := c.bit 2 9, talkEv := c.bit 2 10, hyst := c.f 2 11 5, floor := c.f 2 16 7, hang := c.f 3 0 16, candHold := c.f 3 16 16 } →
      t = (s.popped c rest).modConf id (fun x => { x with pol := p }) → t.decodePlaces ≤ 16384 →
      t.reflow softAudio = .ok v → Answers (exec (.audMixpolicy c.ch) s) v c 0 0 []) ∧
    (c.f 1 16 2 = 1 → c.f 2 0 10 ≠ 1 → c.f 2 0 10 ≤ 1000 → c.f 2 10 6 = 0 → c.f 3 7 25 = 0 →
      (c.f 2 0 10 = k.pol.cascD → c.f 2 16 16 = k.pol.confTag →
        Answers (exec (.audMixpolicy c.ch) s) ((s.popped c rest).modConf id fun f => { f with pol := { k.pol with cascPt := c.f 3 0 7 } }) c 0 0 []) ∧
      (c.f 2 0 10 ≠ k.pol.cascD → s.cascLegs id ≠ [] → Answers (exec (.audMixpolicy c.ch) s) (s.popped c rest) c 9 0x0905 []) ∧
      (c.f 2 0 10 ≠ k.pol.cascD → s.cascLegs id = [] → Answers (exec (.audMixpolicy c.ch) s) ((s.popped c rest).modConf id fun f =>
        { f with pol := { k.pol with cascD := c.f 2 0 10, confTag := c.f 2 16 16, cascPt := c.f 3 0 7 }, combined := [], contribs := [] }) c 0 0 []))) ∧
  (∀ (s : State) (c : Ctx) (rest : List Cmd) (buf : BufRead), AtHead s c 0x0903 rest → c.f 1 8 24 = 0 →
    (c.f 1 0 2 = 3 → c.len = 1 → tget s.stages (c.f 1 2 6) = none → Answers (exec (.audStage c.ch buf) s) (s.popped c rest) c 9 0x0903 []) ∧
    (c.f 1 0 2 = 3 → c.len = 1 → tget s.stages (c.f 1 2 6) ≠ none → (∀ a ∈ s.stageAtts, a.stage ≠ c.f 1 2 6) →
      Answers (exec (.audStage c.ch buf) s) { s.popped c rest with stages := tdel s.stages (c.f 1 2 6) } c 0 0 []) ∧
    (∀ k, c.f 1 0 2 = 2 → c.len = 2 → c.f 2 0 2 = 1 → c.f 2 4 12 = 0 → s.conf (c.f 2 16 16) = some k → s.mayTouch c.issuer k.tenant = true → k.mix = true →
      Answers (exec (.audStage c.ch buf) s) ((s.popped c rest).takeOff 1 (c.f 2 16 16) (c.f 2 2 2)).settle c 0 0 []) ∧
    (∀ k t v, c.f 1 0 2 = 1 → c.len = 5 → c.f 2 0 2 = 1 → c.f 2 4 12 = 0 → s.conf (c.f 2 16 16) = some k → s.mayTouch c.issuer k.tenant = true → k.mix = true → tget s.stages (c.f 1 2 6) ≠ none →
      t = (s.popped c rest).takeOff 1 (c.f 2 16 16) (c.f 2 2 2) →
      State.reflow { t with stageAtts := t.stageAtts ++ [{ point := 1, obj := c.f 2 16 16, pos := c.f 2 2 2, stage := c.f 1 2 6, params := [(c.w 3).toNat, (c.w 4).toNat, (c.w 5).toNat], at_ := t.time.m }] } noSoft = .ok v →
      Answers (exec (.audStage c.ch buf) s) v c 0 0 [])))

/-- A run of an attached stage (R206, R207, R304 to R306): a run that gives a block puts it back, saturated to the signal range and crossfaded where the attachment is new, and its instance keeps its
state; a protection fault detaches the stage with EV_AUD_STAGE_FAULT; a run that its timer stops is counted by STAGE_OVER, its input goes on, and at the eighth in a row the stage is detached. With no stage
or no block whose turn it is nothing changes. -/
def Obligations.StageRuns : Prop :=
  (∀ (s u : State) (p o k t : Nat) (r : StageResult), p < 3 → k < 4 → u = s.stageHear p o → (u.stageTurn p o k t = none ∨ u.stageBlock p o t = none) →
    exec (.stageRun p o k t r) s = .next u ∧ exec (.stageTimerExpire p o k t) s = .next u) ∧
  (∀ (s u : State) (p o k t : Nat) (a : StageAtt) (x : List Int) (st : Stage), p < 3 → k < 4 → u = s.stageHear p o → u.stageTurn p o k t = some a → u.stageBlock p o t = some x →
    tget u.stages a.stage = some st →
    (∀ y q b, exec (.stageRun p o k t (.output y q b)) s = .next ((u.stageOutput a st t x y q b).stagesDone p o)) ∧
    exec (.stageRun p o k t .fault) s = .next (((u.occur srcStageProt (u.occStage p o)).stageFault a).stagesDone p o) ∧
    (8 ≤ a.stops + 1 → exec (.stageTimerExpire p o k t) s = .next (((u.occur srcStageOver (u.occStage p o)).stageFault a).stagesDone p o)) ∧
    (a.stops + 1 < 8 → ∃ i : StageInst, i.talker = (a.inst t st.state).talker ∧ i.ran = some u.time.m ∧ i.out = x ∧ i.state = (a.inst t st.state).state ∧
      exec (.stageTimerExpire p o k t) s = .next ((((u.occur srcStageOver (u.occStage p o)).modAtt a fun b => { b.withInst i with stops := b.stops + 1 }).putBlock p o t
        (u.stageJoin a t x x)).stagesDone p o)))

/-- A leg's input (R191, R194, R199): AUDIO_DECODE runs once in a tick; a leg that is not decoding has no voice, and one that is has the block that it decoded, or silence after 60 ms of concealment; a leg without an
input packet for 60 ticks loses its loudness; the jitter buffer that wants to move does so while no voice is heard, or when its time is up.

Mixing and encoding (R200 to R203, R212): MIX_RUN mixes a conference once in a tick, unless it has no MIX; AUDIO_ENCODE runs once at the start of each of the leg's frames, and queues a packet with the leg's
SSRC and payload type at priority 2 if the leg is LIVE and has an output SSRC; CASC_CONTRIB_SEND sends the contributions of the tick just ended once, to every cascade leg, while the conference has a cascade delay. -/
def Obligations.AudioTicks : Prop :=
  ((∀ (s : State) (leg : Nat) (l : Leg) (b : AudioBlock), (Instr.audioDecode leg b).wf = true → s.leg leg = some l →
    ((l.cfg.feeds = false ∨ l.aud.inp.cur.tick = some s.time.m) → exec (.audioDecode leg b) s = .next s) ∧
    (l.cfg.feeds = true → l.aud.inp.cur.tick ≠ some s.time.m → s.stoppedFlow (.legAudio leg) = false →
      (∀ j, j = l.aud.inp.jb.play l.aud.inp.cand s.time.m → j.running = false →
        exec (.audioDecode leg b) s = .next ((s.setLeg leg { l with aud := { l.aud with inp := { l.aud.inp with jb := j, vad := false } } }).vadEvent leg)) ∧
      (∀ j u, j = l.aud.inp.jb.play l.aud.inp.cand s.time.m → j.running = true → j.covered s.time.m = true → j.concealRun ≤ 60 → l.aud.cfg.dtmfInband = false →
        u = s.setLeg leg { l with aud := { l.aud with inp := { l.aud.inp with jb := j, prev := l.aud.inp.cur, cur := { tick := some s.time.m, samples := (block48 b.samples).map satSample } } } } →
        exec (.audioDecode leg b) s = .next (if (u.stagesAt 0 leg).isEmpty then u.heard leg else u)))) ∧
  (∀ (s : State) (leg : Nat) (l : Leg), leg < 65536 → s.leg leg = some l →
    ((∀ t, l.aud.inp.lastPkt = some t → t + 60 ≤ s.time.m) → exec (.loudnessReset leg) s = .next (s.setLeg leg { l with aud := { l.aud with inp := { l.aud.inp with u := 0, pendU := [] } } })) ∧
    (∀ t, l.aud.inp.lastPkt = some t → s.time.m < t + 60 → exec (.loudnessReset leg) s = .next s) ∧
    (l.cfg.feeds = false → exec (.jbReanchor leg) s = .next s) ∧
    (∀ later by_, l.cfg.feeds = true → l.aud.inp.jb.move = some (later, by_) →
      ((l.aud.inp.vad = false ∨ by_ ≤ s.time.m) → NextWith (exec (.jbReanchor leg) s) fun t => ∃ l', t.leg leg = some l' ∧ l'.aud.inp.jb = l.aud.inp.jb.shift later ∧ l'.cfg = l.cfg) ∧
      (l.aud.inp.vad = true → s.time.m < by_ → exec (.jbReanchor leg) s = .next (s.setLeg leg l))))) ∧
  ((∀ (s : State) (id : Nat) (c : Conf), id < 16384 → s.conf id = some c →
    ((c.mix = false ∨ c.mixTick = some s.time.m) → exec (.mixRun id) s = .next s) ∧
    (∀ u v, c.mix = true → c.mixTick ≠ some s.time.m → s.stoppedFlow (.confMix id) = false → c.pol.talkEv = false →
      u = (s.legs.filter fun x => x.2.cfg.hears && x.2.aud.cfg.outConf == id).foldl (fun s x => s.hear x.1) s →
      v = State.candidatesOf ((u.feeders id).foldl (fun s x => s.modIn x.1 fun i => i.foldU s.time.m) u) id c →
      exec (.mixRun id) s = .next ((v.mixNow id c ((v.activeOf id c).map v.bring)).pruneTalkers id))) ∧
  (∀ (s : State) (leg n : Nat) (l : Leg), (Instr.audioEncode leg n).wf = true → s.leg leg = some l →
    ((l.cfg.hears = false ∨ l.cfg.kind ≠ 0 ∨ l.aud.out.encAt = some s.time.m ∨ startsAt l.aud.out.enc.frameMs leg s.time.m = false) → exec (.audioEncode leg n) s = .next s) ∧
    (l.cfg.hears = true → l.cfg.kind = 0 → l.aud.out.encAt ≠ some s.time.m → startsAt l.aud.out.enc.frameMs leg s.time.m = true → s.stoppedFlow (.legEncode leg) = false → s.hear leg = s →
      (l.state = 1 → l.aud.cfg.outSsrc ≠ 0 → l.aud.out.enc.dtx = false → NextWith (exec (.audioEncode leg n) s) fun t => ∃ p : OutPkt, t.outQ = s.outQ ++ [p] ∧ p.leg = leg ∧ p.prio = 2 ∧
        p.ssrc = l.aud.cfg.outSsrc ∧ p.pt = l.aud.cfg.outPt ∧ p.payloadLen = frameSize l.aud.out.enc n) ∧
      (l.state ≠ 1 → NextWith (exec (.audioEncode leg n) s) fun t => t.outQ = s.outQ ∧ ∃ l', t.leg leg = some l' ∧ l'.aud.out.encAt = some s.time.m ∧ l'.cfg = l.cfg))) ∧
  (∀ (s : State) (id : Nat) (c : Conf), id < 16384 → s.conf id = some c →
    (c.pol.cascD = 0 → exec (.cascContribSend id) s = .next s) ∧
    (∀ t bs u, c.pol.cascD ≠ 0 → s.time.m ≠ 0 → s.stoppedFlow (.confMix id) = false → t = (s.time.m + 2 ^ 32 - 1) % 2 ^ 32 → (∀ k ∈ c.contribs, k.site = none → k.tick ≠ t) → bs = s.localBlocks c →
      u = s.modConf id (fun c => { c with contribs := c.contribs ++ [⟨none, t, bs⟩] }) →
      exec (.cascContribSend id) s = .next ((u.cascLegs id).foldl (fun s n => s.sendContrib c t bs n) u))))

/-- Detections (R204, R205): a telephone event without a packet for 200 ms, and a tone pair that was accepted and has ended for 20 ms, are reported with EV_AUD_DTMF; howl starts at the fifteenth analysis in a row
with one peak, and ends at the fiftieth without. -/
def Obligations.Detections : Prop :=
  (∀ (s : State) (leg : Nat) (l : Leg), leg < 65536 → s.leg leg = some l →
    (∀ t, (l.aud.det.tes.find? fun t => decide (t.last + 200 ≤ s.time.m)) = some t → exec (.dtmfDigitEnd leg true) s =
      .next ((s.modDet leg fun d => { d with tes := d.tes.filter fun x => x.ts ≠ t.ts, teDone := some t.ts }).dtmfEvent leg t.event t.dur 2 t.start)) ∧
    ((l.aud.det.tes.find? fun t => decide (t.last + 200 ≤ s.time.m)) = none → exec (.dtmfDigitEnd leg true) s = .next s) ∧
    (∀ t, (l.aud.det.tones.find? fun t => t.accepted && decide (t.last + 20 ≤ s.time.m)) = some t → exec (.dtmfDigitEnd leg false) s =
      .next ((s.modDet leg fun d => { d with tones := d.tones.filter fun x => x ≠ t, toneDone := some (t.digit, t.last), muteUntil := s.time.m + 40 }).dtmfEvent leg t.digit (t.last + 1 - t.start) 0 t.start)) ∧
    ((l.aud.det.tones.find? fun t => t.accepted && decide (t.last + 20 ≤ s.time.m)) = none → exec (.dtmfDigitEnd leg false) s = .next s)) ∧
  (∀ (s : State) (leg : Nat) (l : Leg), leg < 65536 → s.leg leg = some l → l.aud.cfg.howl = true → l.aud.inp.jb.running = true → s.stoppedFlow (.legAudio leg) = false →
    (∀ p, HowlPeak.fits p = true → l.aud.det.howlRun ≠ 0 → p.hz ≤ l.aud.det.howlHz + 25 → l.aud.det.howlHz ≤ p.hz + 25 → l.aud.det.howlOn = false →
      (l.aud.det.howlRun + 1 < 15 → exec (.howlAnalysis leg (some p)) s = .next (s.modDet leg fun d => { d with howlRun := l.aud.det.howlRun + 1, howlAbove := p.above, howlQuiet := 0 })) ∧
      (15 ≤ l.aud.det.howlRun + 1 → exec (.howlAnalysis leg (some p)) s = .next (((s.modDet leg fun d => { d with howlRun := l.aud.det.howlRun + 1, howlAbove := p.above, howlQuiet := 0 }).modDet leg
        fun d => { d with howlOn := true }).howlEvent leg l p.hz p.above true))) ∧
    (l.aud.det.howlOn = true → 50 ≤ l.aud.det.howlQuiet + 1 → exec (.howlAnalysis leg none) s = .next (((s.modDet leg fun d => { d with howlRun := 0, howlQuiet := d.howlQuiet + 1 }).modDet leg fun d =>
      { d with howlOn := false }).howlEvent leg l l.aud.det.howlHz l.aud.det.howlAbove false)) ∧
    (l.aud.det.howlOn = false → exec (.howlAnalysis leg none) s = .next (s.modDet leg fun d => { d with howlRun := 0, howlQuiet := d.howlQuiet + 1 }))) ∧
  (∀ (s : State) (leg : Nat) (l : Leg) (p : Option HowlPeak), leg < 65536 → s.leg leg = some l → l.aud.cfg.howl = false → exec (.howlAnalysis leg p) s = .next s)

/-- DSP cores (R288 to R300): a powered core without a waiting fault issues its bundle and counts the stall cycles, and a bundle that
causes a fault has no effect of its own; the core then takes the fault, and any other interrupt only while IE is 1 outside a branch delay slot. -/
def Obligations.CoreExecution : Prop :=
  (∀ (s : State) (core : Nat) (b : Bundle) (c k : Core) (stall : Nat) (free : Nat → Nat), (Instr.coreBundle core b).wf = true → c = s.core core →
    s.power.pdOn.contains (core / 4) = true → c.pendingFault = false → free = (fun i => Config.freeValue (s.fresh + i)) →
    (c.bundle (State.windows { s with fresh := s.fresh + 6 } core c) (s.rail (core / 4)).split free b = some (k, stall) →
      exec (.coreBundle core b) s = .next ((State.modCore { s with fresh := s.fresh + 6 } core fun _ => k).occurN srcSplitStall { cl := some (core / 4) } stall)) ∧
    (c.bundle (State.windows { s with fresh := s.fresh + 6 } core c) (s.rail (core / 4)).split free b = none →
      exec (.coreBundle core b) s = .next (State.modCore { s with fresh := s.fresh + 6 } core fun c => { c with pendingFault := true }))) ∧
  (∀ (s : State) (core handler : Nat) (kind : CoreInt) (c : Core), (Instr.coreInterrupt core kind handler).wf = true → c = s.core core →
    s.power.pdOn.contains (core / 4) = true →
    ((c.pendingFault = true ∧ kind = .fault) ∨ (c.pendingFault = false ∧ kind ≠ .fault ∧ c.ie = true ∧ c.branch = none) →
      exec (.coreInterrupt core kind handler) s = .next (s.modCore core fun c => c.interrupt handler)) ∧
    ((c.pendingFault = true ∧ kind ≠ .fault) ∨ (c.pendingFault = false ∧ (kind = .fault ∨ c.ie = false ∨ c.branch ≠ none)) →
      exec (.coreInterrupt core kind handler) s = .next s)) ∧
  (∀ (c : Core) (handler : Nat), (c.interrupt handler).pc = handler ∧ (c.interrupt handler).ipc = c.landAll.pc ∧ (c.interrupt handler).isr = c.landAll.sr ∧
    (c.interrupt handler).ie = false ∧ (c.interrupt handler).priv = true ∧ (c.interrupt handler).flights = [] ∧ (c.interrupt handler).accFlights = []) ∧
  (∀ (s : State) (cl : Nat) (r : Rail), cl < 48 → r = s.rail cl → s.power.pdOn.contains cl = true →
    (∀ t, r.split = false → r.lowSince = some t → t + 100 ≤ s.time.m → exec (.dmodeSwitch cl true) s = .next (s.switchMode cl true)) ∧
    (r.split = true → 680 ≤ r.mv → r.splitTick + 1 ≤ s.time.m → exec (.dmodeSwitch cl false) s = .next (s.switchMode cl false)) ∧
    (r.split = true → (r.mv < 680 ∨ s.time.m < r.splitTick + 1) → exec (.dmodeSwitch cl false) s = .next s))

/-- The arithmetic of a core (R283, R284, R293): lane instructions operate lane by lane without carry between lanes, in a modulo form and in a saturating
form that limits each lane to its signed range and sets SV when it does so; an accumulation whose AV stays clear is exact; and a
circular update by at most the length keeps the address in the buffer. -/
def Obligations.CoreArithmetic : Prop :=
  (∀ (w i : Nat) (g : Nat → Nat × Bool), w ∈ [8, 16, 32, 64] → i < 64 / w →
    laneOf w (lanewise w g).1 i = (g i).1 % 2 ^ w ∧ (lanewise w g).1 < 2 ^ 64 ∧ ((g i).2 = true → (lanewise w g).2 = true)) ∧
  (∀ (c : Core) (free : Nat → Nat) (op : LaneOp) (w rd rx ry : Nat) (sat : Bool), c.alu free (.lane op w sat rd rx ry) =
    { fl := [⟨1, .d rd, 0, 64, (lanewise w fun i => laneOne op sat w (laneOf w (c.read (.d rx)) i) (laneOf w (c.read (.d ry)) i) (free i)).1⟩]
      sv := (lanewise w fun i => laneOne op sat w (laneOf w (c.read (.d rx)) i) (laneOf w (c.read (.d ry)) i) (free i)).2 }) ∧
  (∀ w x y f : Nat, 0 < w → x < 2 ^ w → y < 2 ^ w → laneOne .add false w x y f = ((x + y) % 2 ^ w, false) ∧ laneOne .sub false w x y f = ((x + 2 ^ w - y) % 2 ^ w, false) ∧
    laneOne .add true w x y f = (field w (satTo w (signed w x + signed w y)).1, (satTo w (signed w x + signed w y)).2) ∧
    laneOne .sub true w x y f = (field w (satTo w (signed w x - signed w y)).1, (satTo w (signed w x - signed w y)).2) ∧
    (y < w → laneOne .shl false w x y f = (x * 2 ^ y % 2 ^ w, false) ∧ laneOne .shl true w x y f = (field w (satTo w (signed w x * 2 ^ y)).1, (satTo w (signed w x * 2 ^ y)).2))) ∧
  (∀ (w old : Nat) (x : Int), 0 < w → (accAdd w old x).1 < 2 ^ w ∧ ((accAdd w old x).2 = false → signed w (accAdd w old x).1 = signed w old + x)) ∧
  (∀ (w : Nat) (x : Int), 0 < w → -(2 ^ (w - 1) : Int) ≤ (satTo w x).1 ∧ (satTo w x).1 < 2 ^ (w - 1) ∧
    (-(2 ^ (w - 1) : Int) ≤ x → x < 2 ^ (w - 1) → satTo w x = (x, false)) ∧ ((satTo w x).2 = true → x < -(2 ^ (w - 1) : Int) ∨ (2 ^ (w - 1) : Int) ≤ x)) ∧
  (∀ (base len a : Nat) (step : Int), 0 < len → base + len < 2 ^ 31 → base ≤ a → a < base + len → -(len : Int) ≤ step → step ≤ len →
    base ≤ circular base len a step ∧ circular base len a step < base + len)

/-- Rounding (R285, R286): with RMODE 0 a value loses s bits as floor((x + 2^(s−1)) / 2^s), with RMODE 1 as floor(x / 2^s); extractions, rounding shifts and
fractional multiplies round so, an extraction saturating to its lane's width and setting SV if it does; shifts do not round and ignore RMODE. -/
def Obligations.RoundingInstructions : Prop :=
  (∀ (x : Int) (s : Nat), 0 < s → (2 ^ s : Int) * roundShift false x s ≤ x + 2 ^ (s - 1) ∧ x + 2 ^ (s - 1) < 2 ^ s * (roundShift false x s + 1)) ∧
  (∀ (x : Int) (s : Nat), (2 ^ s : Int) * roundShift true x s ≤ x ∧ x < 2 ^ s * (roundShift true x s + 1)) ∧
  (∀ (c : Core) (w rd rx n : Nat) (free : Nat → Nat), c.alu free (.roundShift w rd rx n) =
    { fl := [⟨1, .d rd, 0, 64, (lanewise w fun i => (field w (roundShift c.rmode (laneInt w (c.read (.d rx)) i) n), false)).1⟩] }) ∧
  (∀ (c : Core) (w rd rx ry i : Nat) (free : Nat → Nat) (p : Int), p = roundShift c.rmode (laneInt w (c.read (.d rx)) i * laneInt w (c.read (.d ry)) i) (w - 1) →
    (satTo w p).2 = false → ∃ g : Nat → Nat × Bool, c.alu free (.fracMul w rd rx ry) = { fl := [⟨1, .d rd, 0, 64, (lanewise w g).1⟩] } ∧ g i = (field w p, false)) ∧
  (∀ (c : Core) (ac rd lane bits shift : Nat) (half : Half) (x : Int),
    x = (match half with | .full => signed 80 (tgetD c.ac ac 0) | .lo => signed 40 (tgetD c.ac ac 0 % 2 ^ 40) | .hi => signed 40 (tgetD c.ac ac 0 / 2 ^ 40)) →
    c.mac (.extract ac half rd lane bits shift) =
      { fl := [⟨2, .d rd, bits * lane, bits, field bits (satTo bits (roundShift c.rmode x shift)).1⟩], sv := (satTo bits (roundShift c.rmode x shift)).2 }) ∧
  (∀ (c k : Core) (op : LaneOp) (w rd rx ry : Nat) (sat : Bool) (free : Nat → Nat), (∀ n, c.read (.d n) = k.read (.d n)) →
    c.alu free (.lane op w sat rd rx ry) = k.alu free (.lane op w sat rd rx ry))

/-- VID.DECODE (R252): a decode job is made of a leg's received video track with the lowest free ID, its settings as the arguments give
them; its waiting depth, priority and layer change at once or, for the layer, at a switching point; it is removed unless a
canvas or an encode job uses it; and its status gives its six words.

VID.ENCODE and VID.KEYREQ (R239, R253, R254): an encode job of a canvas or a decode job is made with the lowest free ID; its quality,
key interval, rates and priority are changed; it is removed; its status gives its four words; a receiving slot is attached to and
detached from it; and a key request answers the longest wait. -/
def Obligations.VideoCommands : Prop :=
  ((∀ (s t : State) (c : Ctx) (rest : List Cmd) (leg : Nat) (l : Leg) (tr : Track) (job : DecJob) (id : Nat), AtHead s c 0x0A01 rest → c.len = 4 → c.f 1 22 10 = 0 →
    c.f 1 0 2 = 0 → leg = c.f 2 0 16 → s.leg leg = some l → s.mayTouch c.issuer (s.legTenant l) = true → l.gen = c.f 2 16 8 →
    tget l.tracks (c.f 2 24 3) = some tr → tr.media = 1 → l.cfg.compRecv = true → 8 ≤ tr.codec → tr.codec ≤ 11 →
    job = { srcLeg := leg, srcGen := c.f 2 16 8, srcTrack := c.f 2 24 3, decS := c.f 2 27 2, decT := c.f 2 29 2, maxW := c.f 3 0 16, maxH := c.f 3 16 16, maxFps := c.f 4 0 7, vjit := c.f 4 8 8, prio := c.f 1 2 2, group := groupArg (c.f 1 16 6), creator := c.issuer, tenant := s.legTenant l, codec := tr.codec } →
    job.prio ≠ 3 → job.decS ≠ 3 → job.decT ≠ 3 → c.bit 2 31 = false → 16 ≤ job.maxW → job.maxW ≤ 7680 → 16 ≤ job.maxH → job.maxH ≤ 4320 →
    1 ≤ job.maxFps → job.maxFps ≤ 60 → c.bit 4 7 = false → job.vjit ≤ 200 → c.f 4 16 16 = 0 →
    (overLevel s (c.f 1 16 6) tr.codec job.maxW job.maxH).1 = false → (badGroup s (c.f 1 16 6)).1 = false → firstFree s.decJobs 0 3072 = some id →
    s.videoBytes + decJobBytes tr.codec job.maxW job.maxH ≤ s.regionSize 2 →
    State.reflow { s.popped c rest with decJobs := tset s.decJobs id job } noSoft = .ok t →
    Answers (exec (.vidDecode c.ch) s) t c 0 0 [id + 65536 * t.clusterOf (.decode id)]) ∧
  (∀ (s : State) (c : Ctx) (rest : List Cmd) (id : Nat) (j : DecJob), AtHead s c 0x0A01 rest → c.f 1 22 10 = 0 → id = c.f 1 4 12 → tget s.decJobs id = some j →
    (c.f 1 0 2 = 1 → c.len = 2 → s.mayTouch c.issuer j.tenant = true → c.f 1 2 2 ≠ 3 → c.f 2 27 2 ≠ 3 → c.f 2 29 2 ≠ 3 → c.f 2 0 8 = 0 → c.f 2 16 11 = 0 →
      c.bit 2 31 = false → c.f 2 8 8 ≤ 200 →
      Answers (exec (.vidDecode c.ch) s) { s.popped c rest with decJobs := tset s.decJobs id { j with vjit := c.f 2 8 8, prio := c.f 1 2 2, pend := if (c.f 2 27 2, c.f 2 29 2) = (j.decS, j.decT) then none else some (c.f 2 27 2, c.f 2 29 2) } } c 0 0 []) ∧
    (c.f 1 0 2 = 2 → c.len = 1 → s.mayTouch c.issuer j.tenant = true →
      (s.producerUsed 1 id = false → Answers (exec (.vidDecode c.ch) s) ((s.popped c rest).endDecode id) c 0 0 []) ∧
      (s.producerUsed 1 id = true → Answers (exec (.vidDecode c.ch) s) (s.popped c rest) c 9 0x0A06 [])) ∧
    (c.f 1 0 2 = 3 → c.len = 1 → s.mayTouch c.issuer j.tenant = true →
      Answers (exec (.vidDecode c.ch) s) (s.popped c rest) c 0 0
        [j.fstat, j.decoded, j.concealedN, j.curW % 65536 + 65536 * (j.curH % 65536), s.clusterOf (.decode id) + 64 * j.prio]))) ∧
  ((∀ (s t : State) (c : Ctx) (rest : List Cmd) (buf : BufRead) (e : EncCfg) (form : Option (Nat × Nat × Nat)) (tenant id : Nat) (job : EncJob),
    AtHead s c 0x0A02 rest → c.f 1 0 3 = 0 → c.f 1 22 10 = 0 → c.len = (if c.bit 2 24 then 10 else 7) → e = encCfgOf c → form = s.sourceForm e.srcKind e.src →
    s.sourceTenant e.srcKind e.src = some tenant → s.mayTouch c.issuer tenant = true → c.f 1 3 2 ≠ 3 →
    8 ≤ e.codec → e.codec ≤ 11 → (e.profile = 1 → e.codec = 8) → e.mode ≤ 5 → (e.mode = 2 ∨ e.mode = 3 → e.codec = 11) → c.f 2 25 7 = 0 → c.f 2 13 3 = 0 →
    fpsOk form e.fps = true → e.outW % 2 = 0 → e.outH % 2 = 0 → 64 ≤ e.outW → e.outW ≤ 7680 → 64 ≤ e.outH → e.outH ≤ 4320 → scaleOk form e.outW e.outH = true →
    1 ≤ e.fps → e.fps ≤ 60 → c.f 4 12 4 = 0 → keyIvOk e.keyIv = true → c.f 5 26 6 = 0 → c.f 6 24 8 = 0 → 256 ≤ e.pktMax → e.pktMax ≤ 8960 → c.f 7 14 18 = 0 →
    (c.bit 2 24 = true → (∀ x ∈ descChecks c 8 true, x.1 = false) ∧ 1048576 ≤ descLen c 8 ∧ buf ≠ .unreachable ∧ buf ≠ .memError) →
    (overLevel s (c.f 1 16 6) e.codec e.outW e.outH).1 = false → (badGroup s (c.f 1 16 6)).1 = false → firstFree s.encJobs 0 1536 = some id →
    job = { cfg := e, prio := c.f 1 3 2, group := groupArg (c.f 1 16 6), creator := c.issuer, tenant := tenant, ring := if c.bit 2 24 then some { size := descLen c 8 } else none, encs := List.replicate (modeEncs e.mode) {} } →
    State.reflow { ((s.popped c rest).draw 253).2 with encJobs := tset s.encJobs id job, jobTracks := tset s.jobTracks id ((s.popped c rest).jobTrack e).1 } noSoft = .ok t →
    Answers (exec (.vidEncode c.ch buf) s) t c 0 0 [id + 65536 * t.clusterOf (.encode id)]) ∧
  (∀ (s : State) (c : Ctx) (rest : List Cmd) (buf : BufRead) (id : Nat) (j : EncJob), AtHead s c 0x0A02 rest → c.f 1 22 10 = 0 → id = c.f 1 5 11 →
    tget s.encJobs id = some j → s.mayTouch c.issuer j.tenant = true →
    (c.f 1 0 3 = 1 → c.len = 4 → c.f 1 3 2 ≠ 3 → c.f 2 12 4 = 0 → keyIvOk (c.f 2 16 16) = true → c.f 3 26 6 = 0 → c.f 4 24 8 = 0 →
      (c.f 1 3 2 = 0 → s.legs.any (fun x => x.2.attachedTo id) = false) →
      Answers (exec (.vidEncode c.ch buf) s) { s.popped c rest with encJobs := tset s.encJobs id { j with cfg := { j.cfg with q := c.f 2 6 6, keyIv := c.f 2 16 16, rateMax := c.f 3 0 24, follow := c.bit 3 24, coastEv := c.bit 3 25, frameCap := c.f 4 0 24 }, prio := c.f 1 3 2 } } c 0 0 []) ∧
    (c.f 1 0 3 = 2 → c.len = 1 → Answers (exec (.vidEncode c.ch buf) s) ((s.popped c rest).endEncode id) c 0 0 []) ∧
    (c.f 1 0 3 = 3 → c.len = 1 → Answers (exec (.vidEncode c.ch buf) s) (s.popped c rest) c 0 0 [j.fstat, j.coded, j.coasted, j.skipped]) ∧
    (∀ (leg k sel : Nat) (l : Leg) (x : SubSet) (t : State), c.f 1 0 3 = 4 → c.len = 5 → leg = c.f 2 0 16 → k = c.f 2 24 6 → sel = c.f 5 24 2 →
      s.leg leg = some l → s.mayTouch c.issuer (s.legTenant l) = true → l.gen = c.f 2 16 8 → x = ⟨(c.w 3).toNat, (c.w 4).toNat, c.f 5 0 7, c.f 5 8 7, c.f 5 16 8⟩ →
      c.f 5 26 6 = 0 → c.bit 5 7 = false → c.bit 5 15 = false → (sel = 3 ∨ sel < j.encs.length) → l.cfg.compSend = true → j.prio ≠ 0 →
      (l.slots.any fun v => v.1 ≠ k && v.2.outSsrc == x.ssrc) = false → l.keys.rekey = false → tget l.slots k = none → s.subscriptions < 1048576 →
      State.reflow ((s.popped c rest).newSlot leg k (.job id) 1 x sel) (softFor leg) = .ok t →
      Answers (exec (.vidEncode c.ch buf) s) t c 0 0 []) ∧
    (∀ (leg k : Nat) (l : Leg) (v : Slot), c.f 1 0 3 = 5 → c.len = 2 → leg = c.f 2 0 16 → k = c.f 2 24 6 → s.leg leg = some l →
      s.mayTouch c.issuer (s.legTenant l) = true → l.gen = c.f 2 16 8 → tget l.slots k = some v → v.ofJob id = true →
      Answers (exec (.vidEncode c.ch buf) s) ((s.popped c rest).removeSlot leg k).settle c 0 0 [])) ∧
  (∀ (s t : State) (c : Ctx) (rest : List Cmd) (id : Nat) (j k : EncJob) (es : List Nat), AtHead s c 0x0A03 rest → c.f 1 13 19 = 0 → id = c.f 1 0 11 →
    tget s.encJobs id = some j → s.mayTouch c.issuer j.tenant = true → (c.f 1 11 2 = 3 ∨ c.f 1 11 2 < j.encs.length) →
    es = (if c.f 1 11 2 = 3 then List.range j.encs.length else [c.f 1 11 2]) → t = es.foldl (fun s e => s.jobKey id e) (s.popped c rest) → tget t.encJobs id = some k →
    Answers (exec (.vidKeyreq c.ch) s) t c 0 0 [(es.map fun e => (k.encs.getD e {}).keyWait t.time.m).foldl max 0]))

/-- Video frames (R225, R233 to R236, R237, R241 to R246): the next frame of a decode job goes to its engine when it is due; a finished one is
decoded, or refused where it exceeds the job's limits; a ready frame of an encoding takes a pipe with its budget, or is skipped where the budget
cannot hold even its coasted rows; and a coded one leaves its pipe. -/
def Obligations.VideoFrames : Prop :=
  (∀ (s : State) (job c : Nat) (j : DecJob), job < 3072 → tget s.decJobs job = some j → s.engineOf (.decode job) = some c →
    (∀ (isRef : Bool) (f : DecFrame) (later : List DecFrame), j.frames.dropWhile (fun f => f.submitted) = f :: later →
      (j.due f later s.time.m = true → exec (.decodeFrameSubmit job isRef) s =
        .next (((((s.dropFrames job j).modDec job fun j => { j with lastSubmitted := some f.ts }).modFrame job f.ts fun f => { f with submitted := true, isRef := isRef }).modEngine c
          fun e => { e with decWait := e.decWait ++ [(job, f.ts)] }).decNext c)) ∧
      (j.due f later s.time.m = false → exec (.decodeFrameSubmit job isRef) s = .next s)) ∧
    (∀ (pic : DecodedPic) (ts : Nat) (f : DecFrame) (u : State), (s.engine c).decRun = some (job, ts) → (j.frames.find? fun f => f.ts == ts) = some f →
      (j.limit (s.placeSize c == 4) pic = none ∧ u = s.decDone job j f (s.placeSize c) pic ∨
        (∃ cause, j.limit (s.placeSize c == 4) pic = some cause ∧ u = s.decRefused job f pic cause)) →
      exec (.decodeFrameComplete job pic) s = .next (((u.modDec job fun j => { j with frames := j.frames.filter fun g => g.ts ≠ f.ts }).modEngine c
        fun e => { e with decRun := none }).decNext c))) ∧
  (∀ (s u : State) (job enc header c : Nat) (j0 j : EncJob) (e : Encoding) (pic : Nat × (Nat × Nat) × Bool) (key base : Bool) (t : Nat) (b : Option Nat),
    job < 1536 → enc < 3 → tget s.encJobs job = some j0 → u = s.transcodeReady job enc j0 → tget u.encJobs job = some j → u.engineOf (.encode job) = some c →
    j.encs[enc]? = some e → u.picture j.cfg e.ready = some pic → e.ready ≠ none → e.running = false → j.degrade ≠ 2 →
    key = (e.keyDue j.cfg.keyIv u.time.m || e.resized pic.2.1 j.cfg enc) → t = (if key then 0 else layerAt j.cfg.mode e.sinceKey) →
    capSkips u.power.applied j.prio j.cfg.mode enc t e.capAlt = false → degradeSkips j.degrade enc t = false →
    base = (j.degrade == 1 || (j.prio == 1 && u.power.applied.contains 3)) →
    b = frameBudget (u.rateOf job j.cfg) j.cfg.frameCap (e.drained (u.rateOf job j.cfg) u.time.m) →
    (∀ v, b = some v → v < header + ((rowCosts j.cfg.codec key (j.cfg.layers enc pic.2.1 base)).map (·.sum)).sum →
      exec (.encodeFrameStart job enc header) s = .next (u.encDrop job enc key false)) ∧
    (∀ r i, (∀ v, b = some v → header + ((rowCosts j.cfg.codec key (j.cfg.layers enc pic.2.1 base)).map (·.sum)).sum ≤ v) →
      (u.engine c).encBest = some r → r.is job enc = true → (u.engine c).pipeFor j.prio = some i →
      exec (.encodeFrameStart job enc header) s = .next (u.encGo job enc c i r header key base t b pic))) ∧
  (∀ (s : State) (job enc recRd c i : Nat) (rows : List Nat) (j : EncJob) (e : Encoding), job < 1536 → enc < 3 → tget s.encJobs job = some j →
    s.engineOf (.encode job) = some c → j.encs[enc]? = some e → ((s.engine c).pipes.findIdx? fun p => p.any fun r => r.is job enc) = some i →
    e.running = true → s.pictureDone j.cfg e.runSrc = true →
    exec (.encodeFrameComplete job enc rows recRd) s =
      .next (((s.encFinish job enc c j e rows recRd).modEngine c fun x => { x with pipes := x.pipes.set i none }).resumePipes c 2))

/-- The layout commands (R275 to R278): a canvas is made on the composer that the command names or that has most room, changed, removed, read and copied; a
layer is set, removed and read; the blend order and the two tables of a canvas are set. -/
def Obligations.LayoutCommands : Prop :=
  (∀ (s t : State) (c : Ctx) (rest : List Cmd) (buf : BufRead) (fresh cv : Canvas) (q id : Nat), AtHead s c 0x0B01 rest → c.f 1 0 3 = 0 → c.len = 5 →
    fresh = { composer := 0, tenant := if isPF c.issuer then c.f 5 0 12 else (s.tenantOf c.issuer).getD 0, creator := c.issuer, w := c.f 2 0 16, h := c.f 2 16 16, fps := c.f 3 0 6, lowDelay := c.bit 3 6, nsurf := if c.f 3 7 4 = 0 then 4 else c.f 3 7 4, switchMax := if c.f 3 16 16 = 0 then 1000 else c.f 3 16 16, bgY := c.f 4 0 8, bgCb := c.f 4 8 8, bgCr := c.f 4 16 8 } →
    (c.f 1 16 3 < 4 ∧ q = c.f 1 16 3 ∨ c.f 1 16 3 = 7 ∧ (s.popped c rest).chooseComposer 192 fresh none = some q) → cv = { fresh with composer := q } →
    c.f 1 3 5 = 0 → c.f 1 19 13 = 0 → cv.w % 2 = 0 → cv.h % 2 = 0 → 64 ≤ cv.w → cv.w ≤ 3840 → 64 ≤ cv.h → cv.h ≤ 2160 → 1 ≤ cv.fps → cv.fps ≤ 60 → c.f 3 11 5 = 0 →
    3 ≤ cv.nsurf → cv.nsurf ≤ 8 → 100 ≤ cv.switchMax → cv.switchMax ≤ 10000 → c.f 4 24 8 = 0 → c.f 5 12 20 = 0 →
    (∀ x ∈ composerFull { s.popped c rest with canvases := tset s.canvases 192 cv } q, x.1 = false) →
    (canvasRegionFull { s.popped c rest with canvases := tset s.canvases 192 cv }).1 = false → (s.popped c rest).canvasId q = some id →
    State.reflow { s.popped c rest with canvases := tset s.canvases id cv } noSoft = .ok t →
    Answers (exec (.layCanvas c.ch buf) s) t c 0 0 [id + 256 * q]) ∧
  (∀ (s : State) (c : Ctx) (rest : List Cmd) (buf : BufRead) (id : Nat) (v : Canvas), AtHead s c 0x0B01 rest → id = c.f 1 8 8 → tget s.canvases id = some v →
    c.f 1 3 5 = 0 → c.f 1 19 13 = 0 → s.mayTouch c.issuer v.tenant = true →
    (c.f 1 0 3 = 1 → c.len = 3 → c.f 2 11 5 = 0 → (c.f 2 16 16 = 0 ∨ 100 ≤ c.f 2 16 16 ∧ c.f 2 16 16 ≤ 10000) → c.f 3 24 8 = 0 →
      Answers (exec (.layCanvas c.ch buf) s) { s.popped c rest with canvases := tset s.canvases id { v with lowDelay := c.bit 2 6, switchMax := if c.f 2 16 16 = 0 then 1000 else c.f 2 16 16, bgY := c.f 3 0 8, bgCb := c.f 3 8 8, bgCr := c.f 3 16 8 } } c 0 0 []) ∧
    (c.f 1 0 3 = 2 → c.len = 1 →
      (s.producerUsed 2 id = false → (∀ e ∈ s.encJobs, e.2.cfg.srcKind = 0 → e.2.cfg.src ≠ id) → Answers (exec (.layCanvas c.ch buf) s) ((s.popped c rest).endCanvas id) c 0 0 []) ∧
      (s.producerUsed 2 id = true → Answers (exec (.layCanvas c.ch buf) s) (s.popped c rest) c 9 0x0A06 [])) ∧
    (c.f 1 0 3 = 3 → c.len = 1 → Answers (exec (.layCanvas c.ch buf) s) (s.popped c rest) c 0 0
      [v.composer + 4 * b2n v.lowDelay + 16 * v.fps, v.composed, v.skipped, ((s.newest (.canvas id)).map (·.tick)).getD 0])) ∧
  (∀ (s : State) (c : Ctx) (rest : List Cmd) (buf : BufRead) (tenant : Nat) (x : Surface), AtHead s c 0x0B01 rest → c.f 1 0 3 = 4 → c.len = 5 →
    s.sourceTenant (c.f 2 12 1) (c.f 2 0 12) = some tenant → s.mayTouch c.issuer tenant = true → s.newest (encSource (c.f 2 12 1) (c.f 2 0 12)) = some x →
    (∀ y ∈ descChecks c 3 true, y.1 = false) → nbcSize x.w x.h x.depth ≤ descLen c 3 → buf ≠ .unreachable → buf ≠ .memError →
    Answers (exec (.layCanvas c.ch buf) s) { s.popped c rest with hostCopy := nbcBytes x } c 0 0 []) ∧
  (∀ (s : State) (c : Ctx) (rest : List Cmd) (buf : BufRead) (id n : Nat) (v : Canvas), AtHead s c 0x0B02 rest → id = c.f 1 0 8 → n = c.f 1 8 6 →
    tget s.canvases id = some v → s.mayTouch c.issuer v.tenant = true →
    (∀ (kind tenant : Nat) (src : LaySrc) (g : LayGeo) (image : Option Surface) (l : Layer) (u t : State), c.f 1 14 2 = 0 → kind = c.f 2 0 3 → kind ≤ 3 →
      c.len = (if kind = 3 then 10 else 7) → src = ⟨kind, if kind = 1 ∨ kind = 2 then c.f 2 16 12 else 0⟩ → g = layGeoOf c →
      (kind = 1 → ∃ j, tget s.decJobs src.src = some j ∧ j.tenant = tenant) → (kind = 2 → ∃ w, tget s.canvases src.src = some w ∧ w.tenant = tenant) →
      tenant = v.tenant → (kind = 3 → g.sw ≠ 0 ∧ g.sh ≠ 0) → c.f 2 5 3 = 0 → c.f 2 28 4 = 0 → (∀ k ∈ [3, 4, 5, 6], c.f k 0 1 = 0 ∧ c.f k 16 1 = 0) → c.f 7 24 8 = 0 →
      (kind ≠ 0 → (g.sw = 0 ∨ ratioOk g.dw g.sw = true) ∧ (g.sh = 0 ∨ ratioOk g.dh g.sh = true)) →
      (kind = 3 → (∀ y ∈ descChecks c 8 false, y.1 = false) ∧ descLen c 8 = stillLen g ∧ buf ≠ .unreachable ∧ buf ≠ .memError) → src ≠ ⟨2, id⟩ →
      image = (if kind = 3 then some (stillOf g (bufBytes buf (stillLen g)) s.tick) else none) → l = layerSet (tget v.layers n) src g image s.time.m →
      u = { s.popped c rest with canvases := tset s.canvases id { v with layers := tset v.layers n l } } → (∀ y ∈ composerFull u v.composer, y.1 = false) →
      (canvasRegionFull u).1 = false → (u.holdLayer id n l).reflow noSoft = .ok t →
      Answers (exec (.layLayer c.ch buf) s) t c 0 0 []) ∧
    (c.f 1 14 2 = 1 → c.len = 1 → Answers (exec (.layLayer c.ch buf) s)
      (State.dropReader { s.popped c rest with canvases := tset s.canvases id { v with layers := tdel v.layers n } } (readerLayer id n)).settle c 0 0 []) ∧
    (∀ l, c.f 1 14 2 = 2 → c.len = 1 → tget v.layers n = some l → Answers (exec (.layLayer c.ch buf) s) (s.popped c rest) c 0 0
      [l.code, ((if l.pend.isSome then l.held else l.shown).map (·.fstat)).getD 0, ((if l.pend.isSome then l.held else l.shown).map (·.tick)).getD 0])) ∧
  (∀ (s : State) (c : Ctx) (rest : List Cmd) (id : Nat) (v : Canvas), AtHead s c 0x0B03 rest → id = c.f 1 0 8 → tget s.canvases id = some v → s.mayTouch c.issuer v.tenant = true →
    c.len = 1 + c.f 1 9 7 → (c.f 1 8 1 = 0 ∧ c.f 1 9 7 = 0 ∨ c.f 1 8 1 = 1 ∧ 1 ≤ c.f 1 9 7 ∧ c.f 1 9 7 ≤ 64) → orderFault 2 [] (c.args.drop 1) = none →
    Answers (exec (.layOrder c.ch) s) { s.popped c rest with canvases := tupd s.canvases id fun v => { v with orderMode := c.f 1 8 1, order := if c.f 1 8 1 = 0 then [] else (c.args.drop 1).map fun w => w.fld 0 6 } } c 0 0 []) ∧
  (∀ (s : State) (c : Ctx) (rest : List Cmd) (buf : BufRead) (id : Nat) (v : Canvas) (l : List Nat), AtHead s c 0x0B04 rest → id = c.f 1 0 8 → tget s.canvases id = some v →
    s.mayTouch c.issuer v.tenant = true →
    (c.bit 1 9 = true → c.len = 1 → Answers (exec (.layLut c.ch buf) s)
      { s.popped c rest with canvases := tupd s.canvases id fun v => if c.bit 1 8 then { v with lutOut := none } else { v with lutIn := none } } c 0 0 []) ∧
    (c.bit 1 9 = false → c.len = 4 → (∀ y ∈ descChecks c 2 false, y.1 = false) → descLen c 2 = 2048 → buf ≠ .unreachable → buf ≠ .memError →
      l = lutWords 1024 (bufBytes buf 2048) → (∀ x ∈ l, x < 4096) → Answers (exec (.layLut c.ch buf) s)
      { s.popped c rest with canvases := tupd s.canvases id fun v => if c.bit 1 8 then { v with lutOut := some l } else { v with lutIn := some l } } c 0 0 []))

/-- Canvas frames (R260 to R263, R265, R428): a due frame starts with its snapshot once the layers whose new source is ready have switched; one is skipped
while the canvas still composes the frame before or has no free surface or no composer in service; the composer composes band by band,
the last band making the frame the canvas's newest surface; and a layer whose new source is late switches with a cause after SWITCH_MAX. -/
def Obligations.Composition : Prop :=
  (∀ (s : State) (c : Nat) (v : Canvas), c < 192 → tget s.canvases c = some v →
    (s.frameDue c v = false → exec (.canvasFrameStart c) s = .next s) ∧
    (s.frameDue c v = true → v.run = none → s.prot.composers.getD v.composer false = true → surfFree v.surfaces v.nsurf = true →
      exec (.canvasFrameStart c) s = .next ((s.switchReady c v).canvasGo c)) ∧
    (s.frameDue c v = true → v.run = none → (s.prot.composers.getD v.composer false = false ∨ surfFree v.surfaces v.nsurf = false) →
      exec (.canvasFrameStart c) s = .next (s.canvasSkip c v 0)) ∧
    (s.frameDue c v = true → v.run ≠ none → exec (.canvasFrameStart c) s =
      .next ((s.canvasSkip c v 1).modCanvas c fun v => { v with run := v.run.map fun r => { r with late := true } })) ∧
    (∀ (layer t : Nat) (l : Layer) (src : LaySrc) (g : LayGeo) (still : Option Surface), layer < 64 → tget v.layers layer = some l → l.pend = some (src, g, still, t) →
      (s.sourceReady src = false → t + v.switchMax ≤ s.time.m →
        exec (.layerSwitchTimeout c layer) s = .next (s.layerSwitch c layer (if (s.layerNewest src).isSome then 1 else 2))) ∧
      (s.sourceReady src = true ∨ s.time.m < t + v.switchMax → exec (.layerSwitchTimeout c layer) s = .next s))) ∧
  (∀ (s : State) (cmp id : Nat) (v : Canvas) (r : CanvasRun), cmp < 4 → s.prot.composers.getD cmp false = true → s.nextBand cmp = some (id, v, r) →
    (64 * (r.band + 1) < v.h → exec (.composerBand cmp) s = .next (s.modCanvas id fun v' => { v' with run := some (r.compose v.w v.h) })) ∧
    (v.h ≤ 64 * (r.band + 1) → exec (.composerBand cmp) s = .next (s.canvasDone id v (r.compose v.w v.h))))

/-- The NBC tile format (R272 to R274): every writer's choice for a tile reads back as the tile, at every value of its samples, in 1 to 15 units
and no more than the raw form takes. -/
def Obligations.TilesRoundTrip : Prop :=
  ∀ (d : Nat) (t : Tile), d = 8 ∨ d = 10 → TileOk d t →
    decTile d (encTile d t) = some t ∧ 1 ≤ (encTile d t).units ∧ (encTile d t).units ≤ rawUnits d ∧ (encTile d t).bits.length = 256 * (encTile d t).units

/-- The address orders (R389, R390): every region takes an equal share from each of the 128 pseudo-channels; every order maps each offset of a region to one of the 128 pseudo-channels, within the region's share of it, so
that no two offsets share a place; under MAP_D quarter q lies on stack q, and the second copy on stack (q + 2) mod 4. -/
def Obligations.AddressOrders : Prop :=
  (∀ order size o : Nat, order < 4 → o < size * 2 ^ 30 → (mapAddr order size o).1 < 128 ∧ (mapAddr order size o).2 < share size ∧
    unmapAddr order size (mapAddr order size o).1 (mapAddr order size o).2 = o) ∧
  (∀ size : Nat, share size * 128 = size * 2 ^ 30) ∧
  (∀ size o : Nat, o < size * 2 ^ 30 → (mapAddr 3 size o).1 / 32 = o / (size * 2 ^ 28) ∧
    copyPc (mapAddr 3 size o).1 / 32 = (o / (size * 2 ^ 28) + 2) % 4)

/-- Requests to the memory (R393, R394, R396 to R398): a real-time port raises panic below 25 per cent of its read buffer, counted once, and clears it above 50; after a write of a word, a read of that word without an erroneous symbol gives the bytes
written, whatever the order and the copies of the region; a scrub corrects one bad symbol and reports two; and the end of a refresh
window clears the activation counts and every throttle. -/
def Obligations.MemoryRequests : Prop :=
  (∀ (s : State) (r q : MemReq) (g : Region), Memory.wf s.mem = true → s.hbm.regions[r.region]? = some g → g.base + share g.size * (1 + b2n g.dup) ≤ localBytes →
    r.off / 32 * 32 < g.size * 2 ^ 30 → r.write = true → r.data.length = 32 → q.write = false → q.region = r.region → q.off / 32 = r.off / 32 → q.badSyms = [] →
    NextWith (exec (.hbmRequest r) s) fun t => NextWith (exec (.hbmRequest q) t) fun u => u.hbm.last = some r.data ∧ Memory.wf u.mem = true) ∧
  (∀ (s : State) (r : MemReq) (g : Region), s.hbm.regions[r.region]? = some g → g.size * 2 ^ 30 ≤ r.off / 32 * 32 → exec (.hbmRequest r) s = .next s) ∧
  (∀ (s : State) (pc addr p region off : Nat) (bad : List Nat), pc < 128 → p = addr / 32 * 32 % localBytes → region = (s.regionAt p).getD 7 →
    (∀ g, s.hbm.regions[region]? = some g → off = (if p - g.base < share g.size then unmapAddr g.order g.size pc (p - g.base)
      else unmapAddr g.order g.size (copyPc pc) (p - g.base - share g.size))) → (s.hbm.regions[region]? = none → off = 0) →
    (badCount bad = 0 → exec (.scrub pc addr bad) s = .next s) ∧
    (badCount bad = 1 → exec (.scrub pc addr bad) s = .next (s.corrected pc p (bad.headD 0x1F) 0xFF region off)) ∧
    (2 ≤ badCount bad → exec (.scrub pc addr bad) s = .next ((s.ueCount pc).errorResponse pc p (bad.headD 0x1F) 0xFF region off false))) ∧
  (∀ (s : State) (r : MemReq), (r.rtPort = none → s.panic r = s) ∧
    (∀ p, r.rtPort = some p → r.level < 25 → s.hbm.panics.contains p = false →
      s.panic r = State.occur { s with hbm := { s.hbm with panics := p :: s.hbm.panics } } srcHbmPanic { unit := some p }) ∧
    (∀ p, r.rtPort = some p → r.level < 25 → s.hbm.panics.contains p = true → s.panic r = s) ∧
    (∀ p, r.rtPort = some p → 25 ≤ r.level → r.level ≤ 50 → s.panic r = s) ∧
    (∀ p, r.rtPort = some p → 50 < r.level → s.panic r = { s with hbm := { s.hbm with panics := s.hbm.panics.filter (· ≠ p) } })) ∧
  (∀ s : State, NextWith (exec .refreshWindowEnd s) fun t => (∀ n, (t.pchan n).acts = [] ∧ (t.pchan n).midActs = [] ∧ (t.pchan n).throttled = []) ∧
    t.mem = s.mem ∧ t.hbm.log = s.hbm.log ∧ t.hbm.regions = s.hbm.regions ∧ t.hbm.poison = s.hbm.poison)

/-- MEM.MAP (R405, R406): a set allocates the new layout from free space and starts the migration, and fails with E_ALREADY_DONE where nothing
changes and with E_NOSPACE 0x0D01 where no range is free; the queries give a region's and a pseudo-channel's words; and the switch puts the
new layout in force with the region's contents and ends the operation.

Training of the memory (R402 to R404): an alarm schedules a retraining; a loaded verification is due for every pseudo-channel of a stack with a LIGHT record;
and in the part of a tick after 750 µs a pseudo-channel without an obstacle retrains or verifies, and after 960 µs it is deferred. -/
def Obligations.MemoryMapsAndTraining : Prop :=
  ((∀ (s : State) (c : Ctx) (rest : List Cmd) (r order size : Nat) (dup : Bool) (g : Region), AtHead s c 0x0D01 rest → c.f 1 15 1 = 0 → c.f 1 24 8 = 0 → c.f 1 0 2 = 0 →
    r = c.f 1 2 3 → order = c.f 1 5 2 → dup = c.bit 1 7 → size = c.f 1 16 8 → s.hbm.regions[r]? = some g → size ≤ 144 → (r = 0 → order = 3 ∧ dup = true) →
    (dup = true → order = 3) → s.findOp 0x0D01 (fun o => o.a == r) = none →
    (g.order = order → g.dup = dup → g.size = size → Answers (exec (.memMap c.ch) s) (s.popped c rest) c 6 0 []) ∧
    ((g.order, g.dup, g.size) ≠ (order, dup, size) → s.freeBase (share size * (1 + b2n dup)) = none → Answers (exec (.memMap c.ch) s) (s.popped c rest) c 3 0x0D01 []) ∧
    (∀ base, (g.order, g.dup, g.size) ≠ (order, dup, size) → s.freeBase (share size * (1 + b2n dup)) = some base → (r = 1 ∨ r = 7 ∨ s.regionUsed r ≤ size * 2 ^ 30) →
      s.outstanding c.issuer < 256 → Answers (exec (.memMap c.ch) s) (((s.popped c rest).accept c.issuer c.tag 0x0D01 r 0 0).2.modRegion r fun g =>
        { g with mig := some (order, dup, size, base) }) c 5 (s.fn c.issuer).nextHandle [])) ∧
  (∀ (s : State) (c : Ctx) (rest : List Cmd), AtHead s c 0x0D01 rest → c.f 1 15 1 = 0 → c.f 1 24 8 = 0 →
    (∀ g, c.f 1 0 2 = 1 → s.hbm.regions[c.f 1 2 3]? = some g → Answers (exec (.memMap c.ch) s) (s.popped c rest) c 0 0
      [g.order + 4 * b2n g.dup + 8 * b2n g.mig.isSome + 256 * g.size, (s.regionUsed (c.f 1 2 3) + 2 ^ 20 - 1) / 2 ^ 20]) ∧
    (∀ p, c.f 1 0 2 = 2 → p = s.pchan (c.f 1 8 7) → Answers (exec (.memMap c.ch) s) (s.popped c rest) c 0 0
      [b2n p.loaded + 256 * field 8 (p.trainTemp / 16) + 65536 * field 8 (tgetD s.power.temps (54 + c.f 1 8 7 / 32) 0 / 16), p.trainTick, p.margin % 256 + 256 * p.lane + 65536 * p.retrains]) ∧
    (c.f 1 0 2 = 3 → Answers (exec (.memMap c.ch) s) (s.popped c rest) c 2 2 [])) ∧
  (∀ (s u : State) (region order size base : Nat) (dup : Bool) (g k : Region) (o : LongOp), region < 8 → s.hbm.regions[region]? = some g →
    g.mig = some (order, dup, size, base) → s.findOp 0x0D01 (fun o => o.a == region) = some o → k = { g with order := order, dup := dup, size := size, base := base, mig := none } →
    u = State.modRegion { s with mem := ((s.regionCells g).filter fun c => c.1 < size * 2 ^ 30).foldl (fun m c => memPut m k c.1 c.2) (memWithout s.mem g) } region (fun _ => k) →
    (region ≠ 1 → exec (.migrationSwitch region) s = .next (u.opDone o 0 0)) ∧
    (region = 1 → exec (.migrationSwitch region) s = .next ((u.evictFor 0 u.hamperCount).opDone o 0 0)))) ∧
  ((∀ (s : State) (pc margin lane : Nat), pc < 128 → lane < 4 → exec (.marginAlarm pc margin lane) s =
    .next (s.modPchan pc fun c => { c with needRetrain := true, margin := margin, lane := lane })) ∧
  (∀ (s : State) (stack : Nat), stack < 4 → NextWith (exec (.loadedVerificationDue stack) s) fun t => ∀ n, n < 128 →
    (t.pchan n).needVerify = (if n / 32 = stack then ((s.pchan n).needVerify || !(s.pchan n).loaded) else (s.pchan n).needVerify) ∧ (t.pchan n).loaded = (s.pchan n).loaded) ∧
  (∀ (s : State) (pc : Nat) (e : StallEnv) (c : PChan), pc < 128 → c = s.pchan pc →
    (e.us < 750 ∨ (c.needRetrain = false ∧ c.needVerify = false) → exec (.retrainStall pc e) s = .next s) ∧
    ((c.needRetrain = true ∨ c.needVerify = true) → 960 ≤ e.us → exec (.retrainStall pc e) s = .next (s.occur srcHbmRetrainDefer { unit := some pc })) ∧
    (∀ u, 750 ≤ e.us → e.us < 960 → e.panic = false → e.lowBuffer = false → e.rfmOutstanding = false → s.stackStalled pc = false → s.stallFirst pc = true →
      u = (s.modPchan pc fun c => { c with lastStall := some s.time.m }) →
      (c.needRetrain = true → exec (.retrainStall pc e) s = .next ((u.draw 2).2.retrain pc e ((u.draw 2).1 == 1))) ∧
      (c.needRetrain = false → c.needVerify = true → e.pass = true → exec (.retrainStall pc e) s = .next ((u.modPchan pc fun c =>
        { c with needVerify := false, loaded := true, margin := e.margin, lane := e.lane }).marginEvent pc 1)) ∧
      (c.needRetrain = false → c.needVerify = true → e.pass = false → exec (.retrainStall pc e) s = .next ((u.modPchan pc fun c =>
        { c with needVerify := false, needRetrain := true, margin := e.margin, lane := e.lane }).marginEvent pc 2)))))

/-- MON.COUNTER (R501 to R503): a configure takes the counter named, or with ANY the lowest free one, and answers its index, a VF's counter always counting within
its own tenant; a read answers the 64 bits and with CLEAR clears them; a release frees the counter; and every case of R503's table fails with its
status, a reserved SEL and a qualifier that the source does not carry first. -/
def Obligations.EventCounters : Prop :=
  (∀ (s : State) (c : Ctx) (rest : List Cmd) (i : Nat), AtHead s c 0x1101 rest → c.f 1 0 2 = 0 → c.len = 5 → c.f 1 4 4 = 0 → c.f 1 16 16 = 0 →
    ((sourceOf (c.f 2 0 16)).isSome = false → Answers (exec (.monCounter c.ch) s) (s.popped c rest) c 2 1 []) ∧
    ((sourceOf (c.f 2 0 16)).isSome = true → carries (c.f 2 0 16) (c.f 2 16 4) = false → Answers (exec (.monCounter c.ch) s) (s.popped c rest) c 2 2 []) ∧
    ((sourceOf (c.f 2 0 16)).isSome = true → c.f 2 20 12 = 0 → carries (c.f 2 0 16) (c.f 2 16 4) = true → c.f 4 28 4 = 0 → c.f 5 26 6 = 0 →
      (isVF c.issuer = true → tenantSource (c.f 2 0 16) = false → Answers (exec (.monCounter c.ch) s) (s.popped c rest) c 8 1 []) ∧
      ((isVF c.issuer = true → tenantSource (c.f 2 0 16) = true) →
        (c.bit 1 2 = false → s.counterOther c.issuer (c.f 1 8 8) = true → Answers (exec (.monCounter c.ch) s) (s.popped c rest) c 8 2 []) ∧
        (c.bit 1 2 = true → firstFree s.mon.counters 0 256 = none → Answers (exec (.monCounter c.ch) s) (s.popped c rest) c 3 0x1101 []) ∧
        (c.bit 1 2 = true ∧ firstFree s.mon.counters 0 256 = some i ∨ c.bit 1 2 = false ∧ i = c.f 1 8 8 ∧ s.counterOther c.issuer i = false →
          Answers (exec (.monCounter c.ch) s) ((s.popped c rest).modMon fun m => { m with counters := tset m.counters i (s.counterOf c) }) c 0 0 [i])))) ∧
  (∀ (s : State) (c : Ctx), isVF c.issuer = true → hasBit (s.counterOf c).qen 2 = true ∧ (∀ t, s.tenantOf c.issuer = some t → (s.counterOf c).tenant = t)) ∧
  (∀ (s : State) (c : Ctx) (rest : List Cmd) (i : Nat), AtHead s c 0x1101 rest → (c.f 1 0 2 = 1 ∨ c.f 1 0 2 = 2) → c.len = 1 → c.f 1 4 4 = 0 → c.f 1 16 16 = 0 → i = c.f 1 8 8 →
    (s.counterOther c.issuer i = true → Answers (exec (.monCounter c.ch) s) (s.popped c rest) c 8 2 []) ∧
    (tget s.mon.counters i = none → Answers (exec (.monCounter c.ch) s) (s.popped c rest) c 9 0x1101 []) ∧
    (∀ k, tget s.mon.counters i = some k → s.counterOther c.issuer i = false →
      (c.f 1 0 2 = 1 → Answers (exec (.monCounter c.ch) s) (if c.bit 1 3 then (s.popped c rest).modMon fun m => { m with counters := tset m.counters i { k with value := 0 } } else s.popped c rest)
        c 0 0 [k.value % 2 ^ 32, k.value / 2 ^ 32]) ∧
      (c.f 1 0 2 = 2 → Answers (exec (.monCounter c.ch) s) ((s.popped c rest).modMon fun m => { m with counters := tdel m.counters i }) c 0 0 []))) ∧
  (∀ (s : State) (c : Ctx) (rest : List Cmd), AtHead s c 0x1101 rest → c.f 1 0 2 = 3 → Answers (exec (.monCounter c.ch) s) (s.popped c rest) c 2 1 [])

/-- MON.SAMPLE and the samples (R504, R505): a start sets the issuer's one sampler up from the next boundary, a stop ends it, a query answers its two words;
at a boundary whose M is a multiple of N a whole set is written, or where the ring has no room every record of it is counted as lost. -/
def Obligations.QueueSamplers : Prop :=
  (∀ (s : State) (c : Ctx) (rest : List Cmd) (buf : BufRead) (x : Sampler), AtHead s c 0x1102 rest → c.f 1 3 29 = 0 →
    (x = { samplerOf c with last := some s.time.m } → c.f 1 0 2 = 0 → c.len = 6 → 1 ≤ x.n → x.n ≤ 1000 → c.f 2 10 22 = 0 → c.f 3 29 3 = 0 →
      (x.kind = 0 → 1 ≤ x.count ∧ x.count ≤ 4096 ∧ x.first + x.count ≤ 65536) → (∀ y ∈ descChecks c 4 true, y.1 = false) → 64 + 32 * x.queues ≤ descLen c 4 →
      (isVF c.issuer = true ∧ x.kind = 1 → Answers (exec (.monSample c.ch buf) s) (s.popped c rest) c 8 1 []) ∧
      ((isVF c.issuer = true → x.kind = 0) → s.sampleRoom c.issuer x = true → buf ≠ .unreachable → buf ≠ .memError →
        Answers (exec (.monSample c.ch buf) s) ((s.popped c rest).modMon fun m => { m with samplers := tset m.samplers c.issuer x }) c 0 0 [])) ∧
    (c.f 1 0 2 = 1 → c.len = 1 → Answers (exec (.monSample c.ch buf) s)
      ((s.popped c rest).modMon fun m => { m with samplers := tupd m.samplers c.issuer fun x => { x with running := false } }) c 0 0 []) ∧
    (c.f 1 0 2 = 2 → c.len = 1 → tget s.mon.samplers c.issuer = some x → Answers (exec (.monSample c.ch buf) s) (s.popped c rest) c 0 0 [x.n + 65536 * b2n x.running, x.sets % 2 ^ 32])) ∧
  (∀ (s : State) (mid rd : Nat) (x : Sampler), midOk mid = true → tget s.mon.samplers mid = some x →
    (x.running = false ∨ s.time.m % x.n ≠ 0 ∨ x.last = some s.time.m → exec (.sample mid rd) s = .next s) ∧
    (x.running = true → s.time.m % x.n = 0 → x.last ≠ some s.time.m →
      (32 * (s.sampleSet mid x).length ≤ x.room rd → exec (.sample mid rd) s = .next (s.modMon fun m => { m with samplers := tset m.samplers mid { x with wr := x.advance (s.sampleSet mid x).length, sets := x.sets + 1, records := s.sampleSet mid x, last := some s.time.m } })) ∧
      (x.room rd < 32 * (s.sampleSet mid x).length → exec (.sample mid rd) s = .next (s.modMon fun m => { m with samplers := tset m.samplers mid { x with lost := (x.lost + (s.sampleSet mid x).length) % 2 ^ 32, last := some s.time.m } }))))
end

