-- ==== Sys2Proof/Laws/State.lean ====
section
/-! SUPPORT. What each named update of the state leaves as it was: one equation per field, so that no proof unfolds a
record update. -/

namespace Sys2Proof.Machine

/-! ## `State.setQueue` -/

@[simp] theorem State.setQueue_pending (s : State) (c : Nat) (q : List Cmd) : (s.setQueue c q).pending = s.pending := rfl
@[simp] theorem State.setQueue_fresh (s : State) (c : Nat) (q : List Cmd) : (s.setQueue c q).fresh = s.fresh := rfl
@[simp] theorem State.setQueue_rdata (s : State) (c : Nat) (q : List Cmd) : (s.setQueue c q).rdata = s.rdata := rfl
@[simp] theorem State.setQueue_chans (s : State) (c : Nat) (q : List Cmd) : (s.setQueue c q).chans = s.chans := rfl
@[simp] theorem State.setQueue_binds (s : State) (c : Nat) (q : List Cmd) : (s.setQueue c q).binds = s.binds := rfl
@[simp] theorem State.setQueue_bindLock (s : State) (c : Nat) (q : List Cmd) : (s.setQueue c q).bindLock = s.bindLock := rfl
@[simp] theorem State.setQueue_fns (s : State) (c : Nat) (q : List Cmd) : (s.setQueue c q).fns = s.fns := rfl
@[simp] theorem State.setQueue_time (s : State) (c : Nat) (q : List Cmd) : (s.setQueue c q).time = s.time := rfl
@[simp] theorem State.setQueue_trail (s : State) (c : Nat) (q : List Cmd) : (s.setQueue c q).trail = s.trail := rfl
@[simp] theorem State.setQueue_clusters (s : State) (c : Nat) (q : List Cmd) : (s.setQueue c q).clusters = s.clusters := rfl
@[simp] theorem State.setQueue_confs (s : State) (c : Nat) (q : List Cmd) : (s.setQueue c q).confs = s.confs := rfl
@[simp] theorem State.setQueue_legs (s : State) (c : Nat) (q : List Cmd) : (s.setQueue c q).legs = s.legs := rfl
@[simp] theorem State.setQueue_gens (s : State) (c : Nat) (q : List Cmd) : (s.setQueue c q).gens = s.gens := rfl
@[simp] theorem State.setQueue_dying (s : State) (c : Nat) (q : List Cmd) : (s.setQueue c q).dying = s.dying := rfl
@[simp] theorem State.setQueue_keyDying (s : State) (c : Nat) (q : List Cmd) : (s.setQueue c q).keyDying = s.keyDying := rfl
@[simp] theorem State.setQueue_hamperOrder (s : State) (c : Nat) (q : List Cmd) : (s.setQueue c q).hamperOrder = s.hamperOrder := rfl
@[simp] theorem State.setQueue_decJobs (s : State) (c : Nat) (q : List Cmd) : (s.setQueue c q).decJobs = s.decJobs := rfl
@[simp] theorem State.setQueue_encJobs (s : State) (c : Nat) (q : List Cmd) : (s.setQueue c q).encJobs = s.encJobs := rfl
@[simp] theorem State.setQueue_jobTracks (s : State) (c : Nat) (q : List Cmd) : (s.setQueue c q).jobTracks = s.jobTracks := rfl
@[simp] theorem State.setQueue_engines (s : State) (c : Nat) (q : List Cmd) : (s.setQueue c q).engines = s.engines := rfl
@[simp] theorem State.setQueue_canvases (s : State) (c : Nat) (q : List Cmd) : (s.setQueue c q).canvases = s.canvases := rfl
@[simp] theorem State.setQueue_hostCopy (s : State) (c : Nat) (q : List Cmd) : (s.setQueue c q).hostCopy = s.hostCopy := rfl
@[simp] theorem State.setQueue_stages (s : State) (c : Nat) (q : List Cmd) : (s.setQueue c q).stages = s.stages := rfl
@[simp] theorem State.setQueue_stageAtts (s : State) (c : Nat) (q : List Cmd) : (s.setQueue c q).stageAtts = s.stageAtts := rfl
@[simp] theorem State.setQueue_stageGone (s : State) (c : Nat) (q : List Cmd) : (s.setQueue c q).stageGone = s.stageGone := rfl
@[simp] theorem State.setQueue_cores (s : State) (c : Nat) (q : List Cmd) : (s.setQueue c q).cores = s.cores := rfl
@[simp] theorem State.setQueue_pages (s : State) (c : Nat) (q : List Cmd) : (s.setQueue c q).pages = s.pages := rfl
@[simp] theorem State.setQueue_ciphers (s : State) (c : Nat) (q : List Cmd) : (s.setQueue c q).ciphers = s.ciphers := rfl
@[simp] theorem State.setQueue_inQ (s : State) (c : Nat) (q : List Cmd) : (s.setQueue c q).inQ = s.inQ := rfl
@[simp] theorem State.setQueue_fwdQ (s : State) (c : Nat) (q : List Cmd) : (s.setQueue c q).fwdQ = s.fwdQ := rfl
@[simp] theorem State.setQueue_outQ (s : State) (c : Nat) (q : List Cmd) : (s.setQueue c q).outQ = s.outQ := rfl
@[simp] theorem State.setQueue_nodes (s : State) (c : Nat) (q : List Cmd) : (s.setQueue c q).nodes = s.nodes := rfl
@[simp] theorem State.setQueue_ports (s : State) (c : Nat) (q : List Cmd) : (s.setQueue c q).ports = s.ports := rfl
@[simp] theorem State.setQueue_casc (s : State) (c : Nat) (q : List Cmd) : (s.setQueue c q).casc = s.casc := rfl
@[simp] theorem State.setQueue_hbm (s : State) (c : Nat) (q : List Cmd) : (s.setQueue c q).hbm = s.hbm := rfl
@[simp] theorem State.setQueue_mem (s : State) (c : Nat) (q : List Cmd) : (s.setQueue c q).mem = s.mem := rfl
@[simp] theorem State.setQueue_prot (s : State) (c : Nat) (q : List Cmd) : (s.setQueue c q).prot = s.prot := rfl
@[simp] theorem State.setQueue_upd (s : State) (c : Nat) (q : List Cmd) : (s.setQueue c q).upd = s.upd := rfl
@[simp] theorem State.setQueue_power (s : State) (c : Nat) (q : List Cmd) : (s.setQueue c q).power = s.power := rfl
@[simp] theorem State.setQueue_pins (s : State) (c : Nat) (q : List Cmd) : (s.setQueue c q).pins = s.pins := rfl
@[simp] theorem State.setQueue_mon (s : State) (c : Nat) (q : List Cmd) : (s.setQueue c q).mon = s.mon := rfl

/-! ## `State.modFn` -/

@[simp] theorem State.modFn_pending (s : State) (f : Nat) (g : Fn → Fn) : (s.modFn f g).pending = s.pending := rfl
@[simp] theorem State.modFn_fresh (s : State) (f : Nat) (g : Fn → Fn) : (s.modFn f g).fresh = s.fresh := rfl
@[simp] theorem State.modFn_rdata (s : State) (f : Nat) (g : Fn → Fn) : (s.modFn f g).rdata = s.rdata := rfl
@[simp] theorem State.modFn_chans (s : State) (f : Nat) (g : Fn → Fn) : (s.modFn f g).chans = s.chans := rfl
@[simp] theorem State.modFn_binds (s : State) (f : Nat) (g : Fn → Fn) : (s.modFn f g).binds = s.binds := rfl
@[simp] theorem State.modFn_bindLock (s : State) (f : Nat) (g : Fn → Fn) : (s.modFn f g).bindLock = s.bindLock := rfl
@[simp] theorem State.modFn_ctl (s : State) (f : Nat) (g : Fn → Fn) : (s.modFn f g).ctl = s.ctl := rfl
@[simp] theorem State.modFn_time (s : State) (f : Nat) (g : Fn → Fn) : (s.modFn f g).time = s.time := rfl
@[simp] theorem State.modFn_trail (s : State) (f : Nat) (g : Fn → Fn) : (s.modFn f g).trail = s.trail := rfl
@[simp] theorem State.modFn_clusters (s : State) (f : Nat) (g : Fn → Fn) : (s.modFn f g).clusters = s.clusters := rfl
@[simp] theorem State.modFn_confs (s : State) (f : Nat) (g : Fn → Fn) : (s.modFn f g).confs = s.confs := rfl
@[simp] theorem State.modFn_legs (s : State) (f : Nat) (g : Fn → Fn) : (s.modFn f g).legs = s.legs := rfl
@[simp] theorem State.modFn_gens (s : State) (f : Nat) (g : Fn → Fn) : (s.modFn f g).gens = s.gens := rfl
@[simp] theorem State.modFn_dying (s : State) (f : Nat) (g : Fn → Fn) : (s.modFn f g).dying = s.dying := rfl
@[simp] theorem State.modFn_keyDying (s : State) (f : Nat) (g : Fn → Fn) : (s.modFn f g).keyDying = s.keyDying := rfl
@[simp] theorem State.modFn_hamperOrder (s : State) (f : Nat) (g : Fn → Fn) : (s.modFn f g).hamperOrder = s.hamperOrder := rfl
@[simp] theorem State.modFn_decJobs (s : State) (f : Nat) (g : Fn → Fn) : (s.modFn f g).decJobs = s.decJobs := rfl
@[simp] theorem State.modFn_encJobs (s : State) (f : Nat) (g : Fn → Fn) : (s.modFn f g).encJobs = s.encJobs := rfl
@[simp] theorem State.modFn_jobTracks (s : State) (f : Nat) (g : Fn → Fn) : (s.modFn f g).jobTracks = s.jobTracks := rfl
@[simp] theorem State.modFn_engines (s : State) (f : Nat) (g : Fn → Fn) : (s.modFn f g).engines = s.engines := rfl
@[simp] theorem State.modFn_canvases (s : State) (f : Nat) (g : Fn → Fn) : (s.modFn f g).canvases = s.canvases := rfl
@[simp] theorem State.modFn_hostCopy (s : State) (f : Nat) (g : Fn → Fn) : (s.modFn f g).hostCopy = s.hostCopy := rfl
@[simp] theorem State.modFn_stages (s : State) (f : Nat) (g : Fn → Fn) : (s.modFn f g).stages = s.stages := rfl
@[simp] theorem State.modFn_stageAtts (s : State) (f : Nat) (g : Fn → Fn) : (s.modFn f g).stageAtts = s.stageAtts := rfl
@[simp] theorem State.modFn_stageGone (s : State) (f : Nat) (g : Fn → Fn) : (s.modFn f g).stageGone = s.stageGone := rfl
@[simp] theorem State.modFn_cores (s : State) (f : Nat) (g : Fn → Fn) : (s.modFn f g).cores = s.cores := rfl
@[simp] theorem State.modFn_pages (s : State) (f : Nat) (g : Fn → Fn) : (s.modFn f g).pages = s.pages := rfl
@[simp] theorem State.modFn_ciphers (s : State) (f : Nat) (g : Fn → Fn) : (s.modFn f g).ciphers = s.ciphers := rfl
@[simp] theorem State.modFn_inQ (s : State) (f : Nat) (g : Fn → Fn) : (s.modFn f g).inQ = s.inQ := rfl
@[simp] theorem State.modFn_fwdQ (s : State) (f : Nat) (g : Fn → Fn) : (s.modFn f g).fwdQ = s.fwdQ := rfl
@[simp] theorem State.modFn_outQ (s : State) (f : Nat) (g : Fn → Fn) : (s.modFn f g).outQ = s.outQ := rfl
@[simp] theorem State.modFn_nodes (s : State) (f : Nat) (g : Fn → Fn) : (s.modFn f g).nodes = s.nodes := rfl
@[simp] theorem State.modFn_ports (s : State) (f : Nat) (g : Fn → Fn) : (s.modFn f g).ports = s.ports := rfl
@[simp] theorem State.modFn_casc (s : State) (f : Nat) (g : Fn → Fn) : (s.modFn f g).casc = s.casc := rfl
@[simp] theorem State.modFn_hbm (s : State) (f : Nat) (g : Fn → Fn) : (s.modFn f g).hbm = s.hbm := rfl
@[simp] theorem State.modFn_mem (s : State) (f : Nat) (g : Fn → Fn) : (s.modFn f g).mem = s.mem := rfl
@[simp] theorem State.modFn_prot (s : State) (f : Nat) (g : Fn → Fn) : (s.modFn f g).prot = s.prot := rfl
@[simp] theorem State.modFn_upd (s : State) (f : Nat) (g : Fn → Fn) : (s.modFn f g).upd = s.upd := rfl
@[simp] theorem State.modFn_power (s : State) (f : Nat) (g : Fn → Fn) : (s.modFn f g).power = s.power := rfl
@[simp] theorem State.modFn_pins (s : State) (f : Nat) (g : Fn → Fn) : (s.modFn f g).pins = s.pins := rfl
@[simp] theorem State.modFn_mon (s : State) (f : Nat) (g : Fn → Fn) : (s.modFn f g).mon = s.mon := rfl

/-! ## `State.modChan` -/

@[simp] theorem State.modChan_pending (s : State) (c : Nat) (g : Chan → Chan) : (s.modChan c g).pending = s.pending := rfl
@[simp] theorem State.modChan_fresh (s : State) (c : Nat) (g : Chan → Chan) : (s.modChan c g).fresh = s.fresh := rfl
@[simp] theorem State.modChan_rdata (s : State) (c : Nat) (g : Chan → Chan) : (s.modChan c g).rdata = s.rdata := rfl
@[simp] theorem State.modChan_binds (s : State) (c : Nat) (g : Chan → Chan) : (s.modChan c g).binds = s.binds := rfl
@[simp] theorem State.modChan_bindLock (s : State) (c : Nat) (g : Chan → Chan) : (s.modChan c g).bindLock = s.bindLock := rfl
@[simp] theorem State.modChan_fns (s : State) (c : Nat) (g : Chan → Chan) : (s.modChan c g).fns = s.fns := rfl
@[simp] theorem State.modChan_ctl (s : State) (c : Nat) (g : Chan → Chan) : (s.modChan c g).ctl = s.ctl := rfl
@[simp] theorem State.modChan_time (s : State) (c : Nat) (g : Chan → Chan) : (s.modChan c g).time = s.time := rfl
@[simp] theorem State.modChan_trail (s : State) (c : Nat) (g : Chan → Chan) : (s.modChan c g).trail = s.trail := rfl
@[simp] theorem State.modChan_clusters (s : State) (c : Nat) (g : Chan → Chan) : (s.modChan c g).clusters = s.clusters := rfl
@[simp] theorem State.modChan_confs (s : State) (c : Nat) (g : Chan → Chan) : (s.modChan c g).confs = s.confs := rfl
@[simp] theorem State.modChan_legs (s : State) (c : Nat) (g : Chan → Chan) : (s.modChan c g).legs = s.legs := rfl
@[simp] theorem State.modChan_gens (s : State) (c : Nat) (g : Chan → Chan) : (s.modChan c g).gens = s.gens := rfl
@[simp] theorem State.modChan_dying (s : State) (c : Nat) (g : Chan → Chan) : (s.modChan c g).dying = s.dying := rfl
@[simp] theorem State.modChan_keyDying (s : State) (c : Nat) (g : Chan → Chan) : (s.modChan c g).keyDying = s.keyDying := rfl
@[simp] theorem State.modChan_hamperOrder (s : State) (c : Nat) (g : Chan → Chan) : (s.modChan c g).hamperOrder = s.hamperOrder := rfl
@[simp] theorem State.modChan_decJobs (s : State) (c : Nat) (g : Chan → Chan) : (s.modChan c g).decJobs = s.decJobs := rfl
@[simp] theorem State.modChan_encJobs (s : State) (c : Nat) (g : Chan → Chan) : (s.modChan c g).encJobs = s.encJobs := rfl
@[simp] theorem State.modChan_jobTracks (s : State) (c : Nat) (g : Chan → Chan) : (s.modChan c g).jobTracks = s.jobTracks := rfl
@[simp] theorem State.modChan_engines (s : State) (c : Nat) (g : Chan → Chan) : (s.modChan c g).engines = s.engines := rfl
@[simp] theorem State.modChan_canvases (s : State) (c : Nat) (g : Chan → Chan) : (s.modChan c g).canvases = s.canvases := rfl
@[simp] theorem State.modChan_hostCopy (s : State) (c : Nat) (g : Chan → Chan) : (s.modChan c g).hostCopy = s.hostCopy := rfl
@[simp] theorem State.modChan_stages (s : State) (c : Nat) (g : Chan → Chan) : (s.modChan c g).stages = s.stages := rfl
@[simp] theorem State.modChan_stageAtts (s : State) (c : Nat) (g : Chan → Chan) : (s.modChan c g).stageAtts = s.stageAtts := rfl
@[simp] theorem State.modChan_stageGone (s : State) (c : Nat) (g : Chan → Chan) : (s.modChan c g).stageGone = s.stageGone := rfl
@[simp] theorem State.modChan_cores (s : State) (c : Nat) (g : Chan → Chan) : (s.modChan c g).cores = s.cores := rfl
@[simp] theorem State.modChan_pages (s : State) (c : Nat) (g : Chan → Chan) : (s.modChan c g).pages = s.pages := rfl
@[simp] theorem State.modChan_ciphers (s : State) (c : Nat) (g : Chan → Chan) : (s.modChan c g).ciphers = s.ciphers := rfl
@[simp] theorem State.modChan_inQ (s : State) (c : Nat) (g : Chan → Chan) : (s.modChan c g).inQ = s.inQ := rfl
@[simp] theorem State.modChan_fwdQ (s : State) (c : Nat) (g : Chan → Chan) : (s.modChan c g).fwdQ = s.fwdQ := rfl
@[simp] theorem State.modChan_outQ (s : State) (c : Nat) (g : Chan → Chan) : (s.modChan c g).outQ = s.outQ := rfl
@[simp] theorem State.modChan_nodes (s : State) (c : Nat) (g : Chan → Chan) : (s.modChan c g).nodes = s.nodes := rfl
@[simp] theorem State.modChan_ports (s : State) (c : Nat) (g : Chan → Chan) : (s.modChan c g).ports = s.ports := rfl
@[simp] theorem State.modChan_casc (s : State) (c : Nat) (g : Chan → Chan) : (s.modChan c g).casc = s.casc := rfl
@[simp] theorem State.modChan_hbm (s : State) (c : Nat) (g : Chan → Chan) : (s.modChan c g).hbm = s.hbm := rfl
@[simp] theorem State.modChan_mem (s : State) (c : Nat) (g : Chan → Chan) : (s.modChan c g).mem = s.mem := rfl
@[simp] theorem State.modChan_prot (s : State) (c : Nat) (g : Chan → Chan) : (s.modChan c g).prot = s.prot := rfl
@[simp] theorem State.modChan_upd (s : State) (c : Nat) (g : Chan → Chan) : (s.modChan c g).upd = s.upd := rfl
@[simp] theorem State.modChan_power (s : State) (c : Nat) (g : Chan → Chan) : (s.modChan c g).power = s.power := rfl
@[simp] theorem State.modChan_pins (s : State) (c : Nat) (g : Chan → Chan) : (s.modChan c g).pins = s.pins := rfl
@[simp] theorem State.modChan_mon (s : State) (c : Nat) (g : Chan → Chan) : (s.modChan c g).mon = s.mon := rfl

/-! ## `State.setLeg` -/

@[simp] theorem State.setLeg_pending (s : State) (n : Nat) (l : Leg) : (s.setLeg n l).pending = s.pending := rfl
@[simp] theorem State.setLeg_fresh (s : State) (n : Nat) (l : Leg) : (s.setLeg n l).fresh = s.fresh := rfl
@[simp] theorem State.setLeg_rdata (s : State) (n : Nat) (l : Leg) : (s.setLeg n l).rdata = s.rdata := rfl
@[simp] theorem State.setLeg_chans (s : State) (n : Nat) (l : Leg) : (s.setLeg n l).chans = s.chans := rfl
@[simp] theorem State.setLeg_binds (s : State) (n : Nat) (l : Leg) : (s.setLeg n l).binds = s.binds := rfl
@[simp] theorem State.setLeg_bindLock (s : State) (n : Nat) (l : Leg) : (s.setLeg n l).bindLock = s.bindLock := rfl
@[simp] theorem State.setLeg_fns (s : State) (n : Nat) (l : Leg) : (s.setLeg n l).fns = s.fns := rfl
@[simp] theorem State.setLeg_ctl (s : State) (n : Nat) (l : Leg) : (s.setLeg n l).ctl = s.ctl := rfl
@[simp] theorem State.setLeg_time (s : State) (n : Nat) (l : Leg) : (s.setLeg n l).time = s.time := rfl
@[simp] theorem State.setLeg_trail (s : State) (n : Nat) (l : Leg) : (s.setLeg n l).trail = s.trail := rfl
@[simp] theorem State.setLeg_clusters (s : State) (n : Nat) (l : Leg) : (s.setLeg n l).clusters = s.clusters := rfl
@[simp] theorem State.setLeg_confs (s : State) (n : Nat) (l : Leg) : (s.setLeg n l).confs = s.confs := rfl
@[simp] theorem State.setLeg_gens (s : State) (n : Nat) (l : Leg) : (s.setLeg n l).gens = s.gens := rfl
@[simp] theorem State.setLeg_dying (s : State) (n : Nat) (l : Leg) : (s.setLeg n l).dying = s.dying := rfl
@[simp] theorem State.setLeg_keyDying (s : State) (n : Nat) (l : Leg) : (s.setLeg n l).keyDying = s.keyDying := rfl
@[simp] theorem State.setLeg_hamperOrder (s : State) (n : Nat) (l : Leg) : (s.setLeg n l).hamperOrder = s.hamperOrder := rfl
@[simp] theorem State.setLeg_decJobs (s : State) (n : Nat) (l : Leg) : (s.setLeg n l).decJobs = s.decJobs := rfl
@[simp] theorem State.setLeg_encJobs (s : State) (n : Nat) (l : Leg) : (s.setLeg n l).encJobs = s.encJobs := rfl
@[simp] theorem State.setLeg_jobTracks (s : State) (n : Nat) (l : Leg) : (s.setLeg n l).jobTracks = s.jobTracks := rfl
@[simp] theorem State.setLeg_engines (s : State) (n : Nat) (l : Leg) : (s.setLeg n l).engines = s.engines := rfl
@[simp] theorem State.setLeg_canvases (s : State) (n : Nat) (l : Leg) : (s.setLeg n l).canvases = s.canvases := rfl
@[simp] theorem State.setLeg_hostCopy (s : State) (n : Nat) (l : Leg) : (s.setLeg n l).hostCopy = s.hostCopy := rfl
@[simp] theorem State.setLeg_stages (s : State) (n : Nat) (l : Leg) : (s.setLeg n l).stages = s.stages := rfl
@[simp] theorem State.setLeg_stageAtts (s : State) (n : Nat) (l : Leg) : (s.setLeg n l).stageAtts = s.stageAtts := rfl
@[simp] theorem State.setLeg_stageGone (s : State) (n : Nat) (l : Leg) : (s.setLeg n l).stageGone = s.stageGone := rfl
@[simp] theorem State.setLeg_cores (s : State) (n : Nat) (l : Leg) : (s.setLeg n l).cores = s.cores := rfl
@[simp] theorem State.setLeg_pages (s : State) (n : Nat) (l : Leg) : (s.setLeg n l).pages = s.pages := rfl
@[simp] theorem State.setLeg_ciphers (s : State) (n : Nat) (l : Leg) : (s.setLeg n l).ciphers = s.ciphers := rfl
@[simp] theorem State.setLeg_inQ (s : State) (n : Nat) (l : Leg) : (s.setLeg n l).inQ = s.inQ := rfl
@[simp] theorem State.setLeg_fwdQ (s : State) (n : Nat) (l : Leg) : (s.setLeg n l).fwdQ = s.fwdQ := rfl
@[simp] theorem State.setLeg_outQ (s : State) (n : Nat) (l : Leg) : (s.setLeg n l).outQ = s.outQ := rfl
@[simp] theorem State.setLeg_nodes (s : State) (n : Nat) (l : Leg) : (s.setLeg n l).nodes = s.nodes := rfl
@[simp] theorem State.setLeg_ports (s : State) (n : Nat) (l : Leg) : (s.setLeg n l).ports = s.ports := rfl
@[simp] theorem State.setLeg_casc (s : State) (n : Nat) (l : Leg) : (s.setLeg n l).casc = s.casc := rfl
@[simp] theorem State.setLeg_hbm (s : State) (n : Nat) (l : Leg) : (s.setLeg n l).hbm = s.hbm := rfl
@[simp] theorem State.setLeg_mem (s : State) (n : Nat) (l : Leg) : (s.setLeg n l).mem = s.mem := rfl
@[simp] theorem State.setLeg_prot (s : State) (n : Nat) (l : Leg) : (s.setLeg n l).prot = s.prot := rfl
@[simp] theorem State.setLeg_upd (s : State) (n : Nat) (l : Leg) : (s.setLeg n l).upd = s.upd := rfl
@[simp] theorem State.setLeg_power (s : State) (n : Nat) (l : Leg) : (s.setLeg n l).power = s.power := rfl
@[simp] theorem State.setLeg_pins (s : State) (n : Nat) (l : Leg) : (s.setLeg n l).pins = s.pins := rfl
@[simp] theorem State.setLeg_mon (s : State) (n : Nat) (l : Leg) : (s.setLeg n l).mon = s.mon := rfl

/-! ## `State.modLeg` -/

@[simp] theorem State.modLeg_pending (s : State) (n : Nat) (g : Leg → Leg) : (s.modLeg n g).pending = s.pending := rfl
@[simp] theorem State.modLeg_fresh (s : State) (n : Nat) (g : Leg → Leg) : (s.modLeg n g).fresh = s.fresh := rfl
@[simp] theorem State.modLeg_rdata (s : State) (n : Nat) (g : Leg → Leg) : (s.modLeg n g).rdata = s.rdata := rfl
@[simp] theorem State.modLeg_chans (s : State) (n : Nat) (g : Leg → Leg) : (s.modLeg n g).chans = s.chans := rfl
@[simp] theorem State.modLeg_binds (s : State) (n : Nat) (g : Leg → Leg) : (s.modLeg n g).binds = s.binds := rfl
@[simp] theorem State.modLeg_bindLock (s : State) (n : Nat) (g : Leg → Leg) : (s.modLeg n g).bindLock = s.bindLock := rfl
@[simp] theorem State.modLeg_fns (s : State) (n : Nat) (g : Leg → Leg) : (s.modLeg n g).fns = s.fns := rfl
@[simp] theorem State.modLeg_ctl (s : State) (n : Nat) (g : Leg → Leg) : (s.modLeg n g).ctl = s.ctl := rfl
@[simp] theorem State.modLeg_time (s : State) (n : Nat) (g : Leg → Leg) : (s.modLeg n g).time = s.time := rfl
@[simp] theorem State.modLeg_trail (s : State) (n : Nat) (g : Leg → Leg) : (s.modLeg n g).trail = s.trail := rfl
@[simp] theorem State.modLeg_clusters (s : State) (n : Nat) (g : Leg → Leg) : (s.modLeg n g).clusters = s.clusters := rfl
@[simp] theorem State.modLeg_confs (s : State) (n : Nat) (g : Leg → Leg) : (s.modLeg n g).confs = s.confs := rfl
@[simp] theorem State.modLeg_gens (s : State) (n : Nat) (g : Leg → Leg) : (s.modLeg n g).gens = s.gens := rfl
@[simp] theorem State.modLeg_dying (s : State) (n : Nat) (g : Leg → Leg) : (s.modLeg n g).dying = s.dying := rfl
@[simp] theorem State.modLeg_keyDying (s : State) (n : Nat) (g : Leg → Leg) : (s.modLeg n g).keyDying = s.keyDying := rfl
@[simp] theorem State.modLeg_hamperOrder (s : State) (n : Nat) (g : Leg → Leg) : (s.modLeg n g).hamperOrder = s.hamperOrder := rfl
@[simp] theorem State.modLeg_decJobs (s : State) (n : Nat) (g : Leg → Leg) : (s.modLeg n g).decJobs = s.decJobs := rfl
@[simp] theorem State.modLeg_encJobs (s : State) (n : Nat) (g : Leg → Leg) : (s.modLeg n g).encJobs = s.encJobs := rfl
@[simp] theorem State.modLeg_jobTracks (s : State) (n : Nat) (g : Leg → Leg) : (s.modLeg n g).jobTracks = s.jobTracks := rfl
@[simp] theorem State.modLeg_engines (s : State) (n : Nat) (g : Leg → Leg) : (s.modLeg n g).engines = s.engines := rfl
@[simp] theorem State.modLeg_canvases (s : State) (n : Nat) (g : Leg → Leg) : (s.modLeg n g).canvases = s.canvases := rfl
@[simp] theorem State.modLeg_hostCopy (s : State) (n : Nat) (g : Leg → Leg) : (s.modLeg n g).hostCopy = s.hostCopy := rfl
@[simp] theorem State.modLeg_stages (s : State) (n : Nat) (g : Leg → Leg) : (s.modLeg n g).stages = s.stages := rfl
@[simp] theorem State.modLeg_stageAtts (s : State) (n : Nat) (g : Leg → Leg) : (s.modLeg n g).stageAtts = s.stageAtts := rfl
@[simp] theorem State.modLeg_stageGone (s : State) (n : Nat) (g : Leg → Leg) : (s.modLeg n g).stageGone = s.stageGone := rfl
@[simp] theorem State.modLeg_cores (s : State) (n : Nat) (g : Leg → Leg) : (s.modLeg n g).cores = s.cores := rfl
@[simp] theorem State.modLeg_pages (s : State) (n : Nat) (g : Leg → Leg) : (s.modLeg n g).pages = s.pages := rfl
@[simp] theorem State.modLeg_ciphers (s : State) (n : Nat) (g : Leg → Leg) : (s.modLeg n g).ciphers = s.ciphers := rfl
@[simp] theorem State.modLeg_inQ (s : State) (n : Nat) (g : Leg → Leg) : (s.modLeg n g).inQ = s.inQ := rfl
@[simp] theorem State.modLeg_fwdQ (s : State) (n : Nat) (g : Leg → Leg) : (s.modLeg n g).fwdQ = s.fwdQ := rfl
@[simp] theorem State.modLeg_outQ (s : State) (n : Nat) (g : Leg → Leg) : (s.modLeg n g).outQ = s.outQ := rfl
@[simp] theorem State.modLeg_nodes (s : State) (n : Nat) (g : Leg → Leg) : (s.modLeg n g).nodes = s.nodes := rfl
@[simp] theorem State.modLeg_ports (s : State) (n : Nat) (g : Leg → Leg) : (s.modLeg n g).ports = s.ports := rfl
@[simp] theorem State.modLeg_casc (s : State) (n : Nat) (g : Leg → Leg) : (s.modLeg n g).casc = s.casc := rfl
@[simp] theorem State.modLeg_hbm (s : State) (n : Nat) (g : Leg → Leg) : (s.modLeg n g).hbm = s.hbm := rfl
@[simp] theorem State.modLeg_mem (s : State) (n : Nat) (g : Leg → Leg) : (s.modLeg n g).mem = s.mem := rfl
@[simp] theorem State.modLeg_prot (s : State) (n : Nat) (g : Leg → Leg) : (s.modLeg n g).prot = s.prot := rfl
@[simp] theorem State.modLeg_upd (s : State) (n : Nat) (g : Leg → Leg) : (s.modLeg n g).upd = s.upd := rfl
@[simp] theorem State.modLeg_power (s : State) (n : Nat) (g : Leg → Leg) : (s.modLeg n g).power = s.power := rfl
@[simp] theorem State.modLeg_pins (s : State) (n : Nat) (g : Leg → Leg) : (s.modLeg n g).pins = s.pins := rfl
@[simp] theorem State.modLeg_mon (s : State) (n : Nat) (g : Leg → Leg) : (s.modLeg n g).mon = s.mon := rfl

/-! ## `State.modConf` -/

@[simp] theorem State.modConf_pending (s : State) (n : Nat) (g : Conf → Conf) : (s.modConf n g).pending = s.pending := rfl
@[simp] theorem State.modConf_fresh (s : State) (n : Nat) (g : Conf → Conf) : (s.modConf n g).fresh = s.fresh := rfl
@[simp] theorem State.modConf_rdata (s : State) (n : Nat) (g : Conf → Conf) : (s.modConf n g).rdata = s.rdata := rfl
@[simp] theorem State.modConf_chans (s : State) (n : Nat) (g : Conf → Conf) : (s.modConf n g).chans = s.chans := rfl
@[simp] theorem State.modConf_binds (s : State) (n : Nat) (g : Conf → Conf) : (s.modConf n g).binds = s.binds := rfl
@[simp] theorem State.modConf_bindLock (s : State) (n : Nat) (g : Conf → Conf) : (s.modConf n g).bindLock = s.bindLock := rfl
@[simp] theorem State.modConf_fns (s : State) (n : Nat) (g : Conf → Conf) : (s.modConf n g).fns = s.fns := rfl
@[simp] theorem State.modConf_ctl (s : State) (n : Nat) (g : Conf → Conf) : (s.modConf n g).ctl = s.ctl := rfl
@[simp] theorem State.modConf_time (s : State) (n : Nat) (g : Conf → Conf) : (s.modConf n g).time = s.time := rfl
@[simp] theorem State.modConf_trail (s : State) (n : Nat) (g : Conf → Conf) : (s.modConf n g).trail = s.trail := rfl
@[simp] theorem State.modConf_clusters (s : State) (n : Nat) (g : Conf → Conf) : (s.modConf n g).clusters = s.clusters := rfl
@[simp] theorem State.modConf_legs (s : State) (n : Nat) (g : Conf → Conf) : (s.modConf n g).legs = s.legs := rfl
@[simp] theorem State.modConf_gens (s : State) (n : Nat) (g : Conf → Conf) : (s.modConf n g).gens = s.gens := rfl
@[simp] theorem State.modConf_dying (s : State) (n : Nat) (g : Conf → Conf) : (s.modConf n g).dying = s.dying := rfl
@[simp] theorem State.modConf_keyDying (s : State) (n : Nat) (g : Conf → Conf) : (s.modConf n g).keyDying = s.keyDying := rfl
@[simp] theorem State.modConf_hamperOrder (s : State) (n : Nat) (g : Conf → Conf) : (s.modConf n g).hamperOrder = s.hamperOrder := rfl
@[simp] theorem State.modConf_decJobs (s : State) (n : Nat) (g : Conf → Conf) : (s.modConf n g).decJobs = s.decJobs := rfl
@[simp] theorem State.modConf_encJobs (s : State) (n : Nat) (g : Conf → Conf) : (s.modConf n g).encJobs = s.encJobs := rfl
@[simp] theorem State.modConf_jobTracks (s : State) (n : Nat) (g : Conf → Conf) : (s.modConf n g).jobTracks = s.jobTracks := rfl
@[simp] theorem State.modConf_engines (s : State) (n : Nat) (g : Conf → Conf) : (s.modConf n g).engines = s.engines := rfl
@[simp] theorem State.modConf_canvases (s : State) (n : Nat) (g : Conf → Conf) : (s.modConf n g).canvases = s.canvases := rfl
@[simp] theorem State.modConf_hostCopy (s : State) (n : Nat) (g : Conf → Conf) : (s.modConf n g).hostCopy = s.hostCopy := rfl
@[simp] theorem State.modConf_stages (s : State) (n : Nat) (g : Conf → Conf) : (s.modConf n g).stages = s.stages := rfl
@[simp] theorem State.modConf_stageAtts (s : State) (n : Nat) (g : Conf → Conf) : (s.modConf n g).stageAtts = s.stageAtts := rfl
@[simp] theorem State.modConf_stageGone (s : State) (n : Nat) (g : Conf → Conf) : (s.modConf n g).stageGone = s.stageGone := rfl
@[simp] theorem State.modConf_cores (s : State) (n : Nat) (g : Conf → Conf) : (s.modConf n g).cores = s.cores := rfl
@[simp] theorem State.modConf_pages (s : State) (n : Nat) (g : Conf → Conf) : (s.modConf n g).pages = s.pages := rfl
@[simp] theorem State.modConf_ciphers (s : State) (n : Nat) (g : Conf → Conf) : (s.modConf n g).ciphers = s.ciphers := rfl
@[simp] theorem State.modConf_inQ (s : State) (n : Nat) (g : Conf → Conf) : (s.modConf n g).inQ = s.inQ := rfl
@[simp] theorem State.modConf_fwdQ (s : State) (n : Nat) (g : Conf → Conf) : (s.modConf n g).fwdQ = s.fwdQ := rfl
@[simp] theorem State.modConf_outQ (s : State) (n : Nat) (g : Conf → Conf) : (s.modConf n g).outQ = s.outQ := rfl
@[simp] theorem State.modConf_nodes (s : State) (n : Nat) (g : Conf → Conf) : (s.modConf n g).nodes = s.nodes := rfl
@[simp] theorem State.modConf_ports (s : State) (n : Nat) (g : Conf → Conf) : (s.modConf n g).ports = s.ports := rfl
@[simp] theorem State.modConf_casc (s : State) (n : Nat) (g : Conf → Conf) : (s.modConf n g).casc = s.casc := rfl
@[simp] theorem State.modConf_hbm (s : State) (n : Nat) (g : Conf → Conf) : (s.modConf n g).hbm = s.hbm := rfl
@[simp] theorem State.modConf_mem (s : State) (n : Nat) (g : Conf → Conf) : (s.modConf n g).mem = s.mem := rfl
@[simp] theorem State.modConf_prot (s : State) (n : Nat) (g : Conf → Conf) : (s.modConf n g).prot = s.prot := rfl
@[simp] theorem State.modConf_upd (s : State) (n : Nat) (g : Conf → Conf) : (s.modConf n g).upd = s.upd := rfl
@[simp] theorem State.modConf_power (s : State) (n : Nat) (g : Conf → Conf) : (s.modConf n g).power = s.power := rfl
@[simp] theorem State.modConf_pins (s : State) (n : Nat) (g : Conf → Conf) : (s.modConf n g).pins = s.pins := rfl
@[simp] theorem State.modConf_mon (s : State) (n : Nat) (g : Conf → Conf) : (s.modConf n g).mon = s.mon := rfl

/-! ## `State.modPort` -/

@[simp] theorem State.modPort_pending (s : State) (p : Nat) (g : Port → Port) : (s.modPort p g).pending = s.pending := rfl
@[simp] theorem State.modPort_fresh (s : State) (p : Nat) (g : Port → Port) : (s.modPort p g).fresh = s.fresh := rfl
@[simp] theorem State.modPort_rdata (s : State) (p : Nat) (g : Port → Port) : (s.modPort p g).rdata = s.rdata := rfl
@[simp] theorem State.modPort_chans (s : State) (p : Nat) (g : Port → Port) : (s.modPort p g).chans = s.chans := rfl
@[simp] theorem State.modPort_binds (s : State) (p : Nat) (g : Port → Port) : (s.modPort p g).binds = s.binds := rfl
@[simp] theorem State.modPort_bindLock (s : State) (p : Nat) (g : Port → Port) : (s.modPort p g).bindLock = s.bindLock := rfl
@[simp] theorem State.modPort_fns (s : State) (p : Nat) (g : Port → Port) : (s.modPort p g).fns = s.fns := rfl
@[simp] theorem State.modPort_ctl (s : State) (p : Nat) (g : Port → Port) : (s.modPort p g).ctl = s.ctl := rfl
@[simp] theorem State.modPort_time (s : State) (p : Nat) (g : Port → Port) : (s.modPort p g).time = s.time := rfl
@[simp] theorem State.modPort_trail (s : State) (p : Nat) (g : Port → Port) : (s.modPort p g).trail = s.trail := rfl
@[simp] theorem State.modPort_clusters (s : State) (p : Nat) (g : Port → Port) : (s.modPort p g).clusters = s.clusters := rfl
@[simp] theorem State.modPort_confs (s : State) (p : Nat) (g : Port → Port) : (s.modPort p g).confs = s.confs := rfl
@[simp] theorem State.modPort_legs (s : State) (p : Nat) (g : Port → Port) : (s.modPort p g).legs = s.legs := rfl
@[simp] theorem State.modPort_gens (s : State) (p : Nat) (g : Port → Port) : (s.modPort p g).gens = s.gens := rfl
@[simp] theorem State.modPort_dying (s : State) (p : Nat) (g : Port → Port) : (s.modPort p g).dying = s.dying := rfl
@[simp] theorem State.modPort_keyDying (s : State) (p : Nat) (g : Port → Port) : (s.modPort p g).keyDying = s.keyDying := rfl
@[simp] theorem State.modPort_hamperOrder (s : State) (p : Nat) (g : Port → Port) : (s.modPort p g).hamperOrder = s.hamperOrder := rfl
@[simp] theorem State.modPort_decJobs (s : State) (p : Nat) (g : Port → Port) : (s.modPort p g).decJobs = s.decJobs := rfl
@[simp] theorem State.modPort_encJobs (s : State) (p : Nat) (g : Port → Port) : (s.modPort p g).encJobs = s.encJobs := rfl
@[simp] theorem State.modPort_jobTracks (s : State) (p : Nat) (g : Port → Port) : (s.modPort p g).jobTracks = s.jobTracks := rfl
@[simp] theorem State.modPort_engines (s : State) (p : Nat) (g : Port → Port) : (s.modPort p g).engines = s.engines := rfl
@[simp] theorem State.modPort_canvases (s : State) (p : Nat) (g : Port → Port) : (s.modPort p g).canvases = s.canvases := rfl
@[simp] theorem State.modPort_hostCopy (s : State) (p : Nat) (g : Port → Port) : (s.modPort p g).hostCopy = s.hostCopy := rfl
@[simp] theorem State.modPort_stages (s : State) (p : Nat) (g : Port → Port) : (s.modPort p g).stages = s.stages := rfl
@[simp] theorem State.modPort_stageAtts (s : State) (p : Nat) (g : Port → Port) : (s.modPort p g).stageAtts = s.stageAtts := rfl
@[simp] theorem State.modPort_stageGone (s : State) (p : Nat) (g : Port → Port) : (s.modPort p g).stageGone = s.stageGone := rfl
@[simp] theorem State.modPort_cores (s : State) (p : Nat) (g : Port → Port) : (s.modPort p g).cores = s.cores := rfl
@[simp] theorem State.modPort_pages (s : State) (p : Nat) (g : Port → Port) : (s.modPort p g).pages = s.pages := rfl
@[simp] theorem State.modPort_ciphers (s : State) (p : Nat) (g : Port → Port) : (s.modPort p g).ciphers = s.ciphers := rfl
@[simp] theorem State.modPort_inQ (s : State) (p : Nat) (g : Port → Port) : (s.modPort p g).inQ = s.inQ := rfl
@[simp] theorem State.modPort_fwdQ (s : State) (p : Nat) (g : Port → Port) : (s.modPort p g).fwdQ = s.fwdQ := rfl
@[simp] theorem State.modPort_outQ (s : State) (p : Nat) (g : Port → Port) : (s.modPort p g).outQ = s.outQ := rfl
@[simp] theorem State.modPort_nodes (s : State) (p : Nat) (g : Port → Port) : (s.modPort p g).nodes = s.nodes := rfl
@[simp] theorem State.modPort_casc (s : State) (p : Nat) (g : Port → Port) : (s.modPort p g).casc = s.casc := rfl
@[simp] theorem State.modPort_hbm (s : State) (p : Nat) (g : Port → Port) : (s.modPort p g).hbm = s.hbm := rfl
@[simp] theorem State.modPort_mem (s : State) (p : Nat) (g : Port → Port) : (s.modPort p g).mem = s.mem := rfl
@[simp] theorem State.modPort_prot (s : State) (p : Nat) (g : Port → Port) : (s.modPort p g).prot = s.prot := rfl
@[simp] theorem State.modPort_upd (s : State) (p : Nat) (g : Port → Port) : (s.modPort p g).upd = s.upd := rfl
@[simp] theorem State.modPort_power (s : State) (p : Nat) (g : Port → Port) : (s.modPort p g).power = s.power := rfl
@[simp] theorem State.modPort_pins (s : State) (p : Nat) (g : Port → Port) : (s.modPort p g).pins = s.pins := rfl
@[simp] theorem State.modPort_mon (s : State) (p : Nat) (g : Port → Port) : (s.modPort p g).mon = s.mon := rfl

/-! ## `State.modGroup` -/

@[simp] theorem State.modGroup_pending (s : State) (p : Nat) (g : LinkGroup → LinkGroup) : (s.modGroup p g).pending = s.pending := rfl
@[simp] theorem State.modGroup_fresh (s : State) (p : Nat) (g : LinkGroup → LinkGroup) : (s.modGroup p g).fresh = s.fresh := rfl
@[simp] theorem State.modGroup_rdata (s : State) (p : Nat) (g : LinkGroup → LinkGroup) : (s.modGroup p g).rdata = s.rdata := rfl
@[simp] theorem State.modGroup_chans (s : State) (p : Nat) (g : LinkGroup → LinkGroup) : (s.modGroup p g).chans = s.chans := rfl
@[simp] theorem State.modGroup_binds (s : State) (p : Nat) (g : LinkGroup → LinkGroup) : (s.modGroup p g).binds = s.binds := rfl
@[simp] theorem State.modGroup_bindLock (s : State) (p : Nat) (g : LinkGroup → LinkGroup) : (s.modGroup p g).bindLock = s.bindLock := rfl
@[simp] theorem State.modGroup_fns (s : State) (p : Nat) (g : LinkGroup → LinkGroup) : (s.modGroup p g).fns = s.fns := rfl
@[simp] theorem State.modGroup_ctl (s : State) (p : Nat) (g : LinkGroup → LinkGroup) : (s.modGroup p g).ctl = s.ctl := rfl
@[simp] theorem State.modGroup_time (s : State) (p : Nat) (g : LinkGroup → LinkGroup) : (s.modGroup p g).time = s.time := rfl
@[simp] theorem State.modGroup_trail (s : State) (p : Nat) (g : LinkGroup → LinkGroup) : (s.modGroup p g).trail = s.trail := rfl
@[simp] theorem State.modGroup_clusters (s : State) (p : Nat) (g : LinkGroup → LinkGroup) : (s.modGroup p g).clusters = s.clusters := rfl
@[simp] theorem State.modGroup_confs (s : State) (p : Nat) (g : LinkGroup → LinkGroup) : (s.modGroup p g).confs = s.confs := rfl
@[simp] theorem State.modGroup_legs (s : State) (p : Nat) (g : LinkGroup → LinkGroup) : (s.modGroup p g).legs = s.legs := rfl
@[simp] theorem State.modGroup_gens (s : State) (p : Nat) (g : LinkGroup → LinkGroup) : (s.modGroup p g).gens = s.gens := rfl
@[simp] theorem State.modGroup_dying (s : State) (p : Nat) (g : LinkGroup → LinkGroup) : (s.modGroup p g).dying = s.dying := rfl
@[simp] theorem State.modGroup_keyDying (s : State) (p : Nat) (g : LinkGroup → LinkGroup) : (s.modGroup p g).keyDying = s.keyDying := rfl
@[simp] theorem State.modGroup_hamperOrder (s : State) (p : Nat) (g : LinkGroup → LinkGroup) : (s.modGroup p g).hamperOrder = s.hamperOrder := rfl
@[simp] theorem State.modGroup_decJobs (s : State) (p : Nat) (g : LinkGroup → LinkGroup) : (s.modGroup p g).decJobs = s.decJobs := rfl
@[simp] theorem State.modGroup_encJobs (s : State) (p : Nat) (g : LinkGroup → LinkGroup) : (s.modGroup p g).encJobs = s.encJobs := rfl
@[simp] theorem State.modGroup_jobTracks (s : State) (p : Nat) (g : LinkGroup → LinkGroup) : (s.modGroup p g).jobTracks = s.jobTracks := rfl
@[simp] theorem State.modGroup_engines (s : State) (p : Nat) (g : LinkGroup → LinkGroup) : (s.modGroup p g).engines = s.engines := rfl
@[simp] theorem State.modGroup_canvases (s : State) (p : Nat) (g : LinkGroup → LinkGroup) : (s.modGroup p g).canvases = s.canvases := rfl
@[simp] theorem State.modGroup_hostCopy (s : State) (p : Nat) (g : LinkGroup → LinkGroup) : (s.modGroup p g).hostCopy = s.hostCopy := rfl
@[simp] theorem State.modGroup_stages (s : State) (p : Nat) (g : LinkGroup → LinkGroup) : (s.modGroup p g).stages = s.stages := rfl
@[simp] theorem State.modGroup_stageAtts (s : State) (p : Nat) (g : LinkGroup → LinkGroup) : (s.modGroup p g).stageAtts = s.stageAtts := rfl
@[simp] theorem State.modGroup_stageGone (s : State) (p : Nat) (g : LinkGroup → LinkGroup) : (s.modGroup p g).stageGone = s.stageGone := rfl
@[simp] theorem State.modGroup_cores (s : State) (p : Nat) (g : LinkGroup → LinkGroup) : (s.modGroup p g).cores = s.cores := rfl
@[simp] theorem State.modGroup_pages (s : State) (p : Nat) (g : LinkGroup → LinkGroup) : (s.modGroup p g).pages = s.pages := rfl
@[simp] theorem State.modGroup_ciphers (s : State) (p : Nat) (g : LinkGroup → LinkGroup) : (s.modGroup p g).ciphers = s.ciphers := rfl
@[simp] theorem State.modGroup_inQ (s : State) (p : Nat) (g : LinkGroup → LinkGroup) : (s.modGroup p g).inQ = s.inQ := rfl
@[simp] theorem State.modGroup_fwdQ (s : State) (p : Nat) (g : LinkGroup → LinkGroup) : (s.modGroup p g).fwdQ = s.fwdQ := rfl
@[simp] theorem State.modGroup_outQ (s : State) (p : Nat) (g : LinkGroup → LinkGroup) : (s.modGroup p g).outQ = s.outQ := rfl
@[simp] theorem State.modGroup_nodes (s : State) (p : Nat) (g : LinkGroup → LinkGroup) : (s.modGroup p g).nodes = s.nodes := rfl
@[simp] theorem State.modGroup_ports (s : State) (p : Nat) (g : LinkGroup → LinkGroup) : (s.modGroup p g).ports = s.ports := rfl
@[simp] theorem State.modGroup_hbm (s : State) (p : Nat) (g : LinkGroup → LinkGroup) : (s.modGroup p g).hbm = s.hbm := rfl
@[simp] theorem State.modGroup_mem (s : State) (p : Nat) (g : LinkGroup → LinkGroup) : (s.modGroup p g).mem = s.mem := rfl
@[simp] theorem State.modGroup_prot (s : State) (p : Nat) (g : LinkGroup → LinkGroup) : (s.modGroup p g).prot = s.prot := rfl
@[simp] theorem State.modGroup_upd (s : State) (p : Nat) (g : LinkGroup → LinkGroup) : (s.modGroup p g).upd = s.upd := rfl
@[simp] theorem State.modGroup_power (s : State) (p : Nat) (g : LinkGroup → LinkGroup) : (s.modGroup p g).power = s.power := rfl
@[simp] theorem State.modGroup_pins (s : State) (p : Nat) (g : LinkGroup → LinkGroup) : (s.modGroup p g).pins = s.pins := rfl
@[simp] theorem State.modGroup_mon (s : State) (p : Nat) (g : LinkGroup → LinkGroup) : (s.modGroup p g).mon = s.mon := rfl

/-! ## `State.modCluster` -/

@[simp] theorem State.modCluster_pending (s : State) (p : Nat) (g : Cluster → Cluster) : (s.modCluster p g).pending = s.pending := rfl
@[simp] theorem State.modCluster_fresh (s : State) (p : Nat) (g : Cluster → Cluster) : (s.modCluster p g).fresh = s.fresh := rfl
@[simp] theorem State.modCluster_rdata (s : State) (p : Nat) (g : Cluster → Cluster) : (s.modCluster p g).rdata = s.rdata := rfl
@[simp] theorem State.modCluster_chans (s : State) (p : Nat) (g : Cluster → Cluster) : (s.modCluster p g).chans = s.chans := rfl
@[simp] theorem State.modCluster_binds (s : State) (p : Nat) (g : Cluster → Cluster) : (s.modCluster p g).binds = s.binds := rfl
@[simp] theorem State.modCluster_bindLock (s : State) (p : Nat) (g : Cluster → Cluster) : (s.modCluster p g).bindLock = s.bindLock := rfl
@[simp] theorem State.modCluster_fns (s : State) (p : Nat) (g : Cluster → Cluster) : (s.modCluster p g).fns = s.fns := rfl
@[simp] theorem State.modCluster_ctl (s : State) (p : Nat) (g : Cluster → Cluster) : (s.modCluster p g).ctl = s.ctl := rfl
@[simp] theorem State.modCluster_time (s : State) (p : Nat) (g : Cluster → Cluster) : (s.modCluster p g).time = s.time := rfl
@[simp] theorem State.modCluster_trail (s : State) (p : Nat) (g : Cluster → Cluster) : (s.modCluster p g).trail = s.trail := rfl
@[simp] theorem State.modCluster_confs (s : State) (p : Nat) (g : Cluster → Cluster) : (s.modCluster p g).confs = s.confs := rfl
@[simp] theorem State.modCluster_legs (s : State) (p : Nat) (g : Cluster → Cluster) : (s.modCluster p g).legs = s.legs := rfl
@[simp] theorem State.modCluster_gens (s : State) (p : Nat) (g : Cluster → Cluster) : (s.modCluster p g).gens = s.gens := rfl
@[simp] theorem State.modCluster_dying (s : State) (p : Nat) (g : Cluster → Cluster) : (s.modCluster p g).dying = s.dying := rfl
@[simp] theorem State.modCluster_keyDying (s : State) (p : Nat) (g : Cluster → Cluster) : (s.modCluster p g).keyDying = s.keyDying := rfl
@[simp] theorem State.modCluster_hamperOrder (s : State) (p : Nat) (g : Cluster → Cluster) : (s.modCluster p g).hamperOrder = s.hamperOrder := rfl
@[simp] theorem State.modCluster_decJobs (s : State) (p : Nat) (g : Cluster → Cluster) : (s.modCluster p g).decJobs = s.decJobs := rfl
@[simp] theorem State.modCluster_encJobs (s : State) (p : Nat) (g : Cluster → Cluster) : (s.modCluster p g).encJobs = s.encJobs := rfl
@[simp] theorem State.modCluster_jobTracks (s : State) (p : Nat) (g : Cluster → Cluster) : (s.modCluster p g).jobTracks = s.jobTracks := rfl
@[simp] theorem State.modCluster_engines (s : State) (p : Nat) (g : Cluster → Cluster) : (s.modCluster p g).engines = s.engines := rfl
@[simp] theorem State.modCluster_canvases (s : State) (p : Nat) (g : Cluster → Cluster) : (s.modCluster p g).canvases = s.canvases := rfl
@[simp] theorem State.modCluster_hostCopy (s : State) (p : Nat) (g : Cluster → Cluster) : (s.modCluster p g).hostCopy = s.hostCopy := rfl
@[simp] theorem State.modCluster_stages (s : State) (p : Nat) (g : Cluster → Cluster) : (s.modCluster p g).stages = s.stages := rfl
@[simp] theorem State.modCluster_stageAtts (s : State) (p : Nat) (g : Cluster → Cluster) : (s.modCluster p g).stageAtts = s.stageAtts := rfl
@[simp] theorem State.modCluster_stageGone (s : State) (p : Nat) (g : Cluster → Cluster) : (s.modCluster p g).stageGone = s.stageGone := rfl
@[simp] theorem State.modCluster_cores (s : State) (p : Nat) (g : Cluster → Cluster) : (s.modCluster p g).cores = s.cores := rfl
@[simp] theorem State.modCluster_pages (s : State) (p : Nat) (g : Cluster → Cluster) : (s.modCluster p g).pages = s.pages := rfl
@[simp] theorem State.modCluster_ciphers (s : State) (p : Nat) (g : Cluster → Cluster) : (s.modCluster p g).ciphers = s.ciphers := rfl
@[simp] theorem State.modCluster_inQ (s : State) (p : Nat) (g : Cluster → Cluster) : (s.modCluster p g).inQ = s.inQ := rfl
@[simp] theorem State.modCluster_fwdQ (s : State) (p : Nat) (g : Cluster → Cluster) : (s.modCluster p g).fwdQ = s.fwdQ := rfl
@[simp] theorem State.modCluster_outQ (s : State) (p : Nat) (g : Cluster → Cluster) : (s.modCluster p g).outQ = s.outQ := rfl
@[simp] theorem State.modCluster_nodes (s : State) (p : Nat) (g : Cluster → Cluster) : (s.modCluster p g).nodes = s.nodes := rfl
@[simp] theorem State.modCluster_ports (s : State) (p : Nat) (g : Cluster → Cluster) : (s.modCluster p g).ports = s.ports := rfl
@[simp] theorem State.modCluster_casc (s : State) (p : Nat) (g : Cluster → Cluster) : (s.modCluster p g).casc = s.casc := rfl
@[simp] theorem State.modCluster_hbm (s : State) (p : Nat) (g : Cluster → Cluster) : (s.modCluster p g).hbm = s.hbm := rfl
@[simp] theorem State.modCluster_mem (s : State) (p : Nat) (g : Cluster → Cluster) : (s.modCluster p g).mem = s.mem := rfl
@[simp] theorem State.modCluster_prot (s : State) (p : Nat) (g : Cluster → Cluster) : (s.modCluster p g).prot = s.prot := rfl
@[simp] theorem State.modCluster_upd (s : State) (p : Nat) (g : Cluster → Cluster) : (s.modCluster p g).upd = s.upd := rfl
@[simp] theorem State.modCluster_power (s : State) (p : Nat) (g : Cluster → Cluster) : (s.modCluster p g).power = s.power := rfl
@[simp] theorem State.modCluster_pins (s : State) (p : Nat) (g : Cluster → Cluster) : (s.modCluster p g).pins = s.pins := rfl
@[simp] theorem State.modCluster_mon (s : State) (p : Nat) (g : Cluster → Cluster) : (s.modCluster p g).mon = s.mon := rfl

/-! ## `State.modBase` -/

@[simp] theorem State.modBase_pending (s : State) (p : Nat) (g : Base → Base) : (s.modBase p g).pending = s.pending := rfl
@[simp] theorem State.modBase_fresh (s : State) (p : Nat) (g : Base → Base) : (s.modBase p g).fresh = s.fresh := rfl
@[simp] theorem State.modBase_rdata (s : State) (p : Nat) (g : Base → Base) : (s.modBase p g).rdata = s.rdata := rfl
@[simp] theorem State.modBase_chans (s : State) (p : Nat) (g : Base → Base) : (s.modBase p g).chans = s.chans := rfl
@[simp] theorem State.modBase_binds (s : State) (p : Nat) (g : Base → Base) : (s.modBase p g).binds = s.binds := rfl
@[simp] theorem State.modBase_bindLock (s : State) (p : Nat) (g : Base → Base) : (s.modBase p g).bindLock = s.bindLock := rfl
@[simp] theorem State.modBase_fns (s : State) (p : Nat) (g : Base → Base) : (s.modBase p g).fns = s.fns := rfl
@[simp] theorem State.modBase_ctl (s : State) (p : Nat) (g : Base → Base) : (s.modBase p g).ctl = s.ctl := rfl
@[simp] theorem State.modBase_trail (s : State) (p : Nat) (g : Base → Base) : (s.modBase p g).trail = s.trail := rfl
@[simp] theorem State.modBase_clusters (s : State) (p : Nat) (g : Base → Base) : (s.modBase p g).clusters = s.clusters := rfl
@[simp] theorem State.modBase_confs (s : State) (p : Nat) (g : Base → Base) : (s.modBase p g).confs = s.confs := rfl
@[simp] theorem State.modBase_legs (s : State) (p : Nat) (g : Base → Base) : (s.modBase p g).legs = s.legs := rfl
@[simp] theorem State.modBase_gens (s : State) (p : Nat) (g : Base → Base) : (s.modBase p g).gens = s.gens := rfl
@[simp] theorem State.modBase_dying (s : State) (p : Nat) (g : Base → Base) : (s.modBase p g).dying = s.dying := rfl
@[simp] theorem State.modBase_keyDying (s : State) (p : Nat) (g : Base → Base) : (s.modBase p g).keyDying = s.keyDying := rfl
@[simp] theorem State.modBase_hamperOrder (s : State) (p : Nat) (g : Base → Base) : (s.modBase p g).hamperOrder = s.hamperOrder := rfl
@[simp] theorem State.modBase_decJobs (s : State) (p : Nat) (g : Base → Base) : (s.modBase p g).decJobs = s.decJobs := rfl
@[simp] theorem State.modBase_encJobs (s : State) (p : Nat) (g : Base → Base) : (s.modBase p g).encJobs = s.encJobs := rfl
@[simp] theorem State.modBase_jobTracks (s : State) (p : Nat) (g : Base → Base) : (s.modBase p g).jobTracks = s.jobTracks := rfl
@[simp] theorem State.modBase_engines (s : State) (p : Nat) (g : Base → Base) : (s.modBase p g).engines = s.engines := rfl
@[simp] theorem State.modBase_canvases (s : State) (p : Nat) (g : Base → Base) : (s.modBase p g).canvases = s.canvases := rfl
@[simp] theorem State.modBase_hostCopy (s : State) (p : Nat) (g : Base → Base) : (s.modBase p g).hostCopy = s.hostCopy := rfl
@[simp] theorem State.modBase_stages (s : State) (p : Nat) (g : Base → Base) : (s.modBase p g).stages = s.stages := rfl
@[simp] theorem State.modBase_stageAtts (s : State) (p : Nat) (g : Base → Base) : (s.modBase p g).stageAtts = s.stageAtts := rfl
@[simp] theorem State.modBase_stageGone (s : State) (p : Nat) (g : Base → Base) : (s.modBase p g).stageGone = s.stageGone := rfl
@[simp] theorem State.modBase_cores (s : State) (p : Nat) (g : Base → Base) : (s.modBase p g).cores = s.cores := rfl
@[simp] theorem State.modBase_pages (s : State) (p : Nat) (g : Base → Base) : (s.modBase p g).pages = s.pages := rfl
@[simp] theorem State.modBase_ciphers (s : State) (p : Nat) (g : Base → Base) : (s.modBase p g).ciphers = s.ciphers := rfl
@[simp] theorem State.modBase_inQ (s : State) (p : Nat) (g : Base → Base) : (s.modBase p g).inQ = s.inQ := rfl
@[simp] theorem State.modBase_fwdQ (s : State) (p : Nat) (g : Base → Base) : (s.modBase p g).fwdQ = s.fwdQ := rfl
@[simp] theorem State.modBase_outQ (s : State) (p : Nat) (g : Base → Base) : (s.modBase p g).outQ = s.outQ := rfl
@[simp] theorem State.modBase_nodes (s : State) (p : Nat) (g : Base → Base) : (s.modBase p g).nodes = s.nodes := rfl
@[simp] theorem State.modBase_ports (s : State) (p : Nat) (g : Base → Base) : (s.modBase p g).ports = s.ports := rfl
@[simp] theorem State.modBase_casc (s : State) (p : Nat) (g : Base → Base) : (s.modBase p g).casc = s.casc := rfl
@[simp] theorem State.modBase_hbm (s : State) (p : Nat) (g : Base → Base) : (s.modBase p g).hbm = s.hbm := rfl
@[simp] theorem State.modBase_mem (s : State) (p : Nat) (g : Base → Base) : (s.modBase p g).mem = s.mem := rfl
@[simp] theorem State.modBase_prot (s : State) (p : Nat) (g : Base → Base) : (s.modBase p g).prot = s.prot := rfl
@[simp] theorem State.modBase_upd (s : State) (p : Nat) (g : Base → Base) : (s.modBase p g).upd = s.upd := rfl
@[simp] theorem State.modBase_power (s : State) (p : Nat) (g : Base → Base) : (s.modBase p g).power = s.power := rfl
@[simp] theorem State.modBase_pins (s : State) (p : Nat) (g : Base → Base) : (s.modBase p g).pins = s.pins := rfl
@[simp] theorem State.modBase_mon (s : State) (p : Nat) (g : Base → Base) : (s.modBase p g).mon = s.mon := rfl

/-! ## `State.modCore` -/

@[simp] theorem State.modCore_pending (s : State) (p : Nat) (g : Core → Core) : (s.modCore p g).pending = s.pending := rfl
@[simp] theorem State.modCore_fresh (s : State) (p : Nat) (g : Core → Core) : (s.modCore p g).fresh = s.fresh := rfl
@[simp] theorem State.modCore_rdata (s : State) (p : Nat) (g : Core → Core) : (s.modCore p g).rdata = s.rdata := rfl
@[simp] theorem State.modCore_chans (s : State) (p : Nat) (g : Core → Core) : (s.modCore p g).chans = s.chans := rfl
@[simp] theorem State.modCore_binds (s : State) (p : Nat) (g : Core → Core) : (s.modCore p g).binds = s.binds := rfl
@[simp] theorem State.modCore_bindLock (s : State) (p : Nat) (g : Core → Core) : (s.modCore p g).bindLock = s.bindLock := rfl
@[simp] theorem State.modCore_fns (s : State) (p : Nat) (g : Core → Core) : (s.modCore p g).fns = s.fns := rfl
@[simp] theorem State.modCore_ctl (s : State) (p : Nat) (g : Core → Core) : (s.modCore p g).ctl = s.ctl := rfl
@[simp] theorem State.modCore_time (s : State) (p : Nat) (g : Core → Core) : (s.modCore p g).time = s.time := rfl
@[simp] theorem State.modCore_trail (s : State) (p : Nat) (g : Core → Core) : (s.modCore p g).trail = s.trail := rfl
@[simp] theorem State.modCore_clusters (s : State) (p : Nat) (g : Core → Core) : (s.modCore p g).clusters = s.clusters := rfl
@[simp] theorem State.modCore_confs (s : State) (p : Nat) (g : Core → Core) : (s.modCore p g).confs = s.confs := rfl
@[simp] theorem State.modCore_legs (s : State) (p : Nat) (g : Core → Core) : (s.modCore p g).legs = s.legs := rfl
@[simp] theorem State.modCore_gens (s : State) (p : Nat) (g : Core → Core) : (s.modCore p g).gens = s.gens := rfl
@[simp] theorem State.modCore_dying (s : State) (p : Nat) (g : Core → Core) : (s.modCore p g).dying = s.dying := rfl
@[simp] theorem State.modCore_keyDying (s : State) (p : Nat) (g : Core → Core) : (s.modCore p g).keyDying = s.keyDying := rfl
@[simp] theorem State.modCore_hamperOrder (s : State) (p : Nat) (g : Core → Core) : (s.modCore p g).hamperOrder = s.hamperOrder := rfl
@[simp] theorem State.modCore_decJobs (s : State) (p : Nat) (g : Core → Core) : (s.modCore p g).decJobs = s.decJobs := rfl
@[simp] theorem State.modCore_encJobs (s : State) (p : Nat) (g : Core → Core) : (s.modCore p g).encJobs = s.encJobs := rfl
@[simp] theorem State.modCore_jobTracks (s : State) (p : Nat) (g : Core → Core) : (s.modCore p g).jobTracks = s.jobTracks := rfl
@[simp] theorem State.modCore_engines (s : State) (p : Nat) (g : Core → Core) : (s.modCore p g).engines = s.engines := rfl
@[simp] theorem State.modCore_canvases (s : State) (p : Nat) (g : Core → Core) : (s.modCore p g).canvases = s.canvases := rfl
@[simp] theorem State.modCore_hostCopy (s : State) (p : Nat) (g : Core → Core) : (s.modCore p g).hostCopy = s.hostCopy := rfl
@[simp] theorem State.modCore_stages (s : State) (p : Nat) (g : Core → Core) : (s.modCore p g).stages = s.stages := rfl
@[simp] theorem State.modCore_stageAtts (s : State) (p : Nat) (g : Core → Core) : (s.modCore p g).stageAtts = s.stageAtts := rfl
@[simp] theorem State.modCore_stageGone (s : State) (p : Nat) (g : Core → Core) : (s.modCore p g).stageGone = s.stageGone := rfl
@[simp] theorem State.modCore_pages (s : State) (p : Nat) (g : Core → Core) : (s.modCore p g).pages = s.pages := rfl
@[simp] theorem State.modCore_ciphers (s : State) (p : Nat) (g : Core → Core) : (s.modCore p g).ciphers = s.ciphers := rfl
@[simp] theorem State.modCore_inQ (s : State) (p : Nat) (g : Core → Core) : (s.modCore p g).inQ = s.inQ := rfl
@[simp] theorem State.modCore_fwdQ (s : State) (p : Nat) (g : Core → Core) : (s.modCore p g).fwdQ = s.fwdQ := rfl
@[simp] theorem State.modCore_outQ (s : State) (p : Nat) (g : Core → Core) : (s.modCore p g).outQ = s.outQ := rfl
@[simp] theorem State.modCore_nodes (s : State) (p : Nat) (g : Core → Core) : (s.modCore p g).nodes = s.nodes := rfl
@[simp] theorem State.modCore_ports (s : State) (p : Nat) (g : Core → Core) : (s.modCore p g).ports = s.ports := rfl
@[simp] theorem State.modCore_casc (s : State) (p : Nat) (g : Core → Core) : (s.modCore p g).casc = s.casc := rfl
@[simp] theorem State.modCore_hbm (s : State) (p : Nat) (g : Core → Core) : (s.modCore p g).hbm = s.hbm := rfl
@[simp] theorem State.modCore_mem (s : State) (p : Nat) (g : Core → Core) : (s.modCore p g).mem = s.mem := rfl
@[simp] theorem State.modCore_prot (s : State) (p : Nat) (g : Core → Core) : (s.modCore p g).prot = s.prot := rfl
@[simp] theorem State.modCore_upd (s : State) (p : Nat) (g : Core → Core) : (s.modCore p g).upd = s.upd := rfl
@[simp] theorem State.modCore_power (s : State) (p : Nat) (g : Core → Core) : (s.modCore p g).power = s.power := rfl
@[simp] theorem State.modCore_pins (s : State) (p : Nat) (g : Core → Core) : (s.modCore p g).pins = s.pins := rfl
@[simp] theorem State.modCore_mon (s : State) (p : Nat) (g : Core → Core) : (s.modCore p g).mon = s.mon := rfl

/-! ## `State.modPchan` -/

@[simp] theorem State.modPchan_pending (s : State) (p : Nat) (g : PChan → PChan) : (s.modPchan p g).pending = s.pending := rfl
@[simp] theorem State.modPchan_fresh (s : State) (p : Nat) (g : PChan → PChan) : (s.modPchan p g).fresh = s.fresh := rfl
@[simp] theorem State.modPchan_rdata (s : State) (p : Nat) (g : PChan → PChan) : (s.modPchan p g).rdata = s.rdata := rfl
@[simp] theorem State.modPchan_chans (s : State) (p : Nat) (g : PChan → PChan) : (s.modPchan p g).chans = s.chans := rfl
@[simp] theorem State.modPchan_binds (s : State) (p : Nat) (g : PChan → PChan) : (s.modPchan p g).binds = s.binds := rfl
@[simp] theorem State.modPchan_bindLock (s : State) (p : Nat) (g : PChan → PChan) : (s.modPchan p g).bindLock = s.bindLock := rfl
@[simp] theorem State.modPchan_fns (s : State) (p : Nat) (g : PChan → PChan) : (s.modPchan p g).fns = s.fns := rfl
@[simp] theorem State.modPchan_ctl (s : State) (p : Nat) (g : PChan → PChan) : (s.modPchan p g).ctl = s.ctl := rfl
@[simp] theorem State.modPchan_time (s : State) (p : Nat) (g : PChan → PChan) : (s.modPchan p g).time = s.time := rfl
@[simp] theorem State.modPchan_trail (s : State) (p : Nat) (g : PChan → PChan) : (s.modPchan p g).trail = s.trail := rfl
@[simp] theorem State.modPchan_clusters (s : State) (p : Nat) (g : PChan → PChan) : (s.modPchan p g).clusters = s.clusters := rfl
@[simp] theorem State.modPchan_confs (s : State) (p : Nat) (g : PChan → PChan) : (s.modPchan p g).confs = s.confs := rfl
@[simp] theorem State.modPchan_legs (s : State) (p : Nat) (g : PChan → PChan) : (s.modPchan p g).legs = s.legs := rfl
@[simp] theorem State.modPchan_gens (s : State) (p : Nat) (g : PChan → PChan) : (s.modPchan p g).gens = s.gens := rfl
@[simp] theorem State.modPchan_dying (s : State) (p : Nat) (g : PChan → PChan) : (s.modPchan p g).dying = s.dying := rfl
@[simp] theorem State.modPchan_keyDying (s : State) (p : Nat) (g : PChan → PChan) : (s.modPchan p g).keyDying = s.keyDying := rfl
@[simp] theorem State.modPchan_hamperOrder (s : State) (p : Nat) (g : PChan → PChan) : (s.modPchan p g).hamperOrder = s.hamperOrder := rfl
@[simp] theorem State.modPchan_decJobs (s : State) (p : Nat) (g : PChan → PChan) : (s.modPchan p g).decJobs = s.decJobs := rfl
@[simp] theorem State.modPchan_encJobs (s : State) (p : Nat) (g : PChan → PChan) : (s.modPchan p g).encJobs = s.encJobs := rfl
@[simp] theorem State.modPchan_jobTracks (s : State) (p : Nat) (g : PChan → PChan) : (s.modPchan p g).jobTracks = s.jobTracks := rfl
@[simp] theorem State.modPchan_engines (s : State) (p : Nat) (g : PChan → PChan) : (s.modPchan p g).engines = s.engines := rfl
@[simp] theorem State.modPchan_canvases (s : State) (p : Nat) (g : PChan → PChan) : (s.modPchan p g).canvases = s.canvases := rfl
@[simp] theorem State.modPchan_hostCopy (s : State) (p : Nat) (g : PChan → PChan) : (s.modPchan p g).hostCopy = s.hostCopy := rfl
@[simp] theorem State.modPchan_stages (s : State) (p : Nat) (g : PChan → PChan) : (s.modPchan p g).stages = s.stages := rfl
@[simp] theorem State.modPchan_stageAtts (s : State) (p : Nat) (g : PChan → PChan) : (s.modPchan p g).stageAtts = s.stageAtts := rfl
@[simp] theorem State.modPchan_stageGone (s : State) (p : Nat) (g : PChan → PChan) : (s.modPchan p g).stageGone = s.stageGone := rfl
@[simp] theorem State.modPchan_cores (s : State) (p : Nat) (g : PChan → PChan) : (s.modPchan p g).cores = s.cores := rfl
@[simp] theorem State.modPchan_pages (s : State) (p : Nat) (g : PChan → PChan) : (s.modPchan p g).pages = s.pages := rfl
@[simp] theorem State.modPchan_ciphers (s : State) (p : Nat) (g : PChan → PChan) : (s.modPchan p g).ciphers = s.ciphers := rfl
@[simp] theorem State.modPchan_inQ (s : State) (p : Nat) (g : PChan → PChan) : (s.modPchan p g).inQ = s.inQ := rfl
@[simp] theorem State.modPchan_fwdQ (s : State) (p : Nat) (g : PChan → PChan) : (s.modPchan p g).fwdQ = s.fwdQ := rfl
@[simp] theorem State.modPchan_outQ (s : State) (p : Nat) (g : PChan → PChan) : (s.modPchan p g).outQ = s.outQ := rfl
@[simp] theorem State.modPchan_nodes (s : State) (p : Nat) (g : PChan → PChan) : (s.modPchan p g).nodes = s.nodes := rfl
@[simp] theorem State.modPchan_ports (s : State) (p : Nat) (g : PChan → PChan) : (s.modPchan p g).ports = s.ports := rfl
@[simp] theorem State.modPchan_casc (s : State) (p : Nat) (g : PChan → PChan) : (s.modPchan p g).casc = s.casc := rfl
@[simp] theorem State.modPchan_mem (s : State) (p : Nat) (g : PChan → PChan) : (s.modPchan p g).mem = s.mem := rfl
@[simp] theorem State.modPchan_prot (s : State) (p : Nat) (g : PChan → PChan) : (s.modPchan p g).prot = s.prot := rfl
@[simp] theorem State.modPchan_upd (s : State) (p : Nat) (g : PChan → PChan) : (s.modPchan p g).upd = s.upd := rfl
@[simp] theorem State.modPchan_power (s : State) (p : Nat) (g : PChan → PChan) : (s.modPchan p g).power = s.power := rfl
@[simp] theorem State.modPchan_pins (s : State) (p : Nat) (g : PChan → PChan) : (s.modPchan p g).pins = s.pins := rfl
@[simp] theorem State.modPchan_mon (s : State) (p : Nat) (g : PChan → PChan) : (s.modPchan p g).mon = s.mon := rfl

/-! ## `State.modRail` -/

@[simp] theorem State.modRail_pending (s : State) (p : Nat) (g : Rail → Rail) : (s.modRail p g).pending = s.pending := rfl
@[simp] theorem State.modRail_fresh (s : State) (p : Nat) (g : Rail → Rail) : (s.modRail p g).fresh = s.fresh := rfl
@[simp] theorem State.modRail_rdata (s : State) (p : Nat) (g : Rail → Rail) : (s.modRail p g).rdata = s.rdata := rfl
@[simp] theorem State.modRail_chans (s : State) (p : Nat) (g : Rail → Rail) : (s.modRail p g).chans = s.chans := rfl
@[simp] theorem State.modRail_binds (s : State) (p : Nat) (g : Rail → Rail) : (s.modRail p g).binds = s.binds := rfl
@[simp] theorem State.modRail_bindLock (s : State) (p : Nat) (g : Rail → Rail) : (s.modRail p g).bindLock = s.bindLock := rfl
@[simp] theorem State.modRail_fns (s : State) (p : Nat) (g : Rail → Rail) : (s.modRail p g).fns = s.fns := rfl
@[simp] theorem State.modRail_ctl (s : State) (p : Nat) (g : Rail → Rail) : (s.modRail p g).ctl = s.ctl := rfl
@[simp] theorem State.modRail_time (s : State) (p : Nat) (g : Rail → Rail) : (s.modRail p g).time = s.time := rfl
@[simp] theorem State.modRail_trail (s : State) (p : Nat) (g : Rail → Rail) : (s.modRail p g).trail = s.trail := rfl
@[simp] theorem State.modRail_clusters (s : State) (p : Nat) (g : Rail → Rail) : (s.modRail p g).clusters = s.clusters := rfl
@[simp] theorem State.modRail_confs (s : State) (p : Nat) (g : Rail → Rail) : (s.modRail p g).confs = s.confs := rfl
@[simp] theorem State.modRail_legs (s : State) (p : Nat) (g : Rail → Rail) : (s.modRail p g).legs = s.legs := rfl
@[simp] theorem State.modRail_gens (s : State) (p : Nat) (g : Rail → Rail) : (s.modRail p g).gens = s.gens := rfl
@[simp] theorem State.modRail_dying (s : State) (p : Nat) (g : Rail → Rail) : (s.modRail p g).dying = s.dying := rfl
@[simp] theorem State.modRail_keyDying (s : State) (p : Nat) (g : Rail → Rail) : (s.modRail p g).keyDying = s.keyDying := rfl
@[simp] theorem State.modRail_hamperOrder (s : State) (p : Nat) (g : Rail → Rail) : (s.modRail p g).hamperOrder = s.hamperOrder := rfl
@[simp] theorem State.modRail_decJobs (s : State) (p : Nat) (g : Rail → Rail) : (s.modRail p g).decJobs = s.decJobs := rfl
@[simp] theorem State.modRail_encJobs (s : State) (p : Nat) (g : Rail → Rail) : (s.modRail p g).encJobs = s.encJobs := rfl
@[simp] theorem State.modRail_jobTracks (s : State) (p : Nat) (g : Rail → Rail) : (s.modRail p g).jobTracks = s.jobTracks := rfl
@[simp] theorem State.modRail_engines (s : State) (p : Nat) (g : Rail → Rail) : (s.modRail p g).engines = s.engines := rfl
@[simp] theorem State.modRail_canvases (s : State) (p : Nat) (g : Rail → Rail) : (s.modRail p g).canvases = s.canvases := rfl
@[simp] theorem State.modRail_hostCopy (s : State) (p : Nat) (g : Rail → Rail) : (s.modRail p g).hostCopy = s.hostCopy := rfl
@[simp] theorem State.modRail_stages (s : State) (p : Nat) (g : Rail → Rail) : (s.modRail p g).stages = s.stages := rfl
@[simp] theorem State.modRail_stageAtts (s : State) (p : Nat) (g : Rail → Rail) : (s.modRail p g).stageAtts = s.stageAtts := rfl
@[simp] theorem State.modRail_stageGone (s : State) (p : Nat) (g : Rail → Rail) : (s.modRail p g).stageGone = s.stageGone := rfl
@[simp] theorem State.modRail_cores (s : State) (p : Nat) (g : Rail → Rail) : (s.modRail p g).cores = s.cores := rfl
@[simp] theorem State.modRail_pages (s : State) (p : Nat) (g : Rail → Rail) : (s.modRail p g).pages = s.pages := rfl
@[simp] theorem State.modRail_ciphers (s : State) (p : Nat) (g : Rail → Rail) : (s.modRail p g).ciphers = s.ciphers := rfl
@[simp] theorem State.modRail_inQ (s : State) (p : Nat) (g : Rail → Rail) : (s.modRail p g).inQ = s.inQ := rfl
@[simp] theorem State.modRail_fwdQ (s : State) (p : Nat) (g : Rail → Rail) : (s.modRail p g).fwdQ = s.fwdQ := rfl
@[simp] theorem State.modRail_outQ (s : State) (p : Nat) (g : Rail → Rail) : (s.modRail p g).outQ = s.outQ := rfl
@[simp] theorem State.modRail_nodes (s : State) (p : Nat) (g : Rail → Rail) : (s.modRail p g).nodes = s.nodes := rfl
@[simp] theorem State.modRail_ports (s : State) (p : Nat) (g : Rail → Rail) : (s.modRail p g).ports = s.ports := rfl
@[simp] theorem State.modRail_casc (s : State) (p : Nat) (g : Rail → Rail) : (s.modRail p g).casc = s.casc := rfl
@[simp] theorem State.modRail_hbm (s : State) (p : Nat) (g : Rail → Rail) : (s.modRail p g).hbm = s.hbm := rfl
@[simp] theorem State.modRail_mem (s : State) (p : Nat) (g : Rail → Rail) : (s.modRail p g).mem = s.mem := rfl
@[simp] theorem State.modRail_prot (s : State) (p : Nat) (g : Rail → Rail) : (s.modRail p g).prot = s.prot := rfl
@[simp] theorem State.modRail_upd (s : State) (p : Nat) (g : Rail → Rail) : (s.modRail p g).upd = s.upd := rfl
@[simp] theorem State.modRail_pins (s : State) (p : Nat) (g : Rail → Rail) : (s.modRail p g).pins = s.pins := rfl
@[simp] theorem State.modRail_mon (s : State) (p : Nat) (g : Rail → Rail) : (s.modRail p g).mon = s.mon := rfl

/-! ## `State.modEngine` -/

@[simp] theorem State.modEngine_pending (s : State) (p : Nat) (g : Engine → Engine) : (s.modEngine p g).pending = s.pending := rfl
@[simp] theorem State.modEngine_fresh (s : State) (p : Nat) (g : Engine → Engine) : (s.modEngine p g).fresh = s.fresh := rfl
@[simp] theorem State.modEngine_rdata (s : State) (p : Nat) (g : Engine → Engine) : (s.modEngine p g).rdata = s.rdata := rfl
@[simp] theorem State.modEngine_chans (s : State) (p : Nat) (g : Engine → Engine) : (s.modEngine p g).chans = s.chans := rfl
@[simp] theorem State.modEngine_binds (s : State) (p : Nat) (g : Engine → Engine) : (s.modEngine p g).binds = s.binds := rfl
@[simp] theorem State.modEngine_bindLock (s : State) (p : Nat) (g : Engine → Engine) : (s.modEngine p g).bindLock = s.bindLock := rfl
@[simp] theorem State.modEngine_fns (s : State) (p : Nat) (g : Engine → Engine) : (s.modEngine p g).fns = s.fns := rfl
@[simp] theorem State.modEngine_ctl (s : State) (p : Nat) (g : Engine → Engine) : (s.modEngine p g).ctl = s.ctl := rfl
@[simp] theorem State.modEngine_time (s : State) (p : Nat) (g : Engine → Engine) : (s.modEngine p g).time = s.time := rfl
@[simp] theorem State.modEngine_trail (s : State) (p : Nat) (g : Engine → Engine) : (s.modEngine p g).trail = s.trail := rfl
@[simp] theorem State.modEngine_clusters (s : State) (p : Nat) (g : Engine → Engine) : (s.modEngine p g).clusters = s.clusters := rfl
@[simp] theorem State.modEngine_confs (s : State) (p : Nat) (g : Engine → Engine) : (s.modEngine p g).confs = s.confs := rfl
@[simp] theorem State.modEngine_legs (s : State) (p : Nat) (g : Engine → Engine) : (s.modEngine p g).legs = s.legs := rfl
@[simp] theorem State.modEngine_gens (s : State) (p : Nat) (g : Engine → Engine) : (s.modEngine p g).gens = s.gens := rfl
@[simp] theorem State.modEngine_dying (s : State) (p : Nat) (g : Engine → Engine) : (s.modEngine p g).dying = s.dying := rfl
@[simp] theorem State.modEngine_keyDying (s : State) (p : Nat) (g : Engine → Engine) : (s.modEngine p g).keyDying = s.keyDying := rfl
@[simp] theorem State.modEngine_hamperOrder (s : State) (p : Nat) (g : Engine → Engine) : (s.modEngine p g).hamperOrder = s.hamperOrder := rfl
@[simp] theorem State.modEngine_decJobs (s : State) (p : Nat) (g : Engine → Engine) : (s.modEngine p g).decJobs = s.decJobs := rfl
@[simp] theorem State.modEngine_encJobs (s : State) (p : Nat) (g : Engine → Engine) : (s.modEngine p g).encJobs = s.encJobs := rfl
@[simp] theorem State.modEngine_jobTracks (s : State) (p : Nat) (g : Engine → Engine) : (s.modEngine p g).jobTracks = s.jobTracks := rfl
@[simp] theorem State.modEngine_canvases (s : State) (p : Nat) (g : Engine → Engine) : (s.modEngine p g).canvases = s.canvases := rfl
@[simp] theorem State.modEngine_hostCopy (s : State) (p : Nat) (g : Engine → Engine) : (s.modEngine p g).hostCopy = s.hostCopy := rfl
@[simp] theorem State.modEngine_stages (s : State) (p : Nat) (g : Engine → Engine) : (s.modEngine p g).stages = s.stages := rfl
@[simp] theorem State.modEngine_stageAtts (s : State) (p : Nat) (g : Engine → Engine) : (s.modEngine p g).stageAtts = s.stageAtts := rfl
@[simp] theorem State.modEngine_stageGone (s : State) (p : Nat) (g : Engine → Engine) : (s.modEngine p g).stageGone = s.stageGone := rfl
@[simp] theorem State.modEngine_cores (s : State) (p : Nat) (g : Engine → Engine) : (s.modEngine p g).cores = s.cores := rfl
@[simp] theorem State.modEngine_pages (s : State) (p : Nat) (g : Engine → Engine) : (s.modEngine p g).pages = s.pages := rfl
@[simp] theorem State.modEngine_ciphers (s : State) (p : Nat) (g : Engine → Engine) : (s.modEngine p g).ciphers = s.ciphers := rfl
@[simp] theorem State.modEngine_inQ (s : State) (p : Nat) (g : Engine → Engine) : (s.modEngine p g).inQ = s.inQ := rfl
@[simp] theorem State.modEngine_fwdQ (s : State) (p : Nat) (g : Engine → Engine) : (s.modEngine p g).fwdQ = s.fwdQ := rfl
@[simp] theorem State.modEngine_outQ (s : State) (p : Nat) (g : Engine → Engine) : (s.modEngine p g).outQ = s.outQ := rfl
@[simp] theorem State.modEngine_nodes (s : State) (p : Nat) (g : Engine → Engine) : (s.modEngine p g).nodes = s.nodes := rfl
@[simp] theorem State.modEngine_ports (s : State) (p : Nat) (g : Engine → Engine) : (s.modEngine p g).ports = s.ports := rfl
@[simp] theorem State.modEngine_casc (s : State) (p : Nat) (g : Engine → Engine) : (s.modEngine p g).casc = s.casc := rfl
@[simp] theorem State.modEngine_hbm (s : State) (p : Nat) (g : Engine → Engine) : (s.modEngine p g).hbm = s.hbm := rfl
@[simp] theorem State.modEngine_mem (s : State) (p : Nat) (g : Engine → Engine) : (s.modEngine p g).mem = s.mem := rfl
@[simp] theorem State.modEngine_prot (s : State) (p : Nat) (g : Engine → Engine) : (s.modEngine p g).prot = s.prot := rfl
@[simp] theorem State.modEngine_upd (s : State) (p : Nat) (g : Engine → Engine) : (s.modEngine p g).upd = s.upd := rfl
@[simp] theorem State.modEngine_power (s : State) (p : Nat) (g : Engine → Engine) : (s.modEngine p g).power = s.power := rfl
@[simp] theorem State.modEngine_pins (s : State) (p : Nat) (g : Engine → Engine) : (s.modEngine p g).pins = s.pins := rfl
@[simp] theorem State.modEngine_mon (s : State) (p : Nat) (g : Engine → Engine) : (s.modEngine p g).mon = s.mon := rfl

/-! ## `State.modOp` -/

@[simp] theorem State.modOp_pending (s : State) (f h : Nat) (g : LongOp → LongOp) : (s.modOp f h g).pending = s.pending := rfl
@[simp] theorem State.modOp_fresh (s : State) (f h : Nat) (g : LongOp → LongOp) : (s.modOp f h g).fresh = s.fresh := rfl
@[simp] theorem State.modOp_rdata (s : State) (f h : Nat) (g : LongOp → LongOp) : (s.modOp f h g).rdata = s.rdata := rfl
@[simp] theorem State.modOp_chans (s : State) (f h : Nat) (g : LongOp → LongOp) : (s.modOp f h g).chans = s.chans := rfl
@[simp] theorem State.modOp_binds (s : State) (f h : Nat) (g : LongOp → LongOp) : (s.modOp f h g).binds = s.binds := rfl
@[simp] theorem State.modOp_bindLock (s : State) (f h : Nat) (g : LongOp → LongOp) : (s.modOp f h g).bindLock = s.bindLock := rfl
@[simp] theorem State.modOp_fns (s : State) (f h : Nat) (g : LongOp → LongOp) : (s.modOp f h g).fns = s.fns := rfl
@[simp] theorem State.modOp_time (s : State) (f h : Nat) (g : LongOp → LongOp) : (s.modOp f h g).time = s.time := rfl
@[simp] theorem State.modOp_trail (s : State) (f h : Nat) (g : LongOp → LongOp) : (s.modOp f h g).trail = s.trail := rfl
@[simp] theorem State.modOp_clusters (s : State) (f h : Nat) (g : LongOp → LongOp) : (s.modOp f h g).clusters = s.clusters := rfl
@[simp] theorem State.modOp_confs (s : State) (f h : Nat) (g : LongOp → LongOp) : (s.modOp f h g).confs = s.confs := rfl
@[simp] theorem State.modOp_legs (s : State) (f h : Nat) (g : LongOp → LongOp) : (s.modOp f h g).legs = s.legs := rfl
@[simp] theorem State.modOp_gens (s : State) (f h : Nat) (g : LongOp → LongOp) : (s.modOp f h g).gens = s.gens := rfl
@[simp] theorem State.modOp_dying (s : State) (f h : Nat) (g : LongOp → LongOp) : (s.modOp f h g).dying = s.dying := rfl
@[simp] theorem State.modOp_keyDying (s : State) (f h : Nat) (g : LongOp → LongOp) : (s.modOp f h g).keyDying = s.keyDying := rfl
@[simp] theorem State.modOp_hamperOrder (s : State) (f h : Nat) (g : LongOp → LongOp) : (s.modOp f h g).hamperOrder = s.hamperOrder := rfl
@[simp] theorem State.modOp_decJobs (s : State) (f h : Nat) (g : LongOp → LongOp) : (s.modOp f h g).decJobs = s.decJobs := rfl
@[simp] theorem State.modOp_encJobs (s : State) (f h : Nat) (g : LongOp → LongOp) : (s.modOp f h g).encJobs = s.encJobs := rfl
@[simp] theorem State.modOp_jobTracks (s : State) (f h : Nat) (g : LongOp → LongOp) : (s.modOp f h g).jobTracks = s.jobTracks := rfl
@[simp] theorem State.modOp_engines (s : State) (f h : Nat) (g : LongOp → LongOp) : (s.modOp f h g).engines = s.engines := rfl
@[simp] theorem State.modOp_canvases (s : State) (f h : Nat) (g : LongOp → LongOp) : (s.modOp f h g).canvases = s.canvases := rfl
@[simp] theorem State.modOp_hostCopy (s : State) (f h : Nat) (g : LongOp → LongOp) : (s.modOp f h g).hostCopy = s.hostCopy := rfl
@[simp] theorem State.modOp_stages (s : State) (f h : Nat) (g : LongOp → LongOp) : (s.modOp f h g).stages = s.stages := rfl
@[simp] theorem State.modOp_stageAtts (s : State) (f h : Nat) (g : LongOp → LongOp) : (s.modOp f h g).stageAtts = s.stageAtts := rfl
@[simp] theorem State.modOp_stageGone (s : State) (f h : Nat) (g : LongOp → LongOp) : (s.modOp f h g).stageGone = s.stageGone := rfl
@[simp] theorem State.modOp_cores (s : State) (f h : Nat) (g : LongOp → LongOp) : (s.modOp f h g).cores = s.cores := rfl
@[simp] theorem State.modOp_pages (s : State) (f h : Nat) (g : LongOp → LongOp) : (s.modOp f h g).pages = s.pages := rfl
@[simp] theorem State.modOp_ciphers (s : State) (f h : Nat) (g : LongOp → LongOp) : (s.modOp f h g).ciphers = s.ciphers := rfl
@[simp] theorem State.modOp_inQ (s : State) (f h : Nat) (g : LongOp → LongOp) : (s.modOp f h g).inQ = s.inQ := rfl
@[simp] theorem State.modOp_fwdQ (s : State) (f h : Nat) (g : LongOp → LongOp) : (s.modOp f h g).fwdQ = s.fwdQ := rfl
@[simp] theorem State.modOp_outQ (s : State) (f h : Nat) (g : LongOp → LongOp) : (s.modOp f h g).outQ = s.outQ := rfl
@[simp] theorem State.modOp_nodes (s : State) (f h : Nat) (g : LongOp → LongOp) : (s.modOp f h g).nodes = s.nodes := rfl
@[simp] theorem State.modOp_ports (s : State) (f h : Nat) (g : LongOp → LongOp) : (s.modOp f h g).ports = s.ports := rfl
@[simp] theorem State.modOp_casc (s : State) (f h : Nat) (g : LongOp → LongOp) : (s.modOp f h g).casc = s.casc := rfl
@[simp] theorem State.modOp_hbm (s : State) (f h : Nat) (g : LongOp → LongOp) : (s.modOp f h g).hbm = s.hbm := rfl
@[simp] theorem State.modOp_mem (s : State) (f h : Nat) (g : LongOp → LongOp) : (s.modOp f h g).mem = s.mem := rfl
@[simp] theorem State.modOp_prot (s : State) (f h : Nat) (g : LongOp → LongOp) : (s.modOp f h g).prot = s.prot := rfl
@[simp] theorem State.modOp_upd (s : State) (f h : Nat) (g : LongOp → LongOp) : (s.modOp f h g).upd = s.upd := rfl
@[simp] theorem State.modOp_power (s : State) (f h : Nat) (g : LongOp → LongOp) : (s.modOp f h g).power = s.power := rfl
@[simp] theorem State.modOp_pins (s : State) (f h : Nat) (g : LongOp → LongOp) : (s.modOp f h g).pins = s.pins := rfl
@[simp] theorem State.modOp_mon (s : State) (f h : Nat) (g : LongOp → LongOp) : (s.modOp f h g).mon = s.mon := rfl

/-! ## `State.markPosted` -/

@[simp] theorem State.markPosted_pending (s : State) (f h : Nat) : (s.markPosted f h).pending = s.pending := rfl
@[simp] theorem State.markPosted_fresh (s : State) (f h : Nat) : (s.markPosted f h).fresh = s.fresh := rfl
@[simp] theorem State.markPosted_rdata (s : State) (f h : Nat) : (s.markPosted f h).rdata = s.rdata := rfl
@[simp] theorem State.markPosted_chans (s : State) (f h : Nat) : (s.markPosted f h).chans = s.chans := rfl
@[simp] theorem State.markPosted_binds (s : State) (f h : Nat) : (s.markPosted f h).binds = s.binds := rfl
@[simp] theorem State.markPosted_bindLock (s : State) (f h : Nat) : (s.markPosted f h).bindLock = s.bindLock := rfl
@[simp] theorem State.markPosted_fns (s : State) (f h : Nat) : (s.markPosted f h).fns = s.fns := rfl
@[simp] theorem State.markPosted_time (s : State) (f h : Nat) : (s.markPosted f h).time = s.time := rfl
@[simp] theorem State.markPosted_trail (s : State) (f h : Nat) : (s.markPosted f h).trail = s.trail := rfl
@[simp] theorem State.markPosted_clusters (s : State) (f h : Nat) : (s.markPosted f h).clusters = s.clusters := rfl
@[simp] theorem State.markPosted_confs (s : State) (f h : Nat) : (s.markPosted f h).confs = s.confs := rfl
@[simp] theorem State.markPosted_legs (s : State) (f h : Nat) : (s.markPosted f h).legs = s.legs := rfl
@[simp] theorem State.markPosted_gens (s : State) (f h : Nat) : (s.markPosted f h).gens = s.gens := rfl
@[simp] theorem State.markPosted_dying (s : State) (f h : Nat) : (s.markPosted f h).dying = s.dying := rfl
@[simp] theorem State.markPosted_keyDying (s : State) (f h : Nat) : (s.markPosted f h).keyDying = s.keyDying := rfl
@[simp] theorem State.markPosted_hamperOrder (s : State) (f h : Nat) : (s.markPosted f h).hamperOrder = s.hamperOrder := rfl
@[simp] theorem State.markPosted_decJobs (s : State) (f h : Nat) : (s.markPosted f h).decJobs = s.decJobs := rfl
@[simp] theorem State.markPosted_encJobs (s : State) (f h : Nat) : (s.markPosted f h).encJobs = s.encJobs := rfl
@[simp] theorem State.markPosted_jobTracks (s : State) (f h : Nat) : (s.markPosted f h).jobTracks = s.jobTracks := rfl
@[simp] theorem State.markPosted_engines (s : State) (f h : Nat) : (s.markPosted f h).engines = s.engines := rfl
@[simp] theorem State.markPosted_canvases (s : State) (f h : Nat) : (s.markPosted f h).canvases = s.canvases := rfl
@[simp] theorem State.markPosted_hostCopy (s : State) (f h : Nat) : (s.markPosted f h).hostCopy = s.hostCopy := rfl
@[simp] theorem State.markPosted_stages (s : State) (f h : Nat) : (s.markPosted f h).stages = s.stages := rfl
@[simp] theorem State.markPosted_stageAtts (s : State) (f h : Nat) : (s.markPosted f h).stageAtts = s.stageAtts := rfl
@[simp] theorem State.markPosted_stageGone (s : State) (f h : Nat) : (s.markPosted f h).stageGone = s.stageGone := rfl
@[simp] theorem State.markPosted_cores (s : State) (f h : Nat) : (s.markPosted f h).cores = s.cores := rfl
@[simp] theorem State.markPosted_pages (s : State) (f h : Nat) : (s.markPosted f h).pages = s.pages := rfl
@[simp] theorem State.markPosted_ciphers (s : State) (f h : Nat) : (s.markPosted f h).ciphers = s.ciphers := rfl
@[simp] theorem State.markPosted_inQ (s : State) (f h : Nat) : (s.markPosted f h).inQ = s.inQ := rfl
@[simp] theorem State.markPosted_fwdQ (s : State) (f h : Nat) : (s.markPosted f h).fwdQ = s.fwdQ := rfl
@[simp] theorem State.markPosted_outQ (s : State) (f h : Nat) : (s.markPosted f h).outQ = s.outQ := rfl
@[simp] theorem State.markPosted_nodes (s : State) (f h : Nat) : (s.markPosted f h).nodes = s.nodes := rfl
@[simp] theorem State.markPosted_ports (s : State) (f h : Nat) : (s.markPosted f h).ports = s.ports := rfl
@[simp] theorem State.markPosted_casc (s : State) (f h : Nat) : (s.markPosted f h).casc = s.casc := rfl
@[simp] theorem State.markPosted_hbm (s : State) (f h : Nat) : (s.markPosted f h).hbm = s.hbm := rfl
@[simp] theorem State.markPosted_mem (s : State) (f h : Nat) : (s.markPosted f h).mem = s.mem := rfl
@[simp] theorem State.markPosted_prot (s : State) (f h : Nat) : (s.markPosted f h).prot = s.prot := rfl
@[simp] theorem State.markPosted_upd (s : State) (f h : Nat) : (s.markPosted f h).upd = s.upd := rfl
@[simp] theorem State.markPosted_power (s : State) (f h : Nat) : (s.markPosted f h).power = s.power := rfl
@[simp] theorem State.markPosted_pins (s : State) (f h : Nat) : (s.markPosted f h).pins = s.pins := rfl
@[simp] theorem State.markPosted_mon (s : State) (f h : Nat) : (s.markPosted f h).mon = s.mon := rfl

/-! ## `State.occur` -/

@[simp] theorem State.occur_pending (s : State) (sel : Nat) (o : Occ) : (s.occur sel o).pending = s.pending := rfl
@[simp] theorem State.occur_fresh (s : State) (sel : Nat) (o : Occ) : (s.occur sel o).fresh = s.fresh := rfl
@[simp] theorem State.occur_rdata (s : State) (sel : Nat) (o : Occ) : (s.occur sel o).rdata = s.rdata := rfl
@[simp] theorem State.occur_chans (s : State) (sel : Nat) (o : Occ) : (s.occur sel o).chans = s.chans := rfl
@[simp] theorem State.occur_binds (s : State) (sel : Nat) (o : Occ) : (s.occur sel o).binds = s.binds := rfl
@[simp] theorem State.occur_bindLock (s : State) (sel : Nat) (o : Occ) : (s.occur sel o).bindLock = s.bindLock := rfl
@[simp] theorem State.occur_fns (s : State) (sel : Nat) (o : Occ) : (s.occur sel o).fns = s.fns := rfl
@[simp] theorem State.occur_ctl (s : State) (sel : Nat) (o : Occ) : (s.occur sel o).ctl = s.ctl := rfl
@[simp] theorem State.occur_time (s : State) (sel : Nat) (o : Occ) : (s.occur sel o).time = s.time := rfl
@[simp] theorem State.occur_trail (s : State) (sel : Nat) (o : Occ) : (s.occur sel o).trail = s.trail := rfl
@[simp] theorem State.occur_clusters (s : State) (sel : Nat) (o : Occ) : (s.occur sel o).clusters = s.clusters := rfl
@[simp] theorem State.occur_confs (s : State) (sel : Nat) (o : Occ) : (s.occur sel o).confs = s.confs := rfl
@[simp] theorem State.occur_legs (s : State) (sel : Nat) (o : Occ) : (s.occur sel o).legs = s.legs := rfl
@[simp] theorem State.occur_gens (s : State) (sel : Nat) (o : Occ) : (s.occur sel o).gens = s.gens := rfl
@[simp] theorem State.occur_dying (s : State) (sel : Nat) (o : Occ) : (s.occur sel o).dying = s.dying := rfl
@[simp] theorem State.occur_keyDying (s : State) (sel : Nat) (o : Occ) : (s.occur sel o).keyDying = s.keyDying := rfl
@[simp] theorem State.occur_hamperOrder (s : State) (sel : Nat) (o : Occ) : (s.occur sel o).hamperOrder = s.hamperOrder := rfl
@[simp] theorem State.occur_decJobs (s : State) (sel : Nat) (o : Occ) : (s.occur sel o).decJobs = s.decJobs := rfl
@[simp] theorem State.occur_encJobs (s : State) (sel : Nat) (o : Occ) : (s.occur sel o).encJobs = s.encJobs := rfl
@[simp] theorem State.occur_jobTracks (s : State) (sel : Nat) (o : Occ) : (s.occur sel o).jobTracks = s.jobTracks := rfl
@[simp] theorem State.occur_engines (s : State) (sel : Nat) (o : Occ) : (s.occur sel o).engines = s.engines := rfl
@[simp] theorem State.occur_canvases (s : State) (sel : Nat) (o : Occ) : (s.occur sel o).canvases = s.canvases := rfl
@[simp] theorem State.occur_hostCopy (s : State) (sel : Nat) (o : Occ) : (s.occur sel o).hostCopy = s.hostCopy := rfl
@[simp] theorem State.occur_stages (s : State) (sel : Nat) (o : Occ) : (s.occur sel o).stages = s.stages := rfl
@[simp] theorem State.occur_stageAtts (s : State) (sel : Nat) (o : Occ) : (s.occur sel o).stageAtts = s.stageAtts := rfl
@[simp] theorem State.occur_stageGone (s : State) (sel : Nat) (o : Occ) : (s.occur sel o).stageGone = s.stageGone := rfl
@[simp] theorem State.occur_cores (s : State) (sel : Nat) (o : Occ) : (s.occur sel o).cores = s.cores := rfl
@[simp] theorem State.occur_pages (s : State) (sel : Nat) (o : Occ) : (s.occur sel o).pages = s.pages := rfl
@[simp] theorem State.occur_ciphers (s : State) (sel : Nat) (o : Occ) : (s.occur sel o).ciphers = s.ciphers := rfl
@[simp] theorem State.occur_inQ (s : State) (sel : Nat) (o : Occ) : (s.occur sel o).inQ = s.inQ := rfl
@[simp] theorem State.occur_fwdQ (s : State) (sel : Nat) (o : Occ) : (s.occur sel o).fwdQ = s.fwdQ := rfl
@[simp] theorem State.occur_outQ (s : State) (sel : Nat) (o : Occ) : (s.occur sel o).outQ = s.outQ := rfl
@[simp] theorem State.occur_nodes (s : State) (sel : Nat) (o : Occ) : (s.occur sel o).nodes = s.nodes := rfl
@[simp] theorem State.occur_ports (s : State) (sel : Nat) (o : Occ) : (s.occur sel o).ports = s.ports := rfl
@[simp] theorem State.occur_casc (s : State) (sel : Nat) (o : Occ) : (s.occur sel o).casc = s.casc := rfl
@[simp] theorem State.occur_hbm (s : State) (sel : Nat) (o : Occ) : (s.occur sel o).hbm = s.hbm := rfl
@[simp] theorem State.occur_mem (s : State) (sel : Nat) (o : Occ) : (s.occur sel o).mem = s.mem := rfl
@[simp] theorem State.occur_prot (s : State) (sel : Nat) (o : Occ) : (s.occur sel o).prot = s.prot := rfl
@[simp] theorem State.occur_upd (s : State) (sel : Nat) (o : Occ) : (s.occur sel o).upd = s.upd := rfl
@[simp] theorem State.occur_power (s : State) (sel : Nat) (o : Occ) : (s.occur sel o).power = s.power := rfl
@[simp] theorem State.occur_pins (s : State) (sel : Nat) (o : Occ) : (s.occur sel o).pins = s.pins := rfl

/-! ## `State.occurN` -/

@[simp] theorem State.occurN_pending (s : State) (sel : Nat) (o : Occ) (n : Nat) : (s.occurN sel o n).pending = s.pending := rfl
@[simp] theorem State.occurN_fresh (s : State) (sel : Nat) (o : Occ) (n : Nat) : (s.occurN sel o n).fresh = s.fresh := rfl
@[simp] theorem State.occurN_rdata (s : State) (sel : Nat) (o : Occ) (n : Nat) : (s.occurN sel o n).rdata = s.rdata := rfl
@[simp] theorem State.occurN_chans (s : State) (sel : Nat) (o : Occ) (n : Nat) : (s.occurN sel o n).chans = s.chans := rfl
@[simp] theorem State.occurN_binds (s : State) (sel : Nat) (o : Occ) (n : Nat) : (s.occurN sel o n).binds = s.binds := rfl
@[simp] theorem State.occurN_bindLock (s : State) (sel : Nat) (o : Occ) (n : Nat) : (s.occurN sel o n).bindLock = s.bindLock := rfl
@[simp] theorem State.occurN_fns (s : State) (sel : Nat) (o : Occ) (n : Nat) : (s.occurN sel o n).fns = s.fns := rfl
@[simp] theorem State.occurN_ctl (s : State) (sel : Nat) (o : Occ) (n : Nat) : (s.occurN sel o n).ctl = s.ctl := rfl
@[simp] theorem State.occurN_time (s : State) (sel : Nat) (o : Occ) (n : Nat) : (s.occurN sel o n).time = s.time := rfl
@[simp] theorem State.occurN_trail (s : State) (sel : Nat) (o : Occ) (n : Nat) : (s.occurN sel o n).trail = s.trail := rfl
@[simp] theorem State.occurN_clusters (s : State) (sel : Nat) (o : Occ) (n : Nat) : (s.occurN sel o n).clusters = s.clusters := rfl
@[simp] theorem State.occurN_confs (s : State) (sel : Nat) (o : Occ) (n : Nat) : (s.occurN sel o n).confs = s.confs := rfl
@[simp] theorem State.occurN_legs (s : State) (sel : Nat) (o : Occ) (n : Nat) : (s.occurN sel o n).legs = s.legs := rfl
@[simp] theorem State.occurN_gens (s : State) (sel : Nat) (o : Occ) (n : Nat) : (s.occurN sel o n).gens = s.gens := rfl
@[simp] theorem State.occurN_dying (s : State) (sel : Nat) (o : Occ) (n : Nat) : (s.occurN sel o n).dying = s.dying := rfl
@[simp] theorem State.occurN_keyDying (s : State) (sel : Nat) (o : Occ) (n : Nat) : (s.occurN sel o n).keyDying = s.keyDying := rfl
@[simp] theorem State.occurN_hamperOrder (s : State) (sel : Nat) (o : Occ) (n : Nat) : (s.occurN sel o n).hamperOrder = s.hamperOrder := rfl
@[simp] theorem State.occurN_decJobs (s : State) (sel : Nat) (o : Occ) (n : Nat) : (s.occurN sel o n).decJobs = s.decJobs := rfl
@[simp] theorem State.occurN_encJobs (s : State) (sel : Nat) (o : Occ) (n : Nat) : (s.occurN sel o n).encJobs = s.encJobs := rfl
@[simp] theorem State.occurN_jobTracks (s : State) (sel : Nat) (o : Occ) (n : Nat) : (s.occurN sel o n).jobTracks = s.jobTracks := rfl
@[simp] theorem State.occurN_engines (s : State) (sel : Nat) (o : Occ) (n : Nat) : (s.occurN sel o n).engines = s.engines := rfl
@[simp] theorem State.occurN_canvases (s : State) (sel : Nat) (o : Occ) (n : Nat) : (s.occurN sel o n).canvases = s.canvases := rfl
@[simp] theorem State.occurN_hostCopy (s : State) (sel : Nat) (o : Occ) (n : Nat) : (s.occurN sel o n).hostCopy = s.hostCopy := rfl
@[simp] theorem State.occurN_stages (s : State) (sel : Nat) (o : Occ) (n : Nat) : (s.occurN sel o n).stages = s.stages := rfl
@[simp] theorem State.occurN_stageAtts (s : State) (sel : Nat) (o : Occ) (n : Nat) : (s.occurN sel o n).stageAtts = s.stageAtts := rfl
@[simp] theorem State.occurN_stageGone (s : State) (sel : Nat) (o : Occ) (n : Nat) : (s.occurN sel o n).stageGone = s.stageGone := rfl
@[simp] theorem State.occurN_cores (s : State) (sel : Nat) (o : Occ) (n : Nat) : (s.occurN sel o n).cores = s.cores := rfl
@[simp] theorem State.occurN_pages (s : State) (sel : Nat) (o : Occ) (n : Nat) : (s.occurN sel o n).pages = s.pages := rfl
@[simp] theorem State.occurN_ciphers (s : State) (sel : Nat) (o : Occ) (n : Nat) : (s.occurN sel o n).ciphers = s.ciphers := rfl
@[simp] theorem State.occurN_inQ (s : State) (sel : Nat) (o : Occ) (n : Nat) : (s.occurN sel o n).inQ = s.inQ := rfl
@[simp] theorem State.occurN_fwdQ (s : State) (sel : Nat) (o : Occ) (n : Nat) : (s.occurN sel o n).fwdQ = s.fwdQ := rfl
@[simp] theorem State.occurN_outQ (s : State) (sel : Nat) (o : Occ) (n : Nat) : (s.occurN sel o n).outQ = s.outQ := rfl
@[simp] theorem State.occurN_nodes (s : State) (sel : Nat) (o : Occ) (n : Nat) : (s.occurN sel o n).nodes = s.nodes := rfl
@[simp] theorem State.occurN_ports (s : State) (sel : Nat) (o : Occ) (n : Nat) : (s.occurN sel o n).ports = s.ports := rfl
@[simp] theorem State.occurN_casc (s : State) (sel : Nat) (o : Occ) (n : Nat) : (s.occurN sel o n).casc = s.casc := rfl
@[simp] theorem State.occurN_hbm (s : State) (sel : Nat) (o : Occ) (n : Nat) : (s.occurN sel o n).hbm = s.hbm := rfl
@[simp] theorem State.occurN_mem (s : State) (sel : Nat) (o : Occ) (n : Nat) : (s.occurN sel o n).mem = s.mem := rfl
@[simp] theorem State.occurN_prot (s : State) (sel : Nat) (o : Occ) (n : Nat) : (s.occurN sel o n).prot = s.prot := rfl
@[simp] theorem State.occurN_upd (s : State) (sel : Nat) (o : Occ) (n : Nat) : (s.occurN sel o n).upd = s.upd := rfl
@[simp] theorem State.occurN_power (s : State) (sel : Nat) (o : Occ) (n : Nat) : (s.occurN sel o n).power = s.power := rfl
@[simp] theorem State.occurN_pins (s : State) (sel : Nat) (o : Occ) (n : Nat) : (s.occurN sel o n).pins = s.pins := rfl

end Sys2Proof.Machine
end

