-- ==== Sys2Proof/Laws/Table.lean ====
section
/-! SUPPORT. Laws of tables and of memory: a read after a write, and that memory keeps its canonical form. -/

namespace Sys2Proof.Machine

/-! ## Tables -/

theorem tget_tset {α : Type} (t : List (Nat × α)) (k j : Nat) (v : α) :
    tget (tset t k v) j = if j = k then some v else tget t j := by
  induction t with
  | nil => simp only [tset, tget, eq_comm]
  | cons p t ih =>
    obtain ⟨n, w⟩ := p
    by_cases hn : n = k
    · subst hn; by_cases hj : j = n <;> simp_all [tset, tget, eq_comm]
    · by_cases hk : k < n
      · by_cases hj : j = k <;> simp_all [tset, tget, eq_comm]
      · by_cases hj : j = k
        · subst hj; simp [tset, hn, hk, tget, ih]
        · simp [tset, hn, hk, tget, ih, hj]

@[simp] theorem tget_tset_same {α : Type} (t : List (Nat × α)) (k : Nat) (v : α) : tget (tset t k v) k = some v := by
  simp [tget_tset]

theorem tget_tset_ne {α : Type} (t : List (Nat × α)) {k j : Nat} (v : α) (h : j ≠ k) :
    tget (tset t k v) j = tget t j := by simp [tget_tset, h]

@[simp] theorem tgetD_tset_same {α : Type} (t : List (Nat × α)) (k : Nat) (v d : α) : tgetD (tset t k v) k d = v := by
  simp [tgetD]

theorem tgetD_tset_ne {α : Type} (t : List (Nat × α)) {k j : Nat} (v d : α) (h : j ≠ k) :
    tgetD (tset t k v) j d = tgetD t j d := by simp [tgetD, tget_tset_ne t v h]

/-- Setting a key twice is setting it once, to the later value. -/
@[simp] theorem tset_tset {α : Type} (t : List (Nat × α)) (k : Nat) (v w : α) : tset (tset t k v) k w = tset t k w := by
  induction t with
  | nil => simp [tset]
  | cons p t ih =>
    obtain ⟨n, x⟩ := p
    by_cases hn : n = k
    · simp [tset, hn]
    · by_cases hk : k < n
      · simp [tset, hn, hk]
      · simp [tset, hn, hk, ih]

theorem tget_tdel {α : Type} (t : List (Nat × α)) (k j : Nat) :
    tget (tdel t k) j = if j = k then none else tget t j := by
  induction t with
  | nil => simp [tdel, tget]
  | cons p t ih =>
    obtain ⟨n, w⟩ := p
    by_cases hn : n = k
    · subst hn; by_cases hj : j = n
      · subst hj; simp_all [tdel]
      · simp_all [tdel, tget, eq_comm]
    · by_cases hj : j = k
      · subst hj; simp_all [tdel, tget]
      · simp_all [tdel, tget]

theorem tgetD_tdel {α : Type} (t : List (Nat × α)) (k j : Nat) (d : α) :
    tgetD (tdel t k) j d = if j = k then d else tgetD t j d := by
  simp only [tgetD, tget_tdel]; split <;> rfl

theorem tget_tmap {α : Type} (f : α → α) (t : List (Nat × α)) (k : Nat) : tget (tmap f t) k = (tget t k).map f := by
  induction t with
  | nil => rfl
  | cons p t ih =>
    obtain ⟨n, w⟩ := p
    by_cases h : n = k
    · simp [tmap, tget, h]
    · simp only [tmap, List.map_cons, tget, if_neg h]; exact ih

theorem tget_tupd {α : Type} (t : List (Nat × α)) (k j : Nat) (f : α → α) :
    tget (tupd t k f) j = if j = k then (tget t k).map f else tget t j := by
  unfold tupd
  cases h : tget t k with
  | none => by_cases hj : j = k <;> simp [hj, h]
  | some v => by_cases hj : j = k <;> simp [tget_tset, hj]

theorem tgetD_tupd_ne {α : Type} (t : List (Nat × α)) {k j : Nat} (f : α → α) (d : α) (h : j ≠ k) :
    tgetD (tupd t k f) j d = tgetD t j d := by simp [tgetD, tget_tupd, h]

/-! ## Memory -/

theorem memWfFrom_mono {lo lo' : Nat} (h : lo' ≤ lo) : ∀ {m : List Host.Cell}, memWfFrom lo m → memWfFrom lo' m
  | [], _ => rfl
  | (a, b) :: t, hm => by simp only [memWfFrom, Bool.and_eq_true, decide_eq_true_eq] at hm ⊢; exact ⟨⟨by omega, hm.1.2⟩, hm.2⟩

theorem memWfFrom_tdel (k : Nat) : ∀ {lo : Nat} {m : List Host.Cell}, memWfFrom lo m → memWfFrom lo (tdel m k)
  | _, [], _ => rfl
  | lo, (a, b) :: t, hm => by
    simp only [memWfFrom, Bool.and_eq_true, decide_eq_true_eq] at hm
    by_cases h : a = k
    · simp only [tdel, h, if_true]; exact memWfFrom_mono (by omega) (memWfFrom_tdel k hm.2)
    · simp only [tdel, h, if_false, memWfFrom, Bool.and_eq_true, decide_eq_true_eq]
      exact ⟨hm.1, memWfFrom_tdel k hm.2⟩

theorem memWfFrom_tset {b : BitVec 8} (hb : b ≠ memDefault) (k : Nat) :
    ∀ {lo : Nat} {m : List Host.Cell}, lo ≤ k → memWfFrom lo m → memWfFrom lo (tset m k b)
  | _, [], hk, _ => by simp [tset, memWfFrom, hk, hb]
  | lo, (a, c) :: t, hk, hm => by
    simp only [memWfFrom, Bool.and_eq_true, decide_eq_true_eq] at hm
    by_cases h : a = k
    · subst h; simp only [tset, if_true, memWfFrom, Bool.and_eq_true, decide_eq_true_eq]; exact ⟨⟨hk, hb⟩, hm.2⟩
    · by_cases h2 : k < a
      · simp only [tset, h, if_false, h2, if_true, memWfFrom, Bool.and_eq_true, decide_eq_true_eq]
        exact ⟨⟨hk, hb⟩, ⟨by omega, hm.1.2⟩, hm.2⟩
      · simp only [tset, h, if_false, h2, memWfFrom, Bool.and_eq_true, decide_eq_true_eq]
        exact ⟨hm.1, memWfFrom_tset hb k (by omega) hm.2⟩

/-- A write of one byte keeps the canonical form. -/
theorem memWrite_wf {m : List Host.Cell} (h : Memory.wf m) (a : Nat) (b : BitVec 8) : Memory.wf (memWrite m a b) := by
  unfold memWrite
  split
  · exact memWfFrom_tdel a h
  · next hb => exact memWfFrom_tset hb a (Nat.zero_le _) h

/-- A write of bytes keeps the canonical form. -/
theorem memWriteList_wf : ∀ (bs : List (BitVec 8)) {m : List Host.Cell} (a : Nat), Memory.wf m → Memory.wf (memWriteList m a bs)
  | [], _, _, h => h
  | b :: bs, _, a, h => memWriteList_wf bs (a + 1) (memWrite_wf h a b)

/-- A byte reads as it was last written, and every other byte as before. -/
theorem memRead_memWrite (m : List Host.Cell) (a j : Nat) (b : BitVec 8) :
    memRead (memWrite m a b) j = if j = a then b else memRead m j := by
  unfold memRead memWrite
  split
  · next h => subst h; rw [tget_tdel]; split <;> simp
  · rw [tget_tset]; split <;> simp

end Sys2Proof.Machine
end

