-- ==== Sys2Proof/Laws/Access.lean ====
section
/-! SUPPORT. A read by number after a named update: the unit updated reads as changed, every other unit as before. -/

namespace Sys2Proof.Machine

@[simp] theorem State.modChan_chan_same (s : State) (k : Nat) (g : Chan → Chan) : (s.modChan k g).chan k = g (s.chan k) := by
  simp [State.modChan, State.chan]
theorem State.modChan_chan_ne (s : State) {k j : Nat} (g : Chan → Chan) (h : j ≠ k) : (s.modChan k g).chan j = s.chan j := by
  simp [State.modChan, State.chan, tgetD_tset_ne _ _ _ h]
@[simp] theorem State.modFn_fn_same (s : State) (k : Nat) (g : Fn → Fn) : (s.modFn k g).fn k = g (s.fn k) := by
  simp [State.modFn, State.fn]
theorem State.modFn_fn_ne (s : State) {k j : Nat} (g : Fn → Fn) (h : j ≠ k) : (s.modFn k g).fn j = s.fn j := by
  simp [State.modFn, State.fn, tgetD_tset_ne _ _ _ h]
@[simp] theorem State.modPort_port_same (s : State) (k : Nat) (g : Port → Port) : (s.modPort k g).port k = g (s.port k) := by
  simp [State.modPort, State.port]
theorem State.modPort_port_ne (s : State) {k j : Nat} (g : Port → Port) (h : j ≠ k) : (s.modPort k g).port j = s.port j := by
  simp [State.modPort, State.port, tgetD_tset_ne _ _ _ h]
@[simp] theorem State.modGroup_group_same (s : State) (k : Nat) (g : LinkGroup → LinkGroup) : (s.modGroup k g).group k = g (s.group k) := by
  simp [State.modGroup, State.group]
theorem State.modGroup_group_ne (s : State) {k j : Nat} (g : LinkGroup → LinkGroup) (h : j ≠ k) : (s.modGroup k g).group j = s.group j := by
  simp [State.modGroup, State.group, tgetD_tset_ne _ _ _ h]
@[simp] theorem State.modCluster_cluster_same (s : State) (k : Nat) (g : Cluster → Cluster) : (s.modCluster k g).cluster k = g (s.cluster k) := by
  simp [State.modCluster, State.cluster]
theorem State.modCluster_cluster_ne (s : State) {k j : Nat} (g : Cluster → Cluster) (h : j ≠ k) : (s.modCluster k g).cluster j = s.cluster j := by
  simp [State.modCluster, State.cluster, tgetD_tset_ne _ _ _ h]
@[simp] theorem State.modCore_core_same (s : State) (k : Nat) (g : Core → Core) : (s.modCore k g).core k = g (s.core k) := by
  simp [State.modCore, State.core]
theorem State.modCore_core_ne (s : State) {k j : Nat} (g : Core → Core) (h : j ≠ k) : (s.modCore k g).core j = s.core j := by
  simp [State.modCore, State.core, tgetD_tset_ne _ _ _ h]
@[simp] theorem State.modRail_rail_same (s : State) (k : Nat) (g : Rail → Rail) : (s.modRail k g).rail k = g (s.rail k) := by
  simp [State.modRail, State.rail]
theorem State.modRail_rail_ne (s : State) {k j : Nat} (g : Rail → Rail) (h : j ≠ k) : (s.modRail k g).rail j = s.rail j := by
  simp [State.modRail, State.rail, tgetD_tset_ne _ _ _ h]
@[simp] theorem State.modEngine_engine_same (s : State) (k : Nat) (g : Engine → Engine) : (s.modEngine k g).engine k = g (s.engine k) := by
  simp [State.modEngine, State.engine]
theorem State.modEngine_engine_ne (s : State) {k j : Nat} (g : Engine → Engine) (h : j ≠ k) : (s.modEngine k g).engine j = s.engine j := by
  simp [State.modEngine, State.engine, tgetD_tset_ne _ _ _ h]
@[simp] theorem State.modPchan_pchan_same (s : State) (k : Nat) (g : PChan → PChan) : (s.modPchan k g).pchan k = g (s.pchan k) := by
  simp [State.modPchan, State.pchan]
theorem State.modPchan_pchan_ne (s : State) {k j : Nat} (g : PChan → PChan) (h : j ≠ k) : (s.modPchan k g).pchan j = s.pchan j := by
  simp [State.modPchan, State.pchan, tgetD_tset_ne _ _ _ h]
@[simp] theorem State.setLeg_leg_same (s : State) (n : Nat) (l : Leg) : (s.setLeg n l).leg n = some l := by
  simp [State.setLeg, State.leg]
theorem State.setLeg_leg_ne (s : State) {n j : Nat} (l : Leg) (h : j ≠ n) : (s.setLeg n l).leg j = s.leg j := by
  simp [State.setLeg, State.leg, tget_tset_ne _ _ h]
/-- A change of a leg in use is putting the changed leg there. -/
theorem State.modLeg_eq {s : State} {n : Nat} {l : Leg} (h : s.leg n = some l) (g : Leg → Leg) :
    s.modLeg n g = s.setLeg n (g l) := by
  simp only [State.leg] at h
  simp [State.modLeg, tupd, h, State.setLeg]
/-- A change of a leg that is not in use changes nothing. -/
theorem State.modLeg_none {s : State} {n : Nat} (h : s.leg n = none) (g : Leg → Leg) : s.modLeg n g = s := by
  simp only [State.leg] at h
  simp [State.modLeg, tupd, h]
theorem State.modConf_eq {s : State} {n : Nat} {k : Conf} (h : s.conf n = some k) (g : Conf → Conf) :
    s.modConf n g = { s with confs := tset s.confs n (g k) } := by
  simp only [State.conf] at h
  simp [State.modConf, tupd, h]

/-! ## Answering, and the command at the head of a channel's queue -/

@[simp] theorem answer_true (t : State) : answer true t = .next t := rfl
@[simp] theorem answer_false (t : State) : answer false t = .fault .noSuchUnit := rfl

/-! ## Reads that an update of another part leaves -/

@[simp] theorem State.setQueue_leg (s : State) (c : Nat) (q : List Cmd) (j : Nat) : (s.setQueue c q).leg j = s.leg j := rfl
@[simp] theorem State.setQueue_conf (s : State) (c : Nat) (q : List Cmd) (j : Nat) : (s.setQueue c q).conf j = s.conf j := rfl
@[simp] theorem State.setQueue_port (s : State) (c : Nat) (q : List Cmd) (j : Nat) : (s.setQueue c q).port j = s.port j := rfl
@[simp] theorem State.setQueue_fn (s : State) (c : Nat) (q : List Cmd) (j : Nat) : (s.setQueue c q).fn j = s.fn j := rfl
@[simp] theorem State.setQueue_chan (s : State) (c : Nat) (q : List Cmd) (j : Nat) : (s.setQueue c q).chan j = s.chan j := rfl
@[simp] theorem State.setQueue_bind (s : State) (c : Nat) (q : List Cmd) (j : Nat) : (s.setQueue c q).bind j = s.bind j := rfl
@[simp] theorem State.setQueue_group (s : State) (c : Nat) (q : List Cmd) (j : Nat) : (s.setQueue c q).group j = s.group j := rfl
@[simp] theorem State.setQueue_cluster (s : State) (c : Nat) (q : List Cmd) (j : Nat) : (s.setQueue c q).cluster j = s.cluster j := rfl
@[simp] theorem State.setQueue_base (s : State) (c : Nat) (q : List Cmd) (j : Nat) : (s.setQueue c q).base j = s.base j := rfl
@[simp] theorem State.setQueue_core (s : State) (c : Nat) (q : List Cmd) (j : Nat) : (s.setQueue c q).core j = s.core j := rfl
@[simp] theorem State.setQueue_rail (s : State) (c : Nat) (q : List Cmd) (j : Nat) : (s.setQueue c q).rail j = s.rail j := rfl
@[simp] theorem State.setQueue_engine (s : State) (c : Nat) (q : List Cmd) (j : Nat) : (s.setQueue c q).engine j = s.engine j := rfl
@[simp] theorem State.setQueue_pchan (s : State) (c : Nat) (q : List Cmd) (j : Nat) : (s.setQueue c q).pchan j = s.pchan j := rfl
@[simp] theorem State.setQueue_tenantOf (s : State) (c : Nat) (q : List Cmd) (j : Nat) : (s.setQueue c q).tenantOf j = s.tenantOf j := rfl
@[simp] theorem State.modFn_leg (s : State) (f : Nat) (g : Fn → Fn) (j : Nat) : (s.modFn f g).leg j = s.leg j := rfl
@[simp] theorem State.modFn_conf (s : State) (f : Nat) (g : Fn → Fn) (j : Nat) : (s.modFn f g).conf j = s.conf j := rfl
@[simp] theorem State.modFn_port (s : State) (f : Nat) (g : Fn → Fn) (j : Nat) : (s.modFn f g).port j = s.port j := rfl
@[simp] theorem State.modFn_chan (s : State) (f : Nat) (g : Fn → Fn) (j : Nat) : (s.modFn f g).chan j = s.chan j := rfl
@[simp] theorem State.modFn_bind (s : State) (f : Nat) (g : Fn → Fn) (j : Nat) : (s.modFn f g).bind j = s.bind j := rfl
@[simp] theorem State.modFn_group (s : State) (f : Nat) (g : Fn → Fn) (j : Nat) : (s.modFn f g).group j = s.group j := rfl
@[simp] theorem State.modFn_cluster (s : State) (f : Nat) (g : Fn → Fn) (j : Nat) : (s.modFn f g).cluster j = s.cluster j := rfl
@[simp] theorem State.modFn_base (s : State) (f : Nat) (g : Fn → Fn) (j : Nat) : (s.modFn f g).base j = s.base j := rfl
@[simp] theorem State.modFn_core (s : State) (f : Nat) (g : Fn → Fn) (j : Nat) : (s.modFn f g).core j = s.core j := rfl
@[simp] theorem State.modFn_rail (s : State) (f : Nat) (g : Fn → Fn) (j : Nat) : (s.modFn f g).rail j = s.rail j := rfl
@[simp] theorem State.modFn_engine (s : State) (f : Nat) (g : Fn → Fn) (j : Nat) : (s.modFn f g).engine j = s.engine j := rfl
@[simp] theorem State.modFn_pchan (s : State) (f : Nat) (g : Fn → Fn) (j : Nat) : (s.modFn f g).pchan j = s.pchan j := rfl
@[simp] theorem State.modFn_tenantOf (s : State) (f : Nat) (g : Fn → Fn) (j : Nat) : (s.modFn f g).tenantOf j = s.tenantOf j := rfl
@[simp] theorem State.modFn_queue (s : State) (f : Nat) (g : Fn → Fn) (j : Nat) : (s.modFn f g).queue j = s.queue j := rfl
@[simp] theorem State.modChan_leg (s : State) (c : Nat) (g : Chan → Chan) (j : Nat) : (s.modChan c g).leg j = s.leg j := rfl
@[simp] theorem State.modChan_conf (s : State) (c : Nat) (g : Chan → Chan) (j : Nat) : (s.modChan c g).conf j = s.conf j := rfl
@[simp] theorem State.modChan_port (s : State) (c : Nat) (g : Chan → Chan) (j : Nat) : (s.modChan c g).port j = s.port j := rfl
@[simp] theorem State.modChan_fn (s : State) (c : Nat) (g : Chan → Chan) (j : Nat) : (s.modChan c g).fn j = s.fn j := rfl
@[simp] theorem State.modChan_bind (s : State) (c : Nat) (g : Chan → Chan) (j : Nat) : (s.modChan c g).bind j = s.bind j := rfl
@[simp] theorem State.modChan_group (s : State) (c : Nat) (g : Chan → Chan) (j : Nat) : (s.modChan c g).group j = s.group j := rfl
@[simp] theorem State.modChan_cluster (s : State) (c : Nat) (g : Chan → Chan) (j : Nat) : (s.modChan c g).cluster j = s.cluster j := rfl
@[simp] theorem State.modChan_base (s : State) (c : Nat) (g : Chan → Chan) (j : Nat) : (s.modChan c g).base j = s.base j := rfl
@[simp] theorem State.modChan_core (s : State) (c : Nat) (g : Chan → Chan) (j : Nat) : (s.modChan c g).core j = s.core j := rfl
@[simp] theorem State.modChan_rail (s : State) (c : Nat) (g : Chan → Chan) (j : Nat) : (s.modChan c g).rail j = s.rail j := rfl
@[simp] theorem State.modChan_engine (s : State) (c : Nat) (g : Chan → Chan) (j : Nat) : (s.modChan c g).engine j = s.engine j := rfl
@[simp] theorem State.modChan_pchan (s : State) (c : Nat) (g : Chan → Chan) (j : Nat) : (s.modChan c g).pchan j = s.pchan j := rfl
@[simp] theorem State.modChan_tenantOf (s : State) (c : Nat) (g : Chan → Chan) (j : Nat) : (s.modChan c g).tenantOf j = s.tenantOf j := rfl
@[simp] theorem State.modChan_queue (s : State) (c : Nat) (g : Chan → Chan) (j : Nat) : (s.modChan c g).queue j = s.queue j := rfl
@[simp] theorem State.setLeg_conf (s : State) (n : Nat) (l : Leg) (j : Nat) : (s.setLeg n l).conf j = s.conf j := rfl
@[simp] theorem State.setLeg_port (s : State) (n : Nat) (l : Leg) (j : Nat) : (s.setLeg n l).port j = s.port j := rfl
@[simp] theorem State.setLeg_fn (s : State) (n : Nat) (l : Leg) (j : Nat) : (s.setLeg n l).fn j = s.fn j := rfl
@[simp] theorem State.setLeg_chan (s : State) (n : Nat) (l : Leg) (j : Nat) : (s.setLeg n l).chan j = s.chan j := rfl
@[simp] theorem State.setLeg_bind (s : State) (n : Nat) (l : Leg) (j : Nat) : (s.setLeg n l).bind j = s.bind j := rfl
@[simp] theorem State.setLeg_group (s : State) (n : Nat) (l : Leg) (j : Nat) : (s.setLeg n l).group j = s.group j := rfl
@[simp] theorem State.setLeg_cluster (s : State) (n : Nat) (l : Leg) (j : Nat) : (s.setLeg n l).cluster j = s.cluster j := rfl
@[simp] theorem State.setLeg_base (s : State) (n : Nat) (l : Leg) (j : Nat) : (s.setLeg n l).base j = s.base j := rfl
@[simp] theorem State.setLeg_core (s : State) (n : Nat) (l : Leg) (j : Nat) : (s.setLeg n l).core j = s.core j := rfl
@[simp] theorem State.setLeg_rail (s : State) (n : Nat) (l : Leg) (j : Nat) : (s.setLeg n l).rail j = s.rail j := rfl
@[simp] theorem State.setLeg_engine (s : State) (n : Nat) (l : Leg) (j : Nat) : (s.setLeg n l).engine j = s.engine j := rfl
@[simp] theorem State.setLeg_pchan (s : State) (n : Nat) (l : Leg) (j : Nat) : (s.setLeg n l).pchan j = s.pchan j := rfl
@[simp] theorem State.setLeg_tenantOf (s : State) (n : Nat) (l : Leg) (j : Nat) : (s.setLeg n l).tenantOf j = s.tenantOf j := rfl
@[simp] theorem State.setLeg_queue (s : State) (n : Nat) (l : Leg) (j : Nat) : (s.setLeg n l).queue j = s.queue j := rfl
@[simp] theorem State.modLeg_conf (s : State) (n : Nat) (g : Leg → Leg) (j : Nat) : (s.modLeg n g).conf j = s.conf j := rfl
@[simp] theorem State.modLeg_port (s : State) (n : Nat) (g : Leg → Leg) (j : Nat) : (s.modLeg n g).port j = s.port j := rfl
@[simp] theorem State.modLeg_fn (s : State) (n : Nat) (g : Leg → Leg) (j : Nat) : (s.modLeg n g).fn j = s.fn j := rfl
@[simp] theorem State.modLeg_chan (s : State) (n : Nat) (g : Leg → Leg) (j : Nat) : (s.modLeg n g).chan j = s.chan j := rfl
@[simp] theorem State.modLeg_bind (s : State) (n : Nat) (g : Leg → Leg) (j : Nat) : (s.modLeg n g).bind j = s.bind j := rfl
@[simp] theorem State.modLeg_group (s : State) (n : Nat) (g : Leg → Leg) (j : Nat) : (s.modLeg n g).group j = s.group j := rfl
@[simp] theorem State.modLeg_cluster (s : State) (n : Nat) (g : Leg → Leg) (j : Nat) : (s.modLeg n g).cluster j = s.cluster j := rfl
@[simp] theorem State.modLeg_base (s : State) (n : Nat) (g : Leg → Leg) (j : Nat) : (s.modLeg n g).base j = s.base j := rfl
@[simp] theorem State.modLeg_core (s : State) (n : Nat) (g : Leg → Leg) (j : Nat) : (s.modLeg n g).core j = s.core j := rfl
@[simp] theorem State.modLeg_rail (s : State) (n : Nat) (g : Leg → Leg) (j : Nat) : (s.modLeg n g).rail j = s.rail j := rfl
@[simp] theorem State.modLeg_engine (s : State) (n : Nat) (g : Leg → Leg) (j : Nat) : (s.modLeg n g).engine j = s.engine j := rfl
@[simp] theorem State.modLeg_pchan (s : State) (n : Nat) (g : Leg → Leg) (j : Nat) : (s.modLeg n g).pchan j = s.pchan j := rfl
@[simp] theorem State.modLeg_tenantOf (s : State) (n : Nat) (g : Leg → Leg) (j : Nat) : (s.modLeg n g).tenantOf j = s.tenantOf j := rfl
@[simp] theorem State.modLeg_queue (s : State) (n : Nat) (g : Leg → Leg) (j : Nat) : (s.modLeg n g).queue j = s.queue j := rfl
@[simp] theorem State.modPort_leg (s : State) (p : Nat) (g : Port → Port) (j : Nat) : (s.modPort p g).leg j = s.leg j := rfl
@[simp] theorem State.modPort_conf (s : State) (p : Nat) (g : Port → Port) (j : Nat) : (s.modPort p g).conf j = s.conf j := rfl
@[simp] theorem State.modPort_fn (s : State) (p : Nat) (g : Port → Port) (j : Nat) : (s.modPort p g).fn j = s.fn j := rfl
@[simp] theorem State.modPort_chan (s : State) (p : Nat) (g : Port → Port) (j : Nat) : (s.modPort p g).chan j = s.chan j := rfl
@[simp] theorem State.modPort_bind (s : State) (p : Nat) (g : Port → Port) (j : Nat) : (s.modPort p g).bind j = s.bind j := rfl
@[simp] theorem State.modPort_group (s : State) (p : Nat) (g : Port → Port) (j : Nat) : (s.modPort p g).group j = s.group j := rfl
@[simp] theorem State.modPort_cluster (s : State) (p : Nat) (g : Port → Port) (j : Nat) : (s.modPort p g).cluster j = s.cluster j := rfl
@[simp] theorem State.modPort_base (s : State) (p : Nat) (g : Port → Port) (j : Nat) : (s.modPort p g).base j = s.base j := rfl
@[simp] theorem State.modPort_core (s : State) (p : Nat) (g : Port → Port) (j : Nat) : (s.modPort p g).core j = s.core j := rfl
@[simp] theorem State.modPort_rail (s : State) (p : Nat) (g : Port → Port) (j : Nat) : (s.modPort p g).rail j = s.rail j := rfl
@[simp] theorem State.modPort_engine (s : State) (p : Nat) (g : Port → Port) (j : Nat) : (s.modPort p g).engine j = s.engine j := rfl
@[simp] theorem State.modPort_pchan (s : State) (p : Nat) (g : Port → Port) (j : Nat) : (s.modPort p g).pchan j = s.pchan j := rfl
@[simp] theorem State.modPort_tenantOf (s : State) (p : Nat) (g : Port → Port) (j : Nat) : (s.modPort p g).tenantOf j = s.tenantOf j := rfl
@[simp] theorem State.modPort_queue (s : State) (p : Nat) (g : Port → Port) (j : Nat) : (s.modPort p g).queue j = s.queue j := rfl
@[simp] theorem State.modGroup_leg (s : State) (p : Nat) (g : LinkGroup → LinkGroup) (j : Nat) : (s.modGroup p g).leg j = s.leg j := rfl
@[simp] theorem State.modGroup_conf (s : State) (p : Nat) (g : LinkGroup → LinkGroup) (j : Nat) : (s.modGroup p g).conf j = s.conf j := rfl
@[simp] theorem State.modGroup_port (s : State) (p : Nat) (g : LinkGroup → LinkGroup) (j : Nat) : (s.modGroup p g).port j = s.port j := rfl
@[simp] theorem State.modGroup_fn (s : State) (p : Nat) (g : LinkGroup → LinkGroup) (j : Nat) : (s.modGroup p g).fn j = s.fn j := rfl
@[simp] theorem State.modGroup_chan (s : State) (p : Nat) (g : LinkGroup → LinkGroup) (j : Nat) : (s.modGroup p g).chan j = s.chan j := rfl
@[simp] theorem State.modGroup_bind (s : State) (p : Nat) (g : LinkGroup → LinkGroup) (j : Nat) : (s.modGroup p g).bind j = s.bind j := rfl
@[simp] theorem State.modGroup_cluster (s : State) (p : Nat) (g : LinkGroup → LinkGroup) (j : Nat) : (s.modGroup p g).cluster j = s.cluster j := rfl
@[simp] theorem State.modGroup_base (s : State) (p : Nat) (g : LinkGroup → LinkGroup) (j : Nat) : (s.modGroup p g).base j = s.base j := rfl
@[simp] theorem State.modGroup_core (s : State) (p : Nat) (g : LinkGroup → LinkGroup) (j : Nat) : (s.modGroup p g).core j = s.core j := rfl
@[simp] theorem State.modGroup_rail (s : State) (p : Nat) (g : LinkGroup → LinkGroup) (j : Nat) : (s.modGroup p g).rail j = s.rail j := rfl
@[simp] theorem State.modGroup_engine (s : State) (p : Nat) (g : LinkGroup → LinkGroup) (j : Nat) : (s.modGroup p g).engine j = s.engine j := rfl
@[simp] theorem State.modGroup_pchan (s : State) (p : Nat) (g : LinkGroup → LinkGroup) (j : Nat) : (s.modGroup p g).pchan j = s.pchan j := rfl
@[simp] theorem State.modGroup_tenantOf (s : State) (p : Nat) (g : LinkGroup → LinkGroup) (j : Nat) : (s.modGroup p g).tenantOf j = s.tenantOf j := rfl
@[simp] theorem State.modGroup_queue (s : State) (p : Nat) (g : LinkGroup → LinkGroup) (j : Nat) : (s.modGroup p g).queue j = s.queue j := rfl
@[simp] theorem State.occur_leg (s : State) (sel : Nat) (o : Occ) (j : Nat) : (s.occur sel o).leg j = s.leg j := rfl
@[simp] theorem State.occur_conf (s : State) (sel : Nat) (o : Occ) (j : Nat) : (s.occur sel o).conf j = s.conf j := rfl
@[simp] theorem State.occur_port (s : State) (sel : Nat) (o : Occ) (j : Nat) : (s.occur sel o).port j = s.port j := rfl
@[simp] theorem State.occur_fn (s : State) (sel : Nat) (o : Occ) (j : Nat) : (s.occur sel o).fn j = s.fn j := rfl
@[simp] theorem State.occur_chan (s : State) (sel : Nat) (o : Occ) (j : Nat) : (s.occur sel o).chan j = s.chan j := rfl
@[simp] theorem State.occur_bind (s : State) (sel : Nat) (o : Occ) (j : Nat) : (s.occur sel o).bind j = s.bind j := rfl
@[simp] theorem State.occur_group (s : State) (sel : Nat) (o : Occ) (j : Nat) : (s.occur sel o).group j = s.group j := rfl
@[simp] theorem State.occur_cluster (s : State) (sel : Nat) (o : Occ) (j : Nat) : (s.occur sel o).cluster j = s.cluster j := rfl
@[simp] theorem State.occur_base (s : State) (sel : Nat) (o : Occ) (j : Nat) : (s.occur sel o).base j = s.base j := rfl
@[simp] theorem State.occur_core (s : State) (sel : Nat) (o : Occ) (j : Nat) : (s.occur sel o).core j = s.core j := rfl
@[simp] theorem State.occur_rail (s : State) (sel : Nat) (o : Occ) (j : Nat) : (s.occur sel o).rail j = s.rail j := rfl
@[simp] theorem State.occur_engine (s : State) (sel : Nat) (o : Occ) (j : Nat) : (s.occur sel o).engine j = s.engine j := rfl
@[simp] theorem State.occur_pchan (s : State) (sel : Nat) (o : Occ) (j : Nat) : (s.occur sel o).pchan j = s.pchan j := rfl
@[simp] theorem State.occur_tenantOf (s : State) (sel : Nat) (o : Occ) (j : Nat) : (s.occur sel o).tenantOf j = s.tenantOf j := rfl
@[simp] theorem State.occur_queue (s : State) (sel : Nat) (o : Occ) (j : Nat) : (s.occur sel o).queue j = s.queue j := rfl

end Sys2Proof.Machine
end

