-- ==== Sys2Proof/Laws/Control.lean ====
section
/-! SUPPORT. What the shared operations of the control path can do: running the command at the head of a channel's queue,
answering it, and posting events. -/

namespace Sys2Proof.Machine

/-! ## The state from which a command's body runs -/

theorem popped_setQueue (s : State) (c : Ctx) (rest : List Cmd) : s.popped c rest = s.setQueue c.ch rest := rfl
@[simp] theorem popped_queue (s : State) (c : Ctx) (r : List Cmd) : (s.popped c r).queue c.ch = r := by
  simp [State.popped, State.setQueue, State.queue]
@[simp] theorem popped_pending (s : State) (c : Ctx) (r : List Cmd) : (s.popped c r).pending = s.pending := (rfl)
@[simp] theorem popped_fresh (s : State) (c : Ctx) (r : List Cmd) : (s.popped c r).fresh = s.fresh := (rfl)
@[simp] theorem popped_rdata (s : State) (c : Ctx) (r : List Cmd) : (s.popped c r).rdata = s.rdata := (rfl)
@[simp] theorem popped_chans (s : State) (c : Ctx) (r : List Cmd) : (s.popped c r).chans = s.chans := (rfl)
@[simp] theorem popped_binds (s : State) (c : Ctx) (r : List Cmd) : (s.popped c r).binds = s.binds := (rfl)
@[simp] theorem popped_bindLock (s : State) (c : Ctx) (r : List Cmd) : (s.popped c r).bindLock = s.bindLock := (rfl)
@[simp] theorem popped_fns (s : State) (c : Ctx) (r : List Cmd) : (s.popped c r).fns = s.fns := (rfl)
@[simp] theorem popped_time (s : State) (c : Ctx) (r : List Cmd) : (s.popped c r).time = s.time := (rfl)
@[simp] theorem popped_trail (s : State) (c : Ctx) (r : List Cmd) : (s.popped c r).trail = s.trail := (rfl)
@[simp] theorem popped_clusters (s : State) (c : Ctx) (r : List Cmd) : (s.popped c r).clusters = s.clusters := (rfl)
@[simp] theorem popped_confs (s : State) (c : Ctx) (r : List Cmd) : (s.popped c r).confs = s.confs := (rfl)
@[simp] theorem popped_legs (s : State) (c : Ctx) (r : List Cmd) : (s.popped c r).legs = s.legs := (rfl)
@[simp] theorem popped_gens (s : State) (c : Ctx) (r : List Cmd) : (s.popped c r).gens = s.gens := (rfl)
@[simp] theorem popped_dying (s : State) (c : Ctx) (r : List Cmd) : (s.popped c r).dying = s.dying := (rfl)
@[simp] theorem popped_keyDying (s : State) (c : Ctx) (r : List Cmd) : (s.popped c r).keyDying = s.keyDying := (rfl)
@[simp] theorem popped_hamperOrder (s : State) (c : Ctx) (r : List Cmd) : (s.popped c r).hamperOrder = s.hamperOrder := (rfl)
@[simp] theorem popped_decJobs (s : State) (c : Ctx) (r : List Cmd) : (s.popped c r).decJobs = s.decJobs := (rfl)
@[simp] theorem popped_encJobs (s : State) (c : Ctx) (r : List Cmd) : (s.popped c r).encJobs = s.encJobs := (rfl)
@[simp] theorem popped_jobTracks (s : State) (c : Ctx) (r : List Cmd) : (s.popped c r).jobTracks = s.jobTracks := (rfl)
@[simp] theorem popped_engines (s : State) (c : Ctx) (r : List Cmd) : (s.popped c r).engines = s.engines := (rfl)
@[simp] theorem popped_canvases (s : State) (c : Ctx) (r : List Cmd) : (s.popped c r).canvases = s.canvases := (rfl)
@[simp] theorem popped_hostCopy (s : State) (c : Ctx) (r : List Cmd) : (s.popped c r).hostCopy = s.hostCopy := (rfl)
@[simp] theorem popped_stages (s : State) (c : Ctx) (r : List Cmd) : (s.popped c r).stages = s.stages := (rfl)
@[simp] theorem popped_stageAtts (s : State) (c : Ctx) (r : List Cmd) : (s.popped c r).stageAtts = s.stageAtts := (rfl)
@[simp] theorem popped_stageGone (s : State) (c : Ctx) (r : List Cmd) : (s.popped c r).stageGone = s.stageGone := (rfl)
@[simp] theorem popped_cores (s : State) (c : Ctx) (r : List Cmd) : (s.popped c r).cores = s.cores := (rfl)
@[simp] theorem popped_pages (s : State) (c : Ctx) (r : List Cmd) : (s.popped c r).pages = s.pages := (rfl)
@[simp] theorem popped_ciphers (s : State) (c : Ctx) (r : List Cmd) : (s.popped c r).ciphers = s.ciphers := (rfl)
@[simp] theorem popped_inQ (s : State) (c : Ctx) (r : List Cmd) : (s.popped c r).inQ = s.inQ := (rfl)
@[simp] theorem popped_fwdQ (s : State) (c : Ctx) (r : List Cmd) : (s.popped c r).fwdQ = s.fwdQ := (rfl)
@[simp] theorem popped_outQ (s : State) (c : Ctx) (r : List Cmd) : (s.popped c r).outQ = s.outQ := (rfl)
@[simp] theorem popped_nodes (s : State) (c : Ctx) (r : List Cmd) : (s.popped c r).nodes = s.nodes := (rfl)
@[simp] theorem popped_ports (s : State) (c : Ctx) (r : List Cmd) : (s.popped c r).ports = s.ports := (rfl)
@[simp] theorem popped_casc (s : State) (c : Ctx) (r : List Cmd) : (s.popped c r).casc = s.casc := (rfl)
@[simp] theorem popped_hbm (s : State) (c : Ctx) (r : List Cmd) : (s.popped c r).hbm = s.hbm := (rfl)
@[simp] theorem popped_mem (s : State) (c : Ctx) (r : List Cmd) : (s.popped c r).mem = s.mem := (rfl)
@[simp] theorem popped_prot (s : State) (c : Ctx) (r : List Cmd) : (s.popped c r).prot = s.prot := (rfl)
@[simp] theorem popped_upd (s : State) (c : Ctx) (r : List Cmd) : (s.popped c r).upd = s.upd := (rfl)
@[simp] theorem popped_power (s : State) (c : Ctx) (r : List Cmd) : (s.popped c r).power = s.power := (rfl)
@[simp] theorem popped_pins (s : State) (c : Ctx) (r : List Cmd) : (s.popped c r).pins = s.pins := (rfl)
@[simp] theorem popped_mon (s : State) (c : Ctx) (r : List Cmd) : (s.popped c r).mon = s.mon := (rfl)
@[simp] theorem popped_segs (s : State) (c : Ctx) (r : List Cmd) : (s.popped c r).ctl.segs = s.ctl.segs := (rfl)
@[simp] theorem popped_discards (s : State) (c : Ctx) (r : List Cmd) : (s.popped c r).ctl.discards = s.ctl.discards := (rfl)
@[simp] theorem popped_rsps (s : State) (c : Ctx) (r : List Cmd) : (s.popped c r).ctl.rsps = s.ctl.rsps := (rfl)
@[simp] theorem popped_rr (s : State) (c : Ctx) (r : List Cmd) : (s.popped c r).ctl.rr = s.ctl.rr := (rfl)
@[simp] theorem popped_ops (s : State) (c : Ctx) (r : List Cmd) : (s.popped c r).ctl.ops = s.ctl.ops := (rfl)
@[simp] theorem popped_waits (s : State) (c : Ctx) (r : List Cmd) : (s.popped c r).ctl.waits = s.ctl.waits := (rfl)
@[simp] theorem popped_active (s : State) (c : Ctx) (r : List Cmd) : (s.popped c r).ctl.active = s.ctl.active := (rfl)
@[simp] theorem popped_standbyReady (s : State) (c : Ctx) (r : List Cmd) : (s.popped c r).ctl.standbyReady = s.ctl.standbyReady := (rfl)
@[simp] theorem popped_pairs (s : State) (c : Ctx) (r : List Cmd) : (s.popped c r).ctl.pairs = s.ctl.pairs := (rfl)
@[simp] theorem popped_bmcHold (s : State) (c : Ctx) (r : List Cmd) : (s.popped c r).ctl.bmcHold = s.ctl.bmcHold := (rfl)
@[simp] theorem popped_resTag (s : State) (c : Ctx) (r : List Cmd) : (s.popped c r).ctl.resTag = s.ctl.resTag := (rfl)
@[simp] theorem popped_acc_fn (s : State) (c : Ctx) (r : List Cmd) : (s.popped c r).fn = s.fn := (rfl)
@[simp] theorem popped_acc_chan (s : State) (c : Ctx) (r : List Cmd) : (s.popped c r).chan = s.chan := (rfl)
@[simp] theorem popped_acc_bind (s : State) (c : Ctx) (r : List Cmd) : (s.popped c r).bind = s.bind := (rfl)
@[simp] theorem popped_acc_leg (s : State) (c : Ctx) (r : List Cmd) : (s.popped c r).leg = s.leg := (rfl)
@[simp] theorem popped_acc_conf (s : State) (c : Ctx) (r : List Cmd) : (s.popped c r).conf = s.conf := (rfl)
@[simp] theorem popped_acc_port (s : State) (c : Ctx) (r : List Cmd) : (s.popped c r).port = s.port := (rfl)
@[simp] theorem popped_acc_group (s : State) (c : Ctx) (r : List Cmd) : (s.popped c r).group = s.group := (rfl)
@[simp] theorem popped_acc_cluster (s : State) (c : Ctx) (r : List Cmd) : (s.popped c r).cluster = s.cluster := (rfl)
@[simp] theorem popped_acc_base (s : State) (c : Ctx) (r : List Cmd) : (s.popped c r).base = s.base := (rfl)
@[simp] theorem popped_acc_core (s : State) (c : Ctx) (r : List Cmd) : (s.popped c r).core = s.core := (rfl)
@[simp] theorem popped_acc_node (s : State) (c : Ctx) (r : List Cmd) : (s.popped c r).node = s.node := (rfl)
@[simp] theorem popped_acc_pchan (s : State) (c : Ctx) (r : List Cmd) : (s.popped c r).pchan = s.pchan := (rfl)
@[simp] theorem popped_acc_rail (s : State) (c : Ctx) (r : List Cmd) : (s.popped c r).rail = s.rail := (rfl)
@[simp] theorem popped_acc_engine (s : State) (c : Ctx) (r : List Cmd) : (s.popped c r).engine = s.engine := (rfl)
@[simp] theorem popped_acc_tenantOf (s : State) (c : Ctx) (r : List Cmd) : (s.popped c r).tenantOf = s.tenantOf := (rfl)
@[simp] theorem popped_acc_mayTouch (s : State) (c : Ctx) (r : List Cmd) : (s.popped c r).mayTouch = s.mayTouch := (rfl)
@[simp] theorem popped_acc_legTenant (s : State) (c : Ctx) (r : List Cmd) : (s.popped c r).legTenant = s.legTenant := (rfl)
@[simp] theorem popped_acc_tick (s : State) (c : Ctx) (r : List Cmd) : (s.popped c r).tick = s.tick := (rfl)
@[simp] theorem popped_acc_outstanding (s : State) (c : Ctx) (r : List Cmd) : (s.popped c r).outstanding = s.outstanding := (rfl)
@[simp] theorem popped_acc_busyHandle (s : State) (c : Ctx) (r : List Cmd) : (s.popped c r).busyHandle = s.busyHandle := (rfl)
@[simp] theorem popped_acc_findOp (s : State) (c : Ctx) (r : List Cmd) : (s.popped c r).findOp = s.findOp := (rfl)
@[simp] theorem setQueue_queue_same (s : State) (ch : Nat) (q : List Cmd) : (s.setQueue ch q).queue ch = q := by
  simp [State.setQueue, State.queue]
@[simp] theorem setQueue_ops (s : State) (ch : Nat) (q : List Cmd) : (s.setQueue ch q).ctl.ops = s.ctl.ops := rfl
@[simp] theorem setQueue_waits (s : State) (ch : Nat) (q : List Cmd) : (s.setQueue ch q).ctl.waits = s.ctl.waits := rfl
@[simp] theorem setQueue_rsps (s : State) (ch : Nat) (q : List Cmd) : (s.setQueue ch q).ctl.rsps = s.ctl.rsps := rfl
@[simp] theorem setQueue_mayTouch (s : State) (ch : Nat) (q : List Cmd) (i t : Nat) :
    (s.setQueue ch q).mayTouch i t = s.mayTouch i t := rfl
@[simp] theorem setQueue_legTenant (s : State) (ch : Nat) (q : List Cmd) (l : Leg) :
    (s.setQueue ch q).legTenant l = s.legTenant l := rfl
@[simp] theorem setQueue_outstanding (s : State) (ch : Nat) (q : List Cmd) (f : Nat) :
    (s.setQueue ch q).outstanding f = s.outstanding f := rfl

/-- A command at the head of its channel's queue runs its body on the state without it, and is answered by its reply. -/
theorem runCmd_head {s : State} {c : Ctx} {op : Nat} {rest : List Cmd} (h : AtHead s c op rest)
    (body : Ctx → State → Reply) :
    runCmd c.ch op body s = ((s.popped c rest).reply c (body c (s.popped c rest))).drain c.ch := by
  obtain ⟨ch, issuer, opcode, tag, args⟩ := c
  obtain ⟨-, h2, h3, h4, h5, h6⟩ := h
  simp only at h2 h3 h4 h5 h6
  subst h2 h3
  simp [runCmd, h4, h5, h6, State.popped]

/-- A body that answers at once. -/
theorem runCmd_done {s : State} {c : Ctx} {op : Nat} {rest : List Cmd} (h : AtHead s c op rest)
    {body : Ctx → State → Reply} {u : State} {st det : Nat} {ws : List Nat}
    (hb : body c (s.popped c rest) = .done u st det ws) : runCmd c.ch op body s = u.answered c st det ws := by
  rw [runCmd_head h, hb]; rfl

/-- A body that refuses leaves the state as it was. -/
theorem runCmd_fail {s : State} {c : Ctx} {op : Nat} {rest : List Cmd} (h : AtHead s c op rest)
    {body : Ctx → State → Reply} {st det : Nat} (hb : body c (s.popped c rest) = .fail st det) :
    runCmd c.ch op body s = (s.popped c rest).answered c st det [] := by
  rw [runCmd_head h, hb]; rfl

/-- A body that answers later. -/
theorem runCmd_hold {s : State} {c : Ctx} {op : Nat} {rest : List Cmd} (h : AtHead s c op rest)
    {body : Ctx → State → Reply} {u : State} (hb : body c (s.popped c rest) = .hold u) :
    runCmd c.ch op body s = u.drain c.ch := by
  rw [runCmd_head h, hb]; rfl

/-- Checks that all pass go on. -/
theorem checks_pass {cs : List (Bool × Nat × Nat)} {r : Reply} (h : ∀ x ∈ cs, x.1 = false) : checks cs r = r := by
  have : cs.find? (·.1) = none := by simpa [List.find?_eq_none] using h
  simp [checks, this]

/-- A long operation that finds room for its record is accepted: E_DEFERRED with its handle (R54, R62). -/
theorem startLong_ok {c : Ctx} {s : State} {a b d : Nat} {go : Nat → State → State} (h : s.outstanding c.issuer < 256) :
    startLong c s a b d go =
      .done (go (s.fn c.issuer).nextHandle (s.accept c.issuer c.tag c.opcode a b d).2) eDeferred (s.fn c.issuer).nextHandle [] :=
  if_neg (by omega)

/-! ## What posting an event, ending an operation and answering can change -/

/-- Offering an event changes event rings and counters only. -/
theorem offerAll_shape (s : State) (fs : List Nat) (e : Event) :
    ∃ a b, s.offerAll fs e = { s with fns := a, mon := b } := by
  have fold : ∀ (l : List Nat) (t : State), ∃ a,
      l.foldl (fun s f => s.modFn f fun r => r.offer { e with tick := s.tick }) t = { t with fns := a } := by
    intro l
    induction l with
    | nil => intro t; exact ⟨t.fns, rfl⟩
    | cons x l ih => intro t; obtain ⟨a, ha⟩ := ih (t.modFn x fun r => r.offer { e with tick := t.tick }); exact ⟨a, ha⟩
  have fold' : ∀ (e' : Event) (l : List Nat) (t : State), ∃ a,
      l.foldl (fun s f => s.modFn f fun r => r.offer e') t = { t with fns := a } := by
    intro e' l
    induction l with
    | nil => intro t; exact ⟨t.fns, rfl⟩
    | cons x l ih => intro t; obtain ⟨a, ha⟩ := ih (t.modFn x fun r => r.offer e'); exact ⟨a, ha⟩
  unfold State.offerAll
  extract_lets on e'
  split
  · exact ⟨s.fns, _, rfl⟩
  · obtain ⟨a, ha⟩ := fold' e' on s
    exact ⟨a, s.mon, ha⟩
theorem postAll_shape (s : State) (e : Event) : ∃ a b, s.postAll e = { s with fns := a, mon := b } := offerAll_shape _ _ _
theorem postObj_shape (s : State) (f : Nat) (e : Event) : ∃ a b, s.postObj f e = { s with fns := a, mon := b } :=
  offerAll_shape _ _ _

/-- Ending an operation changes its record, and the function that started it. -/
theorem complete_shape (s : State) (o : LongOp) (e : Event) (st : Nat) :
    ∃ a b, s.complete o e st = { s with fns := a, ctl := { s.ctl with ops := b } } := by
  unfold State.complete
  extract_lets s1 ev p s2
  split
  · exact ⟨_, _, rfl⟩
  · split <;> exact ⟨_, _, rfl⟩
theorem opDone_shape (s : State) (o : LongOp) (st d : Nat) :
    ∃ a b, s.opDone o st d = { s with fns := a, ctl := { s.ctl with ops := b } } := complete_shape _ _ _ _

theorem sendMsg_shape (s : State) (r : Nat) (ws : List Word) : ∃ a b, s.sendMsg r ws = { s with chans := a, fns := b } := by
  unfold State.sendMsg
  extract_lets s' f
  split
  · exact ⟨_, _, rfl⟩
  · exact ⟨_, s.fns, rfl⟩

/-- Answering changes channels, the doorbells of their receivers, and the responses that wait. -/
theorem pump_shape (s : State) (r : Nat) : ∃ a b d, s.pump r = { s with chans := a, fns := b, ctl := { s.ctl with rsps := d } } := by
  unfold State.pump
  split
  · exact ⟨_, _, _, rfl⟩
  · split
    · exact ⟨_, _, _, rfl⟩
    · obtain ⟨a, b, h⟩ := sendMsg_shape s r _
      rw [h]
      exact ⟨_, _, _, rfl⟩
theorem respond_shape (s : State) (ch op tag st d : Nat) (ws : List Nat) :
    ∃ a b r, s.respond ch op tag st d ws = { s with chans := a, fns := b, ctl := { s.ctl with rsps := r } } := by
  unfold State.respond
  extract_lets ms r
  obtain ⟨a, b, d, h⟩ := pump_shape { s with ctl := { s.ctl with rsps := tset s.ctl.rsps r (tgetD s.ctl.rsps r [] ++ ms) } } r
  exact ⟨a, b, d, h⟩
theorem drain_shape (s : State) (ch : Nat) :
    ∃ a b q r, s.drain ch = { s with chans := a, fns := b, ctl := { s.ctl with queues := q, rsps := r } } := by
  have fold : ∀ (l : List Cmd) (t : State), ∃ a b r,
      l.foldl (fun s c => match c.refuse with
        | some (st, det) => s.respond ch c.opcode c.tag st det []
        | none => s) t = { t with chans := a, fns := b, ctl := { t.ctl with rsps := r } } := by
    intro l
    induction l with
    | nil => intro t; exact ⟨t.chans, t.fns, t.ctl.rsps, rfl⟩
    | cons x l ih =>
      intro t
      simp only [List.foldl_cons]
      cases hx : x.refuse with
      | none => exact ih t
      | some p =>
        obtain ⟨a, b, r, h⟩ := respond_shape t ch x.opcode x.tag p.1 p.2 []
        obtain ⟨a', b', r', h'⟩ := ih (t.respond ch x.opcode x.tag p.1 p.2 [])
        refine ⟨a', b', r', ?_⟩
        rw [h'] ; rw [h]
  unfold State.drain
  extract_lets q bad
  obtain ⟨a, b, r, h⟩ := fold bad (s.setQueue ch (q.dropWhile fun c => c.refuse.isSome))
  exact ⟨a, b, _, r, h⟩
theorem answered_shape (u : State) (c : Ctx) (st d : Nat) (ws : List Nat) :
    ∃ a b q r, u.answered c st d ws = { u with chans := a, fns := b, ctl := { u.ctl with queues := q, rsps := r } } := by
  obtain ⟨a, b, r, h⟩ := respond_shape u c.ch c.opcode c.tag st d ws
  obtain ⟨a', b', q, r', h'⟩ := drain_shape (u.respond c.ch c.opcode c.tag st d ws) c.ch
  refine ⟨a', b', q, r', ?_⟩
  unfold State.answered
  rw [h', h]

@[simp] theorem offerAll_pending (s : State) (l : List Nat) (e : Event) : (s.offerAll l e).pending = s.pending := by
  obtain ⟨a, b, h⟩ := offerAll_shape s l e; rw [h]
@[simp] theorem postAll_pending (s : State) (e : Event) : (s.postAll e).pending = s.pending := offerAll_pending _ _ _
@[simp] theorem postObj_pending (s : State) (i : Nat) (e : Event) : (s.postObj i e).pending = s.pending := offerAll_pending _ _ _
@[simp] theorem offerAll_fresh (s : State) (l : List Nat) (e : Event) : (s.offerAll l e).fresh = s.fresh := by
  obtain ⟨a, b, h⟩ := offerAll_shape s l e; rw [h]
@[simp] theorem postAll_fresh (s : State) (e : Event) : (s.postAll e).fresh = s.fresh := offerAll_fresh _ _ _
@[simp] theorem postObj_fresh (s : State) (i : Nat) (e : Event) : (s.postObj i e).fresh = s.fresh := offerAll_fresh _ _ _
@[simp] theorem offerAll_rdata (s : State) (l : List Nat) (e : Event) : (s.offerAll l e).rdata = s.rdata := by
  obtain ⟨a, b, h⟩ := offerAll_shape s l e; rw [h]
@[simp] theorem postAll_rdata (s : State) (e : Event) : (s.postAll e).rdata = s.rdata := offerAll_rdata _ _ _
@[simp] theorem postObj_rdata (s : State) (i : Nat) (e : Event) : (s.postObj i e).rdata = s.rdata := offerAll_rdata _ _ _
@[simp] theorem offerAll_chans (s : State) (l : List Nat) (e : Event) : (s.offerAll l e).chans = s.chans := by
  obtain ⟨a, b, h⟩ := offerAll_shape s l e; rw [h]
@[simp] theorem postAll_chans (s : State) (e : Event) : (s.postAll e).chans = s.chans := offerAll_chans _ _ _
@[simp] theorem postObj_chans (s : State) (i : Nat) (e : Event) : (s.postObj i e).chans = s.chans := offerAll_chans _ _ _
@[simp] theorem offerAll_binds (s : State) (l : List Nat) (e : Event) : (s.offerAll l e).binds = s.binds := by
  obtain ⟨a, b, h⟩ := offerAll_shape s l e; rw [h]
@[simp] theorem postAll_binds (s : State) (e : Event) : (s.postAll e).binds = s.binds := offerAll_binds _ _ _
@[simp] theorem postObj_binds (s : State) (i : Nat) (e : Event) : (s.postObj i e).binds = s.binds := offerAll_binds _ _ _
@[simp] theorem offerAll_bindLock (s : State) (l : List Nat) (e : Event) : (s.offerAll l e).bindLock = s.bindLock := by
  obtain ⟨a, b, h⟩ := offerAll_shape s l e; rw [h]
@[simp] theorem postAll_bindLock (s : State) (e : Event) : (s.postAll e).bindLock = s.bindLock := offerAll_bindLock _ _ _
@[simp] theorem postObj_bindLock (s : State) (i : Nat) (e : Event) : (s.postObj i e).bindLock = s.bindLock := offerAll_bindLock _ _ _
@[simp] theorem offerAll_ctl (s : State) (l : List Nat) (e : Event) : (s.offerAll l e).ctl = s.ctl := by
  obtain ⟨a, b, h⟩ := offerAll_shape s l e; rw [h]
@[simp] theorem postAll_ctl (s : State) (e : Event) : (s.postAll e).ctl = s.ctl := offerAll_ctl _ _ _
@[simp] theorem postObj_ctl (s : State) (i : Nat) (e : Event) : (s.postObj i e).ctl = s.ctl := offerAll_ctl _ _ _
@[simp] theorem offerAll_time (s : State) (l : List Nat) (e : Event) : (s.offerAll l e).time = s.time := by
  obtain ⟨a, b, h⟩ := offerAll_shape s l e; rw [h]
@[simp] theorem postAll_time (s : State) (e : Event) : (s.postAll e).time = s.time := offerAll_time _ _ _
@[simp] theorem postObj_time (s : State) (i : Nat) (e : Event) : (s.postObj i e).time = s.time := offerAll_time _ _ _
@[simp] theorem offerAll_trail (s : State) (l : List Nat) (e : Event) : (s.offerAll l e).trail = s.trail := by
  obtain ⟨a, b, h⟩ := offerAll_shape s l e; rw [h]
@[simp] theorem postAll_trail (s : State) (e : Event) : (s.postAll e).trail = s.trail := offerAll_trail _ _ _
@[simp] theorem postObj_trail (s : State) (i : Nat) (e : Event) : (s.postObj i e).trail = s.trail := offerAll_trail _ _ _
@[simp] theorem offerAll_clusters (s : State) (l : List Nat) (e : Event) : (s.offerAll l e).clusters = s.clusters := by
  obtain ⟨a, b, h⟩ := offerAll_shape s l e; rw [h]
@[simp] theorem postAll_clusters (s : State) (e : Event) : (s.postAll e).clusters = s.clusters := offerAll_clusters _ _ _
@[simp] theorem postObj_clusters (s : State) (i : Nat) (e : Event) : (s.postObj i e).clusters = s.clusters := offerAll_clusters _ _ _
@[simp] theorem offerAll_confs (s : State) (l : List Nat) (e : Event) : (s.offerAll l e).confs = s.confs := by
  obtain ⟨a, b, h⟩ := offerAll_shape s l e; rw [h]
@[simp] theorem postAll_confs (s : State) (e : Event) : (s.postAll e).confs = s.confs := offerAll_confs _ _ _
@[simp] theorem postObj_confs (s : State) (i : Nat) (e : Event) : (s.postObj i e).confs = s.confs := offerAll_confs _ _ _
@[simp] theorem offerAll_legs (s : State) (l : List Nat) (e : Event) : (s.offerAll l e).legs = s.legs := by
  obtain ⟨a, b, h⟩ := offerAll_shape s l e; rw [h]
@[simp] theorem postAll_legs (s : State) (e : Event) : (s.postAll e).legs = s.legs := offerAll_legs _ _ _
@[simp] theorem postObj_legs (s : State) (i : Nat) (e : Event) : (s.postObj i e).legs = s.legs := offerAll_legs _ _ _
@[simp] theorem offerAll_gens (s : State) (l : List Nat) (e : Event) : (s.offerAll l e).gens = s.gens := by
  obtain ⟨a, b, h⟩ := offerAll_shape s l e; rw [h]
@[simp] theorem postAll_gens (s : State) (e : Event) : (s.postAll e).gens = s.gens := offerAll_gens _ _ _
@[simp] theorem postObj_gens (s : State) (i : Nat) (e : Event) : (s.postObj i e).gens = s.gens := offerAll_gens _ _ _
@[simp] theorem offerAll_dying (s : State) (l : List Nat) (e : Event) : (s.offerAll l e).dying = s.dying := by
  obtain ⟨a, b, h⟩ := offerAll_shape s l e; rw [h]
@[simp] theorem postAll_dying (s : State) (e : Event) : (s.postAll e).dying = s.dying := offerAll_dying _ _ _
@[simp] theorem postObj_dying (s : State) (i : Nat) (e : Event) : (s.postObj i e).dying = s.dying := offerAll_dying _ _ _
@[simp] theorem offerAll_keyDying (s : State) (l : List Nat) (e : Event) : (s.offerAll l e).keyDying = s.keyDying := by
  obtain ⟨a, b, h⟩ := offerAll_shape s l e; rw [h]
@[simp] theorem postAll_keyDying (s : State) (e : Event) : (s.postAll e).keyDying = s.keyDying := offerAll_keyDying _ _ _
@[simp] theorem postObj_keyDying (s : State) (i : Nat) (e : Event) : (s.postObj i e).keyDying = s.keyDying := offerAll_keyDying _ _ _
@[simp] theorem offerAll_hamperOrder (s : State) (l : List Nat) (e : Event) : (s.offerAll l e).hamperOrder = s.hamperOrder := by
  obtain ⟨a, b, h⟩ := offerAll_shape s l e; rw [h]
@[simp] theorem postAll_hamperOrder (s : State) (e : Event) : (s.postAll e).hamperOrder = s.hamperOrder := offerAll_hamperOrder _ _ _
@[simp] theorem postObj_hamperOrder (s : State) (i : Nat) (e : Event) : (s.postObj i e).hamperOrder = s.hamperOrder := offerAll_hamperOrder _ _ _
@[simp] theorem offerAll_decJobs (s : State) (l : List Nat) (e : Event) : (s.offerAll l e).decJobs = s.decJobs := by
  obtain ⟨a, b, h⟩ := offerAll_shape s l e; rw [h]
@[simp] theorem postAll_decJobs (s : State) (e : Event) : (s.postAll e).decJobs = s.decJobs := offerAll_decJobs _ _ _
@[simp] theorem postObj_decJobs (s : State) (i : Nat) (e : Event) : (s.postObj i e).decJobs = s.decJobs := offerAll_decJobs _ _ _
@[simp] theorem offerAll_encJobs (s : State) (l : List Nat) (e : Event) : (s.offerAll l e).encJobs = s.encJobs := by
  obtain ⟨a, b, h⟩ := offerAll_shape s l e; rw [h]
@[simp] theorem postAll_encJobs (s : State) (e : Event) : (s.postAll e).encJobs = s.encJobs := offerAll_encJobs _ _ _
@[simp] theorem postObj_encJobs (s : State) (i : Nat) (e : Event) : (s.postObj i e).encJobs = s.encJobs := offerAll_encJobs _ _ _
@[simp] theorem offerAll_jobTracks (s : State) (l : List Nat) (e : Event) : (s.offerAll l e).jobTracks = s.jobTracks := by
  obtain ⟨a, b, h⟩ := offerAll_shape s l e; rw [h]
@[simp] theorem postAll_jobTracks (s : State) (e : Event) : (s.postAll e).jobTracks = s.jobTracks := offerAll_jobTracks _ _ _
@[simp] theorem postObj_jobTracks (s : State) (i : Nat) (e : Event) : (s.postObj i e).jobTracks = s.jobTracks := offerAll_jobTracks _ _ _
@[simp] theorem offerAll_engines (s : State) (l : List Nat) (e : Event) : (s.offerAll l e).engines = s.engines := by
  obtain ⟨a, b, h⟩ := offerAll_shape s l e; rw [h]
@[simp] theorem postAll_engines (s : State) (e : Event) : (s.postAll e).engines = s.engines := offerAll_engines _ _ _
@[simp] theorem postObj_engines (s : State) (i : Nat) (e : Event) : (s.postObj i e).engines = s.engines := offerAll_engines _ _ _
@[simp] theorem offerAll_canvases (s : State) (l : List Nat) (e : Event) : (s.offerAll l e).canvases = s.canvases := by
  obtain ⟨a, b, h⟩ := offerAll_shape s l e; rw [h]
@[simp] theorem postAll_canvases (s : State) (e : Event) : (s.postAll e).canvases = s.canvases := offerAll_canvases _ _ _
@[simp] theorem postObj_canvases (s : State) (i : Nat) (e : Event) : (s.postObj i e).canvases = s.canvases := offerAll_canvases _ _ _
@[simp] theorem offerAll_hostCopy (s : State) (l : List Nat) (e : Event) : (s.offerAll l e).hostCopy = s.hostCopy := by
  obtain ⟨a, b, h⟩ := offerAll_shape s l e; rw [h]
@[simp] theorem postAll_hostCopy (s : State) (e : Event) : (s.postAll e).hostCopy = s.hostCopy := offerAll_hostCopy _ _ _
@[simp] theorem postObj_hostCopy (s : State) (i : Nat) (e : Event) : (s.postObj i e).hostCopy = s.hostCopy := offerAll_hostCopy _ _ _
@[simp] theorem offerAll_stages (s : State) (l : List Nat) (e : Event) : (s.offerAll l e).stages = s.stages := by
  obtain ⟨a, b, h⟩ := offerAll_shape s l e; rw [h]
@[simp] theorem postAll_stages (s : State) (e : Event) : (s.postAll e).stages = s.stages := offerAll_stages _ _ _
@[simp] theorem postObj_stages (s : State) (i : Nat) (e : Event) : (s.postObj i e).stages = s.stages := offerAll_stages _ _ _
@[simp] theorem offerAll_stageAtts (s : State) (l : List Nat) (e : Event) : (s.offerAll l e).stageAtts = s.stageAtts := by
  obtain ⟨a, b, h⟩ := offerAll_shape s l e; rw [h]
@[simp] theorem postAll_stageAtts (s : State) (e : Event) : (s.postAll e).stageAtts = s.stageAtts := offerAll_stageAtts _ _ _
@[simp] theorem postObj_stageAtts (s : State) (i : Nat) (e : Event) : (s.postObj i e).stageAtts = s.stageAtts := offerAll_stageAtts _ _ _
@[simp] theorem offerAll_stageGone (s : State) (l : List Nat) (e : Event) : (s.offerAll l e).stageGone = s.stageGone := by
  obtain ⟨a, b, h⟩ := offerAll_shape s l e; rw [h]
@[simp] theorem postAll_stageGone (s : State) (e : Event) : (s.postAll e).stageGone = s.stageGone := offerAll_stageGone _ _ _
@[simp] theorem postObj_stageGone (s : State) (i : Nat) (e : Event) : (s.postObj i e).stageGone = s.stageGone := offerAll_stageGone _ _ _
@[simp] theorem offerAll_cores (s : State) (l : List Nat) (e : Event) : (s.offerAll l e).cores = s.cores := by
  obtain ⟨a, b, h⟩ := offerAll_shape s l e; rw [h]
@[simp] theorem postAll_cores (s : State) (e : Event) : (s.postAll e).cores = s.cores := offerAll_cores _ _ _
@[simp] theorem postObj_cores (s : State) (i : Nat) (e : Event) : (s.postObj i e).cores = s.cores := offerAll_cores _ _ _
@[simp] theorem offerAll_pages (s : State) (l : List Nat) (e : Event) : (s.offerAll l e).pages = s.pages := by
  obtain ⟨a, b, h⟩ := offerAll_shape s l e; rw [h]
@[simp] theorem postAll_pages (s : State) (e : Event) : (s.postAll e).pages = s.pages := offerAll_pages _ _ _
@[simp] theorem postObj_pages (s : State) (i : Nat) (e : Event) : (s.postObj i e).pages = s.pages := offerAll_pages _ _ _
@[simp] theorem offerAll_ciphers (s : State) (l : List Nat) (e : Event) : (s.offerAll l e).ciphers = s.ciphers := by
  obtain ⟨a, b, h⟩ := offerAll_shape s l e; rw [h]
@[simp] theorem postAll_ciphers (s : State) (e : Event) : (s.postAll e).ciphers = s.ciphers := offerAll_ciphers _ _ _
@[simp] theorem postObj_ciphers (s : State) (i : Nat) (e : Event) : (s.postObj i e).ciphers = s.ciphers := offerAll_ciphers _ _ _
@[simp] theorem offerAll_inQ (s : State) (l : List Nat) (e : Event) : (s.offerAll l e).inQ = s.inQ := by
  obtain ⟨a, b, h⟩ := offerAll_shape s l e; rw [h]
@[simp] theorem postAll_inQ (s : State) (e : Event) : (s.postAll e).inQ = s.inQ := offerAll_inQ _ _ _
@[simp] theorem postObj_inQ (s : State) (i : Nat) (e : Event) : (s.postObj i e).inQ = s.inQ := offerAll_inQ _ _ _
@[simp] theorem offerAll_fwdQ (s : State) (l : List Nat) (e : Event) : (s.offerAll l e).fwdQ = s.fwdQ := by
  obtain ⟨a, b, h⟩ := offerAll_shape s l e; rw [h]
@[simp] theorem postAll_fwdQ (s : State) (e : Event) : (s.postAll e).fwdQ = s.fwdQ := offerAll_fwdQ _ _ _
@[simp] theorem postObj_fwdQ (s : State) (i : Nat) (e : Event) : (s.postObj i e).fwdQ = s.fwdQ := offerAll_fwdQ _ _ _
@[simp] theorem offerAll_outQ (s : State) (l : List Nat) (e : Event) : (s.offerAll l e).outQ = s.outQ := by
  obtain ⟨a, b, h⟩ := offerAll_shape s l e; rw [h]
@[simp] theorem postAll_outQ (s : State) (e : Event) : (s.postAll e).outQ = s.outQ := offerAll_outQ _ _ _
@[simp] theorem postObj_outQ (s : State) (i : Nat) (e : Event) : (s.postObj i e).outQ = s.outQ := offerAll_outQ _ _ _
@[simp] theorem offerAll_nodes (s : State) (l : List Nat) (e : Event) : (s.offerAll l e).nodes = s.nodes := by
  obtain ⟨a, b, h⟩ := offerAll_shape s l e; rw [h]
@[simp] theorem postAll_nodes (s : State) (e : Event) : (s.postAll e).nodes = s.nodes := offerAll_nodes _ _ _
@[simp] theorem postObj_nodes (s : State) (i : Nat) (e : Event) : (s.postObj i e).nodes = s.nodes := offerAll_nodes _ _ _
@[simp] theorem offerAll_ports (s : State) (l : List Nat) (e : Event) : (s.offerAll l e).ports = s.ports := by
  obtain ⟨a, b, h⟩ := offerAll_shape s l e; rw [h]
@[simp] theorem postAll_ports (s : State) (e : Event) : (s.postAll e).ports = s.ports := offerAll_ports _ _ _
@[simp] theorem postObj_ports (s : State) (i : Nat) (e : Event) : (s.postObj i e).ports = s.ports := offerAll_ports _ _ _
@[simp] theorem offerAll_casc (s : State) (l : List Nat) (e : Event) : (s.offerAll l e).casc = s.casc := by
  obtain ⟨a, b, h⟩ := offerAll_shape s l e; rw [h]
@[simp] theorem postAll_casc (s : State) (e : Event) : (s.postAll e).casc = s.casc := offerAll_casc _ _ _
@[simp] theorem postObj_casc (s : State) (i : Nat) (e : Event) : (s.postObj i e).casc = s.casc := offerAll_casc _ _ _
@[simp] theorem offerAll_hbm (s : State) (l : List Nat) (e : Event) : (s.offerAll l e).hbm = s.hbm := by
  obtain ⟨a, b, h⟩ := offerAll_shape s l e; rw [h]
@[simp] theorem postAll_hbm (s : State) (e : Event) : (s.postAll e).hbm = s.hbm := offerAll_hbm _ _ _
@[simp] theorem postObj_hbm (s : State) (i : Nat) (e : Event) : (s.postObj i e).hbm = s.hbm := offerAll_hbm _ _ _
@[simp] theorem offerAll_mem (s : State) (l : List Nat) (e : Event) : (s.offerAll l e).mem = s.mem := by
  obtain ⟨a, b, h⟩ := offerAll_shape s l e; rw [h]
@[simp] theorem postAll_mem (s : State) (e : Event) : (s.postAll e).mem = s.mem := offerAll_mem _ _ _
@[simp] theorem postObj_mem (s : State) (i : Nat) (e : Event) : (s.postObj i e).mem = s.mem := offerAll_mem _ _ _
@[simp] theorem offerAll_prot (s : State) (l : List Nat) (e : Event) : (s.offerAll l e).prot = s.prot := by
  obtain ⟨a, b, h⟩ := offerAll_shape s l e; rw [h]
@[simp] theorem postAll_prot (s : State) (e : Event) : (s.postAll e).prot = s.prot := offerAll_prot _ _ _
@[simp] theorem postObj_prot (s : State) (i : Nat) (e : Event) : (s.postObj i e).prot = s.prot := offerAll_prot _ _ _
@[simp] theorem offerAll_upd (s : State) (l : List Nat) (e : Event) : (s.offerAll l e).upd = s.upd := by
  obtain ⟨a, b, h⟩ := offerAll_shape s l e; rw [h]
@[simp] theorem postAll_upd (s : State) (e : Event) : (s.postAll e).upd = s.upd := offerAll_upd _ _ _
@[simp] theorem postObj_upd (s : State) (i : Nat) (e : Event) : (s.postObj i e).upd = s.upd := offerAll_upd _ _ _
@[simp] theorem offerAll_power (s : State) (l : List Nat) (e : Event) : (s.offerAll l e).power = s.power := by
  obtain ⟨a, b, h⟩ := offerAll_shape s l e; rw [h]
@[simp] theorem postAll_power (s : State) (e : Event) : (s.postAll e).power = s.power := offerAll_power _ _ _
@[simp] theorem postObj_power (s : State) (i : Nat) (e : Event) : (s.postObj i e).power = s.power := offerAll_power _ _ _
@[simp] theorem offerAll_pins (s : State) (l : List Nat) (e : Event) : (s.offerAll l e).pins = s.pins := by
  obtain ⟨a, b, h⟩ := offerAll_shape s l e; rw [h]
@[simp] theorem postAll_pins (s : State) (e : Event) : (s.postAll e).pins = s.pins := offerAll_pins _ _ _
@[simp] theorem postObj_pins (s : State) (i : Nat) (e : Event) : (s.postObj i e).pins = s.pins := offerAll_pins _ _ _
@[simp] theorem complete_pending (s : State) (o : LongOp) (e : Event) (st : Nat) : (s.complete o e st).pending = s.pending := by
  obtain ⟨a, b, h⟩ := complete_shape s o e st; rw [h]
@[simp] theorem opDone_pending (s : State) (o : LongOp) (st d : Nat) : (s.opDone o st d).pending = s.pending := complete_pending _ _ _ _
@[simp] theorem complete_fresh (s : State) (o : LongOp) (e : Event) (st : Nat) : (s.complete o e st).fresh = s.fresh := by
  obtain ⟨a, b, h⟩ := complete_shape s o e st; rw [h]
@[simp] theorem opDone_fresh (s : State) (o : LongOp) (st d : Nat) : (s.opDone o st d).fresh = s.fresh := complete_fresh _ _ _ _
@[simp] theorem complete_rdata (s : State) (o : LongOp) (e : Event) (st : Nat) : (s.complete o e st).rdata = s.rdata := by
  obtain ⟨a, b, h⟩ := complete_shape s o e st; rw [h]
@[simp] theorem opDone_rdata (s : State) (o : LongOp) (st d : Nat) : (s.opDone o st d).rdata = s.rdata := complete_rdata _ _ _ _
@[simp] theorem complete_chans (s : State) (o : LongOp) (e : Event) (st : Nat) : (s.complete o e st).chans = s.chans := by
  obtain ⟨a, b, h⟩ := complete_shape s o e st; rw [h]
@[simp] theorem opDone_chans (s : State) (o : LongOp) (st d : Nat) : (s.opDone o st d).chans = s.chans := complete_chans _ _ _ _
@[simp] theorem complete_binds (s : State) (o : LongOp) (e : Event) (st : Nat) : (s.complete o e st).binds = s.binds := by
  obtain ⟨a, b, h⟩ := complete_shape s o e st; rw [h]
@[simp] theorem opDone_binds (s : State) (o : LongOp) (st d : Nat) : (s.opDone o st d).binds = s.binds := complete_binds _ _ _ _
@[simp] theorem complete_bindLock (s : State) (o : LongOp) (e : Event) (st : Nat) : (s.complete o e st).bindLock = s.bindLock := by
  obtain ⟨a, b, h⟩ := complete_shape s o e st; rw [h]
@[simp] theorem opDone_bindLock (s : State) (o : LongOp) (st d : Nat) : (s.opDone o st d).bindLock = s.bindLock := complete_bindLock _ _ _ _
@[simp] theorem complete_time (s : State) (o : LongOp) (e : Event) (st : Nat) : (s.complete o e st).time = s.time := by
  obtain ⟨a, b, h⟩ := complete_shape s o e st; rw [h]
@[simp] theorem opDone_time (s : State) (o : LongOp) (st d : Nat) : (s.opDone o st d).time = s.time := complete_time _ _ _ _
@[simp] theorem complete_trail (s : State) (o : LongOp) (e : Event) (st : Nat) : (s.complete o e st).trail = s.trail := by
  obtain ⟨a, b, h⟩ := complete_shape s o e st; rw [h]
@[simp] theorem opDone_trail (s : State) (o : LongOp) (st d : Nat) : (s.opDone o st d).trail = s.trail := complete_trail _ _ _ _
@[simp] theorem complete_clusters (s : State) (o : LongOp) (e : Event) (st : Nat) : (s.complete o e st).clusters = s.clusters := by
  obtain ⟨a, b, h⟩ := complete_shape s o e st; rw [h]
@[simp] theorem opDone_clusters (s : State) (o : LongOp) (st d : Nat) : (s.opDone o st d).clusters = s.clusters := complete_clusters _ _ _ _
@[simp] theorem complete_confs (s : State) (o : LongOp) (e : Event) (st : Nat) : (s.complete o e st).confs = s.confs := by
  obtain ⟨a, b, h⟩ := complete_shape s o e st; rw [h]
@[simp] theorem opDone_confs (s : State) (o : LongOp) (st d : Nat) : (s.opDone o st d).confs = s.confs := complete_confs _ _ _ _
@[simp] theorem complete_legs (s : State) (o : LongOp) (e : Event) (st : Nat) : (s.complete o e st).legs = s.legs := by
  obtain ⟨a, b, h⟩ := complete_shape s o e st; rw [h]
@[simp] theorem opDone_legs (s : State) (o : LongOp) (st d : Nat) : (s.opDone o st d).legs = s.legs := complete_legs _ _ _ _
@[simp] theorem complete_gens (s : State) (o : LongOp) (e : Event) (st : Nat) : (s.complete o e st).gens = s.gens := by
  obtain ⟨a, b, h⟩ := complete_shape s o e st; rw [h]
@[simp] theorem opDone_gens (s : State) (o : LongOp) (st d : Nat) : (s.opDone o st d).gens = s.gens := complete_gens _ _ _ _
@[simp] theorem complete_dying (s : State) (o : LongOp) (e : Event) (st : Nat) : (s.complete o e st).dying = s.dying := by
  obtain ⟨a, b, h⟩ := complete_shape s o e st; rw [h]
@[simp] theorem opDone_dying (s : State) (o : LongOp) (st d : Nat) : (s.opDone o st d).dying = s.dying := complete_dying _ _ _ _
@[simp] theorem complete_keyDying (s : State) (o : LongOp) (e : Event) (st : Nat) : (s.complete o e st).keyDying = s.keyDying := by
  obtain ⟨a, b, h⟩ := complete_shape s o e st; rw [h]
@[simp] theorem opDone_keyDying (s : State) (o : LongOp) (st d : Nat) : (s.opDone o st d).keyDying = s.keyDying := complete_keyDying _ _ _ _
@[simp] theorem complete_hamperOrder (s : State) (o : LongOp) (e : Event) (st : Nat) : (s.complete o e st).hamperOrder = s.hamperOrder := by
  obtain ⟨a, b, h⟩ := complete_shape s o e st; rw [h]
@[simp] theorem opDone_hamperOrder (s : State) (o : LongOp) (st d : Nat) : (s.opDone o st d).hamperOrder = s.hamperOrder := complete_hamperOrder _ _ _ _
@[simp] theorem complete_decJobs (s : State) (o : LongOp) (e : Event) (st : Nat) : (s.complete o e st).decJobs = s.decJobs := by
  obtain ⟨a, b, h⟩ := complete_shape s o e st; rw [h]
@[simp] theorem opDone_decJobs (s : State) (o : LongOp) (st d : Nat) : (s.opDone o st d).decJobs = s.decJobs := complete_decJobs _ _ _ _
@[simp] theorem complete_encJobs (s : State) (o : LongOp) (e : Event) (st : Nat) : (s.complete o e st).encJobs = s.encJobs := by
  obtain ⟨a, b, h⟩ := complete_shape s o e st; rw [h]
@[simp] theorem opDone_encJobs (s : State) (o : LongOp) (st d : Nat) : (s.opDone o st d).encJobs = s.encJobs := complete_encJobs _ _ _ _
@[simp] theorem complete_jobTracks (s : State) (o : LongOp) (e : Event) (st : Nat) : (s.complete o e st).jobTracks = s.jobTracks := by
  obtain ⟨a, b, h⟩ := complete_shape s o e st; rw [h]
@[simp] theorem opDone_jobTracks (s : State) (o : LongOp) (st d : Nat) : (s.opDone o st d).jobTracks = s.jobTracks := complete_jobTracks _ _ _ _
@[simp] theorem complete_engines (s : State) (o : LongOp) (e : Event) (st : Nat) : (s.complete o e st).engines = s.engines := by
  obtain ⟨a, b, h⟩ := complete_shape s o e st; rw [h]
@[simp] theorem opDone_engines (s : State) (o : LongOp) (st d : Nat) : (s.opDone o st d).engines = s.engines := complete_engines _ _ _ _
@[simp] theorem complete_canvases (s : State) (o : LongOp) (e : Event) (st : Nat) : (s.complete o e st).canvases = s.canvases := by
  obtain ⟨a, b, h⟩ := complete_shape s o e st; rw [h]
@[simp] theorem opDone_canvases (s : State) (o : LongOp) (st d : Nat) : (s.opDone o st d).canvases = s.canvases := complete_canvases _ _ _ _
@[simp] theorem complete_hostCopy (s : State) (o : LongOp) (e : Event) (st : Nat) : (s.complete o e st).hostCopy = s.hostCopy := by
  obtain ⟨a, b, h⟩ := complete_shape s o e st; rw [h]
@[simp] theorem opDone_hostCopy (s : State) (o : LongOp) (st d : Nat) : (s.opDone o st d).hostCopy = s.hostCopy := complete_hostCopy _ _ _ _
@[simp] theorem complete_stages (s : State) (o : LongOp) (e : Event) (st : Nat) : (s.complete o e st).stages = s.stages := by
  obtain ⟨a, b, h⟩ := complete_shape s o e st; rw [h]
@[simp] theorem opDone_stages (s : State) (o : LongOp) (st d : Nat) : (s.opDone o st d).stages = s.stages := complete_stages _ _ _ _
@[simp] theorem complete_stageAtts (s : State) (o : LongOp) (e : Event) (st : Nat) : (s.complete o e st).stageAtts = s.stageAtts := by
  obtain ⟨a, b, h⟩ := complete_shape s o e st; rw [h]
@[simp] theorem opDone_stageAtts (s : State) (o : LongOp) (st d : Nat) : (s.opDone o st d).stageAtts = s.stageAtts := complete_stageAtts _ _ _ _
@[simp] theorem complete_stageGone (s : State) (o : LongOp) (e : Event) (st : Nat) : (s.complete o e st).stageGone = s.stageGone := by
  obtain ⟨a, b, h⟩ := complete_shape s o e st; rw [h]
@[simp] theorem opDone_stageGone (s : State) (o : LongOp) (st d : Nat) : (s.opDone o st d).stageGone = s.stageGone := complete_stageGone _ _ _ _
@[simp] theorem complete_cores (s : State) (o : LongOp) (e : Event) (st : Nat) : (s.complete o e st).cores = s.cores := by
  obtain ⟨a, b, h⟩ := complete_shape s o e st; rw [h]
@[simp] theorem opDone_cores (s : State) (o : LongOp) (st d : Nat) : (s.opDone o st d).cores = s.cores := complete_cores _ _ _ _
@[simp] theorem complete_pages (s : State) (o : LongOp) (e : Event) (st : Nat) : (s.complete o e st).pages = s.pages := by
  obtain ⟨a, b, h⟩ := complete_shape s o e st; rw [h]
@[simp] theorem opDone_pages (s : State) (o : LongOp) (st d : Nat) : (s.opDone o st d).pages = s.pages := complete_pages _ _ _ _
@[simp] theorem complete_ciphers (s : State) (o : LongOp) (e : Event) (st : Nat) : (s.complete o e st).ciphers = s.ciphers := by
  obtain ⟨a, b, h⟩ := complete_shape s o e st; rw [h]
@[simp] theorem opDone_ciphers (s : State) (o : LongOp) (st d : Nat) : (s.opDone o st d).ciphers = s.ciphers := complete_ciphers _ _ _ _
@[simp] theorem complete_inQ (s : State) (o : LongOp) (e : Event) (st : Nat) : (s.complete o e st).inQ = s.inQ := by
  obtain ⟨a, b, h⟩ := complete_shape s o e st; rw [h]
@[simp] theorem opDone_inQ (s : State) (o : LongOp) (st d : Nat) : (s.opDone o st d).inQ = s.inQ := complete_inQ _ _ _ _
@[simp] theorem complete_fwdQ (s : State) (o : LongOp) (e : Event) (st : Nat) : (s.complete o e st).fwdQ = s.fwdQ := by
  obtain ⟨a, b, h⟩ := complete_shape s o e st; rw [h]
@[simp] theorem opDone_fwdQ (s : State) (o : LongOp) (st d : Nat) : (s.opDone o st d).fwdQ = s.fwdQ := complete_fwdQ _ _ _ _
@[simp] theorem complete_outQ (s : State) (o : LongOp) (e : Event) (st : Nat) : (s.complete o e st).outQ = s.outQ := by
  obtain ⟨a, b, h⟩ := complete_shape s o e st; rw [h]
@[simp] theorem opDone_outQ (s : State) (o : LongOp) (st d : Nat) : (s.opDone o st d).outQ = s.outQ := complete_outQ _ _ _ _
@[simp] theorem complete_nodes (s : State) (o : LongOp) (e : Event) (st : Nat) : (s.complete o e st).nodes = s.nodes := by
  obtain ⟨a, b, h⟩ := complete_shape s o e st; rw [h]
@[simp] theorem opDone_nodes (s : State) (o : LongOp) (st d : Nat) : (s.opDone o st d).nodes = s.nodes := complete_nodes _ _ _ _
@[simp] theorem complete_ports (s : State) (o : LongOp) (e : Event) (st : Nat) : (s.complete o e st).ports = s.ports := by
  obtain ⟨a, b, h⟩ := complete_shape s o e st; rw [h]
@[simp] theorem opDone_ports (s : State) (o : LongOp) (st d : Nat) : (s.opDone o st d).ports = s.ports := complete_ports _ _ _ _
@[simp] theorem complete_casc (s : State) (o : LongOp) (e : Event) (st : Nat) : (s.complete o e st).casc = s.casc := by
  obtain ⟨a, b, h⟩ := complete_shape s o e st; rw [h]
@[simp] theorem opDone_casc (s : State) (o : LongOp) (st d : Nat) : (s.opDone o st d).casc = s.casc := complete_casc _ _ _ _
@[simp] theorem complete_hbm (s : State) (o : LongOp) (e : Event) (st : Nat) : (s.complete o e st).hbm = s.hbm := by
  obtain ⟨a, b, h⟩ := complete_shape s o e st; rw [h]
@[simp] theorem opDone_hbm (s : State) (o : LongOp) (st d : Nat) : (s.opDone o st d).hbm = s.hbm := complete_hbm _ _ _ _
@[simp] theorem complete_mem (s : State) (o : LongOp) (e : Event) (st : Nat) : (s.complete o e st).mem = s.mem := by
  obtain ⟨a, b, h⟩ := complete_shape s o e st; rw [h]
@[simp] theorem opDone_mem (s : State) (o : LongOp) (st d : Nat) : (s.opDone o st d).mem = s.mem := complete_mem _ _ _ _
@[simp] theorem complete_prot (s : State) (o : LongOp) (e : Event) (st : Nat) : (s.complete o e st).prot = s.prot := by
  obtain ⟨a, b, h⟩ := complete_shape s o e st; rw [h]
@[simp] theorem opDone_prot (s : State) (o : LongOp) (st d : Nat) : (s.opDone o st d).prot = s.prot := complete_prot _ _ _ _
@[simp] theorem complete_upd (s : State) (o : LongOp) (e : Event) (st : Nat) : (s.complete o e st).upd = s.upd := by
  obtain ⟨a, b, h⟩ := complete_shape s o e st; rw [h]
@[simp] theorem opDone_upd (s : State) (o : LongOp) (st d : Nat) : (s.opDone o st d).upd = s.upd := complete_upd _ _ _ _
@[simp] theorem complete_power (s : State) (o : LongOp) (e : Event) (st : Nat) : (s.complete o e st).power = s.power := by
  obtain ⟨a, b, h⟩ := complete_shape s o e st; rw [h]
@[simp] theorem opDone_power (s : State) (o : LongOp) (st d : Nat) : (s.opDone o st d).power = s.power := complete_power _ _ _ _
@[simp] theorem complete_pins (s : State) (o : LongOp) (e : Event) (st : Nat) : (s.complete o e st).pins = s.pins := by
  obtain ⟨a, b, h⟩ := complete_shape s o e st; rw [h]
@[simp] theorem opDone_pins (s : State) (o : LongOp) (st d : Nat) : (s.opDone o st d).pins = s.pins := complete_pins _ _ _ _
@[simp] theorem complete_mon (s : State) (o : LongOp) (e : Event) (st : Nat) : (s.complete o e st).mon = s.mon := by
  obtain ⟨a, b, h⟩ := complete_shape s o e st; rw [h]
@[simp] theorem opDone_mon (s : State) (o : LongOp) (st d : Nat) : (s.opDone o st d).mon = s.mon := complete_mon _ _ _ _
@[simp] theorem answered_pending (u : State) (c : Ctx) (st d : Nat) (ws : List Nat) : (u.answered c st d ws).pending = u.pending := by
  obtain ⟨a, b, q, r, h⟩ := answered_shape u c st d ws; rw [h]
@[simp] theorem answered_fresh (u : State) (c : Ctx) (st d : Nat) (ws : List Nat) : (u.answered c st d ws).fresh = u.fresh := by
  obtain ⟨a, b, q, r, h⟩ := answered_shape u c st d ws; rw [h]
@[simp] theorem answered_rdata (u : State) (c : Ctx) (st d : Nat) (ws : List Nat) : (u.answered c st d ws).rdata = u.rdata := by
  obtain ⟨a, b, q, r, h⟩ := answered_shape u c st d ws; rw [h]
@[simp] theorem answered_binds (u : State) (c : Ctx) (st d : Nat) (ws : List Nat) : (u.answered c st d ws).binds = u.binds := by
  obtain ⟨a, b, q, r, h⟩ := answered_shape u c st d ws; rw [h]
@[simp] theorem answered_bindLock (u : State) (c : Ctx) (st d : Nat) (ws : List Nat) : (u.answered c st d ws).bindLock = u.bindLock := by
  obtain ⟨a, b, q, r, h⟩ := answered_shape u c st d ws; rw [h]
@[simp] theorem answered_time (u : State) (c : Ctx) (st d : Nat) (ws : List Nat) : (u.answered c st d ws).time = u.time := by
  obtain ⟨a, b, q, r, h⟩ := answered_shape u c st d ws; rw [h]
@[simp] theorem answered_trail (u : State) (c : Ctx) (st d : Nat) (ws : List Nat) : (u.answered c st d ws).trail = u.trail := by
  obtain ⟨a, b, q, r, h⟩ := answered_shape u c st d ws; rw [h]
@[simp] theorem answered_clusters (u : State) (c : Ctx) (st d : Nat) (ws : List Nat) : (u.answered c st d ws).clusters = u.clusters := by
  obtain ⟨a, b, q, r, h⟩ := answered_shape u c st d ws; rw [h]
@[simp] theorem answered_confs (u : State) (c : Ctx) (st d : Nat) (ws : List Nat) : (u.answered c st d ws).confs = u.confs := by
  obtain ⟨a, b, q, r, h⟩ := answered_shape u c st d ws; rw [h]
@[simp] theorem answered_legs (u : State) (c : Ctx) (st d : Nat) (ws : List Nat) : (u.answered c st d ws).legs = u.legs := by
  obtain ⟨a, b, q, r, h⟩ := answered_shape u c st d ws; rw [h]
@[simp] theorem answered_gens (u : State) (c : Ctx) (st d : Nat) (ws : List Nat) : (u.answered c st d ws).gens = u.gens := by
  obtain ⟨a, b, q, r, h⟩ := answered_shape u c st d ws; rw [h]
@[simp] theorem answered_dying (u : State) (c : Ctx) (st d : Nat) (ws : List Nat) : (u.answered c st d ws).dying = u.dying := by
  obtain ⟨a, b, q, r, h⟩ := answered_shape u c st d ws; rw [h]
@[simp] theorem answered_keyDying (u : State) (c : Ctx) (st d : Nat) (ws : List Nat) : (u.answered c st d ws).keyDying = u.keyDying := by
  obtain ⟨a, b, q, r, h⟩ := answered_shape u c st d ws; rw [h]
@[simp] theorem answered_hamperOrder (u : State) (c : Ctx) (st d : Nat) (ws : List Nat) : (u.answered c st d ws).hamperOrder = u.hamperOrder := by
  obtain ⟨a, b, q, r, h⟩ := answered_shape u c st d ws; rw [h]
@[simp] theorem answered_decJobs (u : State) (c : Ctx) (st d : Nat) (ws : List Nat) : (u.answered c st d ws).decJobs = u.decJobs := by
  obtain ⟨a, b, q, r, h⟩ := answered_shape u c st d ws; rw [h]
@[simp] theorem answered_encJobs (u : State) (c : Ctx) (st d : Nat) (ws : List Nat) : (u.answered c st d ws).encJobs = u.encJobs := by
  obtain ⟨a, b, q, r, h⟩ := answered_shape u c st d ws; rw [h]
@[simp] theorem answered_jobTracks (u : State) (c : Ctx) (st d : Nat) (ws : List Nat) : (u.answered c st d ws).jobTracks = u.jobTracks := by
  obtain ⟨a, b, q, r, h⟩ := answered_shape u c st d ws; rw [h]
@[simp] theorem answered_engines (u : State) (c : Ctx) (st d : Nat) (ws : List Nat) : (u.answered c st d ws).engines = u.engines := by
  obtain ⟨a, b, q, r, h⟩ := answered_shape u c st d ws; rw [h]
@[simp] theorem answered_canvases (u : State) (c : Ctx) (st d : Nat) (ws : List Nat) : (u.answered c st d ws).canvases = u.canvases := by
  obtain ⟨a, b, q, r, h⟩ := answered_shape u c st d ws; rw [h]
@[simp] theorem answered_hostCopy (u : State) (c : Ctx) (st d : Nat) (ws : List Nat) : (u.answered c st d ws).hostCopy = u.hostCopy := by
  obtain ⟨a, b, q, r, h⟩ := answered_shape u c st d ws; rw [h]
@[simp] theorem answered_stages (u : State) (c : Ctx) (st d : Nat) (ws : List Nat) : (u.answered c st d ws).stages = u.stages := by
  obtain ⟨a, b, q, r, h⟩ := answered_shape u c st d ws; rw [h]
@[simp] theorem answered_stageAtts (u : State) (c : Ctx) (st d : Nat) (ws : List Nat) : (u.answered c st d ws).stageAtts = u.stageAtts := by
  obtain ⟨a, b, q, r, h⟩ := answered_shape u c st d ws; rw [h]
@[simp] theorem answered_stageGone (u : State) (c : Ctx) (st d : Nat) (ws : List Nat) : (u.answered c st d ws).stageGone = u.stageGone := by
  obtain ⟨a, b, q, r, h⟩ := answered_shape u c st d ws; rw [h]
@[simp] theorem answered_cores (u : State) (c : Ctx) (st d : Nat) (ws : List Nat) : (u.answered c st d ws).cores = u.cores := by
  obtain ⟨a, b, q, r, h⟩ := answered_shape u c st d ws; rw [h]
@[simp] theorem answered_pages (u : State) (c : Ctx) (st d : Nat) (ws : List Nat) : (u.answered c st d ws).pages = u.pages := by
  obtain ⟨a, b, q, r, h⟩ := answered_shape u c st d ws; rw [h]
@[simp] theorem answered_ciphers (u : State) (c : Ctx) (st d : Nat) (ws : List Nat) : (u.answered c st d ws).ciphers = u.ciphers := by
  obtain ⟨a, b, q, r, h⟩ := answered_shape u c st d ws; rw [h]
@[simp] theorem answered_inQ (u : State) (c : Ctx) (st d : Nat) (ws : List Nat) : (u.answered c st d ws).inQ = u.inQ := by
  obtain ⟨a, b, q, r, h⟩ := answered_shape u c st d ws; rw [h]
@[simp] theorem answered_fwdQ (u : State) (c : Ctx) (st d : Nat) (ws : List Nat) : (u.answered c st d ws).fwdQ = u.fwdQ := by
  obtain ⟨a, b, q, r, h⟩ := answered_shape u c st d ws; rw [h]
@[simp] theorem answered_outQ (u : State) (c : Ctx) (st d : Nat) (ws : List Nat) : (u.answered c st d ws).outQ = u.outQ := by
  obtain ⟨a, b, q, r, h⟩ := answered_shape u c st d ws; rw [h]
@[simp] theorem answered_nodes (u : State) (c : Ctx) (st d : Nat) (ws : List Nat) : (u.answered c st d ws).nodes = u.nodes := by
  obtain ⟨a, b, q, r, h⟩ := answered_shape u c st d ws; rw [h]
@[simp] theorem answered_ports (u : State) (c : Ctx) (st d : Nat) (ws : List Nat) : (u.answered c st d ws).ports = u.ports := by
  obtain ⟨a, b, q, r, h⟩ := answered_shape u c st d ws; rw [h]
@[simp] theorem answered_casc (u : State) (c : Ctx) (st d : Nat) (ws : List Nat) : (u.answered c st d ws).casc = u.casc := by
  obtain ⟨a, b, q, r, h⟩ := answered_shape u c st d ws; rw [h]
@[simp] theorem answered_hbm (u : State) (c : Ctx) (st d : Nat) (ws : List Nat) : (u.answered c st d ws).hbm = u.hbm := by
  obtain ⟨a, b, q, r, h⟩ := answered_shape u c st d ws; rw [h]
@[simp] theorem answered_mem (u : State) (c : Ctx) (st d : Nat) (ws : List Nat) : (u.answered c st d ws).mem = u.mem := by
  obtain ⟨a, b, q, r, h⟩ := answered_shape u c st d ws; rw [h]
@[simp] theorem answered_prot (u : State) (c : Ctx) (st d : Nat) (ws : List Nat) : (u.answered c st d ws).prot = u.prot := by
  obtain ⟨a, b, q, r, h⟩ := answered_shape u c st d ws; rw [h]
@[simp] theorem answered_upd (u : State) (c : Ctx) (st d : Nat) (ws : List Nat) : (u.answered c st d ws).upd = u.upd := by
  obtain ⟨a, b, q, r, h⟩ := answered_shape u c st d ws; rw [h]
@[simp] theorem answered_power (u : State) (c : Ctx) (st d : Nat) (ws : List Nat) : (u.answered c st d ws).power = u.power := by
  obtain ⟨a, b, q, r, h⟩ := answered_shape u c st d ws; rw [h]
@[simp] theorem answered_pins (u : State) (c : Ctx) (st d : Nat) (ws : List Nat) : (u.answered c st d ws).pins = u.pins := by
  obtain ⟨a, b, q, r, h⟩ := answered_shape u c st d ws; rw [h]
@[simp] theorem answered_mon (u : State) (c : Ctx) (st d : Nat) (ws : List Nat) : (u.answered c st d ws).mon = u.mon := by
  obtain ⟨a, b, q, r, h⟩ := answered_shape u c st d ws; rw [h]

end Sys2Proof.Machine
end

