-- ==== Sys2Proof/Laws/Frames.lean ====
section
/-! SUPPORT. What the shared operations of failures, ports and legs leave unchanged: one lemma for each field that the
operation cannot change. -/

namespace Sys2Proof.Machine

/-- Changing host functions one after another leaves the rest of the state, and the functions not named. -/
theorem foldl_modFn {α : Type} (g : α → Nat) (h : State → α → Fn → Fn) : ∀ (l : List α) (s : State),
    l.foldl (fun s x => s.modFn (g x) (h s x)) s = { s with fns := (l.foldl (fun s x => s.modFn (g x) (h s x)) s).fns } ∧
    ∀ f, (∀ x ∈ l, g x ≠ f) → (l.foldl (fun s x => s.modFn (g x) (h s x)) s).fn f = s.fn f
  | [], _ => ⟨rfl, fun _ _ => rfl⟩
  | x :: l, s => by
    obtain ⟨h1, h2⟩ := foldl_modFn g h l (s.modFn (g x) (h s x))
    refine ⟨by simp only [List.foldl_cons]; exact h1, ?_⟩
    intro f hf
    simp only [List.foldl_cons]
    rw [h2 f (fun y hy => hf y (by simp [hy]))]
    exact State.modFn_fn_ne s (h s x) (fun e => hf x (by simp) e.symm)

/-- A takeover changes which pair is active, and tells the enabled event rings. -/
theorem takeControl_shape (s : State) :
    s.takeControl = { s with ctl := { s.ctl with active := 1 - s.ctl.active }, fns := s.takeControl.fns } :=
  (foldl_modFn (fun x => x) (fun (t : State) _ r => r.offer { code := evCtlTakeover, tick := t.tick }) ((List.range 128).filter fun f => (s.fn f).ev.en)
    { s with ctl := { s.ctl with active := 1 - s.ctl.active } }).1

@[simp] theorem domainOff_pending (s : State) (d : Nat) (b : Bool) : (s.domainOff d b).pending = s.pending := by
  simp only [State.domainOff]; split <;> rfl
@[simp] theorem domainOff_fresh (s : State) (d : Nat) (b : Bool) : (s.domainOff d b).fresh = s.fresh := by
  simp only [State.domainOff]; split <;> rfl
@[simp] theorem domainOff_rdata (s : State) (d : Nat) (b : Bool) : (s.domainOff d b).rdata = s.rdata := by
  simp only [State.domainOff]; split <;> rfl
@[simp] theorem domainOff_chans (s : State) (d : Nat) (b : Bool) : (s.domainOff d b).chans = s.chans := by
  simp only [State.domainOff]; split <;> rfl
@[simp] theorem domainOff_binds (s : State) (d : Nat) (b : Bool) : (s.domainOff d b).binds = s.binds := by
  simp only [State.domainOff]; split <;> rfl
@[simp] theorem domainOff_bindLock (s : State) (d : Nat) (b : Bool) : (s.domainOff d b).bindLock = s.bindLock := by
  simp only [State.domainOff]; split <;> rfl
@[simp] theorem domainOff_fns (s : State) (d : Nat) (b : Bool) : (s.domainOff d b).fns = s.fns := by
  simp only [State.domainOff]; split <;> rfl
@[simp] theorem domainOff_ctl (s : State) (d : Nat) (b : Bool) : (s.domainOff d b).ctl = s.ctl := by
  simp only [State.domainOff]; split <;> rfl
@[simp] theorem domainOff_time (s : State) (d : Nat) (b : Bool) : (s.domainOff d b).time = s.time := by
  simp only [State.domainOff]; split <;> rfl
@[simp] theorem domainOff_trail (s : State) (d : Nat) (b : Bool) : (s.domainOff d b).trail = s.trail := by
  simp only [State.domainOff]; split <;> rfl
@[simp] theorem domainOff_clusters (s : State) (d : Nat) (b : Bool) : (s.domainOff d b).clusters = s.clusters := by
  simp only [State.domainOff]; split <;> rfl
@[simp] theorem domainOff_confs (s : State) (d : Nat) (b : Bool) : (s.domainOff d b).confs = s.confs := by
  simp only [State.domainOff]; split <;> rfl
@[simp] theorem domainOff_legs (s : State) (d : Nat) (b : Bool) : (s.domainOff d b).legs = s.legs := by
  simp only [State.domainOff]; split <;> rfl
@[simp] theorem domainOff_gens (s : State) (d : Nat) (b : Bool) : (s.domainOff d b).gens = s.gens := by
  simp only [State.domainOff]; split <;> rfl
@[simp] theorem domainOff_dying (s : State) (d : Nat) (b : Bool) : (s.domainOff d b).dying = s.dying := by
  simp only [State.domainOff]; split <;> rfl
@[simp] theorem domainOff_keyDying (s : State) (d : Nat) (b : Bool) : (s.domainOff d b).keyDying = s.keyDying := by
  simp only [State.domainOff]; split <;> rfl
@[simp] theorem domainOff_hamperOrder (s : State) (d : Nat) (b : Bool) : (s.domainOff d b).hamperOrder = s.hamperOrder := by
  simp only [State.domainOff]; split <;> rfl
@[simp] theorem domainOff_decJobs (s : State) (d : Nat) (b : Bool) : (s.domainOff d b).decJobs = s.decJobs := by
  simp only [State.domainOff]; split <;> rfl
@[simp] theorem domainOff_encJobs (s : State) (d : Nat) (b : Bool) : (s.domainOff d b).encJobs = s.encJobs := by
  simp only [State.domainOff]; split <;> rfl
@[simp] theorem domainOff_jobTracks (s : State) (d : Nat) (b : Bool) : (s.domainOff d b).jobTracks = s.jobTracks := by
  simp only [State.domainOff]; split <;> rfl
@[simp] theorem domainOff_engines (s : State) (d : Nat) (b : Bool) : (s.domainOff d b).engines = s.engines := by
  simp only [State.domainOff]; split <;> rfl
@[simp] theorem domainOff_canvases (s : State) (d : Nat) (b : Bool) : (s.domainOff d b).canvases = s.canvases := by
  simp only [State.domainOff]; split <;> rfl
@[simp] theorem domainOff_hostCopy (s : State) (d : Nat) (b : Bool) : (s.domainOff d b).hostCopy = s.hostCopy := by
  simp only [State.domainOff]; split <;> rfl
@[simp] theorem domainOff_stages (s : State) (d : Nat) (b : Bool) : (s.domainOff d b).stages = s.stages := by
  simp only [State.domainOff]; split <;> rfl
@[simp] theorem domainOff_stageAtts (s : State) (d : Nat) (b : Bool) : (s.domainOff d b).stageAtts = s.stageAtts := by
  simp only [State.domainOff]; split <;> rfl
@[simp] theorem domainOff_stageGone (s : State) (d : Nat) (b : Bool) : (s.domainOff d b).stageGone = s.stageGone := by
  simp only [State.domainOff]; split <;> rfl
@[simp] theorem domainOff_cores (s : State) (d : Nat) (b : Bool) : (s.domainOff d b).cores = s.cores := by
  simp only [State.domainOff]; split <;> rfl
@[simp] theorem domainOff_pages (s : State) (d : Nat) (b : Bool) : (s.domainOff d b).pages = s.pages := by
  simp only [State.domainOff]; split <;> rfl
@[simp] theorem domainOff_ciphers (s : State) (d : Nat) (b : Bool) : (s.domainOff d b).ciphers = s.ciphers := by
  simp only [State.domainOff]; split <;> rfl
@[simp] theorem domainOff_inQ (s : State) (d : Nat) (b : Bool) : (s.domainOff d b).inQ = s.inQ := by
  simp only [State.domainOff]; split <;> rfl
@[simp] theorem domainOff_fwdQ (s : State) (d : Nat) (b : Bool) : (s.domainOff d b).fwdQ = s.fwdQ := by
  simp only [State.domainOff]; split <;> rfl
@[simp] theorem domainOff_outQ (s : State) (d : Nat) (b : Bool) : (s.domainOff d b).outQ = s.outQ := by
  simp only [State.domainOff]; split <;> rfl
@[simp] theorem domainOff_nodes (s : State) (d : Nat) (b : Bool) : (s.domainOff d b).nodes = s.nodes := by
  simp only [State.domainOff]; split <;> rfl
@[simp] theorem domainOff_ports (s : State) (d : Nat) (b : Bool) : (s.domainOff d b).ports = s.ports := by
  simp only [State.domainOff]; split <;> rfl
@[simp] theorem domainOff_casc (s : State) (d : Nat) (b : Bool) : (s.domainOff d b).casc = s.casc := by
  simp only [State.domainOff]; split <;> rfl
@[simp] theorem domainOff_hbm (s : State) (d : Nat) (b : Bool) : (s.domainOff d b).hbm = s.hbm := by
  simp only [State.domainOff]; split <;> rfl
@[simp] theorem domainOff_mem (s : State) (d : Nat) (b : Bool) : (s.domainOff d b).mem = s.mem := by
  simp only [State.domainOff]; split <;> rfl
@[simp] theorem domainOff_prot (s : State) (d : Nat) (b : Bool) : (s.domainOff d b).prot = s.prot := by
  simp only [State.domainOff]; split <;> rfl
@[simp] theorem domainOff_upd (s : State) (d : Nat) (b : Bool) : (s.domainOff d b).upd = s.upd := by
  simp only [State.domainOff]; split <;> rfl
@[simp] theorem domainOff_pins (s : State) (d : Nat) (b : Bool) : (s.domainOff d b).pins = s.pins := by
  simp only [State.domainOff]; split <;> rfl
@[simp] theorem domainOff_mon (s : State) (d : Nat) (b : Bool) : (s.domainOff d b).mon = s.mon := by
  simp only [State.domainOff]; split <;> rfl
/-- A domain that goes off leaves the module's condition as it was. -/
@[simp] theorem domainOff_cond (s : State) (d : Nat) (b : Bool) : (s.domainOff d b).power.cond = s.power.cond := by
  simp only [State.domainOff]; split <;> rfl

@[simp] theorem unitFault_pending (s : State) (k u c : Nat) : (s.unitFault k u c).pending = s.pending := postAll_pending _ _
@[simp] theorem unitFault_fresh (s : State) (k u c : Nat) : (s.unitFault k u c).fresh = s.fresh := postAll_fresh _ _
@[simp] theorem unitFault_rdata (s : State) (k u c : Nat) : (s.unitFault k u c).rdata = s.rdata := postAll_rdata _ _
@[simp] theorem unitFault_chans (s : State) (k u c : Nat) : (s.unitFault k u c).chans = s.chans := postAll_chans _ _
@[simp] theorem unitFault_binds (s : State) (k u c : Nat) : (s.unitFault k u c).binds = s.binds := postAll_binds _ _
@[simp] theorem unitFault_bindLock (s : State) (k u c : Nat) : (s.unitFault k u c).bindLock = s.bindLock := postAll_bindLock _ _
@[simp] theorem unitFault_ctl (s : State) (k u c : Nat) : (s.unitFault k u c).ctl = s.ctl := postAll_ctl _ _
@[simp] theorem unitFault_time (s : State) (k u c : Nat) : (s.unitFault k u c).time = s.time := postAll_time _ _
@[simp] theorem unitFault_trail (s : State) (k u c : Nat) : (s.unitFault k u c).trail = s.trail := postAll_trail _ _
@[simp] theorem unitFault_clusters (s : State) (k u c : Nat) : (s.unitFault k u c).clusters = s.clusters := postAll_clusters _ _
@[simp] theorem unitFault_confs (s : State) (k u c : Nat) : (s.unitFault k u c).confs = s.confs := postAll_confs _ _
@[simp] theorem unitFault_legs (s : State) (k u c : Nat) : (s.unitFault k u c).legs = s.legs := postAll_legs _ _
@[simp] theorem unitFault_gens (s : State) (k u c : Nat) : (s.unitFault k u c).gens = s.gens := postAll_gens _ _
@[simp] theorem unitFault_dying (s : State) (k u c : Nat) : (s.unitFault k u c).dying = s.dying := postAll_dying _ _
@[simp] theorem unitFault_keyDying (s : State) (k u c : Nat) : (s.unitFault k u c).keyDying = s.keyDying := postAll_keyDying _ _
@[simp] theorem unitFault_hamperOrder (s : State) (k u c : Nat) : (s.unitFault k u c).hamperOrder = s.hamperOrder := postAll_hamperOrder _ _
@[simp] theorem unitFault_decJobs (s : State) (k u c : Nat) : (s.unitFault k u c).decJobs = s.decJobs := postAll_decJobs _ _
@[simp] theorem unitFault_encJobs (s : State) (k u c : Nat) : (s.unitFault k u c).encJobs = s.encJobs := postAll_encJobs _ _
@[simp] theorem unitFault_jobTracks (s : State) (k u c : Nat) : (s.unitFault k u c).jobTracks = s.jobTracks := postAll_jobTracks _ _
@[simp] theorem unitFault_engines (s : State) (k u c : Nat) : (s.unitFault k u c).engines = s.engines := postAll_engines _ _
@[simp] theorem unitFault_canvases (s : State) (k u c : Nat) : (s.unitFault k u c).canvases = s.canvases := postAll_canvases _ _
@[simp] theorem unitFault_hostCopy (s : State) (k u c : Nat) : (s.unitFault k u c).hostCopy = s.hostCopy := postAll_hostCopy _ _
@[simp] theorem unitFault_stages (s : State) (k u c : Nat) : (s.unitFault k u c).stages = s.stages := postAll_stages _ _
@[simp] theorem unitFault_stageAtts (s : State) (k u c : Nat) : (s.unitFault k u c).stageAtts = s.stageAtts := postAll_stageAtts _ _
@[simp] theorem unitFault_stageGone (s : State) (k u c : Nat) : (s.unitFault k u c).stageGone = s.stageGone := postAll_stageGone _ _
@[simp] theorem unitFault_cores (s : State) (k u c : Nat) : (s.unitFault k u c).cores = s.cores := postAll_cores _ _
@[simp] theorem unitFault_pages (s : State) (k u c : Nat) : (s.unitFault k u c).pages = s.pages := postAll_pages _ _
@[simp] theorem unitFault_ciphers (s : State) (k u c : Nat) : (s.unitFault k u c).ciphers = s.ciphers := postAll_ciphers _ _
@[simp] theorem unitFault_inQ (s : State) (k u c : Nat) : (s.unitFault k u c).inQ = s.inQ := postAll_inQ _ _
@[simp] theorem unitFault_fwdQ (s : State) (k u c : Nat) : (s.unitFault k u c).fwdQ = s.fwdQ := postAll_fwdQ _ _
@[simp] theorem unitFault_outQ (s : State) (k u c : Nat) : (s.unitFault k u c).outQ = s.outQ := postAll_outQ _ _
@[simp] theorem unitFault_nodes (s : State) (k u c : Nat) : (s.unitFault k u c).nodes = s.nodes := postAll_nodes _ _
@[simp] theorem unitFault_ports (s : State) (k u c : Nat) : (s.unitFault k u c).ports = s.ports := postAll_ports _ _
@[simp] theorem unitFault_casc (s : State) (k u c : Nat) : (s.unitFault k u c).casc = s.casc := postAll_casc _ _
@[simp] theorem unitFault_hbm (s : State) (k u c : Nat) : (s.unitFault k u c).hbm = s.hbm := postAll_hbm _ _
@[simp] theorem unitFault_mem (s : State) (k u c : Nat) : (s.unitFault k u c).mem = s.mem := postAll_mem _ _
@[simp] theorem unitFault_prot (s : State) (k u c : Nat) : (s.unitFault k u c).prot = s.prot := postAll_prot _ _
@[simp] theorem unitFault_upd (s : State) (k u c : Nat) : (s.unitFault k u c).upd = s.upd := postAll_upd _ _
@[simp] theorem unitFault_power (s : State) (k u c : Nat) : (s.unitFault k u c).power = s.power := postAll_power _ _
@[simp] theorem unitFault_pins (s : State) (k u c : Nat) : (s.unitFault k u c).pins = s.pins := postAll_pins _ _

@[simp] theorem calResult_pending (s : State) (o : LongOp) (r d : Nat) : (s.calResult o r d).pending = s.pending := complete_pending _ _ _ _
@[simp] theorem calResult_fresh (s : State) (o : LongOp) (r d : Nat) : (s.calResult o r d).fresh = s.fresh := complete_fresh _ _ _ _
@[simp] theorem calResult_rdata (s : State) (o : LongOp) (r d : Nat) : (s.calResult o r d).rdata = s.rdata := complete_rdata _ _ _ _
@[simp] theorem calResult_chans (s : State) (o : LongOp) (r d : Nat) : (s.calResult o r d).chans = s.chans := complete_chans _ _ _ _
@[simp] theorem calResult_binds (s : State) (o : LongOp) (r d : Nat) : (s.calResult o r d).binds = s.binds := complete_binds _ _ _ _
@[simp] theorem calResult_bindLock (s : State) (o : LongOp) (r d : Nat) : (s.calResult o r d).bindLock = s.bindLock := complete_bindLock _ _ _ _
@[simp] theorem calResult_time (s : State) (o : LongOp) (r d : Nat) : (s.calResult o r d).time = s.time := complete_time _ _ _ _
@[simp] theorem calResult_trail (s : State) (o : LongOp) (r d : Nat) : (s.calResult o r d).trail = s.trail := complete_trail _ _ _ _
@[simp] theorem calResult_clusters (s : State) (o : LongOp) (r d : Nat) : (s.calResult o r d).clusters = s.clusters := complete_clusters _ _ _ _
@[simp] theorem calResult_confs (s : State) (o : LongOp) (r d : Nat) : (s.calResult o r d).confs = s.confs := complete_confs _ _ _ _
@[simp] theorem calResult_legs (s : State) (o : LongOp) (r d : Nat) : (s.calResult o r d).legs = s.legs := complete_legs _ _ _ _
@[simp] theorem calResult_gens (s : State) (o : LongOp) (r d : Nat) : (s.calResult o r d).gens = s.gens := complete_gens _ _ _ _
@[simp] theorem calResult_dying (s : State) (o : LongOp) (r d : Nat) : (s.calResult o r d).dying = s.dying := complete_dying _ _ _ _
@[simp] theorem calResult_keyDying (s : State) (o : LongOp) (r d : Nat) : (s.calResult o r d).keyDying = s.keyDying := complete_keyDying _ _ _ _
@[simp] theorem calResult_hamperOrder (s : State) (o : LongOp) (r d : Nat) : (s.calResult o r d).hamperOrder = s.hamperOrder := complete_hamperOrder _ _ _ _
@[simp] theorem calResult_decJobs (s : State) (o : LongOp) (r d : Nat) : (s.calResult o r d).decJobs = s.decJobs := complete_decJobs _ _ _ _
@[simp] theorem calResult_encJobs (s : State) (o : LongOp) (r d : Nat) : (s.calResult o r d).encJobs = s.encJobs := complete_encJobs _ _ _ _
@[simp] theorem calResult_jobTracks (s : State) (o : LongOp) (r d : Nat) : (s.calResult o r d).jobTracks = s.jobTracks := complete_jobTracks _ _ _ _
@[simp] theorem calResult_engines (s : State) (o : LongOp) (r d : Nat) : (s.calResult o r d).engines = s.engines := complete_engines _ _ _ _
@[simp] theorem calResult_canvases (s : State) (o : LongOp) (r d : Nat) : (s.calResult o r d).canvases = s.canvases := complete_canvases _ _ _ _
@[simp] theorem calResult_hostCopy (s : State) (o : LongOp) (r d : Nat) : (s.calResult o r d).hostCopy = s.hostCopy := complete_hostCopy _ _ _ _
@[simp] theorem calResult_stages (s : State) (o : LongOp) (r d : Nat) : (s.calResult o r d).stages = s.stages := complete_stages _ _ _ _
@[simp] theorem calResult_stageAtts (s : State) (o : LongOp) (r d : Nat) : (s.calResult o r d).stageAtts = s.stageAtts := complete_stageAtts _ _ _ _
@[simp] theorem calResult_stageGone (s : State) (o : LongOp) (r d : Nat) : (s.calResult o r d).stageGone = s.stageGone := complete_stageGone _ _ _ _
@[simp] theorem calResult_cores (s : State) (o : LongOp) (r d : Nat) : (s.calResult o r d).cores = s.cores := complete_cores _ _ _ _
@[simp] theorem calResult_pages (s : State) (o : LongOp) (r d : Nat) : (s.calResult o r d).pages = s.pages := complete_pages _ _ _ _
@[simp] theorem calResult_ciphers (s : State) (o : LongOp) (r d : Nat) : (s.calResult o r d).ciphers = s.ciphers := complete_ciphers _ _ _ _
@[simp] theorem calResult_inQ (s : State) (o : LongOp) (r d : Nat) : (s.calResult o r d).inQ = s.inQ := complete_inQ _ _ _ _
@[simp] theorem calResult_fwdQ (s : State) (o : LongOp) (r d : Nat) : (s.calResult o r d).fwdQ = s.fwdQ := complete_fwdQ _ _ _ _
@[simp] theorem calResult_outQ (s : State) (o : LongOp) (r d : Nat) : (s.calResult o r d).outQ = s.outQ := complete_outQ _ _ _ _
@[simp] theorem calResult_nodes (s : State) (o : LongOp) (r d : Nat) : (s.calResult o r d).nodes = s.nodes := complete_nodes _ _ _ _
@[simp] theorem calResult_ports (s : State) (o : LongOp) (r d : Nat) : (s.calResult o r d).ports = s.ports := complete_ports _ _ _ _
@[simp] theorem calResult_casc (s : State) (o : LongOp) (r d : Nat) : (s.calResult o r d).casc = s.casc := complete_casc _ _ _ _
@[simp] theorem calResult_hbm (s : State) (o : LongOp) (r d : Nat) : (s.calResult o r d).hbm = s.hbm := complete_hbm _ _ _ _
@[simp] theorem calResult_mem (s : State) (o : LongOp) (r d : Nat) : (s.calResult o r d).mem = s.mem := complete_mem _ _ _ _
@[simp] theorem calResult_prot (s : State) (o : LongOp) (r d : Nat) : (s.calResult o r d).prot = s.prot := complete_prot _ _ _ _
@[simp] theorem calResult_upd (s : State) (o : LongOp) (r d : Nat) : (s.calResult o r d).upd = s.upd := complete_upd _ _ _ _
@[simp] theorem calResult_power (s : State) (o : LongOp) (r d : Nat) : (s.calResult o r d).power = s.power := complete_power _ _ _ _
@[simp] theorem calResult_pins (s : State) (o : LongOp) (r d : Nat) : (s.calResult o r d).pins = s.pins := complete_pins _ _ _ _
@[simp] theorem calResult_mon (s : State) (o : LongOp) (r d : Nat) : (s.calResult o r d).mon = s.mon := complete_mon _ _ _ _

@[simp] theorem calLost_pending (s : State) (a : Nat) : (s.calLost a).pending = s.pending := by
  simp only [State.calLost]; split
  · simp [State.undrain]
  · rfl
@[simp] theorem calLost_fresh (s : State) (a : Nat) : (s.calLost a).fresh = s.fresh := by
  simp only [State.calLost]; split
  · simp [State.undrain]
  · rfl
@[simp] theorem calLost_rdata (s : State) (a : Nat) : (s.calLost a).rdata = s.rdata := by
  simp only [State.calLost]; split
  · simp [State.undrain]
  · rfl
@[simp] theorem calLost_chans (s : State) (a : Nat) : (s.calLost a).chans = s.chans := by
  simp only [State.calLost]; split
  · simp [State.undrain]
  · rfl
@[simp] theorem calLost_binds (s : State) (a : Nat) : (s.calLost a).binds = s.binds := by
  simp only [State.calLost]; split
  · simp [State.undrain]
  · rfl
@[simp] theorem calLost_bindLock (s : State) (a : Nat) : (s.calLost a).bindLock = s.bindLock := by
  simp only [State.calLost]; split
  · simp [State.undrain]
  · rfl
@[simp] theorem calLost_time (s : State) (a : Nat) : (s.calLost a).time = s.time := by
  simp only [State.calLost]; split
  · simp [State.undrain]
  · rfl
@[simp] theorem calLost_trail (s : State) (a : Nat) : (s.calLost a).trail = s.trail := by
  simp only [State.calLost]; split
  · simp [State.undrain]
  · rfl
@[simp] theorem calLost_confs (s : State) (a : Nat) : (s.calLost a).confs = s.confs := by
  simp only [State.calLost]; split
  · simp [State.undrain]
  · rfl
@[simp] theorem calLost_legs (s : State) (a : Nat) : (s.calLost a).legs = s.legs := by
  simp only [State.calLost]; split
  · simp [State.undrain]
  · rfl
@[simp] theorem calLost_gens (s : State) (a : Nat) : (s.calLost a).gens = s.gens := by
  simp only [State.calLost]; split
  · simp [State.undrain]
  · rfl
@[simp] theorem calLost_dying (s : State) (a : Nat) : (s.calLost a).dying = s.dying := by
  simp only [State.calLost]; split
  · simp [State.undrain]
  · rfl
@[simp] theorem calLost_keyDying (s : State) (a : Nat) : (s.calLost a).keyDying = s.keyDying := by
  simp only [State.calLost]; split
  · simp [State.undrain]
  · rfl
@[simp] theorem calLost_hamperOrder (s : State) (a : Nat) : (s.calLost a).hamperOrder = s.hamperOrder := by
  simp only [State.calLost]; split
  · simp [State.undrain]
  · rfl
@[simp] theorem calLost_decJobs (s : State) (a : Nat) : (s.calLost a).decJobs = s.decJobs := by
  simp only [State.calLost]; split
  · simp [State.undrain]
  · rfl
@[simp] theorem calLost_encJobs (s : State) (a : Nat) : (s.calLost a).encJobs = s.encJobs := by
  simp only [State.calLost]; split
  · simp [State.undrain]
  · rfl
@[simp] theorem calLost_jobTracks (s : State) (a : Nat) : (s.calLost a).jobTracks = s.jobTracks := by
  simp only [State.calLost]; split
  · simp [State.undrain]
  · rfl
@[simp] theorem calLost_engines (s : State) (a : Nat) : (s.calLost a).engines = s.engines := by
  simp only [State.calLost]; split
  · simp [State.undrain]
  · rfl
@[simp] theorem calLost_canvases (s : State) (a : Nat) : (s.calLost a).canvases = s.canvases := by
  simp only [State.calLost]; split
  · simp [State.undrain]
  · rfl
@[simp] theorem calLost_hostCopy (s : State) (a : Nat) : (s.calLost a).hostCopy = s.hostCopy := by
  simp only [State.calLost]; split
  · simp [State.undrain]
  · rfl
@[simp] theorem calLost_stages (s : State) (a : Nat) : (s.calLost a).stages = s.stages := by
  simp only [State.calLost]; split
  · simp [State.undrain]
  · rfl
@[simp] theorem calLost_stageAtts (s : State) (a : Nat) : (s.calLost a).stageAtts = s.stageAtts := by
  simp only [State.calLost]; split
  · simp [State.undrain]
  · rfl
@[simp] theorem calLost_stageGone (s : State) (a : Nat) : (s.calLost a).stageGone = s.stageGone := by
  simp only [State.calLost]; split
  · simp [State.undrain]
  · rfl
@[simp] theorem calLost_cores (s : State) (a : Nat) : (s.calLost a).cores = s.cores := by
  simp only [State.calLost]; split
  · simp [State.undrain]
  · rfl
@[simp] theorem calLost_pages (s : State) (a : Nat) : (s.calLost a).pages = s.pages := by
  simp only [State.calLost]; split
  · simp [State.undrain]
  · rfl
@[simp] theorem calLost_ciphers (s : State) (a : Nat) : (s.calLost a).ciphers = s.ciphers := by
  simp only [State.calLost]; split
  · simp [State.undrain]
  · rfl
@[simp] theorem calLost_inQ (s : State) (a : Nat) : (s.calLost a).inQ = s.inQ := by
  simp only [State.calLost]; split
  · simp [State.undrain]
  · rfl
@[simp] theorem calLost_fwdQ (s : State) (a : Nat) : (s.calLost a).fwdQ = s.fwdQ := by
  simp only [State.calLost]; split
  · simp [State.undrain]
  · rfl
@[simp] theorem calLost_outQ (s : State) (a : Nat) : (s.calLost a).outQ = s.outQ := by
  simp only [State.calLost]; split
  · simp [State.undrain]
  · rfl
@[simp] theorem calLost_nodes (s : State) (a : Nat) : (s.calLost a).nodes = s.nodes := by
  simp only [State.calLost]; split
  · simp [State.undrain]
  · rfl
@[simp] theorem calLost_ports (s : State) (a : Nat) : (s.calLost a).ports = s.ports := by
  simp only [State.calLost]; split
  · simp [State.undrain]
  · rfl
@[simp] theorem calLost_casc (s : State) (a : Nat) : (s.calLost a).casc = s.casc := by
  simp only [State.calLost]; split
  · simp [State.undrain]
  · rfl
@[simp] theorem calLost_hbm (s : State) (a : Nat) : (s.calLost a).hbm = s.hbm := by
  simp only [State.calLost]; split
  · simp [State.undrain]
  · rfl
@[simp] theorem calLost_mem (s : State) (a : Nat) : (s.calLost a).mem = s.mem := by
  simp only [State.calLost]; split
  · simp [State.undrain]
  · rfl
@[simp] theorem calLost_prot (s : State) (a : Nat) : (s.calLost a).prot = s.prot := by
  simp only [State.calLost]; split
  · simp [State.undrain]
  · rfl
@[simp] theorem calLost_upd (s : State) (a : Nat) : (s.calLost a).upd = s.upd := by
  simp only [State.calLost]; split
  · simp [State.undrain]
  · rfl
@[simp] theorem calLost_power (s : State) (a : Nat) : (s.calLost a).power = s.power := by
  simp only [State.calLost]; split
  · simp [State.undrain]
  · rfl
@[simp] theorem calLost_pins (s : State) (a : Nat) : (s.calLost a).pins = s.pins := by
  simp only [State.calLost]; split
  · simp [State.undrain]
  · rfl
@[simp] theorem calLost_mon (s : State) (a : Nat) : (s.calLost a).mon = s.mon := by
  simp only [State.calLost]; split
  · simp [State.undrain]
  · rfl

@[simp] theorem takeControl_pending (s : State) : (s.takeControl).pending = s.pending := by rw [takeControl_shape]
@[simp] theorem takeControl_fresh (s : State) : (s.takeControl).fresh = s.fresh := by rw [takeControl_shape]
@[simp] theorem takeControl_rdata (s : State) : (s.takeControl).rdata = s.rdata := by rw [takeControl_shape]
@[simp] theorem takeControl_chans (s : State) : (s.takeControl).chans = s.chans := by rw [takeControl_shape]
@[simp] theorem takeControl_binds (s : State) : (s.takeControl).binds = s.binds := by rw [takeControl_shape]
@[simp] theorem takeControl_bindLock (s : State) : (s.takeControl).bindLock = s.bindLock := by rw [takeControl_shape]
@[simp] theorem takeControl_time (s : State) : (s.takeControl).time = s.time := by rw [takeControl_shape]
@[simp] theorem takeControl_trail (s : State) : (s.takeControl).trail = s.trail := by rw [takeControl_shape]
@[simp] theorem takeControl_clusters (s : State) : (s.takeControl).clusters = s.clusters := by rw [takeControl_shape]
@[simp] theorem takeControl_confs (s : State) : (s.takeControl).confs = s.confs := by rw [takeControl_shape]
@[simp] theorem takeControl_legs (s : State) : (s.takeControl).legs = s.legs := by rw [takeControl_shape]
@[simp] theorem takeControl_gens (s : State) : (s.takeControl).gens = s.gens := by rw [takeControl_shape]
@[simp] theorem takeControl_dying (s : State) : (s.takeControl).dying = s.dying := by rw [takeControl_shape]
@[simp] theorem takeControl_keyDying (s : State) : (s.takeControl).keyDying = s.keyDying := by rw [takeControl_shape]
@[simp] theorem takeControl_hamperOrder (s : State) : (s.takeControl).hamperOrder = s.hamperOrder := by rw [takeControl_shape]
@[simp] theorem takeControl_decJobs (s : State) : (s.takeControl).decJobs = s.decJobs := by rw [takeControl_shape]
@[simp] theorem takeControl_encJobs (s : State) : (s.takeControl).encJobs = s.encJobs := by rw [takeControl_shape]
@[simp] theorem takeControl_jobTracks (s : State) : (s.takeControl).jobTracks = s.jobTracks := by rw [takeControl_shape]
@[simp] theorem takeControl_engines (s : State) : (s.takeControl).engines = s.engines := by rw [takeControl_shape]
@[simp] theorem takeControl_canvases (s : State) : (s.takeControl).canvases = s.canvases := by rw [takeControl_shape]
@[simp] theorem takeControl_hostCopy (s : State) : (s.takeControl).hostCopy = s.hostCopy := by rw [takeControl_shape]
@[simp] theorem takeControl_stages (s : State) : (s.takeControl).stages = s.stages := by rw [takeControl_shape]
@[simp] theorem takeControl_stageAtts (s : State) : (s.takeControl).stageAtts = s.stageAtts := by rw [takeControl_shape]
@[simp] theorem takeControl_stageGone (s : State) : (s.takeControl).stageGone = s.stageGone := by rw [takeControl_shape]
@[simp] theorem takeControl_cores (s : State) : (s.takeControl).cores = s.cores := by rw [takeControl_shape]
@[simp] theorem takeControl_pages (s : State) : (s.takeControl).pages = s.pages := by rw [takeControl_shape]
@[simp] theorem takeControl_ciphers (s : State) : (s.takeControl).ciphers = s.ciphers := by rw [takeControl_shape]
@[simp] theorem takeControl_inQ (s : State) : (s.takeControl).inQ = s.inQ := by rw [takeControl_shape]
@[simp] theorem takeControl_fwdQ (s : State) : (s.takeControl).fwdQ = s.fwdQ := by rw [takeControl_shape]
@[simp] theorem takeControl_outQ (s : State) : (s.takeControl).outQ = s.outQ := by rw [takeControl_shape]
@[simp] theorem takeControl_nodes (s : State) : (s.takeControl).nodes = s.nodes := by rw [takeControl_shape]
@[simp] theorem takeControl_ports (s : State) : (s.takeControl).ports = s.ports := by rw [takeControl_shape]
@[simp] theorem takeControl_casc (s : State) : (s.takeControl).casc = s.casc := by rw [takeControl_shape]
@[simp] theorem takeControl_hbm (s : State) : (s.takeControl).hbm = s.hbm := by rw [takeControl_shape]
@[simp] theorem takeControl_mem (s : State) : (s.takeControl).mem = s.mem := by rw [takeControl_shape]
@[simp] theorem takeControl_prot (s : State) : (s.takeControl).prot = s.prot := by rw [takeControl_shape]
@[simp] theorem takeControl_upd (s : State) : (s.takeControl).upd = s.upd := by rw [takeControl_shape]
@[simp] theorem takeControl_power (s : State) : (s.takeControl).power = s.power := by rw [takeControl_shape]
@[simp] theorem takeControl_pins (s : State) : (s.takeControl).pins = s.pins := by rw [takeControl_shape]
@[simp] theorem takeControl_mon (s : State) : (s.takeControl).mon = s.mon := by rw [takeControl_shape]
@[simp] theorem takeControl_ctl (s : State) : s.takeControl.ctl = { s.ctl with active := 1 - s.ctl.active } :=
  by rw [takeControl_shape]
/-- A function whose event ring is disabled is not told of the takeover. -/
theorem takeControl_fn (s : State) (f : Nat) (h : (s.fn f).ev.en = false) : s.takeControl.fn f = s.fn f := by
  refine (foldl_modFn (fun x => x) (fun (t : State) _ r => r.offer { code := evCtlTakeover, tick := t.tick }) ((List.range 128).filter fun f => (s.fn f).ev.en)
    { s with ctl := { s.ctl with active := 1 - s.ctl.active } }).2 f ?_
  intro x hx e
  subst e
  simp only [List.mem_filter] at hx
  rw [h] at hx
  exact absurd hx.2 (by simp)

@[simp] theorem unreserve_pending (s : State) (w : ProtWait) : (s.unreserve w).pending = s.pending := by
  simp only [State.unreserve]; split
  · simp only [State.sendControl]; split <;> rfl
  · rfl
@[simp] theorem unreserve_fresh (s : State) (w : ProtWait) : (s.unreserve w).fresh = s.fresh := by
  simp only [State.unreserve]; split
  · simp only [State.sendControl]; split <;> rfl
  · rfl
@[simp] theorem unreserve_rdata (s : State) (w : ProtWait) : (s.unreserve w).rdata = s.rdata := by
  simp only [State.unreserve]; split
  · simp only [State.sendControl]; split <;> rfl
  · rfl
@[simp] theorem unreserve_chans (s : State) (w : ProtWait) : (s.unreserve w).chans = s.chans := by
  simp only [State.unreserve]; split
  · simp only [State.sendControl]; split <;> rfl
  · rfl
@[simp] theorem unreserve_binds (s : State) (w : ProtWait) : (s.unreserve w).binds = s.binds := by
  simp only [State.unreserve]; split
  · simp only [State.sendControl]; split <;> rfl
  · rfl
@[simp] theorem unreserve_bindLock (s : State) (w : ProtWait) : (s.unreserve w).bindLock = s.bindLock := by
  simp only [State.unreserve]; split
  · simp only [State.sendControl]; split <;> rfl
  · rfl
@[simp] theorem unreserve_fns (s : State) (w : ProtWait) : (s.unreserve w).fns = s.fns := by
  simp only [State.unreserve]; split
  · simp only [State.sendControl]; split <;> rfl
  · rfl
@[simp] theorem unreserve_time (s : State) (w : ProtWait) : (s.unreserve w).time = s.time := by
  simp only [State.unreserve]; split
  · simp only [State.sendControl]; split <;> rfl
  · rfl
@[simp] theorem unreserve_trail (s : State) (w : ProtWait) : (s.unreserve w).trail = s.trail := by
  simp only [State.unreserve]; split
  · simp only [State.sendControl]; split <;> rfl
  · rfl
@[simp] theorem unreserve_clusters (s : State) (w : ProtWait) : (s.unreserve w).clusters = s.clusters := by
  simp only [State.unreserve]; split
  · simp only [State.sendControl]; split <;> rfl
  · rfl
@[simp] theorem unreserve_confs (s : State) (w : ProtWait) : (s.unreserve w).confs = s.confs := by
  simp only [State.unreserve]; split
  · simp only [State.sendControl]; split <;> rfl
  · rfl
@[simp] theorem unreserve_legs (s : State) (w : ProtWait) : (s.unreserve w).legs = s.legs := by
  simp only [State.unreserve]; split
  · simp only [State.sendControl]; split <;> rfl
  · rfl
@[simp] theorem unreserve_gens (s : State) (w : ProtWait) : (s.unreserve w).gens = s.gens := by
  simp only [State.unreserve]; split
  · simp only [State.sendControl]; split <;> rfl
  · rfl
@[simp] theorem unreserve_dying (s : State) (w : ProtWait) : (s.unreserve w).dying = s.dying := by
  simp only [State.unreserve]; split
  · simp only [State.sendControl]; split <;> rfl
  · rfl
@[simp] theorem unreserve_keyDying (s : State) (w : ProtWait) : (s.unreserve w).keyDying = s.keyDying := by
  simp only [State.unreserve]; split
  · simp only [State.sendControl]; split <;> rfl
  · rfl
@[simp] theorem unreserve_hamperOrder (s : State) (w : ProtWait) : (s.unreserve w).hamperOrder = s.hamperOrder := by
  simp only [State.unreserve]; split
  · simp only [State.sendControl]; split <;> rfl
  · rfl
@[simp] theorem unreserve_decJobs (s : State) (w : ProtWait) : (s.unreserve w).decJobs = s.decJobs := by
  simp only [State.unreserve]; split
  · simp only [State.sendControl]; split <;> rfl
  · rfl
@[simp] theorem unreserve_encJobs (s : State) (w : ProtWait) : (s.unreserve w).encJobs = s.encJobs := by
  simp only [State.unreserve]; split
  · simp only [State.sendControl]; split <;> rfl
  · rfl
@[simp] theorem unreserve_jobTracks (s : State) (w : ProtWait) : (s.unreserve w).jobTracks = s.jobTracks := by
  simp only [State.unreserve]; split
  · simp only [State.sendControl]; split <;> rfl
  · rfl
@[simp] theorem unreserve_engines (s : State) (w : ProtWait) : (s.unreserve w).engines = s.engines := by
  simp only [State.unreserve]; split
  · simp only [State.sendControl]; split <;> rfl
  · rfl
@[simp] theorem unreserve_canvases (s : State) (w : ProtWait) : (s.unreserve w).canvases = s.canvases := by
  simp only [State.unreserve]; split
  · simp only [State.sendControl]; split <;> rfl
  · rfl
@[simp] theorem unreserve_hostCopy (s : State) (w : ProtWait) : (s.unreserve w).hostCopy = s.hostCopy := by
  simp only [State.unreserve]; split
  · simp only [State.sendControl]; split <;> rfl
  · rfl
@[simp] theorem unreserve_stages (s : State) (w : ProtWait) : (s.unreserve w).stages = s.stages := by
  simp only [State.unreserve]; split
  · simp only [State.sendControl]; split <;> rfl
  · rfl
@[simp] theorem unreserve_stageAtts (s : State) (w : ProtWait) : (s.unreserve w).stageAtts = s.stageAtts := by
  simp only [State.unreserve]; split
  · simp only [State.sendControl]; split <;> rfl
  · rfl
@[simp] theorem unreserve_stageGone (s : State) (w : ProtWait) : (s.unreserve w).stageGone = s.stageGone := by
  simp only [State.unreserve]; split
  · simp only [State.sendControl]; split <;> rfl
  · rfl
@[simp] theorem unreserve_cores (s : State) (w : ProtWait) : (s.unreserve w).cores = s.cores := by
  simp only [State.unreserve]; split
  · simp only [State.sendControl]; split <;> rfl
  · rfl
@[simp] theorem unreserve_pages (s : State) (w : ProtWait) : (s.unreserve w).pages = s.pages := by
  simp only [State.unreserve]; split
  · simp only [State.sendControl]; split <;> rfl
  · rfl
@[simp] theorem unreserve_ciphers (s : State) (w : ProtWait) : (s.unreserve w).ciphers = s.ciphers := by
  simp only [State.unreserve]; split
  · simp only [State.sendControl]; split <;> rfl
  · rfl
@[simp] theorem unreserve_inQ (s : State) (w : ProtWait) : (s.unreserve w).inQ = s.inQ := by
  simp only [State.unreserve]; split
  · simp only [State.sendControl]; split <;> rfl
  · rfl
@[simp] theorem unreserve_fwdQ (s : State) (w : ProtWait) : (s.unreserve w).fwdQ = s.fwdQ := by
  simp only [State.unreserve]; split
  · simp only [State.sendControl]; split <;> rfl
  · rfl
@[simp] theorem unreserve_outQ (s : State) (w : ProtWait) : (s.unreserve w).outQ = s.outQ := by
  simp only [State.unreserve]; split
  · simp only [State.sendControl]; split <;> rfl
  · rfl
@[simp] theorem unreserve_nodes (s : State) (w : ProtWait) : (s.unreserve w).nodes = s.nodes := by
  simp only [State.unreserve]; split
  · simp only [State.sendControl]; split <;> rfl
  · rfl
@[simp] theorem unreserve_ports (s : State) (w : ProtWait) : (s.unreserve w).ports = s.ports := by
  simp only [State.unreserve]; split
  · simp only [State.sendControl]; split <;> rfl
  · rfl
@[simp] theorem unreserve_hbm (s : State) (w : ProtWait) : (s.unreserve w).hbm = s.hbm := by
  simp only [State.unreserve]; split
  · simp only [State.sendControl]; split <;> rfl
  · rfl
@[simp] theorem unreserve_mem (s : State) (w : ProtWait) : (s.unreserve w).mem = s.mem := by
  simp only [State.unreserve]; split
  · simp only [State.sendControl]; split <;> rfl
  · rfl
@[simp] theorem unreserve_prot (s : State) (w : ProtWait) : (s.unreserve w).prot = s.prot := by
  simp only [State.unreserve]; split
  · simp only [State.sendControl]; split <;> rfl
  · rfl
@[simp] theorem unreserve_upd (s : State) (w : ProtWait) : (s.unreserve w).upd = s.upd := by
  simp only [State.unreserve]; split
  · simp only [State.sendControl]; split <;> rfl
  · rfl
@[simp] theorem unreserve_power (s : State) (w : ProtWait) : (s.unreserve w).power = s.power := by
  simp only [State.unreserve]; split
  · simp only [State.sendControl]; split <;> rfl
  · rfl
@[simp] theorem unreserve_pins (s : State) (w : ProtWait) : (s.unreserve w).pins = s.pins := by
  simp only [State.unreserve]; split
  · simp only [State.sendControl]; split <;> rfl
  · rfl
@[simp] theorem unreserve_mon (s : State) (w : ProtWait) : (s.unreserve w).mon = s.mon := by
  simp only [State.unreserve]; split
  · simp only [State.sendControl]; split <;> rfl
  · rfl

@[simp] theorem flr_pending (s : State) (f : Nat) : (s.flr f).pending = s.pending := by
  simp only [State.flr]; split <;> split <;> simp
@[simp] theorem flr_fresh (s : State) (f : Nat) : (s.flr f).fresh = s.fresh := by
  simp only [State.flr]; split <;> split <;> simp
@[simp] theorem flr_rdata (s : State) (f : Nat) : (s.flr f).rdata = s.rdata := by
  simp only [State.flr]; split <;> split <;> simp
@[simp] theorem flr_binds (s : State) (f : Nat) : (s.flr f).binds = s.binds := by
  simp only [State.flr]; split <;> split <;> simp
@[simp] theorem flr_bindLock (s : State) (f : Nat) : (s.flr f).bindLock = s.bindLock := by
  simp only [State.flr]; split <;> split <;> simp
@[simp] theorem flr_trail (s : State) (f : Nat) : (s.flr f).trail = s.trail := by
  simp only [State.flr]; split <;> split <;> simp
@[simp] theorem flr_clusters (s : State) (f : Nat) : (s.flr f).clusters = s.clusters := by
  simp only [State.flr]; split <;> split <;> simp
@[simp] theorem flr_confs (s : State) (f : Nat) : (s.flr f).confs = s.confs := by
  simp only [State.flr]; split <;> split <;> simp
@[simp] theorem flr_legs (s : State) (f : Nat) : (s.flr f).legs = s.legs := by
  simp only [State.flr]; split <;> split <;> simp
@[simp] theorem flr_gens (s : State) (f : Nat) : (s.flr f).gens = s.gens := by
  simp only [State.flr]; split <;> split <;> simp
@[simp] theorem flr_dying (s : State) (f : Nat) : (s.flr f).dying = s.dying := by
  simp only [State.flr]; split <;> split <;> simp
@[simp] theorem flr_keyDying (s : State) (f : Nat) : (s.flr f).keyDying = s.keyDying := by
  simp only [State.flr]; split <;> split <;> simp
@[simp] theorem flr_hamperOrder (s : State) (f : Nat) : (s.flr f).hamperOrder = s.hamperOrder := by
  simp only [State.flr]; split <;> split <;> simp
@[simp] theorem flr_decJobs (s : State) (f : Nat) : (s.flr f).decJobs = s.decJobs := by
  simp only [State.flr]; split <;> split <;> simp
@[simp] theorem flr_jobTracks (s : State) (f : Nat) : (s.flr f).jobTracks = s.jobTracks := by
  simp only [State.flr]; split <;> split <;> simp
@[simp] theorem flr_engines (s : State) (f : Nat) : (s.flr f).engines = s.engines := by
  simp only [State.flr]; split <;> split <;> simp
@[simp] theorem flr_canvases (s : State) (f : Nat) : (s.flr f).canvases = s.canvases := by
  simp only [State.flr]; split <;> split <;> simp
@[simp] theorem flr_hostCopy (s : State) (f : Nat) : (s.flr f).hostCopy = s.hostCopy := by
  simp only [State.flr]; split <;> split <;> simp
@[simp] theorem flr_stages (s : State) (f : Nat) : (s.flr f).stages = s.stages := by
  simp only [State.flr]; split <;> split <;> simp
@[simp] theorem flr_stageAtts (s : State) (f : Nat) : (s.flr f).stageAtts = s.stageAtts := by
  simp only [State.flr]; split <;> split <;> simp
@[simp] theorem flr_stageGone (s : State) (f : Nat) : (s.flr f).stageGone = s.stageGone := by
  simp only [State.flr]; split <;> split <;> simp
@[simp] theorem flr_cores (s : State) (f : Nat) : (s.flr f).cores = s.cores := by
  simp only [State.flr]; split <;> split <;> simp
@[simp] theorem flr_pages (s : State) (f : Nat) : (s.flr f).pages = s.pages := by
  simp only [State.flr]; split <;> split <;> simp
@[simp] theorem flr_ciphers (s : State) (f : Nat) : (s.flr f).ciphers = s.ciphers := by
  simp only [State.flr]; split <;> split <;> simp
@[simp] theorem flr_inQ (s : State) (f : Nat) : (s.flr f).inQ = s.inQ := by
  simp only [State.flr]; split <;> split <;> simp
@[simp] theorem flr_fwdQ (s : State) (f : Nat) : (s.flr f).fwdQ = s.fwdQ := by
  simp only [State.flr]; split <;> split <;> simp
@[simp] theorem flr_outQ (s : State) (f : Nat) : (s.flr f).outQ = s.outQ := by
  simp only [State.flr]; split <;> split <;> simp
@[simp] theorem flr_nodes (s : State) (f : Nat) : (s.flr f).nodes = s.nodes := by
  simp only [State.flr]; split <;> split <;> simp
@[simp] theorem flr_ports (s : State) (f : Nat) : (s.flr f).ports = s.ports := by
  simp only [State.flr]; split <;> split <;> simp
@[simp] theorem flr_hbm (s : State) (f : Nat) : (s.flr f).hbm = s.hbm := by
  simp only [State.flr]; split <;> split <;> simp
@[simp] theorem flr_mem (s : State) (f : Nat) : (s.flr f).mem = s.mem := by
  simp only [State.flr]; split <;> split <;> simp
@[simp] theorem flr_prot (s : State) (f : Nat) : (s.flr f).prot = s.prot := by
  simp only [State.flr]; split <;> split <;> simp
@[simp] theorem flr_upd (s : State) (f : Nat) : (s.flr f).upd = s.upd := by
  simp only [State.flr]; split <;> split <;> simp
@[simp] theorem flr_power (s : State) (f : Nat) : (s.flr f).power = s.power := by
  simp only [State.flr]; split <;> split <;> simp
@[simp] theorem flr_pins (s : State) (f : Nat) : (s.flr f).pins = s.pins := by
  simp only [State.flr]; split <;> split <;> simp

@[simp] theorem crossing_pending (s : State) (n t : Nat) (a b : Int) : (s.crossing n t a b).pending = s.pending := by
  simp only [State.crossing]; split
  · simp
  · split
    · simp
    · rfl
@[simp] theorem crossing_fresh (s : State) (n t : Nat) (a b : Int) : (s.crossing n t a b).fresh = s.fresh := by
  simp only [State.crossing]; split
  · simp
  · split
    · simp
    · rfl
@[simp] theorem crossing_rdata (s : State) (n t : Nat) (a b : Int) : (s.crossing n t a b).rdata = s.rdata := by
  simp only [State.crossing]; split
  · simp
  · split
    · simp
    · rfl
@[simp] theorem crossing_chans (s : State) (n t : Nat) (a b : Int) : (s.crossing n t a b).chans = s.chans := by
  simp only [State.crossing]; split
  · simp
  · split
    · simp
    · rfl
@[simp] theorem crossing_binds (s : State) (n t : Nat) (a b : Int) : (s.crossing n t a b).binds = s.binds := by
  simp only [State.crossing]; split
  · simp
  · split
    · simp
    · rfl
@[simp] theorem crossing_bindLock (s : State) (n t : Nat) (a b : Int) : (s.crossing n t a b).bindLock = s.bindLock := by
  simp only [State.crossing]; split
  · simp
  · split
    · simp
    · rfl
@[simp] theorem crossing_ctl (s : State) (n t : Nat) (a b : Int) : (s.crossing n t a b).ctl = s.ctl := by
  simp only [State.crossing]; split
  · simp
  · split
    · simp
    · rfl
@[simp] theorem crossing_time (s : State) (n t : Nat) (a b : Int) : (s.crossing n t a b).time = s.time := by
  simp only [State.crossing]; split
  · simp
  · split
    · simp
    · rfl
@[simp] theorem crossing_trail (s : State) (n t : Nat) (a b : Int) : (s.crossing n t a b).trail = s.trail := by
  simp only [State.crossing]; split
  · simp
  · split
    · simp
    · rfl
@[simp] theorem crossing_clusters (s : State) (n t : Nat) (a b : Int) : (s.crossing n t a b).clusters = s.clusters := by
  simp only [State.crossing]; split
  · simp
  · split
    · simp
    · rfl
@[simp] theorem crossing_confs (s : State) (n t : Nat) (a b : Int) : (s.crossing n t a b).confs = s.confs := by
  simp only [State.crossing]; split
  · simp
  · split
    · simp
    · rfl
@[simp] theorem crossing_legs (s : State) (n t : Nat) (a b : Int) : (s.crossing n t a b).legs = s.legs := by
  simp only [State.crossing]; split
  · simp
  · split
    · simp
    · rfl
@[simp] theorem crossing_gens (s : State) (n t : Nat) (a b : Int) : (s.crossing n t a b).gens = s.gens := by
  simp only [State.crossing]; split
  · simp
  · split
    · simp
    · rfl
@[simp] theorem crossing_dying (s : State) (n t : Nat) (a b : Int) : (s.crossing n t a b).dying = s.dying := by
  simp only [State.crossing]; split
  · simp
  · split
    · simp
    · rfl
@[simp] theorem crossing_keyDying (s : State) (n t : Nat) (a b : Int) : (s.crossing n t a b).keyDying = s.keyDying := by
  simp only [State.crossing]; split
  · simp
  · split
    · simp
    · rfl
@[simp] theorem crossing_hamperOrder (s : State) (n t : Nat) (a b : Int) : (s.crossing n t a b).hamperOrder = s.hamperOrder := by
  simp only [State.crossing]; split
  · simp
  · split
    · simp
    · rfl
@[simp] theorem crossing_decJobs (s : State) (n t : Nat) (a b : Int) : (s.crossing n t a b).decJobs = s.decJobs := by
  simp only [State.crossing]; split
  · simp
  · split
    · simp
    · rfl
@[simp] theorem crossing_encJobs (s : State) (n t : Nat) (a b : Int) : (s.crossing n t a b).encJobs = s.encJobs := by
  simp only [State.crossing]; split
  · simp
  · split
    · simp
    · rfl
@[simp] theorem crossing_jobTracks (s : State) (n t : Nat) (a b : Int) : (s.crossing n t a b).jobTracks = s.jobTracks := by
  simp only [State.crossing]; split
  · simp
  · split
    · simp
    · rfl
@[simp] theorem crossing_engines (s : State) (n t : Nat) (a b : Int) : (s.crossing n t a b).engines = s.engines := by
  simp only [State.crossing]; split
  · simp
  · split
    · simp
    · rfl
@[simp] theorem crossing_canvases (s : State) (n t : Nat) (a b : Int) : (s.crossing n t a b).canvases = s.canvases := by
  simp only [State.crossing]; split
  · simp
  · split
    · simp
    · rfl
@[simp] theorem crossing_hostCopy (s : State) (n t : Nat) (a b : Int) : (s.crossing n t a b).hostCopy = s.hostCopy := by
  simp only [State.crossing]; split
  · simp
  · split
    · simp
    · rfl
@[simp] theorem crossing_stages (s : State) (n t : Nat) (a b : Int) : (s.crossing n t a b).stages = s.stages := by
  simp only [State.crossing]; split
  · simp
  · split
    · simp
    · rfl
@[simp] theorem crossing_stageAtts (s : State) (n t : Nat) (a b : Int) : (s.crossing n t a b).stageAtts = s.stageAtts := by
  simp only [State.crossing]; split
  · simp
  · split
    · simp
    · rfl
@[simp] theorem crossing_stageGone (s : State) (n t : Nat) (a b : Int) : (s.crossing n t a b).stageGone = s.stageGone := by
  simp only [State.crossing]; split
  · simp
  · split
    · simp
    · rfl
@[simp] theorem crossing_cores (s : State) (n t : Nat) (a b : Int) : (s.crossing n t a b).cores = s.cores := by
  simp only [State.crossing]; split
  · simp
  · split
    · simp
    · rfl
@[simp] theorem crossing_pages (s : State) (n t : Nat) (a b : Int) : (s.crossing n t a b).pages = s.pages := by
  simp only [State.crossing]; split
  · simp
  · split
    · simp
    · rfl
@[simp] theorem crossing_ciphers (s : State) (n t : Nat) (a b : Int) : (s.crossing n t a b).ciphers = s.ciphers := by
  simp only [State.crossing]; split
  · simp
  · split
    · simp
    · rfl
@[simp] theorem crossing_inQ (s : State) (n t : Nat) (a b : Int) : (s.crossing n t a b).inQ = s.inQ := by
  simp only [State.crossing]; split
  · simp
  · split
    · simp
    · rfl
@[simp] theorem crossing_fwdQ (s : State) (n t : Nat) (a b : Int) : (s.crossing n t a b).fwdQ = s.fwdQ := by
  simp only [State.crossing]; split
  · simp
  · split
    · simp
    · rfl
@[simp] theorem crossing_outQ (s : State) (n t : Nat) (a b : Int) : (s.crossing n t a b).outQ = s.outQ := by
  simp only [State.crossing]; split
  · simp
  · split
    · simp
    · rfl
@[simp] theorem crossing_nodes (s : State) (n t : Nat) (a b : Int) : (s.crossing n t a b).nodes = s.nodes := by
  simp only [State.crossing]; split
  · simp
  · split
    · simp
    · rfl
@[simp] theorem crossing_ports (s : State) (n t : Nat) (a b : Int) : (s.crossing n t a b).ports = s.ports := by
  simp only [State.crossing]; split
  · simp
  · split
    · simp
    · rfl
@[simp] theorem crossing_casc (s : State) (n t : Nat) (a b : Int) : (s.crossing n t a b).casc = s.casc := by
  simp only [State.crossing]; split
  · simp
  · split
    · simp
    · rfl
@[simp] theorem crossing_hbm (s : State) (n t : Nat) (a b : Int) : (s.crossing n t a b).hbm = s.hbm := by
  simp only [State.crossing]; split
  · simp
  · split
    · simp
    · rfl
@[simp] theorem crossing_mem (s : State) (n t : Nat) (a b : Int) : (s.crossing n t a b).mem = s.mem := by
  simp only [State.crossing]; split
  · simp
  · split
    · simp
    · rfl
@[simp] theorem crossing_prot (s : State) (n t : Nat) (a b : Int) : (s.crossing n t a b).prot = s.prot := by
  simp only [State.crossing]; split
  · simp
  · split
    · simp
    · rfl
@[simp] theorem crossing_upd (s : State) (n t : Nat) (a b : Int) : (s.crossing n t a b).upd = s.upd := by
  simp only [State.crossing]; split
  · simp
  · split
    · simp
    · rfl
@[simp] theorem crossing_power (s : State) (n t : Nat) (a b : Int) : (s.crossing n t a b).power = s.power := by
  simp only [State.crossing]; split
  · simp
  · split
    · simp
    · rfl
@[simp] theorem crossing_pins (s : State) (n t : Nat) (a b : Int) : (s.crossing n t a b).pins = s.pins := by
  simp only [State.crossing]; split
  · simp
  · split
    · simp
    · rfl

end Sys2Proof.Machine
end

