-- ==== Sys2Proof/Laws/Keeps.lean ====
section
/-! SUPPORT. What every operation of the model keeps: the queue of commands, the canonical form of memory, a locked binding
table, and time that never runs backwards. One rule for each way that a definition is built. -/

namespace Sys2Proof.Machine

/-- `t` was reached from `s` without touching the queue of commands or any byte of memory, changing a locked binding table
or turning time back. -/
structure Keeps (s t : State) : Prop where
  pending : t.pending = s.pending
  mem : t.mem = s.mem
  lock : s.bindLock = true → t.bindLock = true ∧ t.binds = s.binds
  time : s.time.ref ≤ t.time.ref

theorem Keeps.refl (s : State) : Keeps s s := ⟨rfl, rfl, fun h => ⟨h, rfl⟩, Nat.le_refl _⟩

theorem Keeps.trans {s t u : State} (a : Keeps s t) (b : Keeps t u) : Keeps s u :=
  ⟨b.pending.trans a.pending, b.mem.trans a.mem, fun h =>
    ⟨(b.lock (a.lock h).1).1, (b.lock (a.lock h).1).2.trans (a.lock h).2⟩, Nat.le_trans a.time b.time⟩

/-- An update of other fields. -/
theorem Keeps.mk' {s : State} (x : State) {T : Time} {v1 : Nat} {v2 : Nat} {v3 : List (Nat × Chan)} {v6 : List (Nat × Fn)} {v7 : Control} {v9 : Trail} {v10 : List (Nat
    × Cluster)} {v11 : List (Nat × Conf)} {v12 : List (Nat × Leg)} {v13 : List (Nat × Nat)} {v14 : List (Nat × Nat)}
    {v15 : List (Nat × (Nat × Nat × Nat))} {v16 : Nat} {v17 : List (Nat × DecJob)} {v18 : List (Nat × EncJob)} {v19 :
    List (Nat × Track)} {v20 : List (Nat × Engine)} {v21 : List (Nat × Canvas)} {v22 : List Byte} {v23 : List (Nat ×
    Stage)} {v24 : List StageAtt} {v25 : List StageAtt} {v26 : List (Nat × Core)} {v27 : List (Nat × Page)} {v28 :
    List (Nat × CipherEng)} {v29 : List InPkt} {v30 : List FwdPkt} {v31 : List OutPkt} {v32 : List (Nat × Node)} {v33
    : List (Nat × Port)} {v34 : Cascade} {v35 : Hbm} {v37 : Prot} {v38 : Upd} {v39 : Power} {v40 : Pins} {v41 : Mon}
    (hT : T.ref = x.time.ref) (h : Keeps s x) :
    Keeps s (State.mk x.pending v1 v2 v3 x.binds x.bindLock v6 v7 T v9 v10 v11 v12 v13 v14 v15 v16 v17 v18 v19 v20 v21 v22 v23 v24 v25
      v26 v27 v28 v29 v30 v31 v32 v33 v34 v35 x.mem v37 v38 v39 v40 v41) :=
  ⟨h.pending, h.mem, h.lock, hT ▸ h.time⟩

/-- `t` was reached from `s` like that but for memory, which kept its canonical form. -/
def KeepsM (s t : State) : Prop := ∃ m, (Memory.wf s.mem = true → Memory.wf m = true) ∧ Keeps { s with mem := m } t

theorem Keeps.m {s t : State} (h : Keeps s t) : KeepsM s t := ⟨s.mem, id, h⟩

theorem KeepsM.then {s t u : State} (a : KeepsM s t) (b : Keeps t u) : KeepsM s u := by
  obtain ⟨m, hm, h⟩ := a
  exact ⟨m, hm, h.trans b⟩

theorem KeepsM.wf {s t : State} (h : KeepsM s t) (w : Memory.wf s.mem = true) : Memory.wf t.mem = true := by
  obtain ⟨m, hm, k⟩ := h
  rw [k.mem]; exact hm w

theorem KeepsM.trans {s t u : State} (a : KeepsM s t) (b : KeepsM t u) : KeepsM s u := by
  obtain ⟨m, hm, h⟩ := b
  refine ⟨m, fun w => hm (a.wf w), ?_⟩
  obtain ⟨n, hn, k⟩ := a
  exact ⟨h.pending.trans k.pending, h.mem, fun l => ⟨(h.lock (k.lock l).1).1, (h.lock (k.lock l).1).2.trans (k.lock l).2⟩, Nat.le_trans k.time h.time⟩

theorem Keeps.cut {s x : State} {p : Prop} (h : Keeps s x) (k : Keeps s x → p) : p := k h

theorem Keeps.foldl {α : Type} {s t : State} {l : List α} {g : State → α → State}
    (hg : ∀ x a, Keeps s x → Keeps s (g x a)) (h : Keeps s t) : Keeps s (l.foldl g t) := by
  induction l generalizing t with
  | nil => exact h
  | cons a l ih => exact ih (hg t a h)

/-- What a reply of a command keeps. -/
inductive KeepsR (s : State) : Reply → Prop where
  | done {t : State} {a b : Nat} {ws : List Nat} (h : Keeps s t) : KeepsR s (.done t a b ws)
  | fail {a b : Nat} : KeepsR s (.fail a b)
  | hold {t : State} (h : Keeps s t) : KeepsR s (.hold t)

theorem KeepsR.checks {s : State} {cs : List (Bool × Nat × Nat)} {r : Reply} (h : KeepsR s r) : KeepsR s (checks cs r) := by
  unfold Sys2Proof.Machine.checks; split
  · exact KeepsR.fail
  · exact h

/-- What the outcome of a command keeps. -/
def KeepsO (s : State) (o : Host.Outcome State Fault Refusal) : Prop := ∀ t, o = .next t → Keeps s t

theorem keeps_ite {s t u : State} {p : Prop} [Decidable p] (ht : Keeps s t) (hu : Keeps s u) : Keeps s (if p then t else u) := by
  split <;> assumption

theorem KeepsO.answer {s t : State} {b : Bool} (h : Keeps s t) : KeepsO s (answer b t) := by
  intro u hu; unfold Sys2Proof.Machine.answer at hu; split at hu
  · cases hu; exact h
  · cases hu

end Sys2Proof.Machine
end

