-- ==== Sys2Proof/Laws/KeepsOps.lean ====
section
/-! SUPPORT. Every operation keeps what `Keeps` names: the waiting commands, the canonical form of memory, a locked binding
table, and time that does not run backwards. One lemma for each operation that the meanings are built of. -/

namespace Sys2Proof.Machine

theorem keeps_modFn {s0 : State} {s : State} {f : Nat} {g : Fn → Fn} (h0 : Keeps s0 s) :
    Keeps s0 (State.modFn s f g) := by
  unfold State.modFn
  with_reducible repeat' first
    | assumption
    | (show _ = _; rfl)
    | refine Keeps.mk' _ ?_ ?_

theorem keeps_modChan {s0 : State} {s : State} {c : Nat} {g : Chan → Chan} (h0 : Keeps s0 s) :
    Keeps s0 (State.modChan s c g) := by
  unfold State.modChan
  with_reducible repeat' first
    | assumption
    | (show _ = _; rfl)
    | refine Keeps.mk' _ ?_ ?_

theorem keeps_setLeg {s0 : State} {s : State} {n : Nat} {l : Leg} (h0 : Keeps s0 s) :
    Keeps s0 (State.setLeg s n l) := by
  unfold State.setLeg
  with_reducible repeat' first
    | assumption
    | (show _ = _; rfl)
    | refine Keeps.mk' _ ?_ ?_

theorem keeps_modLeg {s0 : State} {s : State} {n : Nat} {g : Leg → Leg} (h0 : Keeps s0 s) :
    Keeps s0 (State.modLeg s n g) := by
  unfold State.modLeg
  with_reducible repeat' first
    | assumption
    | (show _ = _; rfl)
    | refine Keeps.mk' _ ?_ ?_

theorem keeps_modConf {s0 : State} {s : State} {n : Nat} {g : Conf → Conf} (h0 : Keeps s0 s) :
    Keeps s0 (State.modConf s n g) := by
  unfold State.modConf
  with_reducible repeat' first
    | assumption
    | (show _ = _; rfl)
    | refine Keeps.mk' _ ?_ ?_

theorem keeps_modPort {s0 : State} {s : State} {p : Nat} {g : Port → Port} (h0 : Keeps s0 s) :
    Keeps s0 (State.modPort s p g) := by
  unfold State.modPort
  with_reducible repeat' first
    | assumption
    | (show _ = _; rfl)
    | refine Keeps.mk' _ ?_ ?_

theorem keeps_modGroup {s0 : State} {s : State} {g : Nat} {h_ : LinkGroup → LinkGroup} (h0 : Keeps s0 s) :
    Keeps s0 (State.modGroup s g h_) := by
  unfold State.modGroup
  with_reducible repeat' first
    | assumption
    | (show _ = _; rfl)
    | (extract_lets +onlyGivenNames x; clear_value x)
    | refine Keeps.mk' _ ?_ ?_

theorem keeps_modCluster {s0 : State} {s : State} {c : Nat} {g : Cluster → Cluster} (h0 : Keeps s0 s) :
    Keeps s0 (State.modCluster s c g) := by
  unfold State.modCluster
  with_reducible repeat' first
    | assumption
    | (show _ = _; rfl)
    | refine Keeps.mk' _ ?_ ?_

theorem keeps_modBase {s0 : State} {s : State} {n : Nat} {g : Base → Base} (h0 : Keeps s0 s) : Keeps s0 (State.modBase s n g) :=
  ⟨h0.pending, h0.mem, h0.lock, h0.time⟩

theorem keeps_modCore {s0 : State} {s : State} {n : Nat} {g : Core → Core} (h0 : Keeps s0 s) :
    Keeps s0 (State.modCore s n g) := by
  unfold State.modCore
  with_reducible repeat' first
    | assumption
    | (show _ = _; rfl)
    | refine Keeps.mk' _ ?_ ?_

theorem keeps_modPchan {s0 : State} {s : State} {p : Nat} {g : PChan → PChan} (h0 : Keeps s0 s) :
    Keeps s0 (State.modPchan s p g) := by
  unfold State.modPchan
  with_reducible repeat' first
    | assumption
    | (show _ = _; rfl)
    | (extract_lets +onlyGivenNames x; clear_value x)
    | refine Keeps.mk' _ ?_ ?_

theorem keeps_modRail {s0 : State} {s : State} {c : Nat} {g : Rail → Rail} (h0 : Keeps s0 s) :
    Keeps s0 (State.modRail s c g) := by
  unfold State.modRail
  with_reducible repeat' first
    | assumption
    | (show _ = _; rfl)
    | (extract_lets +onlyGivenNames x; clear_value x)
    | refine Keeps.mk' _ ?_ ?_

theorem keeps_modEngine {s0 : State} {s : State} {c : Nat} {g : Engine → Engine} (h0 : Keeps s0 s) :
    Keeps s0 (State.modEngine s c g) := by
  unfold State.modEngine
  with_reducible repeat' first
    | assumption
    | (show _ = _; rfl)
    | refine Keeps.mk' _ ?_ ?_

theorem keeps_forEach {s0 : State} {α : Type} {l : List α} {s : State} {g : α → State → State} (h : Keeps s0 s)
    (hg : ∀ a x, Keeps s0 x → Keeps s0 (g a x)) : Keeps s0 (forEach l s g) := by
  unfold forEach; exact Keeps.foldl (fun x a hx => hg a x hx) h

theorem keeps_draw {s0 : State} {s : State} {n : Nat} (h : Keeps s0 s) : Keeps s0 (s.draw n).2 :=
  ⟨h.pending, h.mem, h.lock, h.time⟩

theorem keeps_advance {s0 : State} {d : Nat} {s : State} (h : Keeps s0 s) : Keeps s0 (State.advance d s) :=
  ⟨h.pending, h.mem, h.lock, Nat.le_trans h.time (Nat.le_add_right _ _)⟩

theorem keeps_idle {s0 : State} {s : State} (h0 : Keeps s0 s) :
    Keeps s0 (idle s) := by
  unfold idle
  with_reducible repeat' first
    | assumption
    | apply keeps_advance

theorem keeps_occurN {s0 : State} {s : State} {sel : Nat} {o : Occ} {n : Nat} (h0 : Keeps s0 s) :
    Keeps s0 (State.occurN s sel o n) := by
  unfold State.occurN
  with_reducible repeat' first
    | assumption
    | (show _ = _; rfl)
    | (extract_lets +onlyGivenNames x; clear_value x)
    | refine Keeps.mk' _ ?_ ?_

theorem keeps_occur {s0 : State} {s : State} {sel : Nat} {o : Occ} (h0 : Keeps s0 s) :
    Keeps s0 (State.occur s sel o) := by
  unfold State.occur
  with_reducible repeat' first
    | assumption
    | apply keeps_occurN

theorem keeps_offerAll {s0 : State} {s : State} {fs : List Nat} {e : Event} (h0 : Keeps s0 s) :
    Keeps s0 (State.offerAll s fs e) := by
  unfold State.offerAll
  with_reducible repeat' first
    | assumption
    | apply keeps_occur
    | apply keeps_modFn
    | (extract_lets +onlyGivenNames x; clear_value x)
    | refine Keeps.foldl (fun x a hx => ?_) ?_
    | split

theorem keeps_postAll {s0 : State} {s : State} {e : Event} (h0 : Keeps s0 s) :
    Keeps s0 (State.postAll s e) := by
  unfold State.postAll
  with_reducible repeat' first
    | assumption
    | apply keeps_offerAll

theorem keeps_postObj {s0 : State} {s : State} {creator : Nat} {e : Event} (h0 : Keeps s0 s) :
    Keeps s0 (State.postObj s creator e) := by
  unfold State.postObj
  with_reducible repeat' first
    | assumption
    | apply keeps_offerAll

theorem keeps_componentEvent {s0 : State} {s : State} {kind : Nat} {unit : Nat} {fail : Bool} (h0 : Keeps s0 s) :
    Keeps s0 (State.componentEvent s kind unit fail) := by
  unfold State.componentEvent
  with_reducible repeat' first
    | assumption
    | apply keeps_postAll

theorem keeps_postLeg {s0 : State} {s : State} {leg : Nat} {e : Event} (h0 : Keeps s0 s) :
    Keeps s0 (State.postLeg s leg e) := by
  unfold State.postLeg
  with_reducible repeat' first
    | assumption
    | apply keeps_postObj
    | split

theorem keeps_denied {s0 : State} {s : State} {mid : Nat} {ch : Nat} {off : Nat} (h0 : Keeps s0 s) :
    Keeps s0 (State.denied s mid ch off) := by
  unfold State.denied
  with_reducible repeat' first
    | assumption
    | apply keeps_occur
    | apply keeps_offerAll
    | apply keeps_postAll
    | (extract_lets +onlyGivenNames x; refine Keeps.cut (s := s0) (x := x) ?_ (fun hx => ?_); rotate_left; clear_value x; rotate_right; unfold x; clear x)
    | (extract_lets +onlyGivenNames x; clear_value x)
    | split

theorem keeps_accept {s0 : State} {s : State} {f t o a b c : Nat} (h : Keeps s0 s) : Keeps s0 (s.accept f t o a b c).2 :=
  ⟨h.pending, h.mem, h.lock, h.time⟩

theorem keeps_modOp {s0 : State} {s : State} {f : Nat} {h_ : Nat} {g : LongOp → LongOp} (h0 : Keeps s0 s) :
    Keeps s0 (State.modOp s f h_ g) := by
  unfold State.modOp
  with_reducible repeat' first
    | assumption
    | (show _ = _; rfl)
    | (extract_lets +onlyGivenNames x; clear_value x)
    | refine Keeps.mk' _ ?_ ?_

theorem keeps_markPosted {s0 : State} {s : State} {f : Nat} {h_ : Nat} (h0 : Keeps s0 s) :
    Keeps s0 (State.markPosted s f h_) := by
  unfold State.markPosted
  with_reducible repeat' first
    | assumption
    | (show _ = _; rfl)
    | (extract_lets +onlyGivenNames x; clear_value x)
    | refine Keeps.mk' _ ?_ ?_

theorem keeps_complete {s0 : State} {s : State} {o : LongOp} {e : Event} {status : Nat} (h0 : Keeps s0 s) :
    Keeps s0 (State.complete s o e status) := by
  unfold State.complete
  with_reducible repeat' first
    | assumption
    | apply keeps_modOp
    | apply keeps_modFn
    | apply keeps_markPosted
    | (extract_lets +onlyGivenNames x; refine Keeps.cut (s := s0) (x := x) ?_ (fun hx => ?_); rotate_left; clear_value x; rotate_right; unfold x; clear x)
    | (extract_lets +onlyGivenNames x; clear_value x)
    | split

theorem keeps_opDone {s0 : State} {s : State} {o : LongOp} {status : Nat} {detail : Nat} (h0 : Keeps s0 s) :
    Keeps s0 (State.opDone s o status detail) := by
  unfold State.opDone
  with_reducible repeat' first
    | assumption
    | apply keeps_complete

theorem keeps_okWords {s0 : State} {s : State} {ws : List Nat} (h0 : Keeps s0 s) :
    KeepsR s0 (okWords s ws) := by
  unfold okWords
  with_reducible repeat' first
    | assumption
    | refine KeepsR.done ?_

theorem keeps_ok {s0 : State} {s : State} (h0 : Keeps s0 s) :
    KeepsR s0 (ok s) := by
  unfold ok
  with_reducible repeat' first
    | assumption
    | refine KeepsR.done ?_

theorem keeps_sendMsg {s0 : State} {s : State} {c : Nat} {ws : List Word} (h0 : Keeps s0 s) :
    Keeps s0 (State.sendMsg s c ws) := by
  unfold State.sendMsg
  with_reducible repeat' first
    | assumption
    | apply keeps_modChan
    | apply keeps_modFn
    | (extract_lets +onlyGivenNames x; refine Keeps.cut (s := s0) (x := x) ?_ (fun hx => ?_); rotate_left; clear_value x; rotate_right; unfold x; clear x)
    | (extract_lets +onlyGivenNames x; clear_value x)
    | split

theorem keeps_pump {s0 : State} {s : State} {r : Nat} (h0 : Keeps s0 s) :
    Keeps s0 (State.pump s r) := by
  unfold State.pump
  with_reducible repeat' first
    | assumption
    | (show _ = _; rfl)
    | apply keeps_sendMsg
    | (extract_lets +onlyGivenNames x; refine Keeps.cut (s := s0) (x := x) ?_ (fun hx => ?_); rotate_left; clear_value x; rotate_right; unfold x; clear x)
    | (extract_lets +onlyGivenNames x; clear_value x)
    | split
    | refine Keeps.mk' _ ?_ ?_

theorem keeps_respond {s0 : State} {s : State} {ch : Nat} {opcode : Nat} {tag : Nat} {status : Nat} {detail : Nat} {words : List Nat} (h0 : Keeps s0 s) :
    Keeps s0 (State.respond s ch opcode tag status detail words) := by
  unfold State.respond
  with_reducible repeat' first
    | assumption
    | (show _ = _; rfl)
    | apply keeps_pump
    | (extract_lets +onlyGivenNames x; clear_value x)
    | refine Keeps.mk' _ ?_ ?_

theorem keeps_setQueue {s0 : State} {s : State} {ch : Nat} {q : List Cmd} (h0 : Keeps s0 s) :
    Keeps s0 (State.setQueue s ch q) := by
  unfold State.setQueue
  with_reducible repeat' first
    | assumption
    | (show _ = _; rfl)
    | (extract_lets +onlyGivenNames x; clear_value x)
    | refine Keeps.mk' _ ?_ ?_

theorem keeps_drain {s0 : State} {s : State} {ch : Nat} (h0 : Keeps s0 s) :
    Keeps s0 (State.drain s ch) := by
  unfold State.drain
  with_reducible repeat' first
    | assumption
    | apply keeps_respond
    | apply keeps_setQueue
    | (extract_lets +onlyGivenNames x; clear_value x)
    | refine Keeps.foldl (fun x a hx => ?_) ?_
    | split

theorem keeps_reply {s0 : State} {s : State} {c : Ctx} {r : Reply} (h : Keeps s0 s) (hr : KeepsR s0 r) :
    Keeps s0 (s.reply c r) := by
  unfold State.reply; cases hr with
  | done h1 => exact keeps_respond h1
  | fail => exact keeps_respond h
  | hold h1 => exact h1

theorem keeps_runCmd {s0 : State} {ch op : Nat} {body : Ctx → State → Reply} {s : State} (h : Keeps s0 s)
    (hb : ∀ c x, Keeps s0 x → KeepsR s0 (body c x)) : Keeps s0 (runCmd ch op body s) := by
  unfold runCmd; split
  · exact h
  · split
    · have h1 : Keeps s0 (s.setQueue ch ‹_›) := keeps_setQueue h
      refine keeps_drain (keeps_reply h1 ?_)
      split
      · exact KeepsR.fail
      · exact hb _ _ h1
    · exact h

theorem keeps_startLong {s0 : State} {c : Ctx} {s : State} {a b d : Nat} {go : Nat → State → State} (h : Keeps s0 s)
    (hg : ∀ n x, Keeps s0 x → Keeps s0 (go n x)) : KeepsR s0 (startLong c s a b d go) := by
  unfold startLong; split
  · exact KeepsR.fail
  · exact KeepsR.done (hg _ _ (keeps_accept h))

theorem keeps_setTimer {s0 : State} {s : State} {due : Nat} {t : Timer} (h0 : Keeps s0 s) :
    Keeps s0 (State.setTimer s due t) := by
  unfold State.setTimer
  with_reducible repeat' first
    | assumption
    | (show _ = _; rfl)
    | apply keeps_occur
    | (extract_lets +onlyGivenNames x; refine Keeps.cut (s := s0) (x := x) ?_ (fun hx => ?_); rotate_left; clear_value x; rotate_right; unfold x; clear x)
    | (extract_lets +onlyGivenNames x; clear_value x)
    | split
    | refine Keeps.mk' _ ?_ ?_

theorem keeps_stopTimer {s0 : State} {s : State} {t : Timer} (h0 : Keeps s0 s) :
    Keeps s0 (State.stopTimer s t) := by
  unfold State.stopTimer
  with_reducible repeat' first
    | assumption
    | (show _ = _; rfl)
    | (extract_lets +onlyGivenNames x; clear_value x)
    | refine Keeps.mk' _ ?_ ?_

theorem keeps_consentTimer {s0 : State} {s : State} {leg : Nat} (h0 : Keeps s0 s) :
    Keeps s0 (State.consentTimer s leg) := by
  unfold State.consentTimer
  with_reducible repeat' first
    | assumption
    | apply keeps_stopTimer
    | apply keeps_setTimer
    | (extract_lets +onlyGivenNames x; refine Keeps.cut (s := s0) (x := x) ?_ (fun hx => ?_); rotate_left; clear_value x; rotate_right; unfold x; clear x)
    | split

theorem keeps_lqDrop {s0 : State} {s : State} {leg : Nat} (h0 : Keeps s0 s) :
    Keeps s0 (State.lqDrop s leg) := by
  unfold State.lqDrop
  with_reducible repeat' first
    | assumption
    | apply keeps_occur
    | apply keeps_modLeg

theorem keeps_enqueueLeg {s0 : State} {s : State} {leg : Nat} {p : OutPkt} {len : Nat} (h0 : Keeps s0 s) :
    Keeps s0 (State.enqueueLeg s leg p len) := by
  unfold State.enqueueLeg
  with_reducible repeat' first
    | assumption
    | apply keeps_occur
    | apply keeps_setLeg
    | apply keeps_lqDrop
    | (extract_lets +onlyGivenNames x; clear_value x)
    | split

theorem keeps_flush {s0 : State} {s : State} {leg : Nat} (h0 : Keeps s0 s) :
    Keeps s0 (State.flush s leg) := by
  unfold State.flush
  with_reducible repeat' first
    | assumption
    | apply keeps_setLeg
    | apply keeps_modPort
    | apply keeps_occur
    | (extract_lets +onlyGivenNames x; refine Keeps.cut (s := s0) (x := x) ?_ (fun hx => ?_); rotate_left; clear_value x; rotate_right; unfold x; clear x)
    | (extract_lets +onlyGivenNames x; clear_value x)
    | split

theorem keeps_legTo {s0 : State} {s : State} {leg : Nat} {new : Nat} {cause : Nat} (h0 : Keeps s0 s) :
    Keeps s0 (State.legTo s leg new cause) := by
  unfold State.legTo
  with_reducible repeat' first
    | assumption
    | apply keeps_flush
    | apply keeps_modLeg
    | apply keeps_postObj
    | apply keeps_consentTimer
    | (extract_lets +onlyGivenNames x; refine Keeps.cut (s := s0) (x := x) ?_ (fun hx => ?_); rotate_left; clear_value x; rotate_right; unfold x; clear x)
    | split

theorem keeps_modDec {s0 : State} {s : State} {id : Nat} {g : DecJob → DecJob} (h0 : Keeps s0 s) :
    Keeps s0 (State.modDec s id g) := by
  unfold State.modDec
  with_reducible repeat' first
    | assumption
    | (show _ = _; rfl)
    | refine Keeps.mk' _ ?_ ?_

theorem keeps_modEncJob {s0 : State} {s : State} {id : Nat} {g : EncJob → EncJob} (h0 : Keeps s0 s) :
    Keeps s0 (State.modEncJob s id g) := by
  unfold State.modEncJob
  with_reducible repeat' first
    | assumption
    | (show _ = _; rfl)
    | refine Keeps.mk' _ ?_ ?_

theorem keeps_modEncoding {s0 : State} {s : State} {id : Nat} {k : Nat} {g : Encoding → Encoding} (h0 : Keeps s0 s) :
    Keeps s0 (State.modEncoding s id k g) := by
  unfold State.modEncoding
  with_reducible repeat' first
    | assumption
    | apply keeps_modEncJob

theorem keeps_modFrame {s0 : State} {s : State} {id : Nat} {ts : Nat} {g : DecFrame → DecFrame} (h0 : Keeps s0 s) :
    Keeps s0 (State.modFrame s id ts g) := by
  unfold State.modFrame
  with_reducible repeat' first
    | assumption
    | apply keeps_modDec

theorem keeps_decNext {s0 : State} {s : State} {c : Nat} (h0 : Keeps s0 s) :
    Keeps s0 (State.decNext s c) := by
  unfold State.decNext
  with_reducible repeat' first
    | assumption
    | apply keeps_modFrame
    | apply keeps_modEngine
    | (extract_lets +onlyGivenNames start; have this : _ → _ → State := start; clear this)
    | unfold start
    | (extract_lets +onlyGivenNames x; clear_value x)
    | split

theorem keeps_onPipe {s0 : State} {s : State} {c : Nat} {i : Nat} {r : PipeRun} (h0 : Keeps s0 s) :
    Keeps s0 (State.onPipe s c i r) := by
  unfold State.onPipe
  with_reducible repeat' first
    | assumption
    | apply keeps_modEncoding
    | apply keeps_modEngine
    | refine Keeps.foldl (fun x a hx => ?_) ?_

theorem keeps_resumePipes {s0 : State} {s : State} {c : Nat} {a__internal_hyg0 : Nat} (h0 : Keeps s0 s) :
    Keeps s0 (State.resumePipes s c a__internal_hyg0) := by
  induction a__internal_hyg0 generalizing s c with
  | zero => unfold State.resumePipes; assumption
  | succ n ih =>
    unfold State.resumePipes
    with_reducible repeat' first
      | assumption
      | apply ih
      | apply keeps_onPipe
      | (extract_lets +onlyGivenNames x; clear_value x)
      | split

theorem keeps_carryDec {s0 : State} {s : State} {id : Nat} {a : Nat} {b : Nat} (h0 : Keeps s0 s) :
    Keeps s0 (State.carryDec s id a b) := by
  unfold State.carryDec
  with_reducible repeat' first
    | assumption
    | apply keeps_modEngine
    | apply keeps_decNext

theorem keeps_carryEnc {s0 : State} {s : State} {id : Nat} {a : Nat} {b : Nat} (h0 : Keeps s0 s) :
    Keeps s0 (State.carryEnc s id a b) := by
  unfold State.carryEnc
  with_reducible repeat' first
    | assumption
    | apply keeps_modEngine
    | apply keeps_resumePipes

theorem keeps_setFlow {s0 : State} {s : State} {n : Nat} {f : Flow} (h0 : Keeps s0 s) :
    Keeps s0 (State.setFlow s n f) := by
  unfold State.setFlow
  with_reducible repeat' first
    | assumption
    | (show _ = _; rfl)
    | (extract_lets +onlyGivenNames x; clear_value x)
    | refine Keeps.mk' _ ?_ ?_

theorem keeps_carry {s0 : State} {s : State} {o : FlowOwner} {a : Nat} {b : Nat} (h0 : Keeps s0 s) :
    Keeps s0 (State.carry s o a b) := by
  unfold State.carry
  with_reducible repeat' first
    | assumption
    | apply keeps_carryDec
    | apply keeps_carryEnc
    | split

theorem keeps_putFlow {s0 : State} {s : State} {n : Nat} {f : Flow} {c : Nat} (h0 : Keeps s0 s) :
    Keeps s0 (State.putFlow s n f c) := by
  unfold State.putFlow
  with_reducible repeat' first
    | assumption
    | apply keeps_carry
    | apply keeps_setFlow

theorem keeps_moveFlow {s0 : State} {s : State} {n : Nat} {c : Nat} (h0 : Keeps s0 s) :
    Keeps s0 (State.moveFlow s n c) := by
  unfold State.moveFlow
  with_reducible repeat' first
    | assumption
    | apply keeps_putFlow
    | split

theorem keeps_reflowOne {s0 : State} {s : State} {soft : FlowOwner → Bool} {o : FlowOwner} {cyc : Nat} {t : State}
    (h : Keeps s0 s) (e : s.reflowOne soft o cyc = .ok t) : Keeps s0 t := by
  unfold State.reflowOne at e
  split at e
  · dsimp only at e
    split at e <;> cases e; exact keeps_setFlow h
  · dsimp only at e
    split at e
    · cases e; exact keeps_setFlow h
    · split at e
      · cases e; exact keeps_setFlow h
      · split at e <;> cases e; exact keeps_putFlow h

theorem keeps_reflowAll {s0 : State} {soft : FlowOwner → Bool} {ws : List (FlowOwner × Nat)} {s t : State}
    (h : Keeps s0 s) (e : reflowAll soft ws s = .ok t) : Keeps s0 t := by
  induction ws generalizing s with
  | nil => cases e; exact h
  | cons w ws ih =>
    unfold reflowAll at e
    split at e
    · rename_i heq; exact ih (keeps_reflowOne h heq) e
    · cases e

theorem keeps_endFlows {s0 : State} {s : State} {want : List (FlowOwner × Nat)} (h0 : Keeps s0 s) :
    Keeps s0 (State.endFlows s want) := by
  unfold State.endFlows
  with_reducible repeat' first
    | assumption
    | (show _ = _; rfl)
    | (extract_lets +onlyGivenNames x; refine Keeps.cut (s := s0) (x := x) ?_ (fun hx => ?_); rotate_left; clear_value x; rotate_right; unfold x; clear x)
    | (extract_lets +onlyGivenNames x; clear_value x)
    | refine Keeps.mk' _ ?_ ?_

theorem keeps_reflow {s0 : State} {s : State} {soft : FlowOwner → Bool} {t : State} (h : Keeps s0 s)
    (e : s.reflow soft = .ok t) : Keeps s0 t := by
  unfold State.reflow at e
  dsimp only at e
  split at e
  · cases e
  · exact keeps_reflowAll (keeps_endFlows h) e

theorem keeps_withFlows {s0 : State} {s : State} {soft : FlowOwner → Bool} {k : State → Reply} (h : Keeps s0 s)
    (hk : ∀ x, Keeps s0 x → KeepsR s0 (k x)) : KeepsR s0 (withFlows s soft k) := by
  unfold withFlows; split
  · rename_i heq; exact hk _ (keeps_reflow h heq)
  · exact KeepsR.fail

theorem keeps_settle {s0 : State} {s : State} (h : Keeps s0 s) : Keeps s0 s.settle := by
  unfold State.settle; split
  · rename_i heq; exact keeps_reflow h heq
  · exact keeps_endFlows h

theorem keeps_pushOut {s0 : State} {s : State} {p : OutPkt} (h0 : Keeps s0 s) :
    Keeps s0 (State.pushOut s p) := by
  unfold State.pushOut
  with_reducible repeat' first
    | assumption
    | (show _ = _; rfl)
    | refine Keeps.mk' _ ?_ ?_

theorem keeps_sendRtcp {s0 : State} {s : State} {leg : Nat} {ps : List Rtcp} (h0 : Keeps s0 s) :
    Keeps s0 (State.sendRtcp s leg ps) := by
  unfold State.sendRtcp
  with_reducible repeat' first
    | assumption
    | apply keeps_pushOut
    | split

theorem keeps_sendFb {s0 : State} {s : State} {leg : Nat} {ps : List Rtcp} (h0 : Keeps s0 s) :
    Keeps s0 (State.sendFb s leg ps) := by
  unfold State.sendFb
  with_reducible repeat' first
    | assumption
    | apply keeps_sendRtcp
    | split

theorem keeps_modSlot {s0 : State} {s : State} {leg : Nat} {k : Nat} {g : Slot → Slot} (h0 : Keeps s0 s) :
    Keeps s0 (State.modSlot s leg k g) := by
  unfold State.modSlot
  with_reducible repeat' first
    | assumption
    | apply keeps_modLeg

theorem keeps_modSrc {s0 : State} {s : State} {src : SlotSrc} {g : Track → Track} (h0 : Keeps s0 s) :
    Keeps s0 (State.modSrc s src g) := by
  unfold State.modSrc
  with_reducible repeat' first
    | assumption
    | (show _ = _; rfl)
    | apply keeps_modLeg
    | split
    | refine Keeps.mk' _ ?_ ?_

theorem keeps_jobKey {s0 : State} {s : State} {j : Nat} {enc : Nat} (h0 : Keeps s0 s) :
    Keeps s0 (State.jobKey s j enc) := by
  unfold State.jobKey
  with_reducible repeat' first
    | assumption
    | (show _ = _; rfl)
    | apply keeps_occur
    | (extract_lets +onlyGivenNames x; refine Keeps.cut (s := s0) (x := x) ?_ (fun hx => ?_); rotate_left; clear_value x; rotate_right; unfold x; clear x)
    | (extract_lets +onlyGivenNames x; clear_value x)
    | split
    | refine Keeps.mk' _ ?_ ?_

theorem keeps_sendKey {s0 : State} {s : State} {leg : Nat} {track : Nat} {enc : Nat} {e : Enc} {fir : Bool} (h0 : Keeps s0 s) :
    Keeps s0 (State.sendKey s leg track enc e fir) := by
  unfold State.sendKey
  with_reducible repeat' first
    | assumption
    | apply keeps_modLeg
    | apply keeps_sendFb

theorem keeps_requestKey {s0 : State} {s : State} {src : SlotSrc} {enc : Nat} {fir : Bool} (h0 : Keeps s0 s) :
    Keeps s0 (State.requestKey s src enc fir) := by
  unfold State.requestKey
  with_reducible repeat' first
    | assumption
    | apply keeps_jobKey
    | apply keeps_occur
    | apply keeps_modLeg
    | apply keeps_sendKey
    | split

theorem keeps_layerEvent {s0 : State} {s : State} {leg : Nat} {k : Nat} {cause : Nat} (h0 : Keeps s0 s) :
    Keeps s0 (State.layerEvent s leg k cause) := by
  unfold State.layerEvent
  with_reducible repeat' first
    | assumption
    | apply keeps_postLeg
    | split

theorem keeps_waitKey {s0 : State} {s : State} {leg : Nat} {k : Nat} (h0 : Keeps s0 s) :
    Keeps s0 (State.waitKey s leg k) := by
  unfold State.waitKey
  with_reducible repeat' first
    | assumption
    | apply keeps_modSlot
    | apply keeps_requestKey
    | (extract_lets +onlyGivenNames x; refine Keeps.cut (s := s0) (x := x) ?_ (fun hx => ?_); rotate_left; clear_value x; rotate_right; unfold x; clear x)
    | split

theorem keeps_bumpRoute {s0 : State} {s : State} {src : SlotSrc} (h0 : Keeps s0 s) :
    Keeps s0 (State.bumpRoute s src) := by
  unfold State.bumpRoute
  with_reducible repeat' first
    | assumption
    | apply keeps_modSrc

theorem keeps_endSlot {s0 : State} {s : State} {leg : Nat} {k : Nat} {but : List SlotSrc} (h0 : Keeps s0 s) :
    Keeps s0 (State.endSlot s leg k but) := by
  unfold State.endSlot
  with_reducible repeat' first
    | assumption
    | apply keeps_bumpRoute
    | apply keeps_modLeg
    | apply keeps_sendFb
    | (extract_lets +onlyGivenNames x; refine Keeps.cut (s := s0) (x := x) ?_ (fun hx => ?_); rotate_left; clear_value x; rotate_right; unfold x; clear x)
    | refine Keeps.foldl (fun x a hx => ?_) ?_
    | split

theorem keeps_removeSlot {s0 : State} {s : State} {leg : Nat} {k : Nat} (h0 : Keeps s0 s) :
    Keeps s0 (State.removeSlot s leg k) := keeps_endSlot h0

theorem keeps_removeSlots {s0 : State} {s : State} {leg : Nat} {p : Slot → Bool} (h0 : Keeps s0 s) :
    Keeps s0 (State.removeSlots s leg p) := by
  unfold State.removeSlots
  with_reducible repeat' first
    | assumption
    | apply keeps_removeSlot
    | refine Keeps.foldl (fun x a hx => ?_) ?_
    | split

theorem keeps_slotGone {s0 : State} {s : State} {leg : Nat} {k : Nat} {v : Slot} (h0 : Keeps s0 s) :
    Keeps s0 (State.slotGone s leg k v) := by
  unfold State.slotGone
  with_reducible repeat' first
    | assumption
    | apply keeps_modSlot
    | apply keeps_postLeg
    | (extract_lets +onlyGivenNames x; refine Keeps.cut (s := s0) (x := x) ?_ (fun hx => ?_); rotate_left; clear_value x; rotate_right; unfold x; clear x)
    | split

theorem keeps_sourceLost {s0 : State} {s : State} {n : Nat} {p : Nat → Bool} (h0 : Keeps s0 s) :
    Keeps s0 (State.sourceLost s n p) := by
  unfold State.sourceLost
  with_reducible repeat' first
    | assumption
    | apply keeps_modSlot
    | apply keeps_slotGone
    | refine Keeps.foldl (fun x a hx => ?_) ?_
    | split

theorem keeps_legGoes {s0 : State} {s : State} {leg : Nat} {new : Nat} {cause : Nat} (h0 : Keeps s0 s) :
    Keeps s0 (State.legGoes s leg new cause) := by
  unfold State.legGoes
  with_reducible repeat' first
    | assumption
    | apply keeps_legTo
    | apply keeps_waitKey
    | (extract_lets +onlyGivenNames x; refine Keeps.cut (s := s0) (x := x) ?_ (fun hx => ?_); rotate_left; clear_value x; rotate_right; unfold x; clear x)
    | refine Keeps.foldl (fun x a hx => ?_) ?_
    | split

theorem keeps_rekeyed {s0 : State} {s : State} {leg : Nat} (h0 : Keeps s0 s) :
    Keeps s0 (State.rekeyed s leg) := by
  unfold State.rekeyed
  with_reducible repeat' first
    | assumption
    | apply keeps_legGoes
    | split

theorem keeps_sendControl {s0 : State} {s : State} {g : Nat} {typ : Nat} {r : Reserve} {status : Nat} (h0 : Keeps s0 s) :
    Keeps s0 (State.sendControl s g typ r status) := by
  unfold State.sendControl
  with_reducible repeat' first
    | assumption
    | apply keeps_modGroup
    | split

theorem keeps_releaseLeg {s0 : State} {s : State} {n : Nat} {l : Leg} (h0 : Keeps s0 s) :
    Keeps s0 (State.releaseLeg s n l) := by
  unfold State.releaseLeg
  with_reducible repeat' first
    | assumption
    | (show _ = _; rfl)
    | apply keeps_sendControl
    | (extract_lets +onlyGivenNames x; refine Keeps.cut (s := s0) (x := x) ?_ (fun hx => ?_); rotate_left; clear_value x; rotate_right; unfold x; clear x)
    | (extract_lets +onlyGivenNames x; clear_value x)
    | split
    | refine Keeps.mk' _ ?_ ?_

theorem keeps_doConfCreate {s0 : State} {ch : Nat} {s : State} (h1 : Keeps s0 s) :
    Keeps s0 (doConfCreate ch s) := by
  unfold doConfCreate
  with_reducible repeat' first
    | assumption
    | (show _ = _; rfl)
    | refine keeps_runCmd ?_ (fun c x hx => ?_)
    | refine keeps_withFlows ?_ (fun x hx => ?_)
    | apply keeps_okWords
    | (extract_lets +onlyGivenNames x; refine Keeps.cut (s := s0) (x := x) ?_ (fun hx => ?_); rotate_left; clear_value x; rotate_right; unfold x; clear x)
    | (extract_lets +onlyGivenNames x; clear_value x)
    | refine KeepsR.checks ?_
    | refine Keeps.mk' _ ?_ ?_

theorem keeps_regroupLegs {s0 : State} {s : State} {conf : Nat} {old : Nat} {new : Nat} (h0 : Keeps s0 s) :
    Keeps s0 (State.regroupLegs s conf old new) := by
  unfold State.regroupLegs
  with_reducible repeat' first
    | assumption
    | (show _ = _; rfl)
    | refine Keeps.mk' _ ?_ ?_

theorem keeps_doConfModify {s0 : State} {ch : Nat} {s : State} (h1 : Keeps s0 s) :
    Keeps s0 (doConfModify ch s) := by
  unfold doConfModify
  with_reducible repeat' first
    | assumption
    | refine keeps_runCmd ?_ (fun c x hx => ?_)
    | apply keeps_ok
    | apply keeps_regroupLegs
    | apply keeps_modConf
    | refine keeps_withFlows ?_ (fun x hx => ?_)
    | (extract_lets +onlyGivenNames x; clear_value x)
    | exact KeepsR.fail
    | refine KeepsR.checks ?_
    | split

theorem keeps_rampOut {s0 : State} {s : State} {leg : Nat} (h0 : Keeps s0 s) :
    Keeps s0 (State.rampOut s leg) := by
  unfold State.rampOut
  with_reducible repeat' first
    | assumption
    | (show _ = _; rfl)
    | (extract_lets +onlyGivenNames x; clear_value x)
    | refine Keeps.mk' _ ?_ ?_

theorem keeps_destroyLeg {s0 : State} {s : State} {leg : Nat} (h0 : Keeps s0 s) :
    Keeps s0 (State.destroyLeg s leg) := by
  unfold State.destroyLeg
  with_reducible repeat' first
    | assumption
    | (show _ = _; rfl)
    | apply keeps_releaseLeg
    | apply keeps_rampOut
    | apply keeps_flush
    | apply keeps_sourceLost
    | apply keeps_bumpRoute
    | apply keeps_stopTimer
    | apply keeps_setTimer
    | (extract_lets +onlyGivenNames x; refine Keeps.cut (s := s0) (x := x) ?_ (fun hx => ?_); rotate_left; clear_value x; rotate_right; unfold x; clear x)
    | (extract_lets +onlyGivenNames x; clear_value x)
    | refine Keeps.foldl (fun x a hx => ?_) ?_
    | split
    | refine Keeps.mk' _ ?_ ?_

theorem keeps_doConfDestroy {s0 : State} {ch : Nat} {s : State} (h1 : Keeps s0 s) :
    Keeps s0 (doConfDestroy ch s) := by
  unfold doConfDestroy
  with_reducible repeat' first
    | assumption
    | (show _ = _; rfl)
    | refine keeps_runCmd ?_ (fun c x hx => ?_)
    | apply keeps_destroyLeg
    | apply keeps_okWords
    | apply keeps_settle
    | (extract_lets +onlyGivenNames x; refine Keeps.cut (s := s0) (x := x) ?_ (fun hx => ?_); rotate_left; clear_value x; rotate_right; unfold x; clear x)
    | (extract_lets +onlyGivenNames x; clear_value x)
    | refine Keeps.foldl (fun x a hx => ?_) ?_
    | refine KeepsR.checks ?_
    | refine Keeps.mk' _ ?_ ?_

theorem keeps_doLegDestroy {s0 : State} {ch : Nat} {s : State} (h1 : Keeps s0 s) :
    Keeps s0 (doLegDestroy ch s) := by
  unfold doLegDestroy
  with_reducible repeat' first
    | assumption
    | refine keeps_runCmd ?_ (fun c x hx => ?_)
    | apply keeps_ok
    | apply keeps_settle
    | apply keeps_destroyLeg
    | (extract_lets +onlyGivenNames x; clear_value x)
    | refine KeepsR.checks ?_

theorem keeps_doLegIdFree {s0 : State} {leg : Nat} {s : State} (h1 : Keeps s0 s) :
    Keeps s0 (doLegIdFree leg s) := by
  unfold doLegIdFree
  with_reducible repeat' first
    | assumption
    | (show _ = _; rfl)
    | split
    | refine Keeps.mk' _ ?_ ?_

theorem keeps_rtcpTimer {s0 : State} {s : State} {leg : Nat} (h0 : Keeps s0 s) :
    Keeps s0 (State.rtcpTimer s leg) := by
  unfold State.rtcpTimer
  with_reducible repeat' first
    | assumption
    | apply keeps_draw
    | apply keeps_setTimer
    | apply keeps_modLeg
    | split

theorem keeps_addLeg {s0 : State} {s : State} {id : Nat} {l : Leg} (h0 : Keeps s0 s) :
    Keeps s0 (State.addLeg s id l) := by
  unfold State.addLeg
  with_reducible repeat' first
    | assumption
    | (show _ = _; rfl)
    | apply keeps_rtcpTimer
    | refine Keeps.mk' _ ?_ ?_

theorem keeps_doLegCreate {s0 : State} {ch : Nat} {s : State} (h1 : Keeps s0 s) :
    Keeps s0 (doLegCreate ch s) := by
  unfold doLegCreate
  with_reducible repeat' first
    | assumption
    | refine keeps_runCmd ?_ (fun c x hx => ?_)
    | apply keeps_addLeg
    | refine keeps_withFlows ?_ (fun x hx => ?_)
    | apply keeps_okWords
    | (extract_lets +onlyGivenNames x; refine Keeps.cut (s := s0) (x := x) ?_ (fun hx => ?_); rotate_left; clear_value x; rotate_right; unfold x; clear x)
    | (extract_lets +onlyGivenNames x; clear_value x)
    | refine KeepsR.checks ?_

theorem keeps_modesChanged {s0 : State} {s : State} {leg : Nat} {old : LegCfg} {new : LegCfg} (h0 : Keeps s0 s) :
    Keeps s0 (State.modesChanged s leg old new) := by
  unfold State.modesChanged
  with_reducible repeat' first
    | assumption
    | apply keeps_removeSlots
    | apply keeps_sourceLost
    | (extract_lets +onlyGivenNames x; refine Keeps.cut (s := s0) (x := x) ?_ (fun hx => ?_); rotate_left; clear_value x; rotate_right; unfold x; clear x)
    | refine Keeps.foldl (fun x a hx => ?_) ?_
    | split

theorem keeps_legModes {s0 : State} {c : Ctx} {s : State} {leg : Nat} {l : Leg} (h1 : Keeps s0 s) :
    KeepsR s0 (legModes c s leg l) := by
  unfold legModes
  with_reducible repeat' first
    | assumption
    | apply keeps_modLeg
    | refine keeps_withFlows ?_ (fun x hx => ?_)
    | apply keeps_rampOut
    | apply keeps_ok
    | apply keeps_rekeyed
    | apply keeps_modesChanged
    | (extract_lets +onlyGivenNames x; refine Keeps.cut (s := s0) (x := x) ?_ (fun hx => ?_); rotate_left; clear_value x; rotate_right; unfold x; clear x)
    | (extract_lets +onlyGivenNames x; clear_value x)
    | refine KeepsR.checks ?_
    | split

theorem keeps_legHold {s0 : State} {c : Ctx} {s : State} {leg : Nat} {l : Leg} (h1 : Keeps s0 s) :
    KeepsR s0 (legHold c s leg l) := by
  unfold legHold
  with_reducible repeat' first
    | assumption
    | apply keeps_ok
    | apply keeps_legGoes
    | (extract_lets +onlyGivenNames x; clear_value x)
    | refine KeepsR.checks ?_

theorem keeps_legQueueCfg {s0 : State} {c : Ctx} {s : State} {leg : Nat} {l : Leg} (h1 : Keeps s0 s) :
    KeepsR s0 (legQueueCfg c s leg l) := by
  unfold legQueueCfg
  with_reducible repeat' first
    | assumption
    | apply keeps_modLeg
    | apply keeps_ok
    | apply keeps_consentTimer
    | (extract_lets +onlyGivenNames x; refine Keeps.cut (s := s0) (x := x) ?_ (fun hx => ?_); rotate_left; clear_value x; rotate_right; unfold x; clear x)
    | (extract_lets +onlyGivenNames x; clear_value x)
    | refine KeepsR.checks ?_
    | split

theorem keeps_newPath {s0 : State} {s : State} {leg : Nat} {cfg : LegCfg} (h0 : Keeps s0 s) :
    Keeps s0 (State.newPath s leg cfg) := by
  unfold State.newPath
  with_reducible repeat' first
    | assumption
    | apply keeps_modLeg

theorem keeps_legPath {s0 : State} {c : Ctx} {s : State} {leg : Nat} {l : Leg} {args : List (Bool × Nat × Nat)} {cfg : LegCfg} (h1 : Keeps s0 s) :
    KeepsR s0 (legPath c s leg l args cfg) := by
  unfold legPath
  with_reducible repeat' first
    | assumption
    | apply keeps_ok
    | apply keeps_newPath
    | refine KeepsR.checks ?_

theorem keeps_legMove {s0 : State} {c : Ctx} {s : State} {leg : Nat} {l : Leg} (h1 : Keeps s0 s) :
    KeepsR s0 (legMove c s leg l) := by
  unfold legMove
  with_reducible repeat' first
    | assumption
    | apply keeps_modLeg
    | apply keeps_rampOut
    | apply keeps_sourceLost
    | apply keeps_removeSlots
    | refine keeps_withFlows ?_ (fun x hx => ?_)
    | apply keeps_ok
    | (extract_lets +onlyGivenNames x; refine Keeps.cut (s := s0) (x := x) ?_ (fun hx => ?_); rotate_left; clear_value x; rotate_right; unfold x; clear x)
    | (extract_lets +onlyGivenNames x; clear_value x)
    | refine KeepsR.checks ?_
    | split

theorem keeps_doLegModify {s0 : State} {ch : Nat} {s : State} (h1 : Keeps s0 s) :
    Keeps s0 (doLegModify ch s) := by
  unfold doLegModify
  with_reducible repeat' first
    | assumption
    | refine keeps_runCmd ?_ (fun c x hx => ?_)
    | apply keeps_legModes
    | apply keeps_legHold
    | apply keeps_legQueueCfg
    | apply keeps_legPath
    | apply keeps_legMove
    | (extract_lets +onlyGivenNames x; clear_value x)
    | exact KeepsR.fail
    | refine KeepsR.checks ?_
    | split

theorem keeps_doLegStats {s0 : State} {ch : Nat} {s : State} (h1 : Keeps s0 s) :
    Keeps s0 (doLegStats ch s) := by
  unfold doLegStats
  with_reducible repeat' first
    | assumption
    | refine keeps_runCmd ?_ (fun c x hx => ?_)
    | apply keeps_okWords
    | apply keeps_modLeg
    | (extract_lets +onlyGivenNames x; clear_value x)
    | exact KeepsR.fail
    | refine KeepsR.checks ?_
    | split

theorem keeps_doConsentTimeout {s0 : State} {leg : Nat} {s : State} (h1 : Keeps s0 s) :
    Keeps s0 (doConsentTimeout leg s) := by
  unfold doConsentTimeout
  with_reducible repeat' first
    | assumption
    | apply keeps_legGoes
    | split

theorem keeps_doQtoFire {s0 : State} {leg : Nat} {s : State} (h1 : Keeps s0 s) :
    Keeps s0 (doQtoFire leg s) := by
  unfold doQtoFire
  with_reducible repeat' first
    | assumption
    | apply keeps_modLeg
    | apply keeps_occur
    | (extract_lets +onlyGivenNames x; refine Keeps.cut (s := s0) (x := x) ?_ (fun hx => ?_); rotate_left; clear_value x; rotate_right; unfold x; clear x)
    | split

theorem keeps_modAud {s0 : State} {s : State} {leg : Nat} {g : Aud → Aud} (h0 : Keeps s0 s) :
    Keeps s0 (State.modAud s leg g) := by
  unfold State.modAud
  with_reducible repeat' first
    | assumption
    | apply keeps_modLeg

theorem keeps_audRouting {s0 : State} {c : Ctx} {s : State} {leg : Nat} {l : Leg} {objs : List (Bool × Nat × Nat)} (h1 : Keeps s0 s) :
    KeepsR s0 (audRouting c s leg l objs) := by
  unfold audRouting
  with_reducible repeat' first
    | assumption
    | apply keeps_modAud
    | refine keeps_withFlows ?_ (fun x hx => ?_)
    | apply keeps_rampOut
    | apply keeps_ok
    | (extract_lets +onlyGivenNames x; refine Keeps.cut (s := s0) (x := x) ?_ (fun hx => ?_); rotate_left; clear_value x; rotate_right; unfold x; clear x)
    | (extract_lets +onlyGivenNames x; clear_value x)
    | refine KeepsR.checks ?_
    | split

theorem keeps_audInput {s0 : State} {c : Ctx} {s : State} {leg : Nat} {l : Leg} {objs : List (Bool × Nat × Nat)} (h1 : Keeps s0 s) :
    KeepsR s0 (audInput c s leg l objs) := by
  unfold audInput
  with_reducible repeat' first
    | assumption
    | refine keeps_withFlows ?_ (fun x hx => ?_)
    | apply keeps_modAud
    | apply keeps_ok
    | (extract_lets +onlyGivenNames x; clear_value x)
    | refine KeepsR.checks ?_

theorem keeps_audEncoder {s0 : State} {c : Ctx} {s : State} {leg : Nat} {l : Leg} {objs : List (Bool × Nat × Nat)} (h1 : Keeps s0 s) :
    KeepsR s0 (audEncoder c s leg l objs) := by
  unfold audEncoder
  with_reducible repeat' first
    | assumption
    | refine keeps_withFlows ?_ (fun x hx => ?_)
    | apply keeps_modAud
    | apply keeps_ok
    | (extract_lets +onlyGivenNames x; clear_value x)
    | refine KeepsR.checks ?_

theorem keeps_audIdentity {s0 : State} {c : Ctx} {s : State} {leg : Nat} {l : Leg} {objs : List (Bool × Nat × Nat)} (h1 : Keeps s0 s) :
    KeepsR s0 (audIdentity c s leg l objs) := by
  unfold audIdentity
  with_reducible repeat' first
    | assumption
    | apply keeps_ok
    | apply keeps_modAud
    | (extract_lets +onlyGivenNames x; clear_value x)
    | refine KeepsR.checks ?_

theorem keeps_doAudRoute {s0 : State} {ch : Nat} {s : State} (h1 : Keeps s0 s) :
    Keeps s0 (doAudRoute ch s) := by
  unfold doAudRoute
  with_reducible repeat' first
    | assumption
    | refine keeps_runCmd ?_ (fun c x hx => ?_)
    | apply keeps_audRouting
    | apply keeps_audInput
    | apply keeps_audEncoder
    | apply keeps_audIdentity
    | (extract_lets +onlyGivenNames x; clear_value x)
    | exact KeepsR.fail
    | refine KeepsR.checks ?_
    | split

theorem keeps_modPol {s0 : State} {s : State} {conf : Nat} {g : MixPol → MixPol} (h0 : Keeps s0 s) :
    Keeps s0 (State.modPol s conf g) := by
  unfold State.modPol
  with_reducible repeat' first
    | assumption
    | apply keeps_modConf

theorem keeps_mixSelection {s0 : State} {c : Ctx} {s : State} {conf : Nat} (h1 : Keeps s0 s) :
    KeepsR s0 (mixSelection c s conf) := by
  unfold mixSelection
  with_reducible repeat' first
    | assumption
    | apply keeps_modPol
    | refine keeps_withFlows ?_ (fun x hx => ?_)
    | apply keeps_ok
    | (extract_lets +onlyGivenNames x; refine Keeps.cut (s := s0) (x := x) ?_ (fun hx => ?_); rotate_left; clear_value x; rotate_right; unfold x; clear x)
    | (extract_lets +onlyGivenNames x; clear_value x)
    | refine KeepsR.checks ?_

theorem keeps_mixCascade {s0 : State} {c : Ctx} {s : State} {conf : Nat} {f : Conf} (h1 : Keeps s0 s) :
    KeepsR s0 (mixCascade c s conf f) := by
  unfold mixCascade
  with_reducible repeat' first
    | assumption
    | apply keeps_ok
    | apply keeps_modConf
    | (extract_lets +onlyGivenNames x; clear_value x)
    | refine KeepsR.checks ?_

theorem keeps_doAudMixpolicy {s0 : State} {ch : Nat} {s : State} (h1 : Keeps s0 s) :
    Keeps s0 (doAudMixpolicy ch s) := by
  unfold doAudMixpolicy
  with_reducible repeat' first
    | assumption
    | refine keeps_runCmd ?_ (fun c x hx => ?_)
    | apply keeps_mixSelection
    | apply keeps_mixCascade
    | (extract_lets +onlyGivenNames x; clear_value x)
    | exact KeepsR.fail
    | refine KeepsR.checks ?_
    | split

theorem keeps_doAudDetect {s0 : State} {ch : Nat} {s : State} (h1 : Keeps s0 s) :
    Keeps s0 (doAudDetect ch s) := by
  unfold doAudDetect
  with_reducible repeat' first
    | assumption
    | refine keeps_runCmd ?_ (fun c x hx => ?_)
    | refine keeps_withFlows ?_ (fun x hx => ?_)
    | apply keeps_modAud
    | apply keeps_ok
    | (extract_lets +onlyGivenNames x; clear_value x)
    | refine KeepsR.checks ?_

theorem keeps_evictOldest {s0 : State} {s : State} (h0 : Keeps s0 s) :
    Keeps s0 (State.evictOldest s) := by
  unfold State.evictOldest
  with_reducible repeat' first
    | assumption
    | (show _ = _; rfl)
    | apply keeps_occur
    | split
    | refine Keeps.mk' _ ?_ ?_

theorem keeps_evictFor {s0 : State} {s : State} {need : Nat} {a__internal_hyg0 : Nat} (h0 : Keeps s0 s) :
    Keeps s0 (State.evictFor s need a__internal_hyg0) := by
  induction a__internal_hyg0 generalizing s need with
  | zero => unfold State.evictFor; assumption
  | succ n ih =>
    unfold State.evictFor
    with_reducible repeat' first
      | assumption
      | apply ih
      | apply keeps_evictOldest
      | split

theorem keeps_tbEvent {s0 : State} {s : State} {n : Nat} {new : Nat} {old : Nat} {stepNs : Int} {offNs : Int} (h0 : Keeps s0 s) :
    Keeps s0 (State.tbEvent s n new old stepNs offNs) := by
  unfold State.tbEvent
  with_reducible repeat' first
    | assumption
    | apply keeps_postAll

theorem keeps_tbTo {s0 : State} {s : State} {n : Nat} {new : Nat} (h0 : Keeps s0 s) :
    Keeps s0 (State.tbTo s n new) := by
  unfold State.tbTo
  with_reducible repeat' first
    | assumption
    | apply keeps_tbEvent
    | apply keeps_modBase
    | (extract_lets +onlyGivenNames x; clear_value x)
    | split

theorem keeps_gatesAfterStep {s0 : State} {s : State} {n : Nat} (h0 : Keeps s0 s) :
    Keeps s0 (State.gatesAfterStep s n) := by
  unfold State.gatesAfterStep
  with_reducible repeat' first
    | assumption
    | (show _ = _; rfl)
    | (extract_lets +onlyGivenNames x; clear_value x)
    | split
    | refine Keeps.mk' _ ?_ ?_

theorem keeps_tbStep {s0 : State} {s : State} {n : Nat} {val : Int} {off : Int} (h0 : Keeps s0 s) :
    Keeps s0 (State.tbStep s n val off) := by
  unfold State.tbStep
  with_reducible repeat' first
    | assumption
    | apply keeps_modBase
    | apply keeps_gatesAfterStep
    | apply keeps_tbEvent

theorem keeps_servo {s0 : State} {s : State} {n : Nat} (h0 : Keeps s0 s) :
    Keeps s0 (State.servo s n) := by
  unfold State.servo
  with_reducible repeat' first
    | assumption
    | apply keeps_draw
    | apply keeps_modBase

theorem keeps_slewRate {s0 : State} {s : State} {n : Nat} {off : Int} (h0 : Keeps s0 s) :
    Keeps s0 (State.slewRate s n off) := by
  unfold State.slewRate
  with_reducible repeat' first
    | assumption
    | apply keeps_draw
    | apply keeps_modBase

theorem keeps_toSlew {s0 : State} {s : State} {n : Nat} {off : Int} (h0 : Keeps s0 s) :
    Keeps s0 (State.toSlew s n off) := by
  unfold State.toSlew
  with_reducible repeat' first
    | assumption
    | apply keeps_slewRate
    | apply keeps_tbTo
    | apply keeps_postAll

theorem keeps_measure {s0 : State} {s : State} {n : Nat} {off : Int} (h0 : Keeps s0 s) :
    Keeps s0 (State.measure s n off) := by
  unfold State.measure
  with_reducible repeat' first
    | assumption
    | apply keeps_modBase
    | apply keeps_tbStep
    | apply keeps_toSlew
    | apply keeps_servo
    | apply keeps_tbTo
    | apply keeps_slewRate
    | (extract_lets +onlyGivenNames x; refine Keeps.cut (s := s0) (x := x) ?_ (fun hx => ?_); rotate_left; clear_value x; rotate_right; unfold x; clear x)
    | (extract_lets +onlyGivenNames x; clear_value x)
    | split

theorem keeps_tbHoldover {s0 : State} {s : State} {n : Nat} (h0 : Keeps s0 s) :
    Keeps s0 (State.tbHoldover s n) := by
  unfold State.tbHoldover
  with_reducible repeat' first
    | assumption
    | apply keeps_servo
    | apply keeps_tbTo
    | apply keeps_modBase
    | (extract_lets +onlyGivenNames x; refine Keeps.cut (s := s0) (x := x) ?_ (fun hx => ?_); rotate_left; clear_value x; rotate_right; unfold x; clear x)
    | (extract_lets +onlyGivenNames x; clear_value x)
    | split

theorem keeps_announce {s0 : State} {s : State} {n : Nat} {a : Announce} (h0 : Keeps s0 s) :
    Keeps s0 (State.announce s n a) := by
  unfold State.announce
  with_reducible repeat' first
    | assumption
    | apply keeps_modBase
    | apply keeps_tbHoldover
    | (extract_lets +onlyGivenNames x; clear_value x)
    | split

theorem keeps_sync {s0 : State} {s : State} {n : Nat} {port : Nat} {t1 : Int} (h0 : Keeps s0 s) :
    Keeps s0 (State.sync s n port t1) := by
  unfold State.sync
  with_reducible repeat' first
    | assumption
    | apply keeps_modBase
    | apply keeps_measure
    | (extract_lets +onlyGivenNames x; refine Keeps.cut (s := s0) (x := x) ?_ (fun hx => ?_); rotate_left; clear_value x; rotate_right; unfold x; clear x)
    | (extract_lets +onlyGivenNames x; clear_value x)
    | split

theorem keeps_ptpQueue {s0 : State} {s : State} {i : PtpInst} {port : Nat} {kind : Nat} (h0 : Keeps s0 s) :
    Keeps s0 (State.ptpQueue s i port kind) := by
  unfold State.ptpQueue
  with_reducible repeat' first
    | assumption
    | apply keeps_modPort

theorem keeps_ptpIn {s0 : State} {s : State} {n : Nat} {port : Nat} {m : Ptp} (h0 : Keeps s0 s) :
    Keeps s0 (State.ptpIn s n port m) := by
  unfold State.ptpIn
  with_reducible repeat' first
    | assumption
    | apply keeps_announce
    | apply keeps_sync
    | apply keeps_modBase
    | apply keeps_ptpQueue
    | apply keeps_occur
    | (extract_lets +onlyGivenNames x; clear_value x)
    | split

theorem keeps_ptpRx {s0 : State} {s : State} {port : Nat} {m : Ptp} (h0 : Keeps s0 s) :
    Keeps s0 (State.ptpRx s port m) := by
  unfold State.ptpRx
  with_reducible repeat' first
    | assumption
    | apply keeps_forEach
    | apply keeps_ptpIn
    | intro _

theorem keeps_doPtpMessageTx {s0 : State} {tb : Nat} {port : Nat} {kind : Nat} {s : State} (h3 : Keeps s0 s) :
    Keeps s0 (doPtpMessageTx tb port kind s) := by
  unfold doPtpMessageTx
  with_reducible repeat' first
    | assumption
    | (show _ = _; rfl)
    | apply keeps_ptpQueue
    | apply keeps_modBase
    | (extract_lets +onlyGivenNames x; refine Keeps.cut (s := s0) (x := x) ?_ (fun hx => ?_); rotate_left; clear_value x; rotate_right; unfold x; clear x)
    | (extract_lets +onlyGivenNames x; have this : Time := x; clear this)
    | (extract_lets +onlyGivenNames x; clear_value x)
    | split
    | refine Keeps.mk' _ ?_ ?_

theorem keeps_tbMasterLost {s0 : State} {s : State} {tb : Nat} (h0 : Keeps s0 s) :
    Keeps s0 (State.tbMasterLost s tb) := by
  unfold State.tbMasterLost
  with_reducible repeat' first
    | assumption
    | apply keeps_postAll
    | apply keeps_modBase
    | apply keeps_tbHoldover
    | split

theorem keeps_doPtpMasterLost {s0 : State} {tb : Nat} {s : State} (h1 : Keeps s0 s) :
    Keeps s0 (doPtpMasterLost tb s) := by
  unfold doPtpMasterLost
  with_reducible repeat' first
    | assumption
    | apply keeps_tbMasterLost

theorem keeps_doPtpTcFrame {s0 : State} {inPort : Nat} {outPort : Nat} {m : Ptp} {ingress : Int} {egress : Int} {s : State} (h5 : Keeps s0 s) :
    Keeps s0 (doPtpTcFrame inPort outPort m ingress egress s) := by
  unfold doPtpTcFrame
  with_reducible repeat' first
    | assumption
    | (show _ = _; rfl)
    | (extract_lets +onlyGivenNames x; have this : Time := x; clear this)
    | split
    | refine Keeps.mk' _ ?_ ?_

theorem keeps_doPpsInEdge {s0 : State} {s : State} (h0 : Keeps s0 s) :
    Keeps s0 (doPpsInEdge s) := by
  unfold doPpsInEdge
  with_reducible repeat' first
    | assumption
    | (show _ = _; rfl)
    | apply keeps_measure
    | (extract_lets +onlyGivenNames x; refine Keeps.cut (s := s0) (x := x) ?_ (fun hx => ?_); rotate_left; clear_value x; rotate_right; unfold x; clear x)
    | (extract_lets +onlyGivenNames x; have this : Time := x; clear this)
    | (extract_lets +onlyGivenNames x; clear_value x)
    | split
    | refine Keeps.mk' _ ?_ ?_

theorem keeps_doPpsInLost {s0 : State} {s : State} (h0 : Keeps s0 s) :
    Keeps s0 (doPpsInLost s) := by
  unfold doPpsInLost
  with_reducible repeat' first
    | assumption
    | (show _ = _; rfl)
    | apply keeps_postAll
    | apply keeps_tbHoldover
    | (extract_lets +onlyGivenNames x; refine Keeps.cut (s := s0) (x := x) ?_ (fun hx => ?_); rotate_left; clear_value x; rotate_right; unfold x; clear x)
    | (extract_lets +onlyGivenNames x; have this : Time := x; clear this)
    | (extract_lets +onlyGivenNames x; clear_value x)
    | split
    | refine Keeps.mk' _ ?_ ?_

theorem keeps_doTodInLine {s0 : State} {bytes : List Byte} {msAfterEdge : Nat} {s : State} (h2 : Keeps s0 s) :
    Keeps s0 (doTodInLine bytes msAfterEdge s) := by
  unfold doTodInLine
  with_reducible repeat' first
    | assumption
    | apply keeps_occur
    | apply keeps_measure
    | (extract_lets +onlyGivenNames x; clear_value x)
    | split

theorem keeps_doClk10mInPresent {s0 : State} {s : State} (h0 : Keeps s0 s) :
    Keeps s0 (doClk10mInPresent s) := by
  unfold doClk10mInPresent
  with_reducible repeat' first
    | assumption
    | (show _ = _; rfl)
    | (extract_lets +onlyGivenNames x; have this : Time := x; clear this)
    | split
    | refine Keeps.mk' _ ?_ ?_

theorem keeps_doClk10mInLost {s0 : State} {s : State} (h0 : Keeps s0 s) :
    Keeps s0 (doClk10mInLost s) := by
  unfold doClk10mInLost
  with_reducible repeat' first
    | assumption
    | (show _ = _; rfl)
    | apply keeps_postAll
    | (extract_lets +onlyGivenNames x; have this : Time := x; clear this)
    | split
    | refine Keeps.mk' _ ?_ ?_

theorem keeps_doPpsOutEdge {s0 : State} {s : State} (h0 : Keeps s0 s) :
    Keeps s0 (doPpsOutEdge s) := by
  unfold doPpsOutEdge
  with_reducible repeat' first
    | assumption
    | (show _ = _; rfl)
    | (extract_lets +onlyGivenNames x; have this : Time := x; clear this)
    | (extract_lets +onlyGivenNames x; clear_value x)
    | split
    | refine Keeps.mk' _ ?_ ?_

theorem keeps_doTodOutLine {s0 : State} {s : State} (h0 : Keeps s0 s) :
    Keeps s0 (doTodOutLine s) := by
  unfold doTodOutLine
  with_reducible repeat' first
    | assumption
    | (show _ = _; rfl)
    | (extract_lets +onlyGivenNames x; have this : Time := x; clear this)
    | split
    | refine Keeps.mk' _ ?_ ?_

theorem keeps_tbConfigInst {s0 : State} {c : Ctx} {s : State} (h1 : Keeps s0 s) :
    KeepsR s0 (tbConfigInst c s) := by
  unfold tbConfigInst
  with_reducible repeat' first
    | assumption
    | apply keeps_modBase
    | apply keeps_tbHoldover
    | apply keeps_ok
    | (extract_lets +onlyGivenNames x; refine Keeps.cut (s := s0) (x := x) ?_ (fun hx => ?_); rotate_left; clear_value x; rotate_right; unfold x; clear x)
    | (extract_lets +onlyGivenNames x; clear_value x)
    | refine KeepsR.checks ?_
    | split

theorem keeps_tbConfigOther {s0 : State} {c : Ctx} {s : State} (h1 : Keeps s0 s) :
    KeepsR s0 (tbConfigOther c s) := by
  unfold tbConfigOther
  with_reducible repeat' first
    | assumption
    | (show _ = _; rfl)
    | apply keeps_ok
    | (extract_lets +onlyGivenNames x; have this : Time := x; clear this)
    | refine KeepsR.checks ?_
    | split
    | refine Keeps.mk' _ ?_ ?_

theorem keeps_doTbConfig {s0 : State} {ch : Nat} {s : State} (h1 : Keeps s0 s) :
    Keeps s0 (doTbConfig ch s) := by
  unfold doTbConfig
  with_reducible repeat' first
    | assumption
    | refine keeps_runCmd ?_ (fun c x hx => ?_)
    | apply keeps_tbConfigInst
    | apply keeps_tbConfigOther
    | exact KeepsR.fail
    | refine KeepsR.checks ?_
    | split

theorem keeps_doTbArm {s0 : State} {ch : Nat} {s : State} (h1 : Keeps s0 s) :
    Keeps s0 (doTbArm ch s) := by
  unfold doTbArm
  with_reducible repeat' first
    | assumption
    | refine keeps_runCmd ?_ (fun c x hx => ?_)
    | apply keeps_ok
    | apply keeps_modBase
    | apply keeps_tbStep
    | apply keeps_tbTo
    | (extract_lets +onlyGivenNames x; clear_value x)
    | refine KeepsR.checks ?_
    | split

theorem keeps_doTbStatus {s0 : State} {ch : Nat} {s : State} (h1 : Keeps s0 s) :
    Keeps s0 (doTbStatus ch s) := by
  unfold doTbStatus
  with_reducible repeat' first
    | assumption
    | refine keeps_runCmd ?_ (fun c x hx => ?_)
    | apply keeps_okWords

theorem keeps_doTickSource {s0 : State} {ch : Nat} {s : State} (h1 : Keeps s0 s) :
    Keeps s0 (doTickSource ch s) := by
  unfold doTickSource
  with_reducible repeat' first
    | assumption
    | (show _ = _; rfl)
    | refine keeps_runCmd ?_ (fun c x hx => ?_)
    | apply keeps_ok
    | (extract_lets +onlyGivenNames x; have this : Time := x; clear this)
    | refine KeepsR.checks ?_
    | refine Keeps.mk' _ ?_ ?_

theorem keeps_doMboxMsgWrite {s0 : State} {mid : Nat} {ch : Nat} {i : Nat} {w : Word} {s : State} (h4 : Keeps s0 s) :
    Keeps s0 (doMboxMsgWrite mid ch i w s) := by
  unfold doMboxMsgWrite
  with_reducible repeat' first
    | assumption
    | apply keeps_denied
    | apply keeps_modChan
    | (extract_lets +onlyGivenNames x; clear_value x)
    | split

theorem keeps_doGo {s0 : State} {mid : Nat} {ch : Nat} {w : Word} {s : State} (h3 : Keeps s0 s) :
    Keeps s0 (doGo mid ch w s) := by
  unfold doGo
  with_reducible repeat' first
    | assumption
    | apply keeps_denied
    | apply keeps_modChan
    | apply keeps_modFn
    | (extract_lets +onlyGivenNames x; refine Keeps.cut (s := s0) (x := x) ?_ (fun hx => ?_); rotate_left; clear_value x; rotate_right; unfold x; clear x)
    | (extract_lets +onlyGivenNames x; clear_value x)
    | split

theorem keeps_emptied {s0 : State} {s : State} {ch : Nat} (h0 : Keeps s0 s) :
    Keeps s0 (State.emptied s ch) := by
  unfold State.emptied
  with_reducible repeat' first
    | assumption
    | apply keeps_modFn
    | (extract_lets +onlyGivenNames x; clear_value x)
    | split

theorem keeps_freed {s0 : State} {s : State} {ch : Nat} (h0 : Keeps s0 s) :
    Keeps s0 (State.freed s ch) := by
  unfold State.freed
  with_reducible repeat' first
    | assumption
    | (show _ = _; rfl)
    | apply keeps_emptied
    | apply keeps_pump
    | (extract_lets +onlyGivenNames x; clear_value x)
    | split
    | refine Keeps.mk' _ ?_ ?_

theorem keeps_doTake {s0 : State} {mid : Nat} {ch : Nat} {s : State} (h2 : Keeps s0 s) :
    Keeps s0 (doTake mid ch s) := by
  unfold doTake
  with_reducible repeat' first
    | assumption
    | (show _ = _; rfl)
    | apply keeps_denied
    | apply keeps_modChan
    | apply keeps_freed
    | (extract_lets +onlyGivenNames x; refine Keeps.cut (s := s0) (x := x) ?_ (fun hx => ?_); rotate_left; clear_value x; rotate_right; unfold x; clear x)
    | (extract_lets +onlyGivenNames x; clear_value x)
    | split
    | refine Keeps.mk' _ ?_ ?_

theorem keeps_doHeldTimeout {s0 : State} {ch : Nat} {s : State} (h1 : Keeps s0 s) :
    Keeps s0 (doHeldTimeout ch s) := by
  unfold doHeldTimeout
  with_reducible repeat' first
    | assumption
    | apply keeps_modChan
    | split

theorem keeps_doBindLock {s0 : State} {mid : Nat} {w : Word} {s : State} (h : Keeps s0 s) : Keeps s0 (doBindLock mid w s) := by
  unfold doBindLock; split
  · exact ⟨h.pending, h.mem, fun hl => ⟨rfl, (h.lock hl).2⟩, h.time⟩
  · exact h

theorem keeps_enqueue {s0 : State} {s : State} {ch : Nat} {c : Cmd} (h0 : Keeps s0 s) :
    Keeps s0 (State.enqueue s ch c) := by
  unfold State.enqueue
  with_reducible repeat' first
    | assumption
    | apply keeps_setQueue

theorem keeps_arrive {s0 : State} {s : State} {ch : Nat} {op : Nat} {tag : Nat} {args : List Word} (h0 : Keeps s0 s) :
    Keeps s0 (State.arrive s ch op tag args) := by
  unfold State.arrive
  with_reducible repeat' first
    | assumption
    | apply keeps_enqueue

theorem keeps_closeSeg {s0 : State} {s : State} {ch : Nat} (h0 : Keeps s0 s) :
    Keeps s0 (State.closeSeg s ch) := by
  unfold State.closeSeg
  with_reducible repeat' first
    | assumption
    | (show _ = _; rfl)
    | (extract_lets +onlyGivenNames x; clear_value x)
    | refine Keeps.mk' _ ?_ ?_

theorem keeps_openSeg {s0 : State} {s : State} {ch : Nat} {g : Seg} (h0 : Keeps s0 s) :
    Keeps s0 (State.openSeg s ch g) := by
  unfold State.openSeg
  with_reducible repeat' first
    | assumption
    | (show _ = _; rfl)
    | (extract_lets +onlyGivenNames x; clear_value x)
    | refine Keeps.mk' _ ?_ ?_

theorem keeps_discardSeg {s0 : State} {s : State} {ch : Nat} {op : Nat} {tag : Nat} (h0 : Keeps s0 s) :
    Keeps s0 (State.discardSeg s ch op tag) := by
  unfold State.discardSeg
  with_reducible repeat' first
    | assumption
    | (show _ = _; rfl)
    | (extract_lets +onlyGivenNames x; clear_value x)
    | refine Keeps.mk' _ ?_ ?_

theorem keeps_endDiscard {s0 : State} {s : State} {ch : Nat} (h0 : Keeps s0 s) :
    Keeps s0 (State.endDiscard s ch) := by
  unfold State.endDiscard
  with_reducible repeat' first
    | assumption
    | (show _ = _; rfl)
    | (extract_lets +onlyGivenNames x; clear_value x)
    | refine Keeps.mk' _ ?_ ?_

theorem keeps_refuseSeg {s0 : State} {s : State} {ch : Nat} {op : Nat} {tag : Nat} {code : Nat} {more : Bool} (h0 : Keeps s0 s) :
    Keeps s0 (State.refuseSeg s ch op tag code more) := by
  unfold State.refuseSeg
  with_reducible repeat' first
    | assumption
    | apply keeps_enqueue
    | apply keeps_closeSeg
    | apply keeps_discardSeg
    | (extract_lets +onlyGivenNames x; refine Keeps.cut (s := s0) (x := x) ?_ (fun hx => ?_); rotate_left; clear_value x; rotate_right; unfold x; clear x)
    | split

theorem keeps_firstMsg {s0 : State} {s : State} {ch : Nat} {w0 : Word} {args : List Word} (h0 : Keeps s0 s) :
    Keeps s0 (State.firstMsg s ch w0 args) := by
  unfold State.firstMsg
  with_reducible repeat' first
    | assumption
    | apply keeps_refuseSeg
    | apply keeps_openSeg
    | apply keeps_arrive
    | (extract_lets +onlyGivenNames x; clear_value x)
    | split

theorem keeps_message {s0 : State} {s : State} {ch : Nat} {w0 : Word} {args : List Word} (h0 : Keeps s0 s) :
    Keeps s0 (State.message s ch w0 args) := by
  unfold State.message
  with_reducible repeat' first
    | assumption
    | apply keeps_endDiscard
    | apply keeps_firstMsg
    | apply keeps_refuseSeg
    | apply keeps_openSeg
    | apply keeps_arrive
    | apply keeps_closeSeg
    | (extract_lets +onlyGivenNames x; clear_value x)
    | split

theorem keeps_doControlTakeMessage {s0 : State} {s : State} (h0 : Keeps s0 s) :
    Keeps s0 (doControlTakeMessage s) := by
  unfold doControlTakeMessage
  with_reducible repeat' first
    | assumption
    | (show _ = _; rfl)
    | apply keeps_emptied
    | apply keeps_modChan
    | apply keeps_drain
    | apply keeps_message
    | (extract_lets +onlyGivenNames x; refine Keeps.cut (s := s0) (x := x) ?_ (fun hx => ?_); rotate_left; clear_value x; rotate_right; unfold x; clear x)
    | (extract_lets +onlyGivenNames x; clear_value x)
    | split
    | refine Keeps.mk' _ ?_ ?_

theorem keeps_doEvrCtlEnable {s0 : State} {fn : Nat} {w : Word} {s : State} (h2 : Keeps s0 s) :
    Keeps s0 (doEvrCtlEnable fn w s) := by
  unfold doEvrCtlEnable
  with_reducible repeat' first
    | assumption
    | apply keeps_modFn

theorem keeps_doEvrHeadWrite {s0 : State} {fn : Nat} {w : Word} {s : State} (h2 : Keeps s0 s) :
    Keeps s0 (doEvrHeadWrite fn w s) := by
  unfold doEvrHeadWrite
  with_reducible repeat' first
    | assumption
    | apply keeps_modFn

theorem keeps_postHeld {s0 : State} {s : State} {f : Nat} {a__internal_hyg0 : Nat} (h0 : Keeps s0 s) :
    Keeps s0 (State.postHeld s f a__internal_hyg0) := by
  induction a__internal_hyg0 generalizing s f with
  | zero => unfold State.postHeld; assumption
  | succ n ih =>
    unfold State.postHeld
    with_reducible repeat' first
      | assumption
      | apply ih
      | apply keeps_modFn
      | apply keeps_markPosted
      | (extract_lets +onlyGivenNames x; clear_value x)
      | split

theorem keeps_doHeldEventPost {s0 : State} {fn : Nat} {s : State} (h1 : Keeps s0 s) :
    Keeps s0 (doHeldEventPost fn s) := by
  unfold doHeldEventPost
  with_reducible repeat' first
    | assumption
    | apply keeps_postHeld

theorem keeps_doHoldoffExpire {s0 : State} {fn : Nat} {s : State} (h1 : Keeps s0 s) :
    Keeps s0 (doHoldoffExpire fn s) := by
  unfold doHoldoffExpire
  with_reducible repeat' first
    | assumption
    | apply keeps_modFn

theorem keeps_doTbSnapCapture {s0 : State} {fn : Nat} {w : Word} {s : State} (h2 : Keeps s0 s) :
    Keeps s0 (doTbSnapCapture fn w s) := by
  unfold doTbSnapCapture
  with_reducible repeat' first
    | assumption
    | apply keeps_modFn

theorem keeps_doTickNowRead {s0 : State} {fn : Nat} {s : State} (h1 : Keeps s0 s) :
    Keeps s0 (doTickNowRead fn s) := by
  unfold doTickNowRead
  with_reducible repeat' first
    | assumption
    | (show _ = _; rfl)
    | apply keeps_modFn
    | (extract_lets +onlyGivenNames x; refine Keeps.cut (s := s0) (x := x) ?_ (fun hx => ?_); rotate_left; clear_value x; rotate_right; unfold x; clear x)
    | (extract_lets +onlyGivenNames x; clear_value x)
    | refine Keeps.mk' _ ?_ ?_

theorem keeps_doPtmDialogue {s0 : State} {port : Nat} {master : Option Nat} {s : State} (h2 : Keeps s0 s) :
    Keeps s0 (doPtmDialogue port master s) := by
  unfold doPtmDialogue
  with_reducible repeat' first
    | assumption
    | (show _ = _; rfl)
    | (extract_lets +onlyGivenNames x; have this : Time := x; clear this)
    | (extract_lets +onlyGivenNames x; clear_value x)
    | split
    | refine Keeps.mk' _ ?_ ?_

theorem keeps_writePtmCtl {s0 : State} {f : Nat} {w : Word} {s : State} (h2 : Keeps s0 s) :
    Keeps s0 (writePtmCtl f w s) := by
  unfold writePtmCtl
  with_reducible repeat' first
    | assumption
    | (show _ = _; rfl)
    | (extract_lets +onlyGivenNames x; have this : Time := x; clear this)
    | (extract_lets +onlyGivenNames x; clear_value x)
    | split
    | refine Keeps.mk' _ ?_ ?_

theorem keeps_lqFlushDenied {s0 : State} {s : State} {f : Nat} {leg : Nat} (h0 : Keeps s0 s) :
    Keeps s0 (State.lqFlushDenied s f leg) := by
  unfold State.lqFlushDenied
  with_reducible repeat' first
    | assumption
    | apply keeps_occur
    | apply keeps_modFn

theorem keeps_doLqFlush {s0 : State} {fn : Nat} {w : Word} {s : State} (h2 : Keeps s0 s) :
    Keeps s0 (doLqFlush fn w s) := by
  unfold doLqFlush
  with_reducible repeat' first
    | assumption
    | apply keeps_lqFlushDenied
    | apply keeps_modFn
    | apply keeps_flush
    | (extract_lets +onlyGivenNames x; clear_value x)
    | split

theorem keeps_doLqFlushComplete {s0 : State} {fn : Nat} {s : State} (h1 : Keeps s0 s) :
    Keeps s0 (doLqFlushComplete fn s) := by
  unfold doLqFlushComplete
  with_reducible repeat' first
    | assumption
    | apply keeps_modFn

theorem keeps_doPrCtlEnable {s0 : State} {fn : Nat} {ring : Nat} {w : Word} {s : State} (h3 : Keeps s0 s) :
    Keeps s0 (doPrCtlEnable fn ring w s) := by
  unfold doPrCtlEnable
  with_reducible repeat' first
    | assumption
    | apply keeps_modFn
    | split

theorem keeps_doPrHeadWrite {s0 : State} {fn : Nat} {ring : Nat} {w : Word} {s : State} (h3 : Keeps s0 s) :
    Keeps s0 (doPrHeadWrite fn ring w s) := by
  unfold doPrHeadWrite
  with_reducible repeat' first
    | assumption
    | apply keeps_modFn
    | (extract_lets +onlyGivenNames x; clear_value x)
    | split

theorem keeps_doSptxTailWrite {s0 : State} {fn : Nat} {w : Word} {s : State} (h2 : Keeps s0 s) :
    Keeps s0 (doSptxTailWrite fn w s) := by
  unfold doSptxTailWrite
  with_reducible repeat' first
    | assumption
    | apply keeps_modFn

theorem keeps_readChan {s0 : State} {mid : Nat} {ch : Nat} {reg : Nat} {s : State} (h3 : Keeps s0 s) :
    Keeps s0 (readChan mid ch reg s) := by
  unfold readChan
  with_reducible repeat' first
    | assumption
    | (show _ = _; rfl)
    | apply keeps_doTake
    | apply keeps_denied
    | (extract_lets +onlyGivenNames x; refine Keeps.cut (s := s0) (x := x) ?_ (fun hx => ?_); rotate_left; clear_value x; rotate_right; unfold x; clear x)
    | split
    | refine Keeps.mk' _ ?_ ?_

theorem keeps_readHbm {s0 : State} {off : Nat} {s : State} (h : Keeps s0 s) : Keeps s0 (readHbm off s).2 := by
  unfold readHbm
  dsimp only
  repeat' first
    | with_reducible assumption
    | split
    | with_reducible exact keeps_modFn h
    | with_reducible exact keeps_modPchan h
    | exact Keeps.mk' _ rfl h

theorem keeps_readRing {s0 : State} {f r reg : Nat} {s : State} (h : Keeps s0 s) : Keeps s0 (readRing f r reg s).2 := by
  unfold readRing
  dsimp only
  repeat' first
    | with_reducible assumption
    | split
    | with_reducible exact keeps_modFn h
    | with_reducible exact keeps_modPchan h
    | exact Keeps.mk' _ rfl h

theorem keeps_readEvr {s0 : State} {f off : Nat} {s : State} (h : Keeps s0 s) : Keeps s0 (readEvr f off s).2 := by
  unfold readEvr
  dsimp only
  repeat' first
    | with_reducible assumption
    | split
    | with_reducible exact keeps_modFn h
    | with_reducible exact keeps_modPchan h
    | exact Keeps.mk' _ rfl h

theorem keeps_readLq {s0 : State} {f off : Nat} {s : State} (h : Keeps s0 s) : Keeps s0 (readLq f off s).2 := by
  unfold readLq
  dsimp only
  repeat' first
    | with_reducible assumption
    | split
    | with_reducible exact keeps_modFn h
    | with_reducible exact keeps_modPchan h
    | exact Keeps.mk' _ rfl h

theorem keeps_doCntLoRead {s0 : State} {fn : Nat} {i : Nat} {s : State} (h2 : Keeps s0 s) :
    Keeps s0 (doCntLoRead fn i s) := by
  unfold doCntLoRead
  with_reducible repeat' first
    | assumption
    | (show _ = _; rfl)
    | apply keeps_modFn
    | (extract_lets +onlyGivenNames x; refine Keeps.cut (s := s0) (x := x) ?_ (fun hx => ?_); rotate_left; clear_value x; rotate_right; unfold x; clear x)
    | (extract_lets +onlyGivenNames x; clear_value x)
    | refine Keeps.mk' _ ?_ ?_

theorem keeps_doRcRegisterRead {s0 : State} {fn off : Nat} {s : State} (h : Keeps s0 s) : Keeps s0 (doRcRegisterRead fn off s) := by
  unfold doRcRegisterRead
  extract_lets put
  have hp : ∀ p, Keeps s0 p.2 → Keeps s0 (put p) := fun p hp => Keeps.mk' _ rfl hp
  clear_value put
  repeat' first
    | with_reducible exact hp _ h
    | with_reducible exact keeps_readChan h
    | with_reducible exact keeps_doTickNowRead h
    | with_reducible exact hp _ (keeps_readEvr h)
    | with_reducible exact hp _ (keeps_readLq h)
    | with_reducible exact hp _ (keeps_readRing h)
    | with_reducible exact hp _ (keeps_readHbm h)
    | with_reducible exact keeps_doCntLoRead h
    | with_reducible refine hp _ ?_
    | extract_lets
    | with_reducible refine keeps_ite ?_ ?_
    | (with_reducible refine hp _ ?_; split; exact keeps_readHbm h; exact h)
    | (split; exact keeps_readHbm h; exact h)

theorem keeps_writeChan {s0 : State} {mid : Nat} {ch : Nat} {reg : Nat} {w : Word} {s : State} (h4 : Keeps s0 s) :
    Keeps s0 (writeChan mid ch reg w s) := by
  unfold writeChan
  with_reducible repeat' first
    | assumption
    | apply keeps_doMboxMsgWrite
    | apply keeps_doGo
    | apply keeps_denied
    | split

theorem keeps_writeRing {s0 : State} {f : Nat} {r : Nat} {reg : Nat} {w : Word} {s : State} (h4 : Keeps s0 s) :
    Keeps s0 (writeRing f r reg w s) := by
  unfold writeRing
  with_reducible repeat' first
    | assumption
    | apply keeps_modFn
    | apply keeps_doPrCtlEnable
    | apply keeps_doPrHeadWrite
    | apply keeps_doSptxTailWrite
    | split

theorem keeps_writeEvr {s0 : State} {f : Nat} {off : Nat} {w : Word} {s : State} (h3 : Keeps s0 s) :
    Keeps s0 (writeEvr f off w s) := by
  unfold writeEvr
  with_reducible repeat' first
    | assumption
    | apply keeps_modFn
    | apply keeps_doEvrCtlEnable
    | apply keeps_doEvrHeadWrite
    | (extract_lets +onlyGivenNames mod; have this : _ → State := mod; clear this)
    | unfold mod
    | split

theorem keeps_writePf {s0 : State} {off : Nat} {w : Word} {s : State} (h2 : Keeps s0 s) :
    Keeps s0 (writePf off w s) := by
  unfold writePf
  with_reducible repeat' first
    | assumption
    | (show _ = _; rfl)
    | (extract_lets +onlyGivenNames x; clear_value x)
    | split
    | refine Keeps.mk' _ ?_ ?_

theorem keeps_writeBar0 {s0 : State} {f : Nat} {off : Nat} {w : Word} {s : State} (h3 : Keeps s0 s) :
    Keeps s0 (writeBar0 f off w s) := by
  unfold writeBar0
  with_reducible repeat' first
    | assumption
    | apply keeps_writeChan
    | apply keeps_writeEvr
    | apply keeps_doTbSnapCapture
    | apply keeps_writePtmCtl
    | apply keeps_doLqFlush
    | apply keeps_writeRing
    | apply keeps_writePf
    | split

theorem keeps_writeBar2 {s0 : State} {f : Nat} {off : Nat} {w : Word} {s : State} (h3 : Keeps s0 s) :
    Keeps s0 (writeBar2 f off w s) := by
  unfold writeBar2
  with_reducible repeat' first
    | assumption
    | apply keeps_modFn
    | split

theorem keeps_writeLimlum {s0 : State} {mid off : Nat} {w : Word} {s : State} (h : Keeps s0 s) : Keeps s0 (writeLimlum mid off w s) := by
  unfold writeLimlum; split
  · exact h
  · split
    · exact keeps_doBindLock h
    · split
      · rename_i hc
        refine ⟨h.pending, h.mem, fun hl => ?_, h.time⟩
        have := (h.lock hl).1
        simp [this] at hc
      · exact h

theorem keeps_doRegisterWrite {s0 : State} {addr : RegAddr} {w : Word} {s : State} (h2 : Keeps s0 s) :
    Keeps s0 (doRegisterWrite addr w s) := by
  unfold doRegisterWrite
  with_reducible repeat' first
    | assumption
    | apply keeps_writeBar0
    | apply keeps_writeBar2
    | apply keeps_writeLimlum
    | split

theorem keeps_smbRead32 {s0 : State} {off : Nat} {s : State} (h1 : Keeps s0 s) :
    Keeps s0 (smbRead32 off s) := by
  unfold smbRead32
  with_reducible repeat' first
    | assumption
    | (show _ = _; rfl)
    | apply keeps_readChan
    | apply keeps_occur
    | (extract_lets +onlyGivenNames x; refine Keeps.cut (s := s0) (x := x) ?_ (fun hx => ?_); rotate_left; clear_value x; rotate_right; unfold x; clear x)
    | split
    | refine Keeps.mk' _ ?_ ?_

theorem keeps_doSmbWrite {s0 : State} {bytes : List Byte} {pecOk : Bool} {s : State} (h2 : Keeps s0 s) :
    Keeps s0 (doSmbWrite bytes pecOk s) := by
  unfold doSmbWrite
  with_reducible repeat' first
    | assumption
    | (show _ = _; rfl)
    | apply keeps_writeChan
    | apply keeps_occur
    | (extract_lets +onlyGivenNames x; refine Keeps.cut (s := s0) (x := x) ?_ (fun hx => ?_); rotate_left; clear_value x; rotate_right; unfold x; clear x)
    | (extract_lets +onlyGivenNames x; clear_value x)
    | split
    | refine Keeps.mk' _ ?_ ?_

theorem keeps_doSmbPointer {s0 : State} {bytes : List Byte} {pecOk : Bool} {s : State} (h2 : Keeps s0 s) :
    Keeps s0 (doSmbPointer bytes pecOk s) := by
  unfold doSmbPointer
  with_reducible repeat' first
    | assumption
    | (show _ = _; rfl)
    | (extract_lets +onlyGivenNames x; clear_value x)
    | split
    | refine Keeps.mk' _ ?_ ?_

theorem keeps_doSmbRead {s0 : State} {_pecOk : Bool} {s : State} (h1 : Keeps s0 s) :
    Keeps s0 (doSmbRead _pecOk s) := by
  unfold doSmbRead
  with_reducible repeat' first
    | assumption
    | (show _ = _; rfl)
    | apply keeps_smbRead32
    | (extract_lets +onlyGivenNames x; refine Keeps.cut (s := s0) (x := x) ?_ (fun hx => ?_); rotate_left; clear_value x; rotate_right; unfold x; clear x)
    | (extract_lets +onlyGivenNames x; clear_value x)
    | split
    | refine Keeps.mk' _ ?_ ?_

theorem keeps_doSmbAlertResponse {s0 : State} {s : State} (h0 : Keeps s0 s) :
    Keeps s0 (doSmbAlertResponse s) := by
  unfold doSmbAlertResponse
  with_reducible repeat' first
    | assumption
    | (show _ = _; rfl)
    | (extract_lets +onlyGivenNames x; clear_value x)
    | split
    | refine Keeps.mk' _ ?_ ?_

theorem keeps_doBmcResponseHoldEnd {s0 : State} {ch : Nat} {s : State} (h1 : Keeps s0 s) :
    Keeps s0 (doBmcResponseHoldEnd ch s) := by
  unfold doBmcResponseHoldEnd
  with_reducible repeat' first
    | assumption
    | (show _ = _; rfl)
    | apply keeps_pump
    | (extract_lets +onlyGivenNames x; clear_value x)
    | refine Keeps.mk' _ ?_ ?_

theorem keeps_clockFall {s0 : State} {s : State} {cl : Nat} (h0 : Keeps s0 s) :
    Keeps s0 (State.clockFall s cl) := by
  unfold State.clockFall
  with_reducible repeat' first
    | assumption
    | apply keeps_modRail
    | apply keeps_modCluster

theorem keeps_clocksFall {s0 : State} {s : State} (h : Keeps s0 s) : Keeps s0 s.clocksFall :=
  Keeps.foldl (fun x a hx => keeps_clockFall hx) h

theorem keeps_boostPass {s0 : State} {s : State} {cl : Nat} {overRun : Bool} (h0 : Keeps s0 s) :
    Keeps s0 (State.boostPass s cl overRun) := by
  unfold State.boostPass
  with_reducible repeat' first
    | assumption
    | apply keeps_modRail
    | apply keeps_clockFall
    | split

theorem keeps_startBoosts {s0 : State} {s : State} (h0 : Keeps s0 s) :
    Keeps s0 (State.startBoosts s) := by
  unfold State.startBoosts
  with_reducible repeat' first
    | assumption
    | (show _ = _; rfl)
    | (extract_lets +onlyGivenNames x; clear_value x)
    | refine Keeps.mk' _ ?_ ?_

theorem keeps_ppsFall {s0 : State} {s : State} (h0 : Keeps s0 s) :
    Keeps s0 (State.ppsFall s) := by
  unfold State.ppsFall
  with_reducible repeat' first
    | assumption
    | (show _ = _; rfl)
    | (extract_lets +onlyGivenNames x; clear_value x)
    | split
    | refine Keeps.mk' _ ?_ ?_

theorem keeps_toBoundary {s0 : State} {s : State} {n : Nat} (h0 : Keeps s0 s) :
    Keeps s0 (State.toBoundary s n) := by
  unfold State.toBoundary
  with_reducible repeat' first
    | assumption
    | (show _ = _; rfl)
    | apply keeps_ppsFall
    | apply keeps_advance
    | (extract_lets +onlyGivenNames x; refine Keeps.cut (s := s0) (x := x) ?_ (fun hx => ?_); rotate_left; clear_value x; rotate_right; unfold x; clear x)
    | (extract_lets +onlyGivenNames x; have this : Time := x; clear this)
    | refine Keeps.mk' _ ?_ ?_

theorem keeps_release {s0 : State} {s : State} {i : Item} (h0 : Keeps s0 s) :
    Keeps s0 (State.release s i) := by
  unfold State.release
  with_reducible repeat' first
    | assumption
    | (show _ = _; rfl)
    | apply keeps_setFlow
    | split
    | refine Keeps.mk' _ ?_ ?_

theorem keeps_releaseWork {s0 : State} {s : State} {n : Nat} {f : Flow} {prio : Nat} {w : Work} (h0 : Keeps s0 s) :
    Keeps s0 (State.releaseWork s n f prio w) := by
  unfold State.releaseWork
  with_reducible repeat' first
    | assumption
    | apply keeps_release

theorem keeps_fire {s0 : State} {s : State} {t : Timer} (h0 : Keeps s0 s) :
    Keeps s0 (State.fire s t) := by
  unfold State.fire
  with_reducible repeat' first
    | assumption
    | apply keeps_releaseWork
    | split

theorem keeps_reinsert {s0 : State} {s : State} {l : Nat} (h0 : Keeps s0 s) :
    Keeps s0 (State.reinsert s l) := by
  unfold State.reinsert
  with_reducible repeat' first
    | assumption
    | (show _ = _; rfl)
    | apply keeps_setTimer
    | (extract_lets +onlyGivenNames x; refine Keeps.cut (s := s0) (x := x) ?_ (fun hx => ?_); rotate_left; clear_value x; rotate_right; unfold x; clear x)
    | (extract_lets +onlyGivenNames x; clear_value x)
    | refine Keeps.foldl (fun x a hx => ?_) ?_
    | refine Keeps.mk' _ ?_ ?_

theorem keeps_releaseDue {s0 : State} {s : State} {l : Nat} (h0 : Keeps s0 s) :
    Keeps s0 (State.releaseDue s l) := by
  unfold State.releaseDue
  with_reducible repeat' first
    | assumption
    | (show _ = _; rfl)
    | apply keeps_reinsert
    | apply keeps_fire
    | (extract_lets +onlyGivenNames x; refine Keeps.cut (s := s0) (x := x) ?_ (fun hx => ?_); rotate_left; clear_value x; rotate_right; unfold x; clear x)
    | (extract_lets +onlyGivenNames x; clear_value x)
    | refine Keeps.foldl (fun x a hx => ?_) ?_
    | refine Keeps.mk' _ ?_ ?_

theorem keeps_releasePeriodic {s0 : State} {s : State} (h0 : Keeps s0 s) :
    Keeps s0 (State.releasePeriodic s) := by
  unfold State.releasePeriodic
  with_reducible repeat' first
    | assumption
    | apply keeps_releaseWork
    | refine Keeps.foldl (fun x a hx => ?_) ?_
    | split

theorem keeps_releaseShadow {s0 : State} {s : State} (h0 : Keeps s0 s) :
    Keeps s0 (State.releaseShadow s) := by
  unfold State.releaseShadow
  with_reducible repeat' first
    | assumption
    | apply keeps_release
    | refine Keeps.foldl (fun x a hx => ?_) ?_
    | split

theorem keeps_hubShed {s0 : State} {s : State} (h0 : Keeps s0 s) :
    Keeps s0 (State.hubShed s) := by
  unfold State.hubShed
  with_reducible repeat' first
    | assumption
    | (show _ = _; rfl)
    | (extract_lets +onlyGivenNames x; clear_value x)
    | refine Keeps.mk' _ ?_ ?_

theorem keeps_boundaryWork {s0 : State} {s : State} (h0 : Keeps s0 s) :
    Keeps s0 (State.boundaryWork s) := by
  unfold State.boundaryWork
  with_reducible repeat' first
    | assumption
    | apply keeps_releasePeriodic
    | apply keeps_releaseShadow
    | apply keeps_releaseDue
    | apply keeps_hubShed
    | apply keeps_startBoosts

theorem keeps_doTickBoundary {s0 : State} {s : State} (h0 : Keeps s0 s) :
    Keeps s0 (doTickBoundary s) := by
  unfold doTickBoundary
  with_reducible repeat' first
    | assumption
    | apply keeps_boundaryWork
    | apply keeps_toBoundary

theorem keeps_doDelayEntryDue {s0 : State} {list : Nat} {s : State} (h1 : Keeps s0 s) :
    Keeps s0 (doDelayEntryDue list s) := by
  unfold doDelayEntryDue
  with_reducible repeat' first
    | assumption
    | apply keeps_releaseDue

theorem keeps_doTickSourceSwitch {s0 : State} {s : State} (h0 : Keeps s0 s) :
    Keeps s0 (doTickSourceSwitch s) := by
  unfold doTickSourceSwitch
  with_reducible repeat' first
    | assumption
    | (show _ = _; rfl)
    | apply keeps_toBoundary
    | apply keeps_boundaryWork
    | apply keeps_postAll
    | (extract_lets +onlyGivenNames x; refine Keeps.cut (s := s0) (x := x) ?_ (fun hx => ?_); rotate_left; clear_value x; rotate_right; unfold x; clear x)
    | (extract_lets +onlyGivenNames x; have this : Time := x; clear this)
    | (extract_lets +onlyGivenNames x; clear_value x)
    | split
    | refine Keeps.mk' _ ?_ ?_

theorem keeps_serve {s0 : State} {s : State} {core : Nat} {i : Item} (h0 : Keeps s0 s) :
    Keeps s0 (State.serve s core i) := by
  unfold State.serve
  with_reducible repeat' first
    | assumption
    | (show _ = _; rfl)
    | apply keeps_setFlow
    | (extract_lets +onlyGivenNames x; refine Keeps.cut (s := s0) (x := x) ?_ (fun hx => ?_); rotate_left; clear_value x; rotate_right; unfold x; clear x)
    | (extract_lets +onlyGivenNames x; clear_value x)
    | split
    | refine Keeps.mk' _ ?_ ?_

theorem keeps_doTrailheadDispatch {s0 : State} {core : Nat} {s : State} (h1 : Keeps s0 s) :
    Keeps s0 (doTrailheadDispatch core s) := by
  unfold doTrailheadDispatch
  with_reducible repeat' first
    | assumption
    | apply keeps_serve
    | (extract_lets +onlyGivenNames x; clear_value x)
    | split

theorem keeps_wake {s0 : State} {s : State} {n : Nat} {f : Flow} (h0 : Keeps s0 s) :
    Keeps s0 (State.wake s n f) := by
  unfold State.wake
  with_reducible repeat' first
    | assumption
    | (show _ = _; rfl)
    | apply keeps_setFlow
    | (extract_lets +onlyGivenNames x; refine Keeps.cut (s := s0) (x := x) ?_ (fun hx => ?_); rotate_left; clear_value x; rotate_right; unfold x; clear x)
    | split
    | refine Keeps.mk' _ ?_ ?_

theorem keeps_shadowLog {s0 : State} {s : State} {place : Nat} {tick : Nat} (h0 : Keeps s0 s) :
    Keeps s0 (State.shadowLog s place tick) := by
  unfold State.shadowLog
  with_reducible repeat' first
    | assumption
    | apply keeps_modCluster

theorem keeps_doItemComplete {s0 : State} {core : Nat} {s : State} (h1 : Keeps s0 s) :
    Keeps s0 (doItemComplete core s) := by
  unfold doItemComplete
  with_reducible repeat' first
    | assumption
    | (show _ = _; rfl)
    | apply keeps_occur
    | apply keeps_shadowLog
    | apply keeps_wake
    | apply keeps_setFlow
    | (extract_lets +onlyGivenNames x; refine Keeps.cut (s := s0) (x := x) ?_ (fun hx => ?_); rotate_left; clear_value x; rotate_right; unfold x; clear x)
    | (extract_lets +onlyGivenNames x; clear_value x)
    | split
    | refine Keeps.mk' _ ?_ ?_

theorem keeps_overrun {s0 : State} {s : State} {c : Nat} {i : Item} {unstarted : Bool} (h0 : Keeps s0 s) :
    Keeps s0 (State.overrun s c i unstarted) := by
  unfold State.overrun
  with_reducible repeat' first
    | assumption
    | apply keeps_occur
    | apply keeps_modCluster
    | split

theorem keeps_overrunEvent {s0 : State} {s : State} {c : Nat} (h0 : Keeps s0 s) :
    Keeps s0 (State.overrunEvent s c) := by
  unfold State.overrunEvent
  with_reducible repeat' first
    | assumption
    | apply keeps_postAll
    | apply keeps_modCluster
    | (extract_lets +onlyGivenNames x; refine Keeps.cut (s := s0) (x := x) ?_ (fun hx => ?_); rotate_left; clear_value x; rotate_right; unfold x; clear x)
    | (extract_lets +onlyGivenNames x; clear_value x)
    | split

theorem keeps_doDuePointReached {s0 : State} {point : Nat} {s : State} (h1 : Keeps s0 s) :
    Keeps s0 (doDuePointReached point s) := by
  unfold doDuePointReached
  with_reducible repeat' first
    | assumption
    | (show _ = _; rfl)
    | apply keeps_overrun
    | apply keeps_release
    | apply keeps_overrunEvent
    | (extract_lets +onlyGivenNames x; refine Keeps.cut (s := s0) (x := x) ?_ (fun hx => ?_); rotate_left; clear_value x; rotate_right; unfold x; clear x)
    | (extract_lets +onlyGivenNames x; clear_value x)
    | refine Keeps.foldl (fun x a hx => ?_) ?_
    | refine Keeps.mk' _ ?_ ?_

theorem keeps_retryStopped {s0 : State} {s : State} (h0 : Keeps s0 s) :
    Keeps s0 (State.retryStopped s) := by
  unfold State.retryStopped
  with_reducible repeat' first
    | assumption
    | apply keeps_setFlow
    | (extract_lets +onlyGivenNames x; clear_value x)
    | refine Keeps.foldl (fun x a hx => ?_) ?_
    | split

theorem keeps_Pass_cluster {s0 : State} {loads : List ClusterLoad} {c : Nat} {fs : List (Nat × Flow)} {p : Pass} (h : Keeps s0 p.s) :
    Keeps s0 (Pass.cluster loads c fs p).s := by
  induction fs generalizing p with
  | nil => exact h
  | cons x fs ih =>
    obtain ⟨n, f⟩ := x
    unfold Pass.cluster
    split
    · exact h
    · split
      · exact ih h
      · split
        · exact ih h
        · extract_lets q
          have hq : Keeps s0 q.s := keeps_moveFlow h
          clear_value q
          split
          · exact ih hq
          · exact hq

theorem keeps_doPlacementPass {s0 : State} {loads : List ClusterLoad} {s : State} (h : Keeps s0 s) : Keeps s0 (doPlacementPass loads s) := by
  unfold doPlacementPass
  split
  · exact h
  · extract_lets used isOver overs first p still q1 q2 s1 s2 s3 s4
    have hp : Keeps s0 p.s := by
      have : ∀ (l : List Nat) (p : Pass), Keeps s0 p.s → Keeps s0 (l.foldl (fun (p : Pass) c =>
          Pass.cluster loads c (p.s.passFlows c (p.used.getD c 0)) p) p).s := by
        intro l; induction l with
        | nil => exact fun _ h => h
        | cons c l ih => exact fun p hp => ih _ (keeps_Pass_cluster hp)
      exact this _ _ h
    clear_value p
    have h1 : Keeps s0 s1 := Keeps.mk' q1 rfl hp
    clear_value s1
    have h2 : Keeps s0 s2 := Keeps.foldl (fun x a hx => keeps_boostPass hx) h1
    clear_value s2
    have h3 : Keeps s0 s3 := Keeps.foldl (fun x a hx => keeps_modCluster hx) h2
    clear_value s3
    have h4 : Keeps s0 s4 := keeps_retryStopped h3
    clear_value s4
    split
    · exact h4
    · exact keeps_postAll h4

theorem keeps_relieve {s0 : State} {c : Nat} {fs : List (Nat × Flow)} {k : Nat} {s : State} (h : Keeps s0 s) :
    Keeps s0 (State.relieve c fs k s) := by
  induction fs generalizing k s with
  | nil => exact h
  | cons p fs ih =>
    obtain ⟨n, f⟩ := p
    unfold State.relieve
    split
    · exact h
    · split
      · exact ih h
      · split
        · exact ih (keeps_moveFlow h)
        · exact ih h

theorem keeps_doExtraPlacementPass {s0 : State} {cl : Nat} {s : State} (h1 : Keeps s0 s) :
    Keeps s0 (doExtraPlacementPass cl s) := by
  unfold doExtraPlacementPass
  with_reducible repeat' first
    | assumption
    | apply keeps_modCluster
    | apply keeps_relieve
    | (extract_lets +onlyGivenNames x; refine Keeps.cut (s := s0) (x := x) ?_ (fun hx => ?_); rotate_left; clear_value x; rotate_right; unfold x; clear x)
    | split

theorem keeps_drainMarker {s0 : State} {flow : Nat} {s : State} (h1 : Keeps s0 s) :
    Keeps s0 (State.drainMarker flow s) := by
  unfold State.drainMarker
  with_reducible repeat' first
    | assumption
    | (show _ = _; rfl)
    | apply keeps_occurN
    | apply keeps_setFlow
    | (extract_lets +onlyGivenNames x; refine Keeps.cut (s := s0) (x := x) ?_ (fun hx => ?_); rotate_left; clear_value x; rotate_right; unfold x; clear x)
    | (extract_lets +onlyGivenNames x; clear_value x)
    | split
    | refine Keeps.mk' _ ?_ ?_

theorem keeps_moveAll {s0 : State} {avoid : List Nat} {fs : List (Nat × Flow)} {s t : State} (h : Keeps s0 s)
    (e : State.moveAll avoid fs s = some t) : Keeps s0 t := by
  induction fs generalizing s with
  | nil => cases e; exact h
  | cons p fs ih =>
    obtain ⟨n, f⟩ := p
    unfold State.moveAll at e
    dsimp only at e
    split at e
    · exact ih (keeps_moveFlow h) e
    · cases e

theorem keeps_doClLock {s0 : State} {ch : Nat} {s : State} (h1 : Keeps s0 s) :
    Keeps s0 (doClLock ch s) := by
  unfold doClLock
  with_reducible repeat' first
    | assumption
    | refine keeps_runCmd ?_ (fun c x hx => ?_)
    | refine keeps_moveAll ?_ (by assumption)
    | refine keeps_startLong ?_ (fun n x hx => ?_)
    | apply keeps_modCluster
    | (extract_lets +onlyGivenNames x; clear_value x)
    | refine Keeps.foldl (fun x a hx => ?_) ?_
    | exact KeepsR.fail
    | refine KeepsR.checks ?_
    | split

theorem keeps_undrain {s0 : State} {s : State} {o : LongOp} (h0 : Keeps s0 s) :
    Keeps s0 (State.undrain s o) := by
  unfold State.undrain
  with_reducible repeat' first
    | assumption
    | (show _ = _; rfl)
    | refine Keeps.mk' _ ?_ ?_

theorem keeps_doClLockComplete {s0 : State} {first : Nat} {s : State} (h1 : Keeps s0 s) :
    Keeps s0 (doClLockComplete first s) := by
  unfold doClLockComplete
  with_reducible repeat' first
    | assumption
    | apply keeps_modCluster
    | apply keeps_opDone
    | apply keeps_undrain
    | (extract_lets +onlyGivenNames x; refine Keeps.cut (s := s0) (x := x) ?_ (fun hx => ?_); rotate_left; clear_value x; rotate_right; unfold x; clear x)
    | (extract_lets +onlyGivenNames x; clear_value x)
    | refine Keeps.foldl (fun x a hx => ?_) ?_
    | split

theorem keeps_doLegShaperRefill {s0 : State} {leg : Nat} {s : State} (h1 : Keeps s0 s) :
    Keeps s0 (doLegShaperRefill leg s) := by
  unfold doLegShaperRefill
  with_reducible repeat' first
    | assumption
    | apply keeps_setLeg
    | split

theorem keeps_doGroupRefill {s0 : State} {g : Nat} {s : State} (h1 : Keeps s0 s) :
    Keeps s0 (doGroupRefill g s) := by
  unfold doGroupRefill
  with_reducible repeat' first
    | assumption
    | (show _ = _; rfl)
    | refine Keeps.mk' _ ?_ ?_

theorem keeps_lqErrorEvent {s0 : State} {s : State} {leg kind lost : Nat} (h : Keeps s0 s) :
    Keeps s0 (s.lqErrorEvent leg kind lost) := keeps_postLeg h

theorem keeps_lqError {s0 : State} {s : State} {e : LqErr} (h : Keeps s0 s) : Keeps s0 (s.lqError e) := by
  unfold State.lqError
  split
  · exact h
  · split
    · exact keeps_lqErrorEvent (keeps_flush (Keeps.mk' _ (by rfl) h))
    · split
      · exact Keeps.mk' _ (by rfl) h
      · split
        · exact keeps_lqErrorEvent (keeps_flush h)
        · split
          · exact h
          · exact keeps_lqErrorEvent (keeps_modLeg (Keeps.mk' _ (by rfl) h))

theorem keeps_metLq {s0 : State} {s : State} {err : Option LqErr} (h : Keeps s0 s) : Keeps s0 (s.metLq err) := by
  cases err
  · exact h
  · exact keeps_lqError h

theorem keeps_dropStale {s0 : State} {s : State} {leg : Nat} {a__internal_hyg0 : Nat} (h0 : Keeps s0 s) :
    Keeps s0 (State.dropStale s leg a__internal_hyg0) := by
  induction a__internal_hyg0 generalizing s leg with
  | zero => unfold State.dropStale; assumption
  | succ n ih =>
    unfold State.dropStale
    with_reducible repeat' first
      | assumption
      | apply ih
      | apply keeps_setLeg
      | apply keeps_occur
      | (extract_lets +onlyGivenNames x; refine Keeps.cut (s := s0) (x := x) ?_ (fun hx => ?_); rotate_left; clear_value x; rotate_right; unfold x; clear x)
      | (extract_lets +onlyGivenNames x; clear_value x)
      | split

theorem keeps_tagLegs {s0 : State} {s : State} {p : Nat} (h0 : Keeps s0 s) :
    Keeps s0 (State.tagLegs s p) := by
  unfold State.tagLegs
  with_reducible repeat' first
    | assumption
    | apply keeps_modLeg
    | refine Keeps.foldl (fun x a hx => ?_) ?_

theorem keeps_tagGroups {s0 : State} {s : State} {p : Nat} (h0 : Keeps s0 s) :
    Keeps s0 (State.tagGroups s p) := by
  unfold State.tagGroups
  with_reducible repeat' first
    | assumption
    | apply keeps_modPort
    | refine Keeps.foldl (fun x a hx => ?_) ?_

theorem keeps_untag {s0 : State} {s : State} {p : Nat} {c : Nat} {g : Nat} {leg : Nat} (h0 : Keeps s0 s) :
    Keeps s0 (State.untag s p c g leg) := by
  unfold State.untag
  with_reducible repeat' first
    | assumption
    | apply keeps_modLeg
    | apply keeps_modPort

theorem keeps_charge {s0 : State} {s : State} {leg : Nat} {g : Nat} {len : Nat} (h0 : Keeps s0 s) :
    Keeps s0 (State.charge s leg g len) := by
  unfold State.charge
  with_reducible repeat' first
    | assumption
    | (show _ = _; rfl)
    | apply keeps_modLeg
    | (extract_lets +onlyGivenNames x; refine Keeps.cut (s := s0) (x := x) ?_ (fun hx => ?_); rotate_left; clear_value x; rotate_right; unfold x; clear x)
    | (extract_lets +onlyGivenNames x; clear_value x)
    | split
    | refine Keeps.mk' _ ?_ ?_

theorem keeps_sentPkt {s0 : State} {s : State} {p : OutPkt} {bytes : Nat} (h0 : Keeps s0 s) :
    Keeps s0 (State.sentPkt s p bytes) := by
  unfold State.sentPkt
  with_reducible repeat' first
    | assumption
    | apply keeps_modLeg

theorem keeps_moveItem {s0 : State} {s : State} {p : Nat} {c : Nat} {g : Nat} {leg : Nat} {i : Nat} {len : Nat} (h0 : Keeps s0 s) :
    Keeps s0 (State.moveItem s p c g leg i len) := by
  unfold State.moveItem
  with_reducible repeat' first
    | assumption
    | apply keeps_untag
    | apply keeps_setLeg
    | apply keeps_modPort
    | apply keeps_modGroup
    | apply keeps_sentPkt
    | apply keeps_charge
    | apply keeps_occur
    | (extract_lets +onlyGivenNames x; refine Keeps.cut (s := s0) (x := x) ?_ (fun hx => ?_); rotate_left; clear_value x; rotate_right; unfold x; clear x)
    | (extract_lets +onlyGivenNames x; clear_value x)
    | split

theorem keeps_doEgressSelect {s0 : State} {port : Nat} {err : Option LqErr} {s : State} (h1 : Keeps s0 s) :
    Keeps s0 (doEgressSelect port err s) := by
  unfold doEgressSelect
  with_reducible repeat' first
    | assumption
    | apply keeps_metLq
    | apply keeps_modPort
    | apply keeps_dropStale
    | apply keeps_tagGroups
    | apply keeps_tagLegs
    | apply keeps_moveItem
    | (extract_lets +onlyGivenNames x; refine Keeps.cut (s := s0) (x := x) ?_ (fun hx => ?_); rotate_left; clear_value x; rotate_right; unfold x; clear x)
    | (extract_lets +onlyGivenNames x; clear_value x)
    | refine Keeps.foldl (fun x a hx => ?_) ?_
    | split

theorem keeps_startFrame {s0 : State} {s : State} {p : Nat} {n : Nat} {x : TxItem} (h0 : Keeps s0 s) :
    Keeps s0 (State.startFrame s p n x) := by
  unfold State.startFrame
  with_reducible repeat' first
    | assumption
    | apply keeps_modPort
    | apply keeps_sentPkt
    | (extract_lets +onlyGivenNames x; refine Keeps.cut (s := s0) (x := x) ?_ (fun hx => ?_); rotate_left; clear_value x; rotate_right; unfold x; clear x)
    | split

theorem keeps_holdFrame {s0 : State} {s : State} {p : Nat} {n : Nat} {t : Nat} {x : TxItem} (h0 : Keeps s0 s) :
    Keeps s0 (State.holdFrame s p n t x) := by
  unfold State.holdFrame
  with_reducible repeat' first
    | assumption
    | apply keeps_occur
    | apply keeps_modPort
    | split

theorem keeps_serveTq {s0 : State} {s : State} {p : Nat} {t : Nat} {a__internal_hyg0 : Nat} (h0 : Keeps s0 s) :
    Keeps s0 (State.serveTq s p t a__internal_hyg0) := by
  induction a__internal_hyg0 generalizing s p t with
  | zero => unfold State.serveTq; assumption
  | succ n ih =>
    unfold State.serveTq
    with_reducible repeat' first
      | assumption
      | apply ih
      | apply keeps_startFrame
      | apply keeps_holdFrame
      | split

theorem keeps_dropTq {s0 : State} {s : State} {p : Nat} (h0 : Keeps s0 s) :
    Keeps s0 (State.dropTq s p) := by
  unfold State.dropTq
  with_reducible repeat' first
    | assumption
    | apply keeps_modPort
    | apply keeps_occur
    | (extract_lets +onlyGivenNames x; refine Keeps.cut (s := s0) (x := x) ?_ (fun hx => ?_); rotate_left; clear_value x; rotate_right; unfold x; clear x)
    | (extract_lets +onlyGivenNames x; clear_value x)
    | refine Keeps.foldl (fun x a hx => ?_) ?_
    | split

theorem keeps_doMacTransmit {s0 : State} {port : Nat} {s : State} (h1 : Keeps s0 s) :
    Keeps s0 (doMacTransmit port s) := by
  unfold doMacTransmit
  with_reducible repeat' first
    | assumption
    | apply keeps_dropTq
    | apply keeps_modPort
    | apply keeps_serveTq
    | (extract_lets +onlyGivenNames x; clear_value x)
    | split

theorem keeps_doGateOversize {s0 : State} {port : Nat} {q : Nat} {s : State} (h2 : Keeps s0 s) :
    Keeps s0 (doGateOversize port q s) := by
  unfold doGateOversize
  with_reducible repeat' first
    | assumption
    | apply keeps_occur
    | apply keeps_modPort
    | (extract_lets +onlyGivenNames x; clear_value x)
    | split

theorem keeps_passTo {s0 : State} {s : State} {v : Nat} {t : State} (h : Keeps s0 s) (e : s.passTo v = some t) : Keeps s0 t := by
  unfold State.passTo at e
  dsimp only at e
  split at e
  · cases e; exact h
  · split at e
    · cases e; exact keeps_advance h
    · cases e

theorem keeps_doGateIntervalEnd {s0 : State} {port : Nat} {s : State} (h1 : Keeps s0 s) :
    Keeps s0 (doGateIntervalEnd port s) := by
  unfold doGateIntervalEnd
  with_reducible repeat' first
    | assumption
    | refine keeps_passTo ?_ (by assumption)
    | apply keeps_modPort
    | (extract_lets +onlyGivenNames x; clear_value x)
    | split

theorem keeps_gateEvent {s0 : State} {s : State} {port : Nat} {g : Gates} {start : Nat} {restart : Bool} (h0 : Keeps s0 s) :
    Keeps s0 (State.gateEvent s port g start restart) := by
  unfold State.gateEvent
  with_reducible repeat' first
    | assumption
    | apply keeps_postAll

theorem keeps_doGateListStart {s0 : State} {port : Nat} {s : State} (h1 : Keeps s0 s) :
    Keeps s0 (doGateListStart port s) := by
  unfold doGateListStart
  with_reducible repeat' first
    | assumption
    | refine keeps_passTo ?_ (by assumption)
    | apply keeps_gateEvent
    | apply keeps_modPort
    | split

theorem keeps_doGateRestart {s0 : State} {port : Nat} {s : State} (h1 : Keeps s0 s) :
    Keeps s0 (doGateRestart port s) := by
  unfold doGateRestart
  with_reducible repeat' first
    | assumption
    | refine keeps_passTo ?_ (by assumption)
    | apply keeps_modPort
    | apply keeps_gateEvent
    | apply keeps_occur
    | split

theorem keeps_shpLeg {s0 : State} {c : Ctx} {s : State} (h1 : Keeps s0 s) :
    KeepsR s0 (shpLeg c s) := by
  unfold shpLeg
  with_reducible repeat' first
    | assumption
    | apply keeps_ok
    | apply keeps_setLeg
    | (extract_lets +onlyGivenNames x; clear_value x)
    | exact KeepsR.fail
    | refine KeepsR.checks ?_
    | split

theorem keeps_shpGroup {s0 : State} {c : Ctx} {s : State} (h1 : Keeps s0 s) :
    KeepsR s0 (shpGroup c s) := by
  unfold shpGroup
  with_reducible repeat' first
    | assumption
    | (show _ = _; rfl)
    | apply keeps_ok
    | (extract_lets +onlyGivenNames x; clear_value x)
    | refine KeepsR.checks ?_
    | split
    | refine Keeps.mk' _ ?_ ?_

theorem keeps_shpQuery {s0 : State} {c : Ctx} {s : State} (h1 : Keeps s0 s) :
    KeepsR s0 (shpQuery c s) := by
  unfold shpQuery
  with_reducible repeat' first
    | assumption
    | apply keeps_okWords
    | (extract_lets +onlyGivenNames x; clear_value x)
    | exact KeepsR.fail
    | refine KeepsR.checks ?_
    | split

theorem keeps_doShpNode {s0 : State} {ch : Nat} {s : State} (h1 : Keeps s0 s) :
    Keeps s0 (doShpNode ch s) := by
  unfold doShpNode
  with_reducible repeat' first
    | assumption
    | refine keeps_runCmd ?_ (fun c x hx => ?_)
    | apply keeps_shpQuery
    | apply keeps_shpLeg
    | apply keeps_shpGroup
    | apply keeps_ok
    | apply keeps_modPort
    | (extract_lets +onlyGivenNames x; clear_value x)
    | refine KeepsR.checks ?_
    | split

theorem keeps_doShpPolice {s0 : State} {ch : Nat} {s : State} (h1 : Keeps s0 s) :
    Keeps s0 (doShpPolice ch s) := by
  unfold doShpPolice
  with_reducible repeat' first
    | assumption
    | refine keeps_runCmd ?_ (fun c x hx => ?_)
    | apply keeps_ok
    | apply keeps_setLeg
    | (extract_lets +onlyGivenNames x; clear_value x)
    | exact KeepsR.fail
    | refine KeepsR.checks ?_
    | split

theorem keeps_gateSet {s0 : State} {c : Ctx} {s : State} {port : Nat} {buf : BufRead} (h1 : Keeps s0 s) :
    KeepsR s0 (gateSet c s port buf) := by
  unfold gateSet
  with_reducible repeat' first
    | assumption
    | apply keeps_okWords
    | apply keeps_modPort
    | (extract_lets +onlyGivenNames x; clear_value x)
    | refine KeepsR.checks ?_

theorem keeps_doGateList {s0 : State} {ch : Nat} {buf : BufRead} {s : State} (h2 : Keeps s0 s) :
    Keeps s0 (doGateList ch buf s) := by
  unfold doGateList
  with_reducible repeat' first
    | assumption
    | refine keeps_runCmd ?_ (fun c x hx => ?_)
    | apply keeps_gateSet
    | apply keeps_ok
    | apply keeps_modPort
    | apply keeps_okWords
    | (extract_lets +onlyGivenNames x; clear_value x)
    | refine KeepsR.checks ?_
    | split

theorem keeps_measureJobs {s0 : State} {s : State} {l : Leg} (h0 : Keeps s0 s) :
    Keeps s0 (State.measureJobs s l) := by
  unfold State.measureJobs
  with_reducible repeat' first
    | assumption
    | (show _ = _; rfl)
    | (extract_lets +onlyGivenNames x; clear_value x)
    | refine Keeps.mk' _ ?_ ?_

theorem keeps_doLayerRateMeasure {s0 : State} {leg : Nat} {track : Nat} {s : State} (h2 : Keeps s0 s) :
    Keeps s0 (doLayerRateMeasure leg track s) := by
  unfold doLayerRateMeasure
  with_reducible repeat' first
    | assumption
    | apply keeps_modLeg

theorem keeps_applyWant {s0 : State} {s : State} {leg : Nat} {cause : Nat} {x : Sel} (h0 : Keeps s0 s) :
    Keeps s0 (State.applyWant s leg cause x) := by
  unfold State.applyWant
  with_reducible repeat' first
    | assumption
    | apply keeps_modSlot
    | apply keeps_layerEvent
    | apply keeps_requestKey
    | apply keeps_waitKey
    | (extract_lets +onlyGivenNames put; have this : _ → State := put; clear this)
    | unfold put
    | (extract_lets +onlyGivenNames x; clear_value x)
    | split

theorem keeps_selectLayers {s0 : State} {s : State} {leg : Nat} {cause : Nat} (h0 : Keeps s0 s) :
    Keeps s0 (State.selectLayers s leg cause) := by
  unfold State.selectLayers
  with_reducible repeat' first
    | assumption
    | apply keeps_applyWant
    | refine Keeps.foldl (fun x a hx => ?_) ?_
    | split

theorem keeps_sendPadding {s0 : State} {s : State} {leg : Nat} {slot : Nat} {a__internal_hyg0 : Nat} (h0 : Keeps s0 s) :
    Keeps s0 (State.sendPadding s leg slot a__internal_hyg0) := by
  induction a__internal_hyg0 generalizing s leg slot with
  | zero => unfold State.sendPadding; assumption
  | succ n ih =>
    unfold State.sendPadding
    with_reducible repeat' first
      | assumption
      | apply ih
      | apply keeps_pushOut
      | apply keeps_modSlot
      | split

theorem keeps_probe {s0 : State} {s : State} {leg : Nat} {xs : List Sel} (h0 : Keeps s0 s) :
    Keeps s0 (State.probe s leg xs) := by
  unfold State.probe
  with_reducible repeat' first
    | assumption
    | apply keeps_modLeg
    | apply keeps_sendPadding
    | (extract_lets +onlyGivenNames x; refine Keeps.cut (s := s0) (x := x) ?_ (fun hx => ?_); rotate_left; clear_value x; rotate_right; unfold x; clear x)
    | (extract_lets +onlyGivenNames x; clear_value x)
    | split

theorem keeps_doProbeWindowEnd {s0 : State} {leg : Nat} {s : State} (h1 : Keeps s0 s) :
    Keeps s0 (doProbeWindowEnd leg s) := by
  unfold doProbeWindowEnd
  with_reducible repeat' first
    | assumption
    | apply keeps_setLeg
    | (extract_lets +onlyGivenNames x; clear_value x)
    | split

theorem keeps_doRateEstimate {s0 : State} {leg : Nat} {s : State} (h1 : Keeps s0 s) :
    Keeps s0 (doRateEstimate leg s) := by
  unfold doRateEstimate
  with_reducible repeat' first
    | assumption
    | apply keeps_setLeg
    | apply keeps_measureJobs
    | apply keeps_probe
    | apply keeps_selectLayers
    | (extract_lets +onlyGivenNames x; refine Keeps.cut (s := s0) (x := x) ?_ (fun hx => ?_); rotate_left; clear_value x; rotate_right; unfold x; clear x)
    | (extract_lets +onlyGivenNames x; clear_value x)
    | split

theorem keeps_doUpHoldExpire {s0 : State} {leg : Nat} {slot : Nat} {s : State} (h2 : Keeps s0 s) :
    Keeps s0 (doUpHoldExpire leg slot s) := by
  unfold doUpHoldExpire
  with_reducible repeat' first
    | assumption
    | apply keeps_waitKey
    | apply keeps_modSlot
    | split

theorem keeps_doSpatialSwitchTimeout {s0 : State} {leg : Nat} {slot : Nat} {s : State} (h2 : Keeps s0 s) :
    Keeps s0 (doSpatialSwitchTimeout leg slot s) := by
  unfold doSpatialSwitchTimeout
  with_reducible repeat' first
    | assumption
    | apply keeps_modSlot
    | apply keeps_requestKey
    | (extract_lets +onlyGivenNames x; refine Keeps.cut (s := s0) (x := x) ?_ (fun hx => ?_); rotate_left; clear_value x; rotate_right; unfold x; clear x)
    | split

theorem keeps_doFwdSwitchSlow {s0 : State} {leg : Nat} {slot : Nat} {s : State} (h2 : Keeps s0 s) :
    Keeps s0 (doFwdSwitchSlow leg slot s) := by
  unfold doFwdSwitchSlow
  with_reducible repeat' first
    | assumption
    | apply keeps_postLeg
    | apply keeps_modSlot
    | apply keeps_requestKey
    | (extract_lets +onlyGivenNames x; refine Keeps.cut (s := s0) (x := x) ?_ (fun hx => ?_); rotate_left; clear_value x; rotate_right; unfold x; clear x)
    | (extract_lets +onlyGivenNames x; clear_value x)
    | split

theorem keeps_armNack {s0 : State} {s : State} {leg : Nat} {track : Nat} {enc : Nat} (h0 : Keeps s0 s) :
    Keeps s0 (State.armNack s leg track enc) := by
  unfold State.armNack
  with_reducible repeat' first
    | assumption
    | apply keeps_setTimer
    | (extract_lets +onlyGivenNames x; clear_value x)
    | split

theorem keeps_doNackSend {s0 : State} {leg : Nat} {track : Nat} {enc : Nat} {s : State} (h3 : Keeps s0 s) :
    Keeps s0 (doNackSend leg track enc s) := by
  unfold doNackSend
  with_reducible repeat' first
    | assumption
    | apply keeps_modLeg
    | apply keeps_armNack
    | apply keeps_sendFb
    | (extract_lets +onlyGivenNames x; refine Keeps.cut (s := s0) (x := x) ?_ (fun hx => ?_); rotate_left; clear_value x; rotate_right; unfold x; clear x)
    | (extract_lets +onlyGivenNames x; clear_value x)
    | split

theorem keeps_decLost {s0 : State} {s : State} {leg : Nat} {gen : Nat} {track : Nat} {enc : Nat} {layering : Nat} {seq : Nat} (h0 : Keeps s0 s) :
    Keeps s0 (State.decLost s leg gen track enc layering seq) := by
  unfold State.decLost
  with_reducible repeat' first
    | assumption
    | (show _ = _; rfl)
    | (extract_lets +onlyGivenNames x; clear_value x)
    | refine Keeps.mk' _ ?_ ?_

theorem keeps_doLossDeclared {s0 : State} {leg : Nat} {track : Nat} {enc : Nat} {seq : Nat} {s : State} (h4 : Keeps s0 s) :
    Keeps s0 (doLossDeclared leg track enc seq s) := by
  unfold doLossDeclared
  with_reducible repeat' first
    | assumption
    | apply keeps_modLeg
    | apply keeps_decLost
    | apply keeps_requestKey
    | (extract_lets +onlyGivenNames x; refine Keeps.cut (s := s0) (x := x) ?_ (fun hx => ?_); rotate_left; clear_value x; rotate_right; unfold x; clear x)
    | (extract_lets +onlyGivenNames x; clear_value x)
    | split

theorem keeps_doKeyRequestSend {s0 : State} {leg : Nat} {track : Nat} {enc : Nat} {s : State} (h3 : Keeps s0 s) :
    Keeps s0 (doKeyRequestSend leg track enc s) := by
  unfold doKeyRequestSend
  with_reducible repeat' first
    | assumption
    | apply keeps_sendKey
    | split

theorem keeps_trackIn {s0 : State} {s : State} {leg track enc : Nat} {rtx : Bool} {p : Rtp} {ip stamp : Nat} (h : Keeps s0 s) :
    Keeps s0 (s.trackIn leg track enc rtx p ip stamp).1 := by
  unfold State.trackIn
  split
  · split
    · extract_lets
      apply keeps_armNack
      exact keeps_ite (keeps_occur (keeps_modLeg (Keeps.mk' _ rfl (keeps_evictFor h)))) (keeps_modLeg (Keeps.mk' _ rfl (keeps_evictFor h)))
    · exact h
  · exact h

theorem keeps_decide_ {s0 : State} {s : State} {n : Nat} {k : Nat} {t : Track} {p : FwdPkt} (h0 : Keeps s0 s) :
    Keeps s0 (State.decide_ s n k t p) := by
  unfold State.decide_
  with_reducible repeat' first
    | assumption
    | apply keeps_modSlot
    | apply keeps_layerEvent
    | apply keeps_occur
    | apply keeps_pushOut
    | apply keeps_modLeg
    | (extract_lets +onlyGivenNames copy; have this : _ → State := copy; clear this)
    | (extract_lets +onlyGivenNames copy; have this : _ → _ → State := copy; clear this)
    | unfold copy
    | (extract_lets +onlyGivenNames x; refine Keeps.cut (s := s0) (x := x) ?_ (fun hx => ?_); rotate_left; clear_value x; rotate_right; unfold x; clear x)
    | (extract_lets +onlyGivenNames x; clear_value x)
    | split

theorem keeps_doForwardPacket {s0 : State} {err : Option LqErr} {s : State} (h0 : Keeps s0 s) :
    Keeps s0 (doForwardPacket err s) := by
  unfold doForwardPacket
  with_reducible repeat' first
    | assumption
    | apply keeps_metLq
    | (show _ = _; rfl)
    | apply keeps_decide_
    | (extract_lets +onlyGivenNames x; refine Keeps.cut (s := s0) (x := x) ?_ (fun hx => ?_); rotate_left; clear_value x; rotate_right; unfold x; clear x)
    | (extract_lets +onlyGivenNames x; clear_value x)
    | refine Keeps.foldl (fun x a hx => ?_) ?_
    | split
    | refine Keeps.mk' _ ?_ ?_

theorem keeps_retransmit {s0 : State} {s : State} {n : Nat} {k : Nat} {seq : Nat} (h0 : Keeps s0 s) :
    Keeps s0 (State.retransmit s n k seq) := by
  unfold State.retransmit
  with_reducible repeat' first
    | assumption
    | apply keeps_occur
    | apply keeps_pushOut
    | apply keeps_modLeg
    | (extract_lets +onlyGivenNames x; clear_value x)
    | split

theorem keeps_modIn {s0 : State} {s : State} {leg : Nat} {g : AudIn → AudIn} (h0 : Keeps s0 s) :
    Keeps s0 (State.modIn s leg g) := by
  unfold State.modIn
  with_reducible repeat' first
    | assumption
    | apply keeps_modAud

theorem keeps_modDet {s0 : State} {s : State} {leg : Nat} {g : AudDet → AudDet} (h0 : Keeps s0 s) :
    Keeps s0 (State.modDet s leg g) := by
  unfold State.modDet
  with_reducible repeat' first
    | assumption
    | apply keeps_modAud

theorem keeps_audioIn {s0 : State} {s : State} {leg : Nat} {codec : Nat} {tick : Nat} {p : Rtp} (h0 : Keeps s0 s) :
    Keeps s0 (State.audioIn s leg codec tick p) := by
  unfold State.audioIn
  with_reducible repeat' first
    | assumption
    | apply keeps_modIn
    | apply keeps_occur
    | (extract_lets +onlyGivenNames x; refine Keeps.cut (s := s0) (x := x) ?_ (fun hx => ?_); rotate_left; clear_value x; rotate_right; unfold x; clear x)
    | (extract_lets +onlyGivenNames x; clear_value x)
    | split

theorem keeps_doJbReanchor {s0 : State} {leg : Nat} {s : State} (h1 : Keeps s0 s) :
    Keeps s0 (doJbReanchor leg s) := by
  unfold doJbReanchor
  with_reducible repeat' first
    | assumption
    | apply keeps_occur
    | apply keeps_modIn
    | (extract_lets +onlyGivenNames x; clear_value x)
    | split

theorem keeps_doLoudnessReset {s0 : State} {leg : Nat} {s : State} (h1 : Keeps s0 s) :
    Keeps s0 (doLoudnessReset leg s) := by
  unfold doLoudnessReset
  with_reducible repeat' first
    | assumption
    | apply keeps_modIn
    | split

theorem keeps_vadEvent {s0 : State} {s : State} {leg : Nat} (h0 : Keeps s0 s) :
    Keeps s0 (State.vadEvent s leg) := by
  unfold State.vadEvent
  with_reducible repeat' first
    | assumption
    | apply keeps_postLeg
    | apply keeps_modIn
    | (extract_lets +onlyGivenNames x; clear_value x)
    | split

theorem keeps_heard {s0 : State} {s : State} {leg : Nat} (h0 : Keeps s0 s) :
    Keeps s0 (State.heard s leg) := by
  unfold State.heard
  with_reducible repeat' first
    | assumption
    | apply keeps_vadEvent
    | apply keeps_modIn
    | split

theorem keeps_doAudioDecode {s0 : State} {leg : Nat} {blk : AudioBlock} {s : State} (h2 : Keeps s0 s) :
    Keeps s0 (doAudioDecode leg blk s) := by
  unfold doAudioDecode
  with_reducible repeat' first
    | assumption
    | apply keeps_vadEvent
    | apply keeps_modIn
    | apply keeps_modDet
    | apply keeps_heard
    | (extract_lets +onlyGivenNames x; refine Keeps.cut (s := s0) (x := x) ?_ (fun hx => ?_); rotate_left; clear_value x; rotate_right; unfold x; clear x)
    | (extract_lets +onlyGivenNames x; clear_value x)
    | split

theorem keeps_setCand {s0 : State} {s : State} {leg : Nat} {on : Bool} (h0 : Keeps s0 s) :
    Keeps s0 (State.setCand s leg on) := by
  unfold State.setCand
  with_reducible repeat' first
    | assumption
    | apply keeps_modIn

theorem keeps_candOne {s0 : State} {s : State} {p : MixPol} {x : Nat × Leg} (h0 : Keeps s0 s) :
    Keeps s0 (State.candOne s p x) := by
  unfold State.candOne
  with_reducible repeat' first
    | assumption
    | apply keeps_setCand
    | apply keeps_modIn
    | (extract_lets +onlyGivenNames x; clear_value x)
    | split

theorem keeps_candidatesOf {s0 : State} {s : State} {conf : Nat} {c : Conf} (h0 : Keeps s0 s) :
    Keeps s0 (State.candidatesOf s conf c) := by
  unfold State.candidatesOf
  with_reducible repeat' first
    | assumption
    | apply keeps_candOne
    | apply keeps_setCand
    | (extract_lets +onlyGivenNames x; refine Keeps.cut (s := s0) (x := x) ?_ (fun hx => ?_); rotate_left; clear_value x; rotate_right; unfold x; clear x)
    | (extract_lets +onlyGivenNames x; clear_value x)
    | refine Keeps.foldl (fun x a hx => ?_) ?_
    | split

theorem keeps_cascLate {s0 : State} {s : State} {conf : Nat} {t : Nat} {leg : Nat} (h0 : Keeps s0 s) :
    Keeps s0 (State.cascLate s conf t leg) := by
  unfold State.cascLate
  with_reducible repeat' first
    | assumption
    | apply keeps_modDet
    | apply keeps_occur
    | apply keeps_postLeg
    | (extract_lets +onlyGivenNames x; refine Keeps.cut (s := s0) (x := x) ?_ (fun hx => ?_); rotate_left; clear_value x; rotate_right; unfold x; clear x)
    | (extract_lets +onlyGivenNames x; clear_value x)
    | split

theorem keeps_hear {s0 : State} {s : State} {leg : Nat} (h0 : Keeps s0 s) :
    Keeps s0 (State.hear s leg) := by
  unfold State.hear
  with_reducible repeat' first
    | assumption
    | apply keeps_modAud
    | (extract_lets +onlyGivenNames x; clear_value x)
    | split

theorem keeps_talkers {s0 : State} {s : State} {conf : Nat} {c : Conf} {as : List ActIn} (h0 : Keeps s0 s) :
    Keeps s0 (State.talkers s conf c as) := by
  unfold State.talkers
  with_reducible repeat' first
    | assumption
    | apply keeps_postObj

theorem keeps_mixNow {s0 : State} {s : State} {conf : Nat} {c : Conf} {as : List ActIn} (h0 : Keeps s0 s) :
    Keeps s0 (State.mixNow s conf c as) := by
  unfold State.mixNow
  with_reducible repeat' first
    | assumption
    | apply keeps_occurN
    | apply keeps_modConf
    | apply keeps_cascLate
    | (extract_lets +onlyGivenNames x; refine Keeps.cut (s := s0) (x := x) ?_ (fun hx => ?_); rotate_left; clear_value x; rotate_right; unfold x; clear x)
    | (extract_lets +onlyGivenNames x; clear_value x)
    | refine Keeps.foldl (fun x a hx => ?_) ?_
    | split

theorem keeps_pruneTalkers {s0 : State} {s : State} {conf : Nat} (h0 : Keeps s0 s) :
    Keeps s0 (State.pruneTalkers s conf) := by
  unfold State.pruneTalkers
  with_reducible repeat' first
    | assumption
    | (show _ = _; rfl)
    | (extract_lets +onlyGivenNames x; clear_value x)
    | refine Keeps.mk' _ ?_ ?_

theorem keeps_doMixRun {s0 : State} {conf : Nat} {s : State} (h1 : Keeps s0 s) :
    Keeps s0 (doMixRun conf s) := by
  unfold doMixRun
  with_reducible repeat' first
    | assumption
    | apply keeps_hear
    | apply keeps_modIn
    | apply keeps_candidatesOf
    | apply keeps_pruneTalkers
    | apply keeps_mixNow
    | apply keeps_talkers
    | (extract_lets +onlyGivenNames x; refine Keeps.cut (s := s0) (x := x) ?_ (fun hx => ?_); rotate_left; clear_value x; rotate_right; unfold x; clear x)
    | (extract_lets +onlyGivenNames x; clear_value x)
    | refine Keeps.foldl (fun x a hx => ?_) ?_
    | split

theorem keeps_drawStream {s0 : State} {s : State} {o : AudOut} (h : Keeps s0 s) : Keeps s0 (s.drawStream o).2.2 := by
  unfold State.drawStream; split
  · exact h
  · exact keeps_draw (keeps_draw h)

theorem keeps_doAudioEncode {s0 : State} {leg : Nat} {payloadLen : Nat} {s : State} (h2 : Keeps s0 s) :
    Keeps s0 (doAudioEncode leg payloadLen s) := by
  unfold doAudioEncode
  with_reducible repeat' first
    | assumption
    | apply keeps_hear
    | apply keeps_modAud
    | apply keeps_drawStream
    | apply keeps_draw
    | apply keeps_pushOut
    | apply keeps_modLeg
    | (extract_lets +onlyGivenNames x; refine Keeps.cut (s := s0) (x := x) ?_ (fun hx => ?_); rotate_left; clear_value x; rotate_right; unfold x; clear x)
    | (extract_lets +onlyGivenNames x; refine Keeps.cut (s := s0) (x := x.2) ?_ (fun hx => ?_); rotate_left; clear_value x; rotate_right; unfold x; clear x)
    | (extract_lets +onlyGivenNames x; refine Keeps.cut (s := s0) (x := x.2.2) ?_ (fun hx => ?_); rotate_left; clear_value x; rotate_right; unfold x; clear x)
    | (extract_lets +onlyGivenNames x; clear_value x)
    | split

theorem keeps_sendContrib {s0 : State} {s : State} {c : Conf} {tick : Nat} {blocks : List (Nat × Bool × Nat × List Int)} {leg : Nat}
    (h : Keeps s0 s) : Keeps s0 (s.sendContrib c tick blocks leg) := by
  unfold State.sendContrib
  split
  · exact h
  · split
    · exact h
    · extract_lets seq p put
      have h1 : Keeps s0 seq.2 := by
        unfold seq
        cases (‹Leg›).aud.out.encNext with
        | none => exact keeps_draw h
        | some n => exact h
      exact keeps_pushOut (keeps_modLeg h1)

theorem keeps_doCascContribSend {s0 : State} {conf : Nat} {s : State} (h1 : Keeps s0 s) :
    Keeps s0 (doCascContribSend conf s) := by
  unfold doCascContribSend
  with_reducible repeat' first
    | assumption
    | apply keeps_modConf
    | apply keeps_sendContrib
    | (extract_lets +onlyGivenNames x; refine Keeps.cut (s := s0) (x := x) ?_ (fun hx => ?_); rotate_left; clear_value x; rotate_right; unfold x; clear x)
    | (extract_lets +onlyGivenNames x; clear_value x)
    | refine Keeps.foldl (fun x a hx => ?_) ?_
    | split

theorem keeps_cascIn {s0 : State} {s : State} {leg : Nat} {l : Leg} {ver : Nat} {tag : Nat} {site : Nat} {tick : Nat} {blocks : List (Nat × Bool × Nat × List Int)} (h0 : Keeps s0 s) :
    Keeps s0 (State.cascIn s leg l ver tag site tick blocks) := by
  unfold State.cascIn
  with_reducible repeat' first
    | assumption
    | apply keeps_occur
    | apply keeps_modDet
    | apply keeps_modConf
    | (extract_lets +onlyGivenNames x; refine Keeps.cut (s := s0) (x := x) ?_ (fun hx => ?_); rotate_left; clear_value x; rotate_right; unfold x; clear x)
    | (extract_lets +onlyGivenNames x; clear_value x)
    | split

theorem keeps_dtmfEvent {s0 : State} {s : State} {leg : Nat} {digit : Nat} {ms : Nat} {how : Nat} {start : Nat} (h0 : Keeps s0 s) :
    Keeps s0 (State.dtmfEvent s leg digit ms how start) := by
  unfold State.dtmfEvent
  with_reducible repeat' first
    | assumption
    | apply keeps_postLeg

theorem keeps_teIn {s0 : State} {s : State} {leg : Nat} {l : Leg} {clock : Nat} {ts : Nat} {event : Nat} {e : Bool} {dur : Nat} (h0 : Keeps s0 s) :
    Keeps s0 (State.teIn s leg l clock ts event e dur) := by
  unfold State.teIn
  with_reducible repeat' first
    | assumption
    | apply keeps_occur
    | apply keeps_dtmfEvent
    | apply keeps_modDet
    | (extract_lets +onlyGivenNames x; clear_value x)
    | split

theorem keeps_doDtmfDigitEnd {s0 : State} {leg : Nat} {tele : Bool} {s : State} (h2 : Keeps s0 s) :
    Keeps s0 (doDtmfDigitEnd leg tele s) := by
  unfold doDtmfDigitEnd
  with_reducible repeat' first
    | assumption
    | apply keeps_dtmfEvent
    | apply keeps_modDet
    | (extract_lets +onlyGivenNames x; clear_value x)
    | split

theorem keeps_howlEvent {s0 : State} {s : State} {leg : Nat} {l : Leg} {hz : Nat} {above : Int} {start : Bool} (h0 : Keeps s0 s) :
    Keeps s0 (State.howlEvent s leg l hz above start) := by
  unfold State.howlEvent
  with_reducible repeat' first
    | assumption
    | apply keeps_postLeg

theorem keeps_doHowlAnalysis {s0 : State} {leg : Nat} {peak : Option HowlPeak} {s : State} (h2 : Keeps s0 s) :
    Keeps s0 (doHowlAnalysis leg peak s) := by
  unfold doHowlAnalysis
  with_reducible repeat' first
    | assumption
    | apply keeps_modDet
    | apply keeps_howlEvent
    | (extract_lets +onlyGivenNames x; refine Keeps.cut (s := s0) (x := x) ?_ (fun hx => ?_); rotate_left; clear_value x; rotate_right; unfold x; clear x)
    | (extract_lets +onlyGivenNames x; clear_value x)
    | split

theorem keeps_rtcpBlocks {s0 : State} {s : State} {leg : Nat} {bs : List ReportBlock} (h0 : Keeps s0 s) :
    Keeps s0 (State.rtcpBlocks s leg bs) := by
  unfold State.rtcpBlocks
  with_reducible repeat' first
    | assumption
    | apply keeps_modLeg
    | (extract_lets +onlyGivenNames x; clear_value x)
    | split

theorem keeps_rtcpSr {s0 : State} {s : State} {leg : Nat} {ssrc : Nat} {ntpSec : Nat} {ntpFr : Nat} {rtpTs : Nat} (h0 : Keeps s0 s) :
    Keeps s0 (State.rtcpSr s leg ssrc ntpSec ntpFr rtpTs) := by
  unfold State.rtcpSr
  with_reducible repeat' first
    | assumption
    | apply keeps_modLeg
    | split

theorem keeps_rtcpCname {s0 : State} {s : State} {leg : Nat} {item : Nat × List Byte} (h0 : Keeps s0 s) :
    Keeps s0 (State.rtcpCname s leg item) := by
  unfold State.rtcpCname
  with_reducible repeat' first
    | assumption
    | apply keeps_modLeg
    | split

theorem keeps_rtcpKey {s0 : State} {s : State} {leg : Nat} {ssrc : Nat} {fir : Bool} (h0 : Keeps s0 s) :
    Keeps s0 (State.rtcpKey s leg ssrc fir) := by
  unfold State.rtcpKey
  with_reducible repeat' first
    | assumption
    | apply keeps_requestKey
    | split

theorem keeps_rtcpNack {s0 : State} {s : State} {leg : Nat} {ssrc : Nat} {seqs : List Nat} (h0 : Keeps s0 s) :
    Keeps s0 (State.rtcpNack s leg ssrc seqs) := by
  unfold State.rtcpNack
  with_reducible repeat' first
    | assumption
    | apply keeps_retransmit
    | apply keeps_occurN
    | refine Keeps.foldl (fun x a hx => ?_) ?_
    | split

theorem keeps_feedbackRtt {s0 : State} {s : State} {leg : Nat} {hits : List (Nat × Nat × Option Nat)} (h0 : Keeps s0 s) :
    Keeps s0 (State.feedbackRtt s leg hits) := by
  unfold State.feedbackRtt
  with_reducible repeat' first
    | assumption
    | apply keeps_draw
    | apply keeps_modLeg
    | split

theorem keeps_rtcpFeedback {s0 : State} {s : State} {leg : Nat} {fmt : Nat} {arr : List (Nat × Option Nat)} (h0 : Keeps s0 s) :
    Keeps s0 (State.rtcpFeedback s leg fmt arr) := by
  unfold State.rtcpFeedback
  with_reducible repeat' first
    | assumption
    | apply keeps_feedbackRtt
    | apply keeps_setLeg
    | split

theorem keeps_rtcpOne {s0 : State} {s : State} {leg : Nat} {p : Rtcp} (h0 : Keeps s0 s) :
    Keeps s0 (State.rtcpOne s leg p) := by
  unfold State.rtcpOne
  with_reducible repeat' first
    | assumption
    | apply keeps_rtcpBlocks
    | apply keeps_rtcpSr
    | apply keeps_rtcpCname
    | apply keeps_occur
    | apply keeps_rtcpNack
    | apply keeps_rtcpFeedback
    | apply keeps_rtcpKey
    | apply keeps_modLeg
    | refine Keeps.foldl (fun x a hx => ?_) ?_
    | split

theorem keeps_rtcpIn {s0 : State} {s : State} {leg : Nat} {ps : List Rtcp} (h0 : Keeps s0 s) :
    Keeps s0 (State.rtcpIn s leg ps) := by
  unfold State.rtcpIn
  with_reducible repeat' first
    | assumption
    | apply keeps_rtcpOne
    | refine Keeps.foldl (fun x a hx => ?_) ?_

theorem keeps_doRtcpSend {s0 : State} {leg : Nat} {s : State} (h1 : Keeps s0 s) :
    Keeps s0 (doRtcpSend leg s) := by
  unfold doRtcpSend
  with_reducible repeat' first
    | assumption
    | apply keeps_sendRtcp
    | apply keeps_modLeg
    | apply keeps_rtcpTimer
    | (extract_lets +onlyGivenNames x; refine Keeps.cut (s := s0) (x := x) ?_ (fun hx => ?_); rotate_left; clear_value x; rotate_right; unfold x; clear x)
    | (extract_lets +onlyGivenNames x; clear_value x)
    | refine Keeps.foldl (fun x a hx => ?_) ?_
    | split

theorem keeps_doTransportFeedbackSend {s0 : State} {leg : Nat} {s : State} (h1 : Keeps s0 s) :
    Keeps s0 (doTransportFeedbackSend leg s) := by
  unfold doTransportFeedbackSend
  with_reducible repeat' first
    | assumption
    | apply keeps_modLeg
    | apply keeps_sendFb
    | (extract_lets +onlyGivenNames x; refine Keeps.cut (s := s0) (x := x) ?_ (fun hx => ?_); rotate_left; clear_value x; rotate_right; unfold x; clear x)
    | (extract_lets +onlyGivenNames x; clear_value x)
    | split

theorem keeps_domains {s0 : State} {s : State} {f : Nat → Bool → Bool} (h0 : Keeps s0 s) :
    Keeps s0 (State.domains s f) := by
  unfold State.domains
  with_reducible repeat' first
    | assumption
    | (show _ = _; rfl)
    | (extract_lets +onlyGivenNames x; clear_value x)
    | refine Keeps.mk' _ ?_ ?_

theorem keeps_serdes {s0 : State} {s : State} (h0 : Keeps s0 s) :
    Keeps s0 (State.serdes s) := by
  unfold State.serdes
  with_reducible repeat' first
    | assumption
    | apply keeps_domains

theorem keeps_linkEvent {s0 : State} {s : State} {n : Nat} {up : Nat} {cause : Nat} (h0 : Keeps s0 s) :
    Keeps s0 (State.linkEvent s n up cause) := by
  unfold State.linkEvent
  with_reducible repeat' first
    | assumption
    | apply keeps_postAll

theorem keeps_doLinkUp {s0 : State} {port : Nat} {s : State} (h1 : Keeps s0 s) :
    Keeps s0 (doLinkUp port s) := by
  unfold doLinkUp
  with_reducible repeat' first
    | assumption
    | apply keeps_linkEvent
    | apply keeps_modPort
    | (extract_lets +onlyGivenNames x; clear_value x)
    | split

theorem keeps_linkLost {s0 : State} {s : State} {n : Nat} {cause : Nat} (h0 : Keeps s0 s) :
    Keeps s0 (State.linkLost s n cause) := by
  unfold State.linkLost
  with_reducible repeat' first
    | assumption
    | apply keeps_linkEvent
    | apply keeps_modPort
    | apply keeps_dropTq
    | split

theorem keeps_doLinkDown {s0 : State} {port : Nat} {s : State} (h1 : Keeps s0 s) :
    Keeps s0 (doLinkDown port s) := by
  unfold doLinkDown
  with_reducible repeat' first
    | assumption
    | apply keeps_draw
    | apply keeps_linkLost
    | apply keeps_modPort
    | (extract_lets +onlyGivenNames x; refine Keeps.cut (s := s0) (x := x.2) ?_ (fun hx => ?_); rotate_left; clear_value x; rotate_right; unfold x; clear x)
    | split

theorem keeps_doPortConfig {s0 : State} {ch : Nat} {s : State} (h1 : Keeps s0 s) :
    Keeps s0 (doPortConfig ch s) := by
  unfold doPortConfig
  with_reducible repeat' first
    | assumption
    | refine keeps_runCmd ?_ (fun c x hx => ?_)
    | apply keeps_ok
    | apply keeps_serdes
    | apply keeps_modPort
    | apply keeps_linkLost
    | (extract_lets +onlyGivenNames x; clear_value x)
    | refine KeepsR.checks ?_
    | split

theorem keeps_doPortStatus {s0 : State} {ch : Nat} {s : State} (h1 : Keeps s0 s) :
    Keeps s0 (doPortStatus ch s) := by
  unfold doPortStatus
  with_reducible repeat' first
    | assumption
    | refine keeps_runCmd ?_ (fun c x hx => ?_)
    | apply keeps_okWords
    | apply keeps_modPort
    | (extract_lets +onlyGivenNames x; clear_value x)
    | refine KeepsR.checks ?_
    | split

theorem keeps_doPortRelease {s0 : State} {ch : Nat} {s : State} (h1 : Keeps s0 s) :
    Keeps s0 (doPortRelease ch s) := by
  unfold doPortRelease
  with_reducible repeat' first
    | assumption
    | refine keeps_runCmd ?_ (fun c x hx => ?_)
    | refine keeps_startLong ?_ (fun n x hx => ?_)
    | apply keeps_linkLost
    | apply keeps_modPort
    | (extract_lets +onlyGivenNames x; clear_value x)
    | refine KeepsR.checks ?_

theorem keeps_doPortReleaseComplete {s0 : State} {port : Nat} {s : State} (h1 : Keeps s0 s) :
    Keeps s0 (doPortReleaseComplete port s) := by
  unfold doPortReleaseComplete
  with_reducible repeat' first
    | assumption
    | apply keeps_componentEvent
    | apply keeps_modPort
    | apply keeps_opDone
    | apply keeps_tbMasterLost
    | (extract_lets +onlyGivenNames x; refine Keeps.cut (s := s0) (x := x) ?_ (fun hx => ?_); rotate_left; clear_value x; rotate_right; unfold x; clear x)
    | (extract_lets +onlyGivenNames x; clear_value x)
    | refine Keeps.foldl (fun x a hx => ?_) ?_
    | split

theorem keeps_doPortRestore {s0 : State} {ch : Nat} {s : State} (h1 : Keeps s0 s) :
    Keeps s0 (doPortRestore ch s) := by
  unfold doPortRestore
  with_reducible repeat' first
    | assumption
    | refine keeps_runCmd ?_ (fun c x hx => ?_)
    | refine keeps_startLong ?_ (fun n x hx => ?_)
    | apply keeps_modPort
    | (extract_lets +onlyGivenNames x; clear_value x)
    | refine KeepsR.checks ?_

theorem keeps_doPortRestoreComplete {s0 : State} {port : Nat} {up : Bool} {s : State} (h2 : Keeps s0 s) :
    Keeps s0 (doPortRestoreComplete port up s) := by
  unfold doPortRestoreComplete
  with_reducible repeat' first
    | assumption
    | apply keeps_opDone
    | apply keeps_modPort
    | split

theorem keeps_portAbort {s0 : State} {s : State} {release : Bool} {n : Nat} (h0 : Keeps s0 s) :
    Keeps s0 (State.portAbort s release n) := by
  unfold State.portAbort
  with_reducible repeat' first
    | assumption
    | apply keeps_modPort
    | apply keeps_linkLost
    | split

theorem keeps_putSlot {s0 : State} {s : State} {f : Nat} {ring : Nat} {x : PktSlot} (h0 : Keeps s0 s) :
    Keeps s0 (State.putSlot s f ring x) := by
  unfold State.putSlot
  with_reducible repeat' first
    | assumption
    | apply keeps_modFn
    | apply keeps_offerAll
    | (extract_lets +onlyGivenNames x; refine Keeps.cut (s := s0) (x := x) ?_ (fun hx => ?_); rotate_left; clear_value x; rotate_right; unfold x; clear x)
    | (extract_lets +onlyGivenNames x; clear_value x)
    | split

theorem keeps_slowRx {s0 : State} {s : State} {port : Nat} {kind : Nat} {f : Frame} (h0 : Keeps s0 s) :
    Keeps s0 (State.slowRx s port kind f) := by
  unfold State.slowRx
  with_reducible repeat' first
    | assumption
    | apply keeps_putSlot

theorem keeps_slowLeg {s0 : State} {s : State} {port : Nat} {kind : Nat} {f : Frame} {leg : Nat} {l : Leg} (h0 : Keeps s0 s) :
    Keeps s0 (State.slowLeg s port kind f leg l) := by
  unfold State.slowLeg
  with_reducible repeat' first
    | assumption
    | apply keeps_putSlot
    | (extract_lets +onlyGivenNames x; clear_value x)
    | split

theorem keeps_ownFrame {s0 : State} {s : State} {port : Nat} {len : Nat} {kind : Nat} {arg : Nat} (h0 : Keeps s0 s) :
    Keeps s0 (State.ownFrame s port len kind arg) := by
  unfold State.ownFrame
  with_reducible repeat' first
    | assumption
    | apply keeps_modPort

theorem keeps_yieldLeg {s0 : State} {s : State} {leg : Nat} {l : Leg} {port : Nat} {mac : Nat} (h0 : Keeps s0 s) :
    Keeps s0 (State.yieldLeg s leg l port mac) := by
  unfold State.yieldLeg
  with_reducible repeat' first
    | assumption
    | apply keeps_occurN
    | apply keeps_modLeg
    | apply keeps_postLeg

theorem keeps_claim {s0 : State} {s : State} {port : Nat} {vlan : Option Nat} {ipv6 : Bool} {addr : Nat} {mac : Nat} (h0 : Keeps s0 s) :
    Keeps s0 (State.claim s port vlan ipv6 addr mac) := by
  unfold State.claim
  with_reducible repeat' first
    | assumption
    | apply keeps_yieldLeg
    | refine Keeps.foldl (fun x a hx => ?_) ?_
    | split

theorem keeps_arpRx {s0 : State} {s : State} {port : Nat} {f : Frame} {vlan : Option Nat} {req : Bool} {mac : Nat} {sender : Nat} {target : Nat} (h0 : Keeps s0 s) :
    Keeps s0 (State.arpRx s port f vlan req mac sender target) := by
  unfold State.arpRx
  with_reducible repeat' first
    | assumption
    | apply keeps_claim
    | apply keeps_ownFrame
    | apply keeps_slowRx
    | (extract_lets +onlyGivenNames x; refine Keeps.cut (s := s0) (x := x) ?_ (fun hx => ?_); rotate_left; clear_value x; rotate_right; unfold x; clear x)
    | split

theorem keeps_ndRx {s0 : State} {s : State} {port : Nat} {f : Frame} {vlan : Option Nat} {solicit : Bool} {override : Bool} {mac : Nat} {target : Nat} (h0 : Keeps s0 s) :
    Keeps s0 (State.ndRx s port f vlan solicit override mac target) := by
  unfold State.ndRx
  with_reducible repeat' first
    | assumption
    | apply keeps_claim
    | apply keeps_ownFrame
    | apply keeps_slowRx
    | (extract_lets +onlyGivenNames x; refine Keeps.cut (s := s0) (x := x) ?_ (fun hx => ?_); rotate_left; clear_value x; rotate_right; unfold x; clear x)
    | split

theorem keeps_authFail {s0 : State} {s : State} {leg : Nat} (h0 : Keeps s0 s) :
    Keeps s0 (State.authFail s leg) := by
  unfold State.authFail
  with_reducible repeat' first
    | assumption
    | apply keeps_modLeg

theorem keeps_sortPayload {s0 : State} {s : State} {port : Nat} {leg : Nat} {l : Leg} {fr : Frame} {ipLen : Nat} {p : Payload} (h0 : Keeps s0 s) :
    Keeps s0 (State.sortPayload s port leg l fr ipLen p) := by
  unfold State.sortPayload
  with_reducible repeat' first
    | assumption
    | (show _ = _; rfl)
    | apply keeps_occur
    | apply keeps_slowLeg
    | apply keeps_authFail
    | (extract_lets +onlyGivenNames x; refine Keeps.cut (s := s0) (x := x) ?_ (fun hx => ?_); rotate_left; clear_value x; rotate_right; unfold x; clear x)
    | split
    | refine Keeps.mk' _ ?_ ?_

theorem keeps_ipRx {s0 : State} {s : State} {port : Nat} {fr : Frame} {f : Flow5} {k : IpChecks} {ipLen : Nat} {p : Payload} (h0 : Keeps s0 s) :
    Keeps s0 (State.ipRx s port fr f k ipLen p) := by
  unfold State.ipRx
  with_reducible repeat' first
    | assumption
    | apply keeps_occur
    | apply keeps_setLeg
    | apply keeps_modLeg
    | apply keeps_sortPayload
    | (extract_lets +onlyGivenNames x; refine Keeps.cut (s := s0) (x := x) ?_ (fun hx => ?_); rotate_left; clear_value x; rotate_right; unfold x; clear x)
    | (extract_lets +onlyGivenNames x; clear_value x)
    | split

theorem keeps_countBad {s0 : State} {s : State} {port : Nat} {fl : Bool × Bool × Bool × Bool} (h0 : Keeps s0 s) :
    Keeps s0 (State.countBad s port fl) := by
  unfold State.countBad
  with_reducible repeat' first
    | assumption
    | (show _ = _; rfl)
    | apply keeps_occur
    | apply keeps_modPort
    | split
    | refine Keeps.mk' _ ?_ ?_

theorem keeps_countFec {s0 : State} {s : State} {port : Nat} {f : Frame} (h0 : Keeps s0 s) :
    Keeps s0 (State.countFec s port f) := by
  unfold State.countFec
  with_reducible repeat' first
    | assumption
    | apply keeps_modPort
    | split

theorem keeps_badFrame {s0 : State} {s : State} {port : Nat} {f : Frame} (h0 : Keeps s0 s) :
    Keeps s0 (State.badFrame s port f) := by
  unfold State.badFrame
  with_reducible repeat' first
    | assumption
    | apply keeps_countBad
    | apply keeps_putSlot
    | (extract_lets +onlyGivenNames x; refine Keeps.cut (s := s0) (x := x) ?_ (fun hx => ?_); rotate_left; clear_value x; rotate_right; unfold x; clear x)
    | (extract_lets +onlyGivenNames x; clear_value x)
    | split

theorem keeps_goodFrame {s0 : State} {s : State} {port : Nat} {f : Frame} (h0 : Keeps s0 s) :
    Keeps s0 (State.goodFrame s port f) := by
  unfold State.goodFrame
  with_reducible repeat' first
    | assumption
    | apply keeps_occur
    | apply keeps_modPort
    | apply keeps_slowRx
    | apply keeps_arpRx
    | apply keeps_ndRx
    | apply keeps_ptpRx
    | apply keeps_ipRx
    | (extract_lets +onlyGivenNames x; clear_value x)
    | split

theorem keeps_doFrameRx {s0 : State} {port : Nat} {f : Frame} {s : State} (h2 : Keeps s0 s) :
    Keeps s0 (doFrameRx port f s) := by
  unfold doFrameRx
  with_reducible repeat' first
    | assumption
    | apply keeps_countFec
    | apply keeps_occur
    | apply keeps_badFrame
    | apply keeps_goodFrame
    | (extract_lets +onlyGivenNames x; refine Keeps.cut (s := s0) (x := x) ?_ (fun hx => ?_); rotate_left; clear_value x; rotate_right; unfold x; clear x)
    | (extract_lets +onlyGivenNames x; clear_value x)
    | split

theorem keeps_slowSend {s0 : State} {s : State} {x : SlowSlot} (h0 : Keeps s0 s) :
    Keeps s0 (State.slowSend s x) := by
  unfold State.slowSend
  with_reducible repeat' first
    | assumption
    | apply keeps_occur
    | apply keeps_enqueueLeg
    | apply keeps_modPort
    | split

theorem keeps_doSptxSlotSend {s0 : State} {fn : Nat} {slot : SlowSlot} {s : State} (h2 : Keeps s0 s) :
    Keeps s0 (doSptxSlotSend fn slot s) := by
  unfold doSptxSlotSend
  with_reducible repeat' first
    | assumption
    | apply keeps_modFn
    | apply keeps_occur
    | apply keeps_slowSend
    | (extract_lets +onlyGivenNames x; refine Keeps.cut (s := s0) (x := x) ?_ (fun hx => ?_); rotate_left; clear_value x; rotate_right; unfold x; clear x)
    | (extract_lets +onlyGivenNames x; clear_value x)
    | split

theorem keeps_doReserve {s0 : State} {g : Nat} {r : Reserve} {s : State} (h2 : Keeps s0 s) :
    Keeps s0 (doReserve g r s) := by
  unfold doReserve
  with_reducible repeat' first
    | assumption
    | (show _ = _; rfl)
    | apply keeps_sendControl
    | (extract_lets +onlyGivenNames x; clear_value x)
    | split
    | refine Keeps.mk' _ ?_ ?_

theorem keeps_doRelease {s0 : State} {g : Nat} {r : Reserve} {s : State} (h2 : Keeps s0 s) :
    Keeps s0 (doRelease g r s) := by
  unfold doRelease
  with_reducible repeat' first
    | assumption
    | (show _ = _; rfl)
    | (extract_lets +onlyGivenNames x; clear_value x)
    | split
    | refine Keeps.mk' _ ?_ ?_

theorem keeps_askReserve {s0 : State} {s : State} {c : Ctx} {leg : Nat} {l : Leg} {g : Nat} (h0 : Keeps s0 s) :
    Keeps s0 (State.askReserve s c leg l g) := by
  unfold State.askReserve
  with_reducible repeat' first
    | assumption
    | (show _ = _; rfl)
    | apply keeps_sendControl
    | (extract_lets +onlyGivenNames x; clear_value x)
    | refine Keeps.mk' _ ?_ ?_

theorem keeps_doProtClass {s0 : State} {ch : Nat} {s : State} (h1 : Keeps s0 s) :
    Keeps s0 (doProtClass ch s) := by
  unfold doProtClass
  with_reducible repeat' first
    | assumption
    | refine keeps_runCmd ?_ (fun c x hx => ?_)
    | apply keeps_modLeg
    | refine keeps_withFlows ?_ (fun x hx => ?_)
    | apply keeps_askReserve
    | apply keeps_releaseLeg
    | apply keeps_ok
    | (extract_lets +onlyGivenNames x; refine Keeps.cut (s := s0) (x := x) ?_ (fun hx => ?_); rotate_left; clear_value x; rotate_right; unfold x; clear x)
    | (extract_lets +onlyGivenNames x; clear_value x)
    | exact KeepsR.fail
    | refine KeepsR.checks ?_
    | refine KeepsR.hold ?_
    | split

theorem keeps_endWait {s0 : State} {s : State} {ch : Nat} {w : ProtWait} {st : Nat} {det : Nat} (h0 : Keeps s0 s) :
    Keeps s0 (State.endWait s ch w st det) := by
  unfold State.endWait
  with_reducible repeat' first
    | assumption
    | (show _ = _; rfl)
    | apply keeps_drain
    | apply keeps_respond
    | (extract_lets +onlyGivenNames x; clear_value x)
    | refine Keeps.mk' _ ?_ ?_

theorem keeps_unreserve {s0 : State} {s : State} {w : ProtWait} (h0 : Keeps s0 s) :
    Keeps s0 (State.unreserve s w) := by
  unfold State.unreserve
  with_reducible repeat' first
    | assumption
    | (show _ = _; rfl)
    | apply keeps_sendControl
    | (extract_lets +onlyGivenNames x; refine Keeps.cut (s := s0) (x := x) ?_ (fun hx => ?_); rotate_left; clear_value x; rotate_right; unfold x; clear x)
    | (extract_lets +onlyGivenNames x; clear_value x)
    | split
    | refine Keeps.mk' _ ?_ ?_

theorem keeps_doReserveAck {s0 : State} {g : Nat} {tag : Nat} {status : Nat} {s : State} (h3 : Keeps s0 s) :
    Keeps s0 (doReserveAck g tag status s) := by
  unfold doReserveAck
  with_reducible repeat' first
    | assumption
    | apply keeps_endWait
    | refine keeps_reflow ?_ (by assumption)
    | apply keeps_modLeg
    | apply keeps_unreserve
    | split

theorem keeps_doReserveTimeout {s0 : State} {ch : Nat} {s : State} (h1 : Keeps s0 s) :
    Keeps s0 (doReserveTimeout ch s) := by
  unfold doReserveTimeout
  with_reducible repeat' first
    | assumption
    | apply keeps_endWait
    | apply keeps_unreserve
    | split

theorem keeps_doProtPartner {s0 : State} {ch : Nat} {buf : BufRead} {s : State} (h2 : Keeps s0 s) :
    Keeps s0 (doProtPartner ch buf s) := by
  unfold doProtPartner
  with_reducible repeat' first
    | assumption
    | (show _ = _; rfl)
    | refine keeps_runCmd ?_ (fun c x hx => ?_)
    | apply keeps_ok
    | apply keeps_okWords
    | (extract_lets +onlyGivenNames x; clear_value x)
    | refine KeepsR.checks ?_
    | split
    | refine Keeps.mk' _ ?_ ?_

theorem keeps_doShadowMessageSend {s0 : State} {s : State} (h0 : Keeps s0 s) :
    Keeps s0 (doShadowMessageSend s) := by
  unfold doShadowMessageSend
  with_reducible repeat' first
    | assumption
    | (show _ = _; rfl)
    | apply keeps_draw
    | apply keeps_modGroup
    | (extract_lets +onlyGivenNames x; refine Keeps.cut (s := s0) (x := x) ?_ (fun hx => ?_); rotate_left; clear_value x; rotate_right; unfold x; clear x)
    | (extract_lets +onlyGivenNames x; refine Keeps.cut (s := s0) (x := x.2) ?_ (fun hx => ?_); rotate_left; clear_value x; rotate_right; unfold x; clear x)
    | (extract_lets +onlyGivenNames x; clear_value x)
    | split
    | refine Keeps.mk' _ ?_ ?_

theorem keeps_doShadow {s0 : State} {g : Nat} {m : ShadowMsg} {s : State} (h2 : Keeps s0 s) :
    Keeps s0 (doShadow g m s) := by
  unfold doShadow
  with_reducible repeat' first
    | assumption
    | (show _ = _; rfl)
    | apply keeps_sendControl
    | (extract_lets +onlyGivenNames x; clear_value x)
    | split
    | refine Keeps.mk' _ ?_ ?_

theorem keeps_doFullRequest {s0 : State} {g : Nat} {_seq : Nat} {s : State} (h2 : Keeps s0 s) :
    Keeps s0 (doFullRequest g _seq s) := by
  unfold doFullRequest
  with_reducible repeat' first
    | assumption
    | (show _ = _; rfl)
    | (extract_lets +onlyGivenNames x; clear_value x)
    | split
    | refine Keeps.mk' _ ?_ ?_

theorem keeps_shadowApplied {s0 : State} {s : State} {seq : Nat} (h0 : Keeps s0 s) :
    Keeps s0 (State.shadowApplied s seq) := by
  unfold State.shadowApplied
  with_reducible repeat' first
    | assumption
    | (show _ = _; rfl)
    | (extract_lets +onlyGivenNames x; clear_value x)
    | split
    | refine Keeps.mk' _ ?_ ?_

theorem keeps_doShadowLag {s0 : State} {s : State} (h0 : Keeps s0 s) :
    Keeps s0 (doShadowLag s) := by
  unfold doShadowLag
  with_reducible repeat' first
    | assumption
    | (show _ = _; rfl)
    | apply keeps_postAll
    | (extract_lets +onlyGivenNames x; clear_value x)
    | split
    | refine Keeps.mk' _ ?_ ?_

theorem keeps_resolve {s0 : State} {s : State} {legs : List (Nat × Nat)} (h0 : Keeps s0 s) :
    Keeps s0 (State.resolve s legs) := by
  unfold State.resolve
  with_reducible repeat' first
    | assumption
    | apply keeps_modLeg
    | (extract_lets +onlyGivenNames x; clear_value x)
    | refine Keeps.foldl (fun x a hx => ?_) ?_

theorem keeps_sendClaim {s0 : State} {s : State} {l : Leg} (h0 : Keeps s0 s) :
    Keeps s0 (State.sendClaim s l) := by
  unfold State.sendClaim
  with_reducible repeat' first
    | assumption
    | apply keeps_ownFrame

theorem keeps_claimAll {s0 : State} {s : State} {ids : List Nat} (h : Keeps s0 s) : Keeps s0 (s.claimAll ids) := by
  unfold State.claimAll
  have : ∀ (a : List (Nat × Bool × Nat × Bool × Nat) × State), Keeps s0 a.2 → Keeps s0 (ids.foldl (fun a id =>
      match a.2.leg id with
      | none => a
      | some l =>
        let key := (l.cfg.port, l.cfg.vlanEn, l.cfg.vlanId, l.cfg.ipv6, l.cfg.laddr)
        if a.1.contains key then a
        else (key :: a.1, (a.2.sendClaim l).modLeg id fun l => { l with claims := 2, claimAt := a.2.time.m })) a).2 := by
    induction ids with
    | nil => exact fun _ ha => ha
    | cons i ids ih =>
      intro a ha
      rw [List.foldl_cons]
      refine ih _ ?_
      split
      · exact ha
      · extract_lets key
        split
        · exact ha
        · exact keeps_modLeg (keeps_sendClaim ha)
  exact this ([], s) h

theorem keeps_Takeover_refuse {s0 : State} {k : Takeover} {r : ShadowLeg} (h : Keeps s0 k.s) : Keeps s0 (k.refuse r).s :=
  keeps_occur h

theorem keeps_Takeover_conf {s0 : State} {k k2 : Takeover} {r : ShadowLeg} {c : Nat} (h : Keeps s0 k.s)
    (e : k.conf r = some (c, k2)) : Keeps s0 k2.s := by
  unfold Takeover.conf at e
  split at e
  · cases e; exact h
  · split at e
    · cases e; exact Keeps.mk' _ rfl h
    · cases e

theorem keeps_Takeover_leg {s0 : State} {p : Nat} {k : Takeover} {r : ShadowLeg} (h : Keeps s0 k.s) :
    Keeps s0 (Takeover.leg p k r).s := by
  unfold Takeover.leg
  split
  · exact keeps_Takeover_refuse h
  · rename_i heq
    have h2 := keeps_Takeover_conf h heq
    split
    · exact keeps_Takeover_refuse h2
    · extract_lets gen l t
      have ht : Keeps s0 t := keeps_addLeg h2
      clear_value t
      split
      · exact keeps_Takeover_refuse h2
      · split
        · exact keeps_Takeover_refuse h2
        · rename_i hr
          exact keeps_consentTimer (Keeps.mk' _ rfl (keeps_reflow ht hr))

theorem keeps_partnerLost {s0 : State} {s : State} {p : Nat} (h : Keeps s0 s) : Keeps s0 (s.partnerLost p) := by
  unfold State.partnerLost
  split
  · exact h
  · split
    · exact h
    · rename_i hs _
      extract_lets k t1 t2
      have hk : Keeps s0 k.s := by
        unfold k
        have : ∀ (l : List ShadowLeg) (k : Takeover), Keeps s0 k.s → Keeps s0 (l.foldl (Takeover.leg p) k).s := by
          intro l; induction l with
          | nil => exact fun _ h => h
          | cons r l ih => exact fun k hk => ih _ (keeps_Takeover_leg hk)
        exact this _ _ h
      clear_value k
      have h1 : Keeps s0 t1 := keeps_claimAll (keeps_resolve hk)
      clear_value t1
      exact keeps_postObj (Keeps.mk' _ rfl h1)

theorem keeps_doClaimRepeat {s0 : State} {leg : Nat} {s : State} (h1 : Keeps s0 s) :
    Keeps s0 (doClaimRepeat leg s) := by
  unfold doClaimRepeat
  with_reducible repeat' first
    | assumption
    | apply keeps_modLeg
    | apply keeps_sendClaim
    | split

theorem keeps_modCells {s0 : State} {s : State} {g : Nat} {f : CellLayer → CellLayer} (h0 : Keeps s0 s) :
    Keeps s0 (State.modCells s g f) := by
  unfold State.modCells
  with_reducible repeat' first
    | assumption
    | apply keeps_modGroup

theorem keeps_sendCtl {s0 : State} {s : State} {g : Nat} {m : LinkCtl} (h0 : Keeps s0 s) :
    Keeps s0 (State.sendCtl s g m) := by
  unfold State.sendCtl
  with_reducible repeat' first
    | assumption
    | apply keeps_modCells

theorem keeps_groupEvent {s0 : State} {s : State} {g : Nat} {old : Nat} {cause : Nat} (h0 : Keeps s0 s) :
    Keeps s0 (State.groupEvent s g old cause) := by
  unfold State.groupEvent
  with_reducible repeat' first
    | assumption
    | apply keeps_postAll

theorem keeps_lanesLoaded {s0 : State} {s : State} {g : Nat} {lanes : List Nat} (h0 : Keeps s0 s) :
    Keeps s0 (State.lanesLoaded s g lanes) := by
  unfold State.lanesLoaded
  with_reducible repeat' first
    | assumption
    | apply keeps_componentEvent
    | refine Keeps.foldl (fun x a hx => ?_) ?_

theorem keeps_trainGroup {s0 : State} {s : State} {g : Nat} (h0 : Keeps s0 s) :
    Keeps s0 (State.trainGroup s g) := by
  unfold State.trainGroup
  with_reducible repeat' first
    | assumption
    | apply keeps_modGroup
    | apply keeps_lanesLoaded
    | split

theorem keeps_groupIsUp {s0 : State} {s : State} {g : Nat} (h0 : Keeps s0 s) :
    Keeps s0 (State.groupIsUp s g) := by
  unfold State.groupIsUp
  with_reducible repeat' first
    | assumption
    | (show _ = _; rfl)
    | apply keeps_modGroup
    | apply keeps_groupEvent
    | (extract_lets +onlyGivenNames x; clear_value x)
    | split
    | refine Keeps.mk' _ ?_ ?_

theorem keeps_groupDown {s0 : State} {s : State} {g : Nat} {signal : Bool} (h0 : Keeps s0 s) :
    Keeps s0 (State.groupDown s g signal) := by
  unfold State.groupDown
  with_reducible repeat' first
    | assumption
    | apply keeps_modGroup
    | apply keeps_postAll
    | apply keeps_partnerLost
    | apply keeps_groupEvent

theorem keeps_doPeerLost {s0 : State} {g : Nat} {signal : Bool} {s : State} (h2 : Keeps s0 s) :
    Keeps s0 (doPeerLost g signal s) := by
  unfold doPeerLost
  with_reducible repeat' first
    | assumption
    | apply keeps_groupDown
    | (extract_lets +onlyGivenNames x; clear_value x)
    | split

theorem keeps_doCascGroupRetry {s0 : State} {g : Nat} {s : State} (h1 : Keeps s0 s) :
    Keeps s0 (doCascGroupRetry g s) := by
  unfold doCascGroupRetry
  with_reducible repeat' first
    | assumption
    | apply keeps_trainGroup
    | split

theorem keeps_doLaneEqualisationDone {s0 : State} {g : Nat} {s : State} (h1 : Keeps s0 s) :
    Keeps s0 (doLaneEqualisationDone g s) := by
  unfold doLaneEqualisationDone
  with_reducible repeat' first
    | assumption
    | apply keeps_modGroup
    | split

theorem keeps_doHelloSend {s0 : State} {g : Nat} {s : State} (h1 : Keeps s0 s) :
    Keeps s0 (doHelloSend g s) := by
  unfold doHelloSend
  with_reducible repeat' first
    | assumption
    | apply keeps_sendCtl
    | split

theorem keeps_wrongPeer {s0 : State} {s : State} {g : Nat} (h0 : Keeps s0 s) :
    Keeps s0 (State.wrongPeer s g) := by
  unfold State.wrongPeer
  with_reducible repeat' first
    | assumption
    | apply keeps_groupEvent
    | apply keeps_modGroup
    | (extract_lets +onlyGivenNames x; clear_value x)
    | split

theorem keeps_doHello {s0 : State} {g : Nat} {fedId : Nat} {module : Nat} {credits : List Nat} {s : State} (h4 : Keeps s0 s) :
    Keeps s0 (doHello g fedId module credits s) := by
  unfold doHello
  with_reducible repeat' first
    | assumption
    | apply keeps_wrongPeer
    | apply keeps_modGroup
    | apply keeps_modCells
    | apply keeps_sendCtl
    | (extract_lets +onlyGivenNames x; refine Keeps.cut (s := s0) (x := x) ?_ (fun hx => ?_); rotate_left; clear_value x; rotate_right; unfold x; clear x)
    | (extract_lets +onlyGivenNames x; clear_value x)
    | split

theorem keeps_doHelloAck {s0 : State} {g : Nat} {fedId : Nat} {module : Nat} {s : State} (h3 : Keeps s0 s) :
    Keeps s0 (doHelloAck g fedId module s) := by
  unfold doHelloAck
  with_reducible repeat' first
    | assumption
    | apply keeps_groupIsUp
    | apply keeps_wrongPeer
    | split

theorem keeps_askRetry {s0 : State} {s : State} {g : Nat} (h0 : Keeps s0 s) :
    Keeps s0 (State.askRetry s g) := by
  unfold State.askRetry
  with_reducible repeat' first
    | assumption
    | apply keeps_sendCtl
    | apply keeps_modCells

theorem keeps_discardCell {s0 : State} {s : State} {g : Nat} {src : Nat} (h0 : Keeps s0 s) :
    Keeps s0 (State.discardCell s g src) := by
  unfold State.discardCell
  with_reducible repeat' first
    | assumption
    | apply keeps_occur
    | apply keeps_askRetry
    | (extract_lets +onlyGivenNames x; refine Keeps.cut (s := s0) (x := x) ?_ (fun hx => ?_); rotate_left; clear_value x; rotate_right; unfold x; clear x)
    | split

theorem keeps_doCellRx {s0 : State} {g : Nat} {cell : Cell} {s : State} (h2 : Keeps s0 s) :
    Keeps s0 (doCellRx g cell s) := by
  unfold doCellRx
  with_reducible repeat' first
    | assumption
    | apply keeps_discardCell
    | apply keeps_modCells
    | apply keeps_modGroup
    | (extract_lets +onlyGivenNames x; refine Keeps.cut (s := s0) (x := x) ?_ (fun hx => ?_); rotate_left; clear_value x; rotate_right; unfold x; clear x)
    | (extract_lets +onlyGivenNames x; clear_value x)
    | split

theorem keeps_doRetryRepeat {s0 : State} {g : Nat} {s : State} (h1 : Keeps s0 s) :
    Keeps s0 (doRetryRepeat g s) := by
  unfold doRetryRepeat
  with_reducible repeat' first
    | assumption
    | apply keeps_askRetry
    | split

theorem keeps_reinit {s0 : State} {s : State} {g : Nat} (h0 : Keeps s0 s) :
    Keeps s0 (State.reinit s g) := by
  unfold State.reinit
  with_reducible repeat' first
    | assumption
    | apply keeps_modCells
    | apply keeps_occur
    | split

theorem keeps_doRetry {s0 : State} {g : Nat} {seq : Nat} {s : State} (h2 : Keeps s0 s) :
    Keeps s0 (doRetry g seq s) := by
  unfold doRetry
  with_reducible repeat' first
    | assumption
    | apply keeps_modGroup
    | apply keeps_reinit
    | (extract_lets +onlyGivenNames x; clear_value x)
    | split

theorem keeps_startWake {s0 : State} {s : State} {g : Nat} (h0 : Keeps s0 s) :
    Keeps s0 (State.startWake s g) := by
  unfold State.startWake
  with_reducible repeat' first
    | assumption
    | apply keeps_sendCtl
    | apply keeps_modGroup

theorem keeps_lanesFail {s0 : State} {s : State} {g : Nat} {lanes : List Nat} (h0 : Keeps s0 s) :
    Keeps s0 (State.lanesFail s g lanes) := by
  unfold State.lanesFail
  with_reducible repeat' first
    | assumption
    | apply keeps_modGroup
    | apply keeps_postAll
    | apply keeps_groupDown
    | apply keeps_sendCtl
    | (extract_lets +onlyGivenNames x; refine Keeps.cut (s := s0) (x := x) ?_ (fun hx => ?_); rotate_left; clear_value x; rotate_right; unfold x; clear x)
    | (extract_lets +onlyGivenNames x; clear_value x)
    | refine Keeps.foldl (fun x a hx => ?_) ?_
    | split

theorem keeps_widthNow {s0 : State} {s : State} {g : Nat} (h0 : Keeps s0 s) :
    Keeps s0 (State.widthNow s g) := by
  unfold State.widthNow
  with_reducible repeat' first
    | assumption
    | apply keeps_modGroup
    | apply keeps_occur
    | apply keeps_lanesFail
    | apply keeps_startWake
    | (extract_lets +onlyGivenNames x; refine Keeps.cut (s := s0) (x := x) ?_ (fun hx => ?_); rotate_left; clear_value x; rotate_right; unfold x; clear x)
    | (extract_lets +onlyGivenNames x; clear_value x)
    | split

theorem keeps_doCellTx {s0 : State} {g : Nat} {s : State} (h1 : Keeps s0 s) :
    Keeps s0 (doCellTx g s) := by
  unfold doCellTx
  with_reducible repeat' first
    | assumption
    | apply keeps_widthNow
    | apply keeps_modGroup
    | apply keeps_modCells
    | (extract_lets +onlyGivenNames x; refine Keeps.cut (s := s0) (x := x) ?_ (fun hx => ?_); rotate_left; clear_value x; rotate_right; unfold x; clear x)
    | (extract_lets +onlyGivenNames x; clear_value x)
    | split

theorem keeps_wakeCheck {s0 : State} {s : State} {g : Nat} (h0 : Keeps s0 s) :
    Keeps s0 (State.wakeCheck s g) := by
  unfold State.wakeCheck
  with_reducible repeat' first
    | assumption
    | apply keeps_modGroup
    | apply keeps_startWake
    | (extract_lets +onlyGivenNames x; clear_value x)
    | split

theorem keeps_doHeartbeatSend {s0 : State} {g : Nat} {s : State} (h1 : Keeps s0 s) :
    Keeps s0 (doHeartbeatSend g s) := by
  unfold doHeartbeatSend
  with_reducible repeat' first
    | assumption
    | apply keeps_modGroup
    | apply keeps_sendCtl
    | apply keeps_wakeCheck
    | (extract_lets +onlyGivenNames x; refine Keeps.cut (s := s0) (x := x) ?_ (fun hx => ?_); rotate_left; clear_value x; rotate_right; unfold x; clear x)
    | (extract_lets +onlyGivenNames x; clear_value x)
    | split

theorem keeps_doHeartbeat {s0 : State} {g : Nat} {hb : Heartbeat} {s : State} (h2 : Keeps s0 s) :
    Keeps s0 (doHeartbeat g hb s) := by
  unfold doHeartbeat
  with_reducible repeat' first
    | assumption
    | apply keeps_modGroup
    | apply keeps_shadowApplied
    | (extract_lets +onlyGivenNames x; refine Keeps.cut (s := s0) (x := x) ?_ (fun hx => ?_); rotate_left; clear_value x; rotate_right; unfold x; clear x)
    | (extract_lets +onlyGivenNames x; clear_value x)
    | split

theorem keeps_doShedWindowClose {s0 : State} {g : Nat} {s : State} (h1 : Keeps s0 s) :
    Keeps s0 (doShedWindowClose g s) := by
  unfold doShedWindowClose
  with_reducible repeat' first
    | assumption
    | apply keeps_modGroup
    | apply keeps_sendCtl
    | (extract_lets +onlyGivenNames x; refine Keeps.cut (s := s0) (x := x) ?_ (fun hx => ?_); rotate_left; clear_value x; rotate_right; unfold x; clear x)
    | (extract_lets +onlyGivenNames x; clear_value x)
    | split

theorem keeps_narrow {s0 : State} {s : State} {g : Nat} {op : Nat} {mask : Nat} (h0 : Keeps s0 s) :
    Keeps s0 (State.narrow s g op mask) := by
  unfold State.narrow
  with_reducible repeat' first
    | assumption
    | apply keeps_sendCtl
    | apply keeps_modGroup

theorem keeps_doShedReq {s0 : State} {g : Nat} {mask : Nat} {force : Bool} {s : State} (h3 : Keeps s0 s) :
    Keeps s0 (doShedReq g mask force s) := by
  unfold doShedReq
  with_reducible repeat' first
    | assumption
    | apply keeps_narrow
    | apply keeps_modGroup
    | apply keeps_sendCtl
    | (extract_lets +onlyGivenNames x; refine Keeps.cut (s := s0) (x := x) ?_ (fun hx => ?_); rotate_left; clear_value x; rotate_right; unfold x; clear x)
    | (extract_lets +onlyGivenNames x; clear_value x)
    | split

theorem keeps_doShedAck {s0 : State} {g : Nat} {mask : Nat} {atSeq : Nat} {s : State} (h3 : Keeps s0 s) :
    Keeps s0 (doShedAck g mask atSeq s) := by
  unfold doShedAck
  with_reducible repeat' first
    | assumption
    | apply keeps_modGroup
    | apply keeps_narrow
    | (extract_lets +onlyGivenNames x; refine Keeps.cut (s := s0) (x := x) ?_ (fun hx => ?_); rotate_left; clear_value x; rotate_right; unfold x; clear x)
    | (extract_lets +onlyGivenNames x; clear_value x)
    | split

theorem keeps_doWidthCommit {s0 : State} {g : Nat} {mask : Nat} {atSeq : Nat} {s : State} (h3 : Keeps s0 s) :
    Keeps s0 (doWidthCommit g mask atSeq s) := by
  unfold doWidthCommit
  with_reducible repeat' first
    | assumption
    | apply keeps_modGroup
    | split

theorem keeps_doWakeReq {s0 : State} {g : Nat} {mask : Nat} {s : State} (h2 : Keeps s0 s) :
    Keeps s0 (doWakeReq g mask s) := by
  unfold doWakeReq
  with_reducible repeat' first
    | assumption
    | apply keeps_modGroup
    | split

theorem keeps_doWakeLanesLocked {s0 : State} {g : Nat} {s : State} (h1 : Keeps s0 s) :
    Keeps s0 (doWakeLanesLocked g s) := by
  unfold doWakeLanesLocked
  with_reducible repeat' first
    | assumption
    | apply keeps_sendCtl
    | split

theorem keeps_doWakeAck {s0 : State} {g : Nat} {mask : Nat} {s : State} (h2 : Keeps s0 s) :
    Keeps s0 (doWakeAck g mask s) := by
  unfold doWakeAck
  with_reducible repeat' first
    | assumption
    | apply keeps_draw
    | apply keeps_sendCtl
    | apply keeps_modGroup
    | (extract_lets +onlyGivenNames x; refine Keeps.cut (s := s0) (x := x.2) ?_ (fun hx => ?_); rotate_left; clear_value x; rotate_right; unfold x; clear x)
    | (extract_lets +onlyGivenNames x; clear_value x)
    | split

theorem keeps_doLaneFail {s0 : State} {g : Nat} {lane : Nat} {s : State} (h2 : Keeps s0 s) :
    Keeps s0 (doLaneFail g lane s) := by
  unfold doLaneFail
  with_reducible repeat' first
    | assumption
    | apply keeps_lanesFail
    | split

theorem keeps_laneGood {s0 : State} {s : State} {g : Nat} {lane : Nat} (h0 : Keeps s0 s) :
    Keeps s0 (State.laneGood s g lane) := by
  unfold State.laneGood
  with_reducible repeat' first
    | assumption
    | apply keeps_postAll
    | apply keeps_modGroup

theorem keeps_doLaneReturn {s0 : State} {g : Nat} {lane : Nat} {s : State} (h2 : Keeps s0 s) :
    Keeps s0 (doLaneReturn g lane s) := by
  unfold doLaneReturn
  with_reducible repeat' first
    | assumption
    | apply keeps_laneGood
    | apply keeps_startWake
    | apply keeps_lanesLoaded
    | apply keeps_modGroup
    | (extract_lets +onlyGivenNames x; refine Keeps.cut (s := s0) (x := x) ?_ (fun hx => ?_); rotate_left; clear_value x; rotate_right; unfold x; clear x)
    | (extract_lets +onlyGivenNames x; clear_value x)
    | split

theorem keeps_groupFirmware {s0 : State} {s : State} {g : Nat} (h0 : Keeps s0 s) :
    Keeps s0 (State.groupFirmware s g) := by
  unfold State.groupFirmware
  with_reducible repeat' first
    | assumption
    | apply keeps_modGroup
    | apply keeps_lanesFail
    | (extract_lets +onlyGivenNames x; refine Keeps.cut (s := s0) (x := x) ?_ (fun hx => ?_); rotate_left; clear_value x; rotate_right; unfold x; clear x)
    | split

theorem keeps_doCascMediaRx {s0 : State} {g : Nat} {f : Flow5} {c : IpChecks} {ipLen : Nat} {p : Payload} {s : State} (h5 : Keeps s0 s) :
    Keeps s0 (doCascMediaRx g f c ipLen p s) := by
  unfold doCascMediaRx
  with_reducible repeat' first
    | assumption
    | apply keeps_ipRx
    | (extract_lets +onlyGivenNames x; clear_value x)
    | split

theorem keeps_groupOff {s0 : State} {s : State} {g : Nat} (h0 : Keeps s0 s) :
    Keeps s0 (State.groupOff s g) := by
  unfold State.groupOff
  with_reducible repeat' first
    | assumption
    | apply keeps_serdes
    | apply keeps_modGroup

theorem keeps_doCascGroup {s0 : State} {ch : Nat} {s : State} (h1 : Keeps s0 s) :
    Keeps s0 (doCascGroup ch s) := by
  unfold doCascGroup
  with_reducible repeat' first
    | assumption
    | refine keeps_runCmd ?_ (fun c x hx => ?_)
    | refine keeps_startLong ?_ (fun n x hx => ?_)
    | apply keeps_serdes
    | apply keeps_modGroup
    | apply keeps_trainGroup
    | apply keeps_ok
    | apply keeps_groupEvent
    | apply keeps_groupOff
    | apply keeps_wakeCheck
    | apply keeps_okWords
    | (extract_lets +onlyGivenNames x; refine Keeps.cut (s := s0) (x := x) ?_ (fun hx => ?_); rotate_left; clear_value x; rotate_right; unfold x; clear x)
    | (extract_lets +onlyGivenNames x; clear_value x)
    | refine KeepsR.checks ?_
    | split

theorem keeps_doCascGroupEnableComplete {s0 : State} {g : Nat} {up : Bool} {s : State} (h2 : Keeps s0 s) :
    Keeps s0 (doCascGroupEnableComplete g up s) := by
  unfold doCascGroupEnableComplete
  with_reducible repeat' first
    | assumption
    | apply keeps_opDone
    | (extract_lets +onlyGivenNames x; clear_value x)
    | split

theorem keeps_doCascPeer {s0 : State} {ch : Nat} {s : State} (h1 : Keeps s0 s) :
    Keeps s0 (doCascPeer ch s) := by
  unfold doCascPeer
  with_reducible repeat' first
    | assumption
    | (show _ = _; rfl)
    | refine keeps_runCmd ?_ (fun c x hx => ?_)
    | apply keeps_ok
    | (extract_lets +onlyGivenNames x; clear_value x)
    | refine KeepsR.checks ?_
    | split
    | refine Keeps.mk' _ ?_ ?_

theorem keeps_modKeys {s0 : State} {s : State} {leg : Nat} {g : LegKeys → LegKeys} (h0 : Keeps s0 s) :
    Keeps s0 (State.modKeys s leg g) := by
  unfold State.modKeys
  with_reducible repeat' first
    | assumption
    | apply keeps_modLeg

theorem keeps_doKeyInstall {s0 : State} {ch : Nat} {s : State} (h1 : Keeps s0 s) :
    Keeps s0 (doKeyInstall ch s) := by
  unfold doKeyInstall
  with_reducible repeat' first
    | assumption
    | refine keeps_runCmd ?_ (fun c x hx => ?_)
    | apply keeps_modKeys
    | apply keeps_ok
    | apply keeps_rekeyed
    | (extract_lets +onlyGivenNames x; refine Keeps.cut (s := s0) (x := x) ?_ (fun hx => ?_); rotate_left; clear_value x; rotate_right; unfold x; clear x)
    | (extract_lets +onlyGivenNames x; clear_value x)
    | refine KeepsR.checks ?_

theorem keeps_retireKey {s0 : State} {s : State} {leg : Nat} {send : Bool} {next : Bool} (h0 : Keeps s0 s) :
    Keeps s0 (State.retireKey s leg send next) := by
  unfold State.retireKey
  with_reducible repeat' first
    | assumption
    | apply keeps_modKeys
    | apply keeps_stopTimer
    | (extract_lets +onlyGivenNames x; refine Keeps.cut (s := s0) (x := x) ?_ (fun hx => ?_); rotate_left; clear_value x; rotate_right; unfold x; clear x)
    | split

theorem keeps_doKeyRetire {s0 : State} {ch : Nat} {s : State} (h1 : Keeps s0 s) :
    Keeps s0 (doKeyRetire ch s) := by
  unfold doKeyRetire
  with_reducible repeat' first
    | assumption
    | refine keeps_runCmd ?_ (fun c x hx => ?_)
    | apply keeps_ok
    | apply keeps_rekeyed
    | apply keeps_retireKey
    | (extract_lets +onlyGivenNames x; clear_value x)
    | refine KeepsR.checks ?_

theorem keeps_wipePage {s0 : State} {s : State} {tenant : Nat} (h0 : Keeps s0 s) :
    Keeps s0 (State.wipePage s tenant) := by
  unfold State.wipePage
  with_reducible repeat' first
    | assumption
    | (show _ = _; rfl)
    | apply keeps_occurN
    | refine Keeps.mk' _ ?_ ?_

theorem keeps_wipeLeg {s0 : State} {s : State} {leg : Nat} (h0 : Keeps s0 s) :
    Keeps s0 (State.wipeLeg s leg) := by
  unfold State.wipeLeg
  with_reducible repeat' first
    | assumption
    | apply keeps_rekeyed
    | apply keeps_retireKey

theorem keeps_doKeyPage {s0 : State} {ch : Nat} {s : State} (h1 : Keeps s0 s) :
    Keeps s0 (doKeyPage ch s) := by
  unfold doKeyPage
  with_reducible repeat' first
    | assumption
    | (show _ = _; rfl)
    | refine keeps_runCmd ?_ (fun c x hx => ?_)
    | apply keeps_ok
    | apply keeps_okWords
    | apply keeps_wipePage
    | apply keeps_wipeLeg
    | (extract_lets +onlyGivenNames x; clear_value x)
    | refine Keeps.foldl (fun x a hx => ?_) ?_
    | refine KeepsR.checks ?_
    | split
    | refine Keeps.mk' _ ?_ ?_

theorem keeps_doKeyContextFree {s0 : State} {leg : Nat} {s : State} (h1 : Keeps s0 s) :
    Keeps s0 (doKeyContextFree leg s) := by
  unfold doKeyContextFree
  with_reducible repeat' first
    | assumption
    | (show _ = _; rfl)
    | split
    | refine Keeps.mk' _ ?_ ?_

theorem keeps_doRxFallbackEnd {s0 : State} {leg : Nat} {s : State} (h1 : Keeps s0 s) :
    Keeps s0 (doRxFallbackEnd leg s) := by
  unfold doRxFallbackEnd
  with_reducible repeat' first
    | assumption
    | apply keeps_modKeys
    | split

theorem keeps_rxRoll {s0 : State} {s : State} {leg : Nat} (h0 : Keeps s0 s) :
    Keeps s0 (State.rxRoll s leg) := by
  unfold State.rxRoll
  with_reducible repeat' first
    | assumption
    | apply keeps_modKeys
    | apply keeps_postLeg
    | apply keeps_setTimer

theorem keeps_txRoll {s0 : State} {s : State} {leg : Nat} (h0 : Keeps s0 s) :
    Keeps s0 (State.txRoll s leg) := by
  unfold State.txRoll
  with_reducible repeat' first
    | assumption
    | apply keeps_postLeg
    | apply keeps_modKeys
    | split

theorem keeps_keyRefuse {s0 : State} {s : State} {leg : Nat} (h0 : Keeps s0 s) :
    Keeps s0 (State.keyRefuse s leg) := by
  unfold State.keyRefuse
  with_reducible repeat' first
    | assumption
    | apply keeps_occur

theorem keeps_refuseIndex {s0 : State} {s : State} {leg : Nat} {code : Nat} {ssrc : Nat} {i : Nat} (h0 : Keeps s0 s) :
    Keeps s0 (State.refuseIndex s leg code ssrc i) := by
  unfold State.refuseIndex
  with_reducible repeat' first
    | assumption
    | apply keeps_postLeg
    | apply keeps_modKeys
    | apply keeps_keyRefuse

theorem keeps_useIndex {s0 : State} {s : State} {leg : Nat} {rtcp : Bool} {ssrc : Nat} {i : Nat} (h0 : Keeps s0 s) :
    Keeps s0 (State.useIndex s leg rtcp ssrc i) := by
  unfold State.useIndex
  with_reducible repeat' first
    | assumption
    | apply keeps_modKeys
    | apply keeps_postLeg
    | (extract_lets +onlyGivenNames x; refine Keeps.cut (s := s0) (x := x) ?_ (fun hx => ?_); rotate_left; clear_value x; rotate_right; unfold x; clear x)
    | (extract_lets +onlyGivenNames x; clear_value x)
    | split

theorem keeps_modCipher {s0 : State} {s : State} {e : Nat} {g : CipherEng → CipherEng} (h0 : Keeps s0 s) :
    Keeps s0 (State.modCipher s e g) := by
  unfold State.modCipher
  with_reducible repeat' first
    | assumption
    | (show _ = _; rfl)
    | refine Keeps.mk' _ ?_ ?_

theorem keeps_bindGang {s0 : State} {s : State} {tenant : Nat} {es : List Nat} (h0 : Keeps s0 s) :
    Keeps s0 (State.bindGang s tenant es) := by
  unfold State.bindGang
  with_reducible repeat' first
    | assumption
    | apply keeps_modCipher
    | apply keeps_occur
    | (extract_lets +onlyGivenNames x; refine Keeps.cut (s := s0) (x := x) ?_ (fun hx => ?_); rotate_left; clear_value x; rotate_right; unfold x; clear x)
    | (extract_lets +onlyGivenNames x; clear_value x)
    | refine Keeps.foldl (fun x a hx => ?_) ?_
    | split

theorem keeps_cipherOffline {s0 : State} {s : State} {e : Nat} {cause : Nat} (h0 : Keeps s0 s) :
    Keeps s0 (State.cipherOffline s e cause) := by
  unfold State.cipherOffline
  with_reducible repeat' first
    | assumption
    | apply keeps_modCipher
    | apply keeps_postAll

theorem keeps_cipherMismatch {s0 : State} {s : State} {e : Nat} (h0 : Keeps s0 s) :
    Keeps s0 (State.cipherMismatch s e) := by
  unfold State.cipherMismatch
  with_reducible repeat' first
    | assumption
    | apply keeps_modCipher
    | apply keeps_cipherOffline
    | (extract_lets +onlyGivenNames x; refine Keeps.cut (s := s0) (x := x) ?_ (fun hx => ?_); rotate_left; clear_value x; rotate_right; unfold x; clear x)
    | (extract_lets +onlyGivenNames x; clear_value x)
    | split

/-- The state that a packet's passage through the farm leaves, where it leaves one. -/
def CipherOut.Keeps (s0 : State) : CipherOut → Prop
  | .released s => Sys2Proof.Machine.Keeps s0 s
  | .dropped s => Sys2Proof.Machine.Keeps s0 s
  | .waits => True

theorem keeps_cipherPass {s0 : State} {s : State} {half tenant n : Nat} {r : CipherRun} (h : Keeps s0 s) :
    (s.cipherPass half tenant n r).Keeps s0 := by
  unfold State.cipherPass
  split
  · exact trivial
  · extract_lets +onlyGivenNames o s1 bad refused
    have h1 : Keeps s0 s1 := keeps_bindGang h
    clear_value s1
    split
    · exact h1
    · extract_lets +onlyGivenNames s2 s3 s4 retry
      have h2 : Keeps s0 s2 := by
        unfold s2; clear_value refused; split
        · exact keeps_cipherOffline (keeps_occur h1)
        · exact h1
      clear_value s2
      have h3 : Keeps s0 s3 := by
        unfold s3; split
        · exact h2
        · exact keeps_occur h2
      clear_value s3
      have h4 : Keeps s0 s4 := Keeps.foldl (fun x a hx => keeps_cipherMismatch hx) h3
      clear_value s4
      split
      · exact trivial
      · extract_lets +onlyGivenNames s5 bad2
        have h5 : Keeps s0 s5 := keeps_bindGang h4
        clear_value s5 bad2
        split
        · exact h5
        · extract_lets +onlyGivenNames s6 s7
          exact Keeps.foldl (fun x a hx => keeps_cipherMismatch hx) (keeps_postAll (keeps_occur (keeps_occur h5)))

theorem keeps_cipherPass_released {s0 : State} {s : State} {half tenant n : Nat} {r : CipherRun} {t : State} (h : Keeps s0 s)
    (e : s.cipherPass half tenant n r = .released t) : Keeps s0 t := by
  have := keeps_cipherPass (half := half) (tenant := tenant) (n := n) (r := r) h; rw [e] at this; exact this

theorem keeps_cipherPass_dropped {s0 : State} {s : State} {half tenant n : Nat} {r : CipherRun} {t : State} (h : Keeps s0 s)
    (e : s.cipherPass half tenant n r = .dropped t) : Keeps s0 t := by
  have := keeps_cipherPass (half := half) (tenant := tenant) (n := n) (r := r) h; rw [e] at this; exact this

theorem keeps_doCipherKat {s0 : State} {engine : Nat} {pass : Bool} {s : State} (h2 : Keeps s0 s) :
    Keeps s0 (doCipherKat engine pass s) := by
  unfold doCipherKat
  with_reducible repeat' first
    | assumption
    | apply keeps_modCipher
    | apply keeps_cipherOffline
    | split

theorem keeps_doCoreBundle {s0 : State} {core : Nat} {b : Bundle} {s : State} (h2 : Keeps s0 s) :
    Keeps s0 (doCoreBundle core b s) := by
  unfold doCoreBundle
  with_reducible repeat' first
    | assumption
    | (show _ = _; rfl)
    | apply keeps_modCore
    | apply keeps_occurN
    | (extract_lets +onlyGivenNames x; refine Keeps.cut (s := s0) (x := x) ?_ (fun hx => ?_); rotate_left; clear_value x; rotate_right; unfold x; clear x)
    | (extract_lets +onlyGivenNames x; clear_value x)
    | split
    | refine Keeps.mk' _ ?_ ?_

theorem keeps_doCoreInterrupt {s0 : State} {core : Nat} {kind : CoreInt} {handler : Nat} {s : State} (h3 : Keeps s0 s) :
    Keeps s0 (doCoreInterrupt core kind handler s) := by
  unfold doCoreInterrupt
  with_reducible repeat' first
    | assumption
    | apply keeps_modCore
    | (extract_lets +onlyGivenNames x; clear_value x)
    | split

theorem keeps_dmodeEvent {s0 : State} {s : State} {cl : Nat} {split : Bool} (h0 : Keeps s0 s) :
    Keeps s0 (State.dmodeEvent s cl split) := by
  unfold State.dmodeEvent
  with_reducible repeat' first
    | assumption
    | apply keeps_postAll
    | apply keeps_modRail
    | (extract_lets +onlyGivenNames x; clear_value x)
    | split

theorem keeps_switchMode {s0 : State} {s : State} {cl : Nat} {split : Bool} (h0 : Keeps s0 s) :
    Keeps s0 (State.switchMode s cl split) := by
  unfold State.switchMode
  with_reducible repeat' first
    | assumption
    | apply keeps_modCore
    | apply keeps_dmodeEvent
    | apply keeps_modRail
    | refine Keeps.foldl (fun x a hx => ?_) ?_

theorem keeps_doDmodeSwitch {s0 : State} {cl : Nat} {split : Bool} {s : State} (h2 : Keeps s0 s) :
    Keeps s0 (doDmodeSwitch cl split s) := by
  unfold doDmodeSwitch
  with_reducible repeat' first
    | assumption
    | apply keeps_switchMode
    | (extract_lets +onlyGivenNames x; clear_value x)
    | split

theorem keeps_protect {s0 : State} {s : State} {p : OutPkt} {words : List Nat} {i : Nat} (h0 : Keeps s0 s) :
    Keeps s0 (State.protect s p words i) := by
  unfold State.protect
  with_reducible repeat' first
    | assumption
    | apply keeps_useIndex
    | apply keeps_modLeg
    | apply keeps_enqueueLeg
    | (extract_lets +onlyGivenNames x; refine Keeps.cut (s := s0) (x := x) ?_ (fun hx => ?_); rotate_left; clear_value x; rotate_right; unfold x; clear x)
    | (extract_lets +onlyGivenNames x; clear_value x)
    | split

theorem keeps_encryptOne {s0 : State} {t : State} {back : State} {p : OutPkt} {run : CipherRun} (h0 : Keeps s0 t) (h1 : Keeps s0 back) :
    Keeps s0 (State.encryptOne t back p run) := by
  unfold State.encryptOne
  with_reducible repeat' first
    | assumption
    | apply keeps_txRoll
    | apply keeps_keyRefuse
    | apply keeps_occur
    | apply keeps_refuseIndex
    | refine keeps_cipherPass_released ?_ (by assumption)
    | refine keeps_cipherPass_dropped ?_ (by assumption)
    | apply keeps_protect
    | (extract_lets +onlyGivenNames x; refine Keeps.cut (s := s0) (x := x) ?_ (fun hx => ?_); rotate_left; clear_value x; rotate_right; unfold x; clear x)
    | (extract_lets +onlyGivenNames x; clear_value x)
    | split

theorem keeps_doSrtpEncrypt {s0 : State} {run : CipherRun} {s : State} (h1 : Keeps s0 s) :
    Keeps s0 (doSrtpEncrypt run s) := by
  unfold doSrtpEncrypt
  with_reducible repeat' first
    | assumption
    | (show _ = _; rfl)
    | apply keeps_occur
    | apply keeps_encryptOne
    | (extract_lets +onlyGivenNames x; refine Keeps.cut (s := s0) (x := x) ?_ (fun hx => ?_); rotate_left; clear_value x; rotate_right; unfold x; clear x)
    | split
    | refine Keeps.mk' _ ?_ ?_

theorem keeps_modSurfaces {s0 : State} {s : State} {p : Producer} {g : List Surface → List Surface} (h0 : Keeps s0 s) :
    Keeps s0 (State.modSurfaces s p g) := by
  unfold State.modSurfaces
  with_reducible repeat' first
    | assumption
    | (show _ = _; rfl)
    | split
    | refine Keeps.mk' _ ?_ ?_

theorem keeps_holdSurf {s0 : State} {s : State} {p : Producer} {seq : Nat} {reader : Nat} (h0 : Keeps s0 s) :
    Keeps s0 (State.holdSurf s p seq reader) := by
  unfold State.holdSurf
  with_reducible repeat' first
    | assumption
    | apply keeps_modSurfaces

theorem keeps_dropSurf {s0 : State} {s : State} {p : Producer} {reader : Nat} (h0 : Keeps s0 s) :
    Keeps s0 (State.dropSurf s p reader) := by
  unfold State.dropSurf
  with_reducible repeat' first
    | assumption
    | apply keeps_modSurfaces

theorem keeps_dropReader {s0 : State} {s : State} {reader : Nat} (h0 : Keeps s0 s) :
    Keeps s0 (State.dropReader s reader) := by
  unfold State.dropReader
  with_reducible repeat' first
    | assumption
    | (show _ = _; rfl)
    | (extract_lets +onlyGivenNames x; clear_value x)
    | refine Keeps.mk' _ ?_ ?_

theorem keeps_fwdEstimator {s0 : State} {c : Ctx} {s : State} {leg : Nat} {objs : List (Bool × Nat × Nat)} (h1 : Keeps s0 s) :
    KeepsR s0 (fwdEstimator c s leg objs) := by
  unfold fwdEstimator
  with_reducible repeat' first
    | assumption
    | apply keeps_ok
    | apply keeps_modLeg
    | (extract_lets +onlyGivenNames x; clear_value x)
    | refine KeepsR.checks ?_

theorem keeps_fwdTransport {s0 : State} {c : Ctx} {s : State} {leg : Nat} {objs : List (Bool × Nat × Nat)} (h1 : Keeps s0 s) :
    KeepsR s0 (fwdTransport c s leg objs) := by
  unfold fwdTransport
  with_reducible repeat' first
    | assumption
    | apply keeps_modLeg
    | refine keeps_withFlows ?_ (fun x hx => ?_)
    | apply keeps_ok
    | (extract_lets +onlyGivenNames x; refine Keeps.cut (s := s0) (x := x) ?_ (fun hx => ?_); rotate_left; clear_value x; rotate_right; unfold x; clear x)
    | (extract_lets +onlyGivenNames x; clear_value x)
    | refine KeepsR.checks ?_

theorem keeps_resubscribe {s0 : State} {s : State} {leg : Nat} {track : Nat} (h0 : Keeps s0 s) :
    Keeps s0 (State.resubscribe s leg track) := by
  unfold State.resubscribe
  with_reducible repeat' first
    | assumption
    | apply keeps_waitKey
    | refine Keeps.foldl (fun x a hx => ?_) ?_

theorem keeps_fwdTrack {s0 : State} {c : Ctx} {s : State} {leg : Nat} {objs : List (Bool × Nat × Nat)} (h1 : Keeps s0 s) :
    KeepsR s0 (fwdTrack c s leg objs) := by
  unfold fwdTrack
  with_reducible repeat' first
    | assumption
    | refine keeps_withFlows ?_ (fun x hx => ?_)
    | apply keeps_modLeg
    | apply keeps_ok
    | apply keeps_resubscribe
    | (extract_lets +onlyGivenNames x; clear_value x)
    | refine KeepsR.checks ?_
    | split

theorem keeps_fwdRemove {s0 : State} {c : Ctx} {s : State} {leg : Nat} {objs : List (Bool × Nat × Nat)} (h1 : Keeps s0 s) :
    KeepsR s0 (fwdRemove c s leg objs) := by
  unfold fwdRemove
  with_reducible repeat' first
    | assumption
    | refine keeps_withFlows ?_ (fun x hx => ?_)
    | apply keeps_modLeg
    | apply keeps_sourceLost
    | apply keeps_ok
    | (extract_lets +onlyGivenNames x; clear_value x)
    | refine KeepsR.checks ?_

theorem keeps_doFwdPolicy {s0 : State} {ch : Nat} {s : State} (h1 : Keeps s0 s) :
    Keeps s0 (doFwdPolicy ch s) := by
  unfold doFwdPolicy
  with_reducible repeat' first
    | assumption
    | refine keeps_runCmd ?_ (fun c x hx => ?_)
    | apply keeps_fwdEstimator
    | apply keeps_fwdTransport
    | apply keeps_fwdTrack
    | apply keeps_fwdRemove
    | apply keeps_ok
    | apply keeps_modLeg
    | (extract_lets +onlyGivenNames x; clear_value x)
    | refine KeepsR.checks ?_
    | split

theorem keeps_newSlot {s0 : State} {s : State} {leg : Nat} {k : Nat} {src : SlotSrc} {media : Nat} {x : SubSet} {sel : optParam Nat 3} (h0 : Keeps s0 s) :
    Keeps s0 (State.newSlot s leg k src media x sel) := by
  unfold State.newSlot
  with_reducible repeat' first
    | assumption
    | apply keeps_draw
    | apply keeps_modLeg
    | apply keeps_waitKey
    | apply keeps_bumpRoute

theorem keeps_repoint {s0 : State} {s : State} {leg : Nat} {k : Nat} {v : Slot} {src : SlotSrc} {x : SubSet} (h0 : Keeps s0 s) :
    Keeps s0 (State.repoint s leg k v src x) := by
  unfold State.repoint
  with_reducible repeat' first
    | assumption
    | apply keeps_bumpRoute
    | apply keeps_modSlot
    | apply keeps_requestKey
    | apply keeps_waitKey
    | (extract_lets +onlyGivenNames put; have this : _ → State := put; clear this)
    | unfold put
    | (extract_lets +onlyGivenNames x; refine Keeps.cut (s := s0) (x := x) ?_ (fun hx => ?_); rotate_left; clear_value x; rotate_right; unfold x; clear x)
    | (extract_lets +onlyGivenNames x; clear_value x)
    | refine Keeps.foldl (fun x a hx => ?_) ?_
    | split

theorem keeps_fwdSet {s0 : State} {s : State} {leg : Nat} {k : Nat} {old : Option Slot} {src : SlotSrc} {media : Nat} {x : SubSet} (h0 : Keeps s0 s) :
    KeepsR s0 (fwdSet s leg k old src media x) := by
  unfold fwdSet
  with_reducible repeat' first
    | assumption
    | apply keeps_okWords
    | apply keeps_newSlot
    | apply keeps_endSlot
    | apply keeps_removeSlot
    | apply keeps_repoint
    | apply keeps_modSlot
    | (extract_lets +onlyGivenNames done; have this : _ → Reply := done; clear this)
    | unfold done
    | exact KeepsR.fail
    | split

theorem keeps_fwdSubscribeSet {s0 : State} {c : Ctx} {s : State} {leg : Nat} {k : Nat} {l : Leg} (h1 : Keeps s0 s) :
    KeepsR s0 (fwdSubscribeSet c s leg k l) := by
  unfold fwdSubscribeSet
  with_reducible repeat' first
    | assumption
    | apply keeps_fwdSet
    | (extract_lets +onlyGivenNames x; clear_value x)
    | refine KeepsR.checks ?_

theorem keeps_doFwdSubscribe {s0 : State} {ch : Nat} {s : State} (h1 : Keeps s0 s) :
    Keeps s0 (doFwdSubscribe ch s) := by
  unfold doFwdSubscribe
  with_reducible repeat' first
    | assumption
    | refine keeps_runCmd ?_ (fun c x hx => ?_)
    | apply keeps_ok
    | apply keeps_settle
    | apply keeps_removeSlot
    | apply keeps_fwdSubscribeSet
    | apply keeps_okWords
    | (extract_lets +onlyGivenNames x; clear_value x)
    | exact KeepsR.fail
    | refine KeepsR.checks ?_
    | split

theorem keeps_pin {s0 : State} {s : State} {leg : Nat} {k : Nat} {mode : Nat} {sp : Nat} {tp : Nat} (h0 : Keeps s0 s) :
    Keeps s0 (State.pin s leg k mode sp tp) := by
  unfold State.pin
  with_reducible repeat' first
    | assumption
    | apply keeps_bumpRoute
    | apply keeps_modSlot
    | apply keeps_waitKey
    | apply keeps_selectLayers
    | refine Keeps.foldl (fun x a hx => ?_) ?_
    | split

theorem keeps_doFwdPin {s0 : State} {ch : Nat} {s : State} (h1 : Keeps s0 s) :
    Keeps s0 (doFwdPin ch s) := by
  unfold doFwdPin
  with_reducible repeat' first
    | assumption
    | refine keeps_runCmd ?_ (fun c x hx => ?_)
    | apply keeps_ok
    | apply keeps_pin
    | (extract_lets +onlyGivenNames x; clear_value x)
    | refine KeepsR.checks ?_

theorem keeps_vidDecCreate {s0 : State} {c : Ctx} {s : State} (h1 : Keeps s0 s) :
    KeepsR s0 (vidDecCreate c s) := by
  unfold vidDecCreate
  with_reducible repeat' first
    | assumption
    | (show _ = _; rfl)
    | refine keeps_withFlows ?_ (fun x hx => ?_)
    | apply keeps_okWords
    | (extract_lets +onlyGivenNames x; clear_value x)
    | refine KeepsR.checks ?_
    | refine Keeps.mk' _ ?_ ?_

theorem keeps_vidDecModify {s0 : State} {c : Ctx} {s : State} {id : Nat} {j : DecJob} (h1 : Keeps s0 s) :
    KeepsR s0 (vidDecModify c s id j) := by
  unfold vidDecModify
  with_reducible repeat' first
    | assumption
    | (show _ = _; rfl)
    | apply keeps_ok
    | (extract_lets +onlyGivenNames x; clear_value x)
    | refine KeepsR.checks ?_
    | split
    | refine Keeps.mk' _ ?_ ?_

theorem keeps_endDecode {s0 : State} {s : State} {id : Nat} (h0 : Keeps s0 s) :
    Keeps s0 (State.endDecode s id) := by
  unfold State.endDecode
  with_reducible repeat' first
    | assumption
    | (show _ = _; rfl)
    | apply keeps_settle
    | refine Keeps.mk' _ ?_ ?_

theorem keeps_doVidDecode {s0 : State} {ch : Nat} {s : State} (h1 : Keeps s0 s) :
    Keeps s0 (doVidDecode ch s) := by
  unfold doVidDecode
  with_reducible repeat' first
    | assumption
    | refine keeps_runCmd ?_ (fun c x hx => ?_)
    | apply keeps_vidDecCreate
    | apply keeps_vidDecModify
    | apply keeps_ok
    | apply keeps_endDecode
    | apply keeps_okWords
    | (extract_lets +onlyGivenNames x; clear_value x)
    | exact KeepsR.fail
    | refine KeepsR.checks ?_
    | split

theorem keeps_jobTrack {s0 : State} {s : State} {e : EncCfg} (h : Keeps s0 s) : Keeps s0 (s.jobTrack e).2 := keeps_draw (n := 253) h

theorem keeps_vidEncCreate {s0 : State} {c : Ctx} {s : State} {buf : BufRead} (h1 : Keeps s0 s) :
    KeepsR s0 (vidEncCreate c s buf) := by
  unfold vidEncCreate
  with_reducible repeat' first
    | assumption
    | (show _ = _; rfl)
    | apply keeps_jobTrack
    | refine keeps_withFlows ?_ (fun x hx => ?_)
    | apply keeps_okWords
    | (extract_lets +onlyGivenNames x; refine Keeps.cut (s := s0) (x := x) ?_ (fun hx => ?_); rotate_left; clear_value x; rotate_right; unfold x; clear x)
    | (extract_lets +onlyGivenNames x; refine Keeps.cut (s := s0) (x := x.2) ?_ (fun hx => ?_); rotate_left; clear_value x; rotate_right; unfold x; clear x)
    | (extract_lets +onlyGivenNames x; clear_value x)
    | refine KeepsR.checks ?_
    | refine Keeps.mk' _ ?_ ?_

theorem keeps_vidEncModify {s0 : State} {c : Ctx} {s : State} {id : Nat} {j : EncJob} (h1 : Keeps s0 s) :
    KeepsR s0 (vidEncModify c s id j) := by
  unfold vidEncModify
  with_reducible repeat' first
    | assumption
    | (show _ = _; rfl)
    | apply keeps_ok
    | (extract_lets +onlyGivenNames x; clear_value x)
    | refine KeepsR.checks ?_
    | refine Keeps.mk' _ ?_ ?_

theorem keeps_endEncode {s0 : State} {s : State} {id : Nat} (h0 : Keeps s0 s) :
    Keeps s0 (State.endEncode s id) := by
  unfold State.endEncode
  with_reducible repeat' first
    | assumption
    | (show _ = _; rfl)
    | apply keeps_removeSlots
    | apply keeps_dropReader
    | apply keeps_settle
    | refine Keeps.foldl (fun x a hx => ?_) ?_
    | refine Keeps.mk' _ ?_ ?_

theorem keeps_vidEncAttach {s0 : State} {c : Ctx} {s : State} {id : Nat} {j : EncJob} (h1 : Keeps s0 s) :
    KeepsR s0 (vidEncAttach c s id j) := by
  unfold vidEncAttach
  with_reducible repeat' first
    | assumption
    | refine keeps_withFlows ?_ (fun x hx => ?_)
    | apply keeps_newSlot
    | apply keeps_ok
    | apply keeps_modSlot
    | apply keeps_endSlot
    | apply keeps_removeSlot
    | apply keeps_repoint
    | (extract_lets +onlyGivenNames set; have this : _ → State := set; clear this)
    | unfold set
    | (extract_lets +onlyGivenNames x; refine Keeps.cut (s := s0) (x := x) ?_ (fun hx => ?_); rotate_left; clear_value x; rotate_right; unfold x; clear x)
    | (extract_lets +onlyGivenNames x; clear_value x)
    | exact KeepsR.fail
    | refine KeepsR.checks ?_
    | split

theorem keeps_vidEncDetach {s0 : State} {c : Ctx} {s : State} {id : Nat} {j : EncJob} (h1 : Keeps s0 s) :
    KeepsR s0 (vidEncDetach c s id j) := by
  unfold vidEncDetach
  with_reducible repeat' first
    | assumption
    | apply keeps_ok
    | apply keeps_settle
    | apply keeps_removeSlot
    | (extract_lets +onlyGivenNames x; clear_value x)
    | refine KeepsR.checks ?_

theorem keeps_doVidEncode {s0 : State} {ch : Nat} {buf : BufRead} {s : State} (h2 : Keeps s0 s) :
    Keeps s0 (doVidEncode ch buf s) := by
  unfold doVidEncode
  with_reducible repeat' first
    | assumption
    | refine keeps_runCmd ?_ (fun c x hx => ?_)
    | apply keeps_vidEncCreate
    | apply keeps_vidEncModify
    | apply keeps_ok
    | apply keeps_endEncode
    | apply keeps_okWords
    | apply keeps_vidEncAttach
    | apply keeps_vidEncDetach
    | (extract_lets +onlyGivenNames x; clear_value x)
    | exact KeepsR.fail
    | refine KeepsR.checks ?_
    | split

theorem keeps_doVidKeyreq {s0 : State} {ch : Nat} {s : State} (h1 : Keeps s0 s) :
    Keeps s0 (doVidKeyreq ch s) := by
  unfold doVidKeyreq
  with_reducible repeat' first
    | assumption
    | refine keeps_runCmd ?_ (fun c x hx => ?_)
    | apply keeps_jobKey
    | apply keeps_okWords
    | (extract_lets +onlyGivenNames x; refine Keeps.cut (s := s0) (x := x) ?_ (fun hx => ?_); rotate_left; clear_value x; rotate_right; unfold x; clear x)
    | (extract_lets +onlyGivenNames x; clear_value x)
    | refine Keeps.foldl (fun x a hx => ?_) ?_
    | refine KeepsR.checks ?_

theorem keeps_layCreate {s0 : State} {c : Ctx} {s : State} (h1 : Keeps s0 s) :
    KeepsR s0 (layCreate c s) := by
  unfold layCreate
  with_reducible repeat' first
    | assumption
    | (show _ = _; rfl)
    | refine keeps_withFlows ?_ (fun x hx => ?_)
    | apply keeps_okWords
    | (extract_lets +onlyGivenNames x; refine Keeps.cut (s := s0) (x := x) ?_ (fun hx => ?_); rotate_left; clear_value x; rotate_right; unfold x; clear x)
    | (extract_lets +onlyGivenNames x; clear_value x)
    | refine KeepsR.checks ?_
    | refine Keeps.mk' _ ?_ ?_

theorem keeps_layModify {s0 : State} {c : Ctx} {s : State} {id : Nat} {v : Canvas} (h1 : Keeps s0 s) :
    KeepsR s0 (layModify c s id v) := by
  unfold layModify
  with_reducible repeat' first
    | assumption
    | (show _ = _; rfl)
    | apply keeps_ok
    | (extract_lets +onlyGivenNames x; clear_value x)
    | refine KeepsR.checks ?_
    | split
    | refine Keeps.mk' _ ?_ ?_

theorem keeps_endCanvas {s0 : State} {s : State} {id : Nat} (h0 : Keeps s0 s) :
    Keeps s0 (State.endCanvas s id) := by
  unfold State.endCanvas
  with_reducible repeat' first
    | assumption
    | (show _ = _; rfl)
    | apply keeps_dropReader
    | apply keeps_settle
    | refine Keeps.foldl (fun x a hx => ?_) ?_
    | refine Keeps.mk' _ ?_ ?_

theorem keeps_laySnapshot {s0 : State} {c : Ctx} {s : State} {buf : BufRead} (h1 : Keeps s0 s) :
    KeepsR s0 (laySnapshot c s buf) := by
  unfold laySnapshot
  with_reducible repeat' first
    | assumption
    | (show _ = _; rfl)
    | apply keeps_ok
    | (extract_lets +onlyGivenNames x; clear_value x)
    | refine KeepsR.checks ?_
    | refine Keeps.mk' _ ?_ ?_

theorem keeps_doLayCanvas {s0 : State} {ch : Nat} {buf : BufRead} {s : State} (h2 : Keeps s0 s) :
    Keeps s0 (doLayCanvas ch buf s) := by
  unfold doLayCanvas
  with_reducible repeat' first
    | assumption
    | refine keeps_runCmd ?_ (fun c x hx => ?_)
    | apply keeps_layCreate
    | apply keeps_laySnapshot
    | apply keeps_layModify
    | apply keeps_ok
    | apply keeps_endCanvas
    | apply keeps_okWords
    | (extract_lets +onlyGivenNames x; clear_value x)
    | exact KeepsR.fail
    | refine KeepsR.checks ?_
    | split

theorem keeps_holdLayer {s0 : State} {s : State} {id : Nat} {n : Nat} {l : Layer} (h0 : Keeps s0 s) :
    Keeps s0 (State.holdLayer s id n l) := by
  unfold State.holdLayer
  with_reducible repeat' first
    | assumption
    | apply keeps_holdSurf
    | apply keeps_dropSurf
    | split

theorem keeps_laySet {s0 : State} {c : Ctx} {s : State} {id n : Nat} {v : Canvas} {buf : BufRead} (h : Keeps s0 s) :
    KeepsR s0 (laySet c s id n v buf) := by
  unfold laySet
  extract_lets kind src g odd still tenant old image put t
  have ht : Keeps s0 t.1 := Keeps.mk' _ rfl h
  exact KeepsR.checks (keeps_withFlows (keeps_holdLayer ht) (fun x hx => keeps_ok hx))

theorem keeps_doLayLayer {s0 : State} {ch : Nat} {buf : BufRead} {s : State} (h2 : Keeps s0 s) :
    Keeps s0 (doLayLayer ch buf s) := by
  unfold doLayLayer
  with_reducible repeat' first
    | assumption
    | (show _ = _; rfl)
    | refine keeps_runCmd ?_ (fun c x hx => ?_)
    | apply keeps_laySet
    | apply keeps_ok
    | apply keeps_settle
    | apply keeps_dropReader
    | apply keeps_okWords
    | (extract_lets +onlyGivenNames x; clear_value x)
    | exact KeepsR.fail
    | refine KeepsR.checks ?_
    | split
    | refine Keeps.mk' _ ?_ ?_

theorem keeps_doLayOrder {s0 : State} {ch : Nat} {s : State} (h1 : Keeps s0 s) :
    Keeps s0 (doLayOrder ch s) := by
  unfold doLayOrder
  with_reducible repeat' first
    | assumption
    | (show _ = _; rfl)
    | refine keeps_runCmd ?_ (fun c x hx => ?_)
    | apply keeps_ok
    | (extract_lets +onlyGivenNames x; clear_value x)
    | refine KeepsR.checks ?_
    | split
    | refine Keeps.mk' _ ?_ ?_

theorem keeps_doLayLut {s0 : State} {ch : Nat} {buf : BufRead} {s : State} (h2 : Keeps s0 s) :
    Keeps s0 (doLayLut ch buf s) := by
  unfold doLayLut
  with_reducible repeat' first
    | assumption
    | (show _ = _; rfl)
    | refine keeps_runCmd ?_ (fun c x hx => ?_)
    | apply keeps_ok
    | (extract_lets +onlyGivenNames put; have this : _ → Reply := put; clear this)
    | unfold put
    | (extract_lets +onlyGivenNames x; clear_value x)
    | refine KeepsR.checks ?_
    | split
    | refine Keeps.mk' _ ?_ ?_

theorem keeps_jobPacket {s0 : State} {s : State} {id : Nat} {layering : Nat} {tick : Nat} {p : FwdPkt} (h0 : Keeps s0 s) :
    Keeps s0 (State.jobPacket s id layering tick p) := by
  unfold State.jobPacket
  with_reducible repeat' first
    | assumption
    | (show _ = _; rfl)
    | apply keeps_occur
    | apply keeps_modDec
    | (extract_lets +onlyGivenNames x; refine Keeps.cut (s := s0) (x := x) ?_ (fun hx => ?_); rotate_left; clear_value x; rotate_right; unfold x; clear x)
    | (extract_lets +onlyGivenNames x; clear_value x)
    | split
    | refine Keeps.mk' _ ?_ ?_

theorem keeps_toJobs {s0 : State} {s : State} {leg : Nat} {gen : Nat} {track : Nat} {layering : Nat} {tick : Nat} {p : FwdPkt} (h0 : Keeps s0 s) :
    Keeps s0 (State.toJobs s leg gen track layering tick p) := by
  unfold State.toJobs
  with_reducible repeat' first
    | assumption
    | apply keeps_jobPacket
    | refine Keeps.foldl (fun x a hx => ?_) ?_

theorem keeps_dropFrames {s0 : State} {s : State} {id : Nat} {j : DecJob} (h0 : Keeps s0 s) :
    Keeps s0 (State.dropFrames s id j) := by
  unfold State.dropFrames
  with_reducible repeat' first
    | assumption
    | (show _ = _; rfl)
    | apply keeps_occur
    | apply keeps_modDec
    | (extract_lets +onlyGivenNames x; clear_value x)
    | refine Keeps.foldl (fun x a hx => ?_) ?_
    | refine Keeps.mk' _ ?_ ?_

theorem keeps_doDecodeFrameSubmit {s0 : State} {job : Nat} {isRef : Bool} {s : State} (h2 : Keeps s0 s) :
    Keeps s0 (doDecodeFrameSubmit job isRef s) := by
  unfold doDecodeFrameSubmit
  with_reducible repeat' first
    | assumption
    | apply keeps_dropFrames
    | apply keeps_modDec
    | apply keeps_modFrame
    | apply keeps_decNext
    | apply keeps_modEngine
    | (extract_lets +onlyGivenNames x; refine Keeps.cut (s := s0) (x := x) ?_ (fun hx => ?_); rotate_left; clear_value x; rotate_right; unfold x; clear x)
    | split

theorem keeps_decRefused {s0 : State} {s : State} {id : Nat} {f : DecFrame} {p : DecodedPic} {cause : Nat} (h0 : Keeps s0 s) :
    Keeps s0 (State.decRefused s id f p cause) := by
  unfold State.decRefused
  with_reducible repeat' first
    | assumption
    | apply keeps_occur
    | apply keeps_modDec
    | apply keeps_postObj
    | (extract_lets +onlyGivenNames x; refine Keeps.cut (s := s0) (x := x) ?_ (fun hx => ?_); rotate_left; clear_value x; rotate_right; unfold x; clear x)
    | (extract_lets +onlyGivenNames x; clear_value x)
    | split

theorem keeps_concealEvent {s0 : State} {s : State} {id : Nat} {bad : Bool} (h0 : Keeps s0 s) :
    Keeps s0 (State.concealEvent s id bad) := by
  unfold State.concealEvent
  with_reducible repeat' first
    | assumption
    | apply keeps_postObj
    | apply keeps_modDec
    | split

theorem keeps_decOutput {s0 : State} {s : State} {id : Nat} {j : DecJob} {p : DecodedPic} {fstat : Nat} (h0 : Keeps s0 s) :
    Keeps s0 (State.decOutput s id j p fstat) := by
  unfold State.decOutput
  with_reducible repeat' first
    | assumption
    | apply keeps_occur
    | apply keeps_modDec
    | (extract_lets +onlyGivenNames x; clear_value x)
    | split

theorem keeps_decDone {s0 : State} {s : State} {id : Nat} {j : DecJob} {f : DecFrame} {k : Nat} {p : DecodedPic} (h0 : Keeps s0 s) :
    Keeps s0 (State.decDone s id j f k p) := by
  unfold State.decDone
  with_reducible repeat' first
    | assumption
    | apply keeps_occur
    | apply keeps_decOutput
    | apply keeps_modDec
    | apply keeps_concealEvent
    | apply keeps_requestKey
    | (extract_lets +onlyGivenNames x; refine Keeps.cut (s := s0) (x := x) ?_ (fun hx => ?_); rotate_left; clear_value x; rotate_right; unfold x; clear x)
    | (extract_lets +onlyGivenNames x; clear_value x)
    | split

theorem keeps_doDecodeFrameComplete {s0 : State} {job : Nat} {pic : DecodedPic} {s : State} (h2 : Keeps s0 s) :
    Keeps s0 (doDecodeFrameComplete job pic s) := by
  unfold doDecodeFrameComplete
  with_reducible repeat' first
    | assumption
    | apply keeps_decRefused
    | apply keeps_decDone
    | apply keeps_modDec
    | apply keeps_decNext
    | apply keeps_modEngine
    | (extract_lets +onlyGivenNames x; refine Keeps.cut (s := s0) (x := x) ?_ (fun hx => ?_); rotate_left; clear_value x; rotate_right; unfold x; clear x)
    | (extract_lets +onlyGivenNames x; clear_value x)
    | split

theorem keeps_encSkip {s0 : State} {s : State} {id : Nat} {k : Nat} {cap : Bool} (h0 : Keeps s0 s) :
    Keeps s0 (State.encSkip s id k cap) := by
  unfold State.encSkip
  with_reducible repeat' first
    | assumption
    | apply keeps_modEncJob
    | apply keeps_occur
    | split

theorem keeps_encReady {s0 : State} {s : State} {id : Nat} {k : Nat} (h0 : Keeps s0 s) :
    Keeps s0 (State.encReady s id k) := by
  unfold State.encReady
  with_reducible repeat' first
    | assumption
    | apply keeps_encSkip
    | apply keeps_modEncoding
    | apply keeps_modEngine
    | (extract_lets +onlyGivenNames x; refine Keeps.cut (s := s0) (x := x) ?_ (fun hx => ?_); rotate_left; clear_value x; rotate_right; unfold x; clear x)
    | (extract_lets +onlyGivenNames x; clear_value x)
    | split

theorem keeps_encDrop {s0 : State} {s : State} {id : Nat} {k : Nat} {key : Bool} {cap : Bool} (h0 : Keeps s0 s) :
    Keeps s0 (State.encDrop s id k key cap) := by
  unfold State.encDrop
  with_reducible repeat' first
    | assumption
    | (show _ = _; rfl)
    | apply keeps_modEncoding
    | apply keeps_encSkip
    | (extract_lets +onlyGivenNames x; refine Keeps.cut (s := s0) (x := x) ?_ (fun hx => ?_); rotate_left; clear_value x; rotate_right; unfold x; clear x)
    | refine Keeps.mk' _ ?_ ?_

theorem keeps_transcodeReady {s0 : State} {s : State} {id : Nat} {k : Nat} {j : EncJob} (h0 : Keeps s0 s) :
    Keeps s0 (State.transcodeReady s id k j) := by
  unfold State.transcodeReady
  with_reducible repeat' first
    | assumption
    | apply keeps_encReady
    | (extract_lets +onlyGivenNames x; clear_value x)
    | split

theorem keeps_encGo {s0 : State} {s : State} {id : Nat} {k : Nat} {c : Nat} {i : Nat} {r : PipeRun} {header : Nat} {key : Bool} {base : Bool} {t : Nat} {b : Option Nat} {pic : Nat × (Nat × Nat) × Bool} (h0 : Keeps s0 s) :
    Keeps s0 (State.encGo s id k c i r header key base t b pic) := by
  unfold State.encGo
  with_reducible repeat' first
    | assumption
    | apply keeps_holdSurf
    | apply keeps_onPipe
    | apply keeps_modEncoding
    | (extract_lets +onlyGivenNames x; clear_value x)
    | split

theorem keeps_doEncodeFrameStart {s0 : State} {job : Nat} {enc : Nat} {header : Nat} {s : State} (h3 : Keeps s0 s) :
    Keeps s0 (doEncodeFrameStart job enc header s) := by
  unfold doEncodeFrameStart
  with_reducible repeat' first
    | assumption
    | apply keeps_transcodeReady
    | apply keeps_modEncoding
    | apply keeps_encDrop
    | apply keeps_encGo
    | (extract_lets +onlyGivenNames x; refine Keeps.cut (s := s0) (x := x) ?_ (fun hx => ?_); rotate_left; clear_value x; rotate_right; unfold x; clear x)
    | (extract_lets +onlyGivenNames x; clear_value x)
    | split

theorem keeps_jobOut {s0 : State} {s : State} {id : Nat} {k : Nat} {p : FwdPkt} (h0 : Keeps s0 s) :
    Keeps s0 (State.jobOut s id k p) := by
  unfold State.jobOut
  with_reducible repeat' first
    | assumption
    | (show _ = _; rfl)
    | apply keeps_evictFor
    | apply keeps_modSrc
    | (extract_lets +onlyGivenNames x; refine Keeps.cut (s := s0) (x := x) ?_ (fun hx => ?_); rotate_left; clear_value x; rotate_right; unfold x; clear x)
    | (extract_lets +onlyGivenNames x; clear_value x)
    | refine Keeps.mk' _ ?_ ?_

theorem keeps_sendLayer {s0 : State} {s : State} {id : Nat} {k : Nat} {c : EncCfg} {e : Encoding} {ts : Nat} {ddLen : Nat} {l : LayerOut} (h0 : Keeps s0 s) :
    Keeps s0 (State.sendLayer s id k c e ts ddLen l) := by
  unfold State.sendLayer
  with_reducible repeat' first
    | assumption
    | apply keeps_jobOut
    | apply keeps_modEncoding
    | (extract_lets +onlyGivenNames x; clear_value x)
    | refine Keeps.foldl (fun x a hx => ?_) ?_

theorem keeps_record {s0 : State} {s : State} {id : Nat} {bytes : Nat} {fstat : Nat} {ts : Nat} {rd : Nat} (h0 : Keeps s0 s) :
    Keeps s0 (State.record s id bytes fstat ts rd) := by
  unfold State.record
  with_reducible repeat' first
    | assumption
    | apply keeps_modEncJob
    | apply keeps_occur
    | split

theorem keeps_coastEvent {s0 : State} {s : State} {id : Nat} {k : Nat} {fstat : Nat} {b : Nat} (h0 : Keeps s0 s) :
    Keeps s0 (State.coastEvent s id k fstat b) := by
  unfold State.coastEvent
  with_reducible repeat' first
    | assumption
    | apply keeps_modEncJob
    | apply keeps_postObj
    | (extract_lets +onlyGivenNames x; clear_value x)
    | split

theorem keeps_encFinish {s0 : State} {s : State} {id : Nat} {k : Nat} {cl : Nat} {j : EncJob} {e : Encoding} {rows : List Nat} {rd : Nat} (h0 : Keeps s0 s) :
    Keeps s0 (State.encFinish s id k cl j e rows rd) := by
  unfold State.encFinish
  with_reducible repeat' first
    | assumption
    | apply keeps_draw
    | apply keeps_modEncJob
    | apply keeps_modEncoding
    | apply keeps_dropSurf
    | apply keeps_coastEvent
    | apply keeps_sendLayer
    | apply keeps_record
    | refine Keeps.foldl (fun x a hx => ?_) ?_
    | split

theorem keeps_doEncodeFrameComplete {s0 : State} {job : Nat} {enc : Nat} {rows : List Nat} {recRd : Nat} {s : State} (h4 : Keeps s0 s) :
    Keeps s0 (doEncodeFrameComplete job enc rows recRd s) := by
  unfold doEncodeFrameComplete
  with_reducible repeat' first
    | assumption
    | apply keeps_resumePipes
    | apply keeps_modEngine
    | apply keeps_encFinish
    | split

theorem keeps_modCanvas {s0 : State} {s : State} {id : Nat} {g : Canvas → Canvas} (h0 : Keeps s0 s) :
    Keeps s0 (State.modCanvas s id g) := by
  unfold State.modCanvas
  with_reducible repeat' first
    | assumption
    | (show _ = _; rfl)
    | refine Keeps.mk' _ ?_ ?_

theorem keeps_layerSwitch {s0 : State} {s : State} {id : Nat} {n : Nat} {cause : Nat} (h0 : Keeps s0 s) :
    Keeps s0 (State.layerSwitch s id n cause) := by
  unfold State.layerSwitch
  with_reducible repeat' first
    | assumption
    | apply keeps_postObj
    | apply keeps_dropReader
    | apply keeps_modCanvas
    | split

theorem keeps_switchReady {s0 : State} {s : State} {id : Nat} {c : Canvas} (h0 : Keeps s0 s) :
    Keeps s0 (State.switchReady s id c) := by
  unfold State.switchReady
  with_reducible repeat' first
    | assumption
    | apply keeps_layerSwitch
    | refine Keeps.foldl (fun x a hx => ?_) ?_

theorem keeps_doLayerSwitchTimeout {s0 : State} {c : Nat} {layer : Nat} {s : State} (h2 : Keeps s0 s) :
    Keeps s0 (doLayerSwitchTimeout c layer s) := by
  unfold doLayerSwitchTimeout
  with_reducible repeat' first
    | assumption
    | apply keeps_layerSwitch
    | split

theorem keeps_holdSnapshot {s0 : State} {s : State} {id : Nat} {ls : List (Nat × Layer)} (h0 : Keeps s0 s) :
    Keeps s0 (State.holdSnapshot s id ls) := by
  unfold State.holdSnapshot
  with_reducible repeat' first
    | assumption
    | apply keeps_holdSurf
    | refine Keeps.foldl (fun x a hx => ?_) ?_
    | split

theorem keeps_eachTaker {s0 : State} {s : State} {id : Nat} {c : Canvas} {g : State → Nat → Nat → State} (h : Keeps s0 s)
    (hg : ∀ x a b, Keeps s0 x → Keeps s0 (g x a b)) : Keeps s0 (s.eachTaker id c g) := by
  unfold State.eachTaker; exact Keeps.foldl (fun x a hx => Keeps.foldl (fun y b hy => hg y _ _ hy) hx) h

theorem keeps_canvasSkip {s0 : State} {s : State} {id : Nat} {c : Canvas} {cause : Nat} (h0 : Keeps s0 s) :
    Keeps s0 (State.canvasSkip s id c cause) := by
  unfold State.canvasSkip
  with_reducible repeat' first
    | assumption
    | apply keeps_occur
    | refine keeps_eachTaker ?_ (fun x a b hx => ?_)
    | apply keeps_encSkip
    | apply keeps_modCanvas
    | apply keeps_postObj
    | (extract_lets +onlyGivenNames x; refine Keeps.cut (s := s0) (x := x) ?_ (fun hx => ?_); rotate_left; clear_value x; rotate_right; unfold x; clear x)
    | (extract_lets +onlyGivenNames x; clear_value x)
    | split

theorem keeps_canvasGo {s0 : State} {s : State} {id : Nat} (h0 : Keeps s0 s) :
    Keeps s0 (State.canvasGo s id) := by
  unfold State.canvasGo
  with_reducible repeat' first
    | assumption
    | apply keeps_holdSnapshot
    | apply keeps_modCanvas
    | apply keeps_occurN
    | refine keeps_eachTaker ?_ (fun x a b hx => ?_)
    | apply keeps_encReady
    | (extract_lets +onlyGivenNames x; clear_value x)
    | split

theorem keeps_doCanvasFrameStart {s0 : State} {c : Nat} {s : State} (h1 : Keeps s0 s) :
    Keeps s0 (doCanvasFrameStart c s) := by
  unfold doCanvasFrameStart
  with_reducible repeat' first
    | assumption
    | apply keeps_modCanvas
    | apply keeps_canvasSkip
    | apply keeps_canvasGo
    | apply keeps_switchReady
    | split

theorem keeps_canvasDone {s0 : State} {s : State} {id : Nat} {c : Canvas} {r : CanvasRun} (h0 : Keeps s0 s) :
    Keeps s0 (State.canvasDone s id c r) := by
  unfold State.canvasDone
  with_reducible repeat' first
    | assumption
    | apply keeps_modCanvas
    | apply keeps_dropReader

theorem keeps_doComposerBand {s0 : State} {cmp : Nat} {s : State} (h1 : Keeps s0 s) :
    Keeps s0 (doComposerBand cmp s) := by
  unfold doComposerBand
  with_reducible repeat' first
    | assumption
    | apply keeps_canvasDone
    | apply keeps_modCanvas
    | (extract_lets +onlyGivenNames x; clear_value x)
    | split

theorem keeps_unitFault {s0 : State} {s : State} {kind : Nat} {unit : Nat} {cause : Nat} (h0 : Keeps s0 s) :
    Keeps s0 (State.unitFault s kind unit cause) := by
  unfold State.unitFault
  with_reducible repeat' first
    | assumption
    | apply keeps_postAll

theorem keeps_domainOff {s0 : State} {s : State} {d : Nat} {fault : Bool} (h0 : Keeps s0 s) :
    Keeps s0 (State.domainOff s d fault) := by
  unfold State.domainOff
  with_reducible repeat' first
    | assumption
    | (show _ = _; rfl)
    | apply keeps_domains
    | (extract_lets +onlyGivenNames x; refine Keeps.cut (s := s0) (x := x) ?_ (fun hx => ?_); rotate_left; clear_value x; rotate_right; unfold x; clear x)
    | (extract_lets +onlyGivenNames x; clear_value x)
    | split
    | refine Keeps.mk' _ ?_ ?_

theorem keeps_domainRestore {s0 : State} {s : State} {d : Nat} (h0 : Keeps s0 s) :
    Keeps s0 (State.domainRestore s d) := by
  unfold State.domainRestore
  with_reducible repeat' first
    | assumption
    | apply keeps_domains

theorem keeps_calResult {s0 : State} {s : State} {o : LongOp} {result : Nat} {durUs : Nat} (h0 : Keeps s0 s) :
    Keeps s0 (State.calResult s o result durUs) := by
  unfold State.calResult
  with_reducible repeat' first
    | assumption
    | apply keeps_modOp
    | apply keeps_complete

theorem keeps_calLost {s0 : State} {s : State} {a : Nat} (h0 : Keeps s0 s) :
    Keeps s0 (State.calLost s a) := by
  unfold State.calLost
  with_reducible repeat' first
    | assumption
    | apply keeps_calResult
    | apply keeps_undrain
    | split

theorem keeps_stopModule {s0 : State} {s : State} {thermal : Bool} (h0 : Keeps s0 s) :
    Keeps s0 (State.stopModule s thermal) := by
  unfold State.stopModule
  with_reducible repeat' first
    | assumption
    | (show _ = _; rfl)
    | (extract_lets +onlyGivenNames x; have this : Time := x; clear this)
    | (extract_lets +onlyGivenNames x; clear_value x)
    | refine Keeps.mk' _ ?_ ?_

theorem keeps_doModuleStop {s0 : State} {s : State} (h0 : Keeps s0 s) :
    Keeps s0 (doModuleStop s) := by
  unfold doModuleStop
  with_reducible repeat' first
    | assumption
    | apply keeps_stopModule
    | split

theorem keeps_offEngines {s0 : State} {s : State} {dec : Nat → Bool} {enc : Nat → Bool} (h0 : Keeps s0 s) :
    Keeps s0 (State.offEngines s dec enc) := by
  unfold State.offEngines
  with_reducible repeat' first
    | assumption
    | (show _ = _; rfl)
    | refine Keeps.mk' _ ?_ ?_

theorem keeps_haltEncode {s0 : State} {s : State} {id : Nat} (h0 : Keeps s0 s) :
    Keeps s0 (State.haltEncode s id) := by
  unfold State.haltEncode
  with_reducible repeat' first
    | assumption
    | apply keeps_modEncJob
    | apply keeps_offEngines
    | apply keeps_dropReader
    | (extract_lets +onlyGivenNames x; refine Keeps.cut (s := s0) (x := x) ?_ (fun hx => ?_); rotate_left; clear_value x; rotate_right; unfold x; clear x)
    | refine Keeps.foldl (fun x a hx => ?_) ?_

theorem keeps_forceKeys {s0 : State} {s : State} {id : Nat} (h0 : Keeps s0 s) :
    Keeps s0 (State.forceKeys s id) := by
  unfold State.forceKeys
  with_reducible repeat' first
    | assumption
    | apply keeps_modEncJob

theorem keeps_resetStages {s0 : State} {s : State} {point : Nat} {obj : Nat} (h0 : Keeps s0 s) :
    Keeps s0 (State.resetStages s point obj) := by
  unfold State.resetStages
  with_reducible repeat' first
    | assumption
    | (show _ = _; rfl)
    | refine Keeps.mk' _ ?_ ?_

theorem keeps_restart {s0 : State} {s : State} {o : FlowOwner} (h0 : Keeps s0 s) :
    Keeps s0 (State.restart s o) := by
  unfold State.restart
  with_reducible repeat' first
    | assumption
    | apply keeps_modDec
    | apply keeps_offEngines
    | apply keeps_requestKey
    | apply keeps_forceKeys
    | apply keeps_haltEncode
    | apply keeps_modLeg
    | apply keeps_resetStages
    | apply keeps_modConf
    | apply keeps_modCanvas
    | apply keeps_dropReader
    | (extract_lets +onlyGivenNames x; refine Keeps.cut (s := s0) (x := x) ?_ (fun hx => ?_); rotate_left; clear_value x; rotate_right; unfold x; clear x)
    | (extract_lets +onlyGivenNames x; clear_value x)
    | split

theorem keeps_discardItems {s0 : State} {s : State} {n : Nat} {cl : Nat} {p : Item → Bool} (h0 : Keeps s0 s) :
    Keeps s0 (State.discardItems s n cl p) := by
  unfold State.discardItems
  with_reducible repeat' first
    | assumption
    | (show _ = _; rfl)
    | apply keeps_occurN
    | apply keeps_setFlow
    | (extract_lets +onlyGivenNames x; refine Keeps.cut (s := s0) (x := x) ?_ (fun hx => ?_); rotate_left; clear_value x; rotate_right; unfold x; clear x)
    | (extract_lets +onlyGivenNames x; clear_value x)
    | split
    | refine Keeps.mk' _ ?_ ?_

theorem keeps_dropServing {s0 : State} {s : State} {cl : Nat} (h0 : Keeps s0 s) :
    Keeps s0 (State.dropServing s cl) := by
  unfold State.dropServing
  with_reducible repeat' first
    | assumption
    | (show _ = _; rfl)
    | apply keeps_occur
    | apply keeps_setFlow
    | (extract_lets +onlyGivenNames x; refine Keeps.cut (s := s0) (x := x) ?_ (fun hx => ?_); rotate_left; clear_value x; rotate_right; unfold x; clear x)
    | (extract_lets +onlyGivenNames x; clear_value x)
    | refine Keeps.foldl (fun x a hx => ?_) ?_
    | split
    | refine Keeps.mk' _ ?_ ?_

theorem keeps_nextEpoch {s0 : State} {s : State} {n : Nat} {cl : Nat} (h0 : Keeps s0 s) :
    Keeps s0 (State.nextEpoch s n cl) := by
  unfold State.nextEpoch
  with_reducible repeat' first
    | assumption
    | (show _ = _; rfl)
    | apply keeps_discardItems
    | apply keeps_setFlow
    | (extract_lets +onlyGivenNames x; refine Keeps.cut (s := s0) (x := x) ?_ (fun hx => ?_); rotate_left; clear_value x; rotate_right; unfold x; clear x)
    | (extract_lets +onlyGivenNames x; clear_value x)
    | split
    | refine Keeps.mk' _ ?_ ?_

theorem keeps_endMarker {s0 : State} {s : State} {n : Nat} {cl : Nat} (h0 : Keeps s0 s) :
    Keeps s0 (State.endMarker s n cl) := by
  unfold State.endMarker
  with_reducible repeat' first
    | assumption
    | apply keeps_discardItems
    | apply keeps_setFlow
    | (extract_lets +onlyGivenNames x; refine Keeps.cut (s := s0) (x := x) ?_ (fun hx => ?_); rotate_left; clear_value x; rotate_right; unfold x; clear x)
    | split

theorem keeps_takeOver {s0 : State} {s : State} {b : Nat} {n : Nat} (h0 : Keeps s0 s) :
    Keeps s0 (State.takeOver s b n) := by
  unfold State.takeOver
  with_reducible repeat' first
    | assumption
    | apply keeps_carry
    | apply keeps_setFlow
    | split

theorem keeps_haltFlow {s0 : State} {s : State} {n : Nat} (h0 : Keeps s0 s) :
    Keeps s0 (State.haltFlow s n) := by
  unfold State.haltFlow
  with_reducible repeat' first
    | assumption
    | apply keeps_discardItems
    | apply keeps_restart
    | apply keeps_setFlow
    | split

theorem keeps_skipIndices {s0 : State} {s : State} {o : FlowOwner} (h0 : Keeps s0 s) :
    Keeps s0 (State.skipIndices s o) := by
  unfold State.skipIndices
  with_reducible repeat' first
    | assumption
    | apply keeps_modLeg
    | split

theorem keeps_clusterGone {s0 : State} {s : State} {cl : Nat} {fault : Bool} (h0 : Keeps s0 s) :
    Keeps s0 (State.clusterGone s cl fault) := by
  unfold State.clusterGone
  with_reducible repeat' first
    | assumption
    | (show _ = _; rfl)
    | apply keeps_domainOff
    | apply keeps_modChan
    | apply keeps_dropServing
    | apply keeps_modCluster
    | refine Keeps.foldl (fun x a hx => ?_) ?_
    | refine Keeps.mk' _ ?_ ?_

theorem keeps_stopJob {s0 : State} {s : State} {id : Nat} {canvas : Nat} (h0 : Keeps s0 s) :
    Keeps s0 (State.stopJob s id canvas) := by
  unfold State.stopJob
  with_reducible repeat' first
    | assumption
    | apply keeps_haltEncode
    | apply keeps_modSlot
    | apply keeps_repoint
    | (extract_lets +onlyGivenNames x; refine Keeps.cut (s := s0) (x := x) ?_ (fun hx => ?_); rotate_left; clear_value x; rotate_right; unfold x; clear x)
    | refine Keeps.foldl (fun x a hx => ?_) ?_
    | split

theorem keeps_degradeOne {s0 : State} {s : State} {b : Nat} {step : Nat} {id : Nat} (h0 : Keeps s0 s) :
    Keeps s0 (State.degradeOne s b step id) := by
  unfold State.degradeOne
  with_reducible repeat' first
    | assumption
    | apply keeps_modEncJob
    | apply keeps_stopJob
    | apply keeps_postAll
    | (extract_lets +onlyGivenNames x; refine Keeps.cut (s := s0) (x := x) ?_ (fun hx => ?_); rotate_left; clear_value x; rotate_right; unfold x; clear x)
    | split

theorem keeps_degradeStep {s0 : State} {b : Nat} {step : Nat} {may : EncJob → Bool} {a__internal_hyg0 : List Nat} {a__internal_hyg04 : State} (h4 : Keeps s0 a__internal_hyg04) :
    Keeps s0 (State.degradeStep b step may a__internal_hyg0 a__internal_hyg04) := by
  induction a__internal_hyg0 generalizing b step may a__internal_hyg04 with
  | nil => unfold State.degradeStep; assumption
  | cons a l ih =>
    unfold State.degradeStep
    with_reducible repeat' first
      | assumption
      | apply ih
      | apply keeps_degradeOne
      | split

theorem keeps_degrade {s0 : State} {s : State} {b : Nat} (h0 : Keeps s0 s) :
    Keeps s0 (State.degrade s b) := by
  unfold State.degrade
  with_reducible repeat' first
    | assumption
    | apply keeps_degradeStep

theorem keeps_failCluster {s0 : State} {s : State} {cl : Nat} {cause : Nat} (h0 : Keeps s0 s) :
    Keeps s0 (State.failCluster s cl cause) := by
  unfold State.failCluster
  with_reducible repeat' first
    | assumption
    | apply keeps_calLost
    | apply keeps_clusterGone
    | apply keeps_unitFault
    | apply keeps_endMarker
    | apply keeps_nextEpoch
    | apply keeps_takeOver
    | apply keeps_haltFlow
    | apply keeps_skipIndices
    | apply keeps_modCluster
    | apply keeps_degrade
    | apply keeps_postAll
    | (extract_lets +onlyGivenNames x; refine Keeps.cut (s := s0) (x := x) ?_ (fun hx => ?_); rotate_left; clear_value x; rotate_right; unfold x; clear x)
    | (extract_lets +onlyGivenNames x; clear_value x)
    | refine Keeps.foldl (fun x a hx => ?_) ?_
    | split

theorem keeps_doUnprotectedReplace {s0 : State} {cl : Nat} {s : State} (h1 : Keeps s0 s) :
    Keeps s0 (doUnprotectedReplace cl s) := by
  unfold doUnprotectedReplace
  with_reducible repeat' first
    | assumption
    | apply keeps_setFlow
    | apply keeps_occur
    | (extract_lets +onlyGivenNames x; clear_value x)
    | refine Keeps.foldl (fun x a hx => ?_) ?_
    | split

theorem keeps_doShadowApply {s0 : State} {cl : Nat} {s : State} (h1 : Keeps s0 s) :
    Keeps s0 (doShadowApply cl s) := by
  unfold doShadowApply
  with_reducible repeat' first
    | assumption
    | apply keeps_modCluster
    | split

theorem keeps_slotHome {s0 : State} {s : State} {leg : Nat} {k : Nat} {id : Nat} {v : Slot} (h0 : Keeps s0 s) :
    Keeps s0 (State.slotHome s leg k id v) := by
  unfold State.slotHome
  with_reducible repeat' first
    | assumption
    | apply keeps_bumpRoute
    | apply keeps_modSlot
    | apply keeps_waitKey
    | (extract_lets +onlyGivenNames x; refine Keeps.cut (s := s0) (x := x) ?_ (fun hx => ?_); rotate_left; clear_value x; rotate_right; unfold x; clear x)
    | refine Keeps.foldl (fun x a hx => ?_) ?_
    | split

theorem keeps_undoOne {s0 : State} {s : State} {id : Nat} {step : Nat} (h0 : Keeps s0 s) :
    Keeps s0 (State.undoOne s id step) := by
  unfold State.undoOne
  with_reducible repeat' first
    | assumption
    | apply keeps_forceKeys
    | apply keeps_modEncJob
    | apply keeps_slotHome
    | (extract_lets +onlyGivenNames x; refine Keeps.cut (s := s0) (x := x) ?_ (fun hx => ?_); rotate_left; clear_value x; rotate_right; unfold x; clear x)
    | refine Keeps.foldl (fun x a hx => ?_) ?_
    | split

theorem keeps_undoSteps {s0 : State} {s : State} {b : Nat} {a__internal_hyg0 : Nat} (h0 : Keeps s0 s) :
    Keeps s0 (State.undoSteps s b a__internal_hyg0) := by
  induction a__internal_hyg0 generalizing s b with
  | zero => unfold State.undoSteps; assumption
  | succ n ih =>
    unfold State.undoSteps
    with_reducible repeat' first
      | assumption
      | apply ih
      | apply keeps_postAll
      | apply keeps_undoOne
      | (extract_lets +onlyGivenNames x; refine Keeps.cut (s := s0) (x := x) ?_ (fun hx => ?_); rotate_left; clear_value x; rotate_right; unfold x; clear x)
      | (extract_lets +onlyGivenNames x; clear_value x)
      | split

theorem keeps_doDegradeUndo {s0 : State} {cl : Nat} {s : State} (h1 : Keeps s0 s) :
    Keeps s0 (doDegradeUndo cl s) := by
  unfold doDegradeUndo
  with_reducible repeat' first
    | assumption
    | apply keeps_undoSteps

theorem keeps_failHalf {s0 : State} {s : State} {h_ : Nat} {cause : Nat} (h0 : Keeps s0 s) :
    Keeps s0 (State.failHalf s h_ cause) := by
  unfold State.failHalf
  with_reducible repeat' first
    | assumption
    | (show _ = _; rfl)
    | apply keeps_domainOff
    | apply keeps_calLost
    | apply keeps_unitFault
    | apply keeps_stopModule
    | (extract_lets +onlyGivenNames x; refine Keeps.cut (s := s0) (x := x) ?_ (fun hx => ?_); rotate_left; clear_value x; rotate_right; unfold x; clear x)
    | (extract_lets +onlyGivenNames x; clear_value x)
    | split
    | refine Keeps.mk' _ ?_ ?_

theorem keeps_doHubHalfFail {s0 : State} {h_ : Nat} {cause : Nat} {s : State} (h2 : Keeps s0 s) :
    Keeps s0 (doHubHalfFail h_ cause s) := by
  unfold doHubHalfFail
  with_reducible repeat' first
    | assumption
    | apply keeps_failHalf

theorem keeps_failTrail {s0 : State} {s : State} {i : Nat} {cause : Nat} (h0 : Keeps s0 s) :
    Keeps s0 (State.failTrail s i cause) := by
  unfold State.failTrail
  with_reducible repeat' first
    | assumption
    | (show _ = _; rfl)
    | apply keeps_domainOff
    | apply keeps_calLost
    | apply keeps_unitFault
    | apply keeps_stopModule
    | (extract_lets +onlyGivenNames x; refine Keeps.cut (s := s0) (x := x) ?_ (fun hx => ?_); rotate_left; clear_value x; rotate_right; unfold x; clear x)
    | (extract_lets +onlyGivenNames x; clear_value x)
    | split
    | refine Keeps.mk' _ ?_ ?_

theorem keeps_doTrailheadFail {s0 : State} {cause : Nat} {s : State} (h1 : Keeps s0 s) :
    Keeps s0 (doTrailheadFail cause s) := by
  unfold doTrailheadFail
  with_reducible repeat' first
    | assumption
    | apply keeps_failTrail

theorem keeps_moveCanvas {s0 : State} {s : State} {id : Nat} {q : Option Nat} (h0 : Keeps s0 s) :
    Keeps s0 (State.moveCanvas s id q) := by
  unfold State.moveCanvas
  with_reducible repeat' first
    | assumption
    | apply keeps_modCanvas
    | apply keeps_dropReader
    | apply keeps_moveFlow
    | apply keeps_haltFlow
    | (extract_lets +onlyGivenNames x; refine Keeps.cut (s := s0) (x := x) ?_ (fun hx => ?_); rotate_left; clear_value x; rotate_right; unfold x; clear x)
    | split

theorem keeps_clearComposer {s0 : State} {s : State} {c : Nat} (h0 : Keeps s0 s) :
    Keeps s0 (State.clearComposer s c) := by
  unfold State.clearComposer
  with_reducible repeat' first
    | assumption
    | apply keeps_modCanvas
    | apply keeps_dropReader
    | apply keeps_moveCanvas
    | (extract_lets +onlyGivenNames x; refine Keeps.cut (s := s0) (x := x) ?_ (fun hx => ?_); rotate_left; clear_value x; rotate_right; unfold x; clear x)
    | (extract_lets +onlyGivenNames x; clear_value x)
    | refine Keeps.foldl (fun x a hx => ?_) ?_

theorem keeps_failComposer {s0 : State} {s : State} {c : Nat} {cause : Nat} (h0 : Keeps s0 s) :
    Keeps s0 (State.failComposer s c cause) := by
  unfold State.failComposer
  with_reducible repeat' first
    | assumption
    | (show _ = _; rfl)
    | apply keeps_domainOff
    | apply keeps_clearComposer
    | apply keeps_calLost
    | apply keeps_unitFault
    | (extract_lets +onlyGivenNames x; refine Keeps.cut (s := s0) (x := x) ?_ (fun hx => ?_); rotate_left; clear_value x; rotate_right; unfold x; clear x)
    | (extract_lets +onlyGivenNames x; clear_value x)
    | split
    | refine Keeps.mk' _ ?_ ?_

theorem keeps_doComposerFail {s0 : State} {c : Nat} {cause : Nat} {s : State} (h2 : Keeps s0 s) :
    Keeps s0 (doComposerFail c cause s) := by
  unfold doComposerFail
  with_reducible repeat' first
    | assumption
    | apply keeps_failComposer

theorem keeps_doCanvasMove {s0 : State} {c : Nat} {s : State} (h1 : Keeps s0 s) :
    Keeps s0 (doCanvasMove c s) := by
  unfold doCanvasMove
  with_reducible repeat' first
    | assumption
    | apply keeps_moveCanvas
    | split

theorem keeps_authenticated {s0 : State} {s : State} {leg : Nat} {l : Leg} {under : Nat} {p : Payload} (h0 : Keeps s0 s) :
    Keeps s0 (State.authenticated s leg l under p) := by
  unfold State.authenticated
  with_reducible repeat' first
    | assumption
    | apply keeps_rxRoll
    | apply keeps_modLeg
    | apply keeps_legGoes
    | apply keeps_consentTimer
    | (extract_lets +onlyGivenNames x; refine Keeps.cut (s := s0) (x := x) ?_ (fun hx => ?_); rotate_left; clear_value x; rotate_right; unfold x; clear x)
    | (extract_lets +onlyGivenNames x; clear_value x)
    | split

theorem keeps_route {s0 : State} {s : State} {leg : Nat} {l : Leg} {track : Nat} {t : Track} {rtx : Bool} {tick : Nat} {r : Rtp} {p : FwdPkt} (h0 : Keeps s0 s) :
    Keeps s0 (State.route s leg l track t rtx tick r p) := by
  unfold State.route
  with_reducible repeat' first
    | assumption
    | (show _ = _; rfl)
    | apply keeps_toJobs
    | apply keeps_teIn
    | apply keeps_audioIn
    | (extract_lets +onlyGivenNames x; refine Keeps.cut (s := s0) (x := x) ?_ (fun hx => ?_); rotate_left; clear_value x; rotate_right; unfold x; clear x)
    | split
    | refine Keeps.mk' _ ?_ ?_

theorem keeps_rtpIn {s0 : State} {s : State} {k : InPkt} {r : Rtp} (h0 : Keeps s0 s) :
    Keeps s0 (State.rtpIn s k r) := by
  unfold State.rtpIn
  with_reducible repeat' first
    | assumption
    | apply keeps_modLeg
    | apply keeps_cascIn
    | apply keeps_occur
    | apply keeps_trackIn
    | apply keeps_route
    | (extract_lets +onlyGivenNames x; refine Keeps.cut (s := s0) (x := x) ?_ (fun hx => ?_); rotate_left; clear_value x; rotate_right; unfold x; clear x)
    | (extract_lets +onlyGivenNames x; refine Keeps.cut (s := s0) (x := x.1) ?_ (fun hx => ?_); rotate_left; clear_value x; rotate_right; unfold x; clear x)
    | (extract_lets +onlyGivenNames x; clear_value x)
    | split

theorem keeps_released {s0 : State} {s : State} {k : InPkt} (h0 : Keeps s0 s) :
    Keeps s0 (State.released s k) := by
  unfold State.released
  with_reducible repeat' first
    | assumption
    | apply keeps_authFail
    | apply keeps_authenticated
    | apply keeps_rtpIn
    | apply keeps_rtcpIn
    | (extract_lets +onlyGivenNames x; refine Keeps.cut (s := s0) (x := x) ?_ (fun hx => ?_); rotate_left; clear_value x; rotate_right; unfold x; clear x)
    | split

theorem keeps_doSrtpDecrypt {s0 : State} {run : CipherRun} {s : State} (h1 : Keeps s0 s) :
    Keeps s0 (doSrtpDecrypt run s) := by
  unfold doSrtpDecrypt
  with_reducible repeat' first
    | assumption
    | (show _ = _; rfl)
    | apply keeps_occur
    | refine keeps_cipherPass_released ?_ (by assumption)
    | refine keeps_cipherPass_dropped ?_ (by assumption)
    | apply keeps_released
    | (extract_lets +onlyGivenNames x; refine Keeps.cut (s := s0) (x := x) ?_ (fun hx => ?_); rotate_left; clear_value x; rotate_right; unfold x; clear x)
    | (extract_lets +onlyGivenNames x; clear_value x)
    | split
    | refine Keeps.mk' _ ?_ ?_

theorem keeps_hbmLog {s0 : State} {s : State} {e : HbmLog} (h : Keeps s0 s) : Keeps s0 (s.hbmLog e).2 :=
  ⟨h.pending, h.mem, h.lock, h.time⟩

theorem keeps_rowHammer {s0 : State} {s : State} {pc : Nat} {p : Place} (h0 : Keeps s0 s) :
    Keeps s0 (State.rowHammer s pc p) := by
  unfold State.rowHammer
  with_reducible repeat' first
    | assumption
    | apply keeps_occur
    | apply keeps_modPchan
    | apply keeps_postAll
    | (extract_lets +onlyGivenNames x; refine Keeps.cut (s := s0) (x := x) ?_ (fun hx => ?_); rotate_left; clear_value x; rotate_right; unfold x; clear x)
    | (extract_lets +onlyGivenNames x; clear_value x)
    | split

theorem keeps_activate {s0 : State} {s : State} {pc : Nat} {addr : Nat} {r : MemReq} (h0 : Keeps s0 s) :
    Keeps s0 (State.activate s pc addr r) := by
  unfold State.activate
  with_reducible repeat' first
    | assumption
    | apply keeps_modPchan
    | apply keeps_rowHammer
    | (extract_lets +onlyGivenNames x; refine Keeps.cut (s := s0) (x := x) ?_ (fun hx => ?_); rotate_left; clear_value x; rotate_right; unfold x; clear x)
    | (extract_lets +onlyGivenNames x; clear_value x)
    | split

theorem keeps_corrected {s0 : State} {s : State} {pc : Nat} {addr : Nat} {sym : Nat} {mid : Nat} {region : Nat} {off : Nat} (h0 : Keeps s0 s) :
    Keeps s0 (State.corrected s pc addr sym mid region off) := by
  unfold State.corrected
  with_reducible repeat' first
    | assumption
    | apply keeps_modPchan
    | apply keeps_hbmLog
    | (extract_lets +onlyGivenNames x; refine Keeps.cut (s := s0) (x := x) ?_ (fun hx => ?_); rotate_left; clear_value x; rotate_right; unfold x; clear x)
    | split

theorem keeps_ueCount {s0 : State} {s : State} {pc : Nat} (h0 : Keeps s0 s) :
    Keeps s0 (State.ueCount s pc) := by
  unfold State.ueCount
  with_reducible repeat' first
    | assumption
    | apply keeps_modPchan

theorem keeps_errorResponse {s0 : State} {s : State} {pc : Nat} {addr : Nat} {sym : Nat} {mid : Nat} {region : Nat} {off : Nat} {both : Bool} (h0 : Keeps s0 s) :
    Keeps s0 (State.errorResponse s pc addr sym mid region off both) := by
  unfold State.errorResponse
  with_reducible repeat' first
    | assumption
    | (show _ = _; rfl)
    | apply keeps_hbmLog
    | apply keeps_postAll
    | (extract_lets +onlyGivenNames x; refine Keeps.cut (s := s0) (x := x) ?_ (fun hx => ?_); rotate_left; clear_value x; rotate_right; unfold x; clear x)
    | (extract_lets +onlyGivenNames x; refine Keeps.cut (s := s0) (x := x.2) ?_ (fun hx => ?_); rotate_left; clear_value x; rotate_right; unfold x; clear x)
    | (extract_lets +onlyGivenNames x; clear_value x)
    | refine Keeps.mk' _ ?_ ?_

theorem keeps_ueOutcome {s0 : State} {s : State} {r : MemReq} {pc : Nat} (h0 : Keeps s0 s) :
    Keeps s0 (State.ueOutcome s r pc) := by
  unfold State.ueOutcome
  with_reducible repeat' first
    | assumption
    | apply keeps_occur
    | apply keeps_modPort
    | split

theorem keepsM_putWord (s : State) (pc addr : Nat) (bs : List Byte) : KeepsM s (s.putWord pc addr bs) :=
  ⟨_, fun hm => memWriteList_wf _ _ hm, Keeps.refl _⟩

theorem keepsM_memWriteWord (s : State) (g : Region) (o : Nat) (bs : List Byte) : KeepsM s (s.memWriteWord g o bs) := by
  unfold State.memWriteWord
  extract_lets a t
  split
  · exact (keepsM_putWord _ _ _ _).trans (keepsM_putWord _ _ _ _)
  · exact keepsM_putWord _ _ _ _

/-- A read writes memory only where the copy of a word replaces it. -/
theorem keepsM_memReadWord (s : State) (g : Region) (r : MemReq) (o : Nat) : KeepsM s (s.memReadWord g r o) := by
  unfold State.memReadWord
  extract_lets a addr poisoned n sym give s1 pc2 addr2 w s2 s3
  have hg : ∀ (x : State) (p q : Nat), Keeps s x → KeepsM s (give x p q) := fun x p q h => ((Keeps.mk' _ (by rfl) h : Keeps s (give x p q))).m
  have h1 : Keeps s s1 := keeps_ueCount (Keeps.refl s)
  have h2 : KeepsM s s2 := (h1.m.trans (keepsM_putWord _ _ _ _)).then (keeps_occur (Keeps.refl _))
  have h3 : KeepsM s s3 := h2.then (keeps_hbmLog (Keeps.refl _))
  clear_value s1 s2 s3
  split
  · exact hg _ _ _ (Keeps.refl s)
  · split
    · exact hg _ _ _ (keeps_corrected (Keeps.refl s))
    · split
      · exact (keeps_ueOutcome (keeps_errorResponse h1)).m
      · split
        · exact h3.then (Keeps.mk' _ (by rfl) (Keeps.refl _))
        · exact (keeps_ueOutcome (keeps_errorResponse (keeps_ueCount h1))).m

theorem keeps_panic {s0 : State} {s : State} {r : MemReq} (h : Keeps s0 s) : Keeps s0 (s.panic r) := by
  unfold State.panic
  split
  · exact h
  · split
    · exact keeps_occur (Keeps.mk' _ (by rfl) h)
    · split
      · exact Keeps.mk' _ (by rfl) h
      · exact h

theorem keepsM_doHbmRequest (r : MemReq) (s : State) : KeepsM s (doHbmRequest r s) := by
  unfold doHbmRequest
  split
  · exact (Keeps.refl s).m
  · extract_lets o a s1 bs s2
    split
    · exact (Keeps.refl s).m
    · have h1 : Keeps s s1 := keeps_activate (keeps_panic (Keeps.refl s))
      clear_value s1
      split
      · exact (h1.m.trans (keepsM_memWriteWord _ _ _ _)).then (Keeps.mk' _ (by rfl) (Keeps.refl _))
      · exact h1.m.trans (keepsM_memReadWord _ _ _ _)

theorem keeps_doScrub {s0 : State} {pc : Nat} {addr : Nat} {badSyms : List Nat} {s : State} (h3 : Keeps s0 s) :
    Keeps s0 (doScrub pc addr badSyms s) := by
  unfold doScrub
  with_reducible repeat' first
    | assumption
    | apply keeps_corrected
    | apply keeps_errorResponse
    | apply keeps_ueCount
    | (extract_lets +onlyGivenNames x; clear_value x)
    | split

theorem keeps_doRefreshWindowEnd {s0 : State} {s : State} (h0 : Keeps s0 s) :
    Keeps s0 (doRefreshWindowEnd s) := by
  unfold doRefreshWindowEnd
  with_reducible repeat' first
    | assumption
    | (show _ = _; rfl)
    | (extract_lets +onlyGivenNames x; clear_value x)
    | refine Keeps.mk' _ ?_ ?_

theorem keeps_doMarginAlarm {s0 : State} {pc : Nat} {margin : Nat} {lane : Nat} {s : State} (h3 : Keeps s0 s) :
    Keeps s0 (doMarginAlarm pc margin lane s) := by
  unfold doMarginAlarm
  with_reducible repeat' first
    | assumption
    | apply keeps_modPchan

theorem keeps_doLoadedVerificationDue {s0 : State} {stack : Nat} {s : State} (h : Keeps s0 s) :
    Keeps s0 (doLoadedVerificationDue stack s) := by
  unfold doLoadedVerificationDue; exact keeps_forEach h (fun a x hx => keeps_modPchan hx)

theorem keeps_marginEvent {s0 : State} {s : State} {pc : Nat} {outcome : Nat} (h0 : Keeps s0 s) :
    Keeps s0 (State.marginEvent s pc outcome) := by
  unfold State.marginEvent
  with_reducible repeat' first
    | assumption
    | apply keeps_postAll

theorem keeps_retrain {s0 : State} {s : State} {pc : Nat} {e : StallEnv} {loaded : Bool} (h0 : Keeps s0 s) :
    Keeps s0 (State.retrain s pc e loaded) := by
  unfold State.retrain
  with_reducible repeat' first
    | assumption
    | apply keeps_modPchan
    | apply keeps_occur
    | apply keeps_hbmLog
    | apply keeps_marginEvent

theorem keeps_doRetrainStall {s0 : State} {pc : Nat} {e : StallEnv} {s : State} (h2 : Keeps s0 s) :
    Keeps s0 (doRetrainStall pc e s) := by
  unfold doRetrainStall
  with_reducible repeat' first
    | assumption
    | apply keeps_occur
    | apply keeps_modPchan
    | apply keeps_retrain
    | apply keeps_draw
    | apply keeps_marginEvent
    | (extract_lets +onlyGivenNames x; refine Keeps.cut (s := s0) (x := x) ?_ (fun hx => ?_); rotate_left; clear_value x; rotate_right; unfold x; clear x)
    | (extract_lets +onlyGivenNames x; clear_value x)
    | split

theorem keeps_modRegion {s0 : State} {s : State} {r : Nat} {g : Region → Region} (h0 : Keeps s0 s) :
    Keeps s0 (State.modRegion s r g) := by
  unfold State.modRegion
  with_reducible repeat' first
    | assumption
    | (show _ = _; rfl)
    | (extract_lets +onlyGivenNames x; clear_value x)
    | refine Keeps.mk' _ ?_ ?_

theorem keeps_memMapSet {s0 : State} {c : Ctx} {s : State} (h1 : Keeps s0 s) :
    KeepsR s0 (memMapSet c s) := by
  unfold memMapSet
  with_reducible repeat' first
    | assumption
    | refine keeps_startLong ?_ (fun n x hx => ?_)
    | apply keeps_modRegion
    | (extract_lets +onlyGivenNames x; clear_value x)
    | refine KeepsR.checks ?_

theorem keeps_doMemMap {s0 : State} {ch : Nat} {s : State} (h1 : Keeps s0 s) :
    Keeps s0 (doMemMap ch s) := by
  unfold doMemMap
  with_reducible repeat' first
    | assumption
    | refine keeps_runCmd ?_ (fun c x hx => ?_)
    | apply keeps_memMapSet
    | apply keeps_okWords
    | (extract_lets +onlyGivenNames x; clear_value x)
    | refine KeepsR.checks ?_
    | split

theorem memPut_wf {m : List Host.Cell} (h : Memory.wf m = true) (g : Region) (off : Nat) (b : Byte) : Memory.wf (memPut m g off b) = true := by
  unfold memPut
  extract_lets a m1
  have h1 : Memory.wf m1 = true := memWrite_wf h _ _
  clear_value m1
  split
  · exact memWrite_wf h1 _ _
  · exact h1

theorem memWfFrom_filter (p : Host.Cell → Bool) : ∀ {lo : Nat} {m : List Host.Cell}, memWfFrom lo m = true → memWfFrom lo (m.filter p) = true
  | _, [], _ => rfl
  | lo, (a, b) :: t, hm => by
    simp only [memWfFrom, Bool.and_eq_true, decide_eq_true_eq] at hm
    have ih := memWfFrom_filter p hm.2
    rw [List.filter_cons]
    split
    · simp only [memWfFrom, Bool.and_eq_true, decide_eq_true_eq]; exact ⟨hm.1, ih⟩
    · exact memWfFrom_mono (by omega) ih

theorem memWithout_wf {m : List Host.Cell} (h : Memory.wf m = true) (g : Region) : Memory.wf (memWithout m g) = true :=
  memWfFrom_filter _ h

theorem keepsM_doMigrationSwitch (region : Nat) (s : State) : KeepsM s (doMigrationSwitch region s) := by
  unfold doMigrationSwitch
  split
  · exact (Keeps.refl s).m
  · split
    · extract_lets g' cells mem s1 s2
      have h0 : KeepsM s { s with mem := mem } := by
        refine ⟨mem, fun hm => ?_, Keeps.refl _⟩
        have : ∀ (l : List (Nat × Byte)) (m : List Host.Cell), Memory.wf m = true →
            Memory.wf (l.foldl (fun m c => memPut m g' c.1 c.2) m) = true := by
          intro l; induction l with
          | nil => exact fun _ h => h
          | cons c l ih => exact fun m hm => ih _ (memPut_wf hm _ _ _)
        exact this _ _ (memWithout_wf hm _)
      have h1 : KeepsM s s1 := h0.then (keeps_modRegion (Keeps.refl _))
      clear_value s1
      refine KeepsM.then (t := s2) ?_ (keeps_opDone (Keeps.refl _))
      unfold s2; split
      · exact h1.then (keeps_evictFor (Keeps.refl _))
      · exact h1
    · exact (Keeps.refl s).m

theorem keeps_modMon {s0 : State} {s : State} {f : Mon → Mon} (h0 : Keeps s0 s) :
    Keeps s0 (State.modMon s f) := by
  unfold State.modMon
  with_reducible repeat' first
    | assumption
    | (show _ = _; rfl)
    | refine Keeps.mk' _ ?_ ?_

theorem keeps_monConfigure {s0 : State} {c : Ctx} {s : State} (h1 : Keeps s0 s) :
    KeepsR s0 (monConfigure c s) := by
  unfold monConfigure
  with_reducible repeat' first
    | assumption
    | apply keeps_okWords
    | apply keeps_modMon
    | (extract_lets +onlyGivenNames x; clear_value x)
    | refine KeepsR.checks ?_

theorem keeps_monReadRelease {s0 : State} {c : Ctx} {s : State} (h1 : Keeps s0 s) :
    KeepsR s0 (monReadRelease c s) := by
  unfold monReadRelease
  with_reducible repeat' first
    | assumption
    | apply keeps_ok
    | apply keeps_modMon
    | apply keeps_okWords
    | (extract_lets +onlyGivenNames x; clear_value x)
    | exact KeepsR.fail
    | refine KeepsR.checks ?_
    | split

theorem keeps_doMonCounter {s0 : State} {ch : Nat} {s : State} (h1 : Keeps s0 s) :
    Keeps s0 (doMonCounter ch s) := by
  unfold doMonCounter
  with_reducible repeat' first
    | assumption
    | refine keeps_runCmd ?_ (fun c x hx => ?_)
    | apply keeps_monConfigure
    | apply keeps_monReadRelease
    | exact KeepsR.fail
    | split

theorem keeps_sampleStart {s0 : State} {c : Ctx} {buf : BufRead} {s : State} (h2 : Keeps s0 s) :
    KeepsR s0 (sampleStart c buf s) := by
  unfold sampleStart
  with_reducible repeat' first
    | assumption
    | apply keeps_ok
    | apply keeps_modMon
    | (extract_lets +onlyGivenNames x; clear_value x)
    | refine KeepsR.checks ?_

theorem keeps_doMonSample {s0 : State} {ch : Nat} {buf : BufRead} {s : State} (h2 : Keeps s0 s) :
    Keeps s0 (doMonSample ch buf s) := by
  unfold doMonSample
  with_reducible repeat' first
    | assumption
    | refine keeps_runCmd ?_ (fun c x hx => ?_)
    | apply keeps_sampleStart
    | apply keeps_ok
    | apply keeps_modMon
    | apply keeps_okWords
    | (extract_lets +onlyGivenNames x; clear_value x)
    | exact KeepsR.fail
    | refine KeepsR.checks ?_
    | split

theorem keeps_doSample {s0 : State} {mid : Nat} {rd : Nat} {s : State} (h2 : Keeps s0 s) :
    Keeps s0 (doSample mid rd s) := by
  unfold doSample
  with_reducible repeat' first
    | assumption
    | apply keeps_modMon
    | (extract_lets +onlyGivenNames x; clear_value x)
    | split

theorem keeps_takeControl {s0 : State} {s : State} (h0 : Keeps s0 s) :
    Keeps s0 (State.takeControl s) := by
  unfold State.takeControl
  with_reducible repeat' first
    | assumption
    | (show _ = _; rfl)
    | apply keeps_modFn
    | (extract_lets +onlyGivenNames x; refine Keeps.cut (s := s0) (x := x) ?_ (fun hx => ?_); rotate_left; clear_value x; rotate_right; unfold x; clear x)
    | (extract_lets +onlyGivenNames x; clear_value x)
    | refine Keeps.foldl (fun x a hx => ?_) ?_
    | refine Keeps.mk' _ ?_ ?_

theorem keeps_doUpdBegin {s0 : State} {ch : Nat} {s : State} (h1 : Keeps s0 s) :
    Keeps s0 (doUpdBegin ch s) := by
  unfold doUpdBegin
  with_reducible repeat' first
    | assumption
    | (show _ = _; rfl)
    | refine keeps_runCmd ?_ (fun c x hx => ?_)
    | apply keeps_ok
    | (extract_lets +onlyGivenNames x; clear_value x)
    | refine KeepsR.checks ?_
    | refine Keeps.mk' _ ?_ ?_

theorem keeps_doUpdBlock {s0 : State} {ch : Nat} {buf : BufRead} {flashOk : Bool} {s : State} (h3 : Keeps s0 s) :
    Keeps s0 (doUpdBlock ch buf flashOk s) := by
  unfold doUpdBlock
  with_reducible repeat' first
    | assumption
    | (show _ = _; rfl)
    | refine keeps_runCmd ?_ (fun c x hx => ?_)
    | apply keeps_ok
    | (extract_lets +onlyGivenNames x; clear_value x)
    | refine KeepsR.checks ?_
    | split
    | refine Keeps.mk' _ ?_ ?_

theorem keeps_beginBoot {s0 : State} {s : State} {phase : Nat} (h0 : Keeps s0 s) :
    Keeps s0 (State.beginBoot s phase) := by
  unfold State.beginBoot
  with_reducible repeat' first
    | assumption
    | (show _ = _; rfl)
    | (extract_lets +onlyGivenNames x; clear_value x)
    | refine Keeps.mk' _ ?_ ?_

theorem keeps_doUpdCommit {s0 : State} {ch : Nat} {s : State} (h1 : Keeps s0 s) :
    Keeps s0 (doUpdCommit ch s) := by
  unfold doUpdCommit
  with_reducible repeat' first
    | assumption
    | refine keeps_runCmd ?_ (fun c x hx => ?_)
    | refine keeps_startLong ?_ (fun n x hx => ?_)
    | apply keeps_beginBoot
    | refine KeepsR.checks ?_

theorem keeps_serdesFirmware {s0 : State} {s : State} {kinds : List Nat} (h0 : Keeps s0 s) :
    Keeps s0 (State.serdesFirmware s kinds) := by
  unfold State.serdesFirmware
  with_reducible repeat' first
    | assumption
    | (show _ = _; rfl)
    | apply keeps_groupFirmware
    | (extract_lets +onlyGivenNames x; refine Keeps.cut (s := s0) (x := x) ?_ (fun hx => ?_); rotate_left; clear_value x; rotate_right; unfold x; clear x)
    | (extract_lets +onlyGivenNames x; clear_value x)
    | refine Keeps.foldl (fun x a hx => ?_) ?_
    | split
    | refine Keeps.mk' _ ?_ ?_

theorem keeps_goTrial {s0 : State} {s : State} {i : Image} (h0 : Keeps s0 s) :
    Keeps s0 (State.goTrial s i) := by
  unfold State.goTrial
  with_reducible repeat' first
    | assumption
    | (show _ = _; rfl)
    | apply keeps_serdesFirmware
    | apply keeps_takeControl
    | (extract_lets +onlyGivenNames x; clear_value x)
    | split
    | refine Keeps.mk' _ ?_ ?_

theorem keeps_doUpdCommitTakeover {s0 : State} {img : Image} {env : CommitEnv} {s : State} (h2 : Keeps s0 s) :
    Keeps s0 (doUpdCommitTakeover img env s) := by
  unfold doUpdCommitTakeover
  with_reducible repeat' first
    | assumption
    | (show _ = _; rfl)
    | apply keeps_opDone
    | apply keeps_goTrial
    | (extract_lets +onlyGivenNames x; clear_value x)
    | split
    | refine Keeps.mk' _ ?_ ?_

theorem keeps_doSysConfirm {s0 : State} {ch : Nat} {fuseOk : Bool} {s : State} (h2 : Keeps s0 s) :
    Keeps s0 (doSysConfirm ch fuseOk s) := by
  unfold doSysConfirm
  with_reducible repeat' first
    | assumption
    | (show _ = _; rfl)
    | refine keeps_runCmd ?_ (fun c x hx => ?_)
    | apply keeps_ok
    | (extract_lets +onlyGivenNames x; clear_value x)
    | refine KeepsR.checks ?_
    | split
    | refine Keeps.mk' _ ?_ ?_

theorem keeps_fallback {s0 : State} {s : State} {cause : Nat} (h0 : Keeps s0 s) :
    Keeps s0 (State.fallback s cause) := by
  unfold State.fallback
  with_reducible repeat' first
    | assumption
    | (show _ = _; rfl)
    | apply keeps_takeControl
    | apply keeps_postAll
    | (extract_lets +onlyGivenNames x; clear_value x)
    | split
    | refine Keeps.mk' _ ?_ ?_

theorem keeps_doConfirmWindowExpire {s0 : State} {s : State} (h0 : Keeps s0 s) :
    Keeps s0 (doConfirmWindowExpire s) := by
  unfold doConfirmWindowExpire
  with_reducible repeat' first
    | assumption
    | apply keeps_fallback
    | split

theorem keeps_doUpdRevert {s0 : State} {ch : Nat} {s : State} (h1 : Keeps s0 s) :
    Keeps s0 (doUpdRevert ch s) := by
  unfold doUpdRevert
  with_reducible repeat' first
    | assumption
    | (show _ = _; rfl)
    | refine keeps_runCmd ?_ (fun c x hx => ?_)
    | refine keeps_startLong ?_ (fun n x hx => ?_)
    | apply keeps_beginBoot
    | (extract_lets +onlyGivenNames x; clear_value x)
    | refine KeepsR.checks ?_
    | split
    | refine Keeps.mk' _ ?_ ?_

theorem keeps_doUpdRevertComplete {s0 : State} {img : Image} {env : CommitEnv} {s : State} (h2 : Keeps s0 s) :
    Keeps s0 (doUpdRevertComplete img env s) := by
  unfold doUpdRevertComplete
  with_reducible repeat' first
    | assumption
    | (show _ = _; rfl)
    | apply keeps_opDone
    | apply keeps_fallback
    | apply keeps_goTrial
    | (extract_lets +onlyGivenNames x; clear_value x)
    | split
    | refine Keeps.mk' _ ?_ ?_

theorem keeps_updAbort {s0 : State} {s : State} {o : LongOp} (h0 : Keeps s0 s) :
    Keeps s0 (State.updAbort s o) := by
  unfold State.updAbort
  with_reducible repeat' first
    | assumption
    | (show _ = _; rfl)
    | (extract_lets +onlyGivenNames x; clear_value x)
    | refine Keeps.mk' _ ?_ ?_

theorem keeps_doStandbyBootComplete {s0 : State} {s : State} (h0 : Keeps s0 s) :
    Keeps s0 (doStandbyBootComplete s) := by
  unfold doStandbyBootComplete
  with_reducible repeat' first
    | assumption
    | (show _ = _; rfl)
    | (extract_lets +onlyGivenNames x; clear_value x)
    | split
    | refine Keeps.mk' _ ?_ ?_

theorem keeps_failControl {s0 : State} {s : State} (h0 : Keeps s0 s) :
    Keeps s0 (State.failControl s) := by
  unfold State.failControl
  with_reducible repeat' first
    | assumption
    | (show _ = _; rfl)
    | apply keeps_fallback
    | apply keeps_takeControl
    | (extract_lets +onlyGivenNames x; refine Keeps.cut (s := s0) (x := x) ?_ (fun hx => ?_); rotate_left; clear_value x; rotate_right; unfold x; clear x)
    | (extract_lets +onlyGivenNames x; clear_value x)
    | split
    | refine Keeps.mk' _ ?_ ?_

theorem keeps_doControlTakeover {s0 : State} {s : State} (h0 : Keeps s0 s) :
    Keeps s0 (doControlTakeover s) := by
  unfold doControlTakeover
  with_reducible repeat' first
    | assumption
    | apply keeps_failControl

theorem keeps_drainTo {s0 : State} {avoid b : Nat} {fs : List (Nat × Flow)} {s t : State} (h : Keeps s0 s)
    (e : State.drainTo avoid b fs s = some t) : Keeps s0 t := by
  induction fs generalizing s with
  | nil => cases e; exact h
  | cons p fs ih =>
    obtain ⟨n, f⟩ := p
    unfold State.drainTo at e
    dsimp only at e
    split at e
    · exact ih (keeps_moveFlow h) e
    · cases e

theorem keeps_loadPlace {s0 : State} {s : State} {c : Nat} {pass : Bool} (h0 : Keeps s0 s) :
    Keeps s0 (State.loadPlace s c pass) := by
  unfold State.loadPlace
  with_reducible repeat' first
    | assumption
    | (show _ = _; rfl)
    | apply keeps_modCluster
    | apply keeps_componentEvent
    | apply keeps_failCluster
    | (extract_lets +onlyGivenNames x; refine Keeps.cut (s := s0) (x := x) ?_ (fun hx => ?_); rotate_left; clear_value x; rotate_right; unfold x; clear x)
    | (extract_lets +onlyGivenNames x; clear_value x)
    | refine Keeps.foldl (fun x a hx => ?_) ?_
    | split
    | refine Keeps.mk' _ ?_ ?_

theorem keeps_stopGroup {s0 : State} {s : State} {c : Nat} (h0 : Keeps s0 s) :
    Keeps s0 (State.stopGroup s c) := by
  unfold State.stopGroup
  with_reducible repeat' first
    | assumption
    | apply keeps_encSkip
    | apply keeps_forceKeys
    | apply keeps_haltEncode
    | refine Keeps.foldl (fun x a hx => ?_) ?_
    | split

theorem keeps_doClusterReload {s0 : State} {cl : Nat} {pass : Bool} {s : State} (h : Keeps s0 s) : Keeps s0 (doClusterReload cl pass s) := by
  unfold doClusterReload
  split
  · exact h
  · split
    · exact h
    · extract_lets +onlyGivenNames next
      have hn : ∀ x, Keeps s0 x → Keeps s0 (next x) := fun x hx => Keeps.mk' _ rfl hx
      clear_value next
      split
      · exact hn _ h
      · split
        · exact hn _ (keeps_loadPlace (keeps_stopGroup h))
        · extract_lets +onlyGivenNames t
          obtain ⟨t2, ht⟩ : ∃ t2, t = t2 := ⟨_, rfl⟩
          rw [ht]
          split
          · exact h
          · rename_i u
            have hk : Keeps s0 u := by
              have hu := ht
              unfold t at hu
              split at hu
              · cases hu; exact h
              · exact keeps_drainTo h hu
            extract_lets +onlyGivenNames v
            have hv : Keeps s0 v := keeps_modCluster hk
            clear_value v
            split
            · exact hn _ (keeps_loadPlace hv)
            · exact hv

theorem keeps_doUpdStatus {s0 : State} {ch : Nat} {s : State} (h1 : Keeps s0 s) :
    Keeps s0 (doUpdStatus ch s) := by
  unfold doUpdStatus
  with_reducible repeat' first
    | assumption
    | refine keeps_runCmd ?_ (fun c x hx => ?_)
    | apply keeps_draw
    | apply keeps_okWords
    | (extract_lets +onlyGivenNames x; refine Keeps.cut (s := s0) (x := x.2) ?_ (fun hx => ?_); rotate_left; clear_value x; rotate_right; unfold x; clear x)
    | (extract_lets +onlyGivenNames x; clear_value x)
    | refine KeepsR.checks ?_
    | split

theorem keeps_modProt {s0 : State} {s : State} {f : Prot → Prot} (h0 : Keeps s0 s) :
    Keeps s0 (State.modProt s f) := by
  unfold State.modProt
  with_reducible repeat' first
    | assumption
    | (show _ = _; rfl)
    | refine Keeps.mk' _ ?_ ?_

theorem keeps_doSysConfigSet {s0 : State} {ch : Nat} {s : State} (h1 : Keeps s0 s) :
    Keeps s0 (doSysConfigSet ch s) := by
  unfold doSysConfigSet
  with_reducible repeat' first
    | assumption
    | (show _ = _; rfl)
    | refine keeps_runCmd ?_ (fun c x hx => ?_)
    | apply keeps_ok
    | (extract_lets +onlyGivenNames x; clear_value x)
    | refine KeepsR.checks ?_
    | refine Keeps.mk' _ ?_ ?_

theorem keeps_doSysConfigGet {s0 : State} {ch : Nat} {s : State} (h1 : Keeps s0 s) :
    Keeps s0 (doSysConfigGet ch s) := by
  unfold doSysConfigGet
  with_reducible repeat' first
    | assumption
    | refine keeps_runCmd ?_ (fun c x hx => ?_)
    | apply keeps_okWords
    | refine KeepsR.checks ?_

theorem keeps_doSysHealth {s0 : State} {ch : Nat} {s : State} (h1 : Keeps s0 s) :
    Keeps s0 (doSysHealth ch s) := by
  unfold doSysHealth
  with_reducible repeat' first
    | assumption
    | refine keeps_runCmd ?_ (fun c x hx => ?_)
    | apply keeps_okWords
    | (extract_lets +onlyGivenNames x; clear_value x)
    | refine KeepsR.checks ?_

theorem keeps_drainCluster {s0 : State} {s : State} {cl : Nat} {t : State} (h : Keeps s0 s)
    (e : s.drainCluster cl = some t) : Keeps s0 t := by
  unfold State.drainCluster at e
  split at e
  · cases e; exact h
  · split at e
    · cases e
    · exact keeps_moveAll h e

theorem keeps_unitOff {s0 : State} {s : State} {kind : Nat} {unit : Nat} (h0 : Keeps s0 s) :
    Keeps s0 (State.unitOff s kind unit) := by
  unfold State.unitOff
  with_reducible repeat' first
    | assumption
    | (show _ = _; rfl)
    | apply keeps_clusterGone
    | apply keeps_clearComposer
    | apply keeps_domainOff
    | apply keeps_modCipher
    | (extract_lets +onlyGivenNames x; clear_value x)
    | split
    | refine Keeps.mk' _ ?_ ?_

theorem keeps_unitOn {s0 : State} {s : State} {kind : Nat} {unit : Nat} (h0 : Keeps s0 s) :
    Keeps s0 (State.unitOn s kind unit) := by
  unfold State.unitOn
  with_reducible repeat' first
    | assumption
    | (show _ = _; rfl)
    | apply keeps_domainRestore
    | apply keeps_modCluster
    | apply keeps_modCipher
    | (extract_lets +onlyGivenNames x; refine Keeps.cut (s := s0) (x := x) ?_ (fun hx => ?_); rotate_left; clear_value x; rotate_right; unfold x; clear x)
    | (extract_lets +onlyGivenNames x; clear_value x)
    | split
    | refine Keeps.mk' _ ?_ ?_

theorem keeps_powerOffs {s0 : State} {s : State} (h0 : Keeps s0 s) :
    Keeps s0 (State.powerOffs s) := by
  unfold State.powerOffs
  with_reducible repeat' first
    | assumption
    | apply keeps_unitOff
    | apply keeps_modOp
    | (extract_lets +onlyGivenNames x; clear_value x)
    | refine Keeps.foldl (fun x a hx => ?_) ?_
    | split

theorem keeps_doDrainMarkerPass {s0 : State} {flow : Nat} {s : State} (h1 : Keeps s0 s) :
    Keeps s0 (doDrainMarkerPass flow s) := by
  unfold doDrainMarkerPass
  with_reducible repeat' first
    | assumption
    | apply keeps_powerOffs
    | apply keeps_drainMarker

theorem keeps_doClusterFail {s0 : State} {cl : Nat} {cause : Nat} {s : State} (h2 : Keeps s0 s) :
    Keeps s0 (doClusterFail cl cause s) := by
  unfold doClusterFail
  with_reducible repeat' first
    | assumption
    | apply keeps_powerOffs
    | apply keeps_failCluster

theorem keeps_startReset {s0 : State} {s : State} {fn : Nat} {h_ : Nat} {kind : Nat} {unit : Nat} (h0 : Keeps s0 s) :
    Keeps s0 (State.startReset s fn h_ kind unit) := by
  unfold State.startReset
  with_reducible repeat' first
    | assumption
    | apply keeps_powerOffs
    | apply keeps_modCluster
    | apply keeps_unitOff
    | apply keeps_modOp
    | split

theorem keeps_doSysResetUnit {s0 : State} {ch : Nat} {s : State} (h : Keeps s0 s) : Keeps s0 (doSysResetUnit ch s) := by
  unfold doSysResetUnit
  refine keeps_runCmd h (fun c x hx => ?_)
  extract_lets kind unit
  refine KeepsR.checks ?_
  split
  · exact KeepsR.fail
  · rename_i t ht
    have h1 : Keeps s0 t := by
      split at ht
      · exact keeps_drainCluster hx ht
      · cases ht; exact hx
    exact keeps_startLong h1 (fun n y hy => keeps_startReset hy)

theorem keeps_doUnitResetComplete {s0 : State} {kind : Nat} {unit : Nat} {pass : Bool} {s : State} (h3 : Keeps s0 s) :
    Keeps s0 (doUnitResetComplete kind unit pass s) := by
  unfold doUnitResetComplete
  with_reducible repeat' first
    | assumption
    | apply keeps_powerOffs
    | apply keeps_undrain
    | apply keeps_opDone
    | apply keeps_postAll
    | apply keeps_unitOn
    | (extract_lets +onlyGivenNames x; refine Keeps.cut (s := s0) (x := x) ?_ (fun hx => ?_); rotate_left; clear_value x; rotate_right; unfold x; clear x)
    | split

theorem keeps_calPhase {s0 : State} {s : State} {o : LongOp} {p : Nat} (h0 : Keeps s0 s) :
    Keeps s0 (State.calPhase s o p) := by
  unfold State.calPhase
  with_reducible repeat' first
    | assumption
    | apply keeps_modOp

theorem keeps_calKeep {s0 : State} {s : State} {o : LongOp} {was : Bool} (h0 : Keeps s0 s) :
    Keeps s0 (State.calKeep s o was) := by
  unfold State.calKeep
  with_reducible repeat' first
    | assumption
    | apply keeps_modOp

theorem keeps_calDrain {s0 : State} {s : State} {o : LongOp} (h : Keeps s0 s) : Keeps s0 (s.calDrain o) := by
  unfold State.calDrain
  extract_lets +onlyGivenNames u
  split
  · exact h
  · split
    · exact keeps_calPhase h
    · split
      · split
        · exact keeps_calPhase h
        · extract_lets +onlyGivenNames fs t
          obtain ⟨t2, ht⟩ : ∃ t2, t = t2 := ⟨_, rfl⟩
          rw [ht]
          split
          · exact keeps_calPhase h
          · rename_i v
            have hk : Keeps s0 v := by
              have hv := ht
              unfold t at hv
              split at hv
              · cases hv; exact h
              · split at hv
                · cases hv
                · exact keeps_drainTo h hv
            exact keeps_calPhase (keeps_modCluster hk)
      · exact keeps_calPhase (keeps_clearComposer h)
      · exact keeps_calPhase h
      · exact keeps_calPhase h
      · exact keeps_calPhase h
      · split
        · exact h
        · extract_lets +onlyGivenNames good t
          have ht : Keeps s0 t := by
            unfold t; split
            · exact keeps_modGroup h
            · exact keeps_lanesFail h
          exact keeps_calPhase (keeps_calKeep ht)
      · split
        · exact keeps_calPhase h
        · exact keeps_calPhase (Keeps.mk' _ rfl h)

theorem keeps_calNext {s0 : State} {s : State} {a : Nat} (h0 : Keeps s0 s) :
    Keeps s0 (State.calNext s a) := by
  unfold State.calNext
  with_reducible repeat' first
    | assumption
    | apply keeps_calDrain
    | split

theorem keeps_calTake {s0 : State} {s : State} {o : LongOp} (h0 : Keeps s0 s) :
    Keeps s0 (State.calTake s o) := by
  unfold State.calTake
  with_reducible repeat' first
    | assumption
    | (show _ = _; rfl)
    | apply keeps_modProt
    | apply keeps_calKeep
    | (extract_lets +onlyGivenNames x; refine Keeps.cut (s := s0) (x := x) ?_ (fun hx => ?_); rotate_left; clear_value x; rotate_right; unfold x; clear x)
    | (extract_lets +onlyGivenNames x; clear_value x)
    | split
    | refine Keeps.mk' _ ?_ ?_

theorem keeps_calReturn {s0 : State} {s : State} {o : LongOp} (h0 : Keeps s0 s) :
    Keeps s0 (State.calReturn s o) := by
  unfold State.calReturn
  with_reducible repeat' first
    | assumption
    | (show _ = _; rfl)
    | apply keeps_undrain
    | apply keeps_modProt
    | apply keeps_laneGood
    | (extract_lets +onlyGivenNames x; refine Keeps.cut (s := s0) (x := x) ?_ (fun hx => ?_); rotate_left; clear_value x; rotate_right; unfold x; clear x)
    | (extract_lets +onlyGivenNames x; clear_value x)
    | split
    | refine Keeps.mk' _ ?_ ?_

theorem keeps_doCalRequest {s0 : State} {ch : Nat} {s : State} (h1 : Keeps s0 s) :
    Keeps s0 (doCalRequest ch s) := by
  unfold doCalRequest
  with_reducible repeat' first
    | assumption
    | refine keeps_runCmd ?_ (fun c x hx => ?_)
    | refine keeps_startLong ?_ (fun n x hx => ?_)
    | apply keeps_calNext
    | (extract_lets +onlyGivenNames x; clear_value x)
    | refine KeepsR.checks ?_

theorem keeps_doCalStart {s0 : State} {kind : Nat} {unit : Nat} {s : State} (h2 : Keeps s0 s) :
    Keeps s0 (doCalStart kind unit s) := by
  unfold doCalStart
  with_reducible repeat' first
    | assumption
    | apply keeps_calNext
    | apply keeps_modOp
    | apply keeps_calTake
    | (extract_lets +onlyGivenNames x; refine Keeps.cut (s := s0) (x := x) ?_ (fun hx => ?_); rotate_left; clear_value x; rotate_right; unfold x; clear x)
    | (extract_lets +onlyGivenNames x; clear_value x)
    | split

theorem keeps_calPassed {s0 : State} {s : State} {kind : Nat} {u : Nat} (h0 : Keeps s0 s) :
    Keeps s0 (State.calPassed s kind u) := by
  unfold State.calPassed
  with_reducible repeat' first
    | assumption
    | (show _ = _; rfl)
    | apply keeps_draw
    | apply keeps_modPchan
    | apply keeps_laneGood
    | (extract_lets +onlyGivenNames x; refine Keeps.cut (s := s0) (x := x.2) ?_ (fun hx => ?_); rotate_left; clear_value x; rotate_right; unfold x; clear x)
    | (extract_lets +onlyGivenNames x; clear_value x)
    | split
    | refine Keeps.mk' _ ?_ ?_

theorem keeps_calFailed {s0 : State} {s : State} {kind : Nat} {u : Nat} (h0 : Keeps s0 s) :
    Keeps s0 (State.calFailed s kind u) := by
  unfold State.calFailed
  with_reducible repeat' first
    | assumption
    | apply keeps_clusterGone
    | apply keeps_domainOff
    | split

theorem keeps_doCalDone {s0 : State} {kind : Nat} {unit : Nat} {result : Nat} {durUs : Nat} {s : State} (h4 : Keeps s0 s) :
    Keeps s0 (doCalDone kind unit result durUs s) := by
  unfold doCalDone
  with_reducible repeat' first
    | assumption
    | apply keeps_calFailed
    | apply keeps_undrain
    | apply keeps_calPassed
    | apply keeps_calReturn
    | apply keeps_calNext
    | apply keeps_calResult
    | (extract_lets +onlyGivenNames x; clear_value x)
    | split

theorem keeps_doCalStatus {s0 : State} {ch : Nat} {s : State} (h1 : Keeps s0 s) :
    Keeps s0 (doCalStatus ch s) := by
  unfold doCalStatus
  with_reducible repeat' first
    | assumption
    | refine keeps_runCmd ?_ (fun c x hx => ?_)
    | apply keeps_ok
    | apply keeps_okWords
    | (extract_lets +onlyGivenNames x; clear_value x)
    | refine KeepsR.checks ?_
    | split

theorem keeps_undoOp {s0 : State} {s : State} {o : LongOp} (h0 : Keeps s0 s) :
    Keeps s0 (State.undoOp s o) := by
  unfold State.undoOp
  with_reducible repeat' first
    | assumption
    | (show _ = _; rfl)
    | apply keeps_portAbort
    | apply keeps_groupOff
    | apply keeps_modOp
    | apply keeps_calReturn
    | apply keeps_updAbort
    | apply keeps_undrain
    | (extract_lets +onlyGivenNames x; clear_value x)
    | split
    | refine Keeps.mk' _ ?_ ?_

theorem keeps_doOpAbort {s0 : State} {ch : Nat} {s : State} (h1 : Keeps s0 s) :
    Keeps s0 (doOpAbort ch s) := by
  unfold doOpAbort
  with_reducible repeat' first
    | assumption
    | refine keeps_runCmd ?_ (fun c x hx => ?_)
    | apply keeps_modOp
    | apply keeps_undoOp
    | apply keeps_ok
    | apply keeps_calNext
    | (extract_lets +onlyGivenNames x; refine Keeps.cut (s := s0) (x := x) ?_ (fun hx => ?_); rotate_left; clear_value x; rotate_right; unfold x; clear x)
    | exact KeepsR.fail
    | refine KeepsR.checks ?_
    | split

theorem keeps_flr {s0 : State} {s : State} {f : Nat} (h0 : Keeps s0 s) :
    Keeps s0 (State.flr s f) := by
  unfold State.flr
  with_reducible repeat' first
    | assumption
    | (show _ = _; rfl)
    | apply keeps_unreserve
    | apply keeps_modFn
    | (extract_lets +onlyGivenNames x; refine Keeps.cut (s := s0) (x := x) ?_ (fun hx => ?_); rotate_left; clear_value x; rotate_right; unfold x; clear x)
    | (extract_lets +onlyGivenNames x; have this : Time := x; clear this)
    | (extract_lets +onlyGivenNames x; clear_value x)
    | split
    | refine Keeps.mk' _ ?_ ?_

theorem keeps_doFunctionLevelReset {s0 : State} {fn : Nat} {s : State} (h1 : Keeps s0 s) :
    Keeps s0 (doFunctionLevelReset fn s) := by
  unfold doFunctionLevelReset
  with_reducible repeat' first
    | assumption
    | apply keeps_flr

theorem keeps_doVfEnableClear {s0 : State} {port : Nat} {s : State} (h1 : Keeps s0 s) :
    Keeps s0 (doVfEnableClear port s) := by
  unfold doVfEnableClear
  with_reducible repeat' first
    | assumption
    | apply keeps_flr
    | refine Keeps.foldl (fun x a hx => ?_) ?_

theorem keeps_pairFault {s0 : State} {s : State} {i : Nat} (h0 : Keeps s0 s) :
    Keeps s0 (State.pairFault s i) := by
  unfold State.pairFault
  with_reducible repeat' first
    | assumption
    | (show _ = _; rfl)
    | apply keeps_domainOff
    | apply keeps_unitFault
    | apply keeps_failControl
    | apply keeps_stopModule
    | (extract_lets +onlyGivenNames x; refine Keeps.cut (s := s0) (x := x) ?_ (fun hx => ?_); rotate_left; clear_value x; rotate_right; unfold x; clear x)
    | (extract_lets +onlyGivenNames x; clear_value x)
    | split
    | refine Keeps.mk' _ ?_ ?_

theorem keeps_doDomainFault {s0 : State} {d : Nat} {s : State} (h : Keeps s0 s) : Keeps s0 (doDomainFault d s) := by
  unfold doDomainFault
  extract_lets +onlyGivenNames s1
  have h1 : Keeps s0 s1 := keeps_domainOff h
  clear_value s1
  refine keeps_ite ?_ ?_
  · exact keeps_powerOffs (keeps_failCluster h1)
  refine keeps_ite ?_ ?_
  · exact h1
  refine keeps_ite ?_ ?_
  · exact keeps_failComposer h1
  refine keeps_ite ?_ ?_
  · exact keeps_stopModule h1
  refine keeps_ite ?_ ?_
  · exact Keeps.foldl (fun x a hx => keeps_linkLost hx) h1
  refine keeps_ite ?_ ?_
  · refine Keeps.foldl (fun x a hx => ?_) h1
    extract_lets g
    exact keeps_ite (keeps_groupDown hx) hx
  refine keeps_ite ?_ ?_
  · exact keeps_failHalf h1
  refine keeps_ite ?_ ?_
  · exact keeps_pairFault h1
  refine keeps_ite ?_ ?_
  · exact keeps_failTrail h1
  · exact Keeps.mk' _ rfl h1

theorem keeps_modPower {s0 : State} {s : State} {f : Power → Power} (h0 : Keeps s0 s) :
    Keeps s0 (State.modPower s f) := by
  unfold State.modPower
  with_reducible repeat' first
    | assumption
    | (show _ = _; rfl)
    | refine Keeps.mk' _ ?_ ?_

theorem keeps_modPins {s0 : State} {s : State} {f : Pins → Pins} (h0 : Keeps s0 s) :
    Keeps s0 (State.modPins s f) := by
  unfold State.modPins
  with_reducible repeat' first
    | assumption
    | (show _ = _; rfl)
    | refine Keeps.mk' _ ?_ ?_

theorem keeps_supplyEvent {s0 : State} {s : State} {cause : Nat} {mv : Nat} {status : Nat} (h0 : Keeps s0 s) :
    Keeps s0 (State.supplyEvent s cause mv status) := by
  unfold State.supplyEvent
  with_reducible repeat' first
    | assumption
    | apply keeps_postAll

theorem keeps_doTelemetryRead {s0 : State} {t : Telemetry} {s : State} (h1 : Keeps s0 s) :
    Keeps s0 (doTelemetryRead t s) := by
  unfold doTelemetryRead
  with_reducible repeat' first
    | assumption
    | apply keeps_modPower
    | apply keeps_supplyEvent
    | (extract_lets +onlyGivenNames x; refine Keeps.cut (s := s0) (x := x) ?_ (fun hx => ?_); rotate_left; clear_value x; rotate_right; unfold x; clear x)
    | (extract_lets +onlyGivenNames x; clear_value x)
    | split

theorem keeps_doTelemetryLost {s0 : State} {s : State} (h0 : Keeps s0 s) :
    Keeps s0 (doTelemetryLost s) := by
  unfold doTelemetryLost
  with_reducible repeat' first
    | assumption
    | apply keeps_supplyEvent
    | apply keeps_modPower
    | split

theorem keeps_doInputVoltageExcursion {s0 : State} {mv : Nat} {s : State} (h1 : Keeps s0 s) :
    Keeps s0 (doInputVoltageExcursion mv s) := by
  unfold doInputVoltageExcursion
  with_reducible repeat' first
    | assumption
    | apply keeps_supplyEvent
    | apply keeps_modPower
    | split

theorem keeps_capEvent {s0 : State} {s : State} {mean : Nat} {up : Nat} (h0 : Keeps s0 s) :
    Keeps s0 (State.capEvent s mean up) := by
  unfold State.capEvent
  with_reducible repeat' first
    | assumption
    | apply keeps_postAll

theorem keeps_doPowerCapStep {s0 : State} {mean10ms : Nat} {s : State} (h1 : Keeps s0 s) :
    Keeps s0 (doPowerCapStep mean10ms s) := by
  unfold doPowerCapStep
  with_reducible repeat' first
    | assumption
    | apply keeps_capEvent
    | apply keeps_clocksFall
    | apply keeps_modPower
    | (extract_lets +onlyGivenNames x; clear_value x)
    | split

theorem keeps_doPowerCapUndo {s0 : State} {mean1s : Nat} {s : State} (h1 : Keeps s0 s) :
    Keeps s0 (doPowerCapUndo mean1s s) := by
  unfold doPowerCapUndo
  with_reducible repeat' first
    | assumption
    | apply keeps_capEvent
    | apply keeps_modPower
    | (extract_lets +onlyGivenNames x; clear_value x)
    | split

theorem keeps_doVoltageLoopReport {s0 : State} {cl : Nat} {margin : Nat} {s : State} (h2 : Keeps s0 s) :
    Keeps s0 (doVoltageLoopReport cl margin s) := by
  unfold doVoltageLoopReport
  with_reducible repeat' first
    | assumption
    | apply keeps_clockFall
    | apply keeps_modRail
    | (extract_lets +onlyGivenNames x; clear_value x)
    | split

theorem keeps_doDroop {s0 : State} {cl : Nat} {mv : Nat} {s : State} (h2 : Keeps s0 s) :
    Keeps s0 (doDroop cl mv s) := by
  unfold doDroop
  with_reducible repeat' first
    | assumption
    | apply keeps_occur
    | apply keeps_modRail
    | (extract_lets +onlyGivenNames x; clear_value x)
    | split

theorem keeps_doDroopEnd {s0 : State} {cl : Nat} {s : State} (h1 : Keeps s0 s) :
    Keeps s0 (doDroopEnd cl s) := by
  unfold doDroopEnd
  with_reducible repeat' first
    | assumption
    | apply keeps_modRail
    | split

theorem keeps_crossing {s0 : State} {s : State} {sensor : Nat} {threshold : Nat} {old : Int} {new : Int} (h0 : Keeps s0 s) :
    Keeps s0 (State.crossing s sensor threshold old new) := by
  unfold State.crossing
  with_reducible repeat' first
    | assumption
    | apply keeps_postAll
    | (extract_lets +onlyGivenNames x; clear_value x)
    | split

theorem keeps_thermalUnit {s0 : State} {s : State} {sensor : Nat} {reading : Int} (h0 : Keeps s0 s) :
    Keeps s0 (State.thermalUnit s sensor reading) := by
  unfold State.thermalUnit
  with_reducible repeat' first
    | assumption
    | apply keeps_modCluster
    | apply keeps_clockFall
    | apply keeps_modRail
    | apply keeps_modPower
    | (extract_lets +onlyGivenNames x; refine Keeps.cut (s := s0) (x := x) ?_ (fun hx => ?_); rotate_left; clear_value x; rotate_right; unfold x; clear x)
    | split

theorem keeps_reading {s0 : State} {s : State} {sensor : Nat} {reading : Int} (h0 : Keeps s0 s) :
    Keeps s0 (State.reading s sensor reading) := by
  unfold State.reading
  with_reducible repeat' first
    | assumption
    | apply keeps_modPower
    | apply keeps_crossing
    | apply keeps_thermalUnit
    | apply keeps_stopModule
    | (extract_lets +onlyGivenNames x; refine Keeps.cut (s := s0) (x := x) ?_ (fun hx => ?_); rotate_left; clear_value x; rotate_right; unfold x; clear x)
    | (extract_lets +onlyGivenNames x; clear_value x)
    | split

theorem keeps_doThermalLoop {s0 : State} {sensor : Nat} {reading : Int} {s : State} (h2 : Keeps s0 s) :
    Keeps s0 (doThermalLoop sensor reading s) := by
  unfold doThermalLoop
  with_reducible repeat' first
    | assumption
    | apply keeps_reading

theorem keeps_doThermalTrip {s0 : State} {sensor : Nat} {reading : Int} {s : State} (h2 : Keeps s0 s) :
    Keeps s0 (doThermalTrip sensor reading s) := by
  unfold doThermalTrip
  with_reducible repeat' first
    | assumption
    | apply keeps_reading

/-- What every command keeps, the power-side ones too: the queue, and the canonical form of memory. -/
structure KeepsQ (s t : State) : Prop where
  pending : t.pending = s.pending
  mem : Memory.wf s.mem = true → Memory.wf t.mem = true

theorem Keeps.q {s t : State} (h : Keeps s t) : KeepsQ s t := ⟨h.pending, fun w => h.mem ▸ w⟩
theorem KeepsM.q {s t : State} (h : KeepsM s t) : KeepsQ s t := ⟨h.choose_spec.2.pending, h.wf⟩

theorem keepsQ_unpower (s : State) : KeepsQ s s.unpower := ⟨rfl, fun _ => rfl⟩
theorem keepsQ_start (s : State) (fwrev : Nat) (ac : Bool) : KeepsQ s (s.start fwrev ac) := ⟨rfl, fun _ => rfl⟩
theorem keepsQ_doPowerOn (fwrev : Nat) (ac : Bool) (s : State) : KeepsQ s (doPowerOn fwrev ac s) := by
  unfold doPowerOn; split
  · exact (Keeps.refl s).q
  · exact keepsQ_start _ _ _
theorem keepsQ_doPowerRemoved (s : State) : KeepsQ s (doPowerRemoved s) := keepsQ_unpower s
theorem keepsQ_doPmbCtrlLow (s : State) : KeepsQ s (doPmbCtrlLow s) := ⟨rfl, fun _ => rfl⟩
theorem keepsQ_doPmbusCommand (addr cmd : Nat) (data : List Byte) (s : State) : KeepsQ s (doPmbusCommand addr cmd data s) := by
  unfold doPmbusCommand; split
  · split
    · exact (Keeps.refl s).q
    · split
      · exact ⟨rfl, fun _ => rfl⟩
      · exact ⟨rfl, id⟩
  · exact (Keeps.refl s).q
theorem keepsQ_doModuleReset (s : State) : KeepsQ s (doModuleReset s) := by
  unfold doModuleReset State.restartModule; split
  · exact keepsQ_start _ _ _
  · exact (Keeps.refl s).q
theorem keepsQ_doPerstAssert (p : Nat) (s : State) : KeepsQ s (doPerstAssert p s) := by
  unfold doPerstAssert
  extract_lets +onlyGivenNames s1
  have h1 : Keeps s s1 := keeps_modPins (Keeps.refl s)
  clear_value s1
  split
  · exact h1.q
  · extract_lets +onlyGivenNames s2
    have h2 : Keeps s s2 := keeps_modPins h1
    clear_value s2
    exact (Keeps.foldl (fun x a hx => keeps_flr hx) h2).q
  · exact ⟨h1.pending, fun _ => rfl⟩

theorem keeps_doPerstDeassert {s0 : State} {p : Nat} {s : State} (h1 : Keeps s0 s) :
    Keeps s0 (doPerstDeassert p s) := by
  unfold doPerstDeassert
  with_reducible repeat' first
    | assumption
    | apply keeps_modPins
    | apply keeps_componentEvent
    | (extract_lets +onlyGivenNames x; refine Keeps.cut (s := s0) (x := x) ?_ (fun hx => ?_); rotate_left; clear_value x; rotate_right; unfold x; clear x)
    | (extract_lets +onlyGivenNames x; clear_value x)
    | split

theorem keeps_stageLoad {s0 : State} {c : Ctx} {s : State} {st : Nat} {buf : BufRead} (h1 : Keeps s0 s) :
    KeepsR s0 (stageLoad c s st buf) := by
  unfold stageLoad
  with_reducible repeat' first
    | assumption
    | (show _ = _; rfl)
    | apply keeps_ok
    | (extract_lets +onlyGivenNames x; clear_value x)
    | refine KeepsR.checks ?_
    | refine Keeps.mk' _ ?_ ?_

theorem keeps_takeOff {s0 : State} {s : State} {point : Nat} {obj : Nat} {pos : Nat} (h0 : Keeps s0 s) :
    Keeps s0 (State.takeOff s point obj pos) := by
  unfold State.takeOff
  with_reducible repeat' first
    | assumption
    | (show _ = _; rfl)
    | (extract_lets +onlyGivenNames x; clear_value x)
    | refine Keeps.mk' _ ?_ ?_

theorem keeps_stageAttach {s0 : State} {c : Ctx} {s : State} {st : Nat} (h1 : Keeps s0 s) :
    KeepsR s0 (stageAttach c s st) := by
  unfold stageAttach
  with_reducible repeat' first
    | assumption
    | (show _ = _; rfl)
    | refine keeps_withFlows ?_ (fun x hx => ?_)
    | apply keeps_takeOff
    | apply keeps_ok
    | (extract_lets +onlyGivenNames put; have this : _ → State := put; clear this)
    | unfold put
    | (extract_lets +onlyGivenNames x; clear_value x)
    | refine KeepsR.checks ?_
    | refine Keeps.mk' _ ?_ ?_

theorem keeps_stageDetach {s0 : State} {c : Ctx} {s : State} (h1 : Keeps s0 s) :
    KeepsR s0 (stageDetach c s) := by
  unfold stageDetach
  with_reducible repeat' first
    | assumption
    | apply keeps_ok
    | apply keeps_settle
    | apply keeps_takeOff
    | (extract_lets +onlyGivenNames x; clear_value x)
    | refine KeepsR.checks ?_

theorem keeps_stageUnload {s0 : State} {s : State} {st : Nat} (h0 : Keeps s0 s) :
    KeepsR s0 (stageUnload s st) := by
  unfold stageUnload
  with_reducible repeat' first
    | assumption
    | (show _ = _; rfl)
    | apply keeps_ok
    | refine KeepsR.checks ?_
    | refine Keeps.mk' _ ?_ ?_

theorem keeps_doAudStage {s0 : State} {ch : Nat} {buf : BufRead} {s : State} (h2 : Keeps s0 s) :
    Keeps s0 (doAudStage ch buf s) := by
  unfold doAudStage
  with_reducible repeat' first
    | assumption
    | refine keeps_runCmd ?_ (fun c x hx => ?_)
    | apply keeps_stageLoad
    | apply keeps_stageAttach
    | apply keeps_stageDetach
    | apply keeps_stageUnload
    | (extract_lets +onlyGivenNames x; clear_value x)
    | refine KeepsR.checks ?_
    | split

theorem keeps_putBlock {s0 : State} {s : State} {point : Nat} {obj : Nat} {talker : Nat} {x : List Int} (h0 : Keeps s0 s) :
    Keeps s0 (State.putBlock s point obj talker x) := by
  unfold State.putBlock
  with_reducible repeat' first
    | assumption
    | apply keeps_modIn
    | apply keeps_modConf
    | apply keeps_modAud
    | split

theorem keeps_stageHear {s0 : State} {s : State} {point : Nat} {obj : Nat} (h0 : Keeps s0 s) :
    Keeps s0 (State.stageHear s point obj) := by
  unfold State.stageHear
  with_reducible repeat' first
    | assumption
    | apply keeps_hear
    | (extract_lets +onlyGivenNames x; clear_value x)
    | split

theorem keeps_modAtt {s0 : State} {s : State} {a : StageAtt} {g : StageAtt → StageAtt} (h0 : Keeps s0 s) :
    Keeps s0 (State.modAtt s a g) := by
  unfold State.modAtt
  with_reducible repeat' first
    | assumption
    | (show _ = _; rfl)
    | (extract_lets +onlyGivenNames x; clear_value x)
    | refine Keeps.mk' _ ?_ ?_

theorem keeps_stagesDone {s0 : State} {s : State} {point : Nat} {obj : Nat} (h0 : Keeps s0 s) :
    Keeps s0 (State.stagesDone s point obj) := by
  unfold State.stagesDone
  with_reducible repeat' first
    | assumption
    | apply keeps_heard
    | split

theorem keeps_stageFault {s0 : State} {s : State} {a : StageAtt} (h0 : Keeps s0 s) :
    Keeps s0 (State.stageFault s a) := by
  unfold State.stageFault
  with_reducible repeat' first
    | assumption
    | (show _ = _; rfl)
    | apply keeps_postObj
    | apply keeps_postLeg
    | apply keeps_settle
    | split
    | refine Keeps.mk' _ ?_ ?_

theorem keeps_stageAct {s0 : State} {s : State} {point obj pos talker : Nat} {g : StageAtt → Stage → List Int → State → State}
    (h : Keeps s0 s) (hg : ∀ a st x t, Keeps s0 t → Keeps s0 (g a st x t)) : Keeps s0 (s.stageAct point obj pos talker g) := by
  unfold State.stageAct
  extract_lets s1
  have h1 : Keeps s0 s1 := keeps_stageHear h
  clear_value s1
  split
  · split
    · exact keeps_stagesDone (hg _ _ _ _ h1)
    · exact h1
  · exact h1

theorem keeps_stageOutput {s0 : State} {s : State} {a : StageAtt} {st : Stage} {talker : Nat} {x : List Int} {samples : List Int} {passOn : Bool} {state : List Byte} (h0 : Keeps s0 s) :
    Keeps s0 (State.stageOutput s a st talker x samples passOn state) := by
  unfold State.stageOutput
  with_reducible repeat' first
    | assumption
    | apply keeps_occurN
    | apply keeps_putBlock
    | apply keeps_modAtt
    | split

theorem keeps_doStageRun {s0 : State} {point : Nat} {obj : Nat} {pos : Nat} {talker : Nat} {r : StageResult} {s : State} (h5 : Keeps s0 s) :
    Keeps s0 (doStageRun point obj pos talker r s) := by
  unfold doStageRun
  with_reducible repeat' first
    | assumption
    | refine keeps_stageAct ?_ (fun a st y x hx => ?_)
    | apply keeps_stageOutput
    | apply keeps_stageFault
    | apply keeps_occur
    | split

theorem keeps_doStageTimerExpire {s0 : State} {point : Nat} {obj : Nat} {pos : Nat} {talker : Nat} {s : State} (h4 : Keeps s0 s) :
    Keeps s0 (doStageTimerExpire point obj pos talker s) := by
  unfold doStageTimerExpire
  with_reducible repeat' first
    | assumption
    | refine keeps_stageAct ?_ (fun a st y x hx => ?_)
    | apply keeps_occur
    | apply keeps_stageFault
    | apply keeps_putBlock
    | apply keeps_modAtt
    | (extract_lets +onlyGivenNames x; refine Keeps.cut (s := s0) (x := x) ?_ (fun hx => ?_); rotate_left; clear_value x; rotate_right; unfold x; clear x)
    | (extract_lets +onlyGivenNames x; clear_value x)
    | split

end Sys2Proof.Machine
end

