-- ==== Sys2Proof/Tests/Slice0.lean ====
section
/-! SUPPORT. The model's own tests. -/

set_option linter.unusedVariables false
set_option maxRecDepth 8000
set_option Elab.async false

namespace Sys2Proof.Tests

open Sys2Proof Sys2Proof.Machine

/-- A state with a command alone on a request channel's queue. -/
def put (s : State) (ch op : Nat) (args : List Nat) : State := s.setQueue ch [⟨op, 7, args.map (BitVec.ofNat 32), none⟩]
/-- That command as its body sees it. -/
def cx (ch op : Nat) (args : List Nat) : Ctx := ⟨ch, issuerOf ch, op, 7, args.map (BitVec.ofNat 32)⟩

theorem head (s : State) (ch op : Nat) (args : List Nat) (h : reqOk ch = true) (w : tget s.ctl.waits ch = none ∧ s.noTenant (issuerOf ch) op = false) :
    AtHead (put s ch op args) (cx ch op args) op [] :=
  ⟨h, rfl, rfl, by simp [put, cx, State.queue, State.setQueue, tgetD_tset_same], w.1, w.2⟩

abbrev r0 : State := State.reset

/-- The value of a computation that succeeds. -/
def okv {ε : Type} (x : Except ε State) : State := x.toOption.getD r0
theorem okGet {ε : Type} {x : Except ε State} (h : x.toOption.isSome = true) : x = .ok (okv x) := by
  cases x with
  | ok v => rfl
  | error e => cases h
theorem okOf {ε α : Type} {x : Except ε α} {a : α} (h : x.toOption = some a) : x = .ok a := by
  cases x with
  | ok v => cases h; rfl
  | error e => cases h
def errv {ε α : Type} (x : Except ε α) : Option ε :=
  match x with
  | .error e => some e
  | .ok _ => none
theorem errOf {ε α : Type} {x : Except ε α} {e : ε} (h : errv x = some e) : x = .error e := by
  cases x with
  | ok v => cases h
  | error e => cases h; rfl
theorem lt4 {P : Nat → Prop} (h0 : P 0) (h1 : P 1) (h2 : P 2) (h3 : P 3) : ∀ k, k < 4 → P k := by
  intro k hk
  match k, hk with
  | 0, _ => exact h0
  | 1, _ => exact h1
  | 2, _ => exact h2
  | 3, _ => exact h3

/-- A channel of PF 0, its answer channel, and a shared channel. -/
def sBind : State := { r0 with binds := [(0, ⟨0, 0xC0, false, true⟩), (1, ⟨0xC0, 0, false, true⟩), (264, ⟨0x80, 0xC0, true, true⟩)] }

/-- A leg of conference 0 with every setting plain. -/
def leg0 : Leg := newLeg r0 ⟨0, 0, 0, false, 0, 3, 0, 3, false, 0, 0, 0, 5000, 6000, 0, 0, 0, 0x020000000001, 1, 2⟩ 1 0
/-- Conference 0 with leg 0, both of PF 0. -/
def sLeg : State := { r0 with confs := [(0, { tenant := 0, mix := true, group := 0, creator := 0 })], legs := [(0, leg0)] }

/-- A serving module. -/
def sServ : State := { r0 with power := { r0.power with cond := .serving } }

/-- A module all of whose units are in service. -/
def sWhole : State := { r0 with clusters := (List.range 48).map fun k => (k, { inService := true }), trail := { r0.trail with copies := [true, true] }, prot := { r0.prot with halves := [true, true], composers := [true, true, true, true] }, ctl := { r0.ctl with pairs := [true, true], standbyReady := true }, pins := { r0.pins with modReady := true } }
/-- It with a long operation that PF 0 has started. -/
def sOp (op a phase state : Nat) : State := { sWhole with ctl := { sWhole.ctl with ops := [{ fn := 0, handle := 1, tag := 7, opcode := op, state := state, serial := 1, a := a, phase := phase }] } }

/-- Canvas 0 of PF 0 on a composer. -/
def cv0 (k : Nat) : Canvas := { composer := k, tenant := 0, creator := 0, w := 320, h := 240, fps := 30, lowDelay := false, nsurf := 3, switchMax := 8, bgY := 0, bgCb := 512, bgCr := 512 }
/-- A stopped flow of canvas 0 on cluster 0, with other clusters in service. -/
def sStop (cs : List (Nat × Cluster)) : State := { r0 with clusters := cs, canvases := [(0, cv0 1)], trail := { r0.trail with flows := [(5, { owner := .canvas 0, cycles := 1000, place := 0, stopped := true })] } }
/-- Encode job 0 with its settings. -/
def ej0 : EncJob := { cfg := ⟨0, 0, 0, 0, 0, 640, 360, 2, 50, 0, 1000000, false, true, 0, 1200⟩, prio := 2, group := none, creator := 0, tenant := 0, encs := [{}], degrade := 1 }

theorem fwEx : ∃ n : Nat, Config.peerFwMajor 1 = n / 2 ^ 24 := ⟨Config.peerFwMajor 1 * 2 ^ 24, (Nat.mul_div_cancel _ (by decide)).symm⟩
/-- A FWREV of the same major version as module 1's. -/
noncomputable def fwN : Nat := Classical.choose fwEx
/-- Leg 0 with a protection class, and module 1 as the partner on link group 0. -/
noncomputable def sProt (k : Nat) : State := { sLeg with legs := [(0, { leg0 with prot := k })], clusters := [(0, { inService := true }), (24, { inService := true })], casc := { r0.casc with self := some 0, peers := [(1, ⟨0, false, true, false, 0, 0, 0⟩)], groups := [(0, { st := 3 })] }, prot := { r0.prot with en := true, partner := 1, portMap := [(0, 2), (1, 15)] }, upd := { r0.upd with fwActive := fwN } }
/-- A PROT.CLASS that waits on channel 0. -/
noncomputable def sWait (m : Nat) : State := { sProt 0 with ctl := { r0.ctl with waits := [(0, ⟨7, 0, 2, 1, 0, 5⟩)] }, time := { r0.time with m := m } }

/-- An update session of PF 0 for an image of one short unit. -/
def sUpd (us : List Nat) : State := { sWhole with upd := { r0.upd with phase := 1, session := some { owner := 0, len := 4, units := us } } }
/-- A good image, with and without microcode. -/
def img0 : Image := ⟨true, 0x6548, 0x10, 0x01000000, 1, false, 0, true, true, 1, [(0, 1)]⟩
/-- A long operation of the update complex that PF 0 has started. -/
def sUop (op b : Nat) : State := { sWhole with ctl := { sWhole.ctl with ops := [{ fn := 0, handle := 1, tag := 7, opcode := op, serial := 1, b := b }] } }
/-- A trial that has run out at 600 s. -/
def sTrial : State := { sWhole with upd := { r0.upd with phase := 3, fwActive := 0x02000000, fwOther := 0x01000000, trialEnd := 600000 }, time := { r0.time with m := 600000 } }
/-- Clusters to be reloaded. -/
def sReload (ls : List Nat) : State := { sWhole with upd := { r0.upd with phase := 3, reloading := ls } }

/-- A serving module on auxiliary power, its domains on, with derating applications made. -/
def sPow (ap : List Nat) : State := { sWhole with power := { r0.power with cond := .serving, ac := true, applied := ap, pdOn := List.range 80 }, time := { r0.time with m := 1000 } }

/-- A module whose time bases hold `b`. -/
def sBases (b : Base) : State := { sServ with time := { r0.time with bases := [b, b, b, b] } }
/-- A PTP slave on port 15, its link up. -/
def sPtp : State := { sBases { inst := { role := 2, mech := 0, ports := 0x8000 }, master := some ⟨128, 248, 254, 0, 128, 5, 0, 37, true, false, false, true, true, true, 9, 15⟩ } with ports := [(15, { link := true })] }
/-- A TOD line of zeros. -/
def todZero : List Byte := List.replicate 38 0x30#8 ++ [0x2A#8, 0x33#8, 0x30#8, 0x0D#8, 0x0A#8]

/-- A serving module whose port 3 is in service at 100 Gb/s with its link up or down. -/
def sPort (up : Bool) : State := { sServ with ports := [(0, { cfg := { mode := 3, mac := 0x020000000010 }, link := up }), (3, { cfg := { mode := 1, mac := 0x020000000010 }, link := up })], legs := [(0, { leg0 with state := 1, cfg := { leg0.cfg with port := 0 } })], confs := sLeg.confs, prot := { r0.prot with halves := [true, true] } }
/-- A long operation on port 3. -/
def sPop (op : Nat) (up : Bool) : State := { sPort up with ctl := { r0.ctl with ops := [{ fn := 0, handle := 1, tag := 7, opcode := op, serial := 1, a := 3 }] }, time := { r0.time with m := 2000 } }
/-- A frame to port 0. -/
def fr (b : FrameBody) : Frame := ⟨0x020000000010, [], 120, false, false, 0, 0, b⟩
/-- The 5-tuple of leg 0, and IP checks that pass. -/
def fl0 : Flow5 := ⟨none, false, leg0.cfg.laddr, 5000, leg0.cfg.raddr, 6000⟩
def ck0 : IpChecks := ⟨5, false, false, 0, true, false, true⟩
def rtp0 : Rtp := ⟨2, false, 96, 1, 0, 7, [], [], 0, 20, 0, none, .none⟩

/-- A module with one flow of canvas 0 and items for it. -/
def it0 (e : Nat) : Item := ⟨5, e, 3, .video, 5, false⟩
def sItem (run : List (Nat × Item)) (ready : List Item) : State := { sWhole with trail := { sWhole.trail with flows := [(5, { owner := .canvas 0, cycles := 1000, place := 47 })], ready := [[], [], [], ready, [], [], [], []], cores := run } }
/-- A long operation that locks clusters 46 and 47. -/
def sLock (fl : List (Nat × Flow)) : State := { sWhole with ctl := { sWhole.ctl with ops := [{ fn := 0, handle := 1, tag := 7, opcode := 0x1201, serial := 1, a := 46, b := 1 }] }, trail := { sWhole.trail with flows := fl } }

/-- Link group 15 as `x`. -/
def sGrp (x : LinkGroup) : State := { sWhole with casc := { r0.casc with fedId := 3, self := some 0, peers := [(1, ⟨15, false, true, false, 0, 0, 0⟩)], groups := [(15, x)] } }
def up (x : LinkGroup) : LinkGroup := { x with st := 3, peer := 1, active := 15 }
/-- A cell with sequence number 9. -/
def cell (typ seq : Nat) (crc : Bool) : Cell := ⟨typ, 1, 0, true, true, seq, 0, 0, 0, crc⟩

/-- Leg 0 as `l`, in conference 0, its port and clusters in service. -/
def sL (l : Leg) : State := { sWhole with confs := sLeg.confs, legs := [(0, l)], ports := [(0, { cfg := { mode := 3, mac := 0x020000000010 }, link := true })] }

/-- A video track of leg 0, a slot, and leg 0 sending and receiving. -/
def tr0 (e : Enc) : Track := { media := 1, codec := 8, layering := 0, pt := 96, rtxPt := 97, encs := [e] }
def slot0 (st : Nat) : Slot := { state := st, src := .track 0 1 2, media := 1, outSsrc := 9, outRtx := 10, outPt := 96, outRtxPt := 97, prio := 5 }
def legF : Leg := { leg0 with cfg := { leg0.cfg with vidMode := 1 }, tracks := [(2, tr0 { ssrc := 7, rtxSsrc := 8 })] }
def sAt (l : Leg) (m : Nat) : State := { sL l with time := { r0.time with m := m } }
/-- A source packet of leg 0's track 2. -/
def fwd0 : FwdPkt := ⟨.track 0 1 2, 0, 1, 0, 0, true, true, true, [], 5, some (0, 0), 0, rtp0⟩

/-- A packet of leg 0 waiting for decryption, and one waiting for encryption. -/
def in0 : InPkt := ⟨0, 0, 1, 106, 120, 0, 0, .rtp rtp0 ⟨[1], true⟩⟩
def out0 : OutPkt := { leg := 0, gen := 1, prio := 5, ssrc := 9, seq := 1, payloadLen := 20 }
def legK (rekey : Bool) (next : Nat) : Leg := { leg0 with state := 1, keys := { rxCur := some ⟨[1], 0⟩, txCur := some ⟨[2], 0⟩, rekey := rekey, guards := [⟨9, next, [next]⟩] } }
def sIn (l : Leg) : State := { sL l with inQ := [in0] }
def sOut (l : Leg) : State := { sL l with outQ := [out0] }
def run0 : CipherRun := ⟨[0, 1], [], none, [], []⟩
def run1 : CipherRun := ⟨[0, 1], [1], none, [2, 3], [3]⟩
/-- Port 0 with gates, a list waiting, and frames in TQ5. -/
def gates0 : Gates := ⟨1000000, 0, false, [(0x20, 400000), (0xDF, 600000)]⟩
def ti0 (h : Option Nat) : TxItem := { len := 1000, heldAt := h }
def sGate (p : Port) (t : Nat) : State := { sL (legK false 0) with ports := [(0, { p with cfg := { mode := 3 }, link := true })], time := { r0.time with bases := [{ val := t }, {}, {}, {}] } }

/-- Leg 0 mixed, and its conference. -/
def legM (a : Aud) : Leg := { leg0 with state := 1, cfg := { leg0.cfg with audMode := 2, audDir := 3 }, aud := a, tracks := [(0, { tr0 { ssrc := 7, rtxSsrc := 0 } with media := 0, codec := 0 })] }
def sC (k : Conf) (l : Leg) (m : Nat) : State := { sAt l m with confs := [(0, k)] }
def cf0 : Conf := { tenant := 0, mix := true, group := 0, creator := 0 }
/-- A stage on the input of leg 0 after `n` stops. -/
def att0 (n : Nat) : StageAtt := { point := 0, obj := 0, pos := 3, stage := 63, params := [], stops := n }
def sStage (n : Nat) : State := { sC cf0 (legM { inp := { cur := { tick := some 5, samples := List.replicate 48 0 } } }) 5 with stages := [(63, ⟨[], 0, [], 0, 100, 0, 0⟩)], stageAtts := [att0 n] }
def det (d : AudDet) (r : Bool) : Aud := { cfg := { howl := true }, det := d, inp := { jb := { running := r } } }

/-- Leg 0 sending and receiving composed video. -/
def legV : Leg := { legF with state := 1, cfg := { leg0.cfg with vidMode := 2 } }
/-- Decode job 0 of its track, and a completed surface. -/
def dj0 (fs : List DecFrame) : DecJob := { srcLeg := 0, srcGen := 1, srcTrack := 2, decS := 0, decT := 0, maxW := 640, maxH := 360, maxFps := 30, vjit := 0, prio := 1, group := none, creator := 0, tenant := 0, codec := 8, frames := fs }
def sf0 : Surface := { w := 2, h := 2, depth := 8, y := [1, 2, 3, 4], cb := [5], cr := [6], seq := 1 }
def dj1 : DecJob := { dj0 [] with surfaces := [sf0], seq := 1 }
/-- Encode job 0 of that decode job. -/
def ej1 (e : Encoding) : EncJob := { cfg := ⟨0, 1, 8, 0, 0, 640, 360, 30, 30, 0, 100000, false, true, 0, 1200⟩, prio := 1, group := none, creator := 0, tenant := 0, encs := [e] }
def sVid (d : List (Nat × DecJob)) (e : List (Nat × EncJob)) (v : List (Nat × Canvas)) : State := { sL legV with decJobs := d, encJobs := e, canvases := v, trail := { sWhole.trail with flows := [(5, { owner := .decode 0, cycles := 1, place := 0 }), (6, { owner := .encode 0, cycles := 1, place := 0 })] } }
def pic0 : DecodedPic := ⟨2, 2, 8, true, false, false, false, true, true, false, true, 30, true, [1, 2, 3, 4], [5], [6]⟩
def df0 (done : Option Nat) : DecFrame := { ts := 9, firstTick := 0, first := some 1, last := some 1, got := [1], complete := done }
def sEnc (e : Encoding) (g : Engine) : State := { sVid [(0, dj1)] [(0, ej1 e)] [] with engines := [(0, g)], power := { r0.power with pdOn := List.range 80 } }
def sCore (c : Core) : State := { r0 with cores := [(191, c)], power := { r0.power with pdOn := [47] } }
def geo0 : LayGeo := ⟨false, false, 255, 0, 0, 0, 0, 0, 0, 64, 64, 0, 0, 0⟩
/-- Canvas 0 on composer 0, with a layer. -/
def cvL (l : Layer) : Canvas := { cv0 0 with layers := [(63, l)] }
def run1' (t : Nat) : CanvasRun := { tick := t, layers := [], orderMode := 0, order := [], lutIn := none, lutOut := none, bg := (0, 128, 128) }
def sCv (v : Canvas) (m : Nat) : State := { sVid [(0, dj1)] [] [(0, v)] with time := { r0.time with m := m } }

/-- A stall environment that lets a retraining run. -/
def stall (us : Nat) (pass : Bool) : StallEnv := ⟨false, false, false, us, pass, 90, 1⟩
def sMem (o : List LongOp) (g : Region → Region) : State := { r0 with hbm := { r0.hbm with regions := lmod r0.hbm.regions 4 ⟨0, false, 0, 0, 0, none⟩ g }, ctl := { r0.ctl with ops := o } }
def opMem (r : Nat) : LongOp := { fn := 0, handle := 1, tag := 7, opcode := 0x0D01, serial := 1, a := r }
def sPc (c : PChan) : State := { r0 with hbm := { r0.hbm with pcs := [(0, c)] }, time := { r0.time with m := 5 } }
def ctr0 : Counter := ⟨1, 0x0102, 0, 0, 0, 0, 0, 0⟩
def smp0 : Sampler := { kind := 0, n := 5, first := 0, count := 2, ports := 0, size := 256 }
def sSmp (x : Sampler) (m : Nat) : State := { r0 with mon := { r0.mon with samplers := [(64, x)] }, time := { r0.time with m := m } }

/-- The next state of an outcome. -/
def nextOf (o : Host.Outcome State Fault Refusal) : State :=
  match o with
  | .next t => t
  | _ => r0

/-! ## Witnesses of the hypotheses of the statements -/

/-- States and operands that meet the hypotheses of StepRunsTheFrontCommand, clause by clause. -/
theorem witness_StepRunsTheFrontCommand :
    (∃ (s : State), s.pending = []) :=
    ⟨r0, by decide +kernel⟩

/-- States and operands that meet the hypotheses of OnlyAbsentUnitsStop, clause by clause. -/
theorem witness_OnlyAbsentUnitsStop :
    (∃ (i : Instr) (s : State), i.wf = true) ∧
    (∃ (i : Instr) (s : State), i.wf = false) :=
  ⟨
    ⟨(.frameRx 15 (fr .lldp)), r0, by decide +kernel⟩,
    ⟨(.frameRx 16 (fr .lldp)), r0, by decide +kernel⟩⟩

/-- States and operands that meet the hypotheses of EveryStepKeepsMemoryCanonical, clause by clause. -/
theorem witness_EveryStepKeepsMemoryCanonical :
    (∃ (s : State) (t : State), Memory.wf s.mem = true ∧ step s = .next t) :=
    ⟨({ r0 with pending := [.hbmRequest ⟨none, 0xFF, 1, 64, true, List.replicate 32 0xA5#8, [], [], 100⟩, .heartbeatSend 3] }), (nextOf (exec
      (.hbmRequest ⟨none, 0xFF, 1, 64, true, List.replicate 32 0xA5#8, [], [], 100⟩) { r0 with pending := [.heartbeatSend 3] })), by decide +kernel,
      (rfl)⟩

/-- States and operands that meet the hypotheses of WhatNoCommandTouches, clause by clause. -/
theorem witness_WhatNoCommandTouches :
    (∃ (i : Instr) (s : State) (t : State), restartsModule i = false ∧ exec i s = .next t ∧ s.bindLock = true) ∧
    (∃ (i : Instr) (s : State) (t : State), restartsModule i = false ∧ exec i s = .next t ∧ writesMemory i = false) :=
  ⟨
    ⟨.moduleStop, ({ sServ with bindLock := true }), (nextOf (exec .moduleStop { sServ with bindLock := true })), by decide +kernel, (rfl), by decide +kernel⟩,
    ⟨.moduleStop, ({ sServ with mem := [(5, 1#8)] }), (nextOf (exec .moduleStop { sServ with mem := [(5, 1#8)] })), by decide +kernel, (rfl), by
      decide +kernel⟩⟩

/-- States and operands that meet the hypotheses of MailboxCommands, clause by clause. -/
theorem witness_MailboxCommands :
    (∃ (s : State) (mid : Nat) (ch : Nat) (i : Nat) (w : Word) (buddy : Bool), midOk mid = true ∧ ch < 288 ∧ i < 16 ∧ (s.bind ch).role mid = .sender
      buddy ∧ (s.chan ch).full = true) ∧
    (∃ (s : State) (mid : Nat) (ch : Nat) (i : Nat) (w : Word) (buddy : Bool), midOk mid = true ∧ ch < 288 ∧ i < 16 ∧ (s.bind ch).role mid = .sender
      buddy ∧ (s.chan ch).full = false ∧ (s.bind ch).shared = false) ∧
    (∃ (s : State) (mid : Nat) (ch : Nat) (i : Nat) (w : Word) (buddy : Bool), midOk mid = true ∧ ch < 288 ∧ i < 16 ∧ (s.bind ch).role mid = .sender
      buddy ∧ (s.chan ch).full = false ∧ (s.bind ch).shared = true ∧ (((s.chan ch).held = true → (s.chan ch).holder = buddy))) ∧
    (∃ (s : State) (mid : Nat) (ch : Nat) (i : Nat) (w : Word) (buddy : Bool), midOk mid = true ∧ ch < 288 ∧ i < 16 ∧ (s.bind ch).role mid = .sender
      buddy ∧ (s.chan ch).full = false ∧ (s.bind ch).shared = true ∧ (s.chan ch).held = true ∧ (s.chan ch).holder = !buddy) ∧
    (∃ (s : State) (mid : Nat) (ch : Nat) (w : Word) (buddy : Bool), midOk mid = true ∧ ch < 288 ∧ (s.bind ch).role mid = .sender buddy ∧ (s.chan
      ch).full = false ∧ (((s.bind ch).shared = true → (s.chan ch).held = true → (s.chan ch).holder = buddy)) ∧ w.bit 0 = true ∧ w.bit 2 = (s.chan
      ch).rie) ∧
    (∃ (s : State) (mid : Nat) (ch : Nat), midOk mid = true ∧ ch < 288 ∧ (s.bind ch).role mid = .receiver ∧ (s.chan ch).full = true ∧ (s.bind
      ch).sender ≠ 0xC0) ∧
    (∃ (s : State) (mid : Nat) (ch : Nat), midOk mid = true ∧ ch < 288 ∧ (s.bind ch).role mid = .receiver ∧ (s.chan ch).full = false) ∧
    (∃ (s : State) (ch : Nat), 264 ≤ ch ∧ ch < 288 ∧ (s.chan ch).held = true ∧ (s.chan ch).full = false) ∧
    (∃ (s : State) (w : Word), w.bit 0 = true) :=
  ⟨
    ⟨(sBind.modChan 0 fun c => { c with full := true }), 0, 0, 15, 1#32, false, by decide +kernel, by decide +kernel, by decide +kernel, by decide +kernel,
      by decide +kernel⟩,
    ⟨sBind, 0, 0, 15, 1#32, false, by decide +kernel, by decide +kernel, by decide +kernel, by decide +kernel, by decide +kernel, by decide +kernel⟩,
    ⟨sBind, 0x80, 264, 0, 1#32, false, by decide +kernel, by decide +kernel, by decide +kernel, by decide +kernel, by decide +kernel, by decide +kernel,
      by decide +kernel⟩,
    ⟨(sBind.modChan 264 fun c => { c with held := true, holder := true }), 0x80, 264, 0, 1#32, false, by decide +kernel, by decide +kernel, by decide +kernel,
      by decide +kernel, by decide +kernel, by decide +kernel, by decide +kernel, by decide +kernel⟩,
    ⟨sBind, 0, 0, 1#32, false, by decide +kernel, by decide +kernel, by decide +kernel, by decide +kernel, by decide +kernel, by decide +kernel, by
      decide +kernel⟩,
    ⟨(sBind.modChan 0 fun c => { c with full := true }), 0xC0, 0, by decide +kernel, by decide +kernel, by decide +kernel, by decide +kernel, by
      decide +kernel⟩,
    ⟨sBind, 0xC0, 0, by decide +kernel, by decide +kernel, by decide +kernel, by decide +kernel⟩,
    ⟨(sBind.modChan 287 fun c => { c with held := true }), 287, by decide +kernel, by decide +kernel, by decide +kernel, by decide +kernel⟩,
    ⟨sBind, 1#32, by decide +kernel⟩⟩

/-- States and operands that meet the hypotheses of ControlTakesACommand, clause by clause. -/
theorem witness_ControlTakesACommand :
    (∃ (s : State) (ch : Nat) (w0 : Word) (o : OpInfo), s.nextChannel = some ch ∧ (s.chan ch).msg.getD 0 0#32 = w0 ∧ w0 ≠ 0#32 ∧ w0.bit 28 = false ∧
      w0.bit 29 = false ∧ w0.fld 30 2 = 0 ∧ tget s.ctl.discards ch = none ∧ tget s.ctl.segs ch = none ∧ s.tagInUse (issuerOf ch) (w0.fld 16 8) = false
      ∧ opTable.find? (·.op == w0.fld 0 16) = some o ∧ ((∀ n, o.len = some n → n = w0.fld 24 4)) ∧ (s.chan ch).msg.length = 16 ∧ s.issuerRefusal
      (issuerOf ch) o = none) :=
    ⟨(sBind.modChan 0 fun c => { c with full := true, msg := 0x01070302#32 :: List.replicate 15 0#32 }), 0, _, (⟨0x0302, some 1, false, true⟩), by
      decide +kernel, rfl, by decide +kernel, by decide +kernel, by decide +kernel, by decide +kernel, by decide +kernel, by decide +kernel, by decide +kernel,
      (rfl), (fun n h => by cases h; rfl), by decide +kernel, by decide +kernel⟩

/-- States and operands that meet the hypotheses of EventRingsAndTimeRegisters, clause by clause. -/
theorem witness_EventRingsAndTimeRegisters :
    (∃ (s : State) (fn : Nat) (w : Word), fn < 128 ∧ (s.fn fn).ev.en = false ∧ w.bit 8 = true) ∧
    (∃ (s : State) (fn : Nat) (w : Word), fn < 128 ∧ (s.fn fn).ev.en = true) ∧
    (∃ (s : State) (fn : Nat) (w : Word), fn < 128) ∧
    (∃ (s : State) (fn : Nat) (e : Event) (es : List Event), fn < 128 ∧ (s.fn fn).held = e :: es ∧ (s.fn fn).ev.en = true ∧ (s.fn fn).ev.stopped =
      false ∧ 1 < (s.fn fn).ev.free) ∧
    (∃ (s : State) (fn : Nat), fn < 128 ∧ (((s.fn fn).held = [] ∨ (s.fn fn).ev.en = false ∨ (s.fn fn).ev.stopped = true ∨ (s.fn fn).ev.free ≤ 1))) ∧
    (∃ (s : State) (fn : Nat), fn < 128 ∧ (s.fn fn).ev.hold = true ∧ (s.fn fn).ev.deferred = true ∧ (s.fn fn).ev.ie = true ∧ (s.fn fn).ev.tail ≠ (s.fn
      fn).ev.head % (s.fn fn).ev.size) ∧
    (∃ (s : State) (fn : Nat), fn < 128 ∧ (s.fn fn).ev.hold = true ∧ (((s.fn fn).ev.deferred = false ∨ (s.fn fn).ev.tail = (s.fn fn).ev.head % (s.fn
      fn).ev.size))) ∧
    (∃ (s : State) (port : Nat) (t : Nat), port < 2 ∧ (s.time.ptm.getD port {}).en = true) :=
  ⟨
    ⟨r0, 127, 0x106#32, by decide +kernel, by decide +kernel, by decide +kernel⟩,
    ⟨(r0.modFn 0 fun f => { f with ev := { f.ev with en := true } }), 0, 0x10#32, by decide +kernel, by decide +kernel⟩,
    ⟨r0, 127, 5#32, by decide +kernel⟩,
    ⟨(r0.modFn 0 fun f => { f with ev := { f.ev with en := true }, held := [{ code := 0x1301 }] }), 0, _, _, by decide +kernel, rfl, by decide +kernel,
      by decide +kernel, by decide +kernel⟩,
    ⟨r0, 127, by decide +kernel, by decide +kernel⟩,
    ⟨(r0.modFn 0 fun f => { f with ev := { f.ev with hold := true, deferred := true, ie := true, tail := 1 } }), 0, by decide +kernel, by decide +kernel,
      by decide +kernel, by decide +kernel, by decide +kernel⟩,
    ⟨(r0.modFn 0 fun f => { f with ev := { f.ev with hold := true } }), 0, by decide +kernel, by decide +kernel, by decide +kernel⟩,
    ⟨({ r0 with time := { r0.time with ptm := [{ en := true }, {}] } }), 0, 5, by decide +kernel, by decide +kernel⟩⟩

/-- States and operands that meet the hypotheses of QueueAndPacketRingRegisters, clause by clause. -/
theorem witness_QueueAndPacketRingRegisters :
    (∃ (s : State) (fn : Nat) (w : Word) (l : Leg), fn < 128 ∧ (s.fn fn).lqFlush = false ∧ w.bit 16 = true ∧ s.leg (w.fld 0 16) = some l ∧ s.mayTouch
      fn (s.legTenant l) = true) ∧
    (∃ (s : State) (fn : Nat) (ring : Nat) (w : Word), fn < 128 ∧ ring < 3 ∧ ((ring = 2 → isPF fn = true))) ∧
    (∃ (s : State) (fn : Nat) (ring : Nat) (w : Word), fn < 128 ∧ ring < 3 ∧ ring ≠ 1 ∧ ((ring = 2 → isPF fn = true))) :=
  ⟨
    ⟨sLeg, 0, 0x10000#32, leg0, by decide +kernel, by decide +kernel, by decide +kernel, by decide +kernel, by decide +kernel⟩,
    ⟨r0, 64, 2, 0x100#32, by decide +kernel, by decide +kernel, by decide +kernel⟩,
    ⟨r0, 1, 0, 3#32, by decide +kernel, by decide +kernel, by decide +kernel, by decide +kernel⟩⟩

/-- States and operands that meet the hypotheses of RegisterReadsAndWrites, clause by clause. -/
theorem witness_RegisterReadsAndWrites :
    (∃ (s : State) (fn : Nat) (ring : Nat), fn < 128 ∧ ring < 3 ∧ ((ring = 2 → isPF fn = true))) ∧
    (∃ (s : State) (fn : Nat) (n : Nat), isPF fn = true ∧ n < 128) ∧
    (∃ (s : State) (fn : Nat) (i : Nat) (c : Counter), fn < 128 ∧ i < 256 ∧ tget s.mon.counters i = some c ∧ ((isPF fn = true ∨ c.owner = fn))) ∧
    (∃ (s : State) (c : Nat) (w : Word), c < 288 ∧ s.bindLock = false) ∧
    (∃ (s : State) (mid : Nat) (c : Nat) (w : Word), midOk mid = true ∧ c < 288 ∧ ((s.bindLock = true ∨ mid ≠ 0xC0))) ∧
    (∃ (s : State) (fn : Nat) (v : Nat) (w : Word), fn < 128 ∧ v < 4) :=
  ⟨
    ⟨r0, 0, 2, by decide +kernel, by decide +kernel, by decide +kernel⟩,
    ⟨r0, 64, 127, by decide +kernel, by decide +kernel⟩,
    ⟨({ r0 with mon := { r0.mon with counters := [(255, ⟨1, 0x0101, 0, 0, 0, 0, 0, 0⟩)] } }), 1, 255, (⟨1, 0x0101, 0, 0, 0, 0, 0, 0⟩), by decide +kernel,
      by decide +kernel, by decide +kernel, by decide +kernel⟩,
    ⟨r0, 287, 0x8000C000#32, by decide +kernel, by decide +kernel⟩,
    ⟨({ r0 with bindLock := true }), 0xC0, 287, 0#32, by decide +kernel, by decide +kernel, by decide +kernel⟩,
    ⟨r0, 127, 3, 0#32, by decide +kernel, by decide +kernel⟩⟩

/-- States and operands that meet the hypotheses of ManagementBusCommands, clause by clause. -/
theorem witness_ManagementBusCommands :
    (∃ (s : State) (bytes : List Byte), s.power.cond = .serving ∧ bytes.length = 7) ∧
    (∃ (s : State) (bytes : List Byte) (ch : _), s.power.cond = .serving ∧ bytes.length = 7 ∧ 256 ≤ ch ∧ ch < 264 ∧ (smbOffset bytes) = 0x1040 + 0x80
      * ch) ∧
    (∃ (s : State) (bytes : List Byte), s.power.cond = .serving ∧ bytes.length = 7 ∧ ((smbOffset bytes) < 0x9000 ∨ 0x9400 ≤ (smbOffset bytes))) ∧
    (∃ (s : State) (bytes : List Byte) (pecOk : Bool), ((pecOk = false ∨ bytes.length ≠ 7))) ∧
    (∃ (s : State) (bytes : List Byte), (s.power.cond = .serving ∨ s.power.cond = .stopped) ∧ bytes.length = 3) ∧
    (∃ (s : State) (pecOk : Bool), (s.power.cond = .serving ∨ s.power.cond = .stopped) ∧ s.pins.smbPtr = 0) ∧
    (∃ (s : State) (pecOk : Bool) (ch : Nat), s.power.cond = .serving ∧ 256 ≤ ch ∧ ch < 264 ∧ s.pins.smbPtr = 0x1044 + 0x80 * ch) ∧
    (∃ (s : State) (pecOk : Bool) (ch : Nat), s.power.cond = .serving ∧ 256 ≤ ch ∧ ch < 264 ∧ s.pins.smbPtr = 0x1044 + 0x80 * ch) ∧
    (∃ (s : State), (s.power.cond = .serving ∨ s.power.cond = .stopped) ∧ s.alert = true) ∧
    (∃ (s : State) (ch : Nat) (m : List Word) (ms : List (List Word)), 256 ≤ ch ∧ ch < 264 ∧ ch % 2 = 1 ∧ (s.chan ch).full = false ∧ tgetD s.ctl.rsps
      ch [] = m :: ms) :=
  ⟨
    ⟨sServ, ([0xC0#8, 0x90#8, 0#8, 5#8, 0#8, 0#8, 0#8]), by decide +kernel, by decide +kernel⟩,
    ⟨sServ, ([0xC0#8, 0x90#8, 0#8, 5#8, 0#8, 0#8, 0#8]), 257, by decide +kernel, by decide +kernel, by decide +kernel, by decide +kernel, by decide +kernel⟩,
    ⟨sServ, ([0#8, 0#8, 0#8, 5#8, 0#8, 0#8, 0#8]), by decide +kernel, by decide +kernel, by decide +kernel⟩,
    ⟨r0, ([0xC0#8, 0x90#8, 0#8, 5#8, 0#8, 0#8, 0#8]), false, by decide +kernel⟩,
    ⟨sServ, ([0#8, 0#8, 0#8]), by decide +kernel, by decide +kernel⟩,
    ⟨sServ, true, by decide +kernel, by decide +kernel⟩,
    ⟨({ sServ with pins := { sServ.pins with smbPtr := 0x93C4 } }), true, 263, by decide +kernel, by decide +kernel, by decide +kernel, by decide +kernel⟩,
    ⟨({ sServ with pins := { sServ.pins with smbPtr := 0x93C4 } }), true, 263, by decide +kernel, by decide +kernel, by decide +kernel, by decide +kernel⟩,
    ⟨({ sServ with chans := [(257, { full := true, rie := true })] }), by decide +kernel, by decide +kernel⟩,
    ⟨({ r0 with ctl := { r0.ctl with rsps := [(263, [[7#32]])] } }), 263, _, _, by decide +kernel, by decide +kernel, by decide +kernel, by decide +kernel,
      rfl⟩⟩

/-- States and operands that meet the hypotheses of SettingsAndHealth, clause by clause. -/
theorem witness_SettingsAndHealth :
    (∃ (s : State) (c : Ctx) (rest : List Cmd), AtHead s c 0x0101 rest ∧ c.f 1 0 16 = 1 ∧ c.f 1 16 16 < 128 ∧ c.f 1 16 16 ≠ 0 ∧ c.f 1 16 16 ≠ 64 ∧
      (c.w 2).fld 12 19 = 0 ∧ s.upd.phase ≠ 3 ∧ s.ownsObjects (c.f 1 16 16) = false ∧ (c.w 2).bit 31 = true ∧ s.tenantOf (c.f 1 16 16) ≠ some ((c.w
      2).toNat - 2 ^ 31)) ∧
    (∃ (s : State) (c : Ctx) (rest : List Cmd), AtHead s c 0x0101 rest ∧ c.f 1 0 16 = 1 ∧ c.f 1 16 16 < 128 ∧ c.f 1 16 16 ≠ 0 ∧ c.f 1 16 16 ≠ 64 ∧
      (c.w 2).fld 12 19 = 0 ∧ s.upd.phase ≠ 3 ∧ s.ownsObjects (c.f 1 16 16) = false ∧ (c.w 2).bit 31 = false ∧ (s.tenantOf (c.f 1 16 16)).isSome =
      true) ∧
    (∃ (s : State) (c : Ctx) (rest : List Cmd), AtHead s c 0x0101 rest ∧ c.f 1 0 16 = 2 ∧ c.f 1 16 16 = 0 ∧ (c.w 2).toNat < 2 ∧ s.upd.phase ≠ 3 ∧
      s.upd.mode ≠ (c.w 2).toNat ∧ s.upd.session = none) ∧
    (∃ (s : State) (c : Ctx) (rest : List Cmd), AtHead s c 0x0101 rest ∧ c.f 1 0 16 = 3 ∧ c.f 1 16 16 = 0 ∧ 1 ≤ (c.w 2).toNat ∧ (c.w 2).toNat ≤ 60 ∧
      s.upd.phase ≠ 3 ∧ s.upd.window ≠ (c.w 2).toNat) ∧
    (∃ (s : State) (c : Ctx) (rest : List Cmd), AtHead s c 0x0102 rest ∧ c.f 1 0 16 = 2 ∧ c.f 1 16 16 = 0) ∧
    (∃ (s : State) (c : Ctx) (rest : List Cmd), AtHead s c 0x0102 rest ∧ c.f 1 0 16 = 3 ∧ c.f 1 16 16 = 0) ∧
    (∃ (s : State) (c : Ctx) (rest : List Cmd) (t : _), AtHead s c 0x0102 rest ∧ c.f 1 0 16 = 1 ∧ c.f 1 16 16 < 128 ∧ c.f 1 16 16 ≠ 0 ∧ c.f 1 16 16 ≠
      64 ∧ s.tenantOf (c.f 1 16 16) = some t) ∧
    (∃ (s : State) (c : Ctx) (rest : List Cmd), AtHead s c 0x0102 rest ∧ 3 < c.f 1 0 16) ∧
    (∃ (s : State) (c : Ctx) (rest : List Cmd), AtHead s c 0x0103 rest ∧ c.f 1 0 32 = 0) ∧
    (∃ (s : State) (c : Ctx) (rest : List Cmd), AtHead s c 0x0103 rest ∧ c.f 1 0 32 = 0 ∧ s.pins.modReady = true ∧ (((List.range 48).filter fun k =>
      !(s.cluster k).inService) = []) ∧ s.prot.halves.all id = true ∧ s.prot.composers.all id = true ∧ s.trail.copies.all id = true ∧ s.ctl.pairs.all
      id = true ∧ s.ciphers = []) ∧
    (∃ (s : State) (c : Ctx) (rest : List Cmd), AtHead s c 0x0103 rest ∧ c.f 1 0 32 = 0 ∧ s.pins.modReady = true ∧ ((((List.range 48).filter fun k =>
      !(s.cluster k).inService) ≠ [] ∨ false ∈ s.prot.halves ∨ false ∈ s.prot.composers ∨ false ∈ s.trail.copies ∨ false ∈ s.ctl.pairs))) :=
  ⟨
    ⟨(put (r0) 0 0x0101 [0x7F0001, 0x80000001]), (cx 0 0x0101 [0x7F0001, 0x80000001]), [], head _ _ _ _ (by decide) (by decide +kernel), by decide +kernel,
      by decide +kernel, by decide +kernel, by decide +kernel, by decide +kernel, by decide +kernel, by decide +kernel, by decide +kernel, by decide +kernel⟩,
    ⟨(put ({ r0 with upd := { r0.upd with tenants := [(127, 4)] } }) 0 0x0101 [0x7F0001, 0]), (cx 0 0x0101 [0x7F0001, 0]), [], head _ _ _ _ (by
      decide) (by decide +kernel), by decide +kernel, by decide +kernel, by decide +kernel, by decide +kernel, by decide +kernel, by decide +kernel,
      by decide +kernel, by decide +kernel, by decide +kernel⟩,
    ⟨(put (r0) 0 0x0101 [2, 1]), (cx 0 0x0101 [2, 1]), [], head _ _ _ _ (by decide) (by decide +kernel), by decide +kernel, by decide +kernel, by
      decide +kernel, by decide +kernel, by decide +kernel, by decide +kernel⟩,
    ⟨(put (r0) 0 0x0101 [3, 60]), (cx 0 0x0101 [3, 60]), [], head _ _ _ _ (by decide) (by decide +kernel), by decide +kernel, by decide +kernel, by
      decide +kernel, by decide +kernel, by decide +kernel, by decide +kernel⟩,
    ⟨(put (r0) 0 0x0102 [2]), (cx 0 0x0102 [2]), [], head _ _ _ _ (by decide) (by decide +kernel), by decide +kernel, by decide +kernel⟩,
    ⟨(put (r0) 0 0x0102 [3]), (cx 0 0x0102 [3]), [], head _ _ _ _ (by decide) (by decide +kernel), by decide +kernel, by decide +kernel⟩,
    ⟨(put ({ r0 with upd := { r0.upd with tenants := [(1, 4095)] } }) 0 0x0102 [0x10001]), (cx 0 0x0102 [0x10001]), [], _, head _ _ _ _ (by decide)
      (by decide +kernel), by decide +kernel, by decide +kernel, by decide +kernel, by decide +kernel, rfl⟩,
    ⟨(put (r0) 0 0x0102 [4]), (cx 0 0x0102 [4]), [], head _ _ _ _ (by decide) (by decide +kernel), by decide +kernel⟩,
    ⟨(put (r0) 0 0x0103 [0]), (cx 0 0x0103 [0]), [], head _ _ _ _ (by decide) (by decide +kernel), by decide +kernel⟩,
    ⟨(put (sWhole) 0 0x0103 [0]), (cx 0 0x0103 [0]), [], head _ _ _ _ (by decide) (by decide +kernel), by decide +kernel, by decide +kernel, by decide +kernel,
      by decide +kernel, by decide +kernel, by decide +kernel, by decide +kernel, by decide +kernel⟩,
    ⟨(put (sWhole.modCluster 47 fun c => { c with inService := false }) 0 0x0103 [0]), (cx 0 0x0103 [0]), [], head _ _ _ _ (by decide) (by decide +kernel),
      by decide +kernel, by decide +kernel, by decide +kernel⟩⟩

/-- States and operands that meet the hypotheses of ResetsOfUnitsAndFunctions, clause by clause. -/
theorem witness_ResetsOfUnitsAndFunctions :
    (∃ (s : State) (c : Ctx) (rest : List Cmd) (kind : Nat) (unit : Nat), AtHead s c 0x0104 rest ∧ c.f 1 0 4 = kind ∧ c.f 1 4 12 = unit ∧ c.f 1 16 16
      = 0 ∧ unit < [48, 4, 2, 2, 2, 3072].getD kind 0 ∧ s.lastUnit kind unit = false ∧ s.unitBusy kind unit = none ∧ s.outstanding c.issuer < 256) ∧
    (∃ (s : State) (c : Ctx) (rest : List Cmd) (kind : Nat) (unit : Nat) (t : _), AtHead s c 0x0104 rest ∧ c.f 1 0 4 = kind ∧ c.f 1 4 12 = unit ∧ c.f
      1 16 16 = 0 ∧ unit < [48, 4, 2, 2, 2, 3072].getD kind 0 ∧ s.lastUnit kind unit = false ∧ s.unitBusy kind unit = none ∧ s.outstanding c.issuer <
      256 ∧ kind = 0 ∧ (s.popped c rest).drainCluster unit = some t ∧ t.outstanding c.issuer < 256) ∧
    (∃ (s : State) (c : Ctx) (rest : List Cmd) (kind : Nat) (unit : Nat), AtHead s c 0x0104 rest ∧ c.f 1 0 4 = kind ∧ c.f 1 4 12 = unit ∧ c.f 1 16 16
      = 0 ∧ unit < [48, 4, 2, 2, 2, 3072].getD kind 0 ∧ s.lastUnit kind unit = false ∧ s.unitBusy kind unit = none ∧ s.outstanding c.issuer < 256 ∧
      kind = 0 ∧ (s.popped c rest).drainCluster unit = none) ∧
    (∃ (s : State) (kind : Nat) (unit : Nat) (o : LongOp), ((∀ x ∈ s.ctl.ops, x.opcode = 0x0104 → x.state = 0 → x.phase = 1)) ∧ ((s.findOp 0x0104 fun
      x => x.a == kind + 16 * unit && x.phase == 1) = some o)) ∧
    (∃ (s : State) (flow : Nat), flow < 262144) ∧
    (∃ (s : State) (cl : Nat) (cause : Nat), cl < 48 ∧ cause ≤ 4) ∧
    (∃ (s : State) (fn : Nat), fn < 128 ∧ tget s.ctl.waits (2 * fn) = none) ∧
    (∃ (s : State) (port : Nat), port < 2 ∧ ((∀ f, tget s.ctl.waits (2 * f) = none))) :=
  ⟨
    ⟨(put (sWhole) 0 0x0104 [0x2F0]), (cx 0 0x0104 [0x2F0]), [], 0, 47, head _ _ _ _ (by decide) (by decide +kernel), by decide +kernel, by decide +kernel,
      by decide +kernel, by decide +kernel, by decide +kernel, by decide +kernel, by decide +kernel⟩,
    ⟨(put (sWhole) 0 0x0104 [0x2F0]), (cx 0 0x0104 [0x2F0]), [], 0, 47, _, head _ _ _ _ (by decide) (by decide +kernel), by decide +kernel, by decide +kernel,
      by decide +kernel, by decide +kernel, by decide +kernel, by decide +kernel, by decide +kernel, by decide +kernel, rfl, by decide +kernel⟩,
    ⟨(put ({ sWhole.modCluster 47 fun c => { c with group := some (46, 2) } with trail := { sWhole.trail with flows := [(3, { owner := .canvas 0, cycles := 1, place := 46 })] } })
      0 0x0104 [0x2F0]), (cx 0 0x0104 [0x2F0]), [], 0, 47, head _ _ _ _ (by decide) (by decide +kernel), by decide +kernel, by decide +kernel, by
      decide +kernel, by decide +kernel, by decide +kernel, by decide +kernel, by decide +kernel, by decide +kernel, by decide +kernel⟩,
    ⟨(sOp 0x0104 (1 + 16 * 3) 1 0), 1, 3, _, by decide +kernel, rfl⟩,
    ⟨r0, 262143, by decide +kernel⟩,
    ⟨r0, 47, 4, by decide +kernel, by decide +kernel⟩,
    ⟨r0, 127, by decide +kernel, by decide +kernel⟩,
    ⟨r0, 1, by decide +kernel, (fun _ => rfl)⟩⟩

/-- States and operands that meet the hypotheses of CalibrationsAndAborts, clause by clause. -/
theorem witness_CalibrationsAndAborts :
    (∃ (s : State) (c : Ctx) (rest : List Cmd), AtHead s c 0x0F01 rest ∧ c.f 1 16 16 = 0 ∧ c.f 1 4 12 < [48, 4, 2, 128, 16, 64, 2].getD (c.f 1 0 4) 0
      ∧ s.outstanding c.issuer < 256) ∧
    (∃ (s : State) (kind : Nat) (unit : Nat) (o : LongOp) (os : List LongOp), s.calOps (kind + 16 * unit) = o :: os ∧ o.phase = 4) ∧
    (∃ (s : State) (u : State) (kind : Nat) (unit : Nat) (o : LongOp) (os : List LongOp), s.calNext (kind + 16 * unit) = u ∧ u.calOps (kind + 16 *
      unit) = o :: os ∧ o.phase = 1 ∧ u.calReady kind unit = true) ∧
    (∃ (s : State) (kind : Nat) (unit : Nat) (result : Nat) (durUs : Nat) (o : LongOp), (((s.calOps (kind + 16 * unit)).find? fun x => x.phase == 4) =
      some o) ∧ result < 2) ∧
    (∃ (s : State) (kind : Nat) (unit : Nat) (result : Nat) (durUs : Nat) (o : LongOp), (((s.calOps (kind + 16 * unit)).find? fun x => x.phase == 4) =
      some o) ∧ result = 2) ∧
    (∃ (s : State) (c : Ctx) (rest : List Cmd) (o : LongOp), AtHead s c 0x0F02 rest ∧ c.f 1 24 8 = 0 ∧ ((s.ctl.ops.reverse.find? fun x => x.opcode ==
      0x0F01 && x.fn == c.f 1 16 8 && x.handle == c.f 1 0 16) = some o) ∧ o.state = 0 ∧ o.phase < 4) ∧
    (∃ (s : State) (c : Ctx) (rest : List Cmd) (o : LongOp), AtHead s c 0x0F02 rest ∧ c.f 1 24 8 = 0 ∧ ((s.ctl.ops.reverse.find? fun x => x.opcode ==
      0x0F01 && x.fn == c.f 1 16 8 && x.handle == c.f 1 0 16) = some o) ∧ o.state = 0 ∧ o.phase = 4) ∧
    (∃ (s : State) (c : Ctx) (rest : List Cmd) (o : LongOp), AtHead s c 0x0F02 rest ∧ c.f 1 24 8 = 0 ∧ ((s.ctl.ops.reverse.find? fun x => x.opcode ==
      0x0F01 && x.fn == c.f 1 16 8 && x.handle == c.f 1 0 16) = some o) ∧ o.state = 1) ∧
    (∃ (s : State) (c : Ctx) (rest : List Cmd) (o : LongOp), AtHead s c 0x0F02 rest ∧ c.f 1 24 8 = 0 ∧ ((s.ctl.ops.reverse.find? fun x => x.opcode ==
      0x0F01 && x.fn == c.f 1 16 8 && x.handle == c.f 1 0 16) = some o) ∧ o.state = 2) ∧
    (∃ (s : State) (c : Ctx) (rest : List Cmd), AtHead s c 0x1301 rest ∧ c.f 1 16 16 = 0) ∧
    (∃ (s : State) (c : Ctx) (rest : List Cmd) (o : _), AtHead s c 0x1301 rest ∧ c.f 1 16 16 = 0 ∧ ((s.ctl.ops.reverse.find? fun x => x.fn == c.issuer
      && x.handle == c.f 1 0 16) = some o) ∧ o.state = 1) ∧
    (∃ (s : State) (c : Ctx) (rest : List Cmd) (o : _), AtHead s c 0x1301 rest ∧ c.f 1 16 16 = 0 ∧ ((s.ctl.ops.reverse.find? fun x => x.fn == c.issuer
      && x.handle == c.f 1 0 16) = some o) ∧ o.state = 2) ∧
    (∃ (s : State) (c : Ctx) (rest : List Cmd), AtHead s c 0x1301 rest ∧ c.f 1 16 16 = 0 ∧ ((s.ctl.ops.reverse.find? fun x => x.fn == c.issuer &&
      x.handle == c.f 1 0 16) = none)) :=
  ⟨
    ⟨(put (sWhole) 0 0x0F01 [0x2F0]), (cx 0 0x0F01 [0x2F0]), [], head _ _ _ _ (by decide) (by decide +kernel), by decide +kernel, by decide +kernel,
      by decide +kernel⟩,
    ⟨(sOp 0x0F01 (16 * 47) 4 0), 0, 47, _, _, rfl, by decide +kernel⟩,
    ⟨(sOp 0x0F01 (3 + 16 * 127) 1 0), _, 3, 127, _, _, rfl, rfl, by decide +kernel, by decide +kernel⟩,
    ⟨(sOp 0x0F01 (16 * 47) 4 0), 0, 47, 1, 5, _, rfl, by decide +kernel⟩,
    ⟨(sOp 0x0F01 (16 * 47) 4 0), 0, 47, 2, 5, _, rfl, by decide +kernel⟩,
    ⟨(put (sOp 0x0F01 (16 * 47) 3 0) 0 0x0F02 [1]), (cx 0 0x0F02 [1]), [], _, head _ _ _ _ (by decide) (by decide +kernel), by decide +kernel, rfl, by
      decide +kernel, by decide +kernel⟩,
    ⟨(put (sOp 0x0F01 (16 * 47) 4 0) 0 0x0F02 [1]), (cx 0 0x0F02 [1]), [], _, head _ _ _ _ (by decide) (by decide +kernel), by decide +kernel, rfl, by
      decide +kernel, by decide +kernel⟩,
    ⟨(put (sOp 0x0F01 (16 * 47) 4 1) 0 0x0F02 [1]), (cx 0 0x0F02 [1]), [], _, head _ _ _ _ (by decide) (by decide +kernel), by decide +kernel, rfl, by
      decide +kernel⟩,
    ⟨(put (sOp 0x0F01 (16 * 47) 4 2) 0 0x0F02 [1]), (cx 0 0x0F02 [1]), [], _, head _ _ _ _ (by decide) (by decide +kernel), by decide +kernel, rfl, by
      decide +kernel⟩,
    ⟨(put (sOp 0x0F01 0 4 0) 0 0x1301 [1]), (cx 0 0x1301 [1]), [], head _ _ _ _ (by decide) (by decide +kernel), by decide +kernel⟩,
    ⟨(put (sOp 0x0F01 0 4 1) 0 0x1301 [1]), (cx 0 0x1301 [1]), [], _, head _ _ _ _ (by decide) (by decide +kernel), by decide +kernel, rfl, by decide +kernel⟩,
    ⟨(put (sOp 0x0F01 0 4 2) 0 0x1301 [1]), (cx 0 0x1301 [1]), [], _, head _ _ _ _ (by decide) (by decide +kernel), by decide +kernel, rfl, by decide +kernel⟩,
    ⟨(put (sOp 0x0F01 0 4 1) 0 0x1301 [0xFFFF]), (cx 0 0x1301 [0xFFFF]), [], head _ _ _ _ (by decide) (by decide +kernel), by decide +kernel, by
      decide +kernel⟩⟩

/-- States and operands that meet the hypotheses of StopsAndTakeovers, clause by clause. -/
theorem witness_StopsAndTakeovers :
    (∃ (s : State), s.power.cond ≠ .stopped ∧ s.power.cond ≠ .unpowered) ∧
    (∃ (s : State) (h : Nat) (cause : Nat), h < 2 ∧ s.prot.halves.getD h false = true) ∧
    (∃ (s : State) (cause : Nat), s.trail.copies.getD s.trail.active false = true) ∧
    (∃ (s : State), s.ctl.standbyReady = true ∧ s.upd.phase ≠ 3 ∧ s.upd.phase ≠ 5) ∧
    (∃ (s : State), s.ctl.standbyReady = false) ∧
    (∃ (s : State), s.ctl.standbyReady = false ∧ s.ctl.pairs.getD (1 - s.ctl.active) false = true ∧ s.upd.phase ≠ 2 ∧ ((s.upd.phase = 5 → s.committing
      = none)) ∧ ((s.upd.phase = 4 → s.upd.reloading = []))) :=
  ⟨
    ⟨sServ, by decide +kernel, by decide +kernel⟩,
    ⟨({ r0 with prot := { r0.prot with halves := [true, true] } }), 1, 3, by decide +kernel, by decide +kernel⟩,
    ⟨({ r0 with trail := { r0.trail with copies := [true, true] } }), 3, by decide +kernel⟩,
    ⟨sWhole, by decide +kernel, by decide +kernel, by decide +kernel⟩,
    ⟨r0, by decide +kernel⟩,
    ⟨({ sWhole with ctl := { sWhole.ctl with standbyReady := false } }), by decide +kernel, by decide +kernel, by decide +kernel, by decide +kernel,
      by decide +kernel⟩⟩

/-- States and operands that meet the hypotheses of FailuresAndTheirRepair, clause by clause. -/
theorem witness_FailuresAndTheirRepair :
    (∃ (s : State) (c : Nat) (cause : Nat), c < 4 ∧ s.prot.composers.getD c false = true) ∧
    (∃ (s : State) (c : Nat) (v : Canvas), c < 192 ∧ tget s.canvases c = some v ∧ s.prot.composers.getD v.composer false = false ∧ s.chooseComposer c
      v none = none) ∧
    (∃ (s : State) (c : Nat) (v : Canvas) (k : _), c < 192 ∧ tget s.canvases c = some v ∧ s.prot.composers.getD v.composer false = false ∧
      s.chooseComposer c v none = some k ∧ s.flowOf (.canvas c) = none) ∧
    (∃ (s : State) (cl : Nat) (n : Nat) (f : Flow) (k : _), cl < 48 ∧ f.stopped = true ∧ f.place = cl ∧ ((s.trail.flows.filter fun p => p.2.stopped) =
      [(n, f)]) ∧ s.findPlace n f = .ok k) ∧
    (∃ (s : State) (cl : Nat) (n : Nat) (f : Flow) (e : _), cl < 48 ∧ f.stopped = true ∧ f.place = cl ∧ ((s.trail.flows.filter fun p => p.2.stopped) =
      [(n, f)]) ∧ s.findPlace n f = .error e) ∧
    (∃ (s : State) (cl : Nat), cl < 48 ∧ ((s.trail.cores.any fun p => p.2.flow == 262144 + cl) = true)) ∧
    (∃ (s : State) (cl : Nat) (n : Nat) (j : Nat) (f : Flow) (e : EncJob), cl < 48 ∧ s.flowsOn cl = [(n, f)] ∧ f.owner = .encode j ∧ tget s.encJobs j
      = some e ∧ e.degrade = 1 ∧ s.encJobs ≠ []) :=
  ⟨
    ⟨({ r0 with prot := { r0.prot with composers := [false, false, false, true] } }), 3, 3, by decide +kernel, by decide +kernel⟩,
    ⟨({ r0 with canvases := [(191, cv0 3)] }), 191, _, by decide +kernel, rfl, by decide +kernel, by decide +kernel⟩,
    ⟨({ r0 with canvases := [(191, cv0 3)], prot := { r0.prot with composers := [true, true, true, false] } }), 191, _, _, by decide +kernel, rfl, by
      decide +kernel, rfl, by decide +kernel⟩,
    ⟨(sStop [(13, { inService := true })]), 0, _, _, 13, by decide +kernel, by decide +kernel, by decide +kernel, rfl, okOf (by decide +kernel)⟩,
    ⟨(sStop []), 0, _, _, ((3, 0x0401)), by decide +kernel, by decide +kernel, by decide +kernel, rfl, errOf (by decide +kernel)⟩,
    ⟨({ r0 with trail := { r0.trail with cores := [(4, ⟨262191, 0, 0, .shadow, 5, false⟩)] } }), 47, by decide +kernel, by decide +kernel⟩,
    ⟨({ r0 with encJobs := [(3, ej0)], trail := { r0.trail with flows := [(5, { owner := .encode 3, cycles := 1000, place := 47 })] } }), 47, _, 3, _,
      _, by decide +kernel, rfl, by decide +kernel, rfl, by decide +kernel, by decide +kernel⟩⟩

/-- States and operands that meet the hypotheses of ProtectionAndPartner, clause by clause. -/
theorem witness_ProtectionAndPartner :
    (∃ (s : State) (c : Ctx) (rest : List Cmd) (l : Leg) (v : State), AtHead s c 0x0E01 rest ∧ s.leg (c.f 1 0 16) = some l ∧ c.f 1 26 6 = 0 ∧ l.gen =
      c.f 1 16 8 ∧ s.mayTouch c.issuer (s.legTenant l) = true ∧ c.f 1 24 2 ≠ l.prot ∧ ((c.f 1 24 2 = 1 → (s.modLeg (c.f 1 0 16) fun l => { l with prot := 1 }).groupUnpaired
      = false)) ∧ c.f 1 24 2 < 2 ∧ l.prot ≠ 2 ∧ (((s.popped c rest).modLeg (c.f 1 0 16) fun l => { l with prot := c.f 1 24 2 }).reflow (softFor (c.f 1
      0 16)) = .ok v)) ∧
    (∃ (s : State) (c : Ctx) (rest : List Cmd) (l : Leg) (v : State), AtHead s c 0x0E01 rest ∧ s.leg (c.f 1 0 16) = some l ∧ c.f 1 26 6 = 0 ∧ l.gen =
      c.f 1 16 8 ∧ s.mayTouch c.issuer (s.legTenant l) = true ∧ c.f 1 24 2 ≠ l.prot ∧ ((c.f 1 24 2 = 1 → (s.modLeg (c.f 1 0 16) fun l => { l with prot := 1 }).groupUnpaired
      = false)) ∧ c.f 1 24 2 < 2 ∧ l.prot = 2 ∧ ((((s.popped c rest).releaseLeg (c.f 1 0 16) l).modLeg (c.f 1 0 16) fun l => { l with prot := c.f 1 24 2 }).reflow
      (softFor (c.f 1 0 16)) = .ok v)) ∧
    (∃ (s : State) (c : Ctx) (rest : List Cmd) (l : Leg) (v : State) (g : Nat) (p : Nat), AtHead s c 0x0E01 rest ∧ s.leg (c.f 1 0 16) = some l ∧ c.f 1
      26 6 = 0 ∧ c.f 1 24 2 = 2 ∧ l.gen = c.f 1 16 8 ∧ s.mayTouch c.issuer (s.legTenant l) = true ∧ l.prot ≠ 2 ∧ s.partnerGroup = some g ∧ s.groupUp g
      = true ∧ ((s.modLeg (c.f 1 0 16) fun l => { l with prot := 2 }).groupUnpaired = false) ∧ s.mapped l.cfg.port = some p ∧ Config.peerFwMajor
      s.prot.partner = s.fwMajor ∧ (((s.popped c rest).modLeg (c.f 1 0 16) fun l => { l with prot := 2 }).reflow (softFor (c.f 1 0 16)) = .ok v)) ∧
    (∃ (s : State) (g : Nat) (tag : Nat) (status : Nat) (ch : Nat) (w : ProtWait), g < 16 ∧ ((s.ctl.waits.find? fun w => w.2.resTag == tag &&
      w.2.group == g) = some (ch, w)) ∧ status ≠ 0) ∧
    (∃ (s : State) (g : Nat) (tag : Nat) (status : Nat) (ch : Nat) (w : ProtWait) (l : _) (t : _), g < 16 ∧ ((s.ctl.waits.find? fun w => w.2.resTag ==
      tag && w.2.group == g) = some (ch, w)) ∧ status = 0 ∧ s.leg w.leg = some l ∧ ((s.modLeg w.leg fun l => { l with prot := 2 }).reflow (softFor
      w.leg) = .ok t)) ∧
    (∃ (s : State) (ch : Nat) (w : ProtWait), reqOk ch = true ∧ tget s.ctl.waits ch = some w ∧ (w.since + 50 ≤ s.time.m ∨ s.groupUp w.group = false)) ∧
    (∃ (s : State) (ch : Nat) (w : ProtWait), reqOk ch = true ∧ tget s.ctl.waits ch = some w ∧ s.time.m < w.since + 50 ∧ s.groupUp w.group = true) ∧
    (∃ (s : State) (c : Ctx) (rest : List Cmd) (buf : BufRead), AtHead s c 0x0E02 rest ∧ c.f 1 2 30 = 0 ∧ c.len = 4 ∧ c.f 1 0 2 = 0 ∧ c.f 2 6 26 = 0 ∧
      s.casc.self ≠ some (c.f 2 0 4)) ∧
    (∃ (s : State) (c : Ctx) (rest : List Cmd) (buf : BufRead), AtHead s c 0x0E02 rest ∧ c.f 1 2 30 = 0 ∧ c.len = 4 ∧ c.f 1 0 2 = 1 ∧ c.f 3 16 16 = 0) ∧
    (∃ (s : State) (c : Ctx) (rest : List Cmd) (buf : BufRead), AtHead s c 0x0E02 rest ∧ c.f 1 2 30 = 0 ∧ c.len = 4 ∧ c.f 1 0 2 = 2 ∧ ((∀ x ∈
      descChecks c 2 true, x.1 = false)) ∧ 16 * s.prot.map.length ≤ descLen c 2 ∧ ((∀ x ∈ bufChecks buf, x.1 = false))) ∧
    (∃ (s : State) (c : Ctx) (rest : List Cmd) (buf : BufRead), AtHead s c 0x0E02 rest ∧ c.f 1 2 30 = 0 ∧ c.len = 1 ∧ c.f 1 0 2 = 3) :=
  ⟨
    ⟨(put (sProt 0) 0 0x0E01 [0x10000 + 1 * 2 ^ 24]), (cx 0 0x0E01 [0x10000 + 1 * 2 ^ 24]), [], _, (okv _), head _ _ _ _ (by decide) (by decide +kernel),
      rfl, by decide +kernel, by decide +kernel, by decide +kernel, by decide +kernel, by decide +kernel, by decide +kernel, by decide +kernel, okGet
      (by decide +kernel)⟩,
    ⟨(put (sProt 2) 0 0x0E01 [0x10000 + 0 * 2 ^ 24]), (cx 0 0x0E01 [0x10000 + 0 * 2 ^ 24]), [], _, (okv _), head _ _ _ _ (by decide) (by decide +kernel),
      rfl, by decide +kernel, by decide +kernel, by decide +kernel, by decide +kernel, by decide +kernel, by decide +kernel, by decide +kernel, okGet
      (by decide +kernel)⟩,
    ⟨(put (sProt 0) 0 0x0E01 [0x10000 + 2 * 2 ^ 24]), (cx 0 0x0E01 [0x10000 + 2 * 2 ^ 24]), [], _, (okv _), 0, 2, head _ _ _ _ (by decide) (by decide +kernel),
      rfl, by decide +kernel, by decide +kernel, by decide +kernel, by decide +kernel, by decide +kernel, by decide +kernel, by decide +kernel, by
      decide +kernel, by decide +kernel, (Classical.choose_spec fwEx), okGet (by decide +kernel)⟩,
    ⟨(sWait 5), 0, 1, 1, _, _, by decide +kernel, rfl, by decide +kernel⟩,
    ⟨(sWait 5), 0, 1, 0, _, _, _, (okv _), by decide +kernel, rfl, by decide +kernel, rfl, okGet (by decide +kernel)⟩,
    ⟨(sWait 55), 0, _, by decide +kernel, rfl, by decide +kernel⟩,
    ⟨(sWait 54), 0, _, by decide +kernel, rfl, by decide +kernel, by decide +kernel⟩,
    ⟨(put (sProt 0) 0 0x0E02 [0, 0x31, 0x1F, 0]), (cx 0 0x0E02 [0, 0x31, 0x1F, 0]), [], (.bytes []), head _ _ _ _ (by decide) (by decide +kernel), by
      decide +kernel, by decide +kernel, by decide +kernel, by decide +kernel, by decide +kernel⟩,
    ⟨(put (sProt 0) 0 0x0E02 [1, 0xFFFFFFFF, 0xFFFF, 0xFFFFFFFF]), (cx 0 0x0E02 [1, 0xFFFFFFFF, 0xFFFF, 0xFFFFFFFF]), [], (.bytes []), head _ _ _ _
      (by decide) (by decide +kernel), by decide +kernel, by decide +kernel, by decide +kernel, by decide +kernel⟩,
    ⟨(put ({ sProt 0 with prot := { (sProt 0).prot with map := [[1, 2, 3, 4, 5, 6]] } }) 0 0x0E02 [2, 0, 0, 0x2000010]), (cx 0 0x0E02 [2, 0, 0,
      0x2000010]), [], (.bytes []), head _ _ _ _ (by decide) (by decide +kernel), by decide +kernel, by decide +kernel, by decide +kernel, by decide +kernel,
      by decide +kernel, by decide +kernel⟩,
    ⟨(put (sProt 0) 0 0x0E02 [3]), (cx 0 0x0E02 [3]), [], (.bytes []), head _ _ _ _ (by decide) (by decide +kernel), by decide +kernel, by decide +kernel,
      by decide +kernel⟩⟩

/-- States and operands that meet the hypotheses of PartnerMessages, clause by clause. -/
theorem witness_PartnerMessages :
    (∃ (s : State) (g : Nat) (p : Nat) (r : Reserve), g < 16 ∧ s.peerOf g = some p ∧ s.prot.room r = true) ∧
    (∃ (s : State) (g : Nat) (p : Nat) (r : Reserve), g < 16 ∧ s.peerOf g = some p ∧ s.prot.room r = false) ∧
    (∃ (s : State) (g : Nat) (p : Nat) (r : Reserve), g < 16 ∧ s.peerOf g = some p) ∧
    (∃ (s : State) (g : Nat) (q : Nat), g < 16 ∧ s.partnerGroup = some g) ∧
    (∃ (s : State) (g : Nat), s.partnerGroup = some g ∧ s.groupUp g = true ∧ s.time.m % 20 = 0) ∧
    (∃ (s : State) (g : Nat) (p : Nat) (m : ShadowMsg), g < 16 ∧ s.peerOf g = some p) ∧
    (∃ (s : State) (g : Nat) (p : Nat) (m : ShadowMsg), g < 16 ∧ s.peerOf g = some p ∧ ((m.whole = false ∨ m.full = false ∧ ((tgetD s.prot.shadows p
      {}).valid = false ∨ m.seq ≠ ((tgetD s.prot.shadows p {}).seq + 1) % 2 ^ 32)))) ∧
    (∃ (s : State) (x : Nat × Nat), ((s.prot.sentLog.find? fun x => decide (40 < tickDiff s.tick x.2)) = some x) ∧ s.prot.en = true ∧ s.prot.lagging =
      false) ∧
    (∃ (s : State) (leg : Nat) (l : Leg), leg < 65536 ∧ s.leg leg = some l ∧ l.claims ≠ 0 ∧ l.claimAt + (3 - l.claims) * 10 ≤ s.time.m) :=
  ⟨
    ⟨({ sProt 0 with prot := { (sProt 0).prot with poolLegs := 1, poolCycles := 9 } }), 0, _, (⟨1, 0, 1, 0, 0, 9⟩), by decide +kernel, rfl, by decide +kernel⟩,
    ⟨(sProt 0), 0, _, (⟨1, 0, 1, 0, 0, 9⟩), by decide +kernel, rfl, by decide +kernel⟩,
    ⟨(sProt 0), 0, _, (⟨1, 0, 1, 0, 0, 9⟩), by decide +kernel, rfl⟩,
    ⟨(sProt 0), _, 3, by decide +kernel, rfl⟩,
    ⟨({ sProt 0 with time := { r0.time with m := 20 } }), _, rfl, by decide +kernel, by decide +kernel⟩,
    ⟨(sProt 0), 0, _, (⟨1, 0, true, [], [], true⟩), by decide +kernel, rfl⟩,
    ⟨(sProt 0), 0, _, (⟨1, 0, false, [], [], true⟩), by decide +kernel, rfl, by decide +kernel⟩,
    ⟨({ sProt 0 with prot := { (sProt 0).prot with sentLog := [(1, 0)] }, time := { r0.time with m := 41 } }), _, rfl, by decide +kernel, by decide +kernel⟩,
    ⟨({ sLeg with legs := [(0, { leg0 with claims := 3 })] }), 0, _, by decide +kernel, rfl, by decide +kernel, by decide +kernel⟩⟩

/-- States and operands that meet the hypotheses of UpdateTransfer, clause by clause. -/
theorem witness_UpdateTransfer :
    (∃ (s : State) (c : Ctx) (rest : List Cmd), AtHead s c 0x1001 rest ∧ s.committing = none ∧ s.upd.phase < 3 ∧ ((∀ x, s.upd.session = some x →
      x.owner = c.issuer)) ∧ (c.w 1).toNat ≤ 268435456 ∧ (c.w 1).toNat % 4 = 0) ∧
    (∃ (s : State) (c : Ctx) (rest : List Cmd) (x : UpdSession) (bs : List Byte), AtHead s c 0x1002 rest ∧ s.committing = none ∧ s.upd.session = some
      x ∧ x.owner = c.issuer ∧ (c.w 1).toNat % 4096 = 0 ∧ (c.w 1).toNat + descLen c 3 ≤ x.len ∧ ((∀ y ∈ descChecks c 3 false, y.1 = false)) ∧ descLen
      c 3 ≤ 1048576 ∧ ((descLen c 3 % 4096 = 0 ∨ (c.w 1).toNat + descLen c 3 = x.len)) ∧ crc32 (bufBytes (.bytes bs) (descLen c 3)) = (c.w 2).toNat) :=
  ⟨
    ⟨(put (sWhole) 0 0x1001 [0x10000000]), (cx 0 0x1001 [0x10000000]), [], head _ _ _ _ (by decide) (by decide +kernel), by decide +kernel, by decide +kernel,
      by decide +kernel, by decide +kernel, by decide +kernel⟩,
    ⟨(put (sUpd []) 0 0x1002 [0, 0x2144DF1C, 0, 0, 4]), (cx 0 0x1002 [0, 0x2144DF1C, 0, 0, 4]), [], _, [], head _ _ _ _ (by decide) (by decide +kernel),
      by decide +kernel, rfl, by decide +kernel, by decide +kernel, by decide +kernel, by decide +kernel, by decide +kernel, by decide +kernel, by
      decide +kernel⟩⟩

/-- States and operands that meet the hypotheses of UpdateCommands, clause by clause. -/
theorem witness_UpdateCommands :
    (∃ (s : State) (c : Ctx) (rest : List Cmd) (x : UpdSession), AtHead s c 0x1003 rest ∧ c.f 1 0 32 = 0 ∧ s.committing = none ∧ s.upd.session = some
      x ∧ x.owner = c.issuer ∧ x.whole = true ∧ s.outstanding c.issuer < 256) ∧
    (∃ (s : State) (img : Image) (env : CommitEnv) (o : LongOp) (f : _), ((s.findOp 0x1003 fun _ => true) = some o) ∧ s.bootFault img env = some f) ∧
    (∃ (s : State) (img : Image) (env : CommitEnv) (o : LongOp), ((s.findOp 0x1003 fun _ => true) = some o) ∧ s.bootFault img env = none) ∧
    (∃ (s : State) (img : Image), (img.comps.map (·.1)).contains 5 = false) ∧
    (∃ (s : State) (c : Ctx) (rest : List Cmd) (fuseOk : Bool), AtHead s c 0x0105 rest ∧ (c.w 1).toNat = s.fwrev ∧ s.upd.phase = 3 ∧ s.upd.reloading =
      [] ∧ ((fuseOk = true ∨ s.upd.svnImage ≤ s.upd.svnFused))) ∧
    (∃ (s : State), s.upd.phase = 3 ∧ s.upd.trialEnd ≤ s.time.m) ∧
    (∃ (s : State) (c : Ctx) (rest : List Cmd), AtHead s c 0x1004 rest ∧ c.f 1 0 32 = 0 ∧ s.committing = none ∧ s.upd.fwOther ≠ 0 ∧ s.upd.phase ≠ 4 ∧
      s.outstanding c.issuer < 256) ∧
    (∃ (s : State) (img : Image) (env : CommitEnv) (o : LongOp), ((s.findOp 0x1004 fun _ => true) = some o) ∧ o.b = 1) ∧
    (∃ (s : State) (img : Image) (env : CommitEnv) (o : LongOp), ((s.findOp 0x1004 fun _ => true) = some o) ∧ o.b ≠ 1 ∧ s.bootFault img env = none) ∧
    (∃ (s : State) (img : Image) (env : CommitEnv) (o : LongOp) (f : _), ((s.findOp 0x1004 fun _ => true) = some o) ∧ o.b ≠ 1 ∧ s.bootFault img env =
      some f) ∧
    (∃ (s : State) (cl : Nat) (rest : List Nat) (pass : Bool), cl < 48 ∧ s.upd.reloading = cl :: rest ∧ s.placeUp cl = false) ∧
    (∃ (s : State) (cl : Nat) (rest : List Nat) (pass : Bool), cl < 48 ∧ s.upd.reloading = cl :: rest ∧ s.placeUp cl = true ∧ (s.cluster cl).group =
      none ∧ s.flowsOn cl = [] ∧ s.emptied_ cl = true) ∧
    (∃ (s : State) (cl : Nat) (rest : List Nat) (pass : Bool) (g : _), cl < 48 ∧ s.upd.reloading = cl :: rest ∧ s.placeUp cl = true ∧ (s.cluster
      cl).group = some g) ∧
    (∃ (s : State) (c : Ctx) (rest : List Cmd) (x : UpdSession), AtHead s c 0x1005 rest ∧ c.f 1 0 32 = 0 ∧ s.upd.session = some x ∧ s.upd.phase ≠ 3) ∧
    (∃ (s : State) (c : Ctx) (rest : List Cmd), AtHead s c 0x1005 rest ∧ c.f 1 0 32 = 0 ∧ s.upd.session = none) :=
  ⟨
    ⟨(put (sUpd [0]) 0 0x1003 [0]), (cx 0 0x1003 [0]), [], _, head _ _ _ _ (by decide) (by decide +kernel), by decide +kernel, by decide +kernel, rfl,
      by decide +kernel, by decide +kernel, by decide +kernel⟩,
    ⟨(sUop 0x1003 0), ({ img0 with magicOk := false }), (⟨true, true⟩), _, _, rfl, rfl⟩,
    ⟨(sUop 0x1003 0), img0, (⟨true, true⟩), _, rfl, by decide +kernel⟩,
    ⟨r0, img0, by decide +kernel⟩,
    ⟨(put (sTrial) 0 0x0105 [0x02000000]), (cx 0 0x0105 [0x02000000]), [], true, head _ _ _ _ (by decide) (by decide +kernel), by decide +kernel, by
      decide +kernel, by decide +kernel, by decide +kernel⟩,
    ⟨sTrial, by decide +kernel, by decide +kernel⟩,
    ⟨(put (sTrial) 0 0x1004 [0]), (cx 0 0x1004 [0]), [], head _ _ _ _ (by decide) (by decide +kernel), by decide +kernel, by decide +kernel, by decide +kernel,
      by decide +kernel, by decide +kernel⟩,
    ⟨(sUop 0x1004 1), img0, (⟨true, true⟩), _, rfl, by decide +kernel⟩,
    ⟨(sUop 0x1004 0), img0, (⟨true, true⟩), _, rfl, by decide +kernel, by decide +kernel⟩,
    ⟨(sUop 0x1004 0), img0, (⟨true, false⟩), _, _, rfl, by decide +kernel, rfl⟩,
    ⟨((sReload [47]).modCluster 47 fun c => { c with inService := false }), 47, _, true, by decide +kernel, rfl, by decide +kernel⟩,
    ⟨(sReload [47]), 47, _, true, by decide +kernel, rfl, by decide +kernel, by decide +kernel, by decide +kernel, by decide +kernel⟩,
    ⟨((sReload [46]).modCluster 46 fun c => { c with group := some (46, 2) }), 46, _, true, _, by decide +kernel, rfl, by decide +kernel, rfl⟩,
    ⟨(put (sUpd [0]) 0 0x1005 [0]), (cx 0 0x1005 [0]), [], _, head _ _ _ _ (by decide) (by decide +kernel), by decide +kernel, rfl, by decide +kernel⟩,
    ⟨(put (sWhole) 0 0x1005 [0]), (cx 0 0x1005 [0]), [], head _ _ _ _ (by decide) (by decide +kernel), by decide +kernel, by decide +kernel⟩⟩

/-- States and operands that meet the hypotheses of PowerAndReset, clause by clause. -/
theorem witness_PowerAndReset :
    (∃ (s : State) (fwrev : Nat) (ac : Bool), s.power.cond = .unpowered ∧ s.power.hotSwapOff = false) ∧
    (∃ (s : State) (fwrev : Nat) (ac : Bool), s.power.cond ≠ .unpowered) ∧
    (∃ (s : State), s.power.cond ≠ .unpowered ∧ s.pins.perst0 = true ∧ s.pins.perst1 = true) ∧
    (∃ (s : State) (p : Nat), p < 2 ∧ s.power.cond = .serving ∧ ((∀ f, tget s.ctl.waits (2 * f) = none))) ∧
    (∃ (s : State) (p : Nat), p < 2 ∧ s.power.cond = .stopped) ∧
    (∃ (s : State) (p : Nat), p < 2 ∧ s.power.cond = .serving ∧ s.domainOn (78 + p) = true ∧ s.pins.pciePend.getD p false = false) :=
  ⟨
    ⟨r0, 0x01000000, true, by decide +kernel, by decide +kernel⟩,
    ⟨sServ, 0x01000000, true, by decide +kernel⟩,
    ⟨({ sServ with pins := { r0.pins with perst0 := true, perst1 := true } }), by decide +kernel, by decide +kernel, by decide +kernel⟩,
    ⟨sServ, 1, by decide +kernel, by decide +kernel, (fun _ => rfl)⟩,
    ⟨({ r0 with power := { r0.power with cond := .stopped } }), 1, by decide +kernel, by decide +kernel⟩,
    ⟨(sPow []), 1, by decide +kernel, by decide +kernel, by decide +kernel, by decide +kernel⟩⟩

/-- States and operands that meet the hypotheses of PowerLoops, clause by clause. -/
theorem witness_PowerLoops :
    (∃ (s : State) (tl : Telemetry), s.power.cond ≠ .unpowered) ∧
    (∃ (s : State), s.power.cond ≠ .unpowered ∧ s.power.tlmLost = false) ∧
    (∃ (s : State) (mv : Nat), s.power.cond ≠ .unpowered ∧ ((mv < 40000 ∨ 60000 < mv)) ∧ ((∀ t, s.power.supplyEv = some t → t + 1000 ≤ s.time.m))) ∧
    (∃ (s : State) (mean : Nat) (k : Nat), s.power.ac = true ∧ s.power.cond ≠ .unpowered ∧ ((330 < mean ∨ s.power.tlmLost = true)) ∧ ((∀ t,
      s.power.capAt = some t → t + 10 ≤ s.time.m)) ∧ [1, 2, 3, 4, 5, 5, 5, 6, 6, 6][s.power.applied.length]? = some k) ∧
    (∃ (s : State) (mean : Nat), s.power.ac = true ∧ s.power.cond ≠ .unpowered ∧ mean < 315 ∧ s.power.tlmLost = false ∧ s.power.applied ≠ [] ∧ ((∀ t,
      s.power.capAt = some t → t + 1000 ≤ s.time.m))) ∧
    (∃ (s : State) (cl : Nat) (margin : Nat), cl < 48 ∧ s.domainOn cl = true ∧ margin < 4 ∧ (s.rail cl).mv < 850) ∧
    (∃ (s : State) (cl : Nat) (margin : Nat) (j : _), cl < 48 ∧ s.domainOn cl = true ∧ margin < 4 ∧ (s.rail cl).mv < 850 ∧ j ≠ cl) ∧
    (∃ (s : State) (cl : Nat) (margin : Nat), cl < 48 ∧ s.domainOn cl = true ∧ margin < 4 ∧ 850 ≤ (s.rail cl).mv) ∧
    (∃ (s : State) (cl : Nat) (mv : Nat), cl < 48 ∧ s.domainOn cl = true ∧ (s.rail cl).droop = false ∧ mv + 40 < (s.rail cl).mv) ∧
    (∃ (s : State) (cl : Nat), cl < 48 ∧ (s.rail cl).droop = true) ∧
    (∃ (s : State) (sensor : Nat) (t : Int), sensor < 64 ∧ s.power.cond = .serving ∧ s.pins.thermTrip = false ∧ (t < 16 * (if 54 ≤ sensor ∧ sensor <
      58 then 115 else 125))) ∧
    (∃ (s : State) (sensor : Nat) (t : Int), sensor < 64 ∧ s.power.cond = .serving ∧ s.pins.thermTrip = false ∧ (16 * (if 54 ≤ sensor ∧ sensor < 58
      then 115 else 125) ≤ t)) :=
  ⟨
    ⟨sServ, (⟨54000, 6000, 330000, 0⟩), by decide +kernel⟩,
    ⟨sServ, by decide +kernel, by decide +kernel⟩,
    ⟨({ sPow [] with power := { (sPow []).power with supplyEv := some 0 } }), 39999, by decide +kernel, by decide +kernel, (fun t h => by cases h; decide)⟩,
    ⟨({ sPow [1] with power := { (sPow [1]).power with capAt := some 990 } }), 331, 2, by decide +kernel, by decide +kernel, by decide +kernel, (fun t
      h => by cases h; decide), by decide +kernel⟩,
    ⟨({ sPow [1] with power := { (sPow [1]).power with capAt := some 0 } }), 314, by decide +kernel, by decide +kernel, by decide +kernel, by decide +kernel,
      by decide +kernel, (fun t h => by cases h; decide)⟩,
    ⟨({ sPow [] with power := { (sPow []).power with rails := [(47, { mv := 849 })] } }), 47, 3, by decide +kernel, by decide +kernel, by decide +kernel,
      by decide +kernel⟩,
    ⟨(sPow []), 47, 3, 46, by decide +kernel, by decide +kernel, by decide +kernel, by decide +kernel, by decide +kernel⟩,
    ⟨({ sPow [] with power := { (sPow []).power with rails := [(47, { mv := 850 })] } }), 47, 3, by decide +kernel, by decide +kernel, by decide +kernel,
      by decide +kernel⟩,
    ⟨(sPow []), 47, 709, by decide +kernel, by decide +kernel, by decide +kernel, by decide +kernel⟩,
    ⟨({ sPow [] with power := { (sPow []).power with rails := [(47, { droop := true })] } }), 47, by decide +kernel, by decide +kernel⟩,
    ⟨sServ, 63, 1999, by decide +kernel, by decide +kernel, by decide +kernel, by decide +kernel⟩,
    ⟨sServ, 54, 1840, by decide +kernel, by decide +kernel, by decide +kernel, by decide +kernel⟩⟩

/-- States and operands that meet the hypotheses of TimeBases, clause by clause. -/
theorem witness_TimeBases :
    (∃ (s : State) (c : Ctx) (rest : List Cmd), AtHead s c 0x0201 rest ∧ c.f 1 0 4 = 0 ∧ c.len = 4 ∧ c.f 1 6 26 = 0 ∧ c.f 2 0 2 ≠ 3 ∧ c.f 2 3 2 ≠ 3 ∧
      c.f 2 7 1 = 0 ∧ -7 ≤ signed 8 (c.f 4 0 8) ∧ signed 8 (c.f 4 0 8) ≤ 4 ∧ -3 ≤ signed 8 (c.f 4 8 8) ∧ signed 8 (c.f 4 8 8) ≤ 4 ∧ -7 ≤ signed 8 (c.f
      4 16 8) ∧ signed 8 (c.f 4 16 8) ≤ 6 ∧ 2 ≤ c.f 4 24 8 ∧ c.f 4 24 8 ≤ 10 ∧ ((∀ k, k < 4 → k ≠ c.f 1 4 2 → overlaps (tbInst c) (s.base k).inst =
      false))) ∧
    (∃ (s : State) (c : Ctx) (rest : List Cmd), AtHead s c 0x0201 rest ∧ c.f 1 0 4 = 0 ∧ c.len = 4 ∧ c.f 1 6 26 = 0 ∧ c.f 2 0 2 ≠ 3 ∧ c.f 2 3 2 ≠ 3 ∧
      c.f 2 7 1 = 0 ∧ -7 ≤ signed 8 (c.f 4 0 8) ∧ signed 8 (c.f 4 0 8) ≤ 4 ∧ -3 ≤ signed 8 (c.f 4 8 8) ∧ signed 8 (c.f 4 8 8) ≤ 4 ∧ -7 ≤ signed 8 (c.f
      4 16 8) ∧ signed 8 (c.f 4 16 8) ≤ 6 ∧ 2 ≤ c.f 4 24 8 ∧ c.f 4 24 8 ≤ 10 ∧ ((∀ k, k < 4 → k ≠ c.f 1 4 2 → overlaps (tbInst c) (s.base k).inst =
      false)) ∧ ((((s.base (c.f 1 4 2)).inst).role ≠ (tbInst c).role ∨ ((s.base (c.f 1 4 2)).inst).ports ≠ (tbInst c).ports ∨ ((s.base (c.f 1 4
      2)).inst).transport ≠ (tbInst c).transport))) ∧
    (∃ (b : Base) (i : PtpInst), i.role = 0) ∧
    (∃ (b : Base) (i : PtpInst), i.role ≠ 0) ∧
    (∃ (s : State) (c : Ctx) (rest : List Cmd), AtHead s c 0x0201 rest ∧ c.f 1 6 26 = 0 ∧ c.f 1 0 4 = 1 ∧ c.len = 2 ∧ c.f 2 16 16 = 0 ∧ (bitsOf (c.f 2
      0 16) 16).length ≠ 1) ∧
    (∃ (s : State) (c : Ctx) (rest : List Cmd), AtHead s c 0x0201 rest ∧ c.f 1 6 26 = 0 ∧ c.f 1 0 4 = 2 ∧ c.len = 3) ∧
    (∃ (s : State) (c : Ctx) (rest : List Cmd), AtHead s c 0x0201 rest ∧ c.f 1 6 26 = 0 ∧ c.f 1 0 4 = 3 ∧ c.len = 3 ∧ c.f 2 7 9 = 0 ∧ 1 ≤ c.f 2 16 16
      ∧ c.f 2 16 16 ≤ 900 ∧ -1000000 ≤ signed 32 (c.w 3).toNat ∧ signed 32 (c.w 3).toNat ≤ 1000000) ∧
    (∃ (s : State) (c : Ctx) (rest : List Cmd), AtHead s c 0x0202 rest ∧ c.f 1 4 28 = 0 ∧ ((c.f 1 0 2 = s.time.sel → s.confs = [])) ∧ c.len = 1 ∧ c.f
      1 2 2 = 0 ∧ (s.base (c.f 1 0 2)).inst.role ≠ 0) ∧
    (∃ (s : State) (c : Ctx) (rest : List Cmd), AtHead s c 0x0202 rest ∧ c.f 1 4 28 = 0 ∧ ((c.f 1 0 2 = s.time.sel → s.confs = [])) ∧ c.len = 1 ∧ c.f
      1 2 2 = 1 ∧ c.f 1 0 2 = s.time.ppsInTb) ∧
    (∃ (s : State) (c : Ctx) (rest : List Cmd), AtHead s c 0x0202 rest ∧ c.f 1 4 28 = 0 ∧ ((c.f 1 0 2 = s.time.sel → s.confs = [])) ∧ c.len = 5 ∧ c.f
      1 2 2 = 2 ∧ (c.w 3).toNat ≤ 999999999) ∧
    (∃ (s : State) (n : Nat) (v : Int) (off : Int), n < 4 ∧ s.time.bases.length = 4) ∧
    (∃ (s : State) (c : Ctx) (rest : List Cmd), AtHead s c 0x0204 rest ∧ c.f 1 2 30 = 0 ∧ s.confs = [] ∧ c.f 1 0 2 ≠ s.time.sel) ∧
    (∃ (s : State) (c : Ctx) (rest : List Cmd), AtHead s c 0x0203 rest) :=
  ⟨
    ⟨(put (r0) 0 0x0201 [0x30, 0x80000001, 0, 0x0A0604FD]), (cx 0 0x0201 [0x30, 0x80000001, 0, 0x0A0604FD]), [], head _ _ _ _ (by decide) (by decide +kernel),
      by decide +kernel, by decide +kernel, by decide +kernel, by decide +kernel, by decide +kernel, by decide +kernel, by decide +kernel, by decide +kernel,
      by decide +kernel, by decide +kernel, by decide +kernel, by decide +kernel, by decide +kernel, by decide +kernel, (lt4 (by decide +kernel) (by
      decide +kernel) (by decide +kernel) (by decide +kernel))⟩,
    ⟨(put (sPtp) 0 0x0201 [0x30, 0x40000001, 1, 0x0A0604FD]), (cx 0 0x0201 [0x30, 0x40000001, 1, 0x0A0604FD]), [], head _ _ _ _ (by decide) (by decide +kernel),
      by decide +kernel, by decide +kernel, by decide +kernel, by decide +kernel, by decide +kernel, by decide +kernel, by decide +kernel, by decide +kernel,
      by decide +kernel, by decide +kernel, by decide +kernel, by decide +kernel, by decide +kernel, by decide +kernel, (lt4 (by decide +kernel) (by
      decide +kernel) (by decide +kernel) (by decide +kernel)), by decide +kernel⟩,
    ⟨({ pathDelay := 5 }), {}, by decide +kernel⟩,
    ⟨({ pathDelay := 5 }), ({ role := 1 }), by decide +kernel⟩,
    ⟨(put (r0) 0 0x0201 [1, 0x8001]), (cx 0 0x0201 [1, 0x8001]), [], head _ _ _ _ (by decide) (by decide +kernel), by decide +kernel, by decide +kernel,
      by decide +kernel, by decide +kernel, by decide +kernel⟩,
    ⟨(put (r0) 0 0x0201 [2, 15, 0xFFFFFFFF]), (cx 0 0x0201 [2, 15, 0xFFFFFFFF]), [], head _ _ _ _ (by decide) (by decide +kernel), by decide +kernel,
      by decide +kernel, by decide +kernel⟩,
    ⟨(put (r0) 0 0x0201 [3, 0x384005E, 0xFFF0BDC0]), (cx 0 0x0201 [3, 0x384005E, 0xFFF0BDC0]), [], head _ _ _ _ (by decide) (by decide +kernel), by
      decide +kernel, by decide +kernel, by decide +kernel, by decide +kernel, by decide +kernel, by decide +kernel, by decide +kernel, by decide +kernel⟩,
    ⟨(put (sPtp) 0 0x0202 [3]), (cx 0 0x0202 [3]), [], head _ _ _ _ (by decide) (by decide +kernel), by decide +kernel, (fun _ => rfl), by decide +kernel,
      by decide +kernel, by decide +kernel⟩,
    ⟨(put (sPtp) 0 0x0202 [4]), (cx 0 0x0202 [4]), [], head _ _ _ _ (by decide) (by decide +kernel), by decide +kernel, (fun _ => rfl), by decide +kernel,
      by decide +kernel, by decide +kernel⟩,
    ⟨(put (sPtp) 0 0x0202 [11, 0xFFFF, 999999999, 5, 0]), (cx 0 0x0202 [11, 0xFFFF, 999999999, 5, 0]), [], head _ _ _ _ (by decide) (by decide +kernel),
      by decide +kernel, (fun _ => rfl), by decide +kernel, by decide +kernel, by decide +kernel⟩,
    ⟨r0, 3, -1, 5, by decide +kernel, by decide +kernel⟩,
    ⟨(put (r0) 0 0x0204 [3]), (cx 0 0x0204 [3]), [], head _ _ _ _ (by decide) (by decide +kernel), by decide +kernel, by decide +kernel, by decide +kernel⟩,
    ⟨(put (r0) 0 0x0203 [0]), (cx 0 0x0203 [0]), [], head _ _ _ _ (by decide) (by decide +kernel)⟩⟩

/-- States and operands that meet the hypotheses of TimingInputsAndMessages, clause by clause. -/
theorem witness_TimingInputsAndMessages :
    (∃ (s : State) (tb : Nat) (port : Nat) (kind : Nat), tb < 4 ∧ port < 16 ∧ kind ≤ 3 ∧ (s.base tb).inst.role ≠ 0 ∧ hasBit (s.base tb).inst.ports
      port = true ∧ (s.port port).link = true ∧ ((kind < 2 → (s.base tb).inst.slaveOnly = false)) ∧ ((kind = 2 → (s.base tb).inst.mech ≠ 1)) ∧ ((kind
      = 3 → (s.base tb).inst.mech ≠ 0))) ∧
    (∃ (s : State) (tb : Nat), tb < 4 ∧ (s.base tb).master ≠ none) ∧
    (∃ (s : State) (a : Nat) (b : Nat) (m : Ptp) (i : Int) (e : Int), a < 16 ∧ b < 16 ∧ hasBit s.time.tcPorts a = true ∧ hasBit s.time.tcPorts b =
      true ∧ a ≠ b ∧ s.ptpTerminates m.domain = false ∧ PtpBody.isEvent m.body = true) ∧
    (∃ (s : State), (s.base s.time.ppsInTb).arm = some 1 ∧ (s.base s.time.ppsInTb).st ≠ 1) ∧
    (∃ (s : State) (r : Nat) (v : Nat), s.time.ppsIn = some (r, v) ∧ s.time.ppsInLost = false ∧ r + 2 * secU < s.time.ref) ∧
    (∃ (s : State) (bs : List Byte) (ms : Nat), ((s.time.ppsIn = none ∨ bs.length ≠ 43 ∨ 900 < ms))) ∧
    (∃ (s : State) (bs : List Byte) (ms : Nat) (r : Nat) (v : Nat), s.time.ppsIn = some (r, v) ∧ todOk bs = true ∧ ms ≤ 900 ∧ (s.base
      s.time.ppsInTb).arm = some 1 ∧ (s.base s.time.ppsInTb).st = 1) ∧
    (∃ (s : State), s.time.clk10En = true) ∧
    (∃ (s : State), s.time.clk10 = true) ∧
    (∃ (s : State), s.time.outEn = true) :=
  ⟨
    ⟨sPtp, 3, 15, 2, by decide +kernel, by decide +kernel, by decide +kernel, by decide +kernel, by decide +kernel, by decide +kernel, (fun h => by
      cases h; contradiction), (fun _ => by decide +kernel), (fun h => by cases h)⟩,
    ⟨sPtp, 3, by decide +kernel, by decide +kernel⟩,
    ⟨({ sPtp with time := { sPtp.time with tcPorts := 0x8001 } }), 0, 15, (⟨7, 0, 9, 1, 0, .delayReq⟩), 5, 9, by decide +kernel, by decide +kernel, by
      decide +kernel, by decide +kernel, by decide +kernel, by decide +kernel, by decide +kernel⟩,
    ⟨(sBases { arm := some 1, st := 2 }), by decide +kernel, by decide +kernel⟩,
    ⟨({ r0 with time := { r0.time with ppsIn := some (0, 0), ref := 2 * secU + 1 } }), _, _, rfl, by decide +kernel, by decide +kernel⟩,
    ⟨r0, todZero, 901, by decide +kernel⟩,
    ⟨({ sBases { arm := some 1, st := 1 } with time := { (sBases { arm := some 1, st := 1 }).time with ppsIn := some (0, 0) } }), todZero, 900, _, _,
      rfl, by decide +kernel, by decide +kernel, by decide +kernel, by decide +kernel⟩,
    ⟨({ r0 with time := { r0.time with clk10En := true } }), by decide +kernel⟩,
    ⟨({ r0 with time := { r0.time with clk10 := true } }), by decide +kernel⟩,
    ⟨({ r0 with time := { r0.time with outEn := true } }), by decide +kernel⟩⟩

/-- States and operands that meet the hypotheses of Ports, clause by clause. -/
theorem witness_Ports :
    (∃ (s : State) (n : Nat), n < 16 ∧ (s.port n).cfg.mode ≠ 0 ∧ (s.port n).released = false ∧ (s.port n).link = false) ∧
    (∃ (s : State) (n : Nat), n < 16 ∧ (s.port n).link = true) ∧
    (∃ (s : State) (n : Nat) (o : LongOp), n < 16 ∧ (s.findOp 0x0303 (fun o => o.a == n) = some o) ∧ (s.port n).fwPending = false ∧ ((∀ k a, k < 4 →
      (s.base k).master = some a → a.port ≠ n))) ∧
    (∃ (s : State) (n : Nat) (o : LongOp), n < 16 ∧ (s.findOp 0x0304 (fun o => o.a == n) = some o) ∧ (s.port n).link = true) ∧
    (∃ (s : State) (n : Nat) (o : LongOp), n < 16 ∧ (s.findOp 0x0304 (fun o => o.a == n) = some o) ∧ (s.port n).link = false ∧ o.since + 2000 ≤
      s.time.m) ∧
    (∃ (s : State) (c : Ctx) (rest : List Cmd) (n : Nat) (cfg : PortCfg), AtHead s c 0x0301 rest ∧ n = c.f 1 0 4 ∧ cfg = { mode := c.f 1 4 3, errDeliver := c.bit 1 7, lt := c.bit 1 8, hostPf := c.f 1 9 1, slowClass := c.f 1 10 3, mac := c.f 2 0 16 * 2 ^ 32 + c.f 3 0 32 }
      ∧ c.f 1 13 19 = 0 ∧ c.f 2 16 16 = 0 ∧ cfg.mode ≠ 7 ∧ n % modeStep cfg.mode = 0 ∧ cfg.slowClass ≠ 7 ∧ ((cfg.mode ≠ 0 → cfg.mac ≠ 0 ∧ hasBit
      cfg.mac 40 = false)) ∧ s.portBusy n = none ∧ cfg.mode = (s.port n).cfg.mode) ∧
    (∃ (s : State) (c : Ctx) (rest : List Cmd) (n : Nat) (cfg : PortCfg), AtHead s c 0x0301 rest ∧ n = c.f 1 0 4 ∧ cfg = { mode := c.f 1 4 3, errDeliver := c.bit 1 7, lt := c.bit 1 8, hostPf := c.f 1 9 1, slowClass := c.f 1 10 3, mac := c.f 2 0 16 * 2 ^ 32 + c.f 3 0 32 }
      ∧ c.f 1 13 19 = 0 ∧ c.f 2 16 16 = 0 ∧ cfg.mode ≠ 7 ∧ n % modeStep cfg.mode = 0 ∧ cfg.slowClass ≠ 7 ∧ ((cfg.mode ≠ 0 → cfg.mac ≠ 0 ∧ hasBit
      cfg.mac 40 = false)) ∧ s.portBusy n = none ∧ cfg.mode ≠ (s.port n).cfg.mode ∧ s.portUsed n = false ∧ s.lanesTaken n cfg.mode = false ∧ (s.port
      n).released = false) ∧
    (∃ (s : State) (c : Ctx) (rest : List Cmd) (p : Port), AtHead s c 0x0302 rest ∧ c.f 1 5 27 = 0 ∧ p = s.port (c.f 1 0 4)) ∧
    (∃ (s : State) (c : Ctx) (rest : List Cmd) (n : Nat), n = c.f 1 0 4 ∧ c.f 1 4 28 = 0 ∧ s.portBusy n = none ∧ s.outstanding c.issuer < 256 ∧ AtHead
      s c 0x0303 rest ∧ (s.port n).cfg.mode ≠ 0 ∧ (s.port n).released = false) ∧
    (∃ (s : State) (c : Ctx) (rest : List Cmd) (n : Nat), n = c.f 1 0 4 ∧ c.f 1 4 28 = 0 ∧ s.portBusy n = none ∧ s.outstanding c.issuer < 256 ∧ AtHead
      s c 0x0304 rest ∧ (s.port n).released = true) :=
  ⟨
    ⟨(sPort false), 3, by decide +kernel, by decide +kernel, by decide +kernel, by decide +kernel⟩,
    ⟨(sPort true), 3, by decide +kernel, by decide +kernel⟩,
    ⟨(sPop 0x0303 true), 3, _, by decide +kernel, rfl, by decide +kernel, (fun k a hk h => lt4 (P := fun k => ((sPop 0x0303 true).base k).master =
      some a → a.port ≠ 3) (fun h => nomatch h) (fun h => nomatch h) (fun h => nomatch h) (fun h => nomatch h) k hk h)⟩,
    ⟨(sPop 0x0304 true), 3, _, by decide +kernel, rfl, by decide +kernel⟩,
    ⟨(sPop 0x0304 false), 3, _, by decide +kernel, rfl, by decide +kernel, by decide +kernel⟩,
    ⟨(put (sPort true) 0 0x0301 [0x1430, 0x200, 0x11]), (cx 0 0x0301 [0x1430, 0x200, 0x11]), [], _, _, head _ _ _ _ (by decide) (by decide +kernel),
      rfl, rfl, by decide +kernel, by decide +kernel, by decide +kernel, by decide +kernel, by decide +kernel, by decide +kernel, by decide +kernel,
      by decide +kernel⟩,
    ⟨(put ({ sPort true with legs := [], ports := [] }) 0 0x0301 [0x1410, 0x200, 0x11]), (cx 0 0x0301 [0x1410, 0x200, 0x11]), [], _, _, head _ _ _ _
      (by decide) (by decide +kernel), rfl, rfl, by decide +kernel, by decide +kernel, by decide +kernel, by decide +kernel, by decide +kernel, by
      decide +kernel, by decide +kernel, by decide +kernel, by decide +kernel, by decide +kernel, by decide +kernel⟩,
    ⟨(put (sPort true) 0 0x0302 [0x13]), (cx 0 0x0302 [0x13]), [], _, head _ _ _ _ (by decide) (by decide +kernel), by decide +kernel, rfl⟩,
    ⟨(put (sPort true) 0 0x0303 [3]), (cx 0 0x0303 [3]), [], _, rfl, by decide +kernel, by decide +kernel, by decide +kernel, head _ _ _ _ (by decide)
      (by decide +kernel), by decide +kernel, by decide +kernel⟩,
    ⟨(put ({ sPort true with ports := [(3, { cfg := { mode := 1 }, released := true })] }) 0 0x0304 [3]), (cx 0 0x0304 [3]), [], _, rfl, by decide +kernel,
      by decide +kernel, by decide +kernel, head _ _ _ _ (by decide) (by decide +kernel), by decide +kernel⟩⟩

/-- States and operands that meet the hypotheses of Reception, clause by clause. -/
theorem witness_Reception :
    (∃ (s : State) (n : Nat) (f : Frame), n < 16 ∧ (Instr.frameRx n f).wf = true ∧ (((s.port n).cfg.mode = 0 ∨ (s.port n).released = true ∨ (s.port
      n).link = false))) ∧
    (∃ (s : State) (u : State) (n : Nat) (f : Frame), n < 16 ∧ (Instr.frameRx n f).wf = true ∧ (s.port n).cfg.mode ≠ 0 ∧ (s.port n).released = false ∧
      (s.port n).link = true ∧ u = s.countFec n f ∧ u.accepts n f.dstMac = false) ∧
    (∃ (s : State) (u : State) (n : Nat) (f : Frame), n < 16 ∧ (Instr.frameRx n f).wf = true ∧ (s.port n).cfg.mode ≠ 0 ∧ (s.port n).released = false ∧
      (s.port n).link = true ∧ u = s.countFec n f ∧ u.accepts n f.dstMac = true ∧ frameFlags f ≠ (false, false, false, false) ∧ ((u.countBad n
      (frameFlags f)).port n).cfg.errDeliver = false) ∧
    (∃ (s : State) (u : State) (n : Nat) (f : Frame), n < 16 ∧ (Instr.frameRx n f).wf = true ∧ (s.port n).cfg.mode ≠ 0 ∧ (s.port n).released = false ∧
      (s.port n).link = true ∧ u = s.countFec n f ∧ u.accepts n f.dstMac = true ∧ frameFlags f = (false, false, false, false) ∧ f.body = .macControl) ∧
    (∃ (s : State) (u : State) (n : Nat) (f : Frame), n < 16 ∧ (Instr.frameRx n f).wf = true ∧ (s.port n).cfg.mode ≠ 0 ∧ (s.port n).released = false ∧
      (s.port n).link = true ∧ u = s.countFec n f ∧ u.accepts n f.dstMac = true ∧ frameFlags f = (false, false, false, false) ∧ f.body ≠ .macControl ∧
      1 < f.tags.length) ∧
    (∃ (s : State) (u : State) (n : Nat) (f : Frame), n < 16 ∧ (Instr.frameRx n f).wf = true ∧ (s.port n).cfg.mode ≠ 0 ∧ (s.port n).released = false ∧
      (s.port n).link = true ∧ u = s.countFec n f ∧ u.accepts n f.dstMac = true ∧ frameFlags f = (false, false, false, false) ∧ f.body = .lldp ∧
      f.tags.length < 2) ∧
    (∃ (s : State) (u : State) (n : Nat) (f : Frame) (mac : _) (a : _) (b : _), n < 16 ∧ (Instr.frameRx n f).wf = true ∧ (s.port n).cfg.mode ≠ 0 ∧
      (s.port n).released = false ∧ (s.port n).link = true ∧ u = s.countFec n f ∧ u.accepts n f.dstMac = true ∧ frameFlags f = (false, false, false,
      false) ∧ f.body = .arp true mac a b ∧ f.tags = [] ∧ a ≠ b ∧ u.answersFor n none false b = true) ∧
    (∃ (s : State) (u : State) (n : Nat) (f : Frame) (mac : _) (a : _), n < 16 ∧ (Instr.frameRx n f).wf = true ∧ (s.port n).cfg.mode ≠ 0 ∧ (s.port
      n).released = false ∧ (s.port n).link = true ∧ u = s.countFec n f ∧ u.accepts n f.dstMac = true ∧ frameFlags f = (false, false, false, false) ∧
      f.body = .nd true false mac a ∧ f.tags = [] ∧ u.answersFor n none true a = true) ∧
    (∃ (s : State) (u : State) (n : Nat) (f : Frame) (m : _), n < 16 ∧ (Instr.frameRx n f).wf = true ∧ (s.port n).cfg.mode ≠ 0 ∧ (s.port n).released =
      false ∧ (s.port n).link = true ∧ u = s.countFec n f ∧ u.accepts n f.dstMac = true ∧ frameFlags f = (false, false, false, false) ∧ f.body = .ptp
      m ∧ f.tags.length < 2) ∧
    (∃ (s : State) (u : State) (n : Nat) (f : Frame) (fl : Flow5) (k : IpChecks) (len : Nat) (p : Payload) (src : _), n < 16 ∧ (Instr.frameRx n f).wf
      = true ∧ (s.port n).cfg.mode ≠ 0 ∧ (s.port n).released = false ∧ (s.port n).link = true ∧ u = s.countFec n f ∧ u.accepts n f.dstMac = true ∧
      frameFlags f = (false, false, false, false) ∧ f.tags = [] ∧ f.body = .ip fl k len p ∧ parseDrop fl.ipv6 k len = some src) ∧
    (∃ (s : State) (u : State) (n : Nat) (f : Frame) (fl : Flow5) (k : IpChecks) (len : Nat) (p : Payload), n < 16 ∧ (Instr.frameRx n f).wf = true ∧
      (s.port n).cfg.mode ≠ 0 ∧ (s.port n).released = false ∧ (s.port n).link = true ∧ u = s.countFec n f ∧ u.accepts n f.dstMac = true ∧ frameFlags f
      = (false, false, false, false) ∧ f.tags = [] ∧ f.body = .ip fl k len p ∧ parseDrop fl.ipv6 k len = none ∧ u.classify n { fl with vlan := none }
      = none) ∧
    (∃ (s : State) (u : State) (n : Nat) (f : Frame) (fl : Flow5) (k : IpChecks) (len : Nat) (p : Payload) (leg : Nat) (l : Leg) (v : State), n < 16 ∧
      (Instr.frameRx n f).wf = true ∧ (s.port n).cfg.mode ≠ 0 ∧ (s.port n).released = false ∧ (s.port n).link = true ∧ u = s.countFec n f ∧ u.accepts
      n f.dstMac = true ∧ frameFlags f = (false, false, false, false) ∧ f.tags = [] ∧ f.body = .ip fl k len p ∧ parseDrop fl.ipv6 k len = none ∧
      u.classify n { fl with vlan := none } = some (leg, l) ∧ v = u.setLeg leg (l.countRx f.bytes) ∧ (l.state = 0 ∨ l.state = 2)) ∧
    (∃ (s : State) (u : State) (n : Nat) (f : Frame) (fl : Flow5) (k : IpChecks) (len : Nat) (p : Payload) (leg : Nat) (l : Leg) (v : State) (q :
      Policer) (r : _) (b : _), n < 16 ∧ (Instr.frameRx n f).wf = true ∧ (s.port n).cfg.mode ≠ 0 ∧ (s.port n).released = false ∧ (s.port n).link =
      true ∧ u = s.countFec n f ∧ u.accepts n f.dstMac = true ∧ frameFlags f = (false, false, false, false) ∧ f.tags = [] ∧ f.body = .ip fl k len p ∧
      parseDrop fl.ipv6 k len = none ∧ u.classify n { fl with vlan := none } = some (leg, l) ∧ v = u.setLeg leg (l.countRx f.bytes) ∧ l.state ≠ 0 ∧
      l.state ≠ 2 ∧ l.policer.police v.time.ref (wireLen (v.port n).overhead f.bytes) = (true, q) ∧ p = .rtp r b ∧ r.version = 2 ∧ r.extBytes ≤ 256) ∧
    (∃ (s : State) (u : State) (n : Nat) (f : Frame) (fl : Flow5) (k : IpChecks) (len : Nat) (p : Payload) (leg : Nat) (l : Leg) (v : State) (q :
      Policer) (first : _) (m : _), n < 16 ∧ (Instr.frameRx n f).wf = true ∧ (s.port n).cfg.mode ≠ 0 ∧ (s.port n).released = false ∧ (s.port n).link =
      true ∧ u = s.countFec n f ∧ u.accepts n f.dstMac = true ∧ frameFlags f = (false, false, false, false) ∧ f.tags = [] ∧ f.body = .ip fl k len p ∧
      parseDrop fl.ipv6 k len = none ∧ u.classify n { fl with vlan := none } = some (leg, l) ∧ v = u.setLeg leg (l.countRx f.bytes) ∧ l.state ≠ 0 ∧
      l.state ≠ 2 ∧ l.policer.police v.time.ref (wireLen (v.port n).overhead f.bytes) = (true, q) ∧ p = .raw first m ∧ 20 ≤ first ∧ first ≤ 63) ∧
    (∃ (s : State) (u : State) (n : Nat) (f : Frame) (fl : Flow5) (k : IpChecks) (len : Nat) (p : Payload) (leg : Nat) (l : Leg) (v : State) (q :
      Policer), n < 16 ∧ (Instr.frameRx n f).wf = true ∧ (s.port n).cfg.mode ≠ 0 ∧ (s.port n).released = false ∧ (s.port n).link = true ∧ u =
      s.countFec n f ∧ u.accepts n f.dstMac = true ∧ frameFlags f = (false, false, false, false) ∧ f.tags = [] ∧ f.body = .ip fl k len p ∧ parseDrop
      fl.ipv6 k len = none ∧ u.classify n { fl with vlan := none } = some (leg, l) ∧ v = u.setLeg leg (l.countRx f.bytes) ∧ l.state ≠ 0 ∧ l.state ≠ 2
      ∧ l.policer.police v.time.ref (wireLen (v.port n).overhead f.bytes) = (false, q)) ∧
    (∃ (s : State) (u : State) (fn : Nat) (x : SlowSlot) (r : PktRing), (Instr.sptxSlotSend fn x).wf = true ∧ r = (s.fn fn).rings.getD 1 {} ∧ (u =
      (s.modFn fn fun g => g.modRing 1 fun r => { r with head := (r.head + 1) % r.size })) ∧ (r.en = false ∨ r.head % r.size = r.tail % r.size)) ∧
    (∃ (s : State) (u : State) (fn : Nat) (x : SlowSlot) (r : PktRing), (Instr.sptxSlotSend fn x).wf = true ∧ r = (s.fn fn).rings.getD 1 {} ∧ (u =
      (s.modFn fn fun g => g.modRing 1 fun r => { r with head := (r.head + 1) % r.size })) ∧ r.en = true ∧ r.head % r.size ≠ r.tail % r.size ∧ ((x.len
      < 14 ∨ 9018 < x.len ∨ r.slotBytes - 64 < x.len))) ∧
    (∃ (s : State) (u : State) (fn : Nat) (x : SlowSlot) (r : PktRing), (Instr.sptxSlotSend fn x).wf = true ∧ r = (s.fn fn).rings.getD 1 {} ∧ (u =
      (s.modFn fn fun g => g.modRing 1 fun r => { r with head := (r.head + 1) % r.size })) ∧ r.en = true ∧ r.head % r.size ≠ r.tail % r.size ∧ 14 ≤
      x.len ∧ x.len ≤ 9018 ∧ x.len ≤ r.slotBytes - 64 ∧ isPF fn = false ∧ u.vfMaySend fn x = false) ∧
    (∃ (s : State) (u : State) (fn : Nat) (x : SlowSlot) (r : PktRing), (Instr.sptxSlotSend fn x).wf = true ∧ r = (s.fn fn).rings.getD 1 {} ∧ (u =
      (s.modFn fn fun g => g.modRing 1 fun r => { r with head := (r.head + 1) % r.size })) ∧ r.en = true ∧ r.head % r.size ≠ r.tail % r.size ∧ 14 ≤
      x.len ∧ x.len ≤ 9018 ∧ x.len ≤ r.slotBytes - 64 ∧ isPF fn = true ∧ x.legValid = false) ∧
    (∃ (s : State) (u : State) (fn : Nat) (x : SlowSlot) (r : PktRing) (l : _), (Instr.sptxSlotSend fn x).wf = true ∧ r = (s.fn fn).rings.getD 1 {} ∧
      (u = (s.modFn fn fun g => g.modRing 1 fun r => { r with head := (r.head + 1) % r.size })) ∧ r.en = true ∧ r.head % r.size ≠ r.tail % r.size ∧ 14
      ≤ x.len ∧ x.len ≤ 9018 ∧ x.len ≤ r.slotBytes - 64 ∧ u.vfMaySend fn x = true ∧ u.leg x.leg = some l ∧ l.yielded = false ∧ x.legValid = true ∧
      l.gen = x.gen) :=
  ⟨
    ⟨(sPort false), 15, (fr .lldp), by decide +kernel, by decide +kernel, by decide +kernel⟩,
    ⟨(sPort true), _, 0, ({ fr .other with dstMac := 1 }), by decide +kernel, by decide +kernel, by decide +kernel, by decide +kernel, by decide +kernel,
      rfl, by decide +kernel⟩,
    ⟨(sPort true), _, 0, ({ fr .other with fcsBad := true }), by decide +kernel, by decide +kernel, by decide +kernel, by decide +kernel, by decide +kernel,
      rfl, by decide +kernel, by decide +kernel, by decide +kernel⟩,
    ⟨(sPort true), _, 0, (fr .macControl), by decide +kernel, by decide +kernel, by decide +kernel, by decide +kernel, by decide +kernel, rfl, by
      decide +kernel, by decide +kernel, by decide +kernel⟩,
    ⟨(sPort true), _, 0, ({ fr .other with tags := [(1, 0), (2, 0)] }), by decide +kernel, by decide +kernel, by decide +kernel, by decide +kernel, by
      decide +kernel, rfl, by decide +kernel, by decide +kernel, by decide +kernel, by decide +kernel⟩,
    ⟨(sPort true), _, 0, (fr .lldp), by decide +kernel, by decide +kernel, by decide +kernel, by decide +kernel, by decide +kernel, rfl, by decide +kernel,
      by decide +kernel, by decide +kernel, by decide +kernel⟩,
    ⟨(sPort true), _, 0, (fr (.arp true 5 9 leg0.cfg.laddr)), _, _, _, by decide +kernel, by decide +kernel, by decide +kernel, by decide +kernel, by
      decide +kernel, rfl, by decide +kernel, by decide +kernel, rfl, by decide +kernel, by decide +kernel, by decide +kernel⟩,
    ⟨({ sPort true with legs := [(0, { leg0 with cfg := { leg0.cfg with port := 0, ipv6 := true } })] }), _, 0, (fr (.nd true false 5
      leg0.cfg.laddr)), _, _, by decide +kernel, by decide +kernel, by decide +kernel, by decide +kernel, by decide +kernel, rfl, by decide +kernel,
      by decide +kernel, rfl, by decide +kernel, by decide +kernel⟩,
    ⟨(sPort true), _, 0, (fr (.ptp ⟨7, 0, 9, 1, 0, .delayReq⟩)), _, by decide +kernel, by decide +kernel, by decide +kernel, by decide +kernel, by
      decide +kernel, rfl, by decide +kernel, by decide +kernel, rfl, by decide +kernel⟩,
    ⟨(sPort true), _, 0, (fr (.ip fl0 { ck0 with fragment := true } 106 (.rtp rtp0 ⟨[], true⟩))), fl0, ({ ck0 with fragment := true }), 106, (.rtp
      rtp0 ⟨[], true⟩), _, by decide +kernel, by decide +kernel, by decide +kernel, by decide +kernel, by decide +kernel, rfl, by decide +kernel, by
      decide +kernel, by decide +kernel, by decide +kernel, rfl⟩,
    ⟨({ sPort true with legs := [] }), _, 0, (fr (.ip fl0 ck0 106 (.rtp rtp0 ⟨[], true⟩))), fl0, ck0, 106, (.rtp rtp0 ⟨[], true⟩), by decide +kernel,
      by decide +kernel, by decide +kernel, by decide +kernel, by decide +kernel, rfl, by decide +kernel, by decide +kernel, by decide +kernel, by
      decide +kernel, by decide +kernel, by decide +kernel⟩,
    ⟨({ sPort true with legs := [(0, leg0)] }), _, 0, (fr (.ip fl0 ck0 106 (.rtp rtp0 ⟨[], true⟩))), fl0, ck0, 106, (.rtp rtp0 ⟨[], true⟩), _, _, _,
      by decide +kernel, by decide +kernel, by decide +kernel, by decide +kernel, by decide +kernel, rfl, by decide +kernel, by decide +kernel, by
      decide +kernel, by decide +kernel, by decide +kernel, rfl, rfl, by decide +kernel⟩,
    ⟨(sPort true), _, 0, (fr (.ip fl0 ck0 106 (.rtp rtp0 ⟨[], true⟩))), fl0, ck0, 106, (.rtp rtp0 ⟨[], true⟩), _, _, _, _, _, _, by decide +kernel, by
      decide +kernel, by decide +kernel, by decide +kernel, by decide +kernel, rfl, by decide +kernel, by decide +kernel, by decide +kernel, by decide +kernel,
      by decide +kernel, rfl, rfl, by decide +kernel, by decide +kernel, rfl, rfl, by decide +kernel, by decide +kernel⟩,
    ⟨(sPort true), _, 0, (fr (.ip fl0 ck0 106 (.raw 20 1))), fl0, ck0, 106, (.raw 20 1), _, _, _, _, _, _, by decide +kernel, by decide +kernel, by
      decide +kernel, by decide +kernel, by decide +kernel, rfl, by decide +kernel, by decide +kernel, by decide +kernel, by decide +kernel, by decide +kernel,
      rfl, rfl, by decide +kernel, by decide +kernel, rfl, rfl, by decide +kernel, by decide +kernel⟩,
    ⟨({ sPort true with legs := [(0, { leg0 with state := 1, policer := { rate := 1, depth := 1 } })] }), _, 0, (fr (.ip fl0 ck0 106 (.rtp rtp0 ⟨[],
      true⟩))), fl0, ck0, 106, (.rtp rtp0 ⟨[], true⟩), _, _, _, _, by decide +kernel, by decide +kernel, by decide +kernel, by decide +kernel, by
      decide +kernel, rfl, by decide +kernel, by decide +kernel, by decide +kernel, by decide +kernel, by decide +kernel, rfl, rfl, by decide +kernel,
      by decide +kernel, rfl⟩,
    ⟨r0, _, 0, (⟨60, 0, false, 0, 1, 0x020000000010, ⟨none, false, 2, 6000, 1, 5000⟩⟩), _, by decide +kernel, rfl, rfl, by decide +kernel⟩,
    ⟨({ sPort true with fns := [(0, { rings := [{}, { en := true, tail := 1, slot := 3 }, {}] }), (1, { rings := [{}, { en := true, tail := 1, slot := 3 }, {}] })], upd := { r0.upd with tenants := [(1, 0)] } }),
      _, 0, (⟨13, 0, false, 0, 1, 0x020000000010, ⟨none, false, 2, 6000, 1, 5000⟩⟩), _, by decide +kernel, rfl, rfl, by decide +kernel, by decide +kernel,
      by decide +kernel⟩,
    ⟨({ sPort true with fns := [(0, { rings := [{}, { en := true, tail := 1, slot := 3 }, {}] }), (1, { rings := [{}, { en := true, tail := 1, slot := 3 }, {}] })], upd := { r0.upd with tenants := [(1, 0)] } }),
      _, 1, (⟨14, 0, false, 0, 1, 0x020000000010, ⟨none, false, 2, 6000, 1, 5000⟩⟩), _, by decide +kernel, rfl, rfl, by decide +kernel, by decide +kernel,
      by decide +kernel, by decide +kernel, by decide +kernel, by decide +kernel, by decide +kernel⟩,
    ⟨({ sPort true with fns := [(0, { rings := [{}, { en := true, tail := 1, slot := 3 }, {}] }), (1, { rings := [{}, { en := true, tail := 1, slot := 3 }, {}] })], upd := { r0.upd with tenants := [(1, 0)] } }),
      _, 0, (⟨14, 0, false, 0, 1, 0x020000000010, ⟨none, false, 2, 6000, 1, 5000⟩⟩), _, by decide +kernel, rfl, rfl, by decide +kernel, by decide +kernel,
      by decide +kernel, by decide +kernel, by decide +kernel, by decide +kernel, by decide +kernel⟩,
    ⟨({ sPort true with fns := [(0, { rings := [{}, { en := true, tail := 1, slot := 3 }, {}] }), (1, { rings := [{}, { en := true, tail := 1, slot := 3 }, {}] })], upd := { r0.upd with tenants := [(1, 0)] } }),
      _, 1, (⟨120, 0, true, 0, 1, 0x020000000010, ⟨none, false, 2, 6000, 1, 5000⟩⟩), _, _, by decide +kernel, rfl, rfl, by decide +kernel, by decide +kernel,
      by decide +kernel, by decide +kernel, by decide +kernel, by decide +kernel, rfl, by decide +kernel, by decide +kernel, by decide +kernel⟩⟩

/-- States and operands that meet the hypotheses of TickBoundaries, clause by clause. -/
theorem witness_TickBoundaries :
    (∃ (s : State) (n : Nat), n < s.time.bases.length ∧ -1000000000000 < (s.base n).rate ∧ (s.base n).rate < 1000000000000 ∧ 0 ≤ (s.base n).rem ∧
      (s.base n).rem < 1000000000000) ∧
    (∃ (s : State), s.time.sel = s.time.drv) ∧
    (∃ (s : State) (tm : Time), s.time.sel ≠ s.time.drv ∧ tm = { (s.toBoundary s.time.sel).time with drv := s.time.sel }) :=
  ⟨
    ⟨r0, 3, by decide +kernel, by decide +kernel, by decide +kernel, by decide +kernel, by decide +kernel⟩,
    ⟨r0, by decide +kernel⟩,
    ⟨({ r0 with time := { r0.time with sel := 3 } }), _, by decide +kernel, rfl⟩⟩

/-- States and operands that meet the hypotheses of TrailheadItems, clause by clause. -/
theorem witness_TrailheadItems :
    (∃ (s : State) (core : Nat) (i : Item), core < 192 ∧ tget s.trail.cores core = none ∧ ((∀ k, k < core → core / 4 = k / 4 → (tget s.trail.cores
      k).isSome = true)) ∧ (s.cluster (core / 4)).inService = true ∧ s.trail.copies.getD s.trail.active false = true ∧ (s.order (s.placeOfCore
      core)).find? (s.mayRun (s.placeOfCore core)) = some i) ∧
    (∃ (s : State) (core : Nat), core < 192 ∧ (((tget s.trail.cores core).isSome = true ∨ (s.cluster (core / 4)).inService = false ∨
      s.trail.copies.getD s.trail.active false = false ∨ (s.order (s.placeOfCore core)).find? (s.mayRun (s.placeOfCore core)) = none))) ∧
    (∃ (s : State) (u : State) (core : Nat) (i : Item) (f : Flow), core < 192 ∧ tget s.trail.cores core = some i ∧ tget s.trail.flows i.flow = some f
      ∧ u = { s with trail := { s.trail with cores := tdel s.trail.cores core } } ∧ i.epoch = f.epoch ∧ f.protect = false) ∧
    (∃ (s : State) (u : State) (core : Nat) (i : Item) (f : Flow), core < 192 ∧ tget s.trail.cores core = some i ∧ tget s.trail.flows i.flow = some f
      ∧ u = { s with trail := { s.trail with cores := tdel s.trail.cores core } } ∧ i.epoch ≠ f.epoch ∧ f.marker = none) ∧
    (∃ (s : State) (core : Nat), core < 192 ∧ tget s.trail.cores core = none) ∧
    (∃ (s : State) (l : Nat), l < 4 ∧ ((∀ e ∈ s.trail.lost, e.what.list ≠ l))) ∧
    (∃ (s : State) (p : Nat), p < 3) ∧
    (∃ (s : State) (ls : List ClusterLoad), (Instr.placementPass ls).wf = true ∧ ((s.time.m % 100 ≠ 0 ∨ s.trail.lastPass = some s.time.m))) ∧
    (∃ (s : State) (cl : Nat) (t : Nat), cl < 48 ∧ (s.cluster cl).extraAt = none) ∧
    (∃ (s : State) (cl : Nat) (t : Nat), cl < 48 ∧ (s.cluster cl).extraAt = some t ∧ s.time.m ≤ t) ∧
    (∃ (s : State) (cl : Nat) (t : Nat) (u : _), cl < 48 ∧ (s.cluster cl).extraAt = some t ∧ t < s.time.m ∧ (u = (s.modCluster cl fun c => { c with extraAt := none }))) :=
  ⟨
    ⟨(sItem [(188, it0 0)] [it0 0]), 189, (it0 0), by decide +kernel, by decide +kernel, (fun k h1 h2 => (by omega : 188 = k) ▸ (by decide +kernel)),
      by decide +kernel, by decide +kernel, by decide +kernel⟩,
    ⟨r0, 191, by decide +kernel, by decide +kernel⟩,
    ⟨(sItem [(191, it0 0)] []), _, 191, _, _, by decide +kernel, rfl, rfl, rfl, by decide +kernel, by decide +kernel⟩,
    ⟨(sItem [(191, it0 255)] []), _, 191, _, _, by decide +kernel, rfl, rfl, rfl, by decide +kernel, by decide +kernel⟩,
    ⟨r0, 191, by decide +kernel, by decide +kernel⟩,
    ⟨r0, 3, by decide +kernel, by decide +kernel⟩,
    ⟨r0, 2, by decide +kernel⟩,
    ⟨({ r0 with time := { r0.time with m := 99 } }), (List.replicate 48 ⟨0, []⟩), by decide +kernel, by decide +kernel⟩,
    ⟨r0, 47, 0, by decide +kernel, by decide +kernel⟩,
    ⟨({ r0 with clusters := [(47, { extraAt := some 5 })], time := { r0.time with m := 5 } }), 47, _, by decide +kernel, rfl, by decide +kernel⟩,
    ⟨({ r0 with clusters := [(47, { extraAt := some 5 })], time := { r0.time with m := 6 } }), 47, _, _, by decide +kernel, rfl, by decide +kernel,
      rfl⟩⟩

/-- States and operands that meet the hypotheses of LockedGroupsAndDomains, clause by clause. -/
theorem witness_LockedGroupsAndDomains :
    (∃ (s : State) (c : Ctx) (rest : List Cmd) (first : Nat) (size : Nat) (ns : List Nat), AtHead s c 0x1201 rest ∧ c.f 1 8 24 = 0 ∧ first = c.f 1 0 6
      ∧ size = c.f 1 6 2 ∧ first < 48 ∧ ((size = 1 ∧ first % 2 = 0 ∨ size = 2 ∧ first % 4 = 0)) ∧ ns = s.lockNames first size ∧ ((∀ k ∈ ns, (s.cluster
      k).group = none ∧ (s.cluster k).inService = true)) ∧ s.drainer ns = none ∧ State.moveAll ns (ns.flatMap s.flowsOn) (s.popped c rest) = none) ∧
    (∃ (s : State) (c : Ctx) (rest : List Cmd) (first : Nat) (size : Nat) (ns : List Nat) (t : _), AtHead s c 0x1201 rest ∧ c.f 1 8 24 = 0 ∧ first =
      c.f 1 0 6 ∧ size = c.f 1 6 2 ∧ first < 48 ∧ ((size = 1 ∧ first % 2 = 0 ∨ size = 2 ∧ first % 4 = 0)) ∧ ns = s.lockNames first size ∧ ((∀ k ∈ ns,
      (s.cluster k).group = none ∧ (s.cluster k).inService = true)) ∧ s.drainer ns = none ∧ State.moveAll ns (ns.flatMap s.flowsOn) (s.popped c rest)
      = some t ∧ t.outstanding c.issuer < 256) ∧
    (∃ (s : State) (first : Nat) (o : LongOp) (ns : List Nat), first < 48 ∧ (s.findOp 0x1201 (fun o => o.a == first) = some o) ∧ ns = s.lockNames
      first o.b ∧ ((∃ p ∈ s.trail.flows, p.2.place ∈ ns))) ∧
    (∃ (s : State) (first : Nat) (o : LongOp) (ns : List Nat), first < 48 ∧ (s.findOp 0x1201 (fun o => o.a == first) = some o) ∧ ns = s.lockNames
      first o.b ∧ ((∀ p ∈ s.trail.flows, p.2.place ∉ ns ∧ ∀ m, p.2.marker = some m → m.cluster ∉ ns))) ∧
    (∃ (s : State) (u : State) (d : Nat), d < 80 ∧ u = s.domainOff d true ∧ d < 48) ∧
    (∃ (s : State) (u : State) (d : Nat), d < 80 ∧ u = s.domainOff d true ∧ 48 ≤ d ∧ d < 52) ∧
    (∃ (s : State) (u : State) (d : Nat), d < 80 ∧ u = s.domainOff d true ∧ 52 ≤ d ∧ d < 56) ∧
    (∃ (s : State) (u : State) (d : Nat), d < 80 ∧ u = s.domainOff d true ∧ 56 ≤ d ∧ d < 60) ∧
    (∃ (s : State) (u : State) (d : Nat), d < 80 ∧ u = s.domainOff d true ∧ 60 ≤ d ∧ d < 68) ∧
    (∃ (s : State) (u : State) (d : Nat), d < 80 ∧ u = s.domainOff d true ∧ 72 ≤ d ∧ d < 74) ∧
    (∃ (s : State) (u : State) (d : Nat), d < 80 ∧ u = s.domainOff d true ∧ 74 ≤ d ∧ d < 76) ∧
    (∃ (s : State) (u : State) (d : Nat), d < 80 ∧ u = s.domainOff d true ∧ 76 ≤ d ∧ d < 78) ∧
    (∃ (s : State) (u : State) (d : Nat), d < 80 ∧ u = s.domainOff d true ∧ 78 ≤ d) :=
  ⟨
    ⟨(put ({ sItem [] [] with clusters := [(46, { inService := true }), (47, { inService := true })] }) 0 0x1201 [0x6E]), (cx 0 0x1201 [0x6E]), [], _,
      _, _, head _ _ _ _ (by decide) (by decide +kernel), by decide +kernel, rfl, rfl, by decide +kernel, by decide +kernel, rfl, by decide +kernel,
      by decide +kernel, by decide +kernel⟩,
    ⟨(put (sWhole) 0 0x1201 [0x6E]), (cx 0 0x1201 [0x6E]), [], _, _, _, _, head _ _ _ _ (by decide) (by decide +kernel), by decide +kernel, rfl, rfl,
      by decide +kernel, by decide +kernel, rfl, by decide +kernel, by decide +kernel, rfl, by decide +kernel⟩,
    ⟨(sLock [(5, { owner := .canvas 0, cycles := 1, place := 47 })]), 46, _, _, by decide +kernel, rfl, rfl, by decide +kernel⟩,
    ⟨(sLock []), 46, _, _, by decide +kernel, rfl, rfl, (fun p h => by cases h)⟩,
    ⟨sWhole, _, 47, by decide +kernel, rfl, by decide +kernel⟩,
    ⟨sWhole, _, 51, by decide +kernel, rfl, by decide +kernel, by decide +kernel⟩,
    ⟨sWhole, _, 55, by decide +kernel, rfl, by decide +kernel, by decide +kernel⟩,
    ⟨sWhole, _, 59, by decide +kernel, rfl, by decide +kernel, by decide +kernel⟩,
    ⟨sWhole, _, 67, by decide +kernel, rfl, by decide +kernel, by decide +kernel⟩,
    ⟨sWhole, _, 73, by decide +kernel, rfl, by decide +kernel, by decide +kernel⟩,
    ⟨sWhole, _, 75, by decide +kernel, rfl, by decide +kernel, by decide +kernel⟩,
    ⟨sWhole, _, 77, by decide +kernel, rfl, by decide +kernel, by decide +kernel⟩,
    ⟨sWhole, _, 79, by decide +kernel, rfl, by decide +kernel⟩⟩

/-- States and operands that meet the hypotheses of LinkGroups, clause by clause. -/
theorem witness_LinkGroups :
    (∃ (s : State) (g : Nat), g < 16 ∧ (s.group g).st = 1) ∧
    (∃ (s : State) (g : Nat), g < 16 ∧ (s.group g).st ≠ 1) ∧
    (∃ (s : State) (g : Nat), g < 16 ∧ (s.group g).st = 2) ∧
    (∃ (s : State) (g : Nat), g < 16 ∧ (s.group g).st = 4 ∧ (s.group g).fwPending = false) ∧
    (∃ (s : State) (g : Nat), g < 16 ∧ (s.group g).st ≠ 4) ∧
    (∃ (s : State) (g : Nat) (cr : List Nat), (Instr.hello g s.casc.fedId (s.group g).peer cr).wf = true ∧ (((s.group g).st = 2 ∨ (s.group g).st = 3))
      ∧ (s.group g).cells.hello = []) ∧
    (∃ (s : State) (g : Nat) (fed : Nat) (mod : Nat), (Instr.helloAck g fed mod).wf = true ∧ (s.group g).st = 2 ∧ fed = s.casc.fedId ∧ mod = (s.group
      g).peer) ∧
    (∃ (s : State) (g : Nat) (fed : Nat) (mod : Nat), (Instr.helloAck g fed mod).wf = true ∧ (s.group g).st = 2 ∧ ((fed ≠ s.casc.fedId ∨ mod ≠
      (s.group g).peer)) ∧ (s.group g).mismatch = false) ∧
    (∃ (s : State) (g : Nat) (signal : Bool), g < 16 ∧ (s.group g).st = 3 ∧ ((signal = true ∨ 3 ≤ (s.group g).hbRun))) ∧
    (∃ (s : State) (g : Nat) (signal : Bool), g < 16 ∧ (((s.group g).st ≠ 3 ∨ signal = false ∧ (s.group g).hbRun < 3))) ∧
    (∃ (s : State) (g : Nat), g < 16 ∧ (s.group g).st = 3) ∧
    (∃ (s : State) (g : Nat) (h : Heartbeat), (Instr.heartbeat g h).wf = true ∧ (((s.group g).st ≠ 3 ∨ h.src ≠ (s.group g).peer ∨ h.fedId ≠
      s.casc.fedId))) ∧
    (∃ (s : State) (g : Nat) (h : Heartbeat), (Instr.heartbeat g h).wf = true ∧ (s.group g).st = 3 ∧ h.src = (s.group g).peer ∧ h.fedId =
      s.casc.fedId) :=
  ⟨
    ⟨(sGrp { st := 1 }), 15, by decide +kernel, by decide +kernel⟩,
    ⟨(sGrp {}), 15, by decide +kernel, by decide +kernel⟩,
    ⟨(sGrp { st := 2 }), 15, by decide +kernel, by decide +kernel⟩,
    ⟨(sGrp { st := 4 }), 15, by decide +kernel, by decide +kernel, by decide +kernel⟩,
    ⟨(sGrp (up {})), 15, by decide +kernel, by decide +kernel⟩,
    ⟨(sGrp { st := 2 }), 15, ([16, 256, 64]), by decide +kernel, by decide +kernel, by decide +kernel⟩,
    ⟨(sGrp { st := 2, peer := 1 }), 15, _, _, by decide +kernel, by decide +kernel, rfl, rfl⟩,
    ⟨(sGrp { st := 2, peer := 1 }), 15, 3, 2, by decide +kernel, by decide +kernel, by decide +kernel, by decide +kernel⟩,
    ⟨(sGrp (up { hbRun := 3 })), 15, false, by decide +kernel, by decide +kernel, by decide +kernel⟩,
    ⟨(sGrp (up { hbRun := 2 })), 15, false, by decide +kernel, by decide +kernel⟩,
    ⟨(sGrp (up {})), 15, by decide +kernel, by decide +kernel⟩,
    ⟨(sGrp (up {})), 15, (⟨2, 0, 0, 0, 3, 4, 3, 0⟩), by decide +kernel, by decide +kernel⟩,
    ⟨(sGrp (up {})), 15, (⟨1, 0, 0, 0, 3, 4, 3, 0⟩), by decide +kernel, by decide +kernel, by decide +kernel, by decide +kernel⟩⟩

/-- States and operands that meet the hypotheses of Cells, clause by clause. -/
theorem witness_Cells :
    (∃ (s : State) (g : Nat) (x : Cell), (Instr.cellRx g x).wf = true ∧ (((s.group g).st = 2 ∨ (s.group g).st = 3)) ∧ x.crcOk = false) ∧
    (∃ (s : State) (g : Nat) (x : Cell), (Instr.cellRx g x).wf = true ∧ (((s.group g).st = 2 ∨ (s.group g).st = 3)) ∧ x.crcOk = true ∧ x.typ = 0) ∧
    (∃ (s : State) (g : Nat) (x : Cell), (Instr.cellRx g x).wf = true ∧ (((s.group g).st = 2 ∨ (s.group g).st = 3)) ∧ x.crcOk = true ∧ x.typ ≠ 0 ∧
      x.seq ≠ (s.group g).cells.expSeq) ∧
    (∃ (s : State) (g : Nat) (x : Cell), (Instr.cellRx g x).wf = true ∧ (((s.group g).st = 2 ∨ (s.group g).st = 3)) ∧ x.crcOk = true ∧ x.typ ≠ 0 ∧
      x.seq = (s.group g).cells.expSeq) ∧
    (∃ (s : State) (g : Nat) (src : Nat), (s.group g).cells.retryDue = false) ∧
    (∃ (s : State) (g : Nat), g < 16 ∧ (s.group g).cells.retryDue = true) ∧
    (∃ (s : State) (g : Nat), g < 16 ∧ (s.group g).cells.retryDue = false) ∧
    (∃ (s : State) (g : Nat) (n : Nat), (Instr.retry g n).wf = true ∧ (((s.group g).st = 2 ∨ (s.group g).st = 3)) ∧ n ≠ (s.group g).cells.nextSeq ∧
      ((∃ k ∈ (s.group g).cells.kept, k.1 = n))) ∧
    (∃ (s : State) (g : Nat) (n : Nat), (Instr.retry g n).wf = true ∧ (((s.group g).st = 2 ∨ (s.group g).st = 3)) ∧ n ≠ (s.group g).cells.nextSeq ∧
      ((∀ k ∈ (s.group g).cells.kept, k.1 ≠ n))) ∧
    (∃ (s : State) (g : Nat) (n : Nat) (cr : Nat) (c : CellLayer) (k : _) (ks : _), g < 16 ∧ (((s.group g).st = 2 ∨ (s.group g).st = 3)) ∧ (s.group
      g).next = none ∧ (s.group g).cells.returnCredits = (n, cr, c) ∧ c.replay = k :: ks) ∧
    (∃ (s : State) (g : Nat) (n : Nat) (cr : Nat) (c : CellLayer), g < 16 ∧ (((s.group g).st = 2 ∨ (s.group g).st = 3)) ∧ (s.group g).next = none ∧
      (s.group g).cells.returnCredits = (n, cr, c) ∧ c.replay = [] ∧ ((1024 ≤ c.kept.length ∨ c.choose ((s.group g).st == 3) = none))) ∧
    (∃ (s : State) (g : Nat) (n : Nat) (cr : Nat) (c : CellLayer) (h : _), g < 16 ∧ (((s.group g).st = 2 ∨ (s.group g).st = 3)) ∧ (s.group g).next =
      none ∧ (s.group g).cells.returnCredits = (n, cr, c) ∧ c.replay = [] ∧ c.kept.length < 1024 ∧ c.choose ((s.group g).st == 3) = some h) ∧
    (∃ (s : State) (g : Nat) (n : Nat) (cr : Nat) (c : CellLayer) (m : _) (ms : _), g < 16 ∧ (((s.group g).st = 2 ∨ (s.group g).st = 3)) ∧ (s.group
      g).next = none ∧ (s.group g).cells.returnCredits = (n, cr, c) ∧ c.vc0 = m :: ms) ∧
    (∃ (s : State) (g : Nat) (n : Nat) (cr : Nat) (c : CellLayer), g < 16 ∧ (((s.group g).st = 2 ∨ (s.group g).st = 3)) ∧ (s.group g).next = none ∧
      (s.group g).cells.returnCredits = (n, cr, c) ∧ c.vc0 = [] ∧ (s.group g).st = 3 ∧ c.vc2 ≠ [] ∧ 0 < c.cr2) ∧
    (∃ (s : State) (g : Nat) (n : Nat) (cr : Nat) (c : CellLayer), g < 16 ∧ (((s.group g).st = 2 ∨ (s.group g).st = 3)) ∧ (s.group g).next = none ∧
      (s.group g).cells.returnCredits = (n, cr, c) ∧ c.vc0 = [] ∧ (s.group g).st = 3 ∧ ((c.vc2 = [] ∨ c.cr2 = 0)) ∧ c.vc3 ≠ [] ∧ 0 < c.cr3) ∧
    (∃ (s : State) (g : Nat) (n : Nat) (cr : Nat) (c : CellLayer), g < 16 ∧ (((s.group g).st = 2 ∨ (s.group g).st = 3)) ∧ (s.group g).next = none ∧
      (s.group g).cells.returnCredits = (n, cr, c) ∧ c.vc0 = [] ∧ (s.group g).st = 3 ∧ ((c.vc2 = [] ∨ c.cr2 = 0)) ∧ ((c.vc3 = [] ∨ c.cr3 = 0)) ∧ c.vc1
      ≠ [] ∧ 0 < c.cr1) :=
  ⟨
    ⟨(sGrp (up {})), 15, (cell 1 9 false), by decide +kernel, by decide +kernel, by decide +kernel⟩,
    ⟨(sGrp (up {})), 15, (cell 0 9 true), by decide +kernel, by decide +kernel, by decide +kernel, by decide +kernel⟩,
    ⟨(sGrp (up {})), 15, (cell 1 9 true), by decide +kernel, by decide +kernel, by decide +kernel, by decide +kernel, by decide +kernel⟩,
    ⟨(sGrp (up { cells := { expSeq := 65535 } })), 15, (cell 1 65535 true), by decide +kernel, by decide +kernel, by decide +kernel, by decide +kernel,
      by decide +kernel⟩,
    ⟨r0, 15, 0, by decide +kernel⟩,
    ⟨(sGrp (up { cells := { retryDue := true } })), 15, by decide +kernel, by decide +kernel⟩,
    ⟨(sGrp (up {})), 15, by decide +kernel, by decide +kernel⟩,
    ⟨(sGrp (up { cells := { nextSeq := 2, kept := [(1, 2)] } })), 15, 1, by decide +kernel, by decide +kernel, by decide +kernel, by decide +kernel⟩,
    ⟨(sGrp (up { cells := { nextSeq := 2, kept := [(1, 2)] } })), 15, 0, by decide +kernel, by decide +kernel, by decide +kernel, by decide +kernel⟩,
    ⟨(sGrp (up { cells := { replay := [(1, 2)] } })), 15, _, _, _, _, _, by decide +kernel, by decide +kernel, by decide +kernel, (rfl), rfl⟩,
    ⟨(sGrp (up { cells := { cr2 := 4 } })), 15, _, _, _, by decide +kernel, by decide +kernel, by decide +kernel, (rfl), by decide +kernel, by decide +kernel⟩,
    ⟨(sGrp (up { cells := { vc0 := [{ op := 8 }] } })), 15, _, _, _, _, by decide +kernel, by decide +kernel, by decide +kernel, (rfl), by decide +kernel,
      by decide +kernel, rfl⟩,
    ⟨(sGrp (up { cells := { vc0 := [{ op := 8 }] } })), 15, _, _, _, _, _, by decide +kernel, by decide +kernel, by decide +kernel, (rfl), rfl⟩,
    ⟨(sGrp (up { cells := { cr2 := 1, vc2 := [{ msg := .control 1 ⟨1, 0, 1, 0, 0, 9⟩ 0, cells := 1 }] } })), 15, _, _, _, by decide +kernel, by decide +kernel,
      by decide +kernel, (rfl), by decide +kernel, by decide +kernel, by decide +kernel, by decide +kernel⟩,
    ⟨(sGrp (up { cells := { cr3 := 1, vc3 := [{ msg := .control 1 ⟨1, 0, 1, 0, 0, 9⟩ 0, cells := 1 }] } })), 15, _, _, _, by decide +kernel, by decide +kernel,
      by decide +kernel, (rfl), by decide +kernel, by decide +kernel, by decide +kernel, by decide +kernel, by decide +kernel⟩,
    ⟨(sGrp (up { cells := { cr1 := 1, vc1 := [{ msg := .control 1 ⟨1, 0, 1, 0, 0, 9⟩ 0, cells := 1 }] } })), 15, _, _, _, by decide +kernel, by decide +kernel,
      by decide +kernel, (rfl), by decide +kernel, by decide +kernel, by decide +kernel, by decide +kernel, by decide +kernel, by decide +kernel⟩⟩

/-- States and operands that meet the hypotheses of WidthsAndLanes, clause by clause. -/
theorem witness_WidthsAndLanes :
    (∃ (s : State) (g : Nat), g < 16 ∧ (s.group g).st = 3 ∧ 100 ≤ (s.group g).winTicks ∧ 4 * (s.group g).winCells < slotsPerTick (s.group g).width *
      (s.group g).winTicks ∧ (s.group g).shed = true ∧ 2 ≤ (s.group g).width ∧ (s.group g).shedOut = none ∧ (s.group g).wakeOut = none ∧ (s.group
      g).next = none) ∧
    (∃ (s : State) (g : Nat), g < 16 ∧ (s.group g).st = 3 ∧ 100 ≤ (s.group g).winTicks ∧ slotsPerTick (s.group g).width * (s.group g).winTicks ≤ 4 *
      (s.group g).winCells) ∧
    (∃ (s : State) (g : Nat) (mask : Nat), (Instr.shedReq g mask true).wf = true ∧ (s.group g).st = 3) ∧
    (∃ (s : State) (g : Nat) (mask : Nat), (Instr.shedReq g mask false).wf = true ∧ (s.group g).st = 3 ∧ (s.group g).shedOut = none ∧ (s.group
      g).ownClosed = true ∧ (s.group g).wakeOut = none ∧ (s.group g).next = none ∧ laneCount mask < (s.group g).width) ∧
    (∃ (s : State) (g : Nat) (mask : Nat), (Instr.shedReq g mask false).wf = true ∧ (s.group g).st = 3 ∧ (s.group g).shedOut = none ∧ (s.group
      g).ownClosed = false) ∧
    (∃ (s : State) (g : Nat) (mask : Nat) (at_ : Nat) (m : Nat), (Instr.shedAck g mask at_).wf = true ∧ (s.group g).shedOut = some m ∧ mask = m) ∧
    (∃ (s : State) (g : Nat) (mask : Nat) (at_ : Nat) (m : Nat), (Instr.shedAck g mask at_).wf = true ∧ (s.group g).shedOut = some m ∧ mask ≠ m) ∧
    (∃ (s : State) (g : Nat) (mask : Nat) (at_ : Nat), (Instr.widthCommit g mask at_).wf = true ∧ (s.group g).st = 3) ∧
    (∃ (s : State) (g : Nat) (mask : Nat), (Instr.wakeReq g mask).wf = true ∧ (s.group g).st = 3) ∧
    (∃ (s : State) (g : Nat) (mask : Nat), g < 16 ∧ (s.group g).wakeOut = some mask) ∧
    (∃ (s : State) (g : Nat) (mask : Nat), (Instr.wakeAck g mask).wf = true ∧ (s.group g).st = 3 ∧ (s.group g).wakeOut ≠ none) ∧
    (∃ (s : State) (g : Nat) (lane : Nat), (Instr.laneFail g lane).wf = true ∧ (s.group g).st ≠ 0 ∧ hasBit (s.group g).good lane = true) ∧
    (∃ (s : State) (g : Nat) (lane : Nat), (Instr.laneFail g lane).wf = true ∧ (s.group g).st = 0) ∧
    (∃ (s : State) (g : Nat) (lane : Nat), (Instr.laneReturn g lane).wf = true ∧ (s.group g).st ≠ 0 ∧ hasBit (s.group g).good lane = false ∧ (s.group
      g).fwStage = 0 ∧ ((s.busyHandle fun o => o.opcode == 0x0F01 && o.phase == 4 && o.a == 5 + 16 * (4 * g + lane)) = none)) ∧
    (∃ (s : State) (g : Nat) (n : Nat) (x : Peer) (f : Flow5) (k : IpChecks) (len : Nat) (p : Payload), (Instr.cascMediaRx g f k len p).wf = true ∧
      ((s.casc.peers.find? fun x => x.2.group == g) = some (n, x)) ∧ (s.group g).st = 3) ∧
    (∃ (s : State) (g : Nat) (f : Flow5) (k : IpChecks) (len : Nat) (p : Payload), (Instr.cascMediaRx g f k len p).wf = true ∧ ((s.casc.peers.find?
      fun x => x.2.group == g) = none)) :=
  ⟨
    ⟨(sGrp (up { shed := true, winTicks := 100 })), 15, by decide +kernel, by decide +kernel, by decide +kernel, by decide +kernel, by decide +kernel,
      by decide +kernel, by decide +kernel, by decide +kernel, by decide +kernel⟩,
    ⟨(sGrp (up { winTicks := 100, winCells := 10000000 })), 15, by decide +kernel, by decide +kernel, by decide +kernel, by decide +kernel⟩,
    ⟨(sGrp (up {})), 15, 1, by decide +kernel, by decide +kernel⟩,
    ⟨(sGrp (up { ownClosed := true })), 15, 1, by decide +kernel, by decide +kernel, by decide +kernel, by decide +kernel, by decide +kernel, by
      decide +kernel, by decide +kernel⟩,
    ⟨(sGrp (up {})), 15, 1, by decide +kernel, by decide +kernel, by decide +kernel, by decide +kernel⟩,
    ⟨(sGrp (up { shedOut := some 3 })), 15, 3, 65535, _, by decide +kernel, rfl, by decide +kernel⟩,
    ⟨(sGrp (up { shedOut := some 3 })), 15, 1, 65535, _, by decide +kernel, rfl, by decide +kernel⟩,
    ⟨(sGrp (up {})), 15, 1, 65535, by decide +kernel, by decide +kernel⟩,
    ⟨(sGrp (up {})), 15, 15, by decide +kernel, by decide +kernel⟩,
    ⟨(sGrp (up { wakeOut := some 15 })), 15, _, by decide +kernel, rfl⟩,
    ⟨(sGrp (up { wakeOut := some 15 })), 15, 15, by decide +kernel, by decide +kernel, by decide +kernel⟩,
    ⟨(sGrp (up {})), 15, 3, by decide +kernel, by decide +kernel, by decide +kernel⟩,
    ⟨(sGrp {}), 15, 3, by decide +kernel, by decide +kernel⟩,
    ⟨(sGrp { up {} with good := 7 }), 15, 3, by decide +kernel, by decide +kernel, by decide +kernel, by decide +kernel, by decide +kernel⟩,
    ⟨(sGrp (up {})), 15, _, _, fl0, ck0, 106, (.rtp rtp0 ⟨[], true⟩), by decide +kernel, rfl, by decide +kernel⟩,
    ⟨(sGrp (up {})), 14, fl0, ck0, 106, (.rtp rtp0 ⟨[], true⟩), by decide +kernel, by decide +kernel⟩⟩

/-- States and operands that meet the hypotheses of CascadeCommands, clause by clause. -/
theorem witness_CascadeCommands :
    (∃ (s : State) (c : Ctx) (rest : List Cmd) (g : Nat), AtHead s c 0x0401 rest ∧ g = c.f 1 0 4 ∧ c.f 1 7 1 = 0 ∧ c.f 1 12 20 = 0 ∧ c.f 1 4 2 = 3) ∧
    (∃ (s : State) (c : Ctx) (rest : List Cmd) (g : Nat), AtHead s c 0x0401 rest ∧ g = c.f 1 0 4 ∧ c.f 1 7 1 = 0 ∧ c.f 1 12 20 = 0 ∧ s.groupBusy g =
      none ∧ c.f 1 4 2 = 0 ∧ s.casc.self ≠ none ∧ s.boundOther g (c.f 1 8 4) = false ∧ (s.group g).st = 0 ∧ s.outstanding c.issuer < 256) ∧
    (∃ (s : State) (c : Ctx) (rest : List Cmd) (g : Nat), AtHead s c 0x0401 rest ∧ g = c.f 1 0 4 ∧ c.f 1 7 1 = 0 ∧ c.f 1 12 20 = 0 ∧ s.groupBusy g =
      none ∧ c.f 1 4 2 = 1 ∧ (s.group g).st ≠ 0) ∧
    (∃ (s : State) (c : Ctx) (rest : List Cmd) (g : Nat), AtHead s c 0x0401 rest ∧ g = c.f 1 0 4 ∧ c.f 1 7 1 = 0 ∧ c.f 1 12 20 = 0 ∧ s.groupBusy g =
      none ∧ c.f 1 4 2 = 2 ∧ c.bit 1 6 = true) ∧
    (∃ (s : State) (c : Ctx) (rest : List Cmd) (g : Nat), AtHead s c 0x0401 rest ∧ g = c.f 1 0 4 ∧ c.f 1 7 1 = 0 ∧ c.f 1 12 20 = 0 ∧ s.groupBusy g =
      none ∧ c.f 1 4 2 = 2 ∧ c.bit 1 6 = false) ∧
    (∃ (s : State) (g : Nat) (o : LongOp), g < 16 ∧ (s.findOp 0x0401 (fun o => o.a == g) = some o) ∧ (s.group g).st = 3) ∧
    (∃ (s : State) (g : Nat) (o : LongOp), g < 16 ∧ (s.findOp 0x0401 (fun o => o.a == g) = some o) ∧ (s.group g).st ≠ 3 ∧ o.since + 1000 ≤ s.time.m ∧
      (s.group g).mismatch = false) ∧
    (∃ (s : State) (g : Nat) (o : LongOp), g < 16 ∧ (s.findOp 0x0401 (fun o => o.a == g) = some o) ∧ (s.group g).st ≠ 3 ∧ o.since + 1000 ≤ s.time.m ∧
      (s.group g).mismatch = true) ∧
    (∃ (s : State) (c : Ctx) (rest : List Cmd), AtHead s c 0x0402 rest ∧ c.f 1 2 2 = 0 ∧ c.f 1 8 24 = 0 ∧ c.f 1 0 2 = 0 ∧ c.len = 2 ∧ c.f 2 20 12 = 0
      ∧ s.anyGroup = false) ∧
    (∃ (s : State) (c : Ctx) (rest : List Cmd) (p : Peer), AtHead s c 0x0402 rest ∧ c.f 1 2 2 = 0 ∧ c.f 1 8 24 = 0 ∧ c.f 1 0 2 = 1 ∧ c.len = 6 ∧
      s.casc.self ≠ some (c.f 1 4 4) ∧ c.f 2 7 1 = 0 ∧ c.f 2 24 8 = 0 ∧ ((c.bit 2 4 = false → c.w 4 = 0 ∧ c.w 5 = 0 ∧ c.w 6 = 0)) ∧ s.groupBusy (c.f 2
      0 4) = none ∧ s.boundOther (c.f 2 0 4) (c.f 1 4 4) = false ∧ (((s.group (c.f 2 0 4)).st = 0 ∨ (s.group (c.f 2 0 4)).peer = c.f 1 4 4)) ∧ p =
      ⟨c.f 2 0 4, c.bit 2 4, c.bit 2 5, c.bit 2 6, c.f 2 8 4, c.f 2 12 12, addrOf (c.bit 2 4) (c.w 3) (c.w 4) (c.w 5) (c.w 6)⟩) ∧
    (∃ (s : State) (c : Ctx) (rest : List Cmd), AtHead s c 0x0402 rest ∧ c.f 1 2 2 = 0 ∧ c.f 1 8 24 = 0 ∧ c.f 1 0 2 = 2 ∧ c.len = 1 ∧ s.casc.self ≠
      some (c.f 1 4 4) ∧ tget s.casc.peers (c.f 1 4 4) ≠ none) :=
  ⟨
    ⟨(put (sGrp (up {})) 0 0x0401 [0x3F]), (cx 0 0x0401 [0x3F]), [], _, head _ _ _ _ (by decide) (by decide +kernel), rfl, by decide +kernel, by
      decide +kernel, by decide +kernel⟩,
    ⟨(put (sGrp {}) 0 0x0401 [0x10F]), (cx 0 0x0401 [0x10F]), [], _, head _ _ _ _ (by decide) (by decide +kernel), rfl, by decide +kernel, by decide +kernel,
      by decide +kernel, by decide +kernel, by decide +kernel, by decide +kernel, by decide +kernel, by decide +kernel⟩,
    ⟨(put (sGrp (up {})) 0 0x0401 [0x1F]), (cx 0 0x0401 [0x1F]), [], _, head _ _ _ _ (by decide) (by decide +kernel), rfl, by decide +kernel, by
      decide +kernel, by decide +kernel, by decide +kernel, by decide +kernel⟩,
    ⟨(put (sGrp (up {})) 0 0x0401 [0x6F]), (cx 0 0x0401 [0x6F]), [], _, head _ _ _ _ (by decide) (by decide +kernel), rfl, by decide +kernel, by
      decide +kernel, by decide +kernel, by decide +kernel, by decide +kernel⟩,
    ⟨(put (sGrp (up {})) 0 0x0401 [0x2F]), (cx 0 0x0401 [0x2F]), [], _, head _ _ _ _ (by decide) (by decide +kernel), rfl, by decide +kernel, by
      decide +kernel, by decide +kernel, by decide +kernel, by decide +kernel⟩,
    ⟨({ sGrp (up {}) with ctl := { r0.ctl with ops := [{ fn := 0, handle := 1, tag := 7, opcode := 0x0401, serial := 1, a := 15 }] }, time := { r0.time with m := 0 } }),
      15, _, by decide +kernel, rfl, by decide +kernel⟩,
    ⟨({ sGrp ({ st := 2 }) with ctl := { r0.ctl with ops := [{ fn := 0, handle := 1, tag := 7, opcode := 0x0401, serial := 1, a := 15 }] }, time := { r0.time with m := 1000 } }),
      15, _, by decide +kernel, rfl, by decide +kernel, by decide +kernel, by decide +kernel⟩,
    ⟨({ sGrp ({ st := 2, mismatch := true }) with ctl := { r0.ctl with ops := [{ fn := 0, handle := 1, tag := 7, opcode := 0x0401, serial := 1, a := 15 }] }, time := { r0.time with m := 1000 } }),
      15, _, by decide +kernel, rfl, by decide +kernel, by decide +kernel, by decide +kernel⟩,
    ⟨(put (r0) 0 0x0402 [0, 0xF0003]), (cx 0 0x0402 [0, 0xF0003]), [], head _ _ _ _ (by decide) (by decide +kernel), by decide +kernel, by decide +kernel,
      by decide +kernel, by decide +kernel, by decide +kernel, by decide +kernel⟩,
    ⟨(put (sGrp {}) 0 0x0402 [0x11, 0xABCE6F, 0x0A000001, 0, 0, 0]), (cx 0 0x0402 [0x11, 0xABCE6F, 0x0A000001, 0, 0, 0]), [], _, head _ _ _ _ (by
      decide) (by decide +kernel), by decide +kernel, by decide +kernel, by decide +kernel, by decide +kernel, by decide +kernel, by decide +kernel,
      by decide +kernel, (fun _ => ⟨rfl, rfl, rfl⟩), by decide +kernel, by decide +kernel, by decide +kernel, rfl⟩,
    ⟨(put (sGrp {}) 0 0x0402 [0x12]), (cx 0 0x0402 [0x12]), [], head _ _ _ _ (by decide) (by decide +kernel), by decide +kernel, by decide +kernel, by
      decide +kernel, by decide +kernel, by decide +kernel, by decide +kernel⟩⟩

/-- States and operands that meet the hypotheses of ConferencesAndLegs, clause by clause. -/
theorem witness_ConferencesAndLegs :
    (∃ (s : State) (c : Ctx) (rest : List Cmd) (id : Nat) (k : Conf) (t : State), AtHead s c 0x0501 rest ∧ c.f 1 13 19 = 0 ∧ c.f 2 12 20 = 0 ∧ (k = { tenant := if isPF c.issuer then c.f 1 0 12 else (s.tenantOf c.issuer).getD 0, mix := c.bit 1 12, group := c.f 2 0 12, creator := c.issuer })
      ∧ (s.node (c.f 2 0 12)).takes k.tenant = true ∧ firstFree s.confs 0 16384 = some id ∧ State.reflow { s.popped c rest with confs := tset s.confs id k }
      noSoft = .ok t) ∧
    (∃ (s : State) (c : Ctx) (rest : List Cmd) (id : Nat) (k : Conf), AtHead s c 0x0502 rest ∧ id = c.f 1 0 14 ∧ s.conf id = some k ∧ c.f 1 15 17 = 0
      ∧ s.mayTouch c.issuer k.tenant = true ∧ c.bit 1 14 = true ∧ c.f 2 12 20 = 0 ∧ (s.node (c.f 2 0 12)).takes k.tenant = true) ∧
    (∃ (s : State) (c : Ctx) (rest : List Cmd) (id : Nat) (k : Conf) (t : _), AtHead s c 0x0502 rest ∧ id = c.f 1 0 14 ∧ s.conf id = some k ∧ c.f 1 15
      17 = 0 ∧ s.mayTouch c.issuer k.tenant = true ∧ c.bit 1 14 = false ∧ c.f 2 1 31 = 0 ∧ ((c.bit 2 0 = true ∨ k.mix = false ∨ s.mixInUse id =
      false)) ∧ (((s.popped c rest).modConf id fun f => { f with mix := c.bit 2 0 }).reflow noSoft = .ok t)) ∧
    (∃ (s : State) (c : Ctx) (rest : List Cmd) (id : Nat) (k : Conf) (ns : List Nat), AtHead s c 0x0503 rest ∧ id = c.f 1 0 14 ∧ s.conf id = some k ∧
      c.f 1 14 2 = 0 ∧ c.f 1 17 15 = 0 ∧ s.mayTouch c.issuer k.tenant = true ∧ (ns = (s.legs.filter fun p => p.2.cfg.conf == id).map (·.1)) ∧ c.bit 1
      16 = false ∧ ns ≠ []) ∧
    (∃ (s : State) (c : Ctx) (rest : List Cmd) (id : Nat) (k : Conf) (ns : List Nat) (t : _), AtHead s c 0x0503 rest ∧ id = c.f 1 0 14 ∧ s.conf id =
      some k ∧ c.f 1 14 2 = 0 ∧ c.f 1 17 15 = 0 ∧ s.mayTouch c.issuer k.tenant = true ∧ (ns = (s.legs.filter fun p => p.2.cfg.conf == id).map (·.1)) ∧
      ((c.bit 1 16 = true ∨ ns = [])) ∧ (t = ns.foldl (fun s n => s.destroyLeg n) (s.popped c rest))) ∧
    (∃ (s : State) (c : Ctx) (rest : List Cmd) (id : Nat) (gen : Nat) (cfg : LegCfg) (k : Conf) (t : State) (v : State), AtHead s c 0x0601 rest ∧ cfg
      = legCfgOf c ∧ s.conf cfg.conf = some k ∧ s.freeLeg 0 65536 = some id ∧ gen = s.nextGen id ∧ cfg.kind ≤ 1 ∧ c.f 1 21 11 = 0 ∧ cfg.audMode ≠ 3 ∧
      cfg.vidMode ≠ 3 ∧ c.f 2 8 24 = 0 ∧ c.f 3 22 10 = 0 ∧ qlimitOk cfg.qlimit = true ∧ ((cfg.ipv6 = false → ∀ i ∈ [9, 10, 11, 13, 14, 15], c.w i =
      0)) ∧ s.mayTouch c.issuer k.tenant = true ∧ (s.node k.group).takes k.tenant = true ∧ ((cfg.audMode = 2 → k.mix = true)) ∧ s.keyUsed none cfg =
      false ∧ s.portOut cfg.port = false ∧ t = (s.popped c rest).addLeg id (newLeg (s.popped c rest) cfg gen c.issuer) ∧ t.mixedLegs ≤ 8192 ∧
      t.decodePlaces ≤ 16384 ∧ t.reflow (softFor id) = .ok v) ∧
    (∃ (s : State) (c : Ctx) (rest : List Cmd) (leg : Nat) (l : Leg) (cfg : _), AtHead s c 0x0602 rest ∧ leg = c.f 1 0 16 ∧ s.leg leg = some l ∧ c.f 1
      28 4 = 0 ∧ s.mayTouch c.issuer (s.legTenant l) = true ∧ l.gen = c.f 1 16 8 ∧ c.f 1 24 4 = 3 ∧ c.len = 2 ∧ c.f 2 22 10 = 0 ∧ cfg = { l.cfg with vlanEn := c.bit 2 15, vlanId := c.f 2 0 12, pcp := c.f 2 12 3, dscp := c.f 2 16 6 }
      ∧ cfg ≠ l.cfg ∧ s.keyUsed (some leg) cfg = false) ∧
    (∃ (s : State) (c : Ctx) (rest : List Cmd) (leg : Nat) (l : Leg) (cfg : _), AtHead s c 0x0602 rest ∧ leg = c.f 1 0 16 ∧ s.leg leg = some l ∧ c.f 1
      28 4 = 0 ∧ s.mayTouch c.issuer (s.legTenant l) = true ∧ l.gen = c.f 1 16 8 ∧ c.f 1 24 4 = 4 ∧ c.len = 3 ∧ c.f 2 16 16 = 0 ∧ cfg = { l.cfg with mac := c.f 2 0 16 * 2 ^ 32 + c.f 3 0 32 }
      ∧ cfg ≠ l.cfg ∧ s.keyUsed (some leg) cfg = false) ∧
    (∃ (s : State) (c : Ctx) (rest : List Cmd) (leg : Nat) (l : Leg), AtHead s c 0x0602 rest ∧ leg = c.f 1 0 16 ∧ s.leg leg = some l ∧ c.f 1 28 4 = 0
      ∧ s.mayTouch c.issuer (s.legTenant l) = true ∧ l.gen = c.f 1 16 8 ∧ c.f 1 24 4 = 1 ∧ c.len = 2 ∧ c.f 2 1 31 = 0 ∧ c.bit 2 0 = true ∧ l.state =
      1) ∧
    (∃ (s : State) (c : Ctx) (rest : List Cmd) (leg : Nat) (l : Leg), AtHead s c 0x0602 rest ∧ leg = c.f 1 0 16 ∧ s.leg leg = some l ∧ c.f 1 28 4 = 0
      ∧ c.f 1 24 4 = 1 ∧ c.len = 2 ∧ c.f 2 1 31 = 0 ∧ s.mayTouch c.issuer (s.legTenant l) = true ∧ l.gen ≠ c.f 1 16 8) ∧
    (∃ (s : State) (c : Ctx) (rest : List Cmd) (leg : Nat) (l : Leg), AtHead s c 0x0603 rest ∧ leg = c.f 1 0 16 ∧ s.leg leg = some l ∧ c.f 1 24 8 = 0
      ∧ s.mayTouch c.issuer (s.legTenant l) = true ∧ l.gen = c.f 1 16 8) ∧
    (∃ (s : State) (c : Ctx) (rest : List Cmd) (leg : Nat) (l : Leg), AtHead s c 0x0603 rest ∧ leg = c.f 1 0 16 ∧ s.leg leg = some l ∧ c.f 1 24 8 = 0
      ∧ s.mayTouch c.issuer (s.legTenant l) = true ∧ l.gen ≠ c.f 1 16 8) ∧
    (∃ (s : State) (c : Ctx) (rest : List Cmd) (leg : Nat) (l : Leg), AtHead s c 0x0603 rest ∧ leg = c.f 1 0 16 ∧ s.leg leg = some l ∧ c.f 1 24 8 = 0
      ∧ s.mayTouch c.issuer (s.legTenant l) = false) ∧
    (∃ (s : State) (c : Ctx) (rest : List Cmd) (leg : Nat) (l : Leg), AtHead s c 0x0604 rest ∧ leg = c.f 1 0 16 ∧ s.leg leg = some l ∧ c.f 1 25 7 = 0
      ∧ s.mayTouch c.issuer (s.legTenant l) = true ∧ l.gen = c.f 1 16 8) ∧
    (∃ (s : State) (leg : Nat) (t : Nat), leg < 65536 ∧ tget s.dying leg = some t ∧ t + 2 ≤ s.time.m) ∧
    (∃ (s : State) (leg : Nat) (t : Nat), leg < 65536 ∧ tget s.dying leg = some t ∧ s.time.m < t + 2) ∧
    (∃ (s : State) (leg : Nat) (l : Leg), leg < 65536 ∧ s.leg leg = some l ∧ l.state = 1 ∧ 0 < l.cfg.consentTo ∧ max l.lastAuth l.liveSince +
      l.cfg.consentTo ≤ s.time.m ∧ s.timerSet (.consent leg) = false) ∧
    (∃ (s : State) (leg : Nat) (l : Leg), leg < 65536 ∧ s.leg leg = some l ∧ ((l.state ≠ 1 ∨ l.cfg.consentTo = 0 ∨ s.time.m < max l.lastAuth
      l.liveSince + l.cfg.consentTo))) :=
  ⟨
    ⟨(put (sL leg0) 0 0x0501 [0x1000, 0]), (cx 0 0x0501 [0x1000, 0]), [], _, _, (okv _), head _ _ _ _ (by decide) (by decide +kernel), by decide +kernel,
      by decide +kernel, rfl, by decide +kernel, rfl, okGet (by decide +kernel)⟩,
    ⟨(put (sL leg0) 0 0x0502 [0x4000, 0]), (cx 0 0x0502 [0x4000, 0]), [], _, _, head _ _ _ _ (by decide) (by decide +kernel), rfl, rfl, by decide +kernel,
      by decide +kernel, by decide +kernel, by decide +kernel, by decide +kernel⟩,
    ⟨(put (sL leg0) 0 0x0502 [0, 1]), (cx 0 0x0502 [0, 1]), [], _, _, (okv _), head _ _ _ _ (by decide) (by decide +kernel), rfl, rfl, by decide +kernel,
      by decide +kernel, by decide +kernel, by decide +kernel, by decide +kernel, okGet (by decide +kernel)⟩,
    ⟨(put (sL leg0) 0 0x0503 [0]), (cx 0 0x0503 [0]), [], _, _, _, head _ _ _ _ (by decide) (by decide +kernel), rfl, rfl, by decide +kernel, by
      decide +kernel, by decide +kernel, rfl, by decide +kernel, by decide +kernel⟩,
    ⟨(put (sL leg0) 0 0x0503 [0x10000]), (cx 0 0x0503 [0x10000]), [], _, _, _, _, head _ _ _ _ (by decide) (by decide +kernel), rfl, rfl, by decide +kernel,
      by decide +kernel, by decide +kernel, rfl, by decide +kernel, rfl⟩,
    ⟨(put (sL leg0) 0 0x0601 [0, 0xC0, 0, 0x17701388, 0, 0x10000200, 5, 0x0A000001, 0, 0, 0, 0x0A000002, 0, 0, 0]), (cx 0 0x0601 [0, 0xC0, 0,
      0x17701388, 0, 0x10000200, 5, 0x0A000001, 0, 0, 0, 0x0A000002, 0, 0, 0]), [], _, _, _, _, _, (okv _), head _ _ _ _ (by decide) (by decide +kernel),
      rfl, rfl, rfl, rfl, by decide +kernel, by decide +kernel, by decide +kernel, by decide +kernel, by decide +kernel, by decide +kernel, by decide +kernel,
      by decide +kernel, by decide +kernel, by decide +kernel, by decide +kernel, by decide +kernel, by decide +kernel, rfl, by decide +kernel, by
      decide +kernel, okGet (by decide +kernel)⟩,
    ⟨(put (sL leg0) 0 0x0602 [0x03010000, 0x3FEFFF]), (cx 0 0x0602 [0x03010000, 0x3FEFFF]), [], _, _, _, head _ _ _ _ (by decide) (by decide +kernel),
      rfl, rfl, by decide +kernel, by decide +kernel, by decide +kernel, by decide +kernel, by decide +kernel, by decide +kernel, rfl, by decide +kernel,
      by decide +kernel⟩,
    ⟨(put (sL leg0) 0 0x0602 [0x04010000, 0x0200, 9]), (cx 0 0x0602 [0x04010000, 0x0200, 9]), [], _, _, _, head _ _ _ _ (by decide) (by decide +kernel),
      rfl, rfl, by decide +kernel, by decide +kernel, by decide +kernel, by decide +kernel, by decide +kernel, by decide +kernel, rfl, by decide +kernel,
      by decide +kernel⟩,
    ⟨(put (sL { leg0 with state := 1 }) 0 0x0602 [0x01010000, 1]), (cx 0 0x0602 [0x01010000, 1]), [], _, _, head _ _ _ _ (by decide) (by decide +kernel),
      rfl, rfl, by decide +kernel, by decide +kernel, by decide +kernel, by decide +kernel, by decide +kernel, by decide +kernel, by decide +kernel,
      by decide +kernel⟩,
    ⟨(put (sL leg0) 0 0x0602 [0x01020000, 1]), (cx 0 0x0602 [0x01020000, 1]), [], _, _, head _ _ _ _ (by decide) (by decide +kernel), rfl, rfl, by
      decide +kernel, by decide +kernel, by decide +kernel, by decide +kernel, by decide +kernel, by decide +kernel⟩,
    ⟨(put (sL leg0) 0 0x0603 [0x00010000]), (cx 0 0x0603 [0x00010000]), [], _, _, head _ _ _ _ (by decide) (by decide +kernel), rfl, rfl, by decide +kernel,
      by decide +kernel, by decide +kernel⟩,
    ⟨(put (sL leg0) 0 0x0603 [0x00020000]), (cx 0 0x0603 [0x00020000]), [], _, _, head _ _ _ _ (by decide) (by decide +kernel), rfl, rfl, by decide +kernel,
      by decide +kernel, by decide +kernel⟩,
    ⟨(put ({ sL leg0 with upd := { r0.upd with tenants := [(1, 4095)] } }) 2 0x0603 [0x00020000]), (cx 2 0x0603 [0x00020000]), [], _, _, head _ _ _ _
      (by decide) (by decide +kernel), rfl, rfl, by decide +kernel, by decide +kernel⟩,
    ⟨(put (sL leg0) 0 0x0604 [0x01010000]), (cx 0 0x0604 [0x01010000]), [], _, _, head _ _ _ _ (by decide) (by decide +kernel), rfl, rfl, by decide +kernel,
      by decide +kernel, by decide +kernel⟩,
    ⟨({ r0 with dying := [(65535, 3)], time := { r0.time with m := 5 } }), 65535, _, by decide +kernel, rfl, by decide +kernel⟩,
    ⟨({ r0 with dying := [(65535, 3)], time := { r0.time with m := 4 } }), 65535, _, by decide +kernel, rfl, by decide +kernel⟩,
    ⟨(sL { leg0 with state := 1, cfg := { leg0.cfg with consentTo := 500 }, lastAuth := 0 } |> fun s => { s with time := { s.time with m := 500 } }),
      0, _, by decide +kernel, rfl, by decide +kernel, by decide +kernel, by decide +kernel, by decide +kernel⟩,
    ⟨(sL leg0), 0, _, by decide +kernel, rfl, by decide +kernel⟩⟩

/-- States and operands that meet the hypotheses of KeyCommands, clause by clause. -/
theorem witness_KeyCommands :
    (∃ (s : State) (c : Ctx) (rest : List Cmd) (leg : Nat) (l : Leg) (key : KeyCtx) (t : State), AtHead s c 0x0701 rest ∧ leg = c.f 1 0 16 ∧ s.leg leg
      = some l ∧ c.f 1 28 4 = 0 ∧ ((∀ x ∈ keyZeroWords c, x.1 = false)) ∧ s.mayTouch c.issuer (s.legTenant l) = true ∧ l.gen = c.f 1 16 8 ∧ ((c.bit 1
      25 = true → l.keys.keyed (c.bit 1 24) = true)) ∧ ((c.bit 1 24 = false → c.bit 1 25 = true → l.keys.rxFallUntil = none)) ∧ (key = { words := c.f 1 26 2 :: (List.range 12).map fun i => (c.w (i + 2)).toNat, atTick := (c.w 14).toNat })
      ∧ (t = (s.popped c rest).modKeys leg (fun k => k.install (c.bit 1 24) (c.bit 1 25) key)) ∧ (((tgetD s.pages (s.legTenant l) {}).ctxMax = 0 ∨
      t.contextsOf (s.legTenant l) ≤ (tgetD s.pages (s.legTenant l) {}).ctxMax))) ∧
    (∃ (s : State) (c : Ctx) (rest : List Cmd) (leg : Nat) (l : Leg), AtHead s c 0x0702 rest ∧ leg = c.f 1 0 16 ∧ s.leg leg = some l ∧ c.f 1 26 6 = 0
      ∧ s.mayTouch c.issuer (s.legTenant l) = true ∧ l.gen = c.f 1 16 8 ∧ l.keys.holds (c.bit 1 24) (c.bit 1 25) = true) ∧
    (∃ (s : State) (c : Ctx) (rest : List Cmd) (leg : Nat) (l : Leg), AtHead s c 0x0702 rest ∧ leg = c.f 1 0 16 ∧ s.leg leg = some l ∧ c.f 1 26 6 = 0
      ∧ s.mayTouch c.issuer (s.legTenant l) = true ∧ l.gen = c.f 1 16 8 ∧ l.keys.holds (c.bit 1 24) (c.bit 1 25) = false) ∧
    (∃ (s : State) (c : Ctx) (rest : List Cmd), AtHead s c 0x0703 rest ∧ c.f 1 14 18 = 0 ∧ c.f 1 12 2 = 0 ∧ c.len = 2 ∧ c.bit 2 31 = false ∧ ((c.f 2 0
      19 = 0 ∨ 4 ≤ c.f 2 0 19 ∧ c.f 2 0 19 ≤ 262144)) ∧ ((c.f 2 19 12 = 0 ∨ 96 ≤ c.f 2 19 12 ∧ c.f 2 19 12 ≤ 3072))) ∧
    (∃ (s : State) (c : Ctx) (rest : List Cmd) (held : _), AtHead s c 0x0703 rest ∧ c.f 1 14 18 = 0 ∧ c.f 1 12 2 = 1 ∧ c.len = 1 ∧ (held =
      (s.legs.filter fun p => s.legTenant p.2 == c.f 1 0 12).filter (fun p => decide (0 < p.2.keys.contexts)))) ∧
    (∃ (s : State) (c : Ctx) (rest : List Cmd), AtHead s c 0x0703 rest ∧ c.f 1 14 18 = 0 ∧ c.f 1 12 2 = 2 ∧ c.len = 1) ∧
    (∃ (s : State) (leg : Nat) (t : Nat) (k : Nat) (n : Nat), leg < 65536 ∧ tget s.keyDying leg = some (t, k, n) ∧ s.timerSet (.keyFree leg) = false ∧
      t + 2 ≤ s.time.m) ∧
    (∃ (s : State) (leg : Nat) (t : Nat) (k : Nat) (n : Nat), leg < 65536 ∧ tget s.keyDying leg = some (t, k, n) ∧ s.timerSet (.keyFree leg) = false ∧
      s.time.m < t + 2) ∧
    (∃ (s : State) (leg : Nat) (t : Nat) (l : Leg), leg < 65536 ∧ s.leg leg = some l ∧ l.keys.rxFallUntil = some t ∧ s.timerSet (.fallbackEnd leg) =
      false ∧ t ≤ s.time.m) ∧
    (∃ (s : State) (leg : Nat) (t : Nat) (l : Leg), leg < 65536 ∧ s.leg leg = some l ∧ l.keys.rxFallUntil = some t ∧ s.timerSet (.fallbackEnd leg) =
      false ∧ s.time.m < t) :=
  ⟨
    ⟨(put (sL leg0) 0 0x0701 [0x01010000, 1, 2, 3, 4, 0, 0, 0, 0, 9, 9, 9, 0, 0]), (cx 0 0x0701 [0x01010000, 1, 2, 3, 4, 0, 0, 0, 0, 9, 9, 9, 0, 0]),
      [], _, _, _, _, head _ _ _ _ (by decide) (by decide +kernel), rfl, rfl, by decide +kernel, by decide +kernel, by decide +kernel, by decide +kernel,
      by decide +kernel, by decide +kernel, rfl, rfl, by decide +kernel⟩,
    ⟨(put (sL { leg0 with keys := { rxCur := some ⟨[1], 0⟩, rxNext := some ⟨[2], 0⟩, rxFallUntil := some 30 } }) 0 0x0702 [0x00010000]), (cx 0 0x0702
      [0x00010000]), [], _, _, head _ _ _ _ (by decide) (by decide +kernel), rfl, rfl, by decide +kernel, by decide +kernel, by decide +kernel, by
      decide +kernel⟩,
    ⟨(put (sL { leg0 with keys := { rxCur := some ⟨[1], 0⟩, rxNext := some ⟨[2], 0⟩, rxFallUntil := some 30 } }) 0 0x0702 [0x01010000]), (cx 0 0x0702
      [0x01010000]), [], _, _, head _ _ _ _ (by decide) (by decide +kernel), rfl, rfl, by decide +kernel, by decide +kernel, by decide +kernel, by
      decide +kernel⟩,
    ⟨(put (r0) 0 0x0703 [0xFFF, 0x7FF80000 - 0x7FF80000 + 0x03000004]), (cx 0 0x0703 [0xFFF, 0x7FF80000 - 0x7FF80000 + 0x03000004]), [], head _ _ _ _
      (by decide) (by decide +kernel), by decide +kernel, by decide +kernel, by decide +kernel, by decide +kernel, by decide +kernel, by decide +kernel⟩,
    ⟨(put (sL { leg0 with keys := { rxCur := some ⟨[1], 0⟩, rxNext := some ⟨[2], 0⟩, rxFallUntil := some 30 } }) 0 0x0703 [0x1000]), (cx 0 0x0703
      [0x1000]), [], _, head _ _ _ _ (by decide) (by decide +kernel), by decide +kernel, by decide +kernel, by decide +kernel, rfl⟩,
    ⟨(put (sL { leg0 with keys := { rxCur := some ⟨[1], 0⟩, rxNext := some ⟨[2], 0⟩, rxFallUntil := some 30 } }) 0 0x0703 [0x2FFF]), (cx 0 0x0703
      [0x2FFF]), [], head _ _ _ _ (by decide) (by decide +kernel), by decide +kernel, by decide +kernel, by decide +kernel⟩,
    ⟨({ r0 with keyDying := [(65535, (3, 0, 2))], time := { r0.time with m := 5 } }), 65535, _, _, _, by decide +kernel, rfl, by decide +kernel, by
      decide +kernel⟩,
    ⟨({ r0 with keyDying := [(65535, (3, 0, 2))], time := { r0.time with m := 4 } }), 65535, _, _, _, by decide +kernel, rfl, by decide +kernel, by
      decide +kernel⟩,
    ⟨({ sL { leg0 with keys := { rxCur := some ⟨[1], 0⟩, rxNext := some ⟨[2], 0⟩, rxFallUntil := some 30 } } with time := { r0.time with m := 30 } }),
      0, _, _, by decide +kernel, rfl, rfl, by decide +kernel, by decide +kernel⟩,
    ⟨({ sL { leg0 with keys := { rxCur := some ⟨[1], 0⟩, rxNext := some ⟨[2], 0⟩, rxFallUntil := some 30 } } with time := { r0.time with m := 29 } }),
      0, _, _, by decide +kernel, rfl, rfl, by decide +kernel, by decide +kernel⟩⟩

/-- States and operands that meet the hypotheses of Forwarding, clause by clause. -/
theorem witness_Forwarding :
    (∃ (s : State) (c : Ctx) (rest : List Cmd) (leg : Nat) (l : Leg) (pol : _), AtHead s c 0x0801 rest ∧ leg = c.f 1 0 16 ∧ s.leg leg = some l ∧ c.f 1
      28 4 = 0 ∧ s.mayTouch c.issuer (s.legTenant l) = true ∧ l.gen = c.f 1 16 8 ∧ c.f 1 24 4 = 0 ∧ c.len = 5 ∧ 16 ≤ c.f 2 0 16 ∧ c.f 2 0 16 ≤ c.f 2
      16 16 ∧ c.f 3 24 8 ≤ 50 ∧ 100 ≤ c.f 4 0 8 ∧ c.f 4 0 8 ≤ 250 ∧ c.f 4 14 18 = 0 ∧ c.f 5 0 16 ≤ 60000 ∧ 100 ≤ c.f 5 16 16 ∧ c.f 5 16 16 ≤ 5000 ∧
      pol = { l.pol with aMin := c.f 2 0 16, aStart := c.f 2 16 16, aMax := c.f 3 0 24, headroom := c.f 3 24 8, shapePct := c.f 4 0 8, fbMode := c.f 4 8 2, probe := c.bit 4 10, layerEv := c.bit 4 11, sendBye := c.bit 4 12, rsize := c.bit 4 13, upHold := c.f 5 0 16, keyMin := c.f 5 16 16 }) ∧
    (∃ (s : State) (c : Ctx) (rest : List Cmd) (leg : Nat) (l : Leg) (x : Leg), AtHead s c 0x0801 rest ∧ leg = c.f 1 0 16 ∧ s.leg leg = some l ∧ c.f 1
      28 4 = 0 ∧ s.mayTouch c.issuer (s.legTenant l) = true ∧ l.gen = c.f 1 16 8 ∧ x.shaper.next.fixed = false ∧ x.est.a = x.pol.aStart * 1000) ∧
    (∃ (s : State) (c : Ctx) (rest : List Cmd) (leg : Nat) (l : Leg) (x : Leg), AtHead s c 0x0801 rest ∧ leg = c.f 1 0 16 ∧ s.leg leg = some l ∧ c.f 1
      28 4 = 0 ∧ s.mayTouch c.issuer (s.legTenant l) = true ∧ l.gen = c.f 1 16 8 ∧ x.shaper.next.fixed = false) ∧
    (∃ (s : State) (c : Ctx) (rest : List Cmd) (leg : Nat) (l : Leg) (x : Leg), AtHead s c 0x0801 rest ∧ leg = c.f 1 0 16 ∧ s.leg leg = some l ∧ c.f 1
      28 4 = 0 ∧ s.mayTouch c.issuer (s.legTenant l) = true ∧ l.gen = c.f 1 16 8 ∧ x.shaper.next.fixed = true) ∧
    (∃ (s : State) (c : Ctx) (rest : List Cmd) (leg : Nat) (l : Leg) (pol : FwdPol) (t : State) (v : State), AtHead s c 0x0801 rest ∧ leg = c.f 1 0 16
      ∧ s.leg leg = some l ∧ c.f 1 28 4 = 0 ∧ s.mayTouch c.issuer (s.legTenant l) = true ∧ l.gen = c.f 1 16 8 ∧ c.f 1 24 4 = 1 ∧ c.len = 3 ∧ 576 ≤ c.f
      2 0 14 ∧ c.f 2 0 14 ≤ 9000 ∧ c.f 2 14 2 = 0 ∧ 100 ≤ c.f 2 16 16 ∧ c.f 2 16 16 ≤ 10000 ∧ c.f 3 21 11 = 0 ∧ ([c.f 3 0 4, c.f 3 4 4, c.f 3 8 4, c.f
      3 12 4, c.f 3 16 4].filter (· ≠ 0)).contains 15 = false ∧ (let ids := [c.f 3 0 4, c.f 3 4 4, c.f 3 8 4, c.f 3 12 4, c.f 3 16 4].filter (· ≠ 0); ids.eraseDups.length
      = ids.length) ∧ pol = { l.pol with mtu := c.f 2 0 14, rtcpIv := c.f 2 16 16, idLevel := c.f 3 0 4, idTwSeq := c.f 3 4 4, idDd := c.f 3 8 4, idFm := c.f 3 12 4, idAst := c.f 3 16 4, twoByteOk := c.bit 3 20 }
      ∧ t = (s.popped c rest).setLeg leg { l with pol := pol } ∧ ((l.cfg.feeds = true → t.decodePlaces ≤ 16384)) ∧ t.reflow (softFor leg) = .ok v) ∧
    (∃ (s : State) (c : Ctx) (rest : List Cmd) (leg : Nat) (l : Leg) (tr : Track) (v : State), AtHead s c 0x0801 rest ∧ leg = c.f 1 0 16 ∧ s.leg leg =
      some l ∧ c.f 1 28 4 = 0 ∧ s.mayTouch c.issuer (s.legTenant l) = true ∧ l.gen = c.f 1 16 8 ∧ c.f 1 24 4 = 2 ∧ c.f 2 10 2 = 0 ∧ c.len = 4 ∧ c.f 2
      26 6 = 0 ∧ c.f 2 8 2 ≠ 3 ∧ tget l.tracks (c.f 2 0 3) = none ∧ ((c.f 2 3 1 = 0 ∧ c.f 2 4 4 < 4 ∧ c.f 2 8 2 = 0 ∨ c.f 2 3 1 = 1 ∧ 8 ≤ c.f 2 4 4 ∧
      c.f 2 4 4 < 12)) ∧ tr = { media := c.f 2 3 1, codec := c.f 2 4 4, layering := c.f 2 8 2, pt := c.f 2 12 7, rtxPt := c.f 2 19 7, encs := [{ ssrc := (c.w 3).toNat, rtxSsrc := (c.w 4).toNat }] }
      ∧ ((s.popped c rest).setLeg leg { l with tracks := tset l.tracks (c.f 2 0 3) tr }).reflow (softFor leg) = .ok v) ∧
    (∃ (s : State) (c : Ctx) (rest : List Cmd) (leg : Nat) (l : Leg), AtHead s c 0x0801 rest ∧ leg = c.f 1 0 16 ∧ s.leg leg = some l ∧ c.f 1 28 4 = 0
      ∧ s.mayTouch c.issuer (s.legTenant l) = true ∧ l.gen = c.f 1 16 8 ∧ c.f 1 24 4 = 3 ∧ c.len = 2 ∧ c.f 2 3 29 = 0 ∧ tget l.tracks (c.f 2 0 3) =
      none) ∧
    (∃ (s : State) (c : Ctx) (rest : List Cmd) (leg : Nat) (l : Leg) (v : _), AtHead s c 0x0801 rest ∧ leg = c.f 1 0 16 ∧ s.leg leg = some l ∧ c.f 1
      28 4 = 0 ∧ s.mayTouch c.issuer (s.legTenant l) = true ∧ l.gen = c.f 1 16 8 ∧ c.f 1 24 4 = 3 ∧ c.len = 2 ∧ c.f 2 3 29 = 0 ∧ tget l.tracks (c.f 2
      0 3) ≠ none ∧ ((((s.popped c rest).sourceLost leg (· == c.f 2 0 3)).modLeg leg fun l => { l with tracks := tdel l.tracks (c.f 2 0 3) }).reflow
      (softFor leg) = .ok v)) ∧
    (∃ (s : State) (c : Ctx) (rest : List Cmd) (leg : Nat) (l : Leg), AtHead s c 0x0801 rest ∧ leg = c.f 1 0 16 ∧ s.leg leg = some l ∧ c.f 1 28 4 = 0
      ∧ s.mayTouch c.issuer (s.legTenant l) = true ∧ l.gen = c.f 1 16 8 ∧ c.f 1 24 4 = 4 ∧ c.len = 6) ∧
    (∃ (s : State) (c : Ctx) (rest : List Cmd) (leg : Nat) (k : Nat) (l : Leg), AtHead s c 0x0802 rest ∧ leg = c.f 1 0 16 ∧ k = c.f 1 24 6 ∧ s.leg leg
      = some l ∧ s.mayTouch c.issuer (s.legTenant l) = true ∧ l.gen = c.f 1 16 8 ∧ c.f 1 30 2 = 0 ∧ c.len = 1 ∧ tget l.slots k ≠ none) ∧
    (∃ (s : State) (c : Ctx) (rest : List Cmd) (leg : Nat) (k : Nat) (l : Leg), AtHead s c 0x0802 rest ∧ leg = c.f 1 0 16 ∧ k = c.f 1 24 6 ∧ s.leg leg
      = some l ∧ s.mayTouch c.issuer (s.legTenant l) = true ∧ l.gen = c.f 1 16 8 ∧ c.f 1 30 2 = 0 ∧ c.len = 1 ∧ tget l.slots k = none) ∧
    (∃ (s : State) (c : Ctx) (rest : List Cmd) (leg : Nat) (k : Nat) (l : Leg), AtHead s c 0x0802 rest ∧ leg = c.f 1 0 16 ∧ k = c.f 1 24 6 ∧ s.leg leg
      = some l ∧ s.mayTouch c.issuer (s.legTenant l) = true ∧ l.gen = c.f 1 16 8 ∧ c.f 1 30 2 = 2 ∧ c.len = 1) ∧
    (∃ (s : State) (c : Ctx) (rest : List Cmd) (leg : Nat) (k : Nat) (l : Leg) (n : Nat) (q : Leg) (tr : Track) (x : SubSet) (src : SlotSrc) (t : _),
      AtHead s c 0x0802 rest ∧ leg = c.f 1 0 16 ∧ k = c.f 1 24 6 ∧ s.leg leg = some l ∧ s.mayTouch c.issuer (s.legTenant l) = true ∧ l.gen = c.f 1 16
      8 ∧ c.f 1 30 2 = 1 ∧ c.len = 5 ∧ n = c.f 2 0 16 ∧ s.leg n = some q ∧ c.f 2 27 5 = 0 ∧ c.bit 5 7 = false ∧ c.bit 5 15 = false ∧ c.f 5 24 8 = 0 ∧
      s.mayTouch c.issuer (s.legTenant q) = true ∧ q.gen = c.f 2 16 8 ∧ q.cfg.conf = l.cfg.conf ∧ tget q.tracks (c.f 2 24 3) = some tr ∧ l.cfg.fwdSend
      tr.media = true ∧ q.cfg.fwdRecv tr.media = true ∧ ((∀ v ∈ l.slots, v.1 ≠ k → v.2.outSsrc ≠ (c.w 3).toNat)) ∧ l.keys.rekey = false ∧ x = ⟨(c.w
      3).toNat, (c.w 4).toNat, c.f 5 0 7, c.f 5 8 7, c.f 5 16 8⟩ ∧ src = .track n (c.f 2 16 8) (c.f 2 24 3) ∧ tget l.slots k = none ∧ s.subscriptions
      < 1048576 ∧ t = (s.popped c rest).newSlot leg k src tr.media x) ∧
    (∃ (s : State) (c : Ctx) (rest : List Cmd) (leg : Nat) (k : Nat) (l : Leg) (n : Nat) (q : Leg) (tr : Track) (x : SubSet) (src : SlotSrc) (v : _),
      AtHead s c 0x0802 rest ∧ leg = c.f 1 0 16 ∧ k = c.f 1 24 6 ∧ s.leg leg = some l ∧ s.mayTouch c.issuer (s.legTenant l) = true ∧ l.gen = c.f 1 16
      8 ∧ c.f 1 30 2 = 1 ∧ c.len = 5 ∧ n = c.f 2 0 16 ∧ s.leg n = some q ∧ c.f 2 27 5 = 0 ∧ c.bit 5 7 = false ∧ c.bit 5 15 = false ∧ c.f 5 24 8 = 0 ∧
      s.mayTouch c.issuer (s.legTenant q) = true ∧ q.gen = c.f 2 16 8 ∧ q.cfg.conf = l.cfg.conf ∧ tget q.tracks (c.f 2 24 3) = some tr ∧ l.cfg.fwdSend
      tr.media = true ∧ q.cfg.fwdRecv tr.media = true ∧ ((∀ v ∈ l.slots, v.1 ≠ k → v.2.outSsrc ≠ (c.w 3).toNat)) ∧ l.keys.rekey = false ∧ x = ⟨(c.w
      3).toNat, (c.w 4).toNat, c.f 5 0 7, c.f 5 8 7, c.f 5 16 8⟩ ∧ src = .track n (c.f 2 16 8) (c.f 2 24 3) ∧ tget l.slots k = some v ∧ v.sub = x ∧
      v.media = tr.media ∧ v.choice = src ∧ v.state ≠ 5) ∧
    (∃ (s : State) (c : Ctx) (rest : List Cmd) (leg : Nat) (k : Nat) (l : Leg) (n : Nat) (q : Leg) (tr : Track) (x : SubSet) (src : SlotSrc) (v : _)
      (t : _), AtHead s c 0x0802 rest ∧ leg = c.f 1 0 16 ∧ k = c.f 1 24 6 ∧ s.leg leg = some l ∧ s.mayTouch c.issuer (s.legTenant l) = true ∧ l.gen =
      c.f 1 16 8 ∧ c.f 1 30 2 = 1 ∧ c.len = 5 ∧ n = c.f 2 0 16 ∧ s.leg n = some q ∧ c.f 2 27 5 = 0 ∧ c.bit 5 7 = false ∧ c.bit 5 15 = false ∧ c.f 5 24
      8 = 0 ∧ s.mayTouch c.issuer (s.legTenant q) = true ∧ q.gen = c.f 2 16 8 ∧ q.cfg.conf = l.cfg.conf ∧ tget q.tracks (c.f 2 24 3) = some tr ∧
      l.cfg.fwdSend tr.media = true ∧ q.cfg.fwdRecv tr.media = true ∧ ((∀ v ∈ l.slots, v.1 ≠ k → v.2.outSsrc ≠ (c.w 3).toNat)) ∧ l.keys.rekey = false
      ∧ x = ⟨(c.w 3).toNat, (c.w 4).toNat, c.f 5 0 7, c.f 5 8 7, c.f 5 16 8⟩ ∧ src = .track n (c.f 2 16 8) (c.f 2 24 3) ∧ tget l.slots k = some v ∧
      v.outSsrc = x.ssrc ∧ v.media = tr.media ∧ v.choice ≠ src ∧ t = (s.popped c rest).repoint leg k v src x) ∧
    (∃ (s : State) (c : Ctx) (rest : List Cmd) (leg : Nat) (k : Nat) (mode : Nat) (l : Leg) (v : Slot), AtHead s c 0x0803 rest ∧ leg = c.f 1 0 16 ∧ k
      = c.f 1 24 6 ∧ mode = c.f 2 0 2 ∧ s.leg leg = some l ∧ s.mayTouch c.issuer (s.legTenant l) = true ∧ l.gen = c.f 1 16 8 ∧ c.f 1 30 2 = 0 ∧ c.f 2
      6 26 = 0 ∧ c.f 2 2 2 ≠ 3 ∧ c.f 2 4 2 ≠ 3 ∧ tget l.slots k = some v ∧ v.media = 1 ∧ v.pinMode ≠ mode) :=
  ⟨
    ⟨(put (sL leg0) 0 0x0801 [0x00010000, 0x00100010, 0x32FFFFFF, 0x1CFA, 0x1388EA60]), (cx 0 0x0801 [0x00010000, 0x00100010, 0x32FFFFFF, 0x1CFA,
      0x1388EA60]), [], _, _, _, head _ _ _ _ (by decide) (by decide +kernel), rfl, rfl, by decide +kernel, by decide +kernel, by decide +kernel, by
      decide +kernel, by decide +kernel, by decide +kernel, by decide +kernel, by decide +kernel, by decide +kernel, by decide +kernel, by decide +kernel,
      by decide +kernel, by decide +kernel, by decide +kernel, rfl⟩,
    ⟨(put (sL leg0) 0 0x0801 [0x04010000, 7, 1, 2, 3, 4]), (cx 0 0x0801 [0x04010000, 7, 1, 2, 3, 4]), [], _, _, leg0, head _ _ _ _ (by decide) (by
      decide +kernel), rfl, rfl, by decide +kernel, by decide +kernel, by decide +kernel, by decide +kernel, by decide +kernel⟩,
    ⟨(put (sL leg0) 0 0x0801 [0x04010000, 7, 1, 2, 3, 4]), (cx 0 0x0801 [0x04010000, 7, 1, 2, 3, 4]), [], _, _, leg0, head _ _ _ _ (by decide) (by
      decide +kernel), rfl, rfl, by decide +kernel, by decide +kernel, by decide +kernel, by decide +kernel⟩,
    ⟨(put (sL leg0) 0 0x0801 [0x04010000, 7, 1, 2, 3, 4]), (cx 0 0x0801 [0x04010000, 7, 1, 2, 3, 4]), [], _, _, ({ leg0 with shaper := { leg0.shaper with fixed := true } }),
      head _ _ _ _ (by decide) (by decide +kernel), rfl, rfl, by decide +kernel, by decide +kernel, by decide +kernel, by decide +kernel⟩,
    ⟨(put (sL leg0) 0 0x0801 [0x01010000, 0x27102328, 0x54321]), (cx 0 0x0801 [0x01010000, 0x27102328, 0x54321]), [], _, _, _, _, (okv _), head _ _ _
      _ (by decide) (by decide +kernel), rfl, rfl, by decide +kernel, by decide +kernel, by decide +kernel, by decide +kernel, by decide +kernel, by
      decide +kernel, by decide +kernel, by decide +kernel, by decide +kernel, by decide +kernel, by decide +kernel, by decide +kernel, by decide +kernel,
      rfl, rfl, by decide +kernel, okGet (by decide +kernel)⟩,
    ⟨(put (sL leg0) 0 0x0801 [0x02010000, 0x03FFF2BF - 0x6000 + 0x6000 - 0x0000 - 0x0000 - 0x0000 - 0x0000, 7, 8]), (cx 0 0x0801 [0x02010000,
      0x03FFF2BF - 0x6000 + 0x6000 - 0x0000 - 0x0000 - 0x0000 - 0x0000, 7, 8]), [], _, _, _, (okv _), head _ _ _ _ (by decide) (by decide +kernel),
      rfl, rfl, by decide +kernel, by decide +kernel, by decide +kernel, by decide +kernel, by decide +kernel, by decide +kernel, by decide +kernel,
      by decide +kernel, by decide +kernel, by decide +kernel, rfl, okGet (by decide +kernel)⟩,
    ⟨(put (sL leg0) 0 0x0801 [0x03010000, 7]), (cx 0 0x0801 [0x03010000, 7]), [], _, _, head _ _ _ _ (by decide) (by decide +kernel), rfl, rfl, by
      decide +kernel, by decide +kernel, by decide +kernel, by decide +kernel, by decide +kernel, by decide +kernel, by decide +kernel⟩,
    ⟨(put (sL legF) 0 0x0801 [0x03010000, 2]), (cx 0 0x0801 [0x03010000, 2]), [], _, _, (okv _), head _ _ _ _ (by decide) (by decide +kernel), rfl,
      rfl, by decide +kernel, by decide +kernel, by decide +kernel, by decide +kernel, by decide +kernel, by decide +kernel, by decide +kernel, okGet
      (by decide +kernel)⟩,
    ⟨(put (sL leg0) 0 0x0801 [0x04010000, 7, 1, 2, 3, 4]), (cx 0 0x0801 [0x04010000, 7, 1, 2, 3, 4]), [], _, _, head _ _ _ _ (by decide) (by decide +kernel),
      rfl, rfl, by decide +kernel, by decide +kernel, by decide +kernel, by decide +kernel, by decide +kernel⟩,
    ⟨(put (sL { legF with slots := [(63, slot0 2)] }) 0 0x0802 [0x3F010000]), (cx 0 0x0802 [0x3F010000]), [], _, _, _, head _ _ _ _ (by decide) (by
      decide +kernel), rfl, rfl, rfl, by decide +kernel, by decide +kernel, by decide +kernel, by decide +kernel, by decide +kernel⟩,
    ⟨(put (sL leg0) 0 0x0802 [0x3F010000]), (cx 0 0x0802 [0x3F010000]), [], _, _, _, head _ _ _ _ (by decide) (by decide +kernel), rfl, rfl, rfl, by
      decide +kernel, by decide +kernel, by decide +kernel, by decide +kernel, by decide +kernel⟩,
    ⟨(put (sL leg0) 0 0x0802 [0xBF010000]), (cx 0 0x0802 [0xBF010000]), [], _, _, _, head _ _ _ _ (by decide) (by decide +kernel), rfl, rfl, rfl, by
      decide +kernel, by decide +kernel, by decide +kernel, by decide +kernel⟩,
    ⟨(put (sL legF) 0 0x0802 [0x7F010000, 0x02010000, 9, 10, 0x56160]), (cx 0 0x0802 [0x7F010000, 0x02010000, 9, 10, 0x56160]), [], _, _, _, _, _, _,
      _, _, _, head _ _ _ _ (by decide) (by decide +kernel), rfl, rfl, rfl, by decide +kernel, by decide +kernel, by decide +kernel, by decide +kernel,
      rfl, rfl, by decide +kernel, by decide +kernel, by decide +kernel, by decide +kernel, by decide +kernel, by decide +kernel, by decide +kernel,
      rfl, by decide +kernel, by decide +kernel, by decide +kernel, by decide +kernel, rfl, rfl, by decide +kernel, by decide +kernel, rfl⟩,
    ⟨(put (sL { legF with slots := [(63, slot0 2)] }) 0 0x0802 [0x7F010000, 0x02010000, 9, 10, 0x56160]), (cx 0 0x0802 [0x7F010000, 0x02010000, 9, 10,
      0x56160]), [], _, _, _, _, _, _, _, _, _, head _ _ _ _ (by decide) (by decide +kernel), rfl, rfl, rfl, by decide +kernel, by decide +kernel, by
      decide +kernel, by decide +kernel, rfl, rfl, by decide +kernel, by decide +kernel, by decide +kernel, by decide +kernel, by decide +kernel, by
      decide +kernel, by decide +kernel, rfl, by decide +kernel, by decide +kernel, by decide +kernel, by decide +kernel, rfl, rfl, rfl, by decide +kernel,
      by decide +kernel, by decide +kernel, by decide +kernel⟩,
    ⟨(put (sL { { legF with slots := [(63, slot0 2)] } with slots := [(63, { slot0 2 with src := .track 0 1 3 })] }) 0 0x0802 [0x7F010000, 0x02010000,
      9, 10, 0x56160]), (cx 0 0x0802 [0x7F010000, 0x02010000, 9, 10, 0x56160]), [], _, _, _, _, _, _, _, _, _, _, head _ _ _ _ (by decide) (by decide +kernel),
      rfl, rfl, rfl, by decide +kernel, by decide +kernel, by decide +kernel, by decide +kernel, rfl, rfl, by decide +kernel, by decide +kernel, by
      decide +kernel, by decide +kernel, by decide +kernel, by decide +kernel, by decide +kernel, rfl, by decide +kernel, by decide +kernel, by decide +kernel,
      by decide +kernel, rfl, rfl, rfl, by decide +kernel, by decide +kernel, by decide +kernel, rfl⟩,
    ⟨(put (sL { legF with slots := [(63, slot0 2)] }) 0 0x0803 [0x3F010000, 0x2A]), (cx 0 0x0803 [0x3F010000, 0x2A]), [], _, _, _, _, _, head _ _ _ _
      (by decide) (by decide +kernel), rfl, rfl, rfl, rfl, by decide +kernel, by decide +kernel, by decide +kernel, by decide +kernel, by decide +kernel,
      by decide +kernel, rfl, by decide +kernel, by decide +kernel⟩⟩

/-- States and operands that meet the hypotheses of RatesSwitchesAndFeedback, clause by clause. -/
theorem witness_RatesSwitchesAndFeedback :
    (∃ (s : State) (leg : Nat) (l : Leg) (l' : Leg) (u : State), leg < 65536 ∧ s.leg leg = some l ∧ s.time.m % 50 = leg % 50 ∧ l.est.lastRun ≠ some
      s.time.m ∧ s.stoppedFlow (.legControl leg) = false ∧ l' = Leg.setShaper { l with est := l.est.run l.pol (s.aMax l) s.time.m } ∧ u = (s.setLeg
      leg l').measureJobs l') ∧
    (∃ (s : State) (leg : Nat) (l : Leg), leg < 65536 ∧ s.leg leg = some l ∧ ((s.time.m % 50 ≠ leg % 50 ∨ l.est.lastRun = some s.time.m))) ∧
    (∃ (e : Est) (p : FwdPol) (top : Nat) (m : Nat) (x : Seen), x = e.seen p.feedback m 500 ∧ x.stale = true) ∧
    (∃ (e : Est) (p : FwdPol) (top : Nat) (m : Nat) (x : Seen), x = e.seen p.feedback m 500 ∧ x.stale = false ∧ ((x.up = true ∨ x.reported * 10 <
      x.lost * 100))) ∧
    (∃ (e : Est) (p : FwdPol) (top : Nat) (m : Nat) (x : Seen), x = e.seen p.feedback m 500 ∧ x.stale = false ∧ x.up = false ∧ x.lost * 100 ≤
      x.reported * 2 ∧ x.down = false ∧ ((∀ t, e.tDec = some t → t + 500 ≤ m))) ∧
    (∃ (s : State) (leg : Nat) (tr : Nat) (l : Leg) (t : Track), leg < 65536 ∧ tr < 8 ∧ s.leg leg = some l ∧ tget l.tracks tr = some t ∧ t.media ≠ 0) ∧
    (∃ (s : State) (leg : Nat) (l : Leg) (stop : Nat) (r : Nat) (x : Seen), leg < 65536 ∧ s.leg leg = some l ∧ l.est.probing = some (stop, r) ∧ x =
      l.est.seen l.pol.feedback s.time.m 50 ∧ s.time.m < stop) ∧
    (∃ (s : State) (leg : Nat) (l : Leg) (stop : Nat) (r : Nat) (x : Seen), leg < 65536 ∧ s.leg leg = some l ∧ l.est.probing = some (stop, r) ∧ x =
      l.est.seen l.pol.feedback s.time.m 50 ∧ stop ≤ s.time.m ∧ x.up = false ∧ x.lost * 100 ≤ x.reported * 2) ∧
    (∃ (s : State) (leg : Nat) (l : Leg) (stop : Nat) (r : Nat) (x : Seen), leg < 65536 ∧ s.leg leg = some l ∧ l.est.probing = some (stop, r) ∧ x =
      l.est.seen l.pol.feedback s.time.m 50 ∧ stop ≤ s.time.m ∧ ((x.up = true ∨ x.reported * 2 < x.lost * 100))) ∧
    (∃ (s : State) (leg : Nat) (k : Nat) (t : Nat) (l : Leg) (v : Slot), leg < 65536 ∧ k < 64 ∧ s.leg leg = some l ∧ tget l.slots k = some v ∧
      v.holdFrom = some t ∧ s.time.m < t + l.pol.upHold) ∧
    (∃ (s : State) (leg : Nat) (k : Nat) (t : Nat) (l : Leg) (v : Slot), leg < 65536 ∧ k < 64 ∧ s.leg leg = some l ∧ tget l.slots k = some v ∧
      v.holdFrom = some t ∧ t + l.pol.upHold ≤ s.time.m ∧ v.state = 2 ∧ v.wantPause = false) ∧
    (∃ (s : State) (leg : Nat) (k : Nat) (t : Nat) (l : Leg) (v : Slot), leg < 65536 ∧ k < 64 ∧ s.leg leg = some l ∧ tget l.slots k = some v ∧
      v.holdFrom = some t ∧ t + l.pol.upHold ≤ s.time.m ∧ v.state = 3) ∧
    (∃ (s : State) (leg : Nat) (k : Nat) (sp : Nat) (tp : Nat) (t : Nat) (l : Leg) (v : Slot), leg < 65536 ∧ k < 64 ∧ s.leg leg = some l ∧ tget
      l.slots k = some v ∧ v.pendLayer = some (sp, tp, t) ∧ s.time.m < t + 3000) ∧
    (∃ (s : State) (leg : Nat) (k : Nat) (sp : Nat) (tp : Nat) (t : Nat) (l : Leg) (v : Slot) (u : _) (tr : _), leg < 65536 ∧ k < 64 ∧ s.leg leg =
      some l ∧ tget l.slots k = some v ∧ v.pendLayer = some (sp, tp, t) ∧ t + 3000 ≤ s.time.m ∧ v.state = 2 ∧ v.curS < sp ∧ (u = (s.modSlot leg k fun
      v => { v with pendLayer := some (sp, tp, s.time.m) })) ∧ u.srcTrack v.src = some tr) ∧
    (∃ (s : State) (leg : Nat) (k : Nat) (t : Nat) (n : Nat) (posted : Bool) (src : SlotSrc) (l : Leg) (v : Slot), leg < 65536 ∧ k < 64 ∧ s.leg leg =
      some l ∧ tget l.slots k = some v ∧ v.pendSrc = some (src, t, n, posted) ∧ s.time.m < t + 5000) ∧
    (∃ (s : State) (leg : Nat) (k : Nat) (t : Nat) (n : Nat) (posted : Bool) (src : SlotSrc) (l : Leg) (v : Slot) (u : _) (tr : _), leg < 65536 ∧ k <
      64 ∧ s.leg leg = some l ∧ tget l.slots k = some v ∧ v.pendSrc = some (src, t, n, posted) ∧ t + 5000 ≤ s.time.m ∧ posted = true ∧ (u = (s.modSlot
      leg k fun v => { v with pendSrc := some (src, t, n + 1, true) })) ∧ u.srcTrack src = some tr) ∧
    (∃ (s : State) (leg : Nat) (k : Nat) (t : Nat) (n : Nat) (posted : Bool) (src : SlotSrc) (l : Leg) (v : Slot) (u : _) (tr : _) (m : _) (g : _) (j
      : _), leg < 65536 ∧ k < 64 ∧ s.leg leg = some l ∧ tget l.slots k = some v ∧ v.pendSrc = some (src, t, n, posted) ∧ t + 5000 ≤ s.time.m ∧ posted
      = false ∧ src = .track m g j ∧ (u = (s.postLeg leg { code := evFwdSwitchSlow, d0 := k, d1 := m, d2 := n }).modSlot leg k (fun v => { v with pendSrc := some (src, t, n + 1, true) }))
      ∧ u.srcTrack src = some tr) ∧
    (∃ (s : State), s.fwdQ = []) ∧
    (∃ (s : State) (u : State) (p : FwdPkt) (rest : List FwdPkt) (n : Nat) (g : Nat) (j : Nat) (t : Track), s.fwdQ = p :: rest ∧ p.src = .track n g j
      ∧ u = { s with fwdQ := rest } ∧ u.srcTrack p.src = some t) ∧
    (∃ (s : State) (leg : Nat) (l : Leg) (d : _) (u : _), leg < 65536 ∧ s.leg leg = some l ∧ l.rtcpDue = some d ∧ d ≤ s.time.m ∧ s.timerSet (.rtcp
      leg) = false ∧ s.stoppedFlow (.legControl leg) = false ∧ (u = (s.sendRtcp leg (s.compound l)).modLeg leg (fun l => { l with rtcpTurn := if l.incoming.isEmpty then 0 else (l.rtcpTurn + l.reportTurn.length) % l.incoming.length }))) ∧
    (∃ (s : State) (leg : Nat) (l : Leg), leg < 65536 ∧ s.leg leg = some l ∧ ((l.rtcpDue = none ∨ ∃ d, l.rtcpDue = some d ∧ s.time.m < d))) ∧
    (∃ (s : State) (leg : Nat) (b : Nat) (l : Leg) (run : List (Nat × Option Nat)), leg < 65536 ∧ s.leg leg = some l ∧ l.twHi = some b ∧ run =
      reportRun b l.twSeen ∧ l.pol.fbMode < 2 ∧ run ≠ []) ∧
    (∃ (s : State) (leg : Nat) (b : Nat) (l : Leg) (run : List (Nat × Option Nat)), leg < 65536 ∧ s.leg leg = some l ∧ l.twHi = some b ∧ run =
      reportRun b l.twSeen ∧ l.pol.fbMode = 3) ∧
    (∃ (s : State) (leg : Nat) (l : Leg), leg < 65536 ∧ s.leg leg = some l ∧ l.twHi = none) ∧
    (∃ (s : State) (leg : Nat) (k : Nat) (i : Nat) (l : Leg) (t : Track) (e : Enc) (due : List Missing), leg < 65536 ∧ k < 8 ∧ i < 3 ∧ s.leg leg =
      some l ∧ tget l.tracks k = some t ∧ t.encs[i]? = some e ∧ (due = e.missing.filter (fun x => x.due l.nackGap s.time.m)) ∧ e.rtxSsrc ≠ 0 ∧
      s.timerSet (.nack leg k i) = false ∧ due ≠ []) ∧
    (∃ (s : State) (leg : Nat) (k : Nat) (i : Nat) (l : Leg) (t : Track) (e : Enc) (due : List Missing), leg < 65536 ∧ k < 8 ∧ i < 3 ∧ s.leg leg =
      some l ∧ tget l.tracks k = some t ∧ t.encs[i]? = some e ∧ (due = e.missing.filter (fun x => x.due l.nackGap s.time.m)) ∧ ((e.rtxSsrc = 0 ∨ due =
      []))) ∧
    (∃ (s : State) (leg : Nat) (k : Nat) (i : Nat) (l : Leg) (t : Track) (e : Enc) (due : List Missing) (q : _) (u : _), leg < 65536 ∧ k < 8 ∧ i < 3 ∧
      s.leg leg = some l ∧ tget l.tracks k = some t ∧ t.encs[i]? = some e ∧ (due = e.missing.filter (fun x => x.due l.nackGap s.time.m)) ∧ t.media = 0
      ∧ ((∃ x ∈ e.missing, x.seq = q ∧ x.lost (e.rtxSsrc ≠ 0) l.est.rttMs s.time.m = true)) ∧ (u = s.modLeg leg (fun y => y.modTrack k fun t =>
      t.modEnc i fun z => { z with missing := z.missing.filter fun x => x.seq ≠ q }))) ∧
    (∃ (s : State) (leg : Nat) (k : Nat) (i : Nat) (l : Leg) (t : Track) (e : Enc) (due : List Missing) (q : _), leg < 65536 ∧ k < 8 ∧ i < 3 ∧ s.leg
      leg = some l ∧ tget l.tracks k = some t ∧ t.encs[i]? = some e ∧ (due = e.missing.filter (fun x => x.due l.nackGap s.time.m)) ∧ ((∀ x ∈
      e.missing, x.seq = q → x.lost (e.rtxSsrc ≠ 0) l.est.rttMs s.time.m = false))) ∧
    (∃ (s : State) (leg : Nat) (k : Nat) (i : Nat) (l : Leg) (t : Track) (e : Enc) (due : List Missing), leg < 65536 ∧ k < 8 ∧ i < 3 ∧ s.leg leg =
      some l ∧ tget l.tracks k = some t ∧ t.encs[i]? = some e ∧ (due = e.missing.filter (fun x => x.due l.nackGap s.time.m)) ∧ e.keyMerged = true ∧
      ((∀ a, e.keyLast = some a → a + l.pol.keyMin ≤ s.time.m))) ∧
    (∃ (s : State) (leg : Nat) (k : Nat) (i : Nat) (l : Leg) (t : Track) (e : Enc) (due : List Missing), leg < 65536 ∧ k < 8 ∧ i < 3 ∧ s.leg leg =
      some l ∧ tget l.tracks k = some t ∧ t.encs[i]? = some e ∧ (due = e.missing.filter (fun x => x.due l.nackGap s.time.m)) ∧ e.keyMerged = false) :=
  ⟨
    ⟨(sAt leg0 50), 0, _, _, _, by decide +kernel, rfl, by decide +kernel, by decide +kernel, by decide +kernel, rfl, rfl⟩,
    ⟨(sAt leg0 51), 0, _, by decide +kernel, rfl, by decide +kernel⟩,
    ⟨{}, {}, 5000000, 5000, _, rfl, by decide +kernel⟩,
    ⟨({ lastTw := 1000, reports := [(1000, 15, 50000, 100, 11)] }), ({ fbMode := 1 }), 5000000, 1000, _, rfl, by decide +kernel, by decide +kernel⟩,
    ⟨({ lastTw := 1000, reports := [(1000, 15, 50000, 100, 2)] }), ({ fbMode := 1 }), 5000000, 1000, _, rfl, by decide +kernel, by decide +kernel, by
      decide +kernel, by decide +kernel, (fun t h => by cases h)⟩,
    ⟨(sL legF), 0, 2, _, _, by decide +kernel, by decide +kernel, rfl, rfl, by decide +kernel⟩,
    ⟨(sAt { leg0 with est := { lastTw := 1000, probing := some (1000, 2000000) } } 999), 0, _, _, _, _, by decide +kernel, rfl, rfl, rfl, by decide +kernel⟩,
    ⟨(sAt { leg0 with est := { lastTw := 1000, probing := some (1000, 2000000) } } 1000), 0, _, _, _, _, by decide +kernel, rfl, rfl, rfl, by decide +kernel,
      by decide +kernel, by decide +kernel⟩,
    ⟨(sAt { leg0 with pol := { leg0.pol with fbMode := 1 }, est := { lastTw := 1000, probing := some (1000, 2000000), reports := [(1000, 15, 50000, 100, 3)] } }
      1000), 0, _, _, _, _, by decide +kernel, rfl, rfl, rfl, by decide +kernel, by decide +kernel⟩,
    ⟨(sAt ({ legF with slots := [(63, { slot0 2 with holdFrom := some 1 })] }) 1500), 0, 63, _, _, _, by decide +kernel, by decide +kernel, rfl, rfl,
      rfl, by decide +kernel⟩,
    ⟨(sAt ({ legF with slots := [(63, { slot0 2 with holdFrom := some 1 })] }) 1501), 0, 63, _, _, _, by decide +kernel, by decide +kernel, rfl, rfl,
      rfl, by decide +kernel, by decide +kernel, by decide +kernel⟩,
    ⟨(sAt ({ legF with slots := [(63, { slot0 2 with holdFrom := some 1, state := 3 })] }) 1501), 0, 63, _, _, _, by decide +kernel, by decide +kernel,
      rfl, rfl, rfl, by decide +kernel, by decide +kernel⟩,
    ⟨(sAt ({ legF with slots := [(63, { slot0 2 with pendLayer := some (1, 1, 1) })] }) 3000), 0, 63, _, _, _, _, _, by decide +kernel, by decide +kernel,
      rfl, rfl, rfl, by decide +kernel⟩,
    ⟨(sAt ({ legF with slots := [(63, { slot0 2 with pendLayer := some (1, 1, 1) })] }) 3001), 0, 63, _, _, _, _, _, _, _, by decide +kernel, by
      decide +kernel, rfl, rfl, rfl, by decide +kernel, by decide +kernel, by decide +kernel, rfl, rfl⟩,
    ⟨(sAt ({ legF with slots := [(63, { slot0 2 with pendSrc := some (.track 0 1 2, 1, 1, false) })] }) 5000), 0, 63, _, _, _, _, _, _, by decide +kernel,
      by decide +kernel, rfl, rfl, rfl, by decide +kernel⟩,
    ⟨(sAt ({ legF with slots := [(63, { slot0 2 with pendSrc := some (.track 0 1 2, 1, 1, true) })] }) 5001), 0, 63, _, _, _, _, _, _, _, _, by decide +kernel,
      by decide +kernel, rfl, rfl, rfl, by decide +kernel, by decide +kernel, rfl, rfl⟩,
    ⟨(sAt ({ legF with slots := [(63, { slot0 2 with pendSrc := some (.track 0 1 2, 1, 1, false) })] }) 5001), 0, 63, _, _, _, _, _, _, _, _, _, _, _,
      by decide +kernel, by decide +kernel, rfl, rfl, rfl, by decide +kernel, by decide +kernel, rfl, rfl, rfl⟩,
    ⟨r0, by decide +kernel⟩,
    ⟨({ sL legF with fwdQ := [fwd0] }), _, _, _, _, _, _, _, rfl, rfl, rfl, rfl⟩,
    ⟨(sAt { leg0 with rtcpDue := some 5 } 5), 0, _, _, _, by decide +kernel, rfl, rfl, by decide +kernel, by decide +kernel, by decide +kernel, rfl⟩,
    ⟨(sAt { leg0 with rtcpDue := some 5 } 4), 0, _, by decide +kernel, rfl, (.inr ⟨5, rfl, by decide⟩)⟩,
    ⟨(sL { leg0 with twHi := some 4, twSeen := [(4, 100)], pol := { leg0.pol with fbMode := 1 } }), 0, _, _, _, by decide +kernel, rfl, rfl, rfl, by
      decide +kernel, by decide +kernel⟩,
    ⟨(sL { leg0 with twHi := some 4, twSeen := [(4, 100)], pol := { leg0.pol with fbMode := 3 } }), 0, _, _, _, by decide +kernel, rfl, rfl, rfl, by
      decide +kernel⟩,
    ⟨(sL leg0), 0, _, by decide +kernel, rfl, by decide +kernel⟩,
    ⟨(sAt ({ legF with tracks := [(7, { tr0 { ssrc := 7, rtxSsrc := 8, missing := [⟨5, 0, 0, 0⟩] } with media := 1 })] }) 1000), 0, 7, 0, _, _, _, _,
      by decide +kernel, by decide +kernel, by decide +kernel, rfl, rfl, rfl, rfl, by decide +kernel, by decide +kernel, by decide +kernel⟩,
    ⟨(sAt ({ legF with tracks := [(7, { tr0 { ssrc := 7, rtxSsrc := 8, missing := [] } with media := 1 })] }) 1000), 0, 7, 0, _, _, _, _, by decide +kernel,
      by decide +kernel, by decide +kernel, rfl, rfl, rfl, rfl, by decide +kernel⟩,
    ⟨(sAt ({ legF with tracks := [(7, { tr0 { ssrc := 7, rtxSsrc := 8, missing := [⟨5, 0, 3, 0⟩] } with media := 0 })] }) 1000), 0, 7, 0, _, _, _, _,
      5, _, by decide +kernel, by decide +kernel, by decide +kernel, rfl, rfl, rfl, rfl, by decide +kernel, by decide +kernel, rfl⟩,
    ⟨(sAt ({ legF with tracks := [(7, { tr0 { ssrc := 7, rtxSsrc := 8, missing := [] } with media := 1 })] }) 1000), 0, 7, 0, _, _, _, _, 5, by decide +kernel,
      by decide +kernel, by decide +kernel, rfl, rfl, rfl, rfl, by decide +kernel⟩,
    ⟨(sAt ({ legF with tracks := [(7, { tr0 { ssrc := 7, rtxSsrc := 8, keyMerged := true, keyLast := some 500 } with media := 1 })] }) 1000), 0, 7, 0,
      _, _, _, _, by decide +kernel, by decide +kernel, by decide +kernel, rfl, rfl, rfl, rfl, by decide +kernel, by decide +kernel⟩,
    ⟨(sAt ({ legF with tracks := [(7, { tr0 { ssrc := 7, rtxSsrc := 8, keyLast := some 500 } with media := 1 })] }) 1000), 0, 7, 0, _, _, _, _, by
      decide +kernel, by decide +kernel, by decide +kernel, rfl, rfl, rfl, rfl, by decide +kernel⟩⟩

/-- States and operands that meet the hypotheses of CipherFarm, clause by clause. -/
theorem witness_CipherFarm :
    (∃ (s : State) (run : CipherRun), s.inQ = []) ∧
    (∃ (s : State) (t : State) (run : CipherRun) (k : InPkt) (rest : List InPkt), s.inQ = k :: rest ∧ t = { s with inQ := rest } ∧ s.leg k.leg = none) ∧
    (∃ (s : State) (t : State) (run : CipherRun) (k : InPkt) (rest : List InPkt) (l : _), s.inQ = k :: rest ∧ t = { s with inQ := rest } ∧ s.leg k.leg
      = some l ∧ l.gen = k.gen ∧ ((l.state = 0 ∨ l.state = 2))) ∧
    (∃ (s : State) (t : State) (run : CipherRun) (k : InPkt) (rest : List InPkt) (l : _), s.inQ = k :: rest ∧ t = { s with inQ := rest } ∧ s.leg k.leg
      = some l ∧ l.gen = k.gen ∧ l.state ≠ 0 ∧ l.state ≠ 2 ∧ l.keys.isReplay k.payload = true) ∧
    (∃ (s : State) (t : State) (run : CipherRun) (k : InPkt) (rest : List InPkt) (l : _), s.inQ = k :: rest ∧ t = { s with inQ := rest } ∧ s.leg k.leg
      = some l ∧ l.gen = k.gen ∧ l.state ≠ 0 ∧ l.state ≠ 2 ∧ l.keys.isReplay k.payload = false ∧ s.prot.halves.getD (s.halfOf k.port) false = false) ∧
    (∃ (s : State) (t : State) (run : CipherRun) (k : InPkt) (rest : List InPkt) (l : _), s.inQ = k :: rest ∧ t = { s with inQ := rest } ∧ s.leg k.leg
      = some l ∧ l.gen = k.gen ∧ l.state ≠ 0 ∧ l.state ≠ 2 ∧ l.keys.isReplay k.payload = false ∧ s.prot.halves.getD (s.halfOf k.port) false = true ∧
      t.cipherPass (s.halfOf k.port) (s.legTenant l) (cipherBlocks (k.cipherBytes l)) run = .waits) ∧
    (∃ (s : State) (t : State) (run : CipherRun) (k : InPkt) (rest : List InPkt) (l : _) (u : _), s.inQ = k :: rest ∧ t = { s with inQ := rest } ∧
      s.leg k.leg = some l ∧ l.gen = k.gen ∧ l.state ≠ 0 ∧ l.state ≠ 2 ∧ l.keys.isReplay k.payload = false ∧ s.prot.halves.getD (s.halfOf k.port)
      false = true ∧ t.cipherPass (s.halfOf k.port) (s.legTenant l) (cipherBlocks (k.cipherBytes l)) run = .dropped u) ∧
    (∃ (s : State) (t : State) (run : CipherRun) (k : InPkt) (rest : List InPkt) (l : _) (u : _), s.inQ = k :: rest ∧ t = { s with inQ := rest } ∧
      s.leg k.leg = some l ∧ l.gen = k.gen ∧ l.state ≠ 0 ∧ l.state ≠ 2 ∧ l.keys.isReplay k.payload = false ∧ s.prot.halves.getD (s.halfOf k.port)
      false = true ∧ t.cipherPass (s.halfOf k.port) (s.legTenant l) (cipherBlocks (k.cipherBytes l)) run = .released u) ∧
    (∃ (u : State) (k : InPkt) (l : Leg), u.leg k.leg = some l ∧ l.keys.authUnder (protectionOf k.payload) = none) ∧
    (∃ (s : State) (run : CipherRun), s.outQ = []) ∧
    (∃ (s : State) (t : State) (run : CipherRun) (p : OutPkt) (rest : List OutPkt), s.outQ = p :: rest ∧ t = { s with outQ := rest } ∧ s.leg p.leg =
      none) ∧
    (∃ (s : State) (t : State) (run : CipherRun) (p : OutPkt) (rest : List OutPkt) (l : _), s.outQ = p :: rest ∧ t = { s with outQ := rest } ∧ s.leg
      p.leg = some l ∧ l.gen = p.gen ∧ l.yielded = true) ∧
    (∃ (s : State) (t : State) (run : CipherRun) (p : OutPkt) (rest : List OutPkt) (l : _), s.outQ = p :: rest ∧ t = { s with outQ := rest } ∧ s.leg
      p.leg = some l ∧ l.gen = p.gen ∧ l.yielded = false ∧ l.state ≠ 1) ∧
    (∃ (s : State) (t : State) (run : CipherRun) (p : OutPkt) (rest : List OutPkt) (l : _), s.outQ = p :: rest ∧ t = { s with outQ := rest } ∧ s.leg
      p.leg = some l ∧ l.gen ≠ p.gen) ∧
    (∃ (s : State) (t : State) (run : CipherRun) (p : OutPkt) (rest : List OutPkt) (l : _) (k : _), s.outQ = p :: rest ∧ t = { s with outQ := rest } ∧
      s.leg p.leg = some l ∧ l.gen = p.gen ∧ l.yielded = false ∧ l.state = 1 ∧ l.keys.txNext = none ∧ l.keys.txCur = some k ∧ l.keys.rekey = true) ∧
    (∃ (s : State) (t : State) (run : CipherRun) (p : OutPkt) (rest : List OutPkt) (l : _) (k : _) (code : _), s.outQ = p :: rest ∧ t = { s with outQ := rest }
      ∧ s.leg p.leg = some l ∧ l.gen = p.gen ∧ l.yielded = false ∧ l.state = 1 ∧ l.keys.txNext = none ∧ l.keys.txCur = some k ∧ l.keys.rekey = false ∧
      p.overMtu l (keyProfile k.words) = false ∧ l.keys.refusal p.isRtcp p.ssrc (sendIndex l.keys p) = some code) ∧
    (∃ (s : State) (t : State) (run : CipherRun) (p : OutPkt) (rest : List OutPkt) (l : _) (k : _) (u : _), s.outQ = p :: rest ∧ t = { s with outQ := rest }
      ∧ s.leg p.leg = some l ∧ l.gen = p.gen ∧ l.yielded = false ∧ l.state = 1 ∧ l.keys.txNext = none ∧ l.keys.txCur = some k ∧ l.keys.rekey = false ∧
      p.overMtu l (keyProfile k.words) = false ∧ l.keys.refusal p.isRtcp p.ssrc (sendIndex l.keys p) = none ∧ t.prot.halves.getD (t.halfOf l.cfg.port)
      false = true ∧ t.cipherPass (t.halfOf l.cfg.port) (t.legTenant l) (cipherBlocks p.cipherBytes) run = .released u) ∧
    (∃ (s : State) (e : Nat) (pass : Bool), e < 3072 ∧ (s.cipher e).testing = false) ∧
    (∃ (s : State) (e : Nat) (pass : Bool), e < 3072 ∧ (s.cipher e).testing = true ∧ pass = true) ∧
    (∃ (s : State) (e : Nat) (pass : Bool), e < 3072 ∧ (s.cipher e).testing = true ∧ pass = false) :=
  ⟨
    ⟨r0, run0, by decide +kernel⟩,
    ⟨({ r0 with inQ := [in0] }), _, run0, _, _, rfl, rfl, by decide +kernel⟩,
    ⟨(sIn leg0), _, run0, _, _, _, rfl, rfl, rfl, by decide +kernel, by decide +kernel⟩,
    ⟨(sIn { legK false 0 with keys := { (legK false 0).keys with wins := [⟨7, false, 1, [1]⟩] } }), _, run0, _, _, _, rfl, rfl, rfl, by decide +kernel,
      by decide +kernel, by decide +kernel, by decide +kernel⟩,
    ⟨({ sIn (legK false 0) with prot := { r0.prot with halves := [false, false] } }), _, run0, _, _, _, rfl, rfl, rfl, by decide +kernel, by decide +kernel,
      by decide +kernel, by decide +kernel, by decide +kernel⟩,
    ⟨(sIn (legK false 0)), _, (⟨[0, 1, 2], [], none, [], []⟩), _, _, _, rfl, rfl, rfl, by decide +kernel, by decide +kernel, by decide +kernel, by
      decide +kernel, by decide +kernel, (rfl)⟩,
    ⟨(sIn (legK false 0)), _, run1, _, _, _, _, rfl, rfl, rfl, by decide +kernel, by decide +kernel, by decide +kernel, by decide +kernel, by decide +kernel,
      rfl⟩,
    ⟨(sIn (legK false 0)), _, run0, _, _, _, _, rfl, rfl, rfl, by decide +kernel, by decide +kernel, by decide +kernel, by decide +kernel, by decide +kernel,
      rfl⟩,
    ⟨(sL leg0), in0, _, rfl, by decide +kernel⟩,
    ⟨r0, run0, by decide +kernel⟩,
    ⟨({ r0 with outQ := [out0] }), _, run0, _, _, rfl, rfl, by decide +kernel⟩,
    ⟨(sOut { leg0 with yielded := true }), _, run0, _, _, _, rfl, rfl, rfl, by decide +kernel, by decide +kernel⟩,
    ⟨(sOut leg0), _, run0, _, _, _, rfl, rfl, rfl, by decide +kernel, by decide +kernel, by decide +kernel⟩,
    ⟨(sOut { leg0 with gen := 2 }), _, run0, _, _, _, rfl, rfl, rfl, by decide +kernel⟩,
    ⟨(sOut (legK true 0)), _, run0, _, _, _, _, rfl, rfl, rfl, by decide +kernel, by decide +kernel, by decide +kernel, by decide +kernel, rfl, by
      decide +kernel⟩,
    ⟨(sOut (legK false 1)), _, run0, _, _, _, _, _, rfl, rfl, rfl, by decide +kernel, by decide +kernel, by decide +kernel, by decide +kernel, rfl, by
      decide +kernel, by decide +kernel, rfl⟩,
    ⟨(sOut (legK false 0)), _, run0, _, _, _, _, _, rfl, rfl, rfl, by decide +kernel, by decide +kernel, by decide +kernel, by decide +kernel, rfl, by
      decide +kernel, by decide +kernel, by decide +kernel, by decide +kernel, rfl⟩,
    ⟨r0, 3071, true, by decide +kernel, by decide +kernel⟩,
    ⟨({ r0 with ciphers := [(3071, { testing := true })] }), 3071, true, by decide +kernel, by decide +kernel, by decide +kernel⟩,
    ⟨({ r0 with ciphers := [(3071, { testing := true })] }), 3071, false, by decide +kernel, by decide +kernel, by decide +kernel⟩⟩

/-- States and operands that meet the hypotheses of EgressScheduling, clause by clause. -/
theorem witness_EgressScheduling :
    (∃ (s : State) (leg : Nat) (l : Leg) (n : Nat), leg < 65536 ∧ s.leg leg = some l ∧ l.shaper.pend = none ∧ n = l.shaper.rate * 512 + l.shaper.rem) ∧
    (∃ (s : State) (leg : Nat), leg < 65536 ∧ s.leg leg = none) ∧
    (∃ (s : State) (leg : Nat) (l : Leg) (x : ShpSet), leg < 65536 ∧ s.leg leg = some l ∧ l.shaper.pend = some x) ∧
    (∃ (s : State) (g : Nat) (n : Nat), g < 4096 ∧ (s.node g).pend = none ∧ n = (s.node g).rate * 128 + (s.node g).rem) ∧
    (∃ (s : State) (g : Nat) (r : Nat) (d : Nat), g < 4096 ∧ (s.node g).pend = some (r, d)) ∧
    (∃ (s : State) (leg : Nat) (l : Leg), leg < 65536 ∧ s.leg leg = some l ∧ ((l.queue = [] ∨ l.cfg.qto = 0 ∨ s.time.m < l.qLastRead + l.cfg.qto))) ∧
    (∃ (s : State) (leg : Nat) (l : Leg), leg < 65536 ∧ s.leg leg = some l ∧ l.queue ≠ [] ∧ l.cfg.qto ≠ 0 ∧ l.qLastRead + l.cfg.qto ≤ s.time.m) ∧
    (∃ (s : State) (v : State) (t : State) (p : Nat), p < 16 ∧ v = s.modPort p (Port.takeSlow s.time.ref) ∧ (t = (State.tagLegs ((v.legs.filter fun x
      => x.2.cfg.port == p).foldl (fun s x => s.dropStale x.1 x.2.queue.length) v) p).tagGroups p) ∧ t.select p = none) ∧
    (∃ (s : State) (v : State) (t : State) (p : Nat) (c : _) (g : _) (leg : _) (i : _) (len : _) (l : _) (it : _), p < 16 ∧ v = s.modPort p
      (Port.takeSlow s.time.ref) ∧ (t = (State.tagLegs ((v.legs.filter fun x => x.2.cfg.port == p).foldl (fun s x => s.dropStale x.1 x.2.queue.length)
      v) p).tagGroups p) ∧ t.select p = some (c, g, leg, i, len) ∧ t.leg leg = some l ∧ l.queue[i]? = some it) ∧
    (∃ (s : State) (p : Nat), p < 16 ∧ (s.port p).cfg.mode = 0) ∧
    (∃ (s : State) (p : Nat), p < 16 ∧ (s.port p).cfg.mode ≠ 0 ∧ (((s.port p).link = false ∨ (s.port p).released = true))) ∧
    (∃ (s : State) (p : Nat), p < 16 ∧ (s.port p).cfg.mode ≠ 0 ∧ (s.port p).link = true ∧ (s.port p).released = false) ∧
    (∃ (s : State) (p : Nat) (t : Nat) (n : Nat) (x : TxItem) (xs : List TxItem), (s.port p).tq.getD n [] = x :: xs ∧ (s.port p).fitsGate n (wireLen
      (s.port p).overhead x.len) t = true) ∧
    (∃ (s : State) (p : Nat) (t : Nat) (n : Nat) (x : TxItem) (xs : List TxItem), (s.port p).tq.getD n [] = x :: xs ∧ (s.port p).fitsGate n (wireLen
      (s.port p).overhead x.len) t = false) ∧
    (∃ (s : State) (p : Nat) (t : Nat) (n : Nat), (s.port p).tq.getD n [] = []) ∧
    (∃ (s : State) (t : State) (p : Nat) (g : Gates), p < 16 ∧ (s.port p).gatePend = some g ∧ s.passTo g.start = some t) ∧
    (∃ (s : State) (p : Nat), p < 16 ∧ (s.port p).gatePend = none) ∧
    (∃ (s : State) (t : State) (p : Nat) (e : Nat) (m : Nat) (g : Gates), p < 16 ∧ (s.port p).gates = some g ∧ (s.port p).gateHold = none ∧ ((g.segs
      (g.cycleOf (s.base 0).val) ++ [(g.cycleOf (s.base 0).val + g.len, 0)]).find? (fun x => decide ((s.base 0).val < x.1)) = some (e, m)) ∧ s.passTo
      e = some t) ∧
    (∃ (s : State) (p : Nat), p < 16 ∧ (s.port p).gates = none) ∧
    (∃ (s : State) (t : State) (p : Nat) (r : Nat) (g : Gates), p < 16 ∧ (s.port p).gates = some g ∧ (s.port p).gateHold = some r ∧ s.passTo r = some
      t) ∧
    (∃ (s : State) (p : Nat), p < 16 ∧ (s.port p).gateHold = none) ∧
    (∃ (s : State) (p : Nat) (q : Nat) (h : Nat) (x : TxItem) (xs : List TxItem) (g : Gates), p < 16 ∧ q < 8 ∧ (s.port p).tq.getD q [] = x :: xs ∧
      (s.port p).gates = some g ∧ x.heldAt = some h ∧ h + g.len ≤ (s.base 0).val ∧ (s.port p).fitsGate q (wireLen (s.port p).overhead x.len) (s.base
      0).val = false) ∧
    (∃ (s : State) (p : Nat) (q : Nat) (h : Nat) (x : TxItem) (xs : List TxItem) (g : Gates), p < 16 ∧ q < 8 ∧ (s.port p).tq.getD q [] = x :: xs ∧
      (s.port p).gates = some g ∧ x.heldAt = some h ∧ (s.base 0).val < h + g.len) ∧
    (∃ (s : State) (v : Nat), v ≤ (s.base 0).val) :=
  ⟨
    ⟨(sL leg0), 0, _, _, by decide +kernel, rfl, by decide +kernel, rfl⟩,
    ⟨r0, 65535, by decide +kernel, by decide +kernel⟩,
    ⟨(sL { leg0 with shaper := { leg0.shaper with pend := some ⟨4095, 255, true, 0, 9216⟩ } }), 0, _, _, by decide +kernel, rfl, rfl⟩,
    ⟨r0, 4095, _, by decide +kernel, by decide +kernel, rfl⟩,
    ⟨({ r0 with nodes := [(4095, { pend := some (4000000, 9216) })] }), 4095, _, _, by decide +kernel, rfl⟩,
    ⟨(sL leg0), 0, _, by decide +kernel, rfl, by decide +kernel⟩,
    ⟨(sAt { leg0 with cfg := { leg0.cfg with qto := 20 }, queue := [⟨out0, 0, 100, 0, false⟩] } 20), 0, _, by decide +kernel, rfl, by decide +kernel,
      by decide +kernel, by decide +kernel⟩,
    ⟨(sL leg0), _, _, 0, by decide +kernel, rfl, rfl, by decide +kernel⟩,
    ⟨(sL { legK false 0 with queue := [⟨out0, 0, 100, 0, false⟩] }), _, _, 0, _, _, _, _, _, _, _, by decide +kernel, rfl, rfl, rfl, rfl, rfl⟩,
    ⟨r0, 15, by decide +kernel, by decide +kernel⟩,
    ⟨(sPort false), 0, by decide +kernel, by decide +kernel, by decide +kernel⟩,
    ⟨(sPort true), 0, by decide +kernel, by decide +kernel, by decide +kernel, by decide +kernel⟩,
    ⟨(sGate { tq := [[], [], [], [], [], [ti0 none], [], []] } 0), 0, 0, 5, _, _, rfl, by decide +kernel⟩,
    ⟨(sGate { tq := [[], [], [], [], [], [ti0 (some 0)], [], []], gates := some gates0 } (400000 * nsU)), 0, (400000 * nsU), 5, _, _, rfl, by decide +kernel⟩,
    ⟨(sPort true), 0, 0, 7, by decide +kernel⟩,
    ⟨(sGate { gatePend := some gates0 } 0), _, 0, _, by decide +kernel, rfl, rfl⟩,
    ⟨r0, 15, by decide +kernel, by decide +kernel⟩,
    ⟨(sGate { tq := [[], [], [], [], [], [ti0 (some 0)], [], []], gates := some gates0 } 0), _, 0, (400000 * nsU), 0xDF, _, by decide +kernel, rfl, by
      decide +kernel, by decide +kernel, rfl⟩,
    ⟨r0, 15, by decide +kernel, by decide +kernel⟩,
    ⟨(sGate { gates := some gates0, gateHold := some 900 } 0), _, 0, _, _, by decide +kernel, rfl, rfl, rfl⟩,
    ⟨r0, 15, by decide +kernel, by decide +kernel⟩,
    ⟨(sGate { tq := [[], [], [], [], [ti0 (some 0)], [], [], []], gates := some ⟨1000000, 0, false, [(0x20, 1000000)]⟩ } (1000000 * nsU)), 0, 4, _, _,
      _, _, by decide +kernel, by decide +kernel, rfl, rfl, rfl, by decide +kernel, by decide +kernel⟩,
    ⟨(sGate { tq := [[], [], [], [], [ti0 (some 0)], [], [], []], gates := some ⟨1000000, 0, false, [(0x20, 1000000)]⟩ } (1000000 * nsU - 1)), 0, 4,
      _, _, _, _, by decide +kernel, by decide +kernel, rfl, rfl, rfl, by decide +kernel⟩,
    ⟨r0, 0, by decide +kernel⟩⟩

/-- States and operands that meet the hypotheses of QueueStoreErrors, clause by clause. -/
theorem witness_QueueStoreErrors :
    (∃ (s : State) (e : LqErr), e.leg < 65536) ∧
    (∃ (s : State) (p : Nat) (e : LqErr), p < 16 ∧ e.leg < 65536) ∧
    (∃ (s : State) (e : LqErr) (l : Leg), s.leg e.leg = some l ∧ e.single = true ∧ ((e.pointer = false ∨ s.mon.compat = false))) ∧
    (∃ (s : State) (e : LqErr) (l : Leg) (i : _) (it : _), s.leg e.leg = some l ∧ e.single = false ∧ e.pointer = false ∧ headOf l.queue = some (i,
      it)) ∧
    (∃ (s : State) (e : LqErr) (l : Leg), s.leg e.leg = some l ∧ e.single = false ∧ e.pointer = true ∧ s.mon.compat = false) ∧
    (∃ (s : State) (e : LqErr) (l : Leg), s.leg e.leg = some l ∧ e.pointer = true ∧ s.mon.compat = true) :=
  ⟨
    ⟨(sL { leg0 with queue := [⟨out0, 0, 100, 0, false⟩] }), (⟨65535, true, true⟩), by decide +kernel⟩,
    ⟨(sL { leg0 with queue := [⟨out0, 0, 100, 0, false⟩] }), 15, (⟨65535, true, true⟩), by decide +kernel, by decide +kernel⟩,
    ⟨(sL { leg0 with queue := [⟨out0, 0, 100, 0, false⟩] }), (⟨0, true, true⟩), _, rfl, by decide +kernel, by decide +kernel⟩,
    ⟨(sL { leg0 with queue := [⟨out0, 0, 100, 0, false⟩] }), (⟨0, false, false⟩), _, _, _, rfl, by decide +kernel, by decide +kernel, rfl⟩,
    ⟨(sL { leg0 with queue := [⟨out0, 0, 100, 0, false⟩] }), (⟨0, true, false⟩), _, rfl, by decide +kernel, by decide +kernel, by decide +kernel⟩,
    ⟨({ sL { leg0 with queue := [⟨out0, 0, 100, 0, false⟩] } with mon := { r0.mon with compat := true } }), (⟨0, true, true⟩), _, rfl, by decide +kernel,
      by decide +kernel⟩⟩

/-- States and operands that meet the hypotheses of EgressCommands, clause by clause. -/
theorem witness_EgressCommands :
    (∃ (s : State) (c : Ctx) (rest : List Cmd) (id : Nat) (l : _), AtHead s c 0x0C01 rest ∧ c.f 1 3 5 = 0 ∧ id = c.f 1 16 16 ∧ c.f 1 0 2 = 0 ∧ s.leg
      id = some l ∧ s.mayTouch c.issuer (s.legTenant l) = true ∧ l.gen = c.f 1 8 8 ∧ c.bit 1 2 = true ∧ c.len = 1) ∧
    (∃ (s : State) (c : Ctx) (rest : List Cmd) (id : Nat) (l : _) (sh : _), AtHead s c 0x0C01 rest ∧ c.f 1 3 5 = 0 ∧ id = c.f 1 16 16 ∧ c.f 1 0 2 = 0
      ∧ s.leg id = some l ∧ s.mayTouch c.issuer (s.legTenant l) = true ∧ l.gen = c.f 1 8 8 ∧ c.bit 1 2 = false ∧ c.len = 4 ∧ c.f 2 12 8 ≠ 0 ∧ c.f 2 21
      11 = 0 ∧ depthOk (c.f 4 0 24) = true ∧ c.f 4 24 8 = 0 ∧ (s.node (c.f 2 0 12)).takes (s.legTenant l) = true ∧ (sh = { l.shaper with pend := some { group := c.f 2 0 12, weight := c.f 2 12 8, fixed := c.bit 2 20, rate := if c.bit 2 20 then c.f 3 0 32 else l.est.a * l.pol.shapePct / 100000, depth := c.f 4 0 24 } })) ∧
    (∃ (s : State) (c : Ctx) (rest : List Cmd) (id : Nat), AtHead s c 0x0C01 rest ∧ c.f 1 3 5 = 0 ∧ id = c.f 1 16 16 ∧ c.f 1 0 2 = 1 ∧ id < 4096 ∧
      isPF c.issuer = true ∧ c.bit 1 2 = true ∧ c.len = 1) ∧
    (∃ (s : State) (c : Ctx) (rest : List Cmd) (id : Nat) (n : _), AtHead s c 0x0C01 rest ∧ c.f 1 3 5 = 0 ∧ id = c.f 1 16 16 ∧ c.f 1 0 2 = 1 ∧ id <
      4096 ∧ isPF c.issuer = true ∧ c.bit 1 2 = false ∧ c.len = 4 ∧ c.f 1 8 8 = 0 ∧ c.f 2 0 3 ≠ 7 ∧ c.f 2 4 8 ≠ 0 ∧ c.f 2 24 8 = 0 ∧ depthOk (c.f 4 0
      24) = true ∧ c.f 4 24 8 = 0 ∧ ((c.f 2 12 12 = (s.node id).tenant ∨ s.foreignLegs id (c.f 2 12 12) = false)) ∧ (n = { s.node id with cls := c.f 2 0 3, resetTo := c.bit 2 3, weight := c.f 2 4 8, tenant := c.f 2 12 12, pend := if (c.f 3 0 32, c.f 4 0 24) = (s.node id).now then (s.node id).pend else some (c.f 3 0 32, c.f 4 0 24) })) ∧
    (∃ (s : State) (c : Ctx) (rest : List Cmd) (id : Nat), AtHead s c 0x0C01 rest ∧ c.f 1 3 5 = 0 ∧ id = c.f 1 16 16 ∧ c.f 1 0 2 = 2 ∧ id < 16 ∧ c.bit
      1 2 = true ∧ c.len = 1) ∧
    (∃ (s : State) (c : Ctx) (rest : List Cmd) (id : Nat), AtHead s c 0x0C01 rest ∧ c.f 1 3 5 = 0 ∧ id = c.f 1 16 16 ∧ c.f 1 0 2 = 2 ∧ id < 16 ∧ c.bit
      1 2 = false ∧ c.len = 2 ∧ c.f 2 8 24 = 0 ∧ isPF c.issuer = true) ∧
    (∃ (s : State) (c : Ctx) (rest : List Cmd) (leg : Nat) (l : Leg) (p : Policer), AtHead s c 0x0C02 rest ∧ leg = c.f 1 0 16 ∧ s.leg leg = some l ∧
      c.f 1 24 8 = 0 ∧ c.f 3 24 8 = 0 ∧ s.mayTouch c.issuer (s.legTenant l) = true ∧ l.gen = c.f 1 16 8 ∧ ((c.f 2 0 32 ≠ 0 → 9216 ≤ c.f 3 0 24)) ∧ c.f
      2 0 32 = l.policer.rate ∧ ((c.f 2 0 32 = 0 ∨ c.f 3 0 24 = l.policer.depth))) ∧
    (∃ (s : State) (c : Ctx) (rest : List Cmd) (leg : Nat) (l : Leg) (p : Policer), AtHead s c 0x0C02 rest ∧ leg = c.f 1 0 16 ∧ s.leg leg = some l ∧
      c.f 1 24 8 = 0 ∧ c.f 3 24 8 = 0 ∧ s.mayTouch c.issuer (s.legTenant l) = true ∧ l.gen = c.f 1 16 8 ∧ ((c.f 2 0 32 ≠ 0 → 9216 ≤ c.f 3 0 24)) ∧ c.f
      2 0 32 = 0 ∧ l.policer.rate ≠ 0) ∧
    (∃ (s : State) (c : Ctx) (rest : List Cmd) (leg : Nat) (l : Leg) (p : Policer), AtHead s c 0x0C02 rest ∧ leg = c.f 1 0 16 ∧ s.leg leg = some l ∧
      c.f 1 24 8 = 0 ∧ c.f 3 24 8 = 0 ∧ s.mayTouch c.issuer (s.legTenant l) = true ∧ l.gen = c.f 1 16 8 ∧ ((c.f 2 0 32 ≠ 0 → 9216 ≤ c.f 3 0 24)) ∧ c.f
      2 0 32 ≠ 0 ∧ l.policer.rate = 0 ∧ p = { l.policer with rate := c.f 2 0 32, depth := c.f 3 0 24, tokens := c.f 3 0 24 * 256, rem := 0, last := s.time.ref }) ∧
    (∃ (s : State) (c : Ctx) (rest : List Cmd) (p : Nat) (buf : BufRead), AtHead s c 0x0C03 rest ∧ p = c.f 1 0 4 ∧ c.f 1 6 2 = 0 ∧ c.f 1 17 15 = 0 ∧
      (s.port p).cfg.mode ≠ 0 ∧ c.f 1 4 2 = 1 ∧ c.len = 1 ∧ (((s.port p).gates ≠ none ∨ (s.port p).gatePend ≠ none))) ∧
    (∃ (s : State) (c : Ctx) (rest : List Cmd) (p : Nat) (buf : BufRead), AtHead s c 0x0C03 rest ∧ p = c.f 1 0 4 ∧ c.f 1 6 2 = 0 ∧ c.f 1 17 15 = 0 ∧
      (s.port p).cfg.mode ≠ 0 ∧ c.f 1 4 2 = 2 ∧ c.len = 1 ∧ (s.port p).gates = none ∧ (s.port p).gatePend = none) ∧
    (∃ (s : State) (c : Ctx) (rest : List Cmd) (p : Nat) (buf : BufRead) (g : _), AtHead s c 0x0C03 rest ∧ p = c.f 1 0 4 ∧ c.f 1 6 2 = 0 ∧ c.f 1 17 15
      = 0 ∧ (s.port p).cfg.mode ≠ 0 ∧ c.f 1 4 2 = 2 ∧ c.len = 1 ∧ (s.port p).gates = some g ∧ (s.port p).gatePend = none) ∧
    (∃ (s : State) (c : Ctx) (rest : List Cmd) (p : Nat) (buf : BufRead) (es : _) (st : _) (g : Gates), AtHead s c 0x0C03 rest ∧ p = c.f 1 0 4 ∧ c.f 1
      6 2 = 0 ∧ c.f 1 17 15 = 0 ∧ (s.port p).cfg.mode ≠ 0 ∧ c.f 1 4 2 = 0 ∧ c.len = 8 ∧ c.f 1 8 9 ≠ 0 ∧ c.f 1 8 9 ≤ 256 ∧ 1000 ≤ c.f 2 0 32 ∧ c.f 2 0
      32 ≤ 1000000000 ∧ c.f 3 0 32 ≤ 999999999 ∧ c.f 5 16 16 = 0 ∧ isPF c.issuer = true ∧ ((∀ x ∈ descChecks c 6 false ++ [descSize c 6 (c.f 1 8 9 *
      4)] ++ bufChecks buf, x.1 = false)) ∧ (es = (wordsOf (bufBytes buf (c.f 1 8 9 * 4)) (c.f 1 8 9)).map (fun w => (w / 2 ^ 24 % 256, w % 2 ^ 24)))
      ∧ ((∀ e ∈ es, e.2 ≠ 0)) ∧ st = gateStart (s.base 0).val (((c.f 5 0 16 * 2 ^ 32 + c.f 4 0 32) * 1000000000 + c.f 3 0 32) * nsU) (c.f 2 0 32 *
      nsU) ∧ g = ⟨c.f 2 0 32, st.1, st.2, es⟩) ∧
    (∃ (now : Nat) (base : Nat) (cyc : Nat), 0 < cyc ∧ now + 200 * usU ≤ base) ∧
    (∃ (now : Nat) (base : Nat) (cyc : Nat), 0 < cyc ∧ base < now + 200 * usU) :=
  ⟨
    ⟨(put (sL leg0) 0 0x0C01 [0x00000104]), (cx 0 0x0C01 [0x00000104]), [], _, _, head _ _ _ _ (by decide) (by decide +kernel), by decide +kernel,
      rfl, by decide +kernel, rfl, by decide +kernel, by decide +kernel, by decide +kernel, by decide +kernel⟩,
    ⟨(put (sL leg0) 0 0x0C01 [0x00000100, 0x1FF005, 0xFFFFFFFF, 0x2400]), (cx 0 0x0C01 [0x00000100, 0x1FF005, 0xFFFFFFFF, 0x2400]), [], _, _, _, head
      _ _ _ _ (by decide) (by decide +kernel), by decide +kernel, rfl, by decide +kernel, rfl, by decide +kernel, by decide +kernel, by decide +kernel,
      by decide +kernel, by decide +kernel, by decide +kernel, by decide +kernel, by decide +kernel, by decide +kernel, rfl⟩,
    ⟨(put (r0) 0 0x0C01 [0x0FFF0005]), (cx 0 0x0C01 [0x0FFF0005]), [], _, head _ _ _ _ (by decide) (by decide +kernel), by decide +kernel, rfl, by
      decide +kernel, by decide +kernel, by decide +kernel, by decide +kernel, by decide +kernel⟩,
    ⟨(put (r0) 0 0x0C01 [0x0FFF0001, 0x00123FFE, 5, 0]), (cx 0 0x0C01 [0x0FFF0001, 0x00123FFE, 5, 0]), [], _, _, head _ _ _ _ (by decide) (by decide +kernel),
      by decide +kernel, rfl, by decide +kernel, by decide +kernel, by decide +kernel, by decide +kernel, by decide +kernel, by decide +kernel, by
      decide +kernel, by decide +kernel, by decide +kernel, by decide +kernel, by decide +kernel, by decide +kernel, rfl⟩,
    ⟨(put (r0) 0 0x0C01 [0x000F0006]), (cx 0 0x0C01 [0x000F0006]), [], _, head _ _ _ _ (by decide) (by decide +kernel), by decide +kernel, rfl, by
      decide +kernel, by decide +kernel, by decide +kernel, by decide +kernel⟩,
    ⟨(put (r0) 0 0x0C01 [0x000F0002, 0xFF]), (cx 0 0x0C01 [0x000F0002, 0xFF]), [], _, head _ _ _ _ (by decide) (by decide +kernel), by decide +kernel,
      rfl, by decide +kernel, by decide +kernel, by decide +kernel, by decide +kernel, by decide +kernel, by decide +kernel⟩,
    ⟨(put (sL { leg0 with policer := { rate := 5, depth := 9216 } }) 0 0x0C02 [0x00010000, 5, 9216]), (cx 0 0x0C02 [0x00010000, 5, 9216]), [], _, _,
      {}, head _ _ _ _ (by decide) (by decide +kernel), rfl, rfl, by decide +kernel, by decide +kernel, by decide +kernel, by decide +kernel, by
      decide +kernel, by decide +kernel, by decide +kernel⟩,
    ⟨(put (sL { leg0 with policer := { rate := 5, depth := 9216 } }) 0 0x0C02 [0x00010000, 0, 0]), (cx 0 0x0C02 [0x00010000, 0, 0]), [], _, _, {},
      head _ _ _ _ (by decide) (by decide +kernel), rfl, rfl, by decide +kernel, by decide +kernel, by decide +kernel, by decide +kernel, by decide +kernel,
      by decide +kernel, by decide +kernel⟩,
    ⟨(put (sL leg0) 0 0x0C02 [0x00010000, 0xFFFFFFFF, 9216]), (cx 0 0x0C02 [0x00010000, 0xFFFFFFFF, 9216]), [], _, _, _, head _ _ _ _ (by decide) (by
      decide +kernel), rfl, rfl, by decide +kernel, by decide +kernel, by decide +kernel, by decide +kernel, by decide +kernel, by decide +kernel, by
      decide +kernel, rfl⟩,
    ⟨(put (sGate { gates := some gates0 } 0) 0 0x0C03 [0x10]), (cx 0 0x0C03 [0x10]), [], _, (.bytes []), head _ _ _ _ (by decide) (by decide +kernel),
      rfl, by decide +kernel, by decide +kernel, by decide +kernel, by decide +kernel, by decide +kernel, by decide +kernel⟩,
    ⟨(put (sGate {} 0) 0 0x0C03 [0x20]), (cx 0 0x0C03 [0x20]), [], _, (.bytes []), head _ _ _ _ (by decide) (by decide +kernel), rfl, by decide +kernel,
      by decide +kernel, by decide +kernel, by decide +kernel, by decide +kernel, by decide +kernel, by decide +kernel⟩,
    ⟨(put (sGate { gates := some gates0 } 0) 0 0x0C03 [0x20]), (cx 0 0x0C03 [0x20]), [], _, (.bytes []), _, head _ _ _ _ (by decide) (by decide +kernel),
      rfl, by decide +kernel, by decide +kernel, by decide +kernel, by decide +kernel, by decide +kernel, rfl, by decide +kernel⟩,
    ⟨(put (sGate {} 0) 0 0x0C03 [0x100, 1000000000, 999999999, 5, 0, 0, 0, 4]), (cx 0 0x0C03 [0x100, 1000000000, 999999999, 5, 0, 0, 0, 4]), [], _,
      (.bytes [1#8, 0#8, 0#8, 0xFF#8]), _, _, _, head _ _ _ _ (by decide) (by decide +kernel), rfl, by decide +kernel, by decide +kernel, by decide +kernel,
      by decide +kernel, by decide +kernel, by decide +kernel, by decide +kernel, by decide +kernel, by decide +kernel, by decide +kernel, by decide +kernel,
      by decide +kernel, by decide +kernel, rfl, by decide +kernel, rfl, rfl⟩,
    ⟨0, (200 * usU), 1, by decide +kernel, by decide +kernel⟩,
    ⟨0, (200 * usU - 1), 1, by decide +kernel, by decide +kernel⟩⟩

/-- States and operands that meet the hypotheses of AudioSettings, clause by clause. -/
theorem witness_AudioSettings :
    (∃ (s : State) (c : Ctx) (rest : List Cmd) (leg : Nat) (l : Leg) (a : _) (b : _) (ka : _) (kb : _) (cfg : _) (t : _) (v : _), AtHead s c 0x0901
      rest ∧ leg = c.f 1 0 16 ∧ s.leg leg = some l ∧ c.f 1 28 4 = 0 ∧ s.mayTouch c.issuer (s.legTenant l) = true ∧ l.gen = c.f 1 16 8 ∧ l.cfg.audMode
      = 2 ∧ c.f 1 24 4 = 0 ∧ c.len = 3 ∧ a = c.f 2 0 14 ∧ b = c.f 2 16 14 ∧ c.f 2 14 2 = 0 ∧ c.f 2 30 2 = 0 ∧ c.f 3 2 30 = 0 ∧ s.conf a = some ka ∧
      s.conf b = some kb ∧ ka.mix = true ∧ kb.mix = true ∧ s.mayTouch c.issuer ka.tenant = true ∧ s.mayTouch c.issuer kb.tenant = true ∧
      l.aud.cfg.inConf = a ∧ cfg = { l.aud.cfg with inConf := a, outConf := b, inMute := c.bit 3 0, outMute := c.bit 3 1 } ∧ t = (s.popped c
      rest).setLeg leg { l with aud := { l.aud with cfg := cfg } } ∧ t.decodePlaces ≤ 16384 ∧ t.reflow (softFor leg) = .ok v) ∧
    (∃ (s : State) (c : Ctx) (rest : List Cmd) (leg : Nat) (l : Leg) (t : _) (tr : _) (v : _), AtHead s c 0x0901 rest ∧ leg = c.f 1 0 16 ∧ s.leg leg =
      some l ∧ c.f 1 28 4 = 0 ∧ s.mayTouch c.issuer (s.legTenant l) = true ∧ l.gen = c.f 1 16 8 ∧ l.cfg.audMode = 2 ∧ c.f 1 24 4 = 1 ∧ c.len = 2 ∧ c.f
      2 3 5 = 0 ∧ c.f 2 8 8 ≠ 0 ∧ c.f 2 8 8 ≤ 200 ∧ c.f 2 16 16 = 0 ∧ tget l.tracks (c.f 2 0 3) = some tr ∧ tr.media = 0 ∧ l.aud.cfg.inTrack = c.f 2 0
      3 ∧ l.aud.cfg.jit ≠ c.f 2 8 8 ∧ t = (s.popped c rest).setLeg leg { l with aud := { l.aud with cfg := { l.aud.cfg with jit := c.f 2 8 8 }, inp := { l.aud.inp with jb := { l.aud.inp.jb with anchor := none, move := none } } } }
      ∧ t.reflow (softFor leg) = .ok v) ∧
    (∃ (s : State) (c : Ctx) (rest : List Cmd) (leg : Nat) (l : Leg) (e : EncSet) (t : _) (v : _), AtHead s c 0x0901 rest ∧ leg = c.f 1 0 16 ∧ s.leg
      leg = some l ∧ c.f 1 28 4 = 0 ∧ s.mayTouch c.issuer (s.legTenant l) = true ∧ l.gen = c.f 1 16 8 ∧ l.cfg.audMode = 2 ∧ c.f 1 24 4 = 2 ∧ c.len = 3
      ∧ e = ({ codec := c.f 2 0 4, frameMs := c.f 2 8 6, adapt := c.bit 2 16, dtx := c.bit 2 17, fec := c.bit 2 18, opusMin := c.f 3 0 16, opusMax := c.f 3 16 16 }
      : EncSet) ∧ ((e.codec < 4 ∧ l.cfg.kind ≠ 1 ∨ e.codec = 15 ∧ l.cfg.kind = 1)) ∧ c.f 2 4 4 = 0 ∧ frameMsOk e.codec e.frameMs = true ∧ c.f 2 14 2 =
      0 ∧ c.f 2 19 13 = 0 ∧ 6 ≤ e.opusMin ∧ e.opusMin ≤ e.opusMax ∧ e.opusMax ≤ 510 ∧ t = (s.popped c rest).setLeg leg { l with aud := { l.aud with cfg := { l.aud.cfg with enc := e } } }
      ∧ t.reflow (softFor leg) = .ok v) ∧
    (∃ (s : State) (c : Ctx) (rest : List Cmd) (leg : Nat) (l : Leg) (x : _), AtHead s c 0x0901 rest ∧ leg = c.f 1 0 16 ∧ s.leg leg = some l ∧ c.f 1
      28 4 = 0 ∧ s.mayTouch c.issuer (s.legTenant l) = true ∧ l.gen = c.f 1 16 8 ∧ l.cfg.audMode = 2 ∧ c.f 1 24 4 = 3 ∧ c.len = 3 ∧ c.f 3 7 25 = 0 ∧ x
      = (c.w 2).toNat ∧ ((x ≠ 0 → l.keys.rekey = false))) ∧
    (∃ (s : State) (c : Ctx) (rest : List Cmd) (leg : Nat) (l : Leg) (cfg : AudCfg) (t : State) (v : State), AtHead s c 0x0904 rest ∧ leg = c.f 1 0 16
      ∧ s.leg leg = some l ∧ c.f 1 24 8 = 0 ∧ c.f 2 6 2 = 0 ∧ c.f 2 15 17 = 0 ∧ s.mayTouch c.issuer (s.legTenant l) = true ∧ l.gen = c.f 1 16 8 ∧
      l.cfg.audMode = 2 ∧ cfg = { l.aud.cfg with vadEv := c.bit 2 0, dtmfInband := c.bit 2 1, dtmfTe := c.bit 2 2, dtmfMute := c.bit 2 3, howl := c.bit 2 4, howlAct := c.bit 2 5, tePt := c.f 2 8 7 }
      ∧ t = (s.popped c rest).setLeg leg { l with aud := { l.aud with cfg := cfg, det := l.aud.det.under cfg } } ∧ t.reflow (softFor leg) = .ok v) ∧
    (∃ (s : State) (c : Ctx) (rest : List Cmd) (id : Nat) (k : Conf) (p : MixPol) (t : _) (v : _), AtHead s c 0x0902 rest ∧ id = c.f 1 0 14 ∧ s.conf
      id = some k ∧ c.len = 3 ∧ c.f 1 14 2 = 0 ∧ c.f 1 18 14 = 0 ∧ s.mayTouch c.issuer k.tenant = true ∧ k.mix = true ∧ c.f 1 16 2 = 0 ∧ 1 ≤ c.f 2 0 4
      ∧ c.f 2 0 4 ≤ 8 ∧ c.f 2 0 4 ≤ c.f 2 4 5 ∧ c.f 2 4 5 ≤ 16 ∧ c.f 2 23 9 = 0 ∧ 20 ≤ c.f 3 0 16 ∧ c.f 3 0 16 ≤ 10000 ∧ 20 ≤ c.f 3 16 16 ∧ c.f 3 16
      16 ≤ 10000 ∧ p = { k.pol with activeMax := c.f 2 0 4, candMax := c.f 2 4 5, scale := c.bit 2 9, talkEv := c.bit 2 10, hyst := c.f 2 11 5, floor := c.f 2 16 7, hang := c.f 3 0 16, candHold := c.f 3 16 16 }
      ∧ (t = (s.popped c rest).modConf id (fun x => { x with pol := p })) ∧ t.decodePlaces ≤ 16384 ∧ t.reflow softAudio = .ok v) ∧
    (∃ (s : State) (c : Ctx) (rest : List Cmd) (id : Nat) (k : Conf), AtHead s c 0x0902 rest ∧ id = c.f 1 0 14 ∧ s.conf id = some k ∧ c.len = 3 ∧ c.f
      1 14 2 = 0 ∧ c.f 1 18 14 = 0 ∧ s.mayTouch c.issuer k.tenant = true ∧ k.mix = true ∧ c.f 1 16 2 = 1 ∧ c.f 2 0 10 ≠ 1 ∧ c.f 2 0 10 ≤ 1000 ∧ c.f 2
      10 6 = 0 ∧ c.f 3 7 25 = 0 ∧ c.f 2 0 10 = k.pol.cascD ∧ c.f 2 16 16 = k.pol.confTag) ∧
    (∃ (s : State) (c : Ctx) (rest : List Cmd) (id : Nat) (k : Conf), AtHead s c 0x0902 rest ∧ id = c.f 1 0 14 ∧ s.conf id = some k ∧ c.len = 3 ∧ c.f
      1 14 2 = 0 ∧ c.f 1 18 14 = 0 ∧ s.mayTouch c.issuer k.tenant = true ∧ k.mix = true ∧ c.f 1 16 2 = 1 ∧ c.f 2 0 10 ≠ 1 ∧ c.f 2 0 10 ≤ 1000 ∧ c.f 2
      10 6 = 0 ∧ c.f 3 7 25 = 0 ∧ c.f 2 0 10 ≠ k.pol.cascD ∧ s.cascLegs id ≠ []) ∧
    (∃ (s : State) (c : Ctx) (rest : List Cmd) (id : Nat) (k : Conf), AtHead s c 0x0902 rest ∧ id = c.f 1 0 14 ∧ s.conf id = some k ∧ c.len = 3 ∧ c.f
      1 14 2 = 0 ∧ c.f 1 18 14 = 0 ∧ s.mayTouch c.issuer k.tenant = true ∧ k.mix = true ∧ c.f 1 16 2 = 1 ∧ c.f 2 0 10 ≠ 1 ∧ c.f 2 0 10 ≤ 1000 ∧ c.f 2
      10 6 = 0 ∧ c.f 3 7 25 = 0 ∧ c.f 2 0 10 ≠ k.pol.cascD ∧ s.cascLegs id = []) ∧
    (∃ (s : State) (c : Ctx) (rest : List Cmd) (buf : BufRead), AtHead s c 0x0903 rest ∧ c.f 1 8 24 = 0 ∧ c.f 1 0 2 = 3 ∧ c.len = 1 ∧ tget s.stages
      (c.f 1 2 6) = none) ∧
    (∃ (s : State) (c : Ctx) (rest : List Cmd) (buf : BufRead), AtHead s c 0x0903 rest ∧ c.f 1 8 24 = 0 ∧ c.f 1 0 2 = 3 ∧ c.len = 1 ∧ tget s.stages
      (c.f 1 2 6) ≠ none ∧ ((∀ a ∈ s.stageAtts, a.stage ≠ c.f 1 2 6))) ∧
    (∃ (s : State) (c : Ctx) (rest : List Cmd) (buf : BufRead) (k : _), AtHead s c 0x0903 rest ∧ c.f 1 8 24 = 0 ∧ c.f 1 0 2 = 2 ∧ c.len = 2 ∧ c.f 2 0
      2 = 1 ∧ c.f 2 4 12 = 0 ∧ s.conf (c.f 2 16 16) = some k ∧ s.mayTouch c.issuer k.tenant = true ∧ k.mix = true) ∧
    (∃ (s : State) (c : Ctx) (rest : List Cmd) (buf : BufRead) (k : _) (t : _) (v : _), AtHead s c 0x0903 rest ∧ c.f 1 8 24 = 0 ∧ c.f 1 0 2 = 1 ∧
      c.len = 5 ∧ c.f 2 0 2 = 1 ∧ c.f 2 4 12 = 0 ∧ s.conf (c.f 2 16 16) = some k ∧ s.mayTouch c.issuer k.tenant = true ∧ k.mix = true ∧ tget s.stages
      (c.f 1 2 6) ≠ none ∧ t = (s.popped c rest).takeOff 1 (c.f 2 16 16) (c.f 2 2 2) ∧ State.reflow { t with stageAtts := t.stageAtts ++ [{ point := 1, obj := c.f 2 16 16, pos := c.f 2 2 2, stage := c.f 1 2 6, params := [(c.w 3).toNat, (c.w 4).toNat, (c.w 5).toNat], at_ := t.time.m }] }
      noSoft = .ok v) :=
  ⟨
    ⟨(put (sC cf0 (legM {}) 5) 0 0x0901 [0x00010000, 0, 3]), (cx 0 0x0901 [0x00010000, 0, 3]), [], _, _, _, _, _, _, _, _, (okv _), head _ _ _ _ (by
      decide) (by decide +kernel), rfl, rfl, by decide +kernel, by decide +kernel, by decide +kernel, by decide +kernel, by decide +kernel, by decide +kernel,
      rfl, rfl, by decide +kernel, by decide +kernel, by decide +kernel, rfl, rfl, by decide +kernel, by decide +kernel, by decide +kernel, by decide +kernel,
      by decide +kernel, rfl, rfl, by decide +kernel, okGet (by decide +kernel)⟩,
    ⟨(put (sC cf0 (legM {}) 5) 0 0x0901 [0x01010000, 0xC800]), (cx 0 0x0901 [0x01010000, 0xC800]), [], _, _, _, _, (okv _), head _ _ _ _ (by decide)
      (by decide +kernel), rfl, rfl, by decide +kernel, by decide +kernel, by decide +kernel, by decide +kernel, by decide +kernel, by decide +kernel,
      by decide +kernel, by decide +kernel, by decide +kernel, by decide +kernel, rfl, by decide +kernel, by decide +kernel, by decide +kernel, rfl,
      okGet (by decide +kernel)⟩,
    ⟨(put (sC cf0 (legM {}) 5) 0 0x0901 [0x02010000, 0x73C00, 0x01FE0006]), (cx 0 0x0901 [0x02010000, 0x73C00, 0x01FE0006]), [], _, _, _, _, (okv _),
      head _ _ _ _ (by decide) (by decide +kernel), rfl, rfl, by decide +kernel, by decide +kernel, by decide +kernel, by decide +kernel, by decide +kernel,
      by decide +kernel, rfl, by decide +kernel, by decide +kernel, by decide +kernel, by decide +kernel, by decide +kernel, by decide +kernel, by
      decide +kernel, by decide +kernel, rfl, okGet (by decide +kernel)⟩,
    ⟨(put (sC cf0 (legM {}) 5) 0 0x0901 [0x03010000, 5, 0x7F]), (cx 0 0x0901 [0x03010000, 5, 0x7F]), [], _, _, _, head _ _ _ _ (by decide) (by decide +kernel),
      rfl, rfl, by decide +kernel, by decide +kernel, by decide +kernel, by decide +kernel, by decide +kernel, by decide +kernel, by decide +kernel,
      rfl, by decide +kernel⟩,
    ⟨(put (sC cf0 (legM {}) 5) 0 0x0904 [0x00010000, 0x653F]), (cx 0 0x0904 [0x00010000, 0x653F]), [], _, _, _, _, (okv _), head _ _ _ _ (by decide)
      (by decide +kernel), rfl, rfl, by decide +kernel, by decide +kernel, by decide +kernel, by decide +kernel, by decide +kernel, by decide +kernel,
      rfl, rfl, okGet (by decide +kernel)⟩,
    ⟨(put (sC cf0 (legM {}) 5) 0 0x0902 [0, 0x7FFF08 - 0x7F0000 + 0x7F0000 - 0xFE00 - 0, 0x27102710]), (cx 0 0x0902 [0, 0x7FFF08 - 0x7F0000 + 0x7F0000
      - 0xFE00 - 0, 0x27102710]), [], _, _, _, _, (okv _), head _ _ _ _ (by decide) (by decide +kernel), rfl, rfl, by decide +kernel, by decide +kernel,
      by decide +kernel, by decide +kernel, by decide +kernel, by decide +kernel, by decide +kernel, by decide +kernel, by decide +kernel, by decide +kernel,
      by decide +kernel, by decide +kernel, by decide +kernel, by decide +kernel, by decide +kernel, rfl, rfl, by decide +kernel, okGet (by decide +kernel)⟩,
    ⟨(put (sC cf0 (legM {}) 5) 0 0x0902 [0x10000, 0, 0]), (cx 0 0x0902 [0x10000, 0, 0]), [], _, _, head _ _ _ _ (by decide) (by decide +kernel), rfl,
      rfl, by decide +kernel, by decide +kernel, by decide +kernel, by decide +kernel, by decide +kernel, by decide +kernel, by decide +kernel, by
      decide +kernel, by decide +kernel, by decide +kernel, by decide +kernel, by decide +kernel⟩,
    ⟨(put ({ sC cf0 (legM {}) 5 with legs := [(0, { leg0 with cfg := { leg0.cfg with kind := 1 } })] }) 0 0x0902 [0x10000, 1000, 0]), (cx 0 0x0902
      [0x10000, 1000, 0]), [], _, _, head _ _ _ _ (by decide) (by decide +kernel), rfl, rfl, by decide +kernel, by decide +kernel, by decide +kernel,
      by decide +kernel, by decide +kernel, by decide +kernel, by decide +kernel, by decide +kernel, by decide +kernel, by decide +kernel, by decide +kernel,
      by decide +kernel⟩,
    ⟨(put (sC cf0 (legM {}) 5) 0 0x0902 [0x10000, 1000, 0]), (cx 0 0x0902 [0x10000, 1000, 0]), [], _, _, head _ _ _ _ (by decide) (by decide +kernel),
      rfl, rfl, by decide +kernel, by decide +kernel, by decide +kernel, by decide +kernel, by decide +kernel, by decide +kernel, by decide +kernel,
      by decide +kernel, by decide +kernel, by decide +kernel, by decide +kernel, by decide +kernel⟩,
    ⟨(put (sC cf0 (legM {}) 5) 0 0x0903 [0xFF]), (cx 0 0x0903 [0xFF]), [], (.bytes []), head _ _ _ _ (by decide) (by decide +kernel), by decide +kernel,
      by decide +kernel, by decide +kernel, by decide +kernel⟩,
    ⟨(put ({ sStage 0 with stageAtts := [] }) 0 0x0903 [0xFF]), (cx 0 0x0903 [0xFF]), [], (.bytes []), head _ _ _ _ (by decide) (by decide +kernel),
      by decide +kernel, by decide +kernel, by decide +kernel, by decide +kernel, by decide +kernel⟩,
    ⟨(put (sC cf0 (legM {}) 5) 0 0x0903 [2, 0xD]), (cx 0 0x0903 [2, 0xD]), [], (.bytes []), _, head _ _ _ _ (by decide) (by decide +kernel), by decide +kernel,
      by decide +kernel, by decide +kernel, by decide +kernel, by decide +kernel, rfl, by decide +kernel, by decide +kernel⟩,
    ⟨(put (sStage 0) 0 0x0903 [0xFD, 0xD, 1, 2, 3]), (cx 0 0x0903 [0xFD, 0xD, 1, 2, 3]), [], (.bytes []), _, _, (okv _), head _ _ _ _ (by decide) (by
      decide +kernel), by decide +kernel, by decide +kernel, by decide +kernel, by decide +kernel, by decide +kernel, rfl, by decide +kernel, by
      decide +kernel, by decide +kernel, rfl, okGet (by decide +kernel)⟩⟩

/-- States and operands that meet the hypotheses of StageRuns, clause by clause. -/
theorem witness_StageRuns :
    (∃ (s : State) (u : State) (p : Nat) (o : Nat) (k : Nat) (t : Nat) (r : StageResult), p < 3 ∧ k < 4 ∧ u = s.stageHear p o ∧ ((u.stageTurn p o k t
      = none ∨ u.stageBlock p o t = none))) ∧
    (∃ (s : State) (u : State) (p : Nat) (o : Nat) (k : Nat) (t : Nat) (a : StageAtt) (x : List Int) (st : Stage) (y : List Int) (q : Bool) (b : List
      Byte), p < 3 ∧ k < 4 ∧ u = s.stageHear p o ∧ u.stageTurn p o k t = some a ∧ u.stageBlock p o t = some x ∧ tget u.stages a.stage = some st) ∧
    (∃ (s : State) (u : State) (p : Nat) (o : Nat) (k : Nat) (t : Nat) (a : StageAtt) (x : List Int) (st : Stage), p < 3 ∧ k < 4 ∧ u = s.stageHear p o
      ∧ u.stageTurn p o k t = some a ∧ u.stageBlock p o t = some x ∧ tget u.stages a.stage = some st) ∧
    (∃ (s : State) (u : State) (p : Nat) (o : Nat) (k : Nat) (t : Nat) (a : StageAtt) (x : List Int) (st : Stage), p < 3 ∧ k < 4 ∧ u = s.stageHear p o
      ∧ u.stageTurn p o k t = some a ∧ u.stageBlock p o t = some x ∧ tget u.stages a.stage = some st ∧ 8 ≤ a.stops + 1) ∧
    (∃ (s : State) (u : State) (p : Nat) (o : Nat) (k : Nat) (t : Nat) (a : StageAtt) (x : List Int) (st : Stage), p < 3 ∧ k < 4 ∧ u = s.stageHear p o
      ∧ u.stageTurn p o k t = some a ∧ u.stageBlock p o t = some x ∧ tget u.stages a.stage = some st ∧ a.stops + 1 < 8) :=
  ⟨
    ⟨(sAt leg0 5), _, 0, 0, 3, 0xFFFF, .fault, by decide +kernel, by decide +kernel, rfl, by decide +kernel⟩,
    ⟨(sStage 0), _, 0, 0, 3, 0xFFFF, _, _, _, [], true, [], by decide +kernel, by decide +kernel, rfl, rfl, rfl, rfl⟩,
    ⟨(sStage 0), _, 0, 0, 3, 0xFFFF, _, _, _, by decide +kernel, by decide +kernel, rfl, rfl, rfl, rfl⟩,
    ⟨(sStage 7), _, 0, 0, 3, 0xFFFF, _, _, _, by decide +kernel, by decide +kernel, rfl, rfl, rfl, rfl, by decide +kernel⟩,
    ⟨(sStage 6), _, 0, 0, 3, 0xFFFF, _, _, _, by decide +kernel, by decide +kernel, rfl, rfl, rfl, rfl, by decide +kernel⟩⟩

/-- States and operands that meet the hypotheses of AudioTicks, clause by clause. -/
theorem witness_AudioTicks :
    (∃ (s : State) (leg : Nat) (l : Leg) (b : AudioBlock), (Instr.audioDecode leg b).wf = true ∧ s.leg leg = some l ∧ ((l.cfg.feeds = false ∨
      l.aud.inp.cur.tick = some s.time.m))) ∧
    (∃ (s : State) (leg : Nat) (l : Leg) (b : AudioBlock) (j : _), (Instr.audioDecode leg b).wf = true ∧ s.leg leg = some l ∧ l.cfg.feeds = true ∧
      l.aud.inp.cur.tick ≠ some s.time.m ∧ s.stoppedFlow (.legAudio leg) = false ∧ j = l.aud.inp.jb.play l.aud.inp.cand s.time.m ∧ j.running = false) ∧
    (∃ (s : State) (leg : Nat) (l : Leg) (b : AudioBlock) (j : _) (u : _), (Instr.audioDecode leg b).wf = true ∧ s.leg leg = some l ∧ l.cfg.feeds =
      true ∧ l.aud.inp.cur.tick ≠ some s.time.m ∧ s.stoppedFlow (.legAudio leg) = false ∧ j = l.aud.inp.jb.play l.aud.inp.cand s.time.m ∧ j.running =
      true ∧ j.covered s.time.m = true ∧ j.concealRun ≤ 60 ∧ l.aud.cfg.dtmfInband = false ∧ u = s.setLeg leg { l with aud := { l.aud with inp := { l.aud.inp with jb := j, prev := l.aud.inp.cur, cur := { tick := some s.time.m, samples := (block48 b.samples).map satSample } } } }) ∧
    (∃ (s : State) (leg : Nat) (l : Leg), leg < 65536 ∧ s.leg leg = some l ∧ ((∀ t, l.aud.inp.lastPkt = some t → t + 60 ≤ s.time.m))) ∧
    (∃ (s : State) (leg : Nat) (l : Leg) (t : _), leg < 65536 ∧ s.leg leg = some l ∧ l.aud.inp.lastPkt = some t ∧ s.time.m < t + 60) ∧
    (∃ (s : State) (leg : Nat) (l : Leg), leg < 65536 ∧ s.leg leg = some l ∧ l.cfg.feeds = false) ∧
    (∃ (s : State) (leg : Nat) (l : Leg) (later : _) (by_ : _), leg < 65536 ∧ s.leg leg = some l ∧ l.cfg.feeds = true ∧ l.aud.inp.jb.move = some
      (later, by_) ∧ ((l.aud.inp.vad = false ∨ by_ ≤ s.time.m))) ∧
    (∃ (s : State) (leg : Nat) (l : Leg) (later : _) (by_ : _), leg < 65536 ∧ s.leg leg = some l ∧ l.cfg.feeds = true ∧ l.aud.inp.jb.move = some
      (later, by_) ∧ l.aud.inp.vad = true ∧ s.time.m < by_) ∧
    (∃ (s : State) (id : Nat) (c : Conf), id < 16384 ∧ s.conf id = some c ∧ ((c.mix = false ∨ c.mixTick = some s.time.m))) ∧
    (∃ (s : State) (id : Nat) (c : Conf) (u : _) (v : _), id < 16384 ∧ s.conf id = some c ∧ c.mix = true ∧ c.mixTick ≠ some s.time.m ∧ s.stoppedFlow
      (.confMix id) = false ∧ c.pol.talkEv = false ∧ (u = (s.legs.filter fun x => x.2.cfg.hears && x.2.aud.cfg.outConf == id).foldl (fun s x => s.hear
      x.1) s) ∧ (v = State.candidatesOf ((u.feeders id).foldl (fun s x => s.modIn x.1 fun i => i.foldU s.time.m) u) id c)) ∧
    (∃ (s : State) (leg : Nat) (n : Nat) (l : Leg), (Instr.audioEncode leg n).wf = true ∧ s.leg leg = some l ∧ ((l.cfg.hears = false ∨ l.cfg.kind ≠ 0
      ∨ l.aud.out.encAt = some s.time.m ∨ startsAt l.aud.out.enc.frameMs leg s.time.m = false))) ∧
    (∃ (s : State) (leg : Nat) (n : Nat) (l : Leg), (Instr.audioEncode leg n).wf = true ∧ s.leg leg = some l ∧ l.cfg.hears = true ∧ l.cfg.kind = 0 ∧
      l.aud.out.encAt ≠ some s.time.m ∧ startsAt l.aud.out.enc.frameMs leg s.time.m = true ∧ s.stoppedFlow (.legEncode leg) = false ∧ s.hear leg = s ∧
      l.state = 1 ∧ l.aud.cfg.outSsrc ≠ 0 ∧ l.aud.out.enc.dtx = false) ∧
    (∃ (s : State) (leg : Nat) (n : Nat) (l : Leg), (Instr.audioEncode leg n).wf = true ∧ s.leg leg = some l ∧ l.cfg.hears = true ∧ l.cfg.kind = 0 ∧
      l.aud.out.encAt ≠ some s.time.m ∧ startsAt l.aud.out.enc.frameMs leg s.time.m = true ∧ s.stoppedFlow (.legEncode leg) = false ∧ s.hear leg = s ∧
      l.state ≠ 1) ∧
    (∃ (s : State) (id : Nat) (c : Conf), id < 16384 ∧ s.conf id = some c ∧ c.pol.cascD = 0) ∧
    (∃ (s : State) (id : Nat) (c : Conf) (t : _) (bs : _) (u : _), id < 16384 ∧ s.conf id = some c ∧ c.pol.cascD ≠ 0 ∧ s.time.m ≠ 0 ∧ s.stoppedFlow
      (.confMix id) = false ∧ t = (s.time.m + 2 ^ 32 - 1) % 2 ^ 32 ∧ ((∀ k ∈ c.contribs, k.site = none → k.tick ≠ t)) ∧ bs = s.localBlocks c ∧ (u =
      s.modConf id (fun c => { c with contribs := c.contribs ++ [⟨none, t, bs⟩] }))) :=
  ⟨
    ⟨(sAt leg0 5), 0, _, (⟨List.replicate 48 0, none⟩), by decide +kernel, rfl, by decide +kernel⟩,
    ⟨(sC cf0 (legM {}) 5), 0, _, (⟨List.replicate 48 0, none⟩), _, by decide +kernel, rfl, by decide +kernel, by decide +kernel, by decide +kernel,
      rfl, by decide +kernel⟩,
    ⟨(sC cf0 (legM { inp := { cand := true, jb := { running := true, curEnd := 6 } } }) 5), 0, _, (⟨List.replicate 48 0, none⟩), _, _, by decide +kernel,
      rfl, by decide +kernel, by decide +kernel, by decide +kernel, rfl, by decide +kernel, by decide +kernel, by decide +kernel, by decide +kernel,
      rfl⟩,
    ⟨(sC cf0 (legM { inp := { lastPkt := some 0 } }) 60), 0, _, by decide +kernel, rfl, (fun t h => by cases h; decide)⟩,
    ⟨(sC cf0 (legM { inp := { lastPkt := some 0 } }) 59), 0, _, _, by decide +kernel, rfl, rfl, by decide +kernel⟩,
    ⟨(sAt leg0 5), 0, _, by decide +kernel, rfl, by decide +kernel⟩,
    ⟨(sC cf0 (legM { inp := { vad := true, jb := { move := some (true, 60) } } }) 60), 0, _, _, _, by decide +kernel, rfl, by decide +kernel, rfl, by
      decide +kernel⟩,
    ⟨(sC cf0 (legM { inp := { vad := true, jb := { move := some (true, 60) } } }) 59), 0, _, _, _, by decide +kernel, rfl, by decide +kernel, rfl, by
      decide +kernel, by decide +kernel⟩,
    ⟨(sC { cf0 with mixTick := some 5 } leg0 5), 0, _, by decide +kernel, rfl, by decide +kernel⟩,
    ⟨(sC cf0 (legM {}) 5), 0, _, _, _, by decide +kernel, rfl, by decide +kernel, by decide +kernel, by decide +kernel, by decide +kernel, rfl, rfl⟩,
    ⟨(sAt leg0 5), 0, 40, _, by decide +kernel, rfl, by decide +kernel⟩,
    ⟨(sC cf0 (legM { cfg := { outSsrc := 5 } }) 20), 0, 40, _, by decide +kernel, rfl, by decide +kernel, by decide +kernel, by decide +kernel, by
      decide +kernel, by decide +kernel, (rfl), by decide +kernel, by decide +kernel, by decide +kernel⟩,
    ⟨(sC cf0 { legM {} with state := 2 } 20), 0, 40, _, by decide +kernel, rfl, by decide +kernel, by decide +kernel, by decide +kernel, by decide +kernel,
      by decide +kernel, (rfl), by decide +kernel⟩,
    ⟨(sC cf0 (legM {}) 5), 0, _, by decide +kernel, rfl, by decide +kernel⟩,
    ⟨(sC { cf0 with pol := { cascD := 20 } } (legM {}) 5), 0, _, _, _, _, by decide +kernel, rfl, by decide +kernel, by decide +kernel, by decide +kernel,
      rfl, (fun k h => by cases h), rfl, rfl⟩⟩

/-- States and operands that meet the hypotheses of Detections, clause by clause. -/
theorem witness_Detections :
    (∃ (s : State) (leg : Nat) (l : Leg) (t : _), leg < 65536 ∧ s.leg leg = some l ∧ ((l.aud.det.tes.find? fun t => decide (t.last + 200 ≤ s.time.m))
      = some t)) ∧
    (∃ (s : State) (leg : Nat) (l : Leg), leg < 65536 ∧ s.leg leg = some l ∧ ((l.aud.det.tes.find? fun t => decide (t.last + 200 ≤ s.time.m)) = none)) ∧
    (∃ (s : State) (leg : Nat) (l : Leg) (t : _), leg < 65536 ∧ s.leg leg = some l ∧ ((l.aud.det.tones.find? fun t => t.accepted && decide (t.last +
      20 ≤ s.time.m)) = some t)) ∧
    (∃ (s : State) (leg : Nat) (l : Leg), leg < 65536 ∧ s.leg leg = some l ∧ ((l.aud.det.tones.find? fun t => t.accepted && decide (t.last + 20 ≤
      s.time.m)) = none)) ∧
    (∃ (s : State) (leg : Nat) (l : Leg) (p : HowlPeak), leg < 65536 ∧ s.leg leg = some l ∧ l.aud.cfg.howl = true ∧ l.aud.inp.jb.running = true ∧
      s.stoppedFlow (.legAudio leg) = false ∧ HowlPeak.fits p = true ∧ l.aud.det.howlRun ≠ 0 ∧ p.hz ≤ l.aud.det.howlHz + 25 ∧ l.aud.det.howlHz ≤ p.hz +
      25 ∧ l.aud.det.howlOn = false ∧ l.aud.det.howlRun + 1 < 15) ∧
    (∃ (s : State) (leg : Nat) (l : Leg) (p : HowlPeak), leg < 65536 ∧ s.leg leg = some l ∧ l.aud.cfg.howl = true ∧ l.aud.inp.jb.running = true ∧
      s.stoppedFlow (.legAudio leg) = false ∧ HowlPeak.fits p = true ∧ l.aud.det.howlRun ≠ 0 ∧ p.hz ≤ l.aud.det.howlHz + 25 ∧ l.aud.det.howlHz ≤ p.hz +
      25 ∧ l.aud.det.howlOn = false ∧ 15 ≤ l.aud.det.howlRun + 1) ∧
    (∃ (s : State) (leg : Nat) (l : Leg), leg < 65536 ∧ s.leg leg = some l ∧ l.aud.cfg.howl = true ∧ l.aud.inp.jb.running = true ∧ s.stoppedFlow
      (.legAudio leg) = false ∧ l.aud.det.howlOn = true ∧ 50 ≤ l.aud.det.howlQuiet + 1) ∧
    (∃ (s : State) (leg : Nat) (l : Leg), leg < 65536 ∧ s.leg leg = some l ∧ l.aud.cfg.howl = true ∧ l.aud.inp.jb.running = true ∧ s.stoppedFlow
      (.legAudio leg) = false ∧ l.aud.det.howlOn = false) ∧
    (∃ (s : State) (leg : Nat) (l : Leg) (p : Option HowlPeak), leg < 65536 ∧ s.leg leg = some l ∧ l.aud.cfg.howl = false) :=
  ⟨
    ⟨(sC cf0 (legM { det := { tes := [⟨1, 5, 40, 0, 0⟩] } }) 200), 0, _, _, by decide +kernel, rfl, rfl⟩,
    ⟨(sC cf0 (legM { det := { tes := [⟨1, 5, 40, 0, 0⟩] } }) 199), 0, _, by decide +kernel, rfl, by decide +kernel⟩,
    ⟨(sC cf0 (legM { det := { tones := [⟨5, 0, 40, true⟩] } }) 60), 0, _, _, by decide +kernel, rfl, rfl⟩,
    ⟨(sC cf0 (legM { det := { tones := [⟨5, 0, 40, true⟩] } }) 59), 0, _, by decide +kernel, rfl, by decide +kernel⟩,
    ⟨(sC cf0 (legM (det { howlRun := 13, howlHz := 1000 } true)) 5), 0, _, (⟨1025, -300, 240⟩), by decide +kernel, rfl, by decide +kernel, by decide +kernel,
      by decide +kernel, by decide +kernel, by decide +kernel, by decide +kernel, by decide +kernel, by decide +kernel, by decide +kernel⟩,
    ⟨(sC cf0 (legM (det { howlRun := 14, howlHz := 1000 } true)) 5), 0, _, (⟨1025, -300, 240⟩), by decide +kernel, rfl, by decide +kernel, by decide +kernel,
      by decide +kernel, by decide +kernel, by decide +kernel, by decide +kernel, by decide +kernel, by decide +kernel, by decide +kernel⟩,
    ⟨(sC cf0 (legM (det { howlOn := true, howlQuiet := 49 } true)) 5), 0, _, by decide +kernel, rfl, by decide +kernel, by decide +kernel, by decide +kernel,
      by decide +kernel, by decide +kernel⟩,
    ⟨(sC cf0 (legM (det {} true)) 5), 0, _, by decide +kernel, rfl, by decide +kernel, by decide +kernel, by decide +kernel, by decide +kernel⟩,
    ⟨(sAt leg0 5), 0, _, none, by decide +kernel, rfl, by decide +kernel⟩⟩

/-- States and operands that meet the hypotheses of CoreExecution, clause by clause. -/
theorem witness_CoreExecution :
    (∃ (s : State) (core : Nat) (b : Bundle) (c : Core) (k : Core) (stall : Nat) (free : Nat → Nat), (Instr.coreBundle core b).wf = true ∧ c = s.core
      core ∧ s.power.pdOn.contains (core / 4) = true ∧ c.pendingFault = false ∧ (free = (fun i => Config.freeValue (s.fresh + i))) ∧ c.bundle
      (State.windows { s with fresh := s.fresh + 6 } core c) (s.rail (core / 4)).split free b = some (k, stall)) ∧
    (∃ (s : State) (core : Nat) (b : Bundle) (c : Core) (k : Core) (stall : Nat) (free : Nat → Nat), (Instr.coreBundle core b).wf = true ∧ c = s.core
      core ∧ s.power.pdOn.contains (core / 4) = true ∧ c.pendingFault = false ∧ (free = (fun i => Config.freeValue (s.fresh + i))) ∧ c.bundle
      (State.windows { s with fresh := s.fresh + 6 } core c) (s.rail (core / 4)).split free b = none) ∧
    (∃ (s : State) (core : Nat) (handler : Nat) (kind : CoreInt) (c : Core), (Instr.coreInterrupt core kind handler).wf = true ∧ c = s.core core ∧
      s.power.pdOn.contains (core / 4) = true ∧ ((c.pendingFault = true ∧ kind = .fault) ∨ (c.pendingFault = false ∧ kind ≠ .fault ∧ c.ie = true ∧
      c.branch = none))) ∧
    (∃ (s : State) (core : Nat) (handler : Nat) (kind : CoreInt) (c : Core), (Instr.coreInterrupt core kind handler).wf = true ∧ c = s.core core ∧
      s.power.pdOn.contains (core / 4) = true ∧ ((c.pendingFault = true ∧ kind ≠ .fault) ∨ (c.pendingFault = false ∧ (kind = .fault ∨ c.ie = false ∨
      c.branch ≠ none)))) ∧
    (∃ (s : State) (cl : Nat) (r : Rail) (t : _), cl < 48 ∧ r = s.rail cl ∧ s.power.pdOn.contains cl = true ∧ r.split = false ∧ r.lowSince = some t ∧
      t + 100 ≤ s.time.m) ∧
    (∃ (s : State) (cl : Nat) (r : Rail), cl < 48 ∧ r = s.rail cl ∧ s.power.pdOn.contains cl = true ∧ r.split = true ∧ 680 ≤ r.mv ∧ r.splitTick + 1 ≤
      s.time.m) ∧
    (∃ (s : State) (cl : Nat) (r : Rail), cl < 48 ∧ r = s.rail cl ∧ s.power.pdOn.contains cl = true ∧ r.split = true ∧ ((r.mv < 680 ∨ s.time.m <
      r.splitTick + 1))) :=
  ⟨
    ⟨(sCore {}), 191, (⟨.nop, .nop, .nop, .nop⟩), _, _, _, _, by decide +kernel, rfl, by decide +kernel, by decide +kernel, rfl, rfl⟩,
    ⟨(sCore {}), 191, (⟨.nop, .nop, .nop, .illegal⟩), _, {}, 0, _, by decide +kernel, rfl, by decide +kernel, by decide +kernel, rfl, by decide +kernel⟩,
    ⟨(sCore { pendingFault := true }), 191, 48, .fault, _, by decide +kernel, rfl, by decide +kernel, (.inl ⟨rfl, rfl⟩)⟩,
    ⟨(sCore { pendingFault := true }), 191, 48, .tick, _, by decide +kernel, rfl, by decide +kernel, (.inl ⟨rfl, by decide⟩)⟩,
    ⟨({ r0 with power := { r0.power with rails := [(47, { lowSince := some 0 })], pdOn := [47] }, time := { r0.time with m := 100 } }), 47, _, _, by
      decide +kernel, rfl, by decide +kernel, by decide +kernel, rfl, by decide +kernel⟩,
    ⟨({ r0 with power := { r0.power with rails := [(47, { split := true, mv := 680 })], pdOn := [47] }, time := { r0.time with m := 1 } }), 47, _, by
      decide +kernel, rfl, by decide +kernel, by decide +kernel, by decide +kernel, by decide +kernel⟩,
    ⟨({ r0 with power := { r0.power with rails := [(47, { split := true, mv := 679 })], pdOn := [47] }, time := { r0.time with m := 1 } }), 47, _, by
      decide +kernel, rfl, by decide +kernel, by decide +kernel, by decide +kernel⟩⟩

/-- States and operands that meet the hypotheses of CoreArithmetic, clause by clause. -/
theorem witness_CoreArithmetic :
    (∃ (w : Nat) (i : Nat) (g : Nat → Nat × Bool), w ∈ [8, 16, 32, 64] ∧ i < 64 / w ∧ (g i).2 = true) ∧
    (∃ (w : Nat) (x : Nat) (y : Nat) (f : Nat), 0 < w ∧ x < 2 ^ w ∧ y < 2 ^ w ∧ y < w) ∧
    (∃ (w : Nat) (old : Nat) (x : Int), 0 < w ∧ (accAdd w old x).2 = false) ∧
    (∃ (w : Nat) (x : Int), 0 < w ∧ -(2 ^ (w - 1) : Int) ≤ x ∧ x < 2 ^ (w - 1)) ∧
    (∃ (w : Nat) (x : Int), 0 < w ∧ (satTo w x).2 = true) ∧
    (∃ (base : Nat) (len : Nat) (a : Nat) (step : Int), 0 < len ∧ base + len < 2 ^ 31 ∧ base ≤ a ∧ a < base + len ∧ -(len : Int) ≤ step ∧ step ≤ len) :=
  ⟨
    ⟨32, 1, (fun _ => (0, true)), by decide +kernel, by decide +kernel, by decide +kernel⟩,
    ⟨8, 255, 7, 0, by decide +kernel, by decide +kernel, by decide +kernel, by decide +kernel⟩,
    ⟨32, 5, -6, by decide +kernel, by decide +kernel⟩,
    ⟨8, -128, by decide +kernel, by decide +kernel, by decide +kernel⟩,
    ⟨8, 128, by decide +kernel, by decide +kernel⟩,
    ⟨16, 16, 31, 16, by decide +kernel, by decide +kernel, by decide +kernel, by decide +kernel, by decide +kernel, by decide +kernel⟩⟩

/-- States and operands that meet the hypotheses of RoundingInstructions, clause by clause. -/
theorem witness_RoundingInstructions :
    (∃ (x : Int) (s : Nat), 0 < s) ∧
    (∃ (c : Core) (w rx ry i : Nat) (p : Int), p = roundShift c.rmode (laneInt w (c.read (.d rx)) i * laneInt w (c.read (.d ry)) i) (w - 1) ∧ (satTo w
      p).2 = false) ∧
    (∃ (c : Core) (k : Core) (op : LaneOp) (w : Nat) (rd : Nat) (rx : Nat) (ry : Nat) (sat : Bool) (free : Nat → Nat), ((∀ n, c.read (.d n) = k.read
      (.d n)))) :=
  ⟨
    ⟨-5, 1, by decide +kernel⟩,
    ⟨{ d := [(1, 0x4000), (2, 0xC000)] }, 16, 1, 2, 0, _, rfl, by decide +kernel⟩,
    ⟨({ d := [(1, 5)] }), ({ d := [(1, 5)], pc := 32 }), .add, 32, 0, 1, 1, true, (fun _ => 0), (fun n => rfl)⟩⟩

/-- States and operands that meet the hypotheses of VideoCommands, clause by clause. -/
theorem witness_VideoCommands :
    (∃ (s : State) (t : State) (c : Ctx) (rest : List Cmd) (leg : Nat) (l : Leg) (tr : Track) (job : DecJob) (id : Nat), AtHead s c 0x0A01 rest ∧
      c.len = 4 ∧ c.f 1 22 10 = 0 ∧ c.f 1 0 2 = 0 ∧ leg = c.f 2 0 16 ∧ s.leg leg = some l ∧ s.mayTouch c.issuer (s.legTenant l) = true ∧ l.gen = c.f 2
      16 8 ∧ tget l.tracks (c.f 2 24 3) = some tr ∧ tr.media = 1 ∧ l.cfg.compRecv = true ∧ 8 ≤ tr.codec ∧ tr.codec ≤ 11 ∧ job = { srcLeg := leg, srcGen := c.f 2 16 8, srcTrack := c.f 2 24 3, decS := c.f 2 27 2, decT := c.f 2 29 2, maxW := c.f 3 0 16, maxH := c.f 3 16 16, maxFps := c.f 4 0 7, vjit := c.f 4 8 8, prio := c.f 1 2 2, group := groupArg (c.f 1 16 6), creator := c.issuer, tenant := s.legTenant l, codec := tr.codec }
      ∧ job.prio ≠ 3 ∧ job.decS ≠ 3 ∧ job.decT ≠ 3 ∧ c.bit 2 31 = false ∧ 16 ≤ job.maxW ∧ job.maxW ≤ 7680 ∧ 16 ≤ job.maxH ∧ job.maxH ≤ 4320 ∧ 1 ≤
      job.maxFps ∧ job.maxFps ≤ 60 ∧ c.bit 4 7 = false ∧ job.vjit ≤ 200 ∧ c.f 4 16 16 = 0 ∧ (overLevel s (c.f 1 16 6) tr.codec job.maxW job.maxH).1 =
      false ∧ (badGroup s (c.f 1 16 6)).1 = false ∧ firstFree s.decJobs 0 3072 = some id ∧ s.videoBytes + decJobBytes tr.codec job.maxW job.maxH ≤
      s.regionSize 2 ∧ State.reflow { s.popped c rest with decJobs := tset s.decJobs id job } noSoft = .ok t) ∧
    (∃ (s : State) (c : Ctx) (rest : List Cmd) (id : Nat) (j : DecJob), AtHead s c 0x0A01 rest ∧ c.f 1 22 10 = 0 ∧ id = c.f 1 4 12 ∧ tget s.decJobs id
      = some j ∧ c.f 1 0 2 = 1 ∧ c.len = 2 ∧ s.mayTouch c.issuer j.tenant = true ∧ c.f 1 2 2 ≠ 3 ∧ c.f 2 27 2 ≠ 3 ∧ c.f 2 29 2 ≠ 3 ∧ c.f 2 0 8 = 0 ∧
      c.f 2 16 11 = 0 ∧ c.bit 2 31 = false ∧ c.f 2 8 8 ≤ 200) ∧
    (∃ (s : State) (c : Ctx) (rest : List Cmd) (id : Nat) (j : DecJob), AtHead s c 0x0A01 rest ∧ c.f 1 22 10 = 0 ∧ id = c.f 1 4 12 ∧ tget s.decJobs id
      = some j ∧ c.f 1 0 2 = 2 ∧ c.len = 1 ∧ s.mayTouch c.issuer j.tenant = true ∧ s.producerUsed 1 id = false) ∧
    (∃ (s : State) (c : Ctx) (rest : List Cmd) (id : Nat) (j : DecJob), AtHead s c 0x0A01 rest ∧ c.f 1 22 10 = 0 ∧ id = c.f 1 4 12 ∧ tget s.decJobs id
      = some j ∧ c.f 1 0 2 = 2 ∧ c.len = 1 ∧ s.mayTouch c.issuer j.tenant = true ∧ s.producerUsed 1 id = true) ∧
    (∃ (s : State) (c : Ctx) (rest : List Cmd) (id : Nat) (j : DecJob), AtHead s c 0x0A01 rest ∧ c.f 1 22 10 = 0 ∧ id = c.f 1 4 12 ∧ tget s.decJobs id
      = some j ∧ c.f 1 0 2 = 3 ∧ c.len = 1 ∧ s.mayTouch c.issuer j.tenant = true) ∧
    (∃ (s : State) (t : State) (c : Ctx) (rest : List Cmd) (buf : BufRead) (e : EncCfg) (form : Option (Nat × Nat × Nat)) (tenant : Nat) (id : Nat)
      (job : EncJob), AtHead s c 0x0A02 rest ∧ c.f 1 0 3 = 0 ∧ c.f 1 22 10 = 0 ∧ (c.len = (if c.bit 2 24 then 10 else 7)) ∧ e = encCfgOf c ∧ form =
      s.sourceForm e.srcKind e.src ∧ s.sourceTenant e.srcKind e.src = some tenant ∧ s.mayTouch c.issuer tenant = true ∧ c.f 1 3 2 ≠ 3 ∧ 8 ≤ e.codec ∧
      e.codec ≤ 11 ∧ ((e.profile = 1 → e.codec = 8)) ∧ e.mode ≤ 5 ∧ ((e.mode = 2 ∨ e.mode = 3 → e.codec = 11)) ∧ c.f 2 25 7 = 0 ∧ c.f 2 13 3 = 0 ∧
      fpsOk form e.fps = true ∧ e.outW % 2 = 0 ∧ e.outH % 2 = 0 ∧ 64 ≤ e.outW ∧ e.outW ≤ 7680 ∧ 64 ≤ e.outH ∧ e.outH ≤ 4320 ∧ scaleOk form e.outW
      e.outH = true ∧ 1 ≤ e.fps ∧ e.fps ≤ 60 ∧ c.f 4 12 4 = 0 ∧ keyIvOk e.keyIv = true ∧ c.f 5 26 6 = 0 ∧ c.f 6 24 8 = 0 ∧ 256 ≤ e.pktMax ∧ e.pktMax ≤
      8960 ∧ c.f 7 14 18 = 0 ∧ ((c.bit 2 24 = true → (∀ x ∈ descChecks c 8 true, x.1 = false) ∧ 1048576 ≤ descLen c 8 ∧ buf ≠ .unreachable ∧ buf ≠
      .memError)) ∧ (overLevel s (c.f 1 16 6) e.codec e.outW e.outH).1 = false ∧ (badGroup s (c.f 1 16 6)).1 = false ∧ firstFree s.encJobs 0 1536 =
      some id ∧ (job = { cfg := e, prio := c.f 1 3 2, group := groupArg (c.f 1 16 6), creator := c.issuer, tenant := tenant, ring := if c.bit 2 24 then some { size := descLen c 8 } else none, encs := List.replicate (modeEncs e.mode) {} })
      ∧ State.reflow { ((s.popped c rest).draw 253).2 with encJobs := tset s.encJobs id job, jobTracks := tset s.jobTracks id ((s.popped c rest).jobTrack e).1 }
      noSoft = .ok t) ∧
    (∃ (s : State) (c : Ctx) (rest : List Cmd) (buf : BufRead) (id : Nat) (j : EncJob), AtHead s c 0x0A02 rest ∧ c.f 1 22 10 = 0 ∧ id = c.f 1 5 11 ∧
      tget s.encJobs id = some j ∧ s.mayTouch c.issuer j.tenant = true ∧ c.f 1 0 3 = 1 ∧ c.len = 4 ∧ c.f 1 3 2 ≠ 3 ∧ c.f 2 12 4 = 0 ∧ keyIvOk (c.f 2
      16 16) = true ∧ c.f 3 26 6 = 0 ∧ c.f 4 24 8 = 0 ∧ ((c.f 1 3 2 = 0 → s.legs.any (fun x => x.2.attachedTo id) = false))) ∧
    (∃ (s : State) (c : Ctx) (rest : List Cmd) (buf : BufRead) (id : Nat) (j : EncJob), AtHead s c 0x0A02 rest ∧ c.f 1 22 10 = 0 ∧ id = c.f 1 5 11 ∧
      tget s.encJobs id = some j ∧ s.mayTouch c.issuer j.tenant = true ∧ c.f 1 0 3 = 2 ∧ c.len = 1) ∧
    (∃ (s : State) (c : Ctx) (rest : List Cmd) (buf : BufRead) (id : Nat) (j : EncJob), AtHead s c 0x0A02 rest ∧ c.f 1 22 10 = 0 ∧ id = c.f 1 5 11 ∧
      tget s.encJobs id = some j ∧ s.mayTouch c.issuer j.tenant = true ∧ c.f 1 0 3 = 3 ∧ c.len = 1) ∧
    (∃ (s : State) (c : Ctx) (rest : List Cmd) (buf : BufRead) (id : Nat) (j : EncJob) (leg : Nat) (k : Nat) (sel : Nat) (l : Leg) (x : SubSet) (t :
      State), AtHead s c 0x0A02 rest ∧ c.f 1 22 10 = 0 ∧ id = c.f 1 5 11 ∧ tget s.encJobs id = some j ∧ s.mayTouch c.issuer j.tenant = true ∧ c.f 1 0
      3 = 4 ∧ c.len = 5 ∧ leg = c.f 2 0 16 ∧ k = c.f 2 24 6 ∧ sel = c.f 5 24 2 ∧ s.leg leg = some l ∧ s.mayTouch c.issuer (s.legTenant l) = true ∧
      l.gen = c.f 2 16 8 ∧ x = ⟨(c.w 3).toNat, (c.w 4).toNat, c.f 5 0 7, c.f 5 8 7, c.f 5 16 8⟩ ∧ c.f 5 26 6 = 0 ∧ c.bit 5 7 = false ∧ c.bit 5 15 =
      false ∧ ((sel = 3 ∨ sel < j.encs.length)) ∧ l.cfg.compSend = true ∧ j.prio ≠ 0 ∧ ((l.slots.any fun v => v.1 ≠ k && v.2.outSsrc == x.ssrc) =
      false) ∧ l.keys.rekey = false ∧ tget l.slots k = none ∧ s.subscriptions < 1048576 ∧ State.reflow ((s.popped c rest).newSlot leg k (.job id) 1 x
      sel) (softFor leg) = .ok t) ∧
    (∃ (s : State) (c : Ctx) (rest : List Cmd) (buf : BufRead) (id : Nat) (j : EncJob) (leg : Nat) (k : Nat) (l : Leg) (v : Slot), AtHead s c 0x0A02
      rest ∧ c.f 1 22 10 = 0 ∧ id = c.f 1 5 11 ∧ tget s.encJobs id = some j ∧ s.mayTouch c.issuer j.tenant = true ∧ c.f 1 0 3 = 5 ∧ c.len = 2 ∧ leg =
      c.f 2 0 16 ∧ k = c.f 2 24 6 ∧ s.leg leg = some l ∧ s.mayTouch c.issuer (s.legTenant l) = true ∧ l.gen = c.f 2 16 8 ∧ tget l.slots k = some v ∧
      v.ofJob id = true) ∧
    (∃ (s : State) (t : State) (c : Ctx) (rest : List Cmd) (id : Nat) (j : EncJob) (k : EncJob) (es : List Nat), AtHead s c 0x0A03 rest ∧ c.f 1 13 19
      = 0 ∧ id = c.f 1 0 11 ∧ tget s.encJobs id = some j ∧ s.mayTouch c.issuer j.tenant = true ∧ ((c.f 1 11 2 = 3 ∨ c.f 1 11 2 < j.encs.length)) ∧ (es
      = (if c.f 1 11 2 = 3 then List.range j.encs.length else [c.f 1 11 2])) ∧ (t = es.foldl (fun s e => s.jobKey id e) (s.popped c rest)) ∧ tget
      t.encJobs id = some k) :=
  ⟨
    ⟨(put (sVid [] [] []) 0 0x0A01 [0x3F0000, 0x02010000, 0x01680280, 0xC83C]), (okv _), (cx 0 0x0A01 [0x3F0000, 0x02010000, 0x01680280, 0xC83C]), [],
      _, _, _, _, _, head _ _ _ _ (by decide) (by decide +kernel), by decide +kernel, by decide +kernel, by decide +kernel, rfl, rfl, by decide +kernel,
      by decide +kernel, rfl, by decide +kernel, by decide +kernel, by decide +kernel, by decide +kernel, rfl, by decide +kernel, by decide +kernel,
      by decide +kernel, by decide +kernel, by decide +kernel, by decide +kernel, by decide +kernel, by decide +kernel, by decide +kernel, by decide +kernel,
      by decide +kernel, by decide +kernel, by decide +kernel, by decide +kernel, by decide +kernel, rfl, by decide +kernel, okGet (by decide +kernel)⟩,
    ⟨(put (sVid [(0, dj0 [])] [] []) 0 0x0A01 [5, 0xC800]), (cx 0 0x0A01 [5, 0xC800]), [], _, _, head _ _ _ _ (by decide) (by decide +kernel), by
      decide +kernel, rfl, rfl, by decide +kernel, by decide +kernel, by decide +kernel, by decide +kernel, by decide +kernel, by decide +kernel, by
      decide +kernel, by decide +kernel, by decide +kernel, by decide +kernel⟩,
    ⟨(put (sVid [(0, dj0 [])] [] []) 0 0x0A01 [2]), (cx 0 0x0A01 [2]), [], _, _, head _ _ _ _ (by decide) (by decide +kernel), by decide +kernel, rfl,
      rfl, by decide +kernel, by decide +kernel, by decide +kernel, by decide +kernel⟩,
    ⟨(put (sVid [(0, dj1)] [(0, ej1 {})] []) 0 0x0A01 [2]), (cx 0 0x0A01 [2]), [], _, _, head _ _ _ _ (by decide) (by decide +kernel), by decide +kernel,
      rfl, rfl, by decide +kernel, by decide +kernel, by decide +kernel, by decide +kernel⟩,
    ⟨(put (sVid [(0, dj0 [])] [] []) 0 0x0A01 [3]), (cx 0 0x0A01 [3]), [], _, _, head _ _ _ _ (by decide) (by decide +kernel), by decide +kernel, rfl,
      rfl, by decide +kernel, by decide +kernel, by decide +kernel⟩,
    ⟨(put (sVid [] [] [(0, cv0 1)]) 0 0x0A02 [0x3F0010, 0x00080000, 0x00F00140, 0x1E, 0, 0, 1200]), (okv _), (cx 0 0x0A02 [0x3F0010, 0x00080000,
      0x00F00140, 0x1E, 0, 0, 1200]), [], (.bytes []), _, _, _, _, _, head _ _ _ _ (by decide) (by decide +kernel), by decide +kernel, by decide +kernel,
      by decide +kernel, rfl, rfl, rfl, by decide +kernel, by decide +kernel, by decide +kernel, by decide +kernel, by decide +kernel, by decide +kernel,
      by decide +kernel, by decide +kernel, by decide +kernel, by decide +kernel, by decide +kernel, by decide +kernel, by decide +kernel, by decide +kernel,
      by decide +kernel, by decide +kernel, by decide +kernel, by decide +kernel, by decide +kernel, by decide +kernel, by decide +kernel, by decide +kernel,
      by decide +kernel, by decide +kernel, by decide +kernel, by decide +kernel, by decide +kernel, by decide +kernel, by decide +kernel, rfl, rfl,
      okGet (by decide +kernel)⟩,
    ⟨(put (sVid [] [(0, ej1 {})] []) 0 0x0A02 [9, 0, 0, 0]), (cx 0 0x0A02 [9, 0, 0, 0]), [], (.bytes []), _, _, head _ _ _ _ (by decide) (by decide +kernel),
      by decide +kernel, rfl, rfl, by decide +kernel, by decide +kernel, by decide +kernel, by decide +kernel, by decide +kernel, by decide +kernel,
      by decide +kernel, by decide +kernel, (fun h => by decide +kernel)⟩,
    ⟨(put (sVid [] [(0, ej1 {})] []) 0 0x0A02 [2]), (cx 0 0x0A02 [2]), [], (.bytes []), _, _, head _ _ _ _ (by decide) (by decide +kernel), by decide +kernel,
      rfl, rfl, by decide +kernel, by decide +kernel, by decide +kernel⟩,
    ⟨(put (sVid [] [(0, ej1 {})] []) 0 0x0A02 [3]), (cx 0 0x0A02 [3]), [], (.bytes []), _, _, head _ _ _ _ (by decide) (by decide +kernel), by decide +kernel,
      rfl, rfl, by decide +kernel, by decide +kernel, by decide +kernel⟩,
    ⟨(put (sVid [] [(0, ej1 {})] []) 0 0x0A02 [4, 0x3F010000, 9, 10, 0x03056160]), (cx 0 0x0A02 [4, 0x3F010000, 9, 10, 0x03056160]), [], (.bytes []),
      _, _, _, _, _, _, _, (okv _), head _ _ _ _ (by decide) (by decide +kernel), by decide +kernel, rfl, rfl, by decide +kernel, by decide +kernel,
      by decide +kernel, rfl, rfl, rfl, rfl, by decide +kernel, by decide +kernel, rfl, by decide +kernel, by decide +kernel, by decide +kernel, by
      decide +kernel, by decide +kernel, by decide +kernel, by decide +kernel, by decide +kernel, by decide +kernel, by decide +kernel, okGet (by
      decide +kernel)⟩,
    ⟨(put ({ sVid [] [(0, ej1 {})] [] with legs := [(0, { legV with slots := [(63, { slot0 2 with src := .job 0 })] })] }) 0 0x0A02 [5, 0x3F010000]),
      (cx 0 0x0A02 [5, 0x3F010000]), [], (.bytes []), _, _, _, _, _, _, head _ _ _ _ (by decide) (by decide +kernel), by decide +kernel, rfl, rfl, by
      decide +kernel, by decide +kernel, by decide +kernel, rfl, rfl, rfl, by decide +kernel, by decide +kernel, rfl, by decide +kernel⟩,
    ⟨(put (sVid [] [(0, ej1 {})] []) 0 0x0A03 [0x1800]), _, (cx 0 0x0A03 [0x1800]), [], _, _, _, _, head _ _ _ _ (by decide) (by decide +kernel), by
      decide +kernel, rfl, rfl, by decide +kernel, by decide +kernel, rfl, rfl, rfl⟩⟩

/-- States and operands that meet the hypotheses of VideoFrames, clause by clause. -/
theorem witness_VideoFrames :
    (∃ (s : State) (job : Nat) (c : Nat) (j : DecJob) (isRef : Bool) (f : DecFrame) (later : List DecFrame), job < 3072 ∧ tget s.decJobs job = some j
      ∧ s.engineOf (.decode job) = some c ∧ (j.frames.dropWhile (fun f => f.submitted) = f :: later) ∧ j.due f later s.time.m = true) ∧
    (∃ (s : State) (job : Nat) (c : Nat) (j : DecJob) (isRef : Bool) (f : DecFrame) (later : List DecFrame), job < 3072 ∧ tget s.decJobs job = some j
      ∧ s.engineOf (.decode job) = some c ∧ (j.frames.dropWhile (fun f => f.submitted) = f :: later) ∧ j.due f later s.time.m = false) ∧
    (∃ (s : State) (job : Nat) (c : Nat) (j : DecJob) (pic : DecodedPic) (ts : Nat) (f : DecFrame) (u : State), job < 3072 ∧ tget s.decJobs job = some
      j ∧ s.engineOf (.decode job) = some c ∧ (s.engine c).decRun = some (job, ts) ∧ ((j.frames.find? fun f => f.ts == ts) = some f) ∧ ((j.limit
      (s.placeSize c == 4) pic = none ∧ u = s.decDone job j f (s.placeSize c) pic ∨ (∃ cause, j.limit (s.placeSize c == 4) pic = some cause ∧ u =
      s.decRefused job f pic cause)))) ∧
    (∃ (s : State) (u : State) (job : Nat) (enc : Nat) (header : Nat) (c : Nat) (j0 : EncJob) (j : EncJob) (e : Encoding) (pic : Nat × (Nat × Nat) ×
      Bool) (key : Bool) (base : Bool) (t : Nat) (b : Option Nat) (v : _), job < 1536 ∧ enc < 3 ∧ tget s.encJobs job = some j0 ∧ u = s.transcodeReady
      job enc j0 ∧ tget u.encJobs job = some j ∧ u.engineOf (.encode job) = some c ∧ j.encs[enc]? = some e ∧ u.picture j.cfg e.ready = some pic ∧
      e.ready ≠ none ∧ e.running = false ∧ j.degrade ≠ 2 ∧ key = (e.keyDue j.cfg.keyIv u.time.m || e.resized pic.2.1 j.cfg enc) ∧ (t = (if key then 0
      else layerAt j.cfg.mode e.sinceKey)) ∧ capSkips u.power.applied j.prio j.cfg.mode enc t e.capAlt = false ∧ degradeSkips j.degrade enc t = false
      ∧ base = (j.degrade == 1 || (j.prio == 1 && u.power.applied.contains 3)) ∧ b = frameBudget (u.rateOf job j.cfg) j.cfg.frameCap (e.drained
      (u.rateOf job j.cfg) u.time.m) ∧ b = some v ∧ v < header + ((rowCosts j.cfg.codec key (j.cfg.layers enc pic.2.1 base)).map (·.sum)).sum) ∧
    (∃ (s : State) (u : State) (job : Nat) (enc : Nat) (header : Nat) (c : Nat) (j0 : EncJob) (j : EncJob) (e : Encoding) (pic : Nat × (Nat × Nat) ×
      Bool) (key : Bool) (base : Bool) (t : Nat) (b : Option Nat) (r : _) (i : _), job < 1536 ∧ enc < 3 ∧ tget s.encJobs job = some j0 ∧ u =
      s.transcodeReady job enc j0 ∧ tget u.encJobs job = some j ∧ u.engineOf (.encode job) = some c ∧ j.encs[enc]? = some e ∧ u.picture j.cfg e.ready
      = some pic ∧ e.ready ≠ none ∧ e.running = false ∧ j.degrade ≠ 2 ∧ key = (e.keyDue j.cfg.keyIv u.time.m || e.resized pic.2.1 j.cfg enc) ∧ (t =
      (if key then 0 else layerAt j.cfg.mode e.sinceKey)) ∧ capSkips u.power.applied j.prio j.cfg.mode enc t e.capAlt = false ∧ degradeSkips j.degrade
      enc t = false ∧ base = (j.degrade == 1 || (j.prio == 1 && u.power.applied.contains 3)) ∧ b = frameBudget (u.rateOf job j.cfg) j.cfg.frameCap
      (e.drained (u.rateOf job j.cfg) u.time.m) ∧ ((∀ v, b = some v → header + ((rowCosts j.cfg.codec key (j.cfg.layers enc pic.2.1 base)).map
      (·.sum)).sum ≤ v)) ∧ (u.engine c).encBest = some r ∧ r.is job enc = true ∧ (u.engine c).pipeFor j.prio = some i) ∧
    (∃ (s : State) (job : Nat) (enc : Nat) (recRd : Nat) (c : Nat) (i : Nat) (rows : List Nat) (j : EncJob) (e : Encoding), job < 1536 ∧ enc < 3 ∧
      tget s.encJobs job = some j ∧ s.engineOf (.encode job) = some c ∧ j.encs[enc]? = some e ∧ (((s.engine c).pipes.findIdx? fun p => p.any fun r =>
      r.is job enc) = some i) ∧ e.running = true ∧ s.pictureDone j.cfg e.runSrc = true) :=
  ⟨
    ⟨({ sVid [(0, dj0 [df0 (some 4)])] [] [] with time := { r0.time with m := 5 }, engines := [(0, { decRun := some (0, 9) })] }), 0, _, _, true, _,
      _, by decide +kernel, rfl, rfl, rfl, by decide +kernel⟩,
    ⟨({ sVid [(0, dj0 [df0 (some 5)])] [] [] with time := { r0.time with m := 5 }, engines := [(0, { decRun := some (0, 9) })] }), 0, _, _, true, _,
      _, by decide +kernel, rfl, rfl, rfl, by decide +kernel⟩,
    ⟨({ sVid [(0, dj0 [{ df0 (some 4) with submitted := true, started := true }])] [] [] with time := { r0.time with m := 5 }, engines := [(0, { decRun := some (0, 9) })] }),
      0, _, _, pic0, 9, _, _, by decide +kernel, rfl, rfl, by decide +kernel, rfl, (.inl ⟨by decide +kernel, rfl⟩)⟩,
    ⟨(sEnc { ready := some 0 } {}), _, 0, 0, 100000000, _, _, _, _, _, _, _, _, _, _, by decide +kernel, by decide +kernel, rfl, rfl, rfl, rfl, rfl,
      rfl, by decide +kernel, by decide +kernel, by decide +kernel, rfl, rfl, by decide +kernel, by decide +kernel, rfl, rfl, rfl, by decide +kernel⟩,
    ⟨(sEnc { ready := some 0 } { waiting := [⟨0, 0, 1, 0⟩] }), _, 0, 0, 10, _, _, _, _, _, _, _, _, _, _, _, by decide +kernel, by decide +kernel,
      rfl, rfl, rfl, rfl, rfl, rfl, by decide +kernel, by decide +kernel, by decide +kernel, rfl, rfl, by decide +kernel, by decide +kernel, rfl, rfl,
      (fun v h => by injection h; subst_vars; decide +kernel), rfl, by decide +kernel, rfl⟩,
    ⟨(sEnc { running := true, runSrc := 1 } { pipes := [none, some ⟨0, 0, 1, 0⟩] }), 0, 0, 64, _, _, [], _, _, by decide +kernel, by decide +kernel,
      rfl, rfl, rfl, rfl, by decide +kernel, by decide +kernel⟩⟩

/-- States and operands that meet the hypotheses of LayoutCommands, clause by clause. -/
theorem witness_LayoutCommands :
    (∃ (s : State) (t : State) (c : Ctx) (rest : List Cmd) (buf : BufRead) (fresh : Canvas) (cv : Canvas) (q : Nat) (id : Nat), AtHead s c 0x0B01 rest
      ∧ c.f 1 0 3 = 0 ∧ c.len = 5 ∧ (fresh = { composer := 0, tenant := if isPF c.issuer then c.f 5 0 12 else (s.tenantOf c.issuer).getD 0, creator := c.issuer, w := c.f 2 0 16, h := c.f 2 16 16, fps := c.f 3 0 6, lowDelay := c.bit 3 6, nsurf := if c.f 3 7 4 = 0 then 4 else c.f 3 7 4, switchMax := if c.f 3 16 16 = 0 then 1000 else c.f 3 16 16, bgY := c.f 4 0 8, bgCb := c.f 4 8 8, bgCr := c.f 4 16 8 })
      ∧ ((c.f 1 16 3 < 4 ∧ q = c.f 1 16 3 ∨ c.f 1 16 3 = 7 ∧ (s.popped c rest).chooseComposer 192 fresh none = some q)) ∧ cv = { fresh with composer := q }
      ∧ c.f 1 3 5 = 0 ∧ c.f 1 19 13 = 0 ∧ cv.w % 2 = 0 ∧ cv.h % 2 = 0 ∧ 64 ≤ cv.w ∧ cv.w ≤ 3840 ∧ 64 ≤ cv.h ∧ cv.h ≤ 2160 ∧ 1 ≤ cv.fps ∧ cv.fps ≤ 60 ∧
      c.f 3 11 5 = 0 ∧ 3 ≤ cv.nsurf ∧ cv.nsurf ≤ 8 ∧ 100 ≤ cv.switchMax ∧ cv.switchMax ≤ 10000 ∧ c.f 4 24 8 = 0 ∧ c.f 5 12 20 = 0 ∧ ((∀ x ∈
      composerFull { s.popped c rest with canvases := tset s.canvases 192 cv } q, x.1 = false)) ∧ (canvasRegionFull { s.popped c rest with canvases := tset s.canvases 192 cv }).1
      = false ∧ (s.popped c rest).canvasId q = some id ∧ State.reflow { s.popped c rest with canvases := tset s.canvases id cv } noSoft = .ok t) ∧
    (∃ (s : State) (c : Ctx) (rest : List Cmd) (buf : BufRead) (id : Nat) (v : Canvas), AtHead s c 0x0B01 rest ∧ id = c.f 1 8 8 ∧ tget s.canvases id =
      some v ∧ c.f 1 3 5 = 0 ∧ c.f 1 19 13 = 0 ∧ s.mayTouch c.issuer v.tenant = true ∧ c.f 1 0 3 = 1 ∧ c.len = 3 ∧ c.f 2 11 5 = 0 ∧ ((c.f 2 16 16 = 0
      ∨ 100 ≤ c.f 2 16 16 ∧ c.f 2 16 16 ≤ 10000)) ∧ c.f 3 24 8 = 0) ∧
    (∃ (s : State) (c : Ctx) (rest : List Cmd) (buf : BufRead) (id : Nat) (v : Canvas), AtHead s c 0x0B01 rest ∧ id = c.f 1 8 8 ∧ tget s.canvases id =
      some v ∧ c.f 1 3 5 = 0 ∧ c.f 1 19 13 = 0 ∧ s.mayTouch c.issuer v.tenant = true ∧ c.f 1 0 3 = 2 ∧ c.len = 1 ∧ s.producerUsed 2 id = false ∧ ((∀ e
      ∈ s.encJobs, e.2.cfg.srcKind = 0 → e.2.cfg.src ≠ id))) ∧
    (∃ (s : State) (c : Ctx) (rest : List Cmd) (buf : BufRead) (id : Nat) (v : Canvas), AtHead s c 0x0B01 rest ∧ id = c.f 1 8 8 ∧ tget s.canvases id =
      some v ∧ c.f 1 3 5 = 0 ∧ c.f 1 19 13 = 0 ∧ s.mayTouch c.issuer v.tenant = true ∧ c.f 1 0 3 = 2 ∧ c.len = 1 ∧ s.producerUsed 2 id = true) ∧
    (∃ (s : State) (c : Ctx) (rest : List Cmd) (buf : BufRead) (id : Nat) (v : Canvas), AtHead s c 0x0B01 rest ∧ id = c.f 1 8 8 ∧ tget s.canvases id =
      some v ∧ c.f 1 3 5 = 0 ∧ c.f 1 19 13 = 0 ∧ s.mayTouch c.issuer v.tenant = true ∧ c.f 1 0 3 = 3 ∧ c.len = 1) ∧
    (∃ (s : State) (c : Ctx) (rest : List Cmd) (buf : BufRead) (tenant : Nat) (x : Surface), AtHead s c 0x0B01 rest ∧ c.f 1 0 3 = 4 ∧ c.len = 5 ∧
      s.sourceTenant (c.f 2 12 1) (c.f 2 0 12) = some tenant ∧ s.mayTouch c.issuer tenant = true ∧ s.newest (encSource (c.f 2 12 1) (c.f 2 0 12)) =
      some x ∧ ((∀ y ∈ descChecks c 3 true, y.1 = false)) ∧ nbcSize x.w x.h x.depth ≤ descLen c 3 ∧ buf ≠ .unreachable ∧ buf ≠ .memError) ∧
    (∃ (s : State) (c : Ctx) (rest : List Cmd) (buf : BufRead) (id : Nat) (n : Nat) (v : Canvas) (kind : Nat) (tenant : Nat) (src : LaySrc) (g :
      LayGeo) (image : Option Surface) (l : Layer) (u : State) (t : State), AtHead s c 0x0B02 rest ∧ id = c.f 1 0 8 ∧ n = c.f 1 8 6 ∧ tget s.canvases
      id = some v ∧ s.mayTouch c.issuer v.tenant = true ∧ c.f 1 14 2 = 0 ∧ kind = c.f 2 0 3 ∧ kind ≤ 3 ∧ (c.len = (if kind = 3 then 10 else 7)) ∧ (src
      = ⟨kind, if kind = 1 ∨ kind = 2 then c.f 2 16 12 else 0⟩) ∧ g = layGeoOf c ∧ ((kind = 1 → ∃ j, tget s.decJobs src.src = some j ∧ j.tenant =
      tenant)) ∧ ((kind = 2 → ∃ w, tget s.canvases src.src = some w ∧ w.tenant = tenant)) ∧ tenant = v.tenant ∧ ((kind = 3 → g.sw ≠ 0 ∧ g.sh ≠ 0)) ∧
      c.f 2 5 3 = 0 ∧ c.f 2 28 4 = 0 ∧ ((∀ k ∈ [3, 4, 5, 6], c.f k 0 1 = 0 ∧ c.f k 16 1 = 0)) ∧ c.f 7 24 8 = 0 ∧ ((kind ≠ 0 → (g.sw = 0 ∨ ratioOk g.dw
      g.sw = true) ∧ (g.sh = 0 ∨ ratioOk g.dh g.sh = true))) ∧ ((kind = 3 → (∀ y ∈ descChecks c 8 false, y.1 = false) ∧ descLen c 8 = stillLen g ∧ buf
      ≠ .unreachable ∧ buf ≠ .memError)) ∧ src ≠ ⟨2, id⟩ ∧ (image = (if kind = 3 then some (stillOf g (bufBytes buf (stillLen g)) s.tick) else none))
      ∧ l = layerSet (tget v.layers n) src g image s.time.m ∧ u = { s.popped c rest with canvases := tset s.canvases id { v with layers := tset v.layers n l } }
      ∧ ((∀ y ∈ composerFull u v.composer, y.1 = false)) ∧ (canvasRegionFull u).1 = false ∧ (u.holdLayer id n l).reflow noSoft = .ok t) ∧
    (∃ (s : State) (c : Ctx) (rest : List Cmd) (buf : BufRead) (id : Nat) (n : Nat) (v : Canvas), AtHead s c 0x0B02 rest ∧ id = c.f 1 0 8 ∧ n = c.f 1
      8 6 ∧ tget s.canvases id = some v ∧ s.mayTouch c.issuer v.tenant = true ∧ c.f 1 14 2 = 1 ∧ c.len = 1) ∧
    (∃ (s : State) (c : Ctx) (rest : List Cmd) (buf : BufRead) (id : Nat) (n : Nat) (v : Canvas) (l : _), AtHead s c 0x0B02 rest ∧ id = c.f 1 0 8 ∧ n
      = c.f 1 8 6 ∧ tget s.canvases id = some v ∧ s.mayTouch c.issuer v.tenant = true ∧ c.f 1 14 2 = 2 ∧ c.len = 1 ∧ tget v.layers n = some l) ∧
    (∃ (s : State) (c : Ctx) (rest : List Cmd) (id : Nat) (v : Canvas), AtHead s c 0x0B03 rest ∧ id = c.f 1 0 8 ∧ tget s.canvases id = some v ∧
      s.mayTouch c.issuer v.tenant = true ∧ c.len = 1 + c.f 1 9 7 ∧ ((c.f 1 8 1 = 0 ∧ c.f 1 9 7 = 0 ∨ c.f 1 8 1 = 1 ∧ 1 ≤ c.f 1 9 7 ∧ c.f 1 9 7 ≤ 64))
      ∧ orderFault 2 [] (c.args.drop 1) = none) ∧
    (∃ (s : State) (c : Ctx) (rest : List Cmd) (buf : BufRead) (id : Nat) (v : Canvas) (l : List Nat), AtHead s c 0x0B04 rest ∧ id = c.f 1 0 8 ∧ tget
      s.canvases id = some v ∧ s.mayTouch c.issuer v.tenant = true ∧ c.bit 1 9 = true ∧ c.len = 1) ∧
    (∃ (s : State) (c : Ctx) (rest : List Cmd) (buf : BufRead) (id : Nat) (v : Canvas) (l : List Nat), AtHead s c 0x0B04 rest ∧ id = c.f 1 0 8 ∧ tget
      s.canvases id = some v ∧ s.mayTouch c.issuer v.tenant = true ∧ c.bit 1 9 = false ∧ c.len = 4 ∧ ((∀ y ∈ descChecks c 2 false, y.1 = false)) ∧
      descLen c 2 = 2048 ∧ buf ≠ .unreachable ∧ buf ≠ .memError ∧ l = lutWords 1024 (bufBytes buf 2048) ∧ ((∀ x ∈ l, x < 4096))) :=
  ⟨
    ⟨(put (sWhole) 0 0x0B01 [0x70000, 0x08700F00, 0x03E8019E, 0x808010, 0]), (okv _), (cx 0 0x0B01 [0x70000, 0x08700F00, 0x03E8019E, 0x808010, 0]),
      [], (.bytes []), _, _, 0, _, head _ _ _ _ (by decide) (by decide +kernel), by decide +kernel, by decide +kernel, rfl, (.inr ⟨by decide +kernel,
      by decide +kernel⟩), rfl, by decide +kernel, by decide +kernel, by decide +kernel, by decide +kernel, by decide +kernel, by decide +kernel, by
      decide +kernel, by decide +kernel, by decide +kernel, by decide +kernel, by decide +kernel, by decide +kernel, by decide +kernel, by decide +kernel,
      by decide +kernel, by decide +kernel, by decide +kernel, by decide +kernel, by decide +kernel, rfl, okGet (by decide +kernel)⟩,
    ⟨(put (sCv (cv0 0) 5) 0 0x0B01 [1, 0x640000, 0]), (cx 0 0x0B01 [1, 0x640000, 0]), [], (.bytes []), _, _, head _ _ _ _ (by decide) (by decide +kernel),
      rfl, rfl, by decide +kernel, by decide +kernel, by decide +kernel, by decide +kernel, by decide +kernel, by decide +kernel, by decide +kernel,
      by decide +kernel⟩,
    ⟨(put (sCv (cv0 0) 5) 0 0x0B01 [2]), (cx 0 0x0B01 [2]), [], (.bytes []), _, _, head _ _ _ _ (by decide) (by decide +kernel), rfl, rfl, by decide +kernel,
      by decide +kernel, by decide +kernel, by decide +kernel, by decide +kernel, by decide +kernel, (fun e h => nomatch h)⟩,
    ⟨(put (sVid [] [(0, { ej1 {} with cfg := { (ej1 {}).cfg with srcKind := 0 } })] [(0, cv0 0)]) 0 0x0B01 [2]), (cx 0 0x0B01 [2]), [], (.bytes []),
      _, _, head _ _ _ _ (by decide) (by decide +kernel), rfl, rfl, by decide +kernel, by decide +kernel, by decide +kernel, by decide +kernel, by
      decide +kernel, by decide +kernel⟩,
    ⟨(put (sCv (cv0 0) 5) 0 0x0B01 [3]), (cx 0 0x0B01 [3]), [], (.bytes []), _, _, head _ _ _ _ (by decide) (by decide +kernel), rfl, rfl, by decide +kernel,
      by decide +kernel, by decide +kernel, by decide +kernel, by decide +kernel⟩,
    ⟨(put (sCv (cv0 0) 5) 0 0x0B01 [4, 0x1000, 0, 0, 0x2000200]), (cx 0 0x0B01 [4, 0x1000, 0, 0, 0x2000200]), [], (.bytes []), _, _, head _ _ _ _ (by
      decide) (by decide +kernel), by decide +kernel, by decide +kernel, rfl, by decide +kernel, rfl, by decide +kernel, by decide +kernel, by decide +kernel,
      by decide +kernel⟩,
    ⟨(put (sCv (cv0 0) 5) 0 0x0B02 [0x3F00, 0xFF01, 0, 0, 0, 0x400040, 0]), (cx 0 0x0B02 [0x3F00, 0xFF01, 0, 0, 0, 0x400040, 0]), [], (.bytes []), _,
      _, _, _, 0, _, _, _, _, _, (okv _), head _ _ _ _ (by decide) (by decide +kernel), rfl, rfl, rfl, by decide +kernel, by decide +kernel, rfl, by
      decide +kernel, by decide +kernel, rfl, rfl, (fun _ => ⟨_, rfl, rfl⟩), (fun h => absurd h (by decide +kernel)), by decide +kernel, by decide +kernel,
      by decide +kernel, by decide +kernel, by decide +kernel, by decide +kernel, by decide +kernel, by decide +kernel, by decide +kernel, rfl, rfl,
      rfl, by decide +kernel, by decide +kernel, okGet (by decide +kernel)⟩,
    ⟨(put (sCv (cvL { src := ⟨1, 0⟩, geo := geo0 }) 5) 0 0x0B02 [0x7F00]), (cx 0 0x0B02 [0x7F00]), [], (.bytes []), _, _, _, head _ _ _ _ (by decide)
      (by decide +kernel), rfl, rfl, rfl, by decide +kernel, by decide +kernel, by decide +kernel⟩,
    ⟨(put (sCv (cvL { src := ⟨1, 0⟩, geo := geo0 }) 5) 0 0x0B02 [0xBF00]), (cx 0 0x0B02 [0xBF00]), [], (.bytes []), _, _, _, _, head _ _ _ _ (by
      decide) (by decide +kernel), rfl, rfl, rfl, by decide +kernel, by decide +kernel, by decide +kernel, rfl⟩,
    ⟨(put (sCv (cv0 0) 5) 0 0x0B03 [0x500, 63, 0]), (cx 0 0x0B03 [0x500, 63, 0]), [], _, _, head _ _ _ _ (by decide) (by decide +kernel), rfl, rfl, by
      decide +kernel, by decide +kernel, by decide +kernel, by decide +kernel⟩,
    ⟨(put (sCv (cv0 0) 5) 0 0x0B04 [0x200]), (cx 0 0x0B04 [0x200]), [], (.bytes []), _, _, [], head _ _ _ _ (by decide) (by decide +kernel), rfl, rfl,
      by decide +kernel, by decide +kernel, by decide +kernel⟩,
    ⟨(put (sCv (cv0 0) 5) 0 0x0B04 [0, 0, 0, 0x800]), (cx 0 0x0B04 [0, 0, 0, 0x800]), [], (.bytes []), _, _, _, head _ _ _ _ (by decide) (by decide +kernel),
      rfl, rfl, by decide +kernel, by decide +kernel, by decide +kernel, by decide +kernel, by decide +kernel, by decide +kernel, by decide +kernel,
      rfl, by decide +kernel⟩⟩

/-- States and operands that meet the hypotheses of Composition, clause by clause. -/
theorem witness_Composition :
    (∃ (s : State) (c : Nat) (v : Canvas), c < 192 ∧ tget s.canvases c = some v ∧ s.frameDue c v = false) ∧
    (∃ (s : State) (c : Nat) (v : Canvas), c < 192 ∧ tget s.canvases c = some v ∧ s.frameDue c v = true ∧ v.run = none ∧ s.prot.composers.getD
      v.composer false = true ∧ surfFree v.surfaces v.nsurf = true) ∧
    (∃ (s : State) (c : Nat) (v : Canvas), c < 192 ∧ tget s.canvases c = some v ∧ s.frameDue c v = true ∧ v.run = none ∧ ((s.prot.composers.getD
      v.composer false = false ∨ surfFree v.surfaces v.nsurf = false))) ∧
    (∃ (s : State) (c : Nat) (v : Canvas), c < 192 ∧ tget s.canvases c = some v ∧ s.frameDue c v = true ∧ v.run ≠ none) ∧
    (∃ (s : State) (c : Nat) (v : Canvas) (layer : Nat) (t : Nat) (l : Layer) (src : LaySrc) (g : LayGeo) (still : Option Surface), c < 192 ∧ tget
      s.canvases c = some v ∧ layer < 64 ∧ tget v.layers layer = some l ∧ l.pend = some (src, g, still, t) ∧ s.sourceReady src = false ∧ t +
      v.switchMax ≤ s.time.m) ∧
    (∃ (s : State) (c : Nat) (v : Canvas) (layer : Nat) (t : Nat) (l : Layer) (src : LaySrc) (g : LayGeo) (still : Option Surface), c < 192 ∧ tget
      s.canvases c = some v ∧ layer < 64 ∧ tget v.layers layer = some l ∧ l.pend = some (src, g, still, t) ∧ (s.sourceReady src = true ∨ s.time.m < t +
      v.switchMax)) ∧
    (∃ (s : State) (cmp : Nat) (id : Nat) (v : Canvas) (r : CanvasRun), cmp < 4 ∧ s.prot.composers.getD cmp false = true ∧ s.nextBand cmp = some (id,
      v, r) ∧ 64 * (r.band + 1) < v.h) ∧
    (∃ (s : State) (cmp : Nat) (id : Nat) (v : Canvas) (r : CanvasRun), cmp < 4 ∧ s.prot.composers.getD cmp false = true ∧ s.nextBand cmp = some (id,
      v, r) ∧ v.h ≤ 64 * (r.band + 1)) :=
  ⟨
    ⟨(sCv { cv0 0 with lastStart := some 5 } 5), 0, _, by decide +kernel, rfl, by decide +kernel⟩,
    ⟨(sCv (cv0 0) 0), 0, _, by decide +kernel, rfl, by decide +kernel, by decide +kernel, by decide +kernel, by decide +kernel⟩,
    ⟨({ sCv (cv0 0) 0 with prot := r0.prot }), 0, _, by decide +kernel, rfl, by decide +kernel, by decide +kernel, by decide +kernel⟩,
    ⟨(sCv { cv0 0 with run := some (run1' 0) } 0), 0, _, by decide +kernel, rfl, by decide +kernel, by decide +kernel⟩,
    ⟨(sCv (cvL { src := ⟨0, 0⟩, geo := geo0, pend := some (⟨1, 1⟩, geo0, none, 5) }) 13), 0, _, 63, _, _, _, _, _, by decide +kernel, rfl, by decide +kernel,
      rfl, rfl, by decide +kernel, by decide +kernel⟩,
    ⟨(sCv (cvL { src := ⟨0, 0⟩, geo := geo0, pend := some (⟨1, 1⟩, geo0, none, 5) }) 12), 0, _, 63, _, _, _, _, _, by decide +kernel, rfl, by decide +kernel,
      rfl, rfl, by decide +kernel⟩,
    ⟨(sCv { cv0 0 with run := some { run1' 0 with band := 2 } } 0), 0, _, _, _, by decide +kernel, by decide +kernel, rfl, by decide +kernel⟩,
    ⟨(sCv { cv0 0 with run := some { run1' 0 with band := 3 } } 0), 0, _, _, _, by decide +kernel, by decide +kernel, rfl, by decide +kernel⟩⟩

/-- States and operands that meet the hypotheses of TilesRoundTrip, clause by clause. -/
theorem witness_TilesRoundTrip :
    (∃ (d : Nat) (t : Tile), (d = 8 ∨ d = 10) ∧ TileOk d t) :=
    ⟨10, (⟨List.replicate 256 1023, List.replicate 64 0, List.replicate 64 512⟩), (.inr rfl), (⟨by decide, by decide, by decide, by decide +kernel⟩)⟩

/-- States and operands that meet the hypotheses of AddressOrders, clause by clause. -/
theorem witness_AddressOrders :
    (∃ (order : Nat) (size : Nat) (o : Nat), order < 4 ∧ o < size * 2 ^ 30) ∧
    (∃ (size : Nat) (o : Nat), o < size * 2 ^ 30) :=
  ⟨
    ⟨3, 4, (4 * 2 ^ 30 - 1), by decide +kernel, by decide +kernel⟩,
    ⟨4, (4 * 2 ^ 30 - 1), by decide +kernel⟩⟩

/-- States and operands that meet the hypotheses of MemoryRequests, clause by clause. -/
theorem witness_MemoryRequests :
    (∃ (s : State) (r : MemReq) (q : MemReq) (g : Region), Memory.wf s.mem = true ∧ s.hbm.regions[r.region]? = some g ∧ g.base + share g.size * (1 +
      b2n g.dup) ≤ localBytes ∧ r.off / 32 * 32 < g.size * 2 ^ 30 ∧ r.write = true ∧ r.data.length = 32 ∧ q.write = false ∧ q.region = r.region ∧
      q.off / 32 = r.off / 32 ∧ q.badSyms = []) ∧
    (∃ (s : State) (r : MemReq) (g : Region), s.hbm.regions[r.region]? = some g ∧ g.size * 2 ^ 30 ≤ r.off / 32 * 32) ∧
    (∃ (s : State) (pc : Nat) (addr : Nat) (p : Nat) (region : Nat) (off : Nat) (bad : List Nat), pc < 128 ∧ p = addr / 32 * 32 % localBytes ∧ region
      = (s.regionAt p).getD 7 ∧ ((∀ g, s.hbm.regions[region]? = some g → off = (if p - g.base < share g.size then unmapAddr g.order g.size pc (p -
      g.base) else unmapAddr g.order g.size (copyPc pc) (p - g.base - share g.size)))) ∧ ((s.hbm.regions[region]? = none → off = 0)) ∧ badCount bad =
      0) ∧
    (∃ (s : State) (pc : Nat) (addr : Nat) (p : Nat) (region : Nat) (off : Nat) (bad : List Nat), pc < 128 ∧ p = addr / 32 * 32 % localBytes ∧ region
      = (s.regionAt p).getD 7 ∧ ((∀ g, s.hbm.regions[region]? = some g → off = (if p - g.base < share g.size then unmapAddr g.order g.size pc (p -
      g.base) else unmapAddr g.order g.size (copyPc pc) (p - g.base - share g.size)))) ∧ ((s.hbm.regions[region]? = none → off = 0)) ∧ badCount bad =
      1) ∧
    (∃ (s : State) (pc : Nat) (addr : Nat) (p : Nat) (region : Nat) (off : Nat) (bad : List Nat), pc < 128 ∧ p = addr / 32 * 32 % localBytes ∧ region
      = (s.regionAt p).getD 7 ∧ ((∀ g, s.hbm.regions[region]? = some g → off = (if p - g.base < share g.size then unmapAddr g.order g.size pc (p -
      g.base) else unmapAddr g.order g.size (copyPc pc) (p - g.base - share g.size)))) ∧ ((s.hbm.regions[region]? = none → off = 0)) ∧ 2 ≤ badCount
      bad) ∧
    (∃ (s : State) (r : MemReq), r.rtPort = none) ∧
    (∃ (s : State) (r : MemReq) (p : _), r.rtPort = some p ∧ r.level < 25 ∧ s.hbm.panics.contains p = false) ∧
    (∃ (s : State) (r : MemReq) (p : _), r.rtPort = some p ∧ r.level < 25 ∧ s.hbm.panics.contains p = true) ∧
    (∃ (s : State) (r : MemReq) (p : _), r.rtPort = some p ∧ 25 ≤ r.level ∧ r.level ≤ 50) ∧
    (∃ (s : State) (r : MemReq) (p : _), r.rtPort = some p ∧ 50 < r.level) :=
  ⟨
    ⟨r0, (⟨none, 0xFF, 0, 4 * 2 ^ 30 - 1, true, List.replicate 32 0xA5#8, [], [], 100⟩), (⟨none, 0xFF, 0, 4 * 2 ^ 30 - 32, false, [], [], [], 100⟩),
      _, by decide +kernel, rfl, by decide +kernel, by decide +kernel, by decide +kernel, by decide +kernel, by decide +kernel, by decide +kernel, by
      decide +kernel, by decide +kernel⟩,
    ⟨r0, (⟨none, 0xFF, 7, 0, true, List.replicate 32 0xA5#8, [], [], 100⟩), _, rfl, by decide +kernel⟩,
    ⟨r0, 127, (localBytes - 1), _, _, _, [], by decide +kernel, rfl, rfl, (fun g h => by injection h with h; subst h; rfl), (fun h => nomatch h), by
      decide +kernel⟩,
    ⟨r0, 127, (localBytes - 1), _, _, _, [7], by decide +kernel, rfl, rfl, (fun g h => by injection h with h; subst h; rfl), (fun h => nomatch h), by
      decide +kernel⟩,
    ⟨r0, 127, (localBytes - 1), _, _, _, ([7, 8]), by decide +kernel, rfl, rfl, (fun g h => by injection h with h; subst h; rfl), (fun h => nomatch
      h), by decide +kernel⟩,
    ⟨r0, (⟨none, 0xFF, 0, 0, false, [], [], [], 0⟩), by decide +kernel⟩,
    ⟨r0, (⟨some 67, 0xFF, 0, 0, false, [], [], [], 24⟩), _, rfl, by decide +kernel, by decide +kernel⟩,
    ⟨({ r0 with hbm := { r0.hbm with panics := [67] } }), (⟨some 67, 0xFF, 0, 0, false, [], [], [], 24⟩), _, rfl, by decide +kernel, by decide +kernel⟩,
    ⟨r0, (⟨some 67, 0xFF, 0, 0, false, [], [], [], 25⟩), _, rfl, by decide +kernel, by decide +kernel⟩,
    ⟨r0, (⟨some 67, 0xFF, 0, 0, false, [], [], [], 51⟩), _, rfl, by decide +kernel⟩⟩

/-- States and operands that meet the hypotheses of MemoryMapsAndTraining, clause by clause. -/
theorem witness_MemoryMapsAndTraining :
    (∃ (s : State) (c : Ctx) (rest : List Cmd) (r : Nat) (order : Nat) (size : Nat) (dup : Bool) (g : Region), AtHead s c 0x0D01 rest ∧ c.f 1 15 1 = 0
      ∧ c.f 1 24 8 = 0 ∧ c.f 1 0 2 = 0 ∧ r = c.f 1 2 3 ∧ order = c.f 1 5 2 ∧ dup = c.bit 1 7 ∧ size = c.f 1 16 8 ∧ s.hbm.regions[r]? = some g ∧ size ≤
      144 ∧ ((r = 0 → order = 3 ∧ dup = true)) ∧ ((dup = true → order = 3)) ∧ (s.findOp 0x0D01 (fun o => o.a == r) = none) ∧ g.order = order ∧ g.dup =
      dup ∧ g.size = size) ∧
    (∃ (s : State) (c : Ctx) (rest : List Cmd) (r : Nat) (order : Nat) (size : Nat) (dup : Bool) (g : Region), AtHead s c 0x0D01 rest ∧ c.f 1 15 1 = 0
      ∧ c.f 1 24 8 = 0 ∧ c.f 1 0 2 = 0 ∧ r = c.f 1 2 3 ∧ order = c.f 1 5 2 ∧ dup = c.bit 1 7 ∧ size = c.f 1 16 8 ∧ s.hbm.regions[r]? = some g ∧ size ≤
      144 ∧ ((r = 0 → order = 3 ∧ dup = true)) ∧ ((dup = true → order = 3)) ∧ (s.findOp 0x0D01 (fun o => o.a == r) = none) ∧ (g.order, g.dup, g.size)
      ≠ (order, dup, size) ∧ s.freeBase (share size * (1 + b2n dup)) = none) ∧
    (∃ (s : State) (c : Ctx) (rest : List Cmd) (r : Nat) (order : Nat) (size : Nat) (dup : Bool) (g : Region) (base : _), AtHead s c 0x0D01 rest ∧ c.f
      1 15 1 = 0 ∧ c.f 1 24 8 = 0 ∧ c.f 1 0 2 = 0 ∧ r = c.f 1 2 3 ∧ order = c.f 1 5 2 ∧ dup = c.bit 1 7 ∧ size = c.f 1 16 8 ∧ s.hbm.regions[r]? = some
      g ∧ size ≤ 144 ∧ ((r = 0 → order = 3 ∧ dup = true)) ∧ ((dup = true → order = 3)) ∧ (s.findOp 0x0D01 (fun o => o.a == r) = none) ∧ (g.order,
      g.dup, g.size) ≠ (order, dup, size) ∧ s.freeBase (share size * (1 + b2n dup)) = some base ∧ ((r = 1 ∨ r = 7 ∨ s.regionUsed r ≤ size * 2 ^ 30)) ∧
      s.outstanding c.issuer < 256) ∧
    (∃ (s : State) (c : Ctx) (rest : List Cmd) (g : _), AtHead s c 0x0D01 rest ∧ c.f 1 15 1 = 0 ∧ c.f 1 24 8 = 0 ∧ c.f 1 0 2 = 1 ∧ s.hbm.regions[c.f 1
      2 3]? = some g) ∧
    (∃ (s : State) (c : Ctx) (rest : List Cmd) (p : _), AtHead s c 0x0D01 rest ∧ c.f 1 15 1 = 0 ∧ c.f 1 24 8 = 0 ∧ c.f 1 0 2 = 2 ∧ p = s.pchan (c.f 1
      8 7)) ∧
    (∃ (s : State) (c : Ctx) (rest : List Cmd), AtHead s c 0x0D01 rest ∧ c.f 1 15 1 = 0 ∧ c.f 1 24 8 = 0 ∧ c.f 1 0 2 = 3) ∧
    (∃ (s : State) (u : State) (region : Nat) (order : Nat) (size : Nat) (base : Nat) (dup : Bool) (g : Region) (k : Region) (o : LongOp), region < 8
      ∧ s.hbm.regions[region]? = some g ∧ g.mig = some (order, dup, size, base) ∧ (s.findOp 0x0D01 (fun o => o.a == region) = some o) ∧ k = { g with order := order, dup := dup, size := size, base := base, mig := none }
      ∧ (u = State.modRegion { s with mem := ((s.regionCells g).filter fun c => c.1 < size * 2 ^ 30).foldl (fun m c => memPut m k c.1 c.2) (memWithout s.mem g) }
      region (fun _ => k)) ∧ region ≠ 1) ∧
    (∃ (s : State) (u : State) (region : Nat) (order : Nat) (size : Nat) (base : Nat) (dup : Bool) (g : Region) (k : Region) (o : LongOp), region < 8
      ∧ s.hbm.regions[region]? = some g ∧ g.mig = some (order, dup, size, base) ∧ (s.findOp 0x0D01 (fun o => o.a == region) = some o) ∧ k = { g with order := order, dup := dup, size := size, base := base, mig := none }
      ∧ (u = State.modRegion { s with mem := ((s.regionCells g).filter fun c => c.1 < size * 2 ^ 30).foldl (fun m c => memPut m k c.1 c.2) (memWithout s.mem g) }
      region (fun _ => k)) ∧ region = 1) ∧
    (∃ (s : State) (pc : Nat) (margin : Nat) (lane : Nat), pc < 128 ∧ lane < 4) ∧
    (∃ (s : State) (pc : Nat) (e : StallEnv) (c : PChan), pc < 128 ∧ c = s.pchan pc ∧ (e.us < 750 ∨ (c.needRetrain = false ∧ c.needVerify = false))) ∧
    (∃ (s : State) (pc : Nat) (e : StallEnv) (c : PChan), pc < 128 ∧ c = s.pchan pc ∧ ((c.needRetrain = true ∨ c.needVerify = true)) ∧ 960 ≤ e.us) ∧
    (∃ (s : State) (pc : Nat) (e : StallEnv) (c : PChan) (u : _), pc < 128 ∧ c = s.pchan pc ∧ 750 ≤ e.us ∧ e.us < 960 ∧ e.panic = false ∧ e.lowBuffer
      = false ∧ e.rfmOutstanding = false ∧ s.stackStalled pc = false ∧ s.stallFirst pc = true ∧ (u = (s.modPchan pc fun c => { c with lastStall := some s.time.m }))
      ∧ c.needRetrain = true) ∧
    (∃ (s : State) (pc : Nat) (e : StallEnv) (c : PChan) (u : _), pc < 128 ∧ c = s.pchan pc ∧ 750 ≤ e.us ∧ e.us < 960 ∧ e.panic = false ∧ e.lowBuffer
      = false ∧ e.rfmOutstanding = false ∧ s.stackStalled pc = false ∧ s.stallFirst pc = true ∧ (u = (s.modPchan pc fun c => { c with lastStall := some s.time.m }))
      ∧ c.needRetrain = false ∧ c.needVerify = true ∧ e.pass = true) ∧
    (∃ (s : State) (pc : Nat) (e : StallEnv) (c : PChan) (u : _), pc < 128 ∧ c = s.pchan pc ∧ 750 ≤ e.us ∧ e.us < 960 ∧ e.panic = false ∧ e.lowBuffer
      = false ∧ e.rfmOutstanding = false ∧ s.stackStalled pc = false ∧ s.stallFirst pc = true ∧ (u = (s.modPchan pc fun c => { c with lastStall := some s.time.m }))
      ∧ c.needRetrain = false ∧ c.needVerify = true ∧ e.pass = false) :=
  ⟨
    ⟨(put (r0) 0 0x0D01 [0x40010]), (cx 0 0x0D01 [0x40010]), [], _, _, _, _, _, head _ _ _ _ (by decide) (by decide +kernel), by decide +kernel, by
      decide +kernel, by decide +kernel, rfl, rfl, rfl, rfl, rfl, by decide +kernel, by decide +kernel, by decide +kernel, by decide +kernel, by
      decide +kernel, by decide +kernel, by decide +kernel⟩,
    ⟨(put (r0) 0 0x0D01 [0x900010]), (cx 0 0x0D01 [0x900010]), [], _, _, _, _, _, head _ _ _ _ (by decide) (by decide +kernel), by decide +kernel, by
      decide +kernel, by decide +kernel, rfl, rfl, rfl, rfl, rfl, by decide +kernel, by decide +kernel, by decide +kernel, by decide +kernel, by
      decide +kernel, by decide +kernel⟩,
    ⟨(put (r0) 0 0x0D01 [0x050010]), (cx 0 0x0D01 [0x050010]), [], _, _, _, _, _, (1088 * 2 ^ 20), head _ _ _ _ (by decide) (by decide +kernel), by
      decide +kernel, by decide +kernel, by decide +kernel, rfl, rfl, rfl, rfl, rfl, by decide +kernel, by decide +kernel, by decide +kernel, by
      decide +kernel, by decide +kernel, by decide +kernel, by decide +kernel, by decide +kernel⟩,
    ⟨(put (r0) 0 0x0D01 [0x1D]), (cx 0 0x0D01 [0x1D]), [], _, head _ _ _ _ (by decide) (by decide +kernel), by decide +kernel, by decide +kernel, by
      decide +kernel, rfl⟩,
    ⟨(put (r0) 0 0x0D01 [0x7F02]), (cx 0 0x0D01 [0x7F02]), [], _, head _ _ _ _ (by decide) (by decide +kernel), by decide +kernel, by decide +kernel,
      by decide +kernel, rfl⟩,
    ⟨(put (r0) 0 0x0D01 [3]), (cx 0 0x0D01 [3]), [], head _ _ _ _ (by decide) (by decide +kernel), by decide +kernel, by decide +kernel, by decide +kernel⟩,
    ⟨(sMem [opMem 4] fun g => { g with mig := some (0, false, 5, 1088 * 2 ^ 20) }), _, 4, _, _, _, _, _, _, _, by decide +kernel, rfl, rfl, rfl, rfl,
      rfl, by decide +kernel⟩,
    ⟨({ r0 with hbm := { r0.hbm with regions := lmod r0.hbm.regions 1 ⟨0, false, 0, 0, 0, none⟩ fun g => { g with mig := some (0, false, 4, 1088 * 2 ^ 20) } }, ctl := { r0.ctl with ops := [opMem 1] } }),
      _, 1, _, _, _, _, _, _, _, by decide +kernel, rfl, rfl, rfl, rfl, rfl, by decide +kernel⟩,
    ⟨r0, 127, 20, 3, by decide +kernel, by decide +kernel⟩,
    ⟨r0, 127, (stall 749 true), _, by decide +kernel, rfl, (.inl (by decide))⟩,
    ⟨(sPc { needRetrain := true }), 0, (stall 960 true), _, by decide +kernel, rfl, by decide +kernel, by decide +kernel⟩,
    ⟨(sPc { needRetrain := true }), 0, (stall 750 true), _, _, by decide +kernel, rfl, by decide +kernel, by decide +kernel, by decide +kernel, by
      decide +kernel, by decide +kernel, by decide +kernel, by decide +kernel, rfl, by decide +kernel⟩,
    ⟨(sPc { needVerify := true }), 0, (stall 959 true), _, _, by decide +kernel, rfl, by decide +kernel, by decide +kernel, by decide +kernel, by
      decide +kernel, by decide +kernel, by decide +kernel, by decide +kernel, rfl, by decide +kernel, by decide +kernel, by decide +kernel⟩,
    ⟨(sPc { needVerify := true }), 0, (stall 959 false), _, _, by decide +kernel, rfl, by decide +kernel, by decide +kernel, by decide +kernel, by
      decide +kernel, by decide +kernel, by decide +kernel, by decide +kernel, rfl, by decide +kernel, by decide +kernel, by decide +kernel⟩⟩

/-- States and operands that meet the hypotheses of EventCounters, clause by clause. -/
theorem witness_EventCounters :
    (∃ (s : State) (c : Ctx) (rest : List Cmd) (i : Nat), AtHead s c 0x1101 rest ∧ c.f 1 0 2 = 0 ∧ c.len = 5 ∧ c.f 1 4 4 = 0 ∧ c.f 1 16 16 = 0 ∧
      (sourceOf (c.f 2 0 16)).isSome = false) ∧
    (∃ (s : State) (c : Ctx) (rest : List Cmd) (i : Nat), AtHead s c 0x1101 rest ∧ c.f 1 0 2 = 0 ∧ c.len = 5 ∧ c.f 1 4 4 = 0 ∧ c.f 1 16 16 = 0 ∧
      (sourceOf (c.f 2 0 16)).isSome = true ∧ carries (c.f 2 0 16) (c.f 2 16 4) = false) ∧
    (∃ (s : State) (c : Ctx) (rest : List Cmd) (i : Nat), AtHead s c 0x1101 rest ∧ c.f 1 0 2 = 0 ∧ c.len = 5 ∧ c.f 1 4 4 = 0 ∧ c.f 1 16 16 = 0 ∧
      (sourceOf (c.f 2 0 16)).isSome = true ∧ c.f 2 20 12 = 0 ∧ carries (c.f 2 0 16) (c.f 2 16 4) = true ∧ c.f 4 28 4 = 0 ∧ c.f 5 26 6 = 0 ∧ isVF
      c.issuer = true ∧ tenantSource (c.f 2 0 16) = false) ∧
    (∃ (s : State) (c : Ctx) (rest : List Cmd) (i : Nat), AtHead s c 0x1101 rest ∧ c.f 1 0 2 = 0 ∧ c.len = 5 ∧ c.f 1 4 4 = 0 ∧ c.f 1 16 16 = 0 ∧
      (sourceOf (c.f 2 0 16)).isSome = true ∧ c.f 2 20 12 = 0 ∧ carries (c.f 2 0 16) (c.f 2 16 4) = true ∧ c.f 4 28 4 = 0 ∧ c.f 5 26 6 = 0 ∧ ((isVF
      c.issuer = true → tenantSource (c.f 2 0 16) = true)) ∧ c.bit 1 2 = false ∧ s.counterOther c.issuer (c.f 1 8 8) = true) ∧
    (∃ (s : State) (c : Ctx) (rest : List Cmd) (i : Nat), AtHead s c 0x1101 rest ∧ c.f 1 0 2 = 0 ∧ c.len = 5 ∧ c.f 1 4 4 = 0 ∧ c.f 1 16 16 = 0 ∧
      (sourceOf (c.f 2 0 16)).isSome = true ∧ c.f 2 20 12 = 0 ∧ carries (c.f 2 0 16) (c.f 2 16 4) = true ∧ c.f 4 28 4 = 0 ∧ c.f 5 26 6 = 0 ∧ ((isVF
      c.issuer = true → tenantSource (c.f 2 0 16) = true)) ∧ c.bit 1 2 = true ∧ firstFree s.mon.counters 0 256 = none) ∧
    (∃ (s : State) (c : Ctx) (rest : List Cmd) (i : Nat), AtHead s c 0x1101 rest ∧ c.f 1 0 2 = 0 ∧ c.len = 5 ∧ c.f 1 4 4 = 0 ∧ c.f 1 16 16 = 0 ∧
      (sourceOf (c.f 2 0 16)).isSome = true ∧ c.f 2 20 12 = 0 ∧ carries (c.f 2 0 16) (c.f 2 16 4) = true ∧ c.f 4 28 4 = 0 ∧ c.f 5 26 6 = 0 ∧ ((isVF
      c.issuer = true → tenantSource (c.f 2 0 16) = true)) ∧ (c.bit 1 2 = true ∧ firstFree s.mon.counters 0 256 = some i ∨ c.bit 1 2 = false ∧ i = c.f
      1 8 8 ∧ s.counterOther c.issuer i = false)) ∧
    (∃ (s : State) (c : Ctx), isVF c.issuer = true) ∧
    (∃ (s : State) (c : Ctx) (t : _), isVF c.issuer = true ∧ s.tenantOf c.issuer = some t) ∧
    (∃ (s : State) (c : Ctx) (rest : List Cmd) (i : Nat), AtHead s c 0x1101 rest ∧ ((c.f 1 0 2 = 1 ∨ c.f 1 0 2 = 2)) ∧ c.len = 1 ∧ c.f 1 4 4 = 0 ∧ c.f
      1 16 16 = 0 ∧ i = c.f 1 8 8 ∧ s.counterOther c.issuer i = true) ∧
    (∃ (s : State) (c : Ctx) (rest : List Cmd) (i : Nat), AtHead s c 0x1101 rest ∧ ((c.f 1 0 2 = 1 ∨ c.f 1 0 2 = 2)) ∧ c.len = 1 ∧ c.f 1 4 4 = 0 ∧ c.f
      1 16 16 = 0 ∧ i = c.f 1 8 8 ∧ tget s.mon.counters i = none) ∧
    (∃ (s : State) (c : Ctx) (rest : List Cmd) (i : Nat) (k : _), AtHead s c 0x1101 rest ∧ ((c.f 1 0 2 = 1 ∨ c.f 1 0 2 = 2)) ∧ c.len = 1 ∧ c.f 1 4 4 =
      0 ∧ c.f 1 16 16 = 0 ∧ i = c.f 1 8 8 ∧ tget s.mon.counters i = some k ∧ s.counterOther c.issuer i = false ∧ c.f 1 0 2 = 1) ∧
    (∃ (s : State) (c : Ctx) (rest : List Cmd) (i : Nat) (k : _), AtHead s c 0x1101 rest ∧ ((c.f 1 0 2 = 1 ∨ c.f 1 0 2 = 2)) ∧ c.len = 1 ∧ c.f 1 4 4 =
      0 ∧ c.f 1 16 16 = 0 ∧ i = c.f 1 8 8 ∧ tget s.mon.counters i = some k ∧ s.counterOther c.issuer i = false ∧ c.f 1 0 2 = 2) ∧
    (∃ (s : State) (c : Ctx) (rest : List Cmd), AtHead s c 0x1101 rest ∧ c.f 1 0 2 = 3) :=
  ⟨
    ⟨(put (r0) 0 0x1101 [0, 0x0100, 0, 0, 0]), (cx 0 0x1101 [0, 0x0100, 0, 0, 0]), [], 0, head _ _ _ _ (by decide) (by decide +kernel), by decide +kernel,
      by decide +kernel, by decide +kernel, by decide +kernel, by decide +kernel⟩,
    ⟨(put (r0) 0 0x1101 [0, 0x80101, 0, 0, 0]), (cx 0 0x1101 [0, 0x80101, 0, 0, 0]), [], 0, head _ _ _ _ (by decide) (by decide +kernel), by decide +kernel,
      by decide +kernel, by decide +kernel, by decide +kernel, by decide +kernel, by decide +kernel⟩,
    ⟨(put ({ r0 with mon := { r0.mon with counters := [(255, ctr0)] }, upd := { r0.upd with tenants := [(1, 4), (2, 5)] } }) 2 0x1101 [4, 0x0101, 0,
      0, 0]), (cx 2 0x1101 [4, 0x0101, 0, 0, 0]), [], 0, head _ _ _ _ (by decide) (by decide +kernel), by decide +kernel, by decide +kernel, by decide +kernel,
      by decide +kernel, by decide +kernel, by decide +kernel, by decide +kernel, by decide +kernel, by decide +kernel, by decide +kernel, by decide +kernel⟩,
    ⟨(put ({ r0 with mon := { r0.mon with counters := [(255, ctr0)] }, upd := { r0.upd with tenants := [(1, 4), (2, 5)] } }) 4 0x1101 [0xFF00, 0x0308,
      0, 0, 0]), (cx 4 0x1101 [0xFF00, 0x0308, 0, 0, 0]), [], 0, head _ _ _ _ (by decide) (by decide +kernel), by decide +kernel, by decide +kernel,
      by decide +kernel, by decide +kernel, by decide +kernel, by decide +kernel, by decide +kernel, by decide +kernel, by decide +kernel, by decide +kernel,
      by decide +kernel, by decide +kernel⟩,
    ⟨(put ({ r0 with mon := { r0.mon with counters := (List.range 256).map fun k => (k, ctr0) } }) 0 0x1101 [4, 0x0101, 0, 0, 0]), (cx 0 0x1101 [4,
      0x0101, 0, 0, 0]), [], 0, head _ _ _ _ (by decide) (by decide +kernel), by decide +kernel, by decide +kernel, by decide +kernel, by decide +kernel,
      by decide +kernel, by decide +kernel, by decide +kernel, by decide +kernel, by decide +kernel, by decide +kernel, by decide +kernel, by decide +kernel⟩,
    ⟨(put (r0) 0 0x1101 [4, 0x0101, 0, 0, 0]), (cx 0 0x1101 [4, 0x0101, 0, 0, 0]), [], 0, head _ _ _ _ (by decide) (by decide +kernel), by decide +kernel,
      by decide +kernel, by decide +kernel, by decide +kernel, by decide +kernel, by decide +kernel, by decide +kernel, by decide +kernel, by decide +kernel,
      by decide +kernel, (.inl ⟨by decide +kernel, by decide +kernel⟩)⟩,
    ⟨({ r0 with mon := { r0.mon with counters := [(255, ctr0)] }, upd := { r0.upd with tenants := [(1, 4), (2, 5)] } }), (cx 4 0x1101 [4]), by decide +kernel⟩,
    ⟨({ r0 with mon := { r0.mon with counters := [(255, ctr0)] }, upd := { r0.upd with tenants := [(1, 4), (2, 5)] } }), (cx 4 0x1101 [4]), _, by
      decide +kernel, rfl⟩,
    ⟨(put ({ r0 with mon := { r0.mon with counters := [(255, ctr0)] }, upd := { r0.upd with tenants := [(1, 4), (2, 5)] } }) 4 0x1101 [0xFF01]), (cx 4
      0x1101 [0xFF01]), [], _, head _ _ _ _ (by decide) (by decide +kernel), by decide +kernel, by decide +kernel, by decide +kernel, by decide +kernel,
      rfl, by decide +kernel⟩,
    ⟨(put ({ r0 with mon := { r0.mon with counters := [(255, ctr0)] }, upd := { r0.upd with tenants := [(1, 4), (2, 5)] } }) 0 0x1101 [0xFE01]), (cx 0
      0x1101 [0xFE01]), [], _, head _ _ _ _ (by decide) (by decide +kernel), by decide +kernel, by decide +kernel, by decide +kernel, by decide +kernel,
      rfl, by decide +kernel⟩,
    ⟨(put ({ r0 with mon := { r0.mon with counters := [(255, ctr0)] }, upd := { r0.upd with tenants := [(1, 4), (2, 5)] } }) 2 0x1101 [0xFF09]), (cx 2
      0x1101 [0xFF09]), [], _, _, head _ _ _ _ (by decide) (by decide +kernel), by decide +kernel, by decide +kernel, by decide +kernel, by decide +kernel,
      rfl, rfl, by decide +kernel, by decide +kernel⟩,
    ⟨(put ({ r0 with mon := { r0.mon with counters := [(255, ctr0)] }, upd := { r0.upd with tenants := [(1, 4), (2, 5)] } }) 2 0x1101 [0xFF02]), (cx 2
      0x1101 [0xFF02]), [], _, _, head _ _ _ _ (by decide) (by decide +kernel), by decide +kernel, by decide +kernel, by decide +kernel, by decide +kernel,
      rfl, rfl, by decide +kernel, by decide +kernel⟩,
    ⟨(put (r0) 0 0x1101 [3]), (cx 0 0x1101 [3]), [], head _ _ _ _ (by decide) (by decide +kernel), by decide +kernel⟩⟩

/-- States and operands that meet the hypotheses of QueueSamplers, clause by clause. -/
theorem witness_QueueSamplers :
    (∃ (s : State) (c : Ctx) (rest : List Cmd) (buf : BufRead) (x : Sampler), AtHead s c 0x1102 rest ∧ c.f 1 3 29 = 0 ∧ x = { samplerOf c with last := some s.time.m }
      ∧ c.f 1 0 2 = 0 ∧ c.len = 6 ∧ 1 ≤ x.n ∧ x.n ≤ 1000 ∧ c.f 2 10 22 = 0 ∧ c.f 3 29 3 = 0 ∧ ((x.kind = 0 → 1 ≤ x.count ∧ x.count ≤ 4096 ∧ x.first +
      x.count ≤ 65536)) ∧ ((∀ y ∈ descChecks c 4 true, y.1 = false)) ∧ 64 + 32 * x.queues ≤ descLen c 4 ∧ (isVF c.issuer = true ∧ x.kind = 1)) ∧
    (∃ (s : State) (c : Ctx) (rest : List Cmd) (buf : BufRead) (x : Sampler), AtHead s c 0x1102 rest ∧ c.f 1 3 29 = 0 ∧ x = { samplerOf c with last := some s.time.m }
      ∧ c.f 1 0 2 = 0 ∧ c.len = 6 ∧ 1 ≤ x.n ∧ x.n ≤ 1000 ∧ c.f 2 10 22 = 0 ∧ c.f 3 29 3 = 0 ∧ ((x.kind = 0 → 1 ≤ x.count ∧ x.count ≤ 4096 ∧ x.first +
      x.count ≤ 65536)) ∧ ((∀ y ∈ descChecks c 4 true, y.1 = false)) ∧ 64 + 32 * x.queues ≤ descLen c 4 ∧ ((isVF c.issuer = true → x.kind = 0)) ∧
      s.sampleRoom c.issuer x = true ∧ buf ≠ .unreachable ∧ buf ≠ .memError) ∧
    (∃ (s : State) (c : Ctx) (rest : List Cmd) (buf : BufRead) (x : Sampler), AtHead s c 0x1102 rest ∧ c.f 1 3 29 = 0 ∧ c.f 1 0 2 = 1 ∧ c.len = 1) ∧
    (∃ (s : State) (c : Ctx) (rest : List Cmd) (buf : BufRead) (x : Sampler), AtHead s c 0x1102 rest ∧ c.f 1 3 29 = 0 ∧ c.f 1 0 2 = 2 ∧ c.len = 1 ∧
      tget s.mon.samplers c.issuer = some x) ∧
    (∃ (s : State) (mid : Nat) (rd : Nat) (x : Sampler), midOk mid = true ∧ tget s.mon.samplers mid = some x ∧ (x.running = false ∨ s.time.m % x.n ≠ 0
      ∨ x.last = some s.time.m)) ∧
    (∃ (s : State) (mid : Nat) (rd : Nat) (x : Sampler), midOk mid = true ∧ tget s.mon.samplers mid = some x ∧ x.running = true ∧ s.time.m % x.n = 0 ∧
      x.last ≠ some s.time.m ∧ 32 * (s.sampleSet mid x).length ≤ x.room rd) ∧
    (∃ (s : State) (mid : Nat) (rd : Nat) (x : Sampler), midOk mid = true ∧ tget s.mon.samplers mid = some x ∧ x.running = true ∧ s.time.m % x.n = 0 ∧
      x.last ≠ some s.time.m ∧ x.room rd < 32 * (s.sampleSet mid x).length) :=
  ⟨
    ⟨(put ({ r0 with mon := { r0.mon with counters := [(255, ctr0)] }, upd := { r0.upd with tenants := [(1, 4), (2, 5)] } }) 2 0x1102 [4, 5, 0xFFFF,
      0, 0, 0x2010000]), (cx 2 0x1102 [4, 5, 0xFFFF, 0, 0, 0x2010000]), [], (.bytes []), _, head _ _ _ _ (by decide) (by decide +kernel), by decide +kernel,
      rfl, by decide +kernel, by decide +kernel, by decide +kernel, by decide +kernel, by decide +kernel, by decide +kernel, (fun h => by cases h), by
      decide +kernel, by decide +kernel, (⟨by decide +kernel, by decide +kernel⟩)⟩,
    ⟨(put (r0) 0 0x1102 [0, 1000, 0x1000F000, 0, 0, 0x2020040]), (cx 0 0x1102 [0, 1000, 0x1000F000, 0, 0, 0x2020040]), [], (.bytes []), _, head _ _ _
      _ (by decide) (by decide +kernel), by decide +kernel, rfl, by decide +kernel, by decide +kernel, by decide +kernel, by decide +kernel, by decide +kernel,
      by decide +kernel, (fun _ => by decide +kernel), by decide +kernel, by decide +kernel, (fun h => by cases h), by decide +kernel, by decide +kernel,
      by decide +kernel⟩,
    ⟨(put (r0) 0 0x1102 [1]), (cx 0 0x1102 [1]), [], (.bytes []), smp0, head _ _ _ _ (by decide) (by decide +kernel), by decide +kernel, by decide +kernel,
      by decide +kernel⟩,
    ⟨(put (sSmp smp0 5) 128 0x1102 [2]), (cx 128 0x1102 [2]), [], (.bytes []), _, head _ _ _ _ (by decide) (by decide +kernel), by decide +kernel, by
      decide +kernel, by decide +kernel, rfl⟩,
    ⟨(sSmp smp0 6), 64, 64, _, by decide +kernel, rfl, (.inr (.inl (by decide +kernel)))⟩,
    ⟨(sSmp smp0 5), 64, 64, _, by decide +kernel, rfl, by decide +kernel, by decide +kernel, by decide +kernel, by decide +kernel⟩,
    ⟨(sSmp { smp0 with size := 96 } 5), 64, 64, _, by decide +kernel, rfl, by decide +kernel, by decide +kernel, by decide +kernel, by decide +kernel⟩⟩

/-! ## Well-formedness: an ill-formed command for each check -/

theorem test_illformed_mailbox :
    [Instr.mboxMsgWrite 0xB4 0 0 0#32,
     Instr.mboxMsgWrite 0 288 0 0#32,
     Instr.mboxMsgWrite 0 0 16 0#32,
     Instr.go 0xB4 0 0#32,
     Instr.go 0 288 0#32,
     Instr.take 0xB4 0,
     Instr.take 0 288,
     Instr.heldTimeout 263,
     Instr.heldTimeout 288,
     Instr.bindLock 0xB4 0#32,
     Instr.evrCtlEnable 128 0#32,
     Instr.evrHeadWrite 128 0#32,
     Instr.heldEventPost 128,
     Instr.holdoffExpire 128,
     Instr.rcRegisterRead 128 0,
     Instr.tbSnapCapture 128 0#32,
     Instr.tickNowRead 128,
     Instr.ptmDialogue 2 none,
     Instr.lqFlush 128 0#32,
     Instr.lqFlushComplete 128,
     Instr.prCtlEnable 128 0 0#32,
     Instr.prCtlEnable 0 3 0#32,
     Instr.prHeadWrite 128 0 0#32,
     Instr.prHeadWrite 0 3 0#32].all (fun i => !i.wf) = true := by decide

theorem test_illformed_ports_and_channels :
    [Instr.sptxTailWrite 128 0#32,
     Instr.cntLoRead 128 0,
     Instr.cntLoRead 0 256,
     Instr.sysConfigSet 264,
     Instr.sysConfigSet 1,
     Instr.sysConfigGet 264,
     Instr.sysHealth 1,
     Instr.sysResetUnit 264,
     Instr.sysConfirm 264 true,
     Instr.tbConfig 264,
     Instr.tbArm 1,
     Instr.tbStatus 264,
     Instr.tickSource 264,
     Instr.portConfig 264,
     Instr.portStatus 264,
     Instr.portRelease 1,
     Instr.portReleaseComplete 16,
     Instr.portRestore 1,
     Instr.portRestoreComplete 16 true,
     Instr.cascGroup 1,
     Instr.cascGroupEnableComplete 16 true,
     Instr.cascPeer 264,
     Instr.confCreate 264,
     Instr.confModify 264].all (fun i => !i.wf) = true := by decide

theorem test_illformed_commands :
    [Instr.confDestroy 1,
     Instr.legCreate 1,
     Instr.legModify 1,
     Instr.legDestroy 264,
     Instr.legStats 264,
     Instr.legIdFree 65536,
     Instr.keyInstall 264,
     Instr.keyRetire 1,
     Instr.keyPage 1,
     Instr.keyContextFree 65536,
     Instr.fwdPolicy 1,
     Instr.fwdSubscribe 264,
     Instr.fwdPin 264,
     Instr.audRoute 264,
     Instr.audMixpolicy 264,
     Instr.audStage 264 .unreachable,
     Instr.audDetect 1,
     Instr.vidDecode 1,
     Instr.vidEncode 1 .unreachable,
     Instr.vidKeyreq 1,
     Instr.layCanvas 1 .unreachable,
     Instr.layLayer 264 .unreachable,
     Instr.layOrder 264,
     Instr.layLut 264 .unreachable].all (fun i => !i.wf) = true := by decide

theorem test_illformed_more_commands :
    [Instr.shpNode 1,
     Instr.shpPolice 1,
     Instr.gateList 264 .unreachable,
     Instr.memMap 264,
     Instr.migrationSwitch 8,
     Instr.protClass 1,
     Instr.protPartner 1 .unreachable,
     Instr.calRequest 264,
     Instr.calStatus 1,
     Instr.updBegin 264,
     Instr.updBlock 264 .unreachable true,
     Instr.updCommit 1,
     Instr.updRevert 1,
     Instr.updStatus 1,
     Instr.clusterReload 48 true,
     Instr.monCounter 264,
     Instr.monSample 1 .unreachable,
     Instr.clLock 264,
     Instr.clLockComplete 48,
     Instr.opAbort 1,
     Instr.functionLevelReset 128,
     Instr.vfEnableClear 2,
     Instr.perstAssert 2,
     Instr.perstDeassert 2].all (fun i => !i.wf) = true := by decide

theorem test_illformed_units :
    [Instr.thermalTrip 64 0,
     Instr.domainFault 80,
     Instr.ptpMessageTx 4 0 0,
     Instr.ptpMessageTx 0 16 0,
     Instr.ptpMasterLost 4,
     Instr.delayEntryDue 4,
     Instr.trailheadDispatch 192,
     Instr.itemComplete 192,
     Instr.extraPlacementPass 48,
     Instr.drainMarkerPass 262144,
     Instr.cipherKat 3072 true,
     Instr.forwardPacket ((some ⟨65536, false, true⟩)),
     Instr.legShaperRefill 65536,
     Instr.groupRefill 4096,
     Instr.qtoFire 65536,
     Instr.egressSelect 16 none,
     Instr.egressSelect 0 ((some ⟨65536, false, true⟩)),
     Instr.macTransmit 16,
     Instr.gateOversize 16 0,
     Instr.gateOversize 0 8,
     Instr.gateIntervalEnd 16,
     Instr.gateListStart 16,
     Instr.gateRestart 16,
     Instr.linkUp 16].all (fun i => !i.wf) = true := by decide

theorem test_illformed_timers :
    [Instr.linkDown 16,
     Instr.consentTimeout 65536,
     Instr.rateEstimate 65536,
     Instr.layerRateMeasure 65536 0,
     Instr.layerRateMeasure 0 8,
     Instr.probeWindowEnd 65536,
     Instr.upHoldExpire 65536 0,
     Instr.upHoldExpire 0 64,
     Instr.spatialSwitchTimeout 65536 0,
     Instr.spatialSwitchTimeout 0 64,
     Instr.fwdSwitchSlow 65536 0,
     Instr.fwdSwitchSlow 0 64,
     Instr.rtcpSend 65536,
     Instr.transportFeedbackSend 65536,
     Instr.nackSend 65536 0 0,
     Instr.nackSend 0 8 0,
     Instr.nackSend 0 0 3,
     Instr.lossDeclared 65536 0 0 0,
     Instr.lossDeclared 0 8 0 0,
     Instr.lossDeclared 0 0 3 0,
     Instr.keyRequestSend 65536 0 0,
     Instr.keyRequestSend 0 8 0,
     Instr.keyRequestSend 0 0 3,
     Instr.rxFallbackEnd 65536].all (fun i => !i.wf) = true := by decide

theorem test_illformed_media :
    [Instr.jbReanchor 65536,
     Instr.loudnessReset 65536,
     Instr.mixRun 16384,
     Instr.audioEncode 65536 0,
     Instr.cascContribSend 16384,
     Instr.dtmfDigitEnd 65536 true,
     Instr.howlAnalysis 65536 none,
     Instr.stageTimerExpire 3 0 0 0,
     Instr.stageTimerExpire 0 0 4 0,
     Instr.coreInterrupt 192 .fault 0,
     Instr.coreInterrupt 0 .fault 65536,
     Instr.coreInterrupt 0 .fault 8,
     Instr.dmodeSwitch 48 true,
     Instr.decodeFrameSubmit 3072 true,
     Instr.encodeFrameStart 1536 0 0,
     Instr.encodeFrameStart 0 3 0,
     Instr.encodeFrameComplete 1536 0 [] 0,
     Instr.encodeFrameComplete 0 3 [] 0,
     Instr.canvasFrameStart 192,
     Instr.composerBand 4,
     Instr.layerSwitchTimeout 192 0,
     Instr.layerSwitchTimeout 0 64,
     Instr.cellTx 16,
     Instr.retryRepeat 16].all (fun i => !i.wf) = true := by decide

theorem test_illformed_cascade :
    [Instr.hello 16 0 0 [],
     Instr.helloAck 16 0 0,
     Instr.helloSend 16,
     Instr.retry 16 0,
     Instr.shedReq 16 0 true,
     Instr.shedReq 0 16 true,
     Instr.shedAck 16 0 0,
     Instr.shedAck 0 16 0,
     Instr.wakeReq 16 0,
     Instr.wakeReq 0 16,
     Instr.wakeAck 16 0,
     Instr.wakeAck 0 16,
     Instr.widthCommit 16 0 0,
     Instr.widthCommit 0 16 0,
     Instr.shedWindowClose 16,
     Instr.laneFail 16 0,
     Instr.laneFail 0 4,
     Instr.laneReturn 16 0,
     Instr.laneReturn 0 4,
     Instr.heartbeatSend 16,
     Instr.peerLost 16 true,
     Instr.cascGroupRetry 16,
     Instr.reserveAck 16 0 0,
     Instr.reserveTimeout 264].all (fun i => !i.wf) = true := by decide

theorem test_illformed_memory :
    [Instr.fullRequest 16 0,
     Instr.claimRepeat 65536,
     Instr.shadowApply 48,
     Instr.clusterFail 48 0,
     Instr.degradeUndo 48,
     Instr.unprotectedReplace 48,
     Instr.hubHalfFail 2 0,
     Instr.composerFail 4 0,
     Instr.canvasMove 192,
     Instr.scrub 128 0 [],
     Instr.marginAlarm 128 0 0,
     Instr.marginAlarm 0 0 4,
     Instr.loadedVerificationDue 4,
     Instr.sample 0xB4 0,
     Instr.voltageLoopReport 48 0,
     Instr.droop 48 0,
     Instr.droopEnd 48,
     Instr.thermalLoop 64 0,
     Instr.laneEqualisationDone 16,
     Instr.wakeLanesLocked 16,
     Instr.bmcResponseHoldEnd 255,
     Instr.bmcResponseHoldEnd 264,
     Instr.bmcResponseHoldEnd 258].all (fun i => !i.wf) = true := by decide

theorem test_illformed_with_data :
    (∀ (x1 : SlowSlot), (Instr.sptxSlotSend 128 x1).wf = false) ∧
    (∀ (x2 : Ptp), (Instr.ptpTcFrame 16 0 x2 0 0).wf = false) ∧
    (∀ (x2 : Ptp), (Instr.ptpTcFrame 0 16 x2 0 0).wf = false) ∧
    (∀ (x1 : Frame), (Instr.frameRx 16 x1).wf = false) ∧
    (∀ (x1 : AudioBlock), (Instr.audioDecode 65536 x1).wf = false) ∧
    (∀ (x4 : StageResult), (Instr.stageRun 3 0 0 0 x4).wf = false) ∧
    (∀ (x4 : StageResult), (Instr.stageRun 0 0 4 0 x4).wf = false) ∧
    (∀ (x1 : Bundle), (Instr.coreBundle 192 x1).wf = false) ∧
    (∀ (x1 : DecodedPic), (Instr.decodeFrameComplete 3072 x1).wf = false) ∧
    (∀ (x1 : Cell), (Instr.cellRx 16 x1).wf = false) ∧
    (∀ (x1 : Heartbeat), (Instr.heartbeat 16 x1).wf = false) ∧
    (∀ (x1 : Flow5) (x2 : IpChecks) (x4 : Payload), (Instr.cascMediaRx 16 x1 x2 0 x4).wf = false) ∧
    (∀ (x1 : ShadowMsg), (Instr.shadow 16 x1).wf = false) ∧
    (∀ (x1 : Reserve), (Instr.reserve 16 x1).wf = false) ∧
    (∀ (x1 : Reserve), (Instr.release 16 x1).wf = false) ∧
    (∀ (x1 : StallEnv), (Instr.retrainStall 128 x1).wf = false) :=
  ⟨fun _ => rfl, fun _ => rfl, fun _ => rfl, fun _ => rfl, fun _ => rfl, fun _ => rfl, fun _ => rfl, fun _ => rfl, fun _ => rfl, fun _ => rfl, fun _ => rfl, fun _ _ _ => rfl, fun _ => rfl, fun _ => rfl, fun _ => rfl, fun _ => rfl⟩

theorem test_illformed_register_access :
    [Instr.registerWrite (.bar0 128 0) 0#32, Instr.registerWrite (.bar2 128 0) 0#32,
     Instr.registerWrite (.limlum 0xB4 0) 0#32].all (fun i => !i.wf) = true := by decide

theorem test_illformed_load_store_slots :
    [(⟨.load 32 0 .indexed 8, .nop, .nop, .nop⟩ : Bundle), ⟨.load 0 8 .indexed 8, .nop, .nop, .nop⟩,
     ⟨.load 0 0 (.offset 512) 8, .nop, .nop, .nop⟩, ⟨.load 0 0 (.postInc (-513)) 8, .nop, .nop, .nop⟩,
     ⟨.load 0 0 .indexed 3, .nop, .nop, .nop⟩, ⟨.store 32 0 .indexed 8, .nop, .nop, .nop⟩,
     ⟨.store 0 8 .indexed 8, .nop, .nop, .nop⟩, ⟨.update 8 .indexed 8, .nop, .nop, .nop⟩,
     ⟨.update 0 .indexed 16, .nop, .nop, .nop⟩, ⟨.nop, .store 0 0 .indexed 8, .nop, .nop⟩].all (fun b => !b.wf) = true := by
  decide

theorem test_illformed_accumulator_slot :
    [(⟨.nop, .nop, .mac32 32 0 0 1, .nop⟩ : Bundle), ⟨.nop, .nop, .mac32 0 0 0 0, .nop⟩, ⟨.nop, .nop, .mac32 0 0 8 1, .nop⟩,
     ⟨.nop, .nop, .mac16 0 32 0 1, .nop⟩, ⟨.nop, .nop, .mac16 0 0 1 1, .nop⟩, ⟨.nop, .nop, .add32 32 0, .nop⟩,
     ⟨.nop, .nop, .add32 0 8, .nop⟩, ⟨.nop, .nop, .clear 8, .nop⟩, ⟨.nop, .nop, .extract 8 .full 0 0 32 0, .nop⟩,
     ⟨.nop, .nop, .extract 0 .full 32 0 32 0, .nop⟩, ⟨.nop, .nop, .extract 0 .full 0 2 32 0, .nop⟩,
     ⟨.nop, .nop, .extract 0 .full 0 0 64 0, .nop⟩, ⟨.nop, .nop, .extract 0 .full 0 0 32 64, .nop⟩].all
      (fun b => !b.wf) = true := by decide

theorem test_illformed_alu_slot :
    [(AluInstr.lane .add 8 false 0 0 0), .lane .add 32 false 32 0 0, .lane .add 32 false 0 32 0, .lane .add 32 false 0 0 32,
     .roundShift 8 0 0 0, .roundShift 32 32 0 0, .roundShift 32 0 32 0, .roundShift 32 0 0 64, .fracMul 64 0 0 0,
     .fracMul 32 32 0 0, .fracMul 32 0 32 0, .fracMul 32 0 0 32, .move (.d 32) .lr, .move .lr (.a 8), .moveImm (.m 8) 0,
     .moveImm (.base 8) 0, .moveImm (.len 8) 0, .moveImm (.lcount 2) 0, .moveImm (.lstart 2) 0, .moveImm (.lend 2) 0,
     .branch 65536, .branch 8, .branchZero 32 0, .branchZero 0 8, .call 8, .loop 2 0 0, .loop 0 8 0].all
      (fun i => !i.wf) = true := by decide

theorem test_illformed_bundle : (Instr.coreBundle 0 ⟨.nop, .nop, .clear 8, .nop⟩).wf = false := by decide

theorem test_illformed_command_faults :
    exec (.tickNowRead 128) r0 = .fault .noSuchUnit := rfl

/-! ## Worked examples of the spec -/

/-- The first luma group of R274's example. -/
def groupOf274 : List Nat := [100, 101, 103, 103, 104, 104, 105, 107, 108, 108, 109, 110, 110, 111, 112, 112]

/-- The example under R274: the u values, the costs of k = 0 to 2, the choice, and how the bits begin. -/
theorem test_nbc_group :
    usOf 8 16 [] groupOf274 = [55, 2, 4, 0, 2, 0, 2, 4, 2, 0, 2, 2, 0, 2, 2, 0] ∧
    [0, 1, 2].map (fun k => groupCost 8 k (usOf 8 16 [] groupOf274)) = [62, 65, 63] ∧
    bestK 8 (usOf 8 16 [] groupOf274) 10 = 0 ∧
    (encGroups 8 16 1 [] groupOf274).length = 66 ∧
    (encGroups 8 16 1 [] groupOf274).take 36 =
      toBits 4 0 ++ List.replicate 15 true ++ toBits 8 0x37 ++ toBits 3 6 ++ toBits 5 0x1E ++ toBits 1 0 := by
  decide +kernel

/-- The example under R274: the sizes of a 1920 × 1080 surface of 8 bits. -/
theorem test_nbc_sizes :
    tilesOf 1920 * tilesOf 1080 = 8160 ∧ dataOff 1920 1080 = 8256 ∧ nbcSize 1920 1080 8 = 3141696 := by decide +kernel

/-- The example under R286: x = −5 and x = 5 with s = 1. -/
theorem test_rounding :
    (roundShift false (-5) 1, roundShift true (-5) 1, roundShift false 5 1, roundShift true 5 1) = (-2, -3, 3, 2) := by decide

/-- The example under R391: offset 0x12345678 under MAP_A and MAP_C, and where its local addresses lie. -/
theorem test_address_orders :
    mapAddr 0 8 0x12345678 = (86, 0x246878) ∧ mapAddr 2 8 0x12345678 = (69, 0x246678) ∧
    place 0x246878 = ⟨1, 2, 2, 48⟩ ∧ place 0x246678 = ⟨1, 1, 2, 48⟩ ∧
    (0x246878 % 1024, 0x246678 % 1024) = (0x078, 0x278) := by decide +kernel

/-- The example under R269: luma 200 at ALPHA 128 over a background of 16. -/
theorem test_blend :
    weightOf 128 = 129 ∧ blend 256 3200 129 = 1740 ∧ outLuma none 1740 = 109 := by decide +kernel

/-- The line of the example under R90. -/
def line90 : List Byte :=
  ['$', 'N', 'Y', 'T', 'O', 'D', ',', '0', '0', '0', '0', '0', '1', '7', '0', '0', '0', '0', '0', '0', '3', '7', ',', '+', '0', '3', '7', ',', '0', ',', '3', ',', '0', '0', '6', ',', '2', '1', '*', '5', '3', '\r', '\n'].map
    (fun c => BitVec.ofNat 8 c.toNat)

/-- The example under R90: the line is accepted, names its second, and is not accepted with another checksum. -/
theorem test_tod_line :
    todOk line90 = true ∧ decNat ((line90.drop 7).take 15) = 1700000037 ∧ todOk (line90.set 40 0x34#8) = false := by
  decide +kernel

/-- The example under R353: EP4 at 400 GbE claims lanes 8 to 15, those of EP5, EP6 and EP7 at 100 GbE among them. -/
theorem test_claimed_lanes :
    claimed 4 1 = (8, 16) ∧ claimed 5 3 = (10, 12) ∧ claimed 7 3 = (14, 16) := by decide

/-- The example under R245: a coasted row of 30 units of a key picture, and the band of 17 rows that coasts from row 12. -/
theorem test_coast :
    coastCost 30 true = 98 ∧
    ((RowRun.mk 30 62000 11 30 false none).row (some 70000) 30 51 17 5900 588 490).used = 67900 ∧
    ((RowRun.mk 30 67900 12 30 false none).row (some 70000) 30 51 17 5700 490 392).coast = some 490 := by decide +kernel

/-- The example under R98: TICK at TAI second 1,700,000,037. -/
theorem test_tick : ({ r0 with time := { r0.time with m := 1700000037000 } } : State).tick = 3487955080 := by decide +kernel

/-- The example under R140: the item that gives way, and what an RTCP item pushes out then. -/
theorem test_victim :
    let it : Nat → QItem := fun p => ⟨{ leg := 0, prio := p, ssrc := 9, seq := 1, payloadLen := 20 }, 0, 100, 0, false⟩
    victim [it 1, it 0, it 2, it 0, it 1] 2 = some 3 ∧ victim [it 1, it 0, it 2, it 1, it 2] 3 = some 1 := by decide +kernel

/-- R411: the buddy of CL05 is CL29. -/
theorem test_buddy : buddyMid 0x85 = 0x9D := by decide

/-- The examples of R7: a size of 2 in EVR_CTL stores 6, and one of 14 in PR_CTL stores 12. -/
theorem test_clamped_sizes :
    (writeEvrCtl 0 2#32 (r0.fn 0).ev).sizeLog2 = 6 ∧ (writePrCtl 14#32 {}).sizeLog2 = 12 := by decide +kernel

/-- A block takes no commands by words. -/
theorem test_no_words : decodeTableWord 32 0 = none ∧ r0.withFetchWord 32 0 = r0 := ⟨rfl, rfl⟩

/-- An empty queue lets 1 ns pass: time of the bases goes on, and nothing is queued. -/
theorem test_idle : (match step r0 with | .next t => decide (t.pending = [] ∧ t.time.ref = r0.time.ref + nsU) | _ => false) = true := by
  decide +kernel

end Sys2Proof.Tests
end

/-! Arithmetic of the DSP cores (R283 to R286, R293): the two's complement fields, a register cut into lanes,
saturation, rounding under RMODE, and what slots 2 and 3 give by them. -/

namespace Sys2Proof.Machine

/-! ## Two's complement fields -/

theorem int_two_pow_pos (n : Nat) : (0 : Int) < 2 ^ n := Int.pow_pos (by decide)

theorem natCast_two_pow (n : Nat) : ((2 ^ n : Nat) : Int) = 2 ^ n := Int.natCast_pow 2 n

theorem field_cast (n : Nat) (i : Int) : (field n i : Int) = i % 2 ^ n :=
  Int.toNat_of_nonneg (Int.emod_nonneg _ (Int.ne_of_gt (int_two_pow_pos n)))

theorem field_lt (n : Nat) (i : Int) : field n i < 2 ^ n := by
  have h := Int.emod_lt_of_pos i (int_two_pow_pos n)
  rw [← field_cast] at h
  exact_mod_cast h

theorem field_eq_mod {n m : Nat} {i : Int} (h : i % 2 ^ n = m % 2 ^ n) : field n i = m % 2 ^ n := by
  rw [← field_cast] at h
  exact_mod_cast h

theorem field_eq_self {n : Nat} {i : Int} (h0 : 0 ≤ i) (h : i < 2 ^ n) : (field n i : Int) = i := by
  rw [field_cast, Int.emod_eq_of_lt h0 h]

/-- Reading a field as signed moves it by a multiple of the modulus, so modular results do not see the sign. -/
theorem signed_emod (n v : Nat) : signed n v % 2 ^ n = v % 2 ^ n := by
  unfold signed
  split
  · rfl
  · exact Int.sub_emod_right v (2 ^ n)

/-! ## A register from its lanes (R283) -/

/-- Moving every lane up by one multiplies the register by 2^w. -/
theorem lanes_shifted_up (w k : Nat) (l : List Nat) :
    ((l.zipIdx (k + 1)).map fun x => x.1 % 2 ^ w * 2 ^ (w * x.2)).sum =
      2 ^ w * ((l.zipIdx k).map fun x => x.1 % 2 ^ w * 2 ^ (w * x.2)).sum := by
  induction l generalizing k with
  | nil => rfl
  | cons a l ih =>
    simp only [List.zipIdx_cons, List.map_cons, List.sum_cons, ih (k + 1), Nat.mul_add, Nat.mul_one, Nat.pow_add,
      Nat.mul_left_comm, Nat.mul_comm]

theorem fromLanes_cons (w a : Nat) (l : List Nat) : fromLanes w (a :: l) = a % 2 ^ w + 2 ^ w * fromLanes w l := by
  simp only [fromLanes, List.zipIdx_cons, List.map_cons, List.sum_cons, lanes_shifted_up, Nat.mul_zero, Nat.pow_zero,
    Nat.mul_one]

theorem fromLanes_lt (w : Nat) (l : List Nat) : fromLanes w l < 2 ^ (w * l.length) := by
  induction l with
  | nil => exact Nat.two_pow_pos _
  | cons a l ih =>
    have hlow : a % 2 ^ w < 2 ^ w := Nat.mod_lt _ (Nat.two_pow_pos w)
    calc fromLanes w (a :: l) = a % 2 ^ w + 2 ^ w * fromLanes w l := fromLanes_cons w a l
      _ < 2 ^ w * (fromLanes w l + 1) := by rw [Nat.mul_succ]; omega
      _ ≤ 2 ^ w * 2 ^ (w * l.length) := Nat.mul_le_mul_left _ ih
      _ = 2 ^ (w * (a :: l).length) := by rw [← Nat.pow_add, List.length_cons, Nat.mul_succ, Nat.add_comm]

theorem laneOf_succ (w v i : Nat) : laneOf w v (i + 1) = laneOf w (v / 2 ^ w) i := by
  rw [laneOf, laneOf, Nat.div_div_eq_div_mul, ← Nat.pow_add, Nat.mul_succ, Nat.add_comm]

theorem laneOf_zero (w v : Nat) : laneOf w v 0 = v % 2 ^ w := by
  rw [laneOf, Nat.mul_zero, Nat.pow_zero, Nat.div_one]

theorem fromLanes_cons_div (w a : Nat) (l : List Nat) : fromLanes w (a :: l) / 2 ^ w = fromLanes w l := by
  have hpos := Nat.two_pow_pos w
  rw [fromLanes_cons, Nat.add_mul_div_left _ _ hpos, Nat.div_eq_of_lt (Nat.mod_lt _ hpos), Nat.zero_add]

/-- No carry between lanes: lane `i` of the register is the `i`-th entry, whatever the others are. -/
theorem laneOf_fromLanes {w i : Nat} {l : List Nat} (hi : i < l.length) :
    laneOf w (fromLanes w l) i = l[i] % 2 ^ w := by
  induction l generalizing i with
  | nil => cases hi
  | cons a l ih =>
    cases i with
    | zero => rw [laneOf_zero, fromLanes_cons, Nat.add_mul_mod_self_left, Nat.mod_mod, List.getElem_cons_zero]
    | succ i => rw [laneOf_succ, fromLanes_cons_div, ih (Nat.lt_of_succ_lt_succ hi), List.getElem_cons_succ]

theorem laneOf_lanewise {w i : Nat} (g : Nat → Nat × Bool) (hi : i < 64 / w) :
    laneOf w (lanewise w g).1 i = (g i).1 % 2 ^ w := by
  have hlen : i < (((List.range (64 / w)).map g).map (·.1)).length := by
    rwa [List.length_map, List.length_map, List.length_range]
  rw [lanewise, laneOf_fromLanes hlen, List.getElem_map, List.getElem_map, List.getElem_range]

theorem lanewise_lt (w : Nat) (g : Nat → Nat × Bool) : (lanewise w g).1 < 2 ^ 64 := by
  have h := fromLanes_lt w (((List.range (64 / w)).map g).map (·.1))
  rw [List.length_map, List.length_map, List.length_range] at h
  exact Nat.lt_of_lt_of_le h (Nat.pow_le_pow_right (by decide) (Nat.mul_div_le 64 w))

theorem lanewise_saturated {w i : Nat} {g : Nat → Nat × Bool} (hi : i < 64 / w) (h : (g i).2 = true) :
    (lanewise w g).2 = true :=
  List.any_eq_true.mpr ⟨g i, List.mem_map_of_mem (List.mem_range.mpr hi), h⟩

/-! ## Saturation (R283) -/

theorem satTo_bounds (w : Nat) (x : Int) :
    -(2 ^ (w - 1) : Int) ≤ (satTo w x).1 ∧ (satTo w x).1 < 2 ^ (w - 1) := by
  have hpos := int_two_pow_pos (w - 1)
  simp only [satTo]
  omega

theorem satTo_of_fits {w : Nat} {x : Int} (hlo : -(2 ^ (w - 1) : Int) ≤ x) (hhi : x < 2 ^ (w - 1)) :
    satTo w x = (x, false) := by
  have hclamp : max (-(2 ^ (w - 1) : Int)) (min (2 ^ (w - 1) - 1) x) = x := by omega
  simp only [satTo, hclamp, ne_eq, not_true_eq_false, decide_false]

theorem out_of_range_of_satTo {w : Nat} {x : Int} (h : (satTo w x).2 = true) :
    x < -(2 ^ (w - 1) : Int) ∨ (2 ^ (w - 1) : Int) ≤ x := by
  by_cases hin : -(2 ^ (w - 1) : Int) ≤ x ∧ x < 2 ^ (w - 1)
  · rw [satTo_of_fits hin.1 hin.2] at h
    cases h
  · omega

/-! ## One lane of an operation (R283) -/

theorem laneOne_add_modulo (w x y f : Nat) : laneOne .add false w x y f = ((x + y) % 2 ^ w, false) := by
  have h : (signed w x + signed w y) % 2 ^ w = (x + y : Nat) % 2 ^ w := by
    rw [Int.add_emod, signed_emod, signed_emod, ← Int.add_emod, Int.natCast_add]
  exact congrArg (·, false) (field_eq_mod h)

theorem laneOne_sub_modulo {w x y f : Nat} (hy : y < 2 ^ w) :
    laneOne .sub false w x y f = ((x + 2 ^ w - y) % 2 ^ w, false) := by
  have hcast : ((x + 2 ^ w - y : Nat) : Int) = x - y + 2 ^ w := by
    have hpow := natCast_two_pow w
    omega
  have h : (signed w x - signed w y) % 2 ^ w = (x + 2 ^ w - y : Nat) % 2 ^ w := by
    rw [Int.sub_emod, signed_emod, signed_emod, ← Int.sub_emod, hcast, Int.add_emod_right]
  exact congrArg (·, false) (field_eq_mod h)

/-- A shift by less than the lane's width is no free value. -/
theorem laneOne_shl {w x y f : Nat} (hy : y < w) (sat : Bool) :
    laneOne .shl sat w x y f =
      if sat then (field w (satTo w (signed w x * 2 ^ y)).1, (satTo w (signed w x * 2 ^ y)).2)
      else (field w (signed w x * 2 ^ y), false) :=
  if_neg (Nat.not_le_of_lt hy)

theorem laneOne_shl_modulo {w x y f : Nat} (hy : y < w) :
    laneOne .shl false w x y f = (x * 2 ^ y % 2 ^ w, false) := by
  have h : signed w x * 2 ^ y % 2 ^ w = (x * 2 ^ y : Nat) % 2 ^ w := by
    rw [Int.mul_emod, signed_emod, ← Int.mul_emod, Int.natCast_mul, natCast_two_pow]
  exact (laneOne_shl hy false).trans (congrArg (·, false) (field_eq_mod h))

/-! ## Accumulation (R284) -/

theorem accAdd_exact {w old : Nat} {x : Int} (h : (accAdd w old x).2 = false) :
    signed w (accAdd w old x).1 = signed w old + x :=
  Decidable.of_not_not (of_decide_eq_false h)

/-! ## Circular addressing (R293) -/

/-- An update by at most the length lands within one length of the buffer, so one correction brings it back. -/
theorem circular_mem {base len a : Nat} {step : Int} (hfit : base + len < 2 ^ 31)
    (hlo : base ≤ a) (hhi : a < base + len) (hback : -(len : Int) ≤ step) (hfwd : step ≤ len) :
    base ≤ circular base len a step ∧ circular base len a step < base + len := by
  have hlen : len ≠ 0 := by omega
  unfold circular
  simp only [if_pos hlen]
  split
  next habove =>
    have h := field_eq_self (n := 32) (i := (a : Int) + step - len) (by omega) (by omega)
    omega
  next =>
    split
    next hbelow =>
      have h := field_eq_self (n := 32) (i := (a : Int) + step + len) (by omega) (by omega)
      omega
    next =>
      have h := field_eq_self (n := 32) (i := (a : Int) + step) (by omega) (by omega)
      omega

/-! ## Rounding under RMODE (R286) -/

/-- What makes an integer quotient the floor of a division. -/
theorem ediv_two_pow_bounds (x : Int) (s : Nat) : 2 ^ s * (x / 2 ^ s) ≤ x ∧ x < 2 ^ s * (x / 2 ^ s + 1) := by
  have hpos := int_two_pow_pos s
  have hlt := Int.lt_mul_ediv_self_add (x := x) hpos
  exact ⟨Int.mul_ediv_self_le (Int.ne_of_gt hpos), by rwa [Int.mul_add, Int.mul_one]⟩

theorem roundShift_truncates (x : Int) (s : Nat) : roundShift true x s = x / 2 ^ s := by
  by_cases hs : s = 0
  · subst hs
    exact (Int.ediv_one x).symm
  · rw [roundShift, if_neg hs, if_pos rfl]

theorem roundShift_half_up (x : Int) {s : Nat} (hs : 0 < s) :
    roundShift false x s = (x + 2 ^ (s - 1)) / 2 ^ s := by
  rw [roundShift, if_neg (Nat.ne_of_gt hs), if_neg Bool.false_ne_true]

/-! ## Slots 2 and 3 (R285, R286) -/

/-- Lane `i` of a fractional multiply: the rounded product, or a free value where it does not fit. -/
def fracLane (c : Core) (free : Nat → Nat) (w rx ry i : Nat) : Nat × Bool :=
  let p := roundShift c.rmode (laneInt w (c.read (.d rx)) i * laneInt w (c.read (.d ry)) i) (w - 1)
  (if (satTo w p).2 then free i % 2 ^ w else field w p, false)

theorem alu_fracMul (c : Core) (free : Nat → Nat) (w rd rx ry : Nat) :
    c.alu free (.fracMul w rd rx ry) = { fl := [⟨1, .d rd, 0, 64, (lanewise w (fracLane c free w rx ry)).1⟩] } := rfl

theorem fracLane_of_fits {c : Core} {w rx ry i : Nat} (free : Nat → Nat) {p : Int}
    (hp : p = roundShift c.rmode (laneInt w (c.read (.d rx)) i * laneInt w (c.read (.d ry)) i) (w - 1))
    (hfits : (satTo w p).2 = false) : fracLane c free w rx ry i = (field w p, false) := by
  simp only [fracLane, ← hp, hfits, Bool.false_eq_true, if_false]

/-- A lane instruction as its lanes: of the core it uses the two operands only, RMODE is not among them. -/
theorem alu_lane (c : Core) (free : Nat → Nat) (op : LaneOp) (w rd rx ry : Nat) (sat : Bool) :
    c.alu free (.lane op w sat rd rx ry) =
      { fl := [⟨1, .d rd, 0, 64, (lanewise w fun i => laneOne op sat w (laneOf w (c.read (.d rx)) i) (laneOf w (c.read (.d ry)) i) (free i)).1⟩]
        sv := (lanewise w fun i => laneOne op sat w (laneOf w (c.read (.d rx)) i) (laneOf w (c.read (.d ry)) i) (free i)).2 } := rfl

/-- Settles O49: lane by lane by taking a register's lowest lane off, the modulo forms by congruence, the rest by the bounds
of saturation and of one circular correction. -/
theorem coreArithmetic : Obligations.CoreArithmetic := by
  refine ⟨fun w i g _ hi => ?lanes, fun c free op w rd rx ry sat => alu_lane c free op w rd rx ry sat,
    fun w x y f _ _ hy => ?forms, fun w old x _ => ⟨field_lt w _, accAdd_exact⟩, fun w x _ => ?saturation,
    fun base len a step _ hfit hlo hhi hback hfwd => circular_mem hfit hlo hhi hback hfwd⟩
  case lanes => exact ⟨laneOf_lanewise g hi, lanewise_lt w g, lanewise_saturated hi⟩
  case forms =>
    exact ⟨laneOne_add_modulo w x y f, laneOne_sub_modulo hy, rfl, rfl,
      fun hshift => ⟨laneOne_shl_modulo hshift, laneOne_shl hshift true⟩⟩
  case saturation =>
    obtain ⟨hlo, hhi⟩ := satTo_bounds w x
    exact ⟨hlo, hhi, satTo_of_fits, out_of_range_of_satTo⟩

/-- Settles O50: both roundings are floors of a division, and the instructions round by them; a lane instruction
reads its two operands only. -/
theorem roundingInstructions : Obligations.RoundingInstructions := by
  refine ⟨fun x s hs => ?halfUp, fun x s => ?truncation, fun c w rd rx n free => rfl,
    fun c w rd rx ry i free p hp hfits => ⟨_, alu_fracMul c free w rd rx ry, fracLane_of_fits free hp hfits⟩,
    fun c ac rd lane bits shift half x hx => ?extraction, fun c k op w rd rx ry sat free hread => ?shift⟩
  case halfUp =>
    rw [roundShift_half_up x hs]
    exact ediv_two_pow_bounds _ s
  case truncation =>
    rw [roundShift_truncates]
    exact ediv_two_pow_bounds x s
  case extraction =>
    subst hx
    cases half <;> rfl
  case shift =>
    simp only [alu_lane, hread]

end Sys2Proof.Machine

/-! The region map and the address orders of the memory (R388 to R390): every order is undone by `unmapAddr`, within a
region's share of each pseudo-channel. -/

namespace Sys2Proof.Machine

/-! ## Shares and stacks (R389, R390) -/

theorem share_mul_pseudoChannels (size : Nat) : share size * 128 = size * 2 ^ 30 := by
  unfold share
  omega

theorem quarter_lt {size o : Nat} (ho : o < size * 2 ^ 30) : o / (size * 2 ^ 28) < 4 :=
  Nat.div_lt_of_lt_mul (by omega)

theorem mapD_stack (size o : Nat) : (mapAddr 3 size o).1 / 32 = o / (size * 2 ^ 28) := by
  simp only [mapAddr]
  omega

theorem copyPc_stack (n : Nat) : copyPc n / 32 = (n / 32 + 2) % 4 := by
  unfold copyPc
  omega

/-! ## The orders, one by one (R390) -/

/-- An order gives offset `o` a pseudo-channel and a local address in the region's share, and `unmapAddr` reads `o` back
from the two. -/
def PlacesOffset (order size o : Nat) : Prop :=
  (mapAddr order size o).1 < 128 ∧ (mapAddr order size o).2 < share size ∧
    unmapAddr order size (mapAddr order size o).1 (mapAddr order size o).2 = o

theorem mapA_placesOffset {size o : Nat} (ho : o < size * 2 ^ 30) : PlacesOffset 0 size o := by
  simp only [PlacesOffset, mapAddr, unmapAddr, share]
  omega

/-- A local address under MAP_B is a row, a bank group, a block of the bank group's 1 KiB and a byte; in the offset the
block stands above the pseudo-channel, next to the row. -/
theorem unmapAddr_mapB {row group block byte : Nat} (size n : Nat) (hgroup : group < 4) (hblock : block < 4) (hbyte : byte < 256) :
    unmapAddr 1 size n (row * 4096 + group * 1024 + block * 256 + byte) =
      ((row * 4 + block) * 128 + n) * 1024 + group * 256 + byte := by
  simp only [unmapAddr]
  omega

theorem mapB_placesOffset {size o : Nat} (ho : o < size * 2 ^ 30) : PlacesOffset 1 size o := by
  simp only [PlacesOffset, mapAddr, share]
  rw [unmapAddr_mapB size _ (Nat.mod_lt _ (by decide)) (Nat.mod_lt _ (by decide)) (Nat.mod_lt _ (by decide))]
  omega

theorem mapC_placesOffset {size o : Nat} (ho : o < size * 2 ^ 30) : PlacesOffset 2 size o := by
  simp only [PlacesOffset, mapAddr, unmapAddr, share]
  omega

/-- Under MAP_D the offset's quotient by the quarter's size is the stack, and its bits are rearranged within the quarter. -/
theorem mapD_placesOffset {size o : Nat} (ho : o < size * 2 ^ 30) : PlacesOffset 3 size o := by
  have hquarter := quarter_lt ho
  have hrest : o % (size * 2 ^ 28) < size * 2 ^ 28 := Nat.mod_lt o (by omega)
  have hoffset := Nat.div_add_mod' o (size * 2 ^ 28)
  simp only [PlacesOffset, unmapAddr, mapD_stack]
  simp only [mapAddr, share]
  omega

/-- Settles O56: the orders one by one; MAP_D's pseudo-channels lie on the stack of their quarter, and the copy's two
stacks on. -/
theorem addressOrders : Obligations.AddressOrders := by
  refine ⟨fun order size o horder ho => ?oneToOne, share_mul_pseudoChannels, fun size o _ => ⟨mapD_stack size o, ?copy⟩⟩
  case oneToOne =>
    match order, horder with
    | 0, _ => exact mapA_placesOffset ho
    | 1, _ => exact mapB_placesOffset ho
    | 2, _ => exact mapC_placesOffset ho
    | 3, _ => exact mapD_placesOffset ho
  case copy => rw [copyPc_stack, mapD_stack]

/-! ## The region map at module reset (R388) -/

/-- Settles O4, by reading the eight regions of the reset state. -/
theorem resetMemoryMap : Obligations.ResetMemoryMap := by
  refine ⟨rfl, rfl, rfl, ?disjoint⟩
  case disjoint => decide

end Sys2Proof.Machine

/-! Event counters (R501 to R503): what MON.COUNTER answers, one lemma per row of R503's table. -/

namespace Sys2Proof.Machine

/-! ## Checks in their order (R46) -/

@[simp] theorem checks_nil (r : Reply) : checks [] r = r := rfl

@[simp] theorem checks_cons_true (st det : Nat) (cs : List (Bool × Nat × Nat)) (r : Reply) :
    checks ((true, st, det) :: cs) r = .fail st det := rfl

@[simp] theorem checks_cons_false (st det : Nat) (cs : List (Bool × Nat × Nat)) (r : Reply) :
    checks ((false, st, det) :: cs) r = checks cs r := rfl

/-! ## From the command to its reply -/

/-- The reply to MON.COUNTER, by OP (R502). -/
def monReply (c : Ctx) (s : State) : Reply :=
  match c.f 1 0 2 with
  | 0 => monConfigure c s
  | 3 => .fail eBadarg 1
  | _ => monReadRelease c s

theorem doMonCounter_eq (ch : Nat) : doMonCounter ch = runCmd ch 0x1101 monReply := rfl

theorem monReply_configure {c : Ctx} (hop : c.f 1 0 2 = 0) (s : State) : monReply c s = monConfigure c s := by
  simp only [monReply, hop]

theorem monReply_reservedOp {c : Ctx} (hop : c.f 1 0 2 = 3) (s : State) : monReply c s = .fail eBadarg 1 := by
  simp only [monReply, hop]

theorem monReply_readRelease {c : Ctx} (hop : c.f 1 0 2 = 1 ∨ c.f 1 0 2 = 2) (s : State) :
    monReply c s = monReadRelease c s := by
  rcases hop with hop | hop <;> simp only [monReply, hop]

theorem exec_monCounter {s : State} {c : Ctx} {rest : List Cmd} (h : AtHead s c 0x1101 rest) :
    exec (.monCounter c.ch) s = .next (runCmd c.ch 0x1101 monReply s) := by
  have hwf : (Instr.monCounter c.ch).wf = true := h.chan
  show answer (Instr.monCounter c.ch).wf (doMonCounter c.ch s) = _
  rw [hwf, doMonCounter_eq]
  rfl

theorem monCounter_answers {s u : State} {c : Ctx} {rest : List Cmd} {st det : Nat} {ws : List Nat}
    (h : AtHead s c 0x1101 rest) (hreply : monReply c (s.popped c rest) = .done u st det ws) :
    Answers (exec (.monCounter c.ch) s) u c st det ws := by
  rw [Answers, exec_monCounter h, runCmd_done h hreply]

theorem monCounter_refuses {s : State} {c : Ctx} {rest : List Cmd} {st det : Nat}
    (h : AtHead s c 0x1101 rest) (hreply : monReply c (s.popped c rest) = .fail st det) :
    Answers (exec (.monCounter c.ch) s) (s.popped c rest) c st det [] := by
  rw [Answers, exec_monCounter h, runCmd_fail h hreply]

/-- The form of a command of `n` argument words: its length, and the reserved bits of its first word clear (R502). -/
structure MonForm (c : Ctx) (n : Nat) : Prop where
  len : c.len = n
  low : c.f 1 4 4 = 0
  high : c.f 1 16 16 = 0

/-! ## Configure (R501, R503) -/

/-- The settings of a configure that R503 refuses for no issuer: a source of the catalogue that carries the qualifiers
enabled, and no reserved bit set. -/
structure ConfigureSettings (c : Ctx) : Prop where
  source : (sourceOf (c.f 2 0 16)).isSome = true
  reserved2 : c.f 2 20 12 = 0
  carried : carries (c.f 2 0 16) (c.f 2 16 4) = true
  reserved4 : c.f 4 28 4 = 0
  reserved5 : c.f 5 26 6 = 0

/-- The counter that a configure takes, if there is one: with ANY the lowest free one, otherwise the one named. -/
def monIndex (c : Ctx) (s : State) : Option Nat :=
  if c.bit 1 2 then firstFree s.mon.counters 0 256 else some (c.f 1 8 8)

theorem monConfigure_reservedSource {c : Ctx} (hform : MonForm c 5) (hsource : (sourceOf (c.f 2 0 16)).isSome = false)
    (s : State) : monConfigure c s = .fail eBadarg 1 := by
  obtain ⟨hlen, hlow, hhigh⟩ := hform
  simp [monConfigure, badLen, badArg, hlen, hlow, hhigh, ← Option.not_isSome, hsource]

theorem monConfigure_notCarried {c : Ctx} (hform : MonForm c 5) (hsource : (sourceOf (c.f 2 0 16)).isSome = true)
    (hcarries : carries (c.f 2 0 16) (c.f 2 16 4) = false) (s : State) : monConfigure c s = .fail eBadarg 2 := by
  obtain ⟨hlen, hlow, hhigh⟩ := hform
  simp [monConfigure, badLen, badArg, hlen, hlow, hhigh, ← Option.not_isSome, hsource, hcarries]

/-- Of settings that no check on the words refuses, what decides is the tenant, the owner, and the room. -/
theorem monConfigure_of_settings {c : Ctx} (hform : MonForm c 5) (hset : ConfigureSettings c) (s : State) :
    monConfigure c s =
      checks [(isVF c.issuer && !tenantSource (c.f 2 0 16), eTenant, 1),
          (!c.bit 1 2 && s.counterOther c.issuer (c.f 1 8 8), eTenant, 2), ((monIndex c s).isNone, eNospace, 0x1101)]
        (okWords (s.modMon fun m => { m with counters := tset m.counters ((monIndex c s).getD 0) (s.counterOf c) })
          [(monIndex c s).getD 0]) := by
  obtain ⟨hlen, hlow, hhigh⟩ := hform
  obtain ⟨hsource, h2, hcarries, h4, h5⟩ := hset
  simp [monConfigure, monIndex, badLen, badArg, reserved, hlen, hlow, hhigh, ← Option.not_isSome, hsource, h2, hcarries, h4, h5]

/-- The check of R501 refuses a VF alone, and only a source without the tenant qualifier. -/
theorem tenantCheck_passes {c : Ctx} (htenant : isVF c.issuer = true → tenantSource (c.f 2 0 16) = true) :
    (isVF c.issuer && !tenantSource (c.f 2 0 16)) = false := by
  simpa using htenant

section
variable {c : Ctx} (hform : MonForm c 5) (hset : ConfigureSettings c) (s : State)
include hform hset

theorem monConfigure_noTenantSource (hvf : isVF c.issuer = true) (hsource : tenantSource (c.f 2 0 16) = false) :
    monConfigure c s = .fail eTenant 1 := by
  rw [monConfigure_of_settings hform hset, hvf, hsource]
  rfl

variable (htenant : isVF c.issuer = true → tenantSource (c.f 2 0 16) = true)
include htenant

theorem monConfigure_other (hany : c.bit 1 2 = false) (hother : s.counterOther c.issuer (c.f 1 8 8) = true) :
    monConfigure c s = .fail eTenant 2 := by
  rw [monConfigure_of_settings hform hset, tenantCheck_passes htenant, hany, hother]
  rfl

theorem monConfigure_full (hany : c.bit 1 2 = true) (hfull : firstFree s.mon.counters 0 256 = none) :
    monConfigure c s = .fail eNospace 0x1101 := by
  have hindex : monIndex c s = none := by rw [monIndex, if_pos hany, hfull]
  rw [monConfigure_of_settings hform hset, tenantCheck_passes htenant, hany, hindex]
  rfl

theorem monConfigure_takes {i : Nat} (hindex : monIndex c s = some i)
    (hmine : c.bit 1 2 = false → s.counterOther c.issuer (c.f 1 8 8) = false) :
    monConfigure c s = okWords (s.modMon fun m => { m with counters := tset m.counters i (s.counterOf c) }) [i] := by
  have howner : (!c.bit 1 2 && s.counterOther c.issuer (c.f 1 8 8)) = false := by simpa using hmine
  rw [monConfigure_of_settings hform hset, tenantCheck_passes htenant, howner, hindex]
  rfl

end

/-! ## A VF counts within its own tenant (R501) -/

theorem hasBit_add_two_pow {m i : Nat} (h : hasBit m i = false) : hasBit (m + 2 ^ i) i = true := by
  have hbit : m / 2 ^ i % 2 = 0 := by simpa [hasBit] using h
  rw [hasBit, Nat.add_div_right m (Nat.two_pow_pos i)]
  simp only [beq_iff_eq]
  omega

theorem counterOf_tenantQualifier {c : Ctx} (hvf : isVF c.issuer = true) (s : State) :
    hasBit (s.counterOf c).qen 2 = true := by
  cases hbit : hasBit (c.f 2 16 4) 2 with
  | true => simp [State.counterOf, hbit]
  | false => simpa [State.counterOf, hvf, hbit] using hasBit_add_two_pow hbit

theorem counterOf_tenant {s : State} {c : Ctx} {t : Nat} (hvf : isVF c.issuer = true)
    (htenant : s.tenantOf c.issuer = some t) : (s.counterOf c).tenant = t := by
  simp [State.counterOf, hvf, htenant]

/-! ## Read and release (R502, R503) -/

/-- A free counter has no owner to refuse anyone. -/
theorem counterOther_of_free {s : State} {i : Nat} (hfree : tget s.mon.counters i = none) (issuer : Nat) :
    s.counterOther issuer i = false := by
  simp [State.counterOther, hfree]

section
variable {c : Ctx} {s : State} (hform : MonForm c 1)
include hform

theorem monReadRelease_other (hother : s.counterOther c.issuer (c.f 1 8 8) = true) :
    monReadRelease c s = .fail eTenant 2 := by
  obtain ⟨hlen, hlow, hhigh⟩ := hform
  simp [monReadRelease, badLen, badArg, hlen, hlow, hhigh, hother]

theorem monReadRelease_free (hfree : tget s.mon.counters (c.f 1 8 8) = none) :
    monReadRelease c s = .fail eState 0x1101 := by
  obtain ⟨hlen, hlow, hhigh⟩ := hform
  have hmine := counterOther_of_free hfree c.issuer
  simp [monReadRelease, badLen, badArg, hlen, hlow, hhigh, hmine, hfree]

variable {k : Counter} (hused : tget s.mon.counters (c.f 1 8 8) = some k)
  (hmine : s.counterOther c.issuer (c.f 1 8 8) = false)
include hused hmine

theorem monReadRelease_read (hop : c.f 1 0 2 = 1) :
    monReadRelease c s =
      okWords (if c.bit 1 3 then s.modMon fun m => { m with counters := tset m.counters (c.f 1 8 8) { k with value := 0 } } else s)
        [k.value % 2 ^ 32, k.value / 2 ^ 32] := by
  obtain ⟨hlen, hlow, hhigh⟩ := hform
  simp [monReadRelease, badLen, badArg, hlen, hlow, hhigh, hmine, hused, hop]

theorem monReadRelease_release (hop : c.f 1 0 2 = 2) :
    monReadRelease c s = ok (s.modMon fun m => { m with counters := tdel m.counters (c.f 1 8 8) }) := by
  obtain ⟨hlen, hlow, hhigh⟩ := hform
  simp [monReadRelease, badLen, badArg, hlen, hlow, hhigh, hmine, hused, hop]

end

/-! ## Every case of R503's table -/

/-- Settles O59: OP picks the reply, and each clause is the row of R503's table that its hypotheses select. Taking the
command off its queue leaves the monitors and the tenants as they were, so the lemmas apply to the state without it. -/
theorem eventCounters : Obligations.EventCounters := by
  refine ⟨fun s c rest i h hop hlen hlow hhigh => ?configure,
    fun s c hvf => ⟨counterOf_tenantQualifier hvf s, fun t => counterOf_tenant hvf⟩,
    fun s c rest i h hop hlen hlow hhigh hi => ?readRelease,
    fun s c rest h hop => monCounter_refuses h (monReply_reservedOp hop _)⟩
  case configure =>
    have hform : MonForm c 5 := ⟨hlen, hlow, hhigh⟩
    have hreply := monReply_configure hop (s.popped c rest)
    refine ⟨fun hsource => monCounter_refuses h (hreply.trans (monConfigure_reservedSource hform hsource _)),
      fun hsource hcarries => monCounter_refuses h (hreply.trans (monConfigure_notCarried hform hsource hcarries _)),
      fun hsource h2 hcarries h4 h5 => ?_⟩
    have hset : ConfigureSettings c := ⟨hsource, h2, hcarries, h4, h5⟩
    refine ⟨fun hvf hnone => monCounter_refuses h (hreply.trans (monConfigure_noTenantSource hform hset _ hvf hnone)),
      fun htenant => ⟨fun hany hother => ?other, fun hany hfull => ?full, fun htakes => ?takes⟩⟩
    case other => exact monCounter_refuses h (hreply.trans (monConfigure_other hform hset _ htenant hany hother))
    case full => exact monCounter_refuses h (hreply.trans (monConfigure_full hform hset _ htenant hany hfull))
    case takes =>
      refine monCounter_answers h (hreply.trans (monConfigure_takes hform hset _ htenant ?index ?mine))
      case index =>
        obtain ⟨hany, hfree⟩ | ⟨hany, hi, -⟩ := htakes
        · exact (if_pos hany).trans hfree
        · simp [monIndex, hany, hi]
      case mine =>
        obtain ⟨hany, -⟩ | ⟨-, rfl, hmine⟩ := htakes
        · simp [hany]
        · exact fun _ => hmine
  case readRelease =>
    subst hi
    have hform : MonForm c 1 := ⟨hlen, hlow, hhigh⟩
    have hreply := monReply_readRelease hop (s.popped c rest)
    exact ⟨fun hother => monCounter_refuses h (hreply.trans (monReadRelease_other hform hother)),
      fun hfree => monCounter_refuses h (hreply.trans (monReadRelease_free hform hfree)),
      fun k hused hmine =>
        ⟨fun hread => monCounter_answers h (hreply.trans (monReadRelease_read hform hused hmine hread)),
          fun hrelease => monCounter_answers h (hreply.trans (monReadRelease_release hform hused hmine hrelease))⟩⟩

end Sys2Proof.Machine

/-! One step of the module, whatever command it runs: a command that names units of the module has a next state, and that
state keeps the queue, the canonical memory, a locked binding table and the order of time, each as far as the command
allows. -/

namespace Sys2Proof.Machine

/-! ## What a command leaves, by its kind -/

/-- `t` is the state that command `i` leaves, and keeps of `s` what commands of its kind keep: a restart of the module the
queue and canonical memory, a writer of memory a locked binding table and time besides, and any other command every byte
of memory too. -/
structure Effect (i : Instr) (s t : State) : Prop where
  exec_eq : exec i s = answer i.wf t
  keepsQ : KeepsQ s t
  keepsM : restartsModule i = false → KeepsM s t
  keeps : restartsModule i = false → writesMemory i = false → Keeps s t

section
variable {i : Instr} {s t : State} (hexec : exec i s = answer i.wf t)
include hexec

theorem Effect.ofKeeps (h : Keeps s t) : Effect i s t := ⟨hexec, h.q, fun _ => h.m, fun _ _ => h⟩

theorem Effect.ofWriter (hwrites : writesMemory i = true) (h : KeepsM s t) : Effect i s t :=
  ⟨hexec, h.q, fun _ => h, fun _ hnot => absurd (hwrites.symm.trans hnot) (by decide)⟩

theorem Effect.ofRestart (hrestarts : restartsModule i = true) (h : KeepsQ s t) : Effect i s t :=
  ⟨hexec, h, fun hnot => absurd (hrestarts.symm.trans hnot) (by decide), fun hnot => absurd (hrestarts.symm.trans hnot) (by decide)⟩

end

/-- Every command has its effect: its meaning, `do` and its name, with what that was shown to keep. -/
theorem exists_effect (i : Instr) (s : State) : ∃ t, Effect i s t := by
  cases i with
  | mboxMsgWrite => exact ⟨_, .ofKeeps rfl (keeps_doMboxMsgWrite (Keeps.refl s))⟩
  | go => exact ⟨_, .ofKeeps rfl (keeps_doGo (Keeps.refl s))⟩
  | take => exact ⟨_, .ofKeeps rfl (keeps_doTake (Keeps.refl s))⟩
  | heldTimeout => exact ⟨_, .ofKeeps rfl (keeps_doHeldTimeout (Keeps.refl s))⟩
  | bindLock => exact ⟨_, .ofKeeps rfl (keeps_doBindLock (Keeps.refl s))⟩
  | controlTakeMessage => exact ⟨_, .ofKeeps rfl (keeps_doControlTakeMessage (Keeps.refl s))⟩
  | evrCtlEnable => exact ⟨_, .ofKeeps rfl (keeps_doEvrCtlEnable (Keeps.refl s))⟩
  | evrHeadWrite => exact ⟨_, .ofKeeps rfl (keeps_doEvrHeadWrite (Keeps.refl s))⟩
  | heldEventPost => exact ⟨_, .ofKeeps rfl (keeps_doHeldEventPost (Keeps.refl s))⟩
  | holdoffExpire => exact ⟨_, .ofKeeps rfl (keeps_doHoldoffExpire (Keeps.refl s))⟩
  | rcRegisterRead => exact ⟨_, .ofKeeps rfl (keeps_doRcRegisterRead (Keeps.refl s))⟩
  | registerWrite => exact ⟨_, .ofKeeps rfl (keeps_doRegisterWrite (Keeps.refl s))⟩
  | tbSnapCapture => exact ⟨_, .ofKeeps rfl (keeps_doTbSnapCapture (Keeps.refl s))⟩
  | tickNowRead => exact ⟨_, .ofKeeps rfl (keeps_doTickNowRead (Keeps.refl s))⟩
  | ptmDialogue => exact ⟨_, .ofKeeps rfl (keeps_doPtmDialogue (Keeps.refl s))⟩
  | lqFlush => exact ⟨_, .ofKeeps rfl (keeps_doLqFlush (Keeps.refl s))⟩
  | lqFlushComplete => exact ⟨_, .ofKeeps rfl (keeps_doLqFlushComplete (Keeps.refl s))⟩
  | prCtlEnable => exact ⟨_, .ofKeeps rfl (keeps_doPrCtlEnable (Keeps.refl s))⟩
  | prHeadWrite => exact ⟨_, .ofKeeps rfl (keeps_doPrHeadWrite (Keeps.refl s))⟩
  | sptxTailWrite => exact ⟨_, .ofKeeps rfl (keeps_doSptxTailWrite (Keeps.refl s))⟩
  | sptxSlotSend => exact ⟨_, .ofKeeps rfl (keeps_doSptxSlotSend (Keeps.refl s))⟩
  | cntLoRead => exact ⟨_, .ofKeeps rfl (keeps_doCntLoRead (Keeps.refl s))⟩
  | smbWrite => exact ⟨_, .ofKeeps rfl (keeps_doSmbWrite (Keeps.refl s))⟩
  | smbPointer => exact ⟨_, .ofKeeps rfl (keeps_doSmbPointer (Keeps.refl s))⟩
  | smbRead => exact ⟨_, .ofKeeps rfl (keeps_doSmbRead (Keeps.refl s))⟩
  | sysConfigSet => exact ⟨_, .ofKeeps rfl (keeps_doSysConfigSet (Keeps.refl s))⟩
  | sysConfigGet => exact ⟨_, .ofKeeps rfl (keeps_doSysConfigGet (Keeps.refl s))⟩
  | sysHealth => exact ⟨_, .ofKeeps rfl (keeps_doSysHealth (Keeps.refl s))⟩
  | sysResetUnit => exact ⟨_, .ofKeeps rfl (keeps_doSysResetUnit (Keeps.refl s))⟩
  | unitResetComplete => exact ⟨_, .ofKeeps rfl (keeps_doUnitResetComplete (Keeps.refl s))⟩
  | sysConfirm => exact ⟨_, .ofKeeps rfl (keeps_doSysConfirm (Keeps.refl s))⟩
  | tbConfig => exact ⟨_, .ofKeeps rfl (keeps_doTbConfig (Keeps.refl s))⟩
  | tbArm => exact ⟨_, .ofKeeps rfl (keeps_doTbArm (Keeps.refl s))⟩
  | tbStatus => exact ⟨_, .ofKeeps rfl (keeps_doTbStatus (Keeps.refl s))⟩
  | tickSource => exact ⟨_, .ofKeeps rfl (keeps_doTickSource (Keeps.refl s))⟩
  | tickSourceSwitch => exact ⟨_, .ofKeeps rfl (keeps_doTickSourceSwitch (Keeps.refl s))⟩
  | portConfig => exact ⟨_, .ofKeeps rfl (keeps_doPortConfig (Keeps.refl s))⟩
  | portStatus => exact ⟨_, .ofKeeps rfl (keeps_doPortStatus (Keeps.refl s))⟩
  | portRelease => exact ⟨_, .ofKeeps rfl (keeps_doPortRelease (Keeps.refl s))⟩
  | portReleaseComplete => exact ⟨_, .ofKeeps rfl (keeps_doPortReleaseComplete (Keeps.refl s))⟩
  | portRestore => exact ⟨_, .ofKeeps rfl (keeps_doPortRestore (Keeps.refl s))⟩
  | portRestoreComplete => exact ⟨_, .ofKeeps rfl (keeps_doPortRestoreComplete (Keeps.refl s))⟩
  | cascGroup => exact ⟨_, .ofKeeps rfl (keeps_doCascGroup (Keeps.refl s))⟩
  | cascGroupEnableComplete => exact ⟨_, .ofKeeps rfl (keeps_doCascGroupEnableComplete (Keeps.refl s))⟩
  | cascPeer => exact ⟨_, .ofKeeps rfl (keeps_doCascPeer (Keeps.refl s))⟩
  | confCreate => exact ⟨_, .ofKeeps rfl (keeps_doConfCreate (Keeps.refl s))⟩
  | confModify => exact ⟨_, .ofKeeps rfl (keeps_doConfModify (Keeps.refl s))⟩
  | confDestroy => exact ⟨_, .ofKeeps rfl (keeps_doConfDestroy (Keeps.refl s))⟩
  | legCreate => exact ⟨_, .ofKeeps rfl (keeps_doLegCreate (Keeps.refl s))⟩
  | legModify => exact ⟨_, .ofKeeps rfl (keeps_doLegModify (Keeps.refl s))⟩
  | legDestroy => exact ⟨_, .ofKeeps rfl (keeps_doLegDestroy (Keeps.refl s))⟩
  | legStats => exact ⟨_, .ofKeeps rfl (keeps_doLegStats (Keeps.refl s))⟩
  | legIdFree => exact ⟨_, .ofKeeps rfl (keeps_doLegIdFree (Keeps.refl s))⟩
  | keyInstall => exact ⟨_, .ofKeeps rfl (keeps_doKeyInstall (Keeps.refl s))⟩
  | keyRetire => exact ⟨_, .ofKeeps rfl (keeps_doKeyRetire (Keeps.refl s))⟩
  | keyPage => exact ⟨_, .ofKeeps rfl (keeps_doKeyPage (Keeps.refl s))⟩
  | keyContextFree => exact ⟨_, .ofKeeps rfl (keeps_doKeyContextFree (Keeps.refl s))⟩
  | fwdPolicy => exact ⟨_, .ofKeeps rfl (keeps_doFwdPolicy (Keeps.refl s))⟩
  | fwdSubscribe => exact ⟨_, .ofKeeps rfl (keeps_doFwdSubscribe (Keeps.refl s))⟩
  | fwdPin => exact ⟨_, .ofKeeps rfl (keeps_doFwdPin (Keeps.refl s))⟩
  | audRoute => exact ⟨_, .ofKeeps rfl (keeps_doAudRoute (Keeps.refl s))⟩
  | audMixpolicy => exact ⟨_, .ofKeeps rfl (keeps_doAudMixpolicy (Keeps.refl s))⟩
  | audStage => exact ⟨_, .ofKeeps rfl (keeps_doAudStage (Keeps.refl s))⟩
  | audDetect => exact ⟨_, .ofKeeps rfl (keeps_doAudDetect (Keeps.refl s))⟩
  | vidDecode => exact ⟨_, .ofKeeps rfl (keeps_doVidDecode (Keeps.refl s))⟩
  | vidEncode => exact ⟨_, .ofKeeps rfl (keeps_doVidEncode (Keeps.refl s))⟩
  | vidKeyreq => exact ⟨_, .ofKeeps rfl (keeps_doVidKeyreq (Keeps.refl s))⟩
  | layCanvas => exact ⟨_, .ofKeeps rfl (keeps_doLayCanvas (Keeps.refl s))⟩
  | layLayer => exact ⟨_, .ofKeeps rfl (keeps_doLayLayer (Keeps.refl s))⟩
  | layOrder => exact ⟨_, .ofKeeps rfl (keeps_doLayOrder (Keeps.refl s))⟩
  | layLut => exact ⟨_, .ofKeeps rfl (keeps_doLayLut (Keeps.refl s))⟩
  | shpNode => exact ⟨_, .ofKeeps rfl (keeps_doShpNode (Keeps.refl s))⟩
  | shpPolice => exact ⟨_, .ofKeeps rfl (keeps_doShpPolice (Keeps.refl s))⟩
  | gateList => exact ⟨_, .ofKeeps rfl (keeps_doGateList (Keeps.refl s))⟩
  | memMap => exact ⟨_, .ofKeeps rfl (keeps_doMemMap (Keeps.refl s))⟩
  | migrationSwitch => exact ⟨_, .ofWriter rfl rfl (keepsM_doMigrationSwitch _ s)⟩
  | protClass => exact ⟨_, .ofKeeps rfl (keeps_doProtClass (Keeps.refl s))⟩
  | protPartner => exact ⟨_, .ofKeeps rfl (keeps_doProtPartner (Keeps.refl s))⟩
  | calRequest => exact ⟨_, .ofKeeps rfl (keeps_doCalRequest (Keeps.refl s))⟩
  | calStart => exact ⟨_, .ofKeeps rfl (keeps_doCalStart (Keeps.refl s))⟩
  | calDone => exact ⟨_, .ofKeeps rfl (keeps_doCalDone (Keeps.refl s))⟩
  | calStatus => exact ⟨_, .ofKeeps rfl (keeps_doCalStatus (Keeps.refl s))⟩
  | updBegin => exact ⟨_, .ofKeeps rfl (keeps_doUpdBegin (Keeps.refl s))⟩
  | updBlock => exact ⟨_, .ofKeeps rfl (keeps_doUpdBlock (Keeps.refl s))⟩
  | updCommit => exact ⟨_, .ofKeeps rfl (keeps_doUpdCommit (Keeps.refl s))⟩
  | updCommitTakeover => exact ⟨_, .ofKeeps rfl (keeps_doUpdCommitTakeover (Keeps.refl s))⟩
  | updRevert => exact ⟨_, .ofKeeps rfl (keeps_doUpdRevert (Keeps.refl s))⟩
  | updRevertComplete => exact ⟨_, .ofKeeps rfl (keeps_doUpdRevertComplete (Keeps.refl s))⟩
  | updStatus => exact ⟨_, .ofKeeps rfl (keeps_doUpdStatus (Keeps.refl s))⟩
  | confirmWindowExpire => exact ⟨_, .ofKeeps rfl (keeps_doConfirmWindowExpire (Keeps.refl s))⟩
  | clusterReload => exact ⟨_, .ofKeeps rfl (keeps_doClusterReload (Keeps.refl s))⟩
  | monCounter => exact ⟨_, .ofKeeps rfl (keeps_doMonCounter (Keeps.refl s))⟩
  | monSample => exact ⟨_, .ofKeeps rfl (keeps_doMonSample (Keeps.refl s))⟩
  | clLock => exact ⟨_, .ofKeeps rfl (keeps_doClLock (Keeps.refl s))⟩
  | clLockComplete => exact ⟨_, .ofKeeps rfl (keeps_doClLockComplete (Keeps.refl s))⟩
  | opAbort => exact ⟨_, .ofKeeps rfl (keeps_doOpAbort (Keeps.refl s))⟩
  | functionLevelReset => exact ⟨_, .ofKeeps rfl (keeps_doFunctionLevelReset (Keeps.refl s))⟩
  | vfEnableClear => exact ⟨_, .ofKeeps rfl (keeps_doVfEnableClear (Keeps.refl s))⟩
  | controlTakeover => exact ⟨_, .ofKeeps rfl (keeps_doControlTakeover (Keeps.refl s))⟩
  | powerOn => exact ⟨_, .ofRestart rfl rfl (keepsQ_doPowerOn _ _ s)⟩
  | powerRemoved => exact ⟨_, .ofRestart rfl rfl (keepsQ_doPowerRemoved s)⟩
  | inputVoltageExcursion => exact ⟨_, .ofKeeps rfl (keeps_doInputVoltageExcursion (Keeps.refl s))⟩
  | pmbCtrlLow => exact ⟨_, .ofRestart rfl rfl (keepsQ_doPmbCtrlLow s)⟩
  | pmbusCommand => exact ⟨_, .ofRestart rfl rfl (keepsQ_doPmbusCommand _ _ _ s)⟩
  | telemetryRead => exact ⟨_, .ofKeeps rfl (keeps_doTelemetryRead (Keeps.refl s))⟩
  | telemetryLost => exact ⟨_, .ofKeeps rfl (keeps_doTelemetryLost (Keeps.refl s))⟩
  | perstAssert => exact ⟨_, .ofRestart rfl rfl (keepsQ_doPerstAssert _ s)⟩
  | perstDeassert => exact ⟨_, .ofKeeps rfl (keeps_doPerstDeassert (Keeps.refl s))⟩
  | moduleReset => exact ⟨_, .ofRestart rfl rfl (keepsQ_doModuleReset s)⟩
  | moduleStop => exact ⟨_, .ofKeeps rfl (keeps_doModuleStop (Keeps.refl s))⟩
  | thermalTrip => exact ⟨_, .ofKeeps rfl (keeps_doThermalTrip (Keeps.refl s))⟩
  | domainFault => exact ⟨_, .ofKeeps rfl (keeps_doDomainFault (Keeps.refl s))⟩
  | ppsInEdge => exact ⟨_, .ofKeeps rfl (keeps_doPpsInEdge (Keeps.refl s))⟩
  | ppsInLost => exact ⟨_, .ofKeeps rfl (keeps_doPpsInLost (Keeps.refl s))⟩
  | todInLine => exact ⟨_, .ofKeeps rfl (keeps_doTodInLine (Keeps.refl s))⟩
  | clk10mInPresent => exact ⟨_, .ofKeeps rfl (keeps_doClk10mInPresent (Keeps.refl s))⟩
  | clk10mInLost => exact ⟨_, .ofKeeps rfl (keeps_doClk10mInLost (Keeps.refl s))⟩
  | ppsOutEdge => exact ⟨_, .ofKeeps rfl (keeps_doPpsOutEdge (Keeps.refl s))⟩
  | todOutLine => exact ⟨_, .ofKeeps rfl (keeps_doTodOutLine (Keeps.refl s))⟩
  | ptpMessageTx => exact ⟨_, .ofKeeps rfl (keeps_doPtpMessageTx (Keeps.refl s))⟩
  | ptpMasterLost => exact ⟨_, .ofKeeps rfl (keeps_doPtpMasterLost (Keeps.refl s))⟩
  | ptpTcFrame => exact ⟨_, .ofKeeps rfl (keeps_doPtpTcFrame (Keeps.refl s))⟩
  | tickBoundary => exact ⟨_, .ofKeeps rfl (keeps_doTickBoundary (Keeps.refl s))⟩
  | delayEntryDue => exact ⟨_, .ofKeeps rfl (keeps_doDelayEntryDue (Keeps.refl s))⟩
  | trailheadDispatch => exact ⟨_, .ofKeeps rfl (keeps_doTrailheadDispatch (Keeps.refl s))⟩
  | itemComplete => exact ⟨_, .ofKeeps rfl (keeps_doItemComplete (Keeps.refl s))⟩
  | duePointReached => exact ⟨_, .ofKeeps rfl (keeps_doDuePointReached (Keeps.refl s))⟩
  | placementPass => exact ⟨_, .ofKeeps rfl (keeps_doPlacementPass (Keeps.refl s))⟩
  | extraPlacementPass => exact ⟨_, .ofKeeps rfl (keeps_doExtraPlacementPass (Keeps.refl s))⟩
  | drainMarkerPass => exact ⟨_, .ofKeeps rfl (keeps_doDrainMarkerPass (Keeps.refl s))⟩
  | frameRx => exact ⟨_, .ofKeeps rfl (keeps_doFrameRx (Keeps.refl s))⟩
  | srtpDecrypt => exact ⟨_, .ofKeeps rfl (keeps_doSrtpDecrypt (Keeps.refl s))⟩
  | cipherKat => exact ⟨_, .ofKeeps rfl (keeps_doCipherKat (Keeps.refl s))⟩
  | forwardPacket => exact ⟨_, .ofKeeps rfl (keeps_doForwardPacket (Keeps.refl s))⟩
  | srtpEncrypt => exact ⟨_, .ofKeeps rfl (keeps_doSrtpEncrypt (Keeps.refl s))⟩
  | legShaperRefill => exact ⟨_, .ofKeeps rfl (keeps_doLegShaperRefill (Keeps.refl s))⟩
  | groupRefill => exact ⟨_, .ofKeeps rfl (keeps_doGroupRefill (Keeps.refl s))⟩
  | qtoFire => exact ⟨_, .ofKeeps rfl (keeps_doQtoFire (Keeps.refl s))⟩
  | egressSelect => exact ⟨_, .ofKeeps rfl (keeps_doEgressSelect (Keeps.refl s))⟩
  | macTransmit => exact ⟨_, .ofKeeps rfl (keeps_doMacTransmit (Keeps.refl s))⟩
  | gateOversize => exact ⟨_, .ofKeeps rfl (keeps_doGateOversize (Keeps.refl s))⟩
  | gateIntervalEnd => exact ⟨_, .ofKeeps rfl (keeps_doGateIntervalEnd (Keeps.refl s))⟩
  | gateListStart => exact ⟨_, .ofKeeps rfl (keeps_doGateListStart (Keeps.refl s))⟩
  | gateRestart => exact ⟨_, .ofKeeps rfl (keeps_doGateRestart (Keeps.refl s))⟩
  | linkUp => exact ⟨_, .ofKeeps rfl (keeps_doLinkUp (Keeps.refl s))⟩
  | linkDown => exact ⟨_, .ofKeeps rfl (keeps_doLinkDown (Keeps.refl s))⟩
  | consentTimeout => exact ⟨_, .ofKeeps rfl (keeps_doConsentTimeout (Keeps.refl s))⟩
  | rateEstimate => exact ⟨_, .ofKeeps rfl (keeps_doRateEstimate (Keeps.refl s))⟩
  | layerRateMeasure => exact ⟨_, .ofKeeps rfl (keeps_doLayerRateMeasure (Keeps.refl s))⟩
  | probeWindowEnd => exact ⟨_, .ofKeeps rfl (keeps_doProbeWindowEnd (Keeps.refl s))⟩
  | upHoldExpire => exact ⟨_, .ofKeeps rfl (keeps_doUpHoldExpire (Keeps.refl s))⟩
  | spatialSwitchTimeout => exact ⟨_, .ofKeeps rfl (keeps_doSpatialSwitchTimeout (Keeps.refl s))⟩
  | fwdSwitchSlow => exact ⟨_, .ofKeeps rfl (keeps_doFwdSwitchSlow (Keeps.refl s))⟩
  | rtcpSend => exact ⟨_, .ofKeeps rfl (keeps_doRtcpSend (Keeps.refl s))⟩
  | transportFeedbackSend => exact ⟨_, .ofKeeps rfl (keeps_doTransportFeedbackSend (Keeps.refl s))⟩
  | nackSend => exact ⟨_, .ofKeeps rfl (keeps_doNackSend (Keeps.refl s))⟩
  | lossDeclared => exact ⟨_, .ofKeeps rfl (keeps_doLossDeclared (Keeps.refl s))⟩
  | keyRequestSend => exact ⟨_, .ofKeeps rfl (keeps_doKeyRequestSend (Keeps.refl s))⟩
  | rxFallbackEnd => exact ⟨_, .ofKeeps rfl (keeps_doRxFallbackEnd (Keeps.refl s))⟩
  | audioDecode => exact ⟨_, .ofKeeps rfl (keeps_doAudioDecode (Keeps.refl s))⟩
  | jbReanchor => exact ⟨_, .ofKeeps rfl (keeps_doJbReanchor (Keeps.refl s))⟩
  | loudnessReset => exact ⟨_, .ofKeeps rfl (keeps_doLoudnessReset (Keeps.refl s))⟩
  | mixRun => exact ⟨_, .ofKeeps rfl (keeps_doMixRun (Keeps.refl s))⟩
  | audioEncode => exact ⟨_, .ofKeeps rfl (keeps_doAudioEncode (Keeps.refl s))⟩
  | cascContribSend => exact ⟨_, .ofKeeps rfl (keeps_doCascContribSend (Keeps.refl s))⟩
  | dtmfDigitEnd => exact ⟨_, .ofKeeps rfl (keeps_doDtmfDigitEnd (Keeps.refl s))⟩
  | howlAnalysis => exact ⟨_, .ofKeeps rfl (keeps_doHowlAnalysis (Keeps.refl s))⟩
  | stageRun => exact ⟨_, .ofKeeps rfl (keeps_doStageRun (Keeps.refl s))⟩
  | stageTimerExpire => exact ⟨_, .ofKeeps rfl (keeps_doStageTimerExpire (Keeps.refl s))⟩
  | coreBundle => exact ⟨_, .ofKeeps rfl (keeps_doCoreBundle (Keeps.refl s))⟩
  | coreInterrupt => exact ⟨_, .ofKeeps rfl (keeps_doCoreInterrupt (Keeps.refl s))⟩
  | dmodeSwitch => exact ⟨_, .ofKeeps rfl (keeps_doDmodeSwitch (Keeps.refl s))⟩
  | decodeFrameSubmit => exact ⟨_, .ofKeeps rfl (keeps_doDecodeFrameSubmit (Keeps.refl s))⟩
  | decodeFrameComplete => exact ⟨_, .ofKeeps rfl (keeps_doDecodeFrameComplete (Keeps.refl s))⟩
  | encodeFrameStart => exact ⟨_, .ofKeeps rfl (keeps_doEncodeFrameStart (Keeps.refl s))⟩
  | encodeFrameComplete => exact ⟨_, .ofKeeps rfl (keeps_doEncodeFrameComplete (Keeps.refl s))⟩
  | canvasFrameStart => exact ⟨_, .ofKeeps rfl (keeps_doCanvasFrameStart (Keeps.refl s))⟩
  | composerBand => exact ⟨_, .ofKeeps rfl (keeps_doComposerBand (Keeps.refl s))⟩
  | layerSwitchTimeout => exact ⟨_, .ofKeeps rfl (keeps_doLayerSwitchTimeout (Keeps.refl s))⟩
  | cellRx => exact ⟨_, .ofKeeps rfl (keeps_doCellRx (Keeps.refl s))⟩
  | cellTx => exact ⟨_, .ofKeeps rfl (keeps_doCellTx (Keeps.refl s))⟩
  | retryRepeat => exact ⟨_, .ofKeeps rfl (keeps_doRetryRepeat (Keeps.refl s))⟩
  | hello => exact ⟨_, .ofKeeps rfl (keeps_doHello (Keeps.refl s))⟩
  | helloAck => exact ⟨_, .ofKeeps rfl (keeps_doHelloAck (Keeps.refl s))⟩
  | helloSend => exact ⟨_, .ofKeeps rfl (keeps_doHelloSend (Keeps.refl s))⟩
  | retry => exact ⟨_, .ofKeeps rfl (keeps_doRetry (Keeps.refl s))⟩
  | shedReq => exact ⟨_, .ofKeeps rfl (keeps_doShedReq (Keeps.refl s))⟩
  | shedAck => exact ⟨_, .ofKeeps rfl (keeps_doShedAck (Keeps.refl s))⟩
  | wakeReq => exact ⟨_, .ofKeeps rfl (keeps_doWakeReq (Keeps.refl s))⟩
  | wakeAck => exact ⟨_, .ofKeeps rfl (keeps_doWakeAck (Keeps.refl s))⟩
  | widthCommit => exact ⟨_, .ofKeeps rfl (keeps_doWidthCommit (Keeps.refl s))⟩
  | shedWindowClose => exact ⟨_, .ofKeeps rfl (keeps_doShedWindowClose (Keeps.refl s))⟩
  | laneFail => exact ⟨_, .ofKeeps rfl (keeps_doLaneFail (Keeps.refl s))⟩
  | laneReturn => exact ⟨_, .ofKeeps rfl (keeps_doLaneReturn (Keeps.refl s))⟩
  | heartbeat => exact ⟨_, .ofKeeps rfl (keeps_doHeartbeat (Keeps.refl s))⟩
  | heartbeatSend => exact ⟨_, .ofKeeps rfl (keeps_doHeartbeatSend (Keeps.refl s))⟩
  | peerLost => exact ⟨_, .ofKeeps rfl (keeps_doPeerLost (Keeps.refl s))⟩
  | cascGroupRetry => exact ⟨_, .ofKeeps rfl (keeps_doCascGroupRetry (Keeps.refl s))⟩
  | cascMediaRx => exact ⟨_, .ofKeeps rfl (keeps_doCascMediaRx (Keeps.refl s))⟩
  | shadowMessageSend => exact ⟨_, .ofKeeps rfl (keeps_doShadowMessageSend (Keeps.refl s))⟩
  | shadow => exact ⟨_, .ofKeeps rfl (keeps_doShadow (Keeps.refl s))⟩
  | shadowLag => exact ⟨_, .ofKeeps rfl (keeps_doShadowLag (Keeps.refl s))⟩
  | reserve => exact ⟨_, .ofKeeps rfl (keeps_doReserve (Keeps.refl s))⟩
  | reserveAck => exact ⟨_, .ofKeeps rfl (keeps_doReserveAck (Keeps.refl s))⟩
  | reserveTimeout => exact ⟨_, .ofKeeps rfl (keeps_doReserveTimeout (Keeps.refl s))⟩
  | release => exact ⟨_, .ofKeeps rfl (keeps_doRelease (Keeps.refl s))⟩
  | fullRequest => exact ⟨_, .ofKeeps rfl (keeps_doFullRequest (Keeps.refl s))⟩
  | claimRepeat => exact ⟨_, .ofKeeps rfl (keeps_doClaimRepeat (Keeps.refl s))⟩
  | shadowApply => exact ⟨_, .ofKeeps rfl (keeps_doShadowApply (Keeps.refl s))⟩
  | clusterFail => exact ⟨_, .ofKeeps rfl (keeps_doClusterFail (Keeps.refl s))⟩
  | degradeUndo => exact ⟨_, .ofKeeps rfl (keeps_doDegradeUndo (Keeps.refl s))⟩
  | unprotectedReplace => exact ⟨_, .ofKeeps rfl (keeps_doUnprotectedReplace (Keeps.refl s))⟩
  | hubHalfFail => exact ⟨_, .ofKeeps rfl (keeps_doHubHalfFail (Keeps.refl s))⟩
  | trailheadFail => exact ⟨_, .ofKeeps rfl (keeps_doTrailheadFail (Keeps.refl s))⟩
  | composerFail => exact ⟨_, .ofKeeps rfl (keeps_doComposerFail (Keeps.refl s))⟩
  | canvasMove => exact ⟨_, .ofKeeps rfl (keeps_doCanvasMove (Keeps.refl s))⟩
  | hbmRequest => exact ⟨_, .ofWriter rfl rfl (keepsM_doHbmRequest _ s)⟩
  | scrub => exact ⟨_, .ofKeeps rfl (keeps_doScrub (Keeps.refl s))⟩
  | marginAlarm => exact ⟨_, .ofKeeps rfl (keeps_doMarginAlarm (Keeps.refl s))⟩
  | loadedVerificationDue => exact ⟨_, .ofKeeps rfl (keeps_doLoadedVerificationDue (Keeps.refl s))⟩
  | retrainStall => exact ⟨_, .ofKeeps rfl (keeps_doRetrainStall (Keeps.refl s))⟩
  | sample => exact ⟨_, .ofKeeps rfl (keeps_doSample (Keeps.refl s))⟩
  | powerCapStep => exact ⟨_, .ofKeeps rfl (keeps_doPowerCapStep (Keeps.refl s))⟩
  | powerCapUndo => exact ⟨_, .ofKeeps rfl (keeps_doPowerCapUndo (Keeps.refl s))⟩
  | voltageLoopReport => exact ⟨_, .ofKeeps rfl (keeps_doVoltageLoopReport (Keeps.refl s))⟩
  | droop => exact ⟨_, .ofKeeps rfl (keeps_doDroop (Keeps.refl s))⟩
  | droopEnd => exact ⟨_, .ofKeeps rfl (keeps_doDroopEnd (Keeps.refl s))⟩
  | thermalLoop => exact ⟨_, .ofKeeps rfl (keeps_doThermalLoop (Keeps.refl s))⟩
  | laneEqualisationDone => exact ⟨_, .ofKeeps rfl (keeps_doLaneEqualisationDone (Keeps.refl s))⟩
  | wakeLanesLocked => exact ⟨_, .ofKeeps rfl (keeps_doWakeLanesLocked (Keeps.refl s))⟩
  | refreshWindowEnd => exact ⟨_, .ofKeeps rfl (keeps_doRefreshWindowEnd (Keeps.refl s))⟩
  | bmcResponseHoldEnd => exact ⟨_, .ofKeeps rfl (keeps_doBmcResponseHoldEnd (Keeps.refl s))⟩
  | standbyBootComplete => exact ⟨_, .ofKeeps rfl (keeps_doStandbyBootComplete (Keeps.refl s))⟩
  | smbAlertResponse => exact ⟨_, .ofKeeps rfl (keeps_doSmbAlertResponse (Keeps.refl s))⟩

theorem Effect.eq_of_next {i : Instr} {s t u : State} (h : Effect i s t) (hnext : exec i s = .next u) : u = t := by
  rw [h.exec_eq] at hnext
  cases hwf : i.wf <;> simp_all

/-! ## The statements -/

/-- Settles O1, by the definition of a step. -/
theorem stepRunsTheFrontCommand : Obligations.StepRunsTheFrontCommand := by
  refine ⟨fun s c rest => rfl, fun s hempty => ?_⟩
  simp only [step, hempty]

/-- Settles O2: the answer to a command is its effect where its units exist, and the one fault where they do not. -/
theorem onlyAbsentUnitsStop : Obligations.OnlyAbsentUnitsStop := by
  intro i s
  obtain ⟨t, ht⟩ := exists_effect i s
  exact ⟨fun hwf => ⟨t, by rw [ht.exec_eq, hwf, answer_true]⟩, fun hwf => by rw [ht.exec_eq, hwf, answer_false]⟩

/-- Settles O5: idling only advances the time, and a command's effect keeps the queue and canonical memory. -/
theorem everyStepKeepsMemoryCanonical : Obligations.EveryStepKeepsMemoryCanonical := by
  intro s t hmem hstep
  unfold step at hstep
  split at hstep
  case h_1 hempty =>
    cases hstep
    exact ⟨hmem, by rw [hempty]; exact hempty⟩
  case h_2 c rest hqueue =>
    obtain ⟨u, hu⟩ := exists_effect c { s with pending := rest }
    obtain rfl := hu.eq_of_next hstep
    exact ⟨hu.keepsQ.mem hmem, by rw [hqueue]; exact hu.keepsQ.pending⟩

/-- Settles O6: a command that restarts nothing keeps time, a locked table and the queue, and memory unless it writes it. -/
theorem whatNoCommandTouches : Obligations.WhatNoCommandTouches := by
  intro i s t hrestart hnext
  obtain ⟨u, hu⟩ := exists_effect i s
  obtain rfl := hu.eq_of_next hnext
  obtain ⟨m, -, hkeeps⟩ := hu.keepsM hrestart
  refine ⟨hkeeps.time, hkeeps.lock, hkeeps.pending, fun hwrites => ?_⟩
  have hmem := (hu.keeps hrestart hwrites).mem
  exact ⟨hmem, fun a => by rw [hmem]⟩

/-- Settles O7: answering is responding and draining, which change the channels, the doorbells and control's queues. -/
theorem answersChangeOnlyTheMailbox : Obligations.AnswersChangeOnlyTheMailbox := by
  intro u c st det ws
  obtain ⟨chans, fns, queues, rsps, h⟩ := answered_shape u c st det ws
  exact ⟨chans, fns, queues, rsps, h⟩

/-- Settles O3, by reading the reset state: its tables are empty, so every unit has its record's own reset values. -/
theorem resetState : Obligations.ResetState := by
  refine ⟨rfl, rfl, rfl, fun c => ⟨rfl, rfl, rfl, rfl, rfl⟩, fun k => ?bases, rfl, rfl, rfl, rfl, rfl, fun p => rfl, rfl⟩
  case bases =>
    match k with
    | 0 | 1 | 2 | 3 => exact ⟨rfl, rfl, rfl⟩
    | k + 4 => exact ⟨rfl, rfl, rfl⟩

end Sys2Proof.Machine

/-! The NBC tile format (R272 to R274): each part of a tile's code reads back as it was written, whatever bits follow. -/

namespace Sys2Proof.Machine

/-! ## Bits -/

@[simp] theorem length_toBits (n v : Nat) : (toBits n v).length = n := by
  induction n with
  | zero => rfl
  | succ n ih => simp [toBits, ih]

theorem foldl_toBits (n v a : Nat) :
    (toBits n v).foldl (fun m b => 2 * m + b2n b) a = a * 2 ^ n + v % 2 ^ n := by
  induction n generalizing a with
  | zero => simp [toBits, Nat.mod_one]
  | succ n ih =>
    have htop : b2n (v / 2 ^ n % 2 == 1) = v / 2 ^ n % 2 := by
      rcases Nat.mod_two_eq_zero_or_one (v / 2 ^ n) with h | h <;> simp [b2n, h]
    have hsplit : v % 2 ^ (n + 1) = v % 2 ^ n + 2 ^ n * (v / 2 ^ n % 2) := by rw [Nat.pow_succ, Nat.mod_mul]
    have hshift : 2 * a * 2 ^ n = a * (2 ^ n * 2) := by rw [Nat.mul_comm 2 a, Nat.mul_assoc, Nat.mul_comm 2]
    rw [toBits, List.foldl_cons, ih, htop, hsplit, Nat.pow_succ, Nat.add_mul, hshift, Nat.mul_comm (v / 2 ^ n % 2), Nat.add_assoc, Nat.add_comm (v % 2 ^ n)]

theorem ofBits_toBits {n v : Nat} (h : v < 2 ^ n) : ofBits (toBits n v) = v := by
  rw [ofBits, foldl_toBits, Nat.mod_eq_of_lt h]
  omega

theorem ofBits_toBits_mod (n v : Nat) : ofBits (toBits n v) = v % 2 ^ n := by
  rw [ofBits, foldl_toBits]
  omega

theorem readBits_toBits_mod (n v : Nat) (bs : List Bool) : readBits n (toBits n v ++ bs) = (v % 2 ^ n, bs) := by
  have hlen := length_toBits n v
  rw [readBits, List.take_left' hlen, List.drop_left' hlen, ofBits_toBits_mod]

theorem readBits_toBits {n v : Nat} (h : v < 2 ^ n) (bs : List Bool) : readBits n (toBits n v ++ bs) = (v, bs) := by
  rw [readBits_toBits_mod, Nat.mod_eq_of_lt h]

theorem readOnes_all (n : Nat) (bs : List Bool) : readOnes n (List.replicate n true ++ bs) = (n, bs) := by
  induction n with
  | zero => simp [readOnes]
  | succ n ih => simp [List.replicate_succ, readOnes, ih]

theorem readOnes_unary {n q : Nat} (h : q < n) (bs : List Bool) :
    readOnes n (List.replicate q true ++ false :: bs) = (q, bs) := by
  induction n generalizing q with
  | zero => omega
  | succ n ih =>
    cases q with
    | zero => rfl
    | succ q =>
      have hq := ih (Nat.lt_of_succ_lt_succ h)
      simp [List.replicate_succ, readOnes, hq]

/-! ## Samples (R273) -/

/-- The prediction stays in the samples' range: each of its cases is a sample or lies between two. -/
theorem predict_lt {d : Nat} (w : Nat) {done : List Nat} (hd : 0 < d) (h : ∀ x ∈ done, x < 2 ^ d) : predict d w done < 2 ^ d := by
  have hget : ∀ i, done.getD i 0 < 2 ^ d := by
    intro i
    rw [List.getD_eq_getElem?_getD]
    cases hi : done[i]? with
    | none => exact Nat.two_pow_pos d
    | some x => exact h x (List.mem_of_getElem? hi)
  have hhalf : 2 ^ (d - 1) < 2 ^ d := Nat.pow_lt_pow_right (by decide) (by omega)
  unfold predict
  extract_lets n a b c
  have ha : a < 2 ^ d := hget _
  have hb : b < 2 ^ d := hget _
  clear_value a b c
  split
  · exact hhalf
  · split
    · exact ha
    · split
      · exact hb
      · split
        · exact Nat.lt_of_le_of_lt (Nat.min_le_left a b) ha
        · split
          · exact Nat.max_lt.mpr ⟨ha, hb⟩
          · omega

section
variable {d : Nat} (hd : 0 < d)
include hd

theorem residual_lt (p x : Nat) : residual d p x < 2 ^ d := by
  have hpow : 2 ^ d = 2 * 2 ^ (d - 1) := by rw [← Nat.pow_succ']; congr 1; omega
  have hmod : (x + 2 ^ d - p) % 2 ^ d < 2 ^ d := Nat.mod_lt _ (Nat.two_pow_pos d)
  unfold residual
  extract_lets e
  split <;> omega

/-- A sample is restored from the difference to its prediction, folded or not. -/
theorem restore_residual {p x : Nat} (hx : x < 2 ^ d) (hp : p < 2 ^ d) : restore d p (residual d p x) = x := by
  have hpow : 2 ^ d = 2 * 2 ^ (d - 1) := by rw [← Nat.pow_succ']; congr 1; omega
  have hmod : (x + 2 ^ d - p) % 2 ^ d = if p ≤ x then x - p else x + 2 ^ d - p := by
    split
    · rw [show x + 2 ^ d - p = x - p + 2 ^ d by omega, Nat.add_mod_right]
      exact Nat.mod_eq_of_lt (by omega)
    · exact Nat.mod_eq_of_lt (by omega)
  unfold residual
  extract_lets e
  have he : e = if p ≤ x then x - p else x + 2 ^ d - p := hmod
  have hlt : e < 2 ^ d := Nat.mod_lt _ (Nat.two_pow_pos d)
  split
  next hsmall =>
    rw [restore, if_pos (by omega), show 2 * e / 2 = e by omega, he]
    split
    · rw [show p + (x - p) = x by omega, Nat.mod_eq_of_lt hx]
    · rw [show p + (x + 2 ^ d - p) = x + 2 ^ d by omega, Nat.add_mod_right, Nat.mod_eq_of_lt hx]
  next hlarge =>
    have hhalf : (2 * (2 ^ d - e) - 1 + 1) / 2 = 2 ^ d - e := by omega
    have hdiff : ((p : Int) - (2 ^ d - e : Nat)) % (2 ^ d : Nat) = x := by
      split at he
      · rw [show ((p : Int) - (2 ^ d - e : Nat)) = x + (2 ^ d : Nat) * (-1) by omega, Int.add_mul_emod_self_left]
        exact Int.emod_eq_of_lt (by omega) (by omega)
      · rw [show ((p : Int) - (2 ^ d - e : Nat)) = x by omega]
        exact Int.emod_eq_of_lt (by omega) (by omega)
    rw [restore, if_neg (by omega), hhalf, hdiff]
    rfl

end

theorem readU_codeU {d k u : Nat} (hu : u < 2 ^ d) (bs : List Bool) : readU d k (codeU d k u ++ bs) = (u, bs) := by
  unfold codeU
  extract_lets q
  split
  next hq =>
    rw [List.append_assoc, List.cons_append, readU, readOnes_unary hq, if_neg (by simp only; omega)]
    simp only [readBits_toBits_mod, Prod.mk.injEq, and_true]
    rw [Nat.mul_comm]
    exact Nat.div_add_mod u (2 ^ k)
  next => rw [List.append_assoc, readU, readOnes_all, if_pos rfl, readBits_toBits hu]

/-! ## Groups and planes (R273, R274) -/

theorem bestK_le (d : Nat) (us : List Nat) (n : Nat) : bestK d us n ≤ n := by
  induction n with
  | zero => exact Nat.le_refl 0
  | succ n ih =>
    simp only [bestK]
    split <;> omega

section
variable {d : Nat} (hd : 0 < d)
include hd

theorem decSamples_usOf (w k : Nat) (bs : List Bool) (xs : List Nat) : ∀ (done : List Nat), (∀ x ∈ done ++ xs, x < 2 ^ d) →
    decSamples d w k xs.length done ((usOf d w done xs).flatMap (codeU d k) ++ bs) = (done ++ xs, bs) := by
  induction xs with
  | nil => intro done _; simp [usOf, decSamples]
  | cons x xs ih =>
    intro done hsmall
    have hx : x < 2 ^ d := hsmall x (by simp)
    have hp : predict d w done < 2 ^ d := predict_lt w hd fun y hy => hsmall y (by simp [hy])
    simp only [usOf, List.flatMap_cons, List.append_assoc, List.length_cons, decSamples, readU_codeU (residual_lt hd _ _),
      restore_residual hd hx hp]
    rw [ih (done ++ [x]) (by simpa using hsmall)]
    simp

theorem decGroups_encGroups (w : Nat) (bs : List Bool) (n : Nat) : ∀ (done xs : List Nat), xs.length = 16 * n →
    (∀ x ∈ done ++ xs, x < 2 ^ d) → decGroups d w n done (encGroups d w n done xs ++ bs) = (done ++ xs, bs) := by
  induction n with
  | zero =>
    intro done xs hlen _
    obtain rfl : xs = [] := List.length_eq_zero_iff.mp (by omega)
    simp [encGroups, decGroups]
  | succ n ih =>
    intro done xs hlen hsmall
    have hcut : xs.take 16 ++ xs.drop 16 = xs := List.take_append_drop 16 xs
    have htake : (xs.take 16).length = 16 := by simp; omega
    have hk : bestK d (usOf d w done (xs.take 16)) 10 < 2 ^ 4 := Nat.lt_of_le_of_lt (bestK_le _ _ _) (by decide)
    have hgroup : ∀ x ∈ done ++ xs.take 16, x < 2 ^ d := fun x hx =>
      hsmall x (by rw [← hcut]; rw [← List.append_assoc]; exact List.mem_append_left _ hx)
    have hsamples := fun rest => decSamples_usOf hd w (bestK d (usOf d w done (xs.take 16)) 10) rest (xs.take 16) done hgroup
    rw [htake] at hsamples
    simp only [encGroups, decGroups, List.append_assoc, readBits_toBits hk, hsamples]
    rw [ih (done ++ xs.take 16) (xs.drop 16) (by simp; omega) (by rw [List.append_assoc, hcut]; exact hsmall),
      List.append_assoc, hcut]

end

theorem readRaw_toBits {d : Nat} (bs : List Bool) (xs : List Nat) (hsmall : ∀ x ∈ xs, x < 2 ^ d) :
    readRaw d xs.length (xs.flatMap (toBits d) ++ bs) = (xs, bs) := by
  induction xs with
  | nil => rfl
  | cons x xs ih =>
    obtain ⟨hx, hxs⟩ := List.forall_mem_cons.mp hsmall
    simp [readRaw, readBits_toBits hx, ih hxs]

theorem length_flatMap_toBits (d : Nat) (xs : List Nat) : (xs.flatMap (toBits d)).length = d * xs.length := by
  induction xs with
  | nil => rfl
  | cons x xs ih =>
    rw [List.flatMap_cons, List.length_append, ih, length_toBits, List.length_cons, Nat.mul_succ, Nat.add_comm]

theorem eq_replicate_of_flat {l : List Nat} (h : flat l = true) : l = List.replicate l.length (l.headD 0) :=
  List.eq_replicate_iff.mpr ⟨rfl, fun x hx => by simpa using List.all_eq_true.mp h x hx⟩

/-! ## Tiles (R272, R274) -/

theorem length_padBits {units : Nat} {bs : List Bool} (h : bs.length ≤ 256 * units) : (padBits units bs).length = 256 * units := by
  simp [padBits]
  omega

theorem rawUnits_pos {d : Nat} (hd : d = 8 ∨ d = 10) : 1 ≤ rawUnits d := by
  rcases hd with rfl | rfl <;> decide

/-- What a writer's choice has to be for tile `t`: it reads back as the tile, and its size is one that the format has. -/
structure CodesTile (d : Nat) (t : Tile) (c : Coding) : Prop where
  reads : decTile d c = some t
  nonempty : 1 ≤ c.units
  bound : c.units ≤ rawUnits d
  size : c.bits.length = 256 * c.units

section
variable {d : Nat} {t : Tile} (hd : d = 8 ∨ d = 10) (ht : TileOk d t)
include hd ht

theorem codesTile_flat (hy : flat t.y = true) (hcb : flat t.cb = true) (hcr : flat t.cr = true) :
    CodesTile d t ⟨2, 1, padBits 1 (toBits d (t.y.headD 0) ++ toBits d (t.cb.headD 0) ++ toBits d (t.cr.headD 0))⟩ := by
  obtain ⟨y, cb, cr⟩ := t
  obtain ⟨hly, hlcb, hlcr, hsmall⟩ := ht
  simp only at hy hcb hcr hly hlcb hlcr hsmall
  have hhead : ∀ l : List Nat, l.length ≠ 0 → (∀ x ∈ l, x ∈ y ++ cb ++ cr) → l.headD 0 < 2 ^ d := by
    intro l hl hsub
    cases l with
    | nil => exact absurd rfl hl
    | cons x l => exact hsmall x (hsub x (by simp))
  have hy0 := hhead y (by omega) (by simp +contextual)
  have hcb0 := hhead cb (by omega) (by simp +contextual)
  have hcr0 := hhead cr (by omega) (by simp +contextual)
  have hry := eq_replicate_of_flat hy
  have hrcb := eq_replicate_of_flat hcb
  have hrcr := eq_replicate_of_flat hcr
  rw [hly] at hry; rw [hlcb] at hrcb; rw [hlcr] at hrcr
  refine ⟨?_, Nat.le_refl 1, rawUnits_pos hd, length_padBits (by simp; omega)⟩
  simp only [decTile, padBits, List.append_assoc, readBits_toBits hy0, readBits_toBits hcb0, readBits_toBits hcr0, ← hry, ← hrcb, ← hrcr]

theorem codesTile_predicted (hfits : ((predictedBits d t).length + 255) / 256 < rawUnits d) :
    CodesTile d t ⟨1, ((predictedBits d t).length + 255) / 256, padBits (((predictedBits d t).length + 255) / 256) (predictedBits d t)⟩ := by
  obtain ⟨hly, hlcb, hlcr, hsmall⟩ := ht
  have hpos : 0 < d := by omega
  have hread : ∀ (w n : Nat) (l : List Nat) (bs : List Bool), l.length = 16 * n → (∀ x ∈ l, x ∈ t.y ++ t.cb ++ t.cr) →
      decGroups d w n [] (encGroups d w n [] l ++ bs) = (l, bs) := fun w n l bs hl hsub =>
    decGroups_encGroups hpos w bs n [] l hl fun x hx => hsmall x (hsub x (by simpa using hx))
  have hsome : 4 ≤ (predictedBits d t).length := by simp [predictedBits, encGroups]
  refine ⟨?_, by simp only; omega, Nat.le_of_lt hfits, length_padBits (by omega)⟩
  have hy := fun bs => hread 16 16 t.y bs (by omega) (by simp +contextual)
  have hcb := fun bs => hread 8 4 t.cb bs (by omega) (by simp +contextual)
  have hcr := fun bs => hread 8 4 t.cr bs (by omega) (by simp +contextual)
  simp only [decTile, padBits]
  simp only [predictedBits, List.append_assoc, hy, hcb, hcr]

theorem codesTile_raw :
    CodesTile d t ⟨0, rawUnits d, padBits (rawUnits d) ((t.y ++ t.cb ++ t.cr).flatMap (toBits d))⟩ := by
  obtain ⟨hly, hlcb, hlcr, hsmall⟩ := ht
  have hread : ∀ (l : List Nat) (bs : List Bool), (∀ x ∈ l, x ∈ t.y ++ t.cb ++ t.cr) →
      readRaw d l.length (l.flatMap (toBits d) ++ bs) = (l, bs) := fun l bs hsub =>
    readRaw_toBits bs l fun x hx => hsmall x (hsub x hx)
  have hy := fun bs => hread t.y bs (by simp +contextual)
  have hcb := fun bs => hread t.cb bs (by simp +contextual)
  have hcr := fun bs => hread t.cr bs (by simp +contextual)
  rw [hly] at hy; rw [hlcb] at hcb; rw [hlcr] at hcr
  have hbits : ((t.y ++ t.cb ++ t.cr).flatMap (toBits d)).length = 384 * d := by
    rw [length_flatMap_toBits, List.length_append, List.length_append, hly, hlcb, hlcr, Nat.mul_comm]
  refine ⟨?_, rawUnits_pos hd, Nat.le_refl _, length_padBits (by rw [hbits, rawUnits]; omega)⟩
  simp only [decTile, padBits, List.flatMap_append, List.append_assoc, hy, hcb, hcr]

end

/-- Settles O55: each of the three forms that a writer chooses from codes the tile. -/
theorem tilesRoundTrip : Obligations.TilesRoundTrip := by
  intro d t hd ht
  suffices h : CodesTile d t (encTile d t) from ⟨h.reads, h.nonempty, h.bound, h.size⟩
  unfold encTile
  split
  next hflat =>
    simp only [Bool.and_eq_true] at hflat
    exact codesTile_flat hd ht hflat.1.1 hflat.1.2 hflat.2
  next =>
    extract_lets bs n
    split
    next hfits => exact codesTile_predicted hd ht hfits
    next => exact codesTile_raw hd ht

end Sys2Proof.Machine

/-! From a command to the state it leaves: an event of the module, and a Shafipo command by the reply that its body gives. -/

namespace Sys2Proof.Machine

/-! ## Checks and outcomes -/

theorem checks_cons (b : Bool) (st det : Nat) (cs : List (Bool × Nat × Nat)) (r : Reply) :
    checks ((b, st, det) :: cs) r = if b then .fail st det else checks cs r := by
  cases b <;> rfl

/-- A well-formed command leaves the state that its meaning gives. -/
theorem exec_next {i : Instr} {s t : State} (hexec : exec i s = answer i.wf t) (hwf : i.wf = true) : exec i s = .next t := by
  rw [hexec, hwf, answer_true]

theorem exec_eq_next {i : Instr} {s t u : State} (hexec : exec i s = answer i.wf t) (hwf : i.wf = true) (h : t = u) : exec i s = .next u :=
  (exec_next hexec hwf).trans (congrArg _ h)

theorem nextWith_of {i : Instr} {s t : State} {P : State → Prop} (hexec : exec i s = answer i.wf t) (hwf : i.wf = true) (hP : P t) :
    NextWith (exec i s) P := ⟨t, exec_next hexec hwf, hP⟩

section
variable {i : Instr} {s u : State} {c : Ctx} {rest : List Cmd} {op : Nat} {body : Ctx → State → Reply} (h : AtHead s c op rest)
  (hexec : exec i s = answer (reqOk c.ch) (runCmd c.ch op body s))
include h hexec

theorem exec_runCmd : exec i s = .next (runCmd c.ch op body s) := by rw [hexec, h.chan, answer_true]

/-- A command whose body is done answers what the body says on the state that it leaves. -/
theorem answers_of_done {st det : Nat} {ws : List Nat} (hreply : body c (s.popped c rest) = .done u st det ws) :
    Answers (exec i s) u c st det ws := by
  rw [Answers, exec_runCmd h hexec, runCmd_done h hreply]

/-- A command whose body makes checks that all pass answers what follows them. -/
theorem answers_of_checks {st det : Nat} {ws : List Nat} {cs : List (Bool × Nat × Nat)} {r : Reply} (hbody : body c (s.popped c rest) = checks cs r)
    (hpass : ∀ x ∈ cs, x.1 = false) (hreply : r = .done u st det ws) : Answers (exec i s) u c st det ws :=
  answers_of_done h hexec (hbody.trans ((checks_pass hpass).trans hreply))

/-- A command whose body reports words after checks that all pass answers E_OK with them. -/
theorem answers_of_words {ws : List Nat} {cs : List (Bool × Nat × Nat)} (hbody : body c (s.popped c rest) = checks cs (okWords u ws))
    (hpass : ∀ x ∈ cs, x.1 = false) : Answers (exec i s) u c 0 0 ws :=
  answers_of_checks h hexec hbody hpass rfl

/-- A command whose body refuses leaves the state as it was, but for the answer. -/
theorem answers_of_fail {st det : Nat} (hreply : body c (s.popped c rest) = .fail st det) :
    Answers (exec i s) (s.popped c rest) c st det [] := by
  rw [Answers, exec_runCmd h hexec, runCmd_fail h hreply]

/-- A command whose body holds its answer back leaves the state of the body. -/
theorem next_of_hold (hreply : body c (s.popped c rest) = .hold u) : exec i s = .next (u.drain c.ch) := by
  rw [exec_runCmd h hexec, runCmd_hold h hreply]

end

/-- A long operation that finds room is accepted on the state without its command. -/
theorem startLong_popped {s : State} {c : Ctx} {rest : List Cmd} {op a b d : Nat} {go : Nat → State → State} (h : AtHead s c op rest)
    (hroom : s.outstanding c.issuer < 256) :
    startLong c (s.popped c rest) a b d go =
      .done (go (s.fn c.issuer).nextHandle ((s.popped c rest).accept c.issuer c.tag op a b d).2) eDeferred (s.fn c.issuer).nextHandle [] := by
  rw [← h.opcode]
  exact startLong_ok hroom

theorem nextWith_of_answers {o : Host.Outcome State Fault Refusal} {u : State} {c : Ctx} {st det : Nat} {ws : List Nat} {P : State → Prop}
    (h : Answers o u c st det ws) (hP : P (u.answered c st det ws)) : NextWith o P := ⟨_, h, hP⟩

/-! ## Updates of a unit that agree on its present state -/

theorem State.modChan_congr {s : State} {k : Nat} {f g : Chan → Chan} (h : f (s.chan k) = g (s.chan k)) : s.modChan k f = s.modChan k g := by
  simp only [State.modChan, h]

theorem State.modFn_congr {s : State} {k : Nat} {f g : Fn → Fn} (h : f (s.fn k) = g (s.fn k)) : s.modFn k f = s.modFn k g := by
  simp only [State.modFn, h]

theorem State.modPort_congr {s : State} {k : Nat} {f g : Port → Port} (h : f (s.port k) = g (s.port k)) : s.modPort k f = s.modPort k g := by
  simp only [State.modPort, h]

theorem State.modGroup_congr {s : State} {k : Nat} {f g : LinkGroup → LinkGroup} (h : f (s.group k) = g (s.group k)) :
    s.modGroup k f = s.modGroup k g := by
  simp only [State.modGroup, h]

end Sys2Proof.Machine

/-! Mailbox channels (R25 to R32, R47): what the two ends of a channel do to it, and how control takes a command. -/

namespace Sys2Proof.Machine

/-! ## The sender's end (R26 to R28, R31) -/

theorem doMboxMsgWrite_sender {s : State} {mid ch : Nat} {buddy : Bool} (h : (s.bind ch).role mid = .sender buddy) (i : Nat) (w : Word) :
    doMboxMsgWrite mid ch i w s = s.modChan ch fun c => c.writeMsg (s.bind ch).shared buddy i w := by
  simp only [doMboxMsgWrite, h]

theorem doGo_sender {s : State} {mid ch : Nat} {buddy : Bool} (h : (s.bind ch).role mid = .sender buddy) {w : Word} (hgo : w.bit 0 = true)
    (hheld : (s.bind ch).shared = true → (s.chan ch).held = true → (s.chan ch).holder = buddy) :
    doGo mid ch w s =
      let t := s.modChan ch fun _ => ((s.chan ch).senderCtl w).2
      if (s.chan ch).full = false ∧ (s.chan ch).rie = true ∧ (s.bind ch).receiver < 128 then t.modFn (s.bind ch).receiver (fireVec 0) else t := by
  have hfree : ((s.bind ch).shared && (s.chan ch).heldByOther buddy) = false := by
    simp only [Chan.heldByOther, Bool.and_eq_false_iff, bne_eq_false_iff_eq]
    cases hs : (s.bind ch).shared <;> cases hh : (s.chan ch).held <;> simp_all
  simp only [doGo, h, hfree, Bool.false_eq_true, if_false]
  cases hf : (s.chan ch).full <;> simp [Chan.senderCtl, hgo, hf]

theorem Chan.writeMsg_full {c : Chan} (h : c.full = true) (shared buddy : Bool) (i : Nat) (w : Word) :
    c.writeMsg shared buddy i w = { c with denied := true } := by
  simp [Chan.writeMsg, h, setDenied]

theorem Chan.writeMsg_owned {c : Chan} (h : c.full = false) (buddy : Bool) (i : Nat) (w : Word) :
    c.writeMsg false buddy i w = { c with msg := c.msg.set i w } := by
  simp [Chan.writeMsg, h]

theorem Chan.writeMsg_takes {c : Chan} (h : c.full = false) {buddy : Bool} (hheld : c.held = true → c.holder = buddy) (i : Nat) (w : Word) :
    c.writeMsg true buddy i w = { c with msg := c.msg.set i w, held := true, holder := buddy } := by
  cases hh : c.held <;> simp_all [Chan.writeMsg, Chan.heldByOther]

theorem Chan.writeMsg_heldByOther {c : Chan} (hheld : c.held = true) {buddy : Bool} (hother : c.holder = !buddy) (i : Nat) (w : Word) :
    c.writeMsg true buddy i w = { c with denied := true } := by
  cases buddy <;> simp_all [Chan.writeMsg, Chan.heldByOther, setDenied]

/-! ## The receiver's end (R26, R27) -/

theorem doTake_full {s : State} {mid ch : Nat} (h : (s.bind ch).role mid = .receiver) (hfull : (s.chan ch).full = true) :
    doTake mid ch s =
      ({ s.modChan ch fun c => { c with full := false, held := false } with rdata := ((s.chan ch).msg.getD 0 0#32).toNat }).freed ch := by
  simp only [doTake, h, hfull, if_true]

theorem freed_of_sender {s : State} {ch : Nat} (h : (s.bind ch).sender ≠ 0xC0) : s.freed ch = s.emptied ch := if_pos h

/-- Settles O8, one clause for each access; an access is the update of the channel that its sender's or receiver's rule gives. -/
theorem mailboxCommands : Obligations.MailboxCommands := by
  refine ⟨fun s mid ch i w buddy hmid hch hi hrole hfull => ⟨?fullWrite, fun hheld hgo => ?fullGo⟩,
    fun s mid ch i w buddy hmid hch hi hrole hfree => ⟨fun hown => ?write, fun hshared hheld => ?takes, fun hshared hheld hother => ?other⟩,
    fun s mid ch w buddy hmid hch hrole hfree hheld hgo hrie => ?go,
    fun s mid ch hmid hch hrole hfull hsender => ?take, fun s mid ch hmid hch hrole hempty => ?takeEmpty,
    fun s ch hlo hhi hheld hempty => ?timeout, fun s w hlock => ?lock⟩
  case fullWrite =>
    refine exec_eq_next rfl (by simp [Instr.wf, hmid, hch, hi]) ?_
    rw [doMboxMsgWrite_sender hrole]
    exact State.modChan_congr (Chan.writeMsg_full hfull _ _ i w)
  case fullGo =>
    refine exec_eq_next rfl (by simp [Instr.wf, hmid, hch]) ?_
    rw [doGo_sender hrole hgo hheld]
    simp only [hfull, Bool.true_eq_false, false_and, if_false]
    exact State.modChan_congr (by simp [Chan.senderCtl, hgo, hfull])
  case write =>
    refine exec_eq_next rfl (by simp [Instr.wf, hmid, hch, hi]) ?_
    rw [doMboxMsgWrite_sender hrole, hown]
    exact State.modChan_congr (Chan.writeMsg_owned hfree _ i w)
  case takes =>
    refine exec_eq_next rfl (by simp [Instr.wf, hmid, hch, hi]) ?_
    rw [doMboxMsgWrite_sender hrole, hshared]
    exact State.modChan_congr (Chan.writeMsg_takes hfree hheld i w)
  case other =>
    refine exec_eq_next rfl (by simp [Instr.wf, hmid, hch, hi]) ?_
    rw [doMboxMsgWrite_sender hrole, hshared]
    exact State.modChan_congr (Chan.writeMsg_heldByOther hheld hother i w)
  case go =>
    refine exec_eq_next rfl (by simp [Instr.wf, hmid, hch]) ?_
    rw [doGo_sender hrole hgo hheld]
    have hctl : ((s.chan ch).senderCtl w).2 = { s.chan ch with full := true, sie := w.bit 3, denied := (s.chan ch).denied && !w.bit 6 } := by
      simp [Chan.senderCtl, hgo, hfree, hrie]
    simp only [hfree, true_and]
    rw [State.modChan_congr (g := fun c => { c with full := true, sie := w.bit 3, denied := c.denied && !w.bit 6 }) hctl]
  case take =>
    refine exec_eq_next rfl (by simp [Instr.wf, hmid, hch]) ?_
    rw [doTake_full hrole hfull]
    exact freed_of_sender hsender
  case takeEmpty =>
    refine exec_eq_next rfl (by simp [Instr.wf, hmid, hch]) ?_
    simp only [doTake, hrole, hempty, Bool.false_eq_true, if_false]
  case timeout =>
    refine exec_eq_next rfl (by simp [Instr.wf, hlo, hhi]) ?_
    simp [doHeldTimeout, hheld, hempty]
  case lock =>
    refine exec_eq_next rfl (by simp [Instr.wf, midOk]) ?_
    simp [doBindLock, hlock]

/-! ## Control takes a command (R39, R46, R47) -/

@[simp] theorem emptied_ctl (s : State) (ch : Nat) : (s.emptied ch).ctl = s.ctl := by
  unfold State.emptied
  extract_lets f
  split <;> rfl

@[simp] theorem emptied_upd (s : State) (ch : Nat) : (s.emptied ch).upd = s.upd := by
  unfold State.emptied
  extract_lets f
  split <;> rfl

/-- A message that is a whole command goes to the checks that need no argument. -/
theorem message_whole {s : State} {ch : Nat} {w0 : Word} {args : List Word} (hresponse : w0.bit 28 = false) (hmore : w0.bit 29 = false)
    (hreserved : w0.fld 30 2 = 0) (hdiscards : tget s.ctl.discards ch = none) (hsegs : tget s.ctl.segs ch = none)
    (htag : s.tagInUse (issuerOf ch) (w0.fld 16 8) = false) :
    s.message ch w0 args = s.arrive ch (w0.fld 0 16) (w0.fld 16 8) args := by
  simp [State.message, hdiscards, hsegs, State.firstMsg, headFault, hresponse, hreserved, htag, hmore]

/-- A command of the index with the LEN that its opcode needs, from an issuer that may issue it, is queued. -/
theorem arrive_accepted {s : State} {ch op tag : Nat} {args : List Word} {o : OpInfo} (hop : opTable.find? (·.op == op) = some o)
    (hlen : ∀ n, o.len = some n → n = args.length) (hissuer : s.issuerRefusal (issuerOf ch) o = none) :
    s.arrive ch op tag args = s.setQueue ch (s.queue ch ++ [⟨op, tag, args, none⟩]) := by
  have hform : o.len.any (· ≠ args.length) = false := by
    cases ho : o.len with
    | none => rfl
    | some n => simp [hlen n ho]
  simp only [State.arrive, State.enqueue, hop, hform, Bool.false_eq_true, if_false, hissuer]

/-- Settles O9: the message passes every check of framing, length and issuer; taking it off the channel changes nothing that
these checks read. -/
theorem controlTakesACommand : Obligations.ControlTakesACommand := by
  intro s ch w0 o hnext hw0 hne hresponse hmore hreserved hdiscards hsegs htag hop hlen hmsg hissuer
  have hargs : (((s.chan ch).msg.drop 1).take (w0.fld 24 4)).length = w0.fld 24 4 := by
    have : w0.fld 24 4 < 16 := Nat.mod_lt _ (by decide)
    simp [hmsg]
    omega
  refine exec_eq_next rfl rfl ?_
  simp only [doControlTakeMessage, hnext, hw0, if_neg hne]
  rw [message_whole hresponse hmore hreserved (by simpa using hdiscards) (by simpa using hsegs) (by simpa [State.tagInUse, State.queue] using htag),
    arrive_accepted hop (by rw [hargs]; exact hlen) (by simpa [State.issuerRefusal, State.tenantOf] using hissuer)]
  simp [State.queue]

end Sys2Proof.Machine

/-! The registers of a function: its event ring, its time registers, LQ_FLUSH and its packet rings (R34, R58 to R62, R70, R91, R101,
R142 to R144, R359 to R362). -/

namespace Sys2Proof.Machine

/-! ## Event rings -/

theorem writeEvrCtl_starts {r : EvRing} (hoff : r.en = false) (f : Nat) {w : Word} (hen : w.bit 8 = true) :
    writeEvrCtl f w r = { r with
      sizeLog2 := max 6 (min 16 (w.fld 0 5)), en := true, all := if isPF f then w.bit 9 else r.all, ie := w.bit 10
      head := 0, tail := 0, phase := true, entries := [], stopped := false } := by
  simp [writeEvrCtl, clamp, hoff, hen]

theorem writeEvrCtl_enabled {r : EvRing} (hon : r.en = true) (f : Nat) (w : Word) :
    writeEvrCtl f w r = { r with en := w.bit 8, all := if isPF f then w.bit 9 else r.all, ie := w.bit 10 } := by
  simp [writeEvrCtl, hon]

@[simp] theorem fireVec_held (v : Nat) (f : Fn) : (fireVec v f).held = f.held := rfl

@[simp] theorem fireVec_ev (v : Nat) (f : Fn) : (fireVec v f).ev = f.ev := rfl

@[simp] theorem eventVectors_held (code : Nat) (f : Fn) : (eventVectors code f).held = f.held := by
  unfold eventVectors
  dsimp only
  (repeat' split) <;> rfl

@[simp] theorem putEvent_held (f : Fn) (e : Event) : (f.putEvent e).held = f.held := by simp [Fn.putEvent]

theorem postHeld_stays {s : State} {f : Nat}
    (h : (s.fn f).held = [] ∨ (s.fn f).ev.en = false ∨ (s.fn f).ev.stopped = true ∨ (s.fn f).ev.free ≤ 1) (fuel : Nat) : s.postHeld f fuel = s := by
  cases fuel with
  | zero => rfl
  | succ n =>
    rw [State.postHeld]
    split
    · rfl
    next e es hheld =>
      have hfull : ((s.fn f).ev.en && !(s.fn f).ev.stopped && decide (1 < (s.fn f).ev.free)) = false := by
        obtain hnil | hdis | hstop | hfree := h
        · rw [hnil] at hheld; cases hheld
        · simp [hdis]
        · simp [hstop]
        · simp [Nat.not_lt.mpr hfree]
      simp [hfull]

/-- A held completion that the ring has room for is posted, and the next one is looked at. -/
theorem doHeldEventPost_cons {s : State} {f : Nat} {e : Event} {es : List Event} (hheld : (s.fn f).held = e :: es) (hen : (s.fn f).ev.en = true)
    (hstop : (s.fn f).ev.stopped = false) (hfree : 1 < (s.fn f).ev.free) :
    doHeldEventPost f s = doHeldEventPost f ((s.modFn f fun r => { r with held := es }.putEvent e).markPosted f e.handle) := by
  have hrest : (((s.modFn f fun r => { r with held := es }.putEvent e).markPosted f e.handle).fn f).held = es := by
    show ((s.modFn f fun r => { r with held := es }.putEvent e).fn f).held = es
    rw [State.modFn_fn_same, putEvent_held]
  rw [doHeldEventPost, doHeldEventPost, hrest, hheld, List.length_cons, State.postHeld]
  simp [hheld, hen, hstop, hfree]

/-- Settles O10, one clause for each register or event of R34, R58, R59, R62, R70, R91 and R101. -/
theorem eventRingsAndTimeRegisters : Obligations.EventRingsAndTimeRegisters := by
  refine ⟨⟨fun s fn w hfn hoff hen => ?starts, fun s fn w hfn hon => ?enabled, fun s fn w hfn => ?head,
      fun s fn e es hfn hheld hen hstop hfree => ?post, fun s fn hfn hstays => ?stays,
      fun s fn hfn hhold hdef hie hne => ?fires, fun s fn hfn hhold hquiet => ?ends⟩,
    fun s fn w hfn => ?capture, fun s fn hfn => ?tickNow, fun s port t hport hen => ?ptm⟩
  case starts =>
    refine exec_eq_next rfl (by simp [Instr.wf, hfn]) (State.modFn_congr ?_)
    rw [writeEvrCtl_starts hoff fn hen]
  case enabled =>
    refine exec_eq_next rfl (by simp [Instr.wf, hfn]) (State.modFn_congr ?_)
    rw [writeEvrCtl_enabled hon]
  case head => exact exec_next rfl (by simp [Instr.wf, hfn])
  case post =>
    have hwf : (Instr.heldEventPost fn).wf = true := by simp [Instr.wf, hfn]
    rw [exec_next rfl hwf, exec_next rfl hwf, doHeldEventPost_cons hheld hen hstop hfree]
  case stays => exact exec_eq_next rfl (by simp [Instr.wf, hfn]) (postHeld_stays hstays _)
  case fires =>
    refine exec_eq_next rfl (by simp [Instr.wf, hfn]) (State.modFn_congr ?_)
    simp [hhold, hdef, hie, hne, fireVec]
  case ends =>
    refine exec_eq_next rfl (by simp [Instr.wf, hfn]) (State.modFn_congr ?_)
    obtain hdef | hempty := hquiet
    · simp [hhold, hdef]
    · simp [hhold, hempty]
  case capture => exact exec_next rfl (by simp [Instr.wf, hfn])
  case tickNow => exact exec_next rfl (by simp [Instr.wf, hfn])
  case ptm =>
    refine exec_eq_next rfl (by simp [Instr.wf, hport]) ?_
    rw [doPtmDialogue, if_neg (by rw [hen]; decide)]

/-! ## LQ_FLUSH and the packet rings -/

/-- A flush empties the leg's queue. -/
theorem flush_leg {s : State} {n : Nat} {l : Leg} (h : s.leg n = some l) : (s.flush n).leg n = some { l with queue := [] } := by
  simp only [State.flush, h]
  split <;> simp

theorem doLqFlush_starts {s : State} {fn : Nat} {w : Word} {l : Leg} (hidle : (s.fn fn).lqFlush = false) (hflush : w.bit 16 = true)
    (hleg : s.leg (w.fld 0 16) = some l) (htouch : s.mayTouch fn (s.legTenant l) = true) :
    doLqFlush fn w s =
      (s.modFn fn fun r => { r with lqLeg := w.fld 0 16, lqFlush := true, lqDenied := r.lqDenied && !w.bit 17 }).flush (w.fld 0 16) := by
  simp [doLqFlush, hidle, hflush, hleg, htouch]

theorem writePrCtl_eq (w : Word) (p : PktRing) :
    writePrCtl w p =
      if p.en then { p with en := w.bit 8, ie := w.bit 9 }
      else if w.bit 8 then { p with
        sizeLog2 := max 4 (min 12 (w.fld 0 4)), slot := w.fld 4 2, en := true, ie := w.bit 9
        head := 0, tail := 0, phase := true, slots := [], armed := true }
      else { p with sizeLog2 := max 4 (min 12 (w.fld 0 4)), slot := w.fld 4 2, ie := w.bit 9 } := by
  cases hp : p.en
  · cases hw : w.bit 8
    · simp [writePrCtl, clamp, hp, hw]
    · simp [writePrCtl, clamp, hp, hw]
  · simp [writePrCtl, hp]

theorem hasRing_of {fn ring : Nat} (h : ring = 2 → isPF fn = true) : hasRing fn ring = true := by
  by_cases hr : ring = 2
  · simp [hasRing, h hr]
  · simp [hasRing, hr]

/-- Settles O11, one clause for each register of R142 to R144 and R359 to R362. -/
theorem queueAndPacketRingRegisters : Obligations.QueueAndPacketRingRegisters := by
  refine ⟨⟨fun s fn w l hfn hidle hflush hleg htouch => ?flush, fun s fn hfn => ?complete⟩,
    fun s fn ring w hfn hring hpf => ?ctl, fun s fn ring w hfn hring hrx hpf => ?head, fun s fn w hfn => ?tail⟩
  case flush =>
    exact ⟨_, exec_eq_next rfl (by simp [Instr.wf, hfn]) (doLqFlush_starts hidle hflush hleg htouch), rfl, flush_leg hleg⟩
  case complete => exact exec_next rfl (by simp [Instr.wf, hfn])
  case ctl =>
    refine exec_eq_next rfl (by simp [Instr.wf, hfn, hring]) ?_
    rw [doPrCtlEnable, if_pos (hasRing_of hpf), funext (writePrCtl_eq w)]
  case head =>
    refine exec_eq_next rfl (by simp [Instr.wf, hfn, hring]) ?_
    rw [doPrHeadWrite, if_neg (by simp [hrx, hasRing_of hpf])]
  case tail => exact exec_next rfl (by simp [Instr.wf, hfn])

end Sys2Proof.Machine

/-! The register map of BAR0, BAR2 and the Limlum control space (R5, R7, R32, R58, R490, R506, R508), and the management SMBus
(R35, R484 to R486). -/

namespace Sys2Proof.Machine

/-! ## Where an offset leads -/

theorem lt_of_isPF {fn : Nat} (h : isPF fn = true) : fn < 128 := by
  obtain rfl | rfl : fn = 0 ∨ fn = 64 := by simpa [isPF] using h
  all_goals decide

theorem doRcRegisterRead_evr {off : Nat} (hlo : 0x00A000 ≤ off) (hhi : off < 0x00A01C) (fn : Nat) (s : State) :
    doRcRegisterRead fn off s = { (readEvr fn off s).2 with rdata := (readEvr fn off s).1 } := by
  have h1 : ¬ off = 0 := by omega
  have h2 : ¬ off = 4 := by omega
  have h3 : ¬ off < 0x00A000 := by omega
  simp [doRcRegisterRead, h1, h2, h3, hlo, hhi]

theorem doRcRegisterRead_ring {r reg : Nat} (hr : r < 3) (hreg : reg < 0x20) (fn : Nat) (s : State) :
    doRcRegisterRead fn (0x00D000 + 0x20 * r + reg) s = { (readRing fn r reg s).2 with rdata := (readRing fn r reg s).1 } := by
  have hring : (0x00D000 + 0x20 * r + reg - 0x00D000) / 0x20 = r := by omega
  have hoff : (0x00D000 + 0x20 * r + reg) % 0x20 = reg := by omega
  unfold doRcRegisterRead
  rw [if_neg (by omega), if_neg (by omega), if_neg (by simp; omega), if_neg (by simp; omega), if_neg (by omega), if_neg (by simp; omega),
    if_neg (by simp; omega), if_pos (by simp; omega), hring, hoff]

theorem doRcRegisterRead_hbm {off : Nat} (hlo : 0x00E000 ≤ off) (hhi : off < 0x00F800) {fn : Nat} (hpf : isPF fn = true) (s : State) :
    doRcRegisterRead fn off s = { (readHbm off s).2 with rdata := (readHbm off s).1 } := by
  unfold doRcRegisterRead
  rw [if_neg (by omega), if_neg (by omega), if_neg (by simp; omega), if_neg (by simp; omega), if_neg (by omega), if_neg (by simp; omega),
    if_neg (by simp; omega), if_neg (by simp; omega), if_pos (by simp; omega), if_pos hpf]

theorem doRcRegisterRead_unnamed {off : Nat} (hoff : 0x011800 ≤ off) (fn : Nat) (s : State) : doRcRegisterRead fn off s = { s with rdata := 0 } := by
  unfold doRcRegisterRead
  rw [if_neg (by omega), if_neg (by omega), if_neg (by simp; omega), if_neg (by simp; omega), if_neg (by omega), if_neg (by simp; omega),
    if_neg (by simp; omega), if_neg (by simp; omega), if_neg (by simp; omega), if_neg (by simp; omega), if_neg (by simp; omega)]

theorem writeBar0_evr {off : Nat} (hlo : 0x00A000 ≤ off) (hhi : off < 0x00A01C) (fn : Nat) (w : Word) (s : State) :
    writeBar0 fn off w s = writeEvr fn off w s := by
  unfold writeBar0
  rw [if_neg (by simp; omega), if_pos (by simp; omega)]

theorem writePf_unnamed {off : Nat} (hoff : 0x011800 ≤ off) (w : Word) (s : State) : writePf off w s = s := by
  unfold writePf
  rw [if_neg (by omega), if_neg (by omega), if_neg (by omega), if_neg (by omega), if_neg (by simp; omega)]

theorem writeBar0_unnamed {off : Nat} (hoff : 0x011800 ≤ off) (fn : Nat) (w : Word) (s : State) : writeBar0 fn off w s = s := by
  unfold writeBar0
  rw [if_neg (by simp; omega), if_neg (by simp; omega), if_neg (by omega), if_neg (by omega), if_neg (by omega), if_neg (by simp; omega),
    writePf_unnamed hoff, ite_self]

/-! ## The registers that a read clears -/

theorem readEvr_lost (fn : Nat) (s : State) :
    readEvr fn 0x00A014 s = ((s.fn fn).ev.lost, s.modFn fn fun r => { r with ev := { r.ev with lost := 0 } }) := rfl

theorem readRing_lost {fn ring : Nat} (h : hasRing fn ring = true) (s : State) :
    readRing fn ring 0x14 s = (((s.fn fn).rings.getD ring {}).lost, s.modFn fn fun x => x.modRing ring fun p => { p with lost := 0 }) := by
  simp [readRing, h]

theorem readHbm_ce {n : Nat} (hn : n < 128) (s : State) :
    readHbm (0x00E200 + 4 * n) s = ((s.pchan n).ce, s.modPchan n fun p => { p with ce := 0 }) := by
  have hix : (0x00E200 + 4 * n - 0x00E200) / 4 = n := by omega
  unfold readHbm
  dsimp only
  rw [if_neg (by omega), if_neg (by omega), if_neg (by omega), if_neg (by omega), if_pos (by simp; omega), hix]

theorem readHbm_ue {n : Nat} (hn : n < 128) (s : State) :
    readHbm (0x00E400 + 4 * n) s = ((s.pchan n).ue, s.modPchan n fun p => { p with ue := 0 }) := by
  have hix : (0x00E400 + 4 * n - 0x00E400) / 4 = n := by omega
  unfold readHbm
  dsimp only
  rw [if_neg (by omega), if_neg (by omega), if_neg (by omega), if_neg (by omega), if_neg (by simp), if_pos (by simp; omega), hix]

theorem counterFor_of {s : State} {fn i : Nat} {c : Counter} (hc : tget s.mon.counters i = some c) (hmay : isPF fn = true ∨ c.owner = fn) :
    s.counterFor fn i = some c := by
  simp [State.counterFor, hc, hmay]

/-! ## The binding table and MSI-X -/

theorem writeLimlum_bind {c : Nat} (hc : c < 288) {s : State} (hlock : s.bindLock = false) (w : Word) :
    writeLimlum 0xC0 (0x003000 + 4 * c) w s =
      { s with binds := tset s.binds c ⟨w.fld 0 8, w.fld 8 8, w.bit 16 && decide (264 ≤ c), w.bit 31⟩ } := by
  have hix : (0x003000 + 4 * c - 0x003000) / 4 = c := by omega
  unfold writeLimlum
  rw [if_neg (by simp), if_neg (by omega), if_pos (by simp [hlock]; omega), hix]

theorem writeLimlum_refused {mid c : Nat} (hc : c < 288) {s : State} (h : s.bindLock = true ∨ mid ≠ 0xC0) (w : Word) :
    writeLimlum mid (0x003000 + 4 * c) w s = s := by
  unfold writeLimlum
  split
  · rfl
  next hmid =>
    rw [if_neg (by omega), if_neg (by simp [h.resolve_right hmid])]

theorem writeVec_mask (w : Word) (v : Vec) :
    writeVec 12 w v = if w.bit 0 then { v with mask := true } else { v with mask := false, pend := false, fired := v.fired + b2n v.pend } := rfl

/-- Settles O12, one clause for each register named. -/
theorem registerReadsAndWrites : Obligations.RegisterReadsAndWrites := by
  refine ⟨⟨fun s fn hfn => ?evrLost, fun s fn ring hfn hring hpf => ?prLost, fun s fn n hpf hn => ⟨?ce, ?ue⟩, fun s fn off hfn hoff => ?unnamed,
      fun s fn i c hfn hi hc hmay => ?cnt⟩,
    fun s fn w hfn => ?evrMod, fun s c w hc hlock => ?bind, fun s mid c w hmid hc hlock => ?locked, fun s fn v w hfn hv => ?mask,
    fun s fn off w hfn hoff => ?unnamedWrite⟩
  case evrLost =>
    refine exec_eq_next rfl (by simp [Instr.wf, hfn]) ?_
    rw [doRcRegisterRead_evr (by decide) (by decide), readEvr_lost]
  case prLost =>
    refine exec_eq_next rfl (by simp [Instr.wf, hfn]) ?_
    have hoff : 0x00D014 + 0x20 * ring = 0x00D000 + 0x20 * ring + 0x14 := by omega
    rw [hoff, doRcRegisterRead_ring hring (by decide), readRing_lost (hasRing_of hpf)]
  case ce =>
    refine exec_eq_next rfl (by simp [Instr.wf, lt_of_isPF hpf]) ?_
    rw [doRcRegisterRead_hbm (by omega) (by omega) hpf, readHbm_ce hn]
  case ue =>
    refine exec_eq_next rfl (by simp [Instr.wf, lt_of_isPF hpf]) ?_
    rw [doRcRegisterRead_hbm (by omega) (by omega) hpf, readHbm_ue hn]
  case unnamed => exact exec_eq_next rfl (by simp [Instr.wf, hfn]) (doRcRegisterRead_unnamed hoff fn s)
  case cnt =>
    refine exec_eq_next rfl (by simp [Instr.wf, hfn, hi]) ?_
    simp [doCntLoRead, counterFor_of hc hmay]
  case evrMod =>
    refine exec_eq_next rfl (by simp [Instr.wf, RegAddr.wf, hfn]) ?_
    exact writeBar0_evr (by decide) (by decide) fn w s
  case bind => exact exec_eq_next rfl (by simp [Instr.wf, RegAddr.wf, midOk]) (writeLimlum_bind hc hlock w)
  case locked => exact exec_eq_next rfl (by simp [Instr.wf, RegAddr.wf, hmid]) (writeLimlum_refused hc hlock w)
  case mask =>
    refine exec_eq_next rfl (by simp [Instr.wf, RegAddr.wf, hfn]) ?_
    have hix : (16 * v + 12) / 16 = v := by omega
    have hword : (16 * v + 12) % 16 = 12 := by omega
    show writeBar2 fn (16 * v + 12) w s = _
    rw [writeBar2, if_neg (by omega), hix, hword, funext (writeVec_mask w)]
  case unnamedWrite => exact exec_eq_next rfl (by simp [Instr.wf, RegAddr.wf, hfn]) (writeBar0_unnamed hoff fn w s)

/-! ## The management SMBus -/

theorem serving_smb {p : Cond} (h : p = .serving ∨ p = .stopped) : p.smb = true := by
  obtain rfl | rfl := h <;> rfl

/-- A good Write block goes to the window of the management controller's channels, or is counted. -/
theorem doSmbWrite_good {s : State} (hserving : s.power.cond = .serving) {bytes : List Byte} (hlen : bytes.length = 7) :
    doSmbWrite bytes true s =
      let off := smbOffset bytes
      let u := { s with pins := { s.pins with smbAns := some [] } }
      if 0x009000 ≤ off ∧ off < 0x009400 then writeChan 0xC8 ((off - 0x1000) / 0x80) (off % 0x80) (word (leNat (bytes.drop 3))) u
      else u.occur srcSmbDenied {} := by
  simp [doSmbWrite, hserving, hlen, Cond.smb]

theorem doSmbWrite_bad {pecOk : Bool} {bytes : List Byte} (h : pecOk = false ∨ bytes.length ≠ 7) (s : State) :
    doSmbWrite bytes pecOk s = { s with pins := { s.pins with smbAns := none } } := by
  rw [doSmbWrite, if_pos]
  obtain rfl | hlen := h
  · simp
  · simp [hlen]

theorem smbRead32_take {s : State} (hserving : s.power.cond = .serving) {ch : Nat} (hlo : 256 ≤ ch) (hhi : ch < 264) :
    smbRead32 (0x1044 + 0x80 * ch) s = doTake 0xC8 ch s := by
  have hch : (0x1044 + 0x80 * ch - 0x1000) / 0x80 = ch := by omega
  have hreg : (0x1044 + 0x80 * ch) % 0x80 = 0x44 := by omega
  unfold smbRead32
  rw [if_neg (by omega), if_neg (by omega), if_pos (by simp [hserving]; omega), hch, hreg, readChan, if_pos rfl]

theorem ite_ctl (p : Prop) [Decidable p] (u v : State) (x : Control) :
    (if p then { u with ctl := x } else { v with ctl := x }) = { (if p then u else v) with ctl := x } := by
  split <;> rfl

/-- Sending a message does not look at control's records. -/
theorem sendMsg_ctl (s : State) (ch : Nat) (m : List Word) (x : Control) :
    ({ s with ctl := x } : State).sendMsg ch m = { s.sendMsg ch m with ctl := x } :=
  let u := s.modChan ch fun h => { h with msg := m ++ h.msg.drop m.length, full := true }
  ite_ctl _ (u.modFn (s.bind ch).receiver (fireVec 0)) u x

/-- Control sends the next response that waits on an empty channel that is not held. -/
theorem pump_sends {s : State} {ch : Nat} {m : List Word} {ms : List (List Word)} (hempty : (s.chan ch).full = false)
    (hhold : s.ctl.bmcHold.contains ch = false) (hwaits : tgetD s.ctl.rsps ch [] = m :: ms) :
    s.pump ch = ({ s with ctl := { s.ctl with rsps := tset s.ctl.rsps ch ms } } : State).sendMsg ch m := by
  rw [State.pump, if_neg (by rw [hempty, hhold]; decide), hwaits, sendMsg_ctl]

/-- Settles O13, one clause for each kind of block. -/
theorem managementBusCommands : Obligations.ManagementBusCommands := by
  refine ⟨fun s bytes hserving hlen => ⟨fun ch i hlo hhi hi hoff => ?msg, fun ch hlo hhi hoff => ?ctl, fun hoff => ?outside⟩,
    fun s bytes pecOk hbad => ?bad, fun s bytes hup hlen => ?pointer, fun s pecOk hup hptr => ?ident,
    fun s pecOk ch hserving hlo hhi hptr => ⟨_, exec_next rfl ?takeWf, ?take⟩, fun s hup halert => ?alert,
    fun s ch m ms hlo hhi hodd hempty hwaits => ?holdEnd⟩
  case msg =>
    rw [exec_next (i := .smbWrite bytes true) rfl rfl, exec_next (i := .mboxMsgWrite 0xC8 ch i _) rfl (by simp [Instr.wf, midOk, hi]; omega),
      doSmbWrite_good hserving hlen]
    have hch : (smbOffset bytes - 0x1000) / 0x80 = ch := by omega
    have hreg : smbOffset bytes % 0x80 = 4 * i := by omega
    have hix : 4 * i / 4 = i := by omega
    dsimp only
    rw [if_pos (by omega), hch, hreg, writeChan, if_pos (by omega), hix]
  case ctl =>
    rw [exec_next (i := .smbWrite bytes true) rfl rfl, exec_next (i := .go 0xC8 ch _) rfl (by simp [Instr.wf, midOk]; omega),
      doSmbWrite_good hserving hlen]
    have hch : (smbOffset bytes - 0x1000) / 0x80 = ch := by omega
    have hreg : smbOffset bytes % 0x80 = 0x40 := by omega
    dsimp only
    rw [if_pos (by omega), hch, hreg, writeChan, if_neg (by decide), if_pos rfl]
  case outside =>
    refine exec_eq_next rfl rfl ?_
    rw [doSmbWrite_good hserving hlen]
    exact if_neg (by omega)
  case bad => exact exec_eq_next rfl rfl (doSmbWrite_bad hbad s)
  case pointer =>
    refine exec_eq_next rfl rfl ?_
    simp [doSmbPointer, serving_smb hup, hlen]
  case ident =>
    refine exec_eq_next rfl rfl ?_
    simp [doSmbRead, serving_smb hup, hptr, smbRead32]
  case takeWf => simp [Instr.wf, midOk]; omega
  case take =>
    refine exec_eq_next rfl rfl ?_
    have hnext : (0x1044 + 0x80 * ch + 4) % 2 ^ 24 = 0x1048 + 0x80 * ch := by omega
    simp only [doSmbRead, serving_smb (.inl hserving), Bool.not_true, Bool.false_eq_true, if_false, hptr, smbRead32_take hserving hlo hhi, hnext]
  case alert =>
    refine exec_eq_next rfl rfl ?_
    simp [doSmbAlertResponse, serving_smb hup, halert]
  case holdEnd =>
    refine exec_eq_next rfl (by simp [Instr.wf, hlo, hhi, hodd]) ?_
    exact pump_sends hempty (by simp) hwaits

end Sys2Proof.Machine

/-! Settings and SYS.HEALTH (R430, R448). -/

namespace Sys2Proof.Machine

/-! ## Settings -/

theorem Word.toNat_of_bit31 {w : Word} (h : w.bit 31 = true) : 2 ^ 31 ≤ w.toNat := by
  have := w.isLt
  simp only [Word.bit, beq_iff_eq] at h
  omega

theorem settingOk_tenant {ix : Nat} (hix : ix < 128) (h0 : ix ≠ 0) (h64 : ix ≠ 64) : settingOk 1 ix = true := by
  simp [settingOk, isPF, hix, h0, h64]

theorem setting_ne_of_tenant {s : State} {ix : Nat} {w : Word} (hbit : w.bit 31 = true) (h : s.tenantOf ix ≠ some (w.toNat - 2 ^ 31)) :
    s.setting 1 ix ≠ w.toNat := by
  have hw := Word.toNat_of_bit31 hbit
  simp only [State.setting]
  split
  next t ht => exact fun heq => h (by rw [ht, ← heq, Nat.add_sub_cancel])
  next => omega

/-! ## SYS.HEALTH -/

theorem degraded_false {s : State} (hclusters : ((List.range 48).filter fun k => !(s.cluster k).inService) = []) (hhalves : s.prot.halves.all id = true)
    (hcomps : s.prot.composers.all id = true) (hcopies : s.trail.copies.all id = true) (hpairs : s.ctl.pairs.all id = true) (hciphers : s.ciphers = []) :
    s.degraded = false := by
  have hany : (List.range 48).any (fun c => !(s.cluster c).inService) = false := by
    simpa [List.filter_eq_nil_iff] using hclusters
  simp only [List.all_eq_true, id] at hhalves hcomps hcopies hpairs
  simp only [State.degraded, hany, hciphers, List.any_nil, Bool.or_false, Bool.or_eq_false_iff, List.any_eq_false, Bool.not_eq_true', Bool.not_eq_false]
  exact ⟨⟨⟨⟨trivial, hhalves⟩, hcomps⟩, hcopies⟩, hpairs⟩

theorem degraded_true {s : State} (h : ((List.range 48).filter fun k => !(s.cluster k).inService) ≠ [] ∨ false ∈ s.prot.halves ∨
    false ∈ s.prot.composers ∨ false ∈ s.trail.copies ∨ false ∈ s.ctl.pairs) : s.degraded = true := by
  have hany : ∀ l : List Bool, false ∈ l → l.any (! ·) = true := fun l hl => List.any_eq_true.mpr ⟨false, hl, rfl⟩
  unfold State.degraded
  obtain hout | hhalf | hcomp | hcopy | hpair := h
  · obtain ⟨k, hk⟩ := List.exists_mem_of_ne_nil _ hout
    rw [List.mem_filter] at hk
    have hany : ((List.range 48).any fun c => !(s.cluster c).inService) = true := List.any_eq_true.mpr ⟨k, hk⟩
    simp only [hany, Bool.true_or]
  · simp [hany _ hhalf]
  · simp [hany _ hcomp]
  · simp [hany _ hcopy]
  · simp [hany _ hpair]

theorem healthState_eq (s : State) (hready : s.pins.modReady = true) : s.healthState = if s.degraded then 2 else 1 := by
  simp [State.healthState, hready]

/-- Settles O14: a key is written through the checks of R448, and each value of STATE is one value of `healthState`. -/
theorem settingsAndHealth : Obligations.SettingsAndHealth := by
  refine ⟨⟨fun s c rest h hkey hix h0 h64 hval hphase hown => ⟨fun hbit hnew => ?bind, fun hbit hbound => ?unbind⟩,
    fun s c rest h hkey hix hval hphase hnew hsession => ?mode, fun s c rest h hkey hix hlo hhi hphase hnew => ?window,
    fun s c rest h => ⟨fun hkey hix => ?getMode, fun hkey hix => ?getWindow, fun hkey hix h0 h64 t ht => ?getTenant, fun hkey => ?getNone⟩⟩,
    fun s c rest h hres => ⟨fun hready => ?notReady, fun hready hout hhalves hcomps hcopies hpairs hciphers => ?healthy, fun hready hfault => ?degraded⟩⟩
  case bind =>
    have hown' : (s.popped c rest).ownsObjects (c.f 1 16 16) = false := hown
    have hnew' : (s.popped c rest).setting 1 (c.f 1 16 16) ≠ (c.w 2).toNat := setting_ne_of_tenant hbit hnew
    exact answers_of_checks h rfl rfl
      (by simp [badArg, hkey, settingOk_tenant hix h0 h64, settingValueOk, hval, hphase, hbit, hnew', hown'])
      (by rw [hkey, Upd.setSetting, if_pos hbit]; rfl)
  case unbind =>
    have hown' : (s.popped c rest).ownsObjects (c.f 1 16 16) = false := hown
    exact answers_of_checks h rfl rfl
      (by simp [badArg, hkey, settingOk_tenant hix h0 h64, settingValueOk, hval, hphase, hbit, hbound, hown'])
      (by rw [hkey, Upd.setSetting, if_neg (by simp [hbit])]; rfl)
  case mode =>
    exact answers_of_checks h rfl rfl
      (by simp [badArg, hkey, hix, settingOk, settingValueOk, hval, hphase, State.setting, hnew, hsession]) (by rw [hkey]; rfl)
  case window =>
    exact answers_of_checks h rfl rfl
      (by simp [badArg, hkey, hix, settingOk, settingValueOk, hlo, hhi, hphase, State.setting, hnew]) (by rw [hkey]; rfl)
  case getMode => exact answers_of_checks h rfl rfl (by simp [badArg, hkey, hix, settingOk]) (by rw [hkey]; rfl)
  case getWindow => exact answers_of_checks h rfl rfl (by simp [badArg, hkey, hix, settingOk]) (by rw [hkey]; rfl)
  case getTenant =>
    have hset : (s.popped c rest).setting 1 (c.f 1 16 16) = t + 2 ^ 31 := by simp [State.setting, ht]
    exact answers_of_checks h rfl rfl (by simp [badArg, hkey, settingOk_tenant hix h0 h64]) (by rw [hkey, hset]; rfl)
  case getNone =>
    have h1 : c.f 1 0 16 ≠ 1 := by omega
    have h2 : c.f 1 0 16 ≠ 2 := by omega
    have h3 : c.f 1 0 16 ≠ 3 := by omega
    have hkeys : settingOk (c.f 1 0 16) (c.f 1 16 16) = false := by simp [settingOk, h1, h2, h3]
    exact answers_of_fail h rfl (by simp [badArg, hkeys, eBadarg])
  case notReady =>
    have hstate : (s.popped c rest).healthState = 0 := by simp [State.healthState, hready]
    exact answers_of_checks h rfl rfl (by simp [reserved, hres]) (by rw [hstate, Nat.zero_add]; rfl)
  case healthy =>
    have hstate : (s.popped c rest).healthState = 1 := by
      show s.healthState = _
      rw [healthState_eq _ hready, degraded_false hout hhalves hcomps hcopies hpairs hciphers]
      rfl
    exact answers_of_checks h rfl rfl (by simp [reserved, hres]) (by rw [hstate]; simp only [Nat.add_assoc]; rfl)
  case degraded =>
    have hstate : (s.popped c rest).healthState = 2 := by
      show s.healthState = _
      rw [healthState_eq _ hready, degraded_true hfault]
      rfl
    exact answers_of_checks h rfl rfl (by simp [reserved, hres]) (by rw [hstate]; simp only [Nat.add_assoc]; rfl)

end Sys2Proof.Machine

/-! SYS.RESET_UNIT and Function Level Reset (R52, R54, R431, R490). -/

namespace Sys2Proof.Machine

/-! ## A unit that is reset leaves service (R431) -/

theorem clearComposer_idle {s : State} {c : Nat} (h : (s.canvases.any fun x => x.2.composer == c) = false) : s.clearComposer c = s := by
  have hnone : s.servedBy c = [] := by
    rw [State.servedBy, List.filter_eq_nil_iff]
    exact List.any_eq_false.mp h
  simp [State.clearComposer, hnone]

theorem unitOff_composer {s : State} {unit : Nat} (h : (s.canvases.any fun x => x.2.composer == unit) = false) :
    (s.unitOff 1 unit).prot.composers = s.prot.composers.set unit false := by
  rw [State.unitOff, clearComposer_idle (by rw [domainOff_canvases]; exact h), domainOff_prot]

theorem unitOff_half (s : State) (unit : Nat) : (s.unitOff 2 unit).prot.halves = s.prot.halves.set unit false := by
  rw [State.unitOff, domainOff_prot]

theorem unitOff_copy (s : State) (unit : Nat) : (s.unitOff 3 unit).trail.copies = s.trail.copies.set unit false := by
  rw [State.unitOff, domainOff_trail]

theorem unitOff_pair (s : State) (unit : Nat) :
    (s.unitOff 4 unit).ctl.pairs = s.ctl.pairs.set unit false ∧ (s.unitOff 4 unit).ctl.standbyReady = false := by
  rw [State.unitOff, domainOff_ctl]
  exact ⟨rfl, rfl⟩

theorem unitOff_cipher (s : State) (unit : Nat) : ((s.unitOff 5 unit).cipher unit).offline = true := by
  simp [State.unitOff, State.modCipher, State.cipher]

/-- The operation whose drain ended, and that a self-test ends, is the one of the unit that the command names. -/
theorem findOp_eq_some {s : State} {op : Nat} {p : LongOp → Bool} {o : LongOp} (h : s.findOp op p = some o) : p o = true := by
  have := List.find?_some h
  simp only [Bool.and_eq_true] at this
  exact this.2

/-- No cluster is powered off while no reset of a cluster waits for its drain. -/
theorem powerOffs_idle {s : State} (h : ∀ x ∈ s.ctl.ops, x.opcode = 0x0104 → x.state = 0 → x.phase = 1) : s.powerOffs = s := by
  have hnone : (s.ctl.ops.filter fun o => o.opcode == 0x0104 && o.state == 0 && o.phase == 0) = [] := by
    rw [List.filter_eq_nil_iff]
    intro o ho hwaits
    simp only [Bool.and_eq_true, beq_iff_eq] at hwaits
    obtain ⟨⟨hop, hstate⟩, hphase⟩ := hwaits
    have := h o ho hop hstate
    omega
  rw [State.powerOffs, hnone, List.foldl_nil]

theorem failCluster_out {s : State} {cl : Nat} (h : (s.cluster cl).inService = false) (cause : Nat) : s.failCluster cl cause = s := by
  rw [State.failCluster, if_pos (by rw [h]; rfl)]

/-! ## Function Level Reset (R52) -/

/-- FLR of a function for which no command waits touches its registers, its channels, what control keeps for it, its sampler, the
rings of its encode jobs and, for a physical function, its PTM registers. -/
theorem flr_shape {s : State} {f : Nat} (h : tget s.ctl.waits (2 * f) = none) : ∃ time, s.flr f = { s with
    chans := tdel (tdel s.chans (2 * f)) (2 * f + 1), fns := tset s.fns f (s.fn f).flr, time := time
    ctl := { s.ctl.clearChannel (2 * f) with ops := s.ctl.ops.map (LongOp.flr f) }
    mon := { s.mon with samplers := tupd s.mon.samplers f fun x => { x with running := false } }
    encJobs := tmap (fun j => if j.creator = f then { j with ring := none } else j) s.encJobs } := by
  unfold State.flr
  rw [h]
  dsimp only
  split
  · exact ⟨_, rfl⟩
  · exact ⟨_, rfl⟩

theorem flr_fn {s : State} {f : Nat} (h : tget s.ctl.waits (2 * f) = none) (g : Nat) :
    (s.flr f).fn g = if g = f then (s.fn f).flr else s.fn g := by
  obtain ⟨time, hshape⟩ := flr_shape h
  rw [hshape]
  show tgetD (tset s.fns f (s.fn f).flr) g {} = _
  split
  next heq => rw [heq, tgetD_tset_same]
  next hne => exact tgetD_tset_ne _ _ _ hne

theorem flr_chan {s : State} {f : Nat} (h : tget s.ctl.waits (2 * f) = none) (k : Nat) :
    (s.flr f).chan k = if k = 2 * f ∨ k = 2 * f + 1 then {} else s.chan k := by
  obtain ⟨time, hshape⟩ := flr_shape h
  rw [hshape]
  show tgetD (tdel (tdel s.chans (2 * f)) (2 * f + 1)) k {} = _
  rw [tgetD_tdel, tgetD_tdel]
  by_cases hodd : k = 2 * f + 1
  · simp [hodd]
  · by_cases heven : k = 2 * f
    · simp [heven]
    · simp [hodd, heven, State.chan]

/-- The waits that FLR leaves are those that were there, but for the function's own. -/
theorem flr_waits {s : State} (h : ∀ f, tget s.ctl.waits (2 * f) = none) (f g : Nat) : tget (s.flr f).ctl.waits (2 * g) = none := by
  obtain ⟨time, hshape⟩ := flr_shape (h f)
  rw [hshape]
  show tget (tdel s.ctl.waits (2 * f)) (2 * g) = none
  rw [tget_tdel, h g, ite_self]

theorem foldl_flr (g : Nat → Nat) (ks : List Nat) {s : State} (h : ∀ f, tget s.ctl.waits (2 * f) = none) :
    (∀ f, (ks.foldl (fun s k => s.flr (g k)) s).fn f = if f ∈ ks.map g then (s.fn f).flr else s.fn f) ∧
      (ks.foldl (fun s k => s.flr (g k)) s).legs = s.legs ∧ (ks.foldl (fun s k => s.flr (g k)) s).confs = s.confs := by
  induction ks generalizing s with
  | nil => simp
  | cons k ks ih =>
    obtain ⟨hfn, hlegs, hconfs⟩ := ih (flr_waits h (g k))
    obtain ⟨time, hshape⟩ := flr_shape (h (g k))
    refine ⟨fun f => ?_, hlegs.trans (by rw [hshape]), hconfs.trans (by rw [hshape])⟩
    rw [List.foldl_cons, hfn, flr_fn (h _), List.map_cons]
    by_cases hk : f = g k
    · subst hk
      by_cases hmem : g k ∈ ks.map g
      · simp only [hmem, if_true, List.mem_cons, true_or]
        rfl
      · simp [hmem]
    · simp only [hk, if_false, List.mem_cons, false_or]

/-- Settles O15: a reset is a long operation whose start takes the unit out of service; a Function Level Reset is its shape. -/
theorem resetsOfUnitsAndFunctions : Obligations.ResetsOfUnitsAndFunctions := by
  refine ⟨⟨fun s c rest kind unit h hkind hunit hres hlim hlast hbusy hroom => ⟨fun hne => ⟨?reset, ?composer, ?half, ?copy, ?pair, ?cipher⟩,
        fun hk t hdrain hroom' => ?cluster, fun hk hdrain => ?clusterNone⟩,
      fun s kind unit o hidle hfind => ⟨?pass, ?fail⟩, fun s flow hflow => exec_next rfl (by simp [Instr.wf, hflow]),
      fun s cl cause hcl hcause => ?clusterFail⟩,
    fun s fn hfn hwaits => ?flr, fun s port hport hwaits => ?vf⟩
  case reset =>
    have hk : c.f 1 0 4 ≠ 0 := hkind ▸ hne
    have hkind5 : kind ≤ 5 := by
      refine Nat.le_of_not_lt fun hgt => ?_
      rw [List.getD_eq_getElem?_getD, List.getElem?_eq_none (show [48, 4, 2, 2, 2, 3072].length ≤ kind from hgt)] at hlim
      exact absurd hlim (Nat.not_lt_zero _)
    have hlast' : (s.popped c rest).lastUnit kind unit = false := hlast
    have hbusy' : (s.popped c rest).unitBusy kind unit = none := hbusy
    refine answers_of_checks h rfl rfl ?_ ?_
    · simp [badArg, busy, hkind, hunit, hres, resetLimit, hlast', hbusy', hkind5]
      simpa using hlim
    · rw [if_neg hk, hkind, hunit]
      show startLong c (s.popped c rest) (kind + 16 * unit) 0 0 _ = _
      rw [startLong_popped h hroom, State.startReset, if_neg hne]
  case composer =>
    rintro rfl hcanvas
    exact unitOff_composer hcanvas
  case half =>
    rintro rfl
    exact unitOff_half _ unit
  case copy =>
    rintro rfl
    exact unitOff_copy _ unit
  case pair =>
    rintro rfl
    exact unitOff_pair _ unit
  case cipher =>
    rintro rfl
    exact unitOff_cipher _ unit
  case cluster =>
    subst hk
    have hbusy' : (s.popped c rest).unitBusy 0 unit = none := hbusy
    refine answers_of_checks h rfl rfl ?_ ?_
    · simp [badArg, busy, hkind, hunit, hres, resetLimit, State.lastUnit, hbusy']
      simpa using hlim
    · rw [if_pos hkind, hkind, hunit, hdrain]
      show startLong c t (0 + 16 * unit) 0 0 _ = _
      rw [startLong_ok hroom', State.startReset, if_pos rfl, h.opcode, Nat.zero_add]
  case clusterNone =>
    subst hk
    have hbusy' : (s.popped c rest).unitBusy 0 unit = none := hbusy
    refine answers_of_fail h rfl ((checks_pass ?_).trans ?_)
    · simp [badArg, busy, hkind, hunit, hres, resetLimit, State.lastUnit, hbusy']
      simpa using hlim
    · rw [if_pos hkind, hunit, hdrain]
  case pass =>
    have hunit : o.a = kind + 16 * unit := by simpa using (Bool.and_eq_true_iff.mp (findOp_eq_some hfind)).1
    refine exec_eq_next rfl rfl ?_
    simp only [doUnitResetComplete, powerOffs_idle hidle, hfind, if_true, hunit]
  case fail =>
    refine exec_eq_next rfl rfl ?_
    simp only [doUnitResetComplete, powerOffs_idle hidle, hfind, Bool.false_eq_true, if_false]
  case clusterFail =>
    refine exec_eq_next rfl (by simp [Instr.wf, hcl]) ?_
    cases hin : (s.cluster cl).inService
    · simp [doClusterFail, failCluster_out hin]
    · simp [doClusterFail]
  case flr =>
    obtain ⟨time, hshape⟩ := flr_shape hwaits
    have hregs : (s.flr fn).fn fn = (s.fn fn).flr := (flr_fn hwaits fn).trans (if_pos rfl)
    refine nextWith_of rfl (by simp [Instr.wf, hfn]) ?_
    rw [doFunctionLevelReset, hregs]
    refine ⟨rfl, rfl, rfl, rfl, rfl, rfl, rfl, (flr_chan hwaits _).trans (if_pos (.inl rfl)), (flr_chan hwaits _).trans (if_pos (.inr rfl)),
      ?_, ?_, ?_, ?_, fun g hg => (flr_fn hwaits g).trans (if_neg hg), fun k heven hodd => (flr_chan hwaits k).trans (if_neg ?_), ?_⟩
    · rw [hshape]
      show tgetD (tdel s.ctl.queues (2 * fn)) (2 * fn) [] = []
      rw [tgetD_tdel, if_pos rfl]
    · rw [hshape]
      show tgetD (tdel s.ctl.rsps (2 * fn + 1)) (2 * fn + 1) [] = []
      rw [tgetD_tdel, if_pos rfl]
    · rw [hshape]
      intro x hx
      simp only [tget_tupd, if_true, Option.map_eq_some_iff] at hx
      obtain ⟨_, _, rfl⟩ := hx
      rfl
    · rw [hshape]
      intro j e he hcreator
      simp only [tget_tmap, Option.map_eq_some_iff] at he
      obtain ⟨j0, _, rfl⟩ := he
      by_cases hj : j0.creator = fn
      · simp [hj]
      · rw [if_neg hj] at hcreator
        exact absurd hcreator hj
    · simp [heven, hodd]
    · rw [hshape]
      exact ⟨rfl, rfl, rfl⟩
  case vf =>
    obtain ⟨hfn, hlegs, hconfs⟩ := foldl_flr (fun k => 64 * port + 1 + k) (List.range 63) hwaits
    refine nextWith_of rfl (by simp [Instr.wf, hport]) ⟨fun k hlo hhi => ?_, fun k hk => ?_, hlegs, hconfs⟩
    · rw [doVfEnableClear, hfn, if_pos (List.mem_map.mpr ⟨k - 1, by simp; omega, by omega⟩)]
      exact ⟨rfl, rfl⟩
    · rw [doVfEnableClear, hfn, if_neg]
      rw [List.mem_map]
      rintro ⟨j, hj, heq⟩
      rw [List.mem_range] at hj
      omega

end Sys2Proof.Machine

/-! Calibration and OP.ABORT (R55 to R57, R452 to R455). -/

namespace Sys2Proof.Machine

/-! ## Calibration -/

/-- The unit code of CAL.REQUEST is its kind in four bits and its number in twelve. -/
theorem Word.fld_unit (w : Word) : w.fld 0 16 % 16 = w.fld 0 4 ∧ w.fld 0 16 / 16 = w.fld 4 12 := by
  simp only [Word.fld]
  omega

/-- The work of a calibration goes on: nothing drains. -/
theorem calNext_working {s : State} {a : Nat} {o : LongOp} {os : List LongOp} (hops : s.calOps a = o :: os) (hphase : o.phase = 4) : s.calNext a = s := by
  simp [State.calNext, hops, State.calDrain, hphase]

theorem doCalDone_found {s : State} {kind unit : Nat} {o : LongOp} (hfind : ((s.calOps (kind + 16 * unit)).find? fun x => x.phase == 4) = some o)
    (result durUs : Nat) :
    doCalDone kind unit result durUs s =
      ((if result = 2 then (s.undrain o).calFailed kind unit else (s.calReturn o).calPassed kind unit).calResult o result durUs).calNext
        (kind + 16 * unit) := by
  simp only [doCalDone, hfind]

/-! ## OP.ABORT -/

theorem LongOp.final_false {o : LongOp} (hstate : o.state = 0) (hphase : o.opcode = 0x0104 → o.phase ≠ 1) : o.final = false := by
  by_cases hop : o.opcode = 0x0104
  · simp [LongOp.final, hstate, hphase hop]
  · simp [LongOp.final, hstate, hop]

/-- Settles O16: CAL.REQUEST is a long operation, and each state of an operation's record selects one check of OP.ABORT. -/
theorem calibrationsAndAborts : Obligations.CalibrationsAndAborts := by
  refine ⟨⟨fun s c rest h hres hunit hroom => ?request, fun s kind unit o os hops hphase => ?working,
      fun s u kind unit o os hnext hops hphase hready => ?start, fun s kind unit result durUs o hfind => ⟨fun hresult => ?passed, fun hresult => ?failed⟩,
      fun s c rest o h hres hfind => ⟨fun hstate hphase => ?waits, fun hstate hphase => ?works, fun hstate => ?done, fun hstate => ?aborted⟩⟩,
    fun s c rest h hres => ⟨fun o hfind hstate hphase => ?abort, fun o hfind hstate => ?late, fun o hfind hstate => ?again, fun hnone => ?unknown⟩⟩
  case request =>
    obtain ⟨hkind, hnum⟩ := Word.fld_unit (c.w 1)
    refine answers_of_checks h rfl rfl ?_ (startLong_popped h hroom)
    have hlim : ¬calLimit (c.f 1 0 16 % 16) ≤ c.f 1 0 16 / 16 := by
      rw [Ctx.f, hkind, hnum]
      exact Nat.not_le.mpr hunit
    simp [badArg, hlim, hres]
  case working =>
    refine exec_eq_next rfl rfl ?_
    simp [doCalStart, calNext_working hops hphase, hops, hphase]
  case start =>
    refine exec_eq_next rfl rfl ?_
    simp [doCalStart, hnext, hops, hphase, hready]
  case passed =>
    refine exec_eq_next rfl rfl ?_
    rw [doCalDone_found hfind, if_neg (by omega)]
  case failed =>
    subst hresult
    exact exec_eq_next rfl rfl (doCalDone_found hfind 2 durUs)
  case waits =>
    have h5 : o.phase ≠ 5 := by omega
    refine answers_of_done h rfl ?_
    simp [badArg, hres, hfind, hstate, Nat.ne_of_lt hphase, h5, okWords, eOk]
  case works =>
    refine answers_of_done h rfl ?_
    simp [badArg, hres, hfind, hstate, hphase, okWords, eOk]
  case done =>
    refine answers_of_done h rfl ?_
    simp [badArg, hres, hfind, hstate, okWords, eOk]
  case aborted =>
    refine answers_of_done h rfl ?_
    simp [badArg, hres, hfind, hstate, okWords, eOk]
  case abort =>
    refine answers_of_done h rfl ?_
    show (match (s.ctl.ops.reverse.find? fun x => x.fn == c.issuer && x.handle == c.f 1 0 16) with | none => _ | some o => _) = _
    rw [hfind]
    exact (checks_pass (by simp [reserved, hres, hstate, LongOp.final_false hstate hphase])).trans rfl
  case late =>
    refine answers_of_fail h rfl ?_
    simp [reserved, hres, hfind, hstate, LongOp.final, eAlreadyDone]
  case again =>
    refine answers_of_fail h rfl ?_
    simp [reserved, hres, hfind, hstate, eState]
  case unknown =>
    refine answers_of_fail h rfl ?_
    simp [hnone, eBadarg]

end Sys2Proof.Machine

/-! Module stop, failing hub halves and Trailhead copies, and the takeover of control (R53, R426, R427, R429, R441, R443). -/

namespace Sys2Proof.Machine

theorem LinkGroup.fresh_st (x : LinkGroup) (n : Nat) : (x.fresh n).st = n := rfl

/-- A module stop takes the links down. -/
theorem stopModule_port {s : State} {thermal : Bool} {n : Nat} {p : Port} (h : tget (s.stopModule thermal).ports n = some p) :
    p.link = false ∧ p.wire = none := by
  simp only [State.stopModule, tget_tmap, Option.map_eq_some_iff] at h
  obtain ⟨q, _, rfl⟩ := h
  exact ⟨rfl, rfl⟩

/-- A module stop takes the link groups down, but for those that are off. -/
theorem stopModule_group {s : State} {thermal : Bool} {g : Nat} {x : LinkGroup} (h : tget (s.stopModule thermal).casc.groups g = some x) :
    x.st = 0 ∨ x.st = 4 := by
  simp only [State.stopModule, tget_tmap, Option.map_eq_some_iff] at h
  obtain ⟨y, _, rfl⟩ := h
  by_cases hy : y.st = 0
  · simp [hy]
  · simp [hy, LinkGroup.fresh_st]

/-- The failure of one hub half of two: its queues lose what waited at that half. -/
theorem failHalf_one {s : State} {h cause : Nat} (hin : s.prot.halves.getD h false = true) (hother : s.prot.halves.getD (1 - h) false = true) :
    (s.failHalf h cause).prot.halves = s.prot.halves.set h false ∧ (s.failHalf h cause).legs = s.legs ∧ (s.failHalf h cause).mem = s.mem ∧
      (s.failHalf h cause).inQ = s.inQ.filter (fun p => p.port / 8 ≠ h) ∧ (s.failHalf h cause).power.cond = s.power.cond ∧
      (s.failHalf h cause).ports = s.ports := by
  have hin' : ¬(!s.prot.halves.getD h false) = true := by rw [hin]; decide
  simp only [State.failHalf, if_neg hin', hother, if_true]
  refine ⟨?_, ?_, ?_, ?_, ?_, ?_⟩ <;> simp

/-- The failure of the second hub half stops the module. -/
theorem failHalf_last {s : State} {h cause : Nat} (hin : s.prot.halves.getD h false = true) (hother : s.prot.halves.getD (1 - h) false = false) :
    (s.failHalf h cause).prot.halves = s.prot.halves.set h false ∧ (s.failHalf h cause).legs = s.legs ∧ (s.failHalf h cause).mem = s.mem ∧
      (s.failHalf h cause).inQ = [] ∧ (s.failHalf h cause).outQ = [] ∧ (s.failHalf h cause).fwdQ = [] ∧ (s.failHalf h cause).power.cond = .stopped := by
  have hin' : ¬(!s.prot.halves.getD h false) = true := by rw [hin]; decide
  simp only [State.failHalf, if_neg hin', hother, Bool.false_eq_true, if_false, State.stopModule]
  refine ⟨?_, ?_, ?_, ?_, ?_, ?_, trivial⟩ <;> simp

/-- The failure of a Trailhead copy keeps the ready lists and the cores, and stops the module when it was the last one. -/
theorem failTrail_active {s : State} {cause : Nat} (hin : s.trail.copies.getD s.trail.active false = true) :
    ∃ t : State, s.failTrail s.trail.active cause = t ∧ t.legs = s.legs ∧ t.mem = s.mem ∧
      t.trail = { s.trail with copies := s.trail.copies.set s.trail.active false, active := 1 - s.trail.active } ∧
      t.power.cond = if s.trail.copies.getD (1 - s.trail.active) false then s.power.cond else .stopped := by
  have hin' : ¬(!s.trail.copies.getD s.trail.active false) = true := by rw [hin]; decide
  refine ⟨_, rfl, ?_⟩
  simp only [State.failTrail, if_neg hin', if_true]
  cases hother : s.trail.copies.getD (1 - s.trail.active) false
  · simp only [Bool.false_eq_true, if_false, State.stopModule]
    exact ⟨by simp, by simp, by simp, trivial⟩
  · simp only [if_true]
    exact ⟨by simp, by simp, by simp, by simp⟩

theorem failControl_standby {s : State} (hready : s.ctl.standbyReady = true) (h3 : s.upd.phase ≠ 3) (h5 : s.upd.phase ≠ 5) :
    s.failControl = ({ s with ctl := { s.ctl with pairs := s.ctl.pairs.set s.ctl.active false, standbyReady := false } } : State).takeControl := by
  simp [State.failControl, hready, h3, h5]

/-- Settles O17, by the other unit's being in service or not. -/
theorem stopsAndTakeovers : Obligations.StopsAndTakeovers := by
  refine ⟨⟨fun s hstopped hunpowered => ?stop, fun s h cause hh hin => ?half, fun s cause hin => ?trail⟩,
    fun s hready h3 h5 => ?takeover, fun s hready => ?noStandby, fun s hready hpair hphase hcommit hreload => ?boot⟩
  case stop =>
    refine nextWith_of rfl rfl ?_
    rw [doModuleStop, if_neg (by simp [hstopped, hunpowered])]
    exact ⟨rfl, rfl, rfl, rfl, rfl, rfl, fun n p => stopModule_port, fun g x => stopModule_group, rfl, rfl, rfl⟩
  case half =>
    refine nextWith_of rfl (by simp [Instr.wf, hh]) ?_
    rw [doHubHalfFail]
    cases hother : s.prot.halves.getD (1 - h) false
    · obtain ⟨hhalves, hlegs, hmem, hin, hout, hfwd, hcond⟩ := failHalf_last (cause := cause) hin hother
      exact ⟨hhalves, hlegs, hmem, fun habs => absurd habs (by decide), fun _ => ⟨hin, hout, hfwd, hcond⟩⟩
    · obtain ⟨hhalves, hlegs, hmem, hin, hcond, hports⟩ := failHalf_one (cause := cause) hin hother
      exact ⟨hhalves, hlegs, hmem, fun _ => ⟨hin, hcond, hports⟩, fun habs => absurd habs (by decide)⟩
  case trail =>
    obtain ⟨t, ht, hlegs, hmem, htrail, hcond⟩ := failTrail_active (cause := cause) hin
    refine nextWith_of rfl rfl ?_
    rw [doTrailheadFail, ht, htrail, hcond]
    exact ⟨rfl, rfl, rfl, rfl, hlegs, hmem, fun hother => by rw [hother]; rfl, fun hother => by rw [hother]; rfl⟩
  case takeover =>
    refine nextWith_of rfl rfl ?_
    rw [doControlTakeover, failControl_standby hready h3 h5]
    refine ⟨?_, ?_, ?_, ?_, ?_, fun f hf => takeControl_fn _ f hf⟩ <;> rw [takeControl_shape]
  case noStandby =>
    refine exec_eq_next rfl rfl ?_
    simp [doControlTakeover, State.failControl, hready]
  case boot =>
    refine exec_eq_next rfl rfl ?_
    have hcommit' : (s.upd.phase = 5 && s.committing.isSome) = false := by
      by_cases h5 : s.upd.phase = 5
      · simp [hcommit h5]
      · simp [h5]
    have hreload' : (s.upd.phase = 4 && !s.upd.reloading.isEmpty) = false := by
      by_cases h4 : s.upd.phase = 4
      · simp [hreload h4]
      · simp [h4]
    have hserves : (s.ctl.standbyReady || !(s.ctl.pairs.getD (1 - s.ctl.active) false) || s.upd.phase = 2 ||
        (s.upd.phase = 5 && s.committing.isSome) || (s.upd.phase = 4 && !s.upd.reloading.isEmpty)) = false := by
      rw [hready, hpair, hcommit', hreload', decide_eq_false hphase]
      rfl
    exact if_neg (by rw [hserves]; decide)

end Sys2Proof.Machine

/-! Composer failures, and the repair after a cluster failure (R413, R416, R417, R428). -/

namespace Sys2Proof.Machine

/-- A canvas on a failed composer stays while no composer has room for it. -/
theorem doCanvasMove_stays {s : State} {c : Nat} {v : Canvas} (hv : tget s.canvases c = some v)
    (hnone : s.chooseComposer c v none = none) : doCanvasMove c s = s := by
  have hkeep : s.moveCanvas c none = s := by simp only [State.moveCanvas, hv, hnone]
  simp only [doCanvasMove, hv, hkeep, ite_self]

/-- A canvas of no flow moves to the composer that has room for it. -/
theorem doCanvasMove_moves {s : State} {c k : Nat} {v : Canvas} (hv : tget s.canvases c = some v) (hout : s.prot.composers.getD v.composer false = false)
    (hroom : s.chooseComposer c v none = some k) (hflow : s.flowOf (.canvas c) = none) :
    doCanvasMove c s = (s.dropReader (readerCanvas c)).modCanvas c fun v => { v with composer := k, run := none } := by
  have hflow' : ((s.dropReader (readerCanvas c)).modCanvas c fun v => { v with composer := k, run := none }).flowOf (.canvas c) = none := hflow
  simp only [doCanvasMove, hv, hout, Bool.false_eq_true, if_false, State.moveCanvas, hroom, hflow']

/-- The only stopped flow, left by the cluster named, is the only one that is placed again. -/
theorem stoppedFlows_one {s : State} {cl n : Nat} {f : Flow} (hplace : f.place = cl)
    (hstopped : (s.trail.flows.filter fun p => p.2.stopped) = [(n, f)]) :
    (s.trail.flows.filter fun p => p.2.stopped && (p.2.place == cl || p.2.place == ((s.cluster cl).group.map (·.1)).getD cl)) = [(n, f)] := by
  have hboth := List.filter_filter (l := s.trail.flows) (p := fun p => p.2.place == cl || p.2.place == ((s.cluster cl).group.map (·.1)).getD cl)
    (q := fun p => p.2.stopped)
  rw [hstopped] at hboth
  simp only [Bool.and_comm (_ || _)] at hboth
  rw [← hboth]
  simp [hplace]

/-- The only degraded job of a cluster, at step 1, is restored when the engine has room for it. -/
theorem undoSteps_one {s : State} {cl n j : Nat} {f : Flow} {e : EncJob} (hflows : s.flowsOn cl = [(n, f)]) (howner : f.owner = .encode j)
    (hjob : tget s.encJobs j = some e) (hdegrade : e.degrade = 1) (fuel : Nat) :
    s.undoSteps cl (fuel + 1) = if (s.undoOne j 1).encFits cl then
      (s.undoOne j 1).postAll { code := evProtDegrade, obj := cl, d0 := 0, d1 := j } else s := by
  simp only [State.undoSteps, hflows, List.filterMap_cons, List.filterMap_nil, howner, hjob, Option.bind_some, hdegrade]
  cases hfits : (s.undoOne j 1).encFits cl <;> simp [sortBy, insertBy, hfits]

/-- Settles O18: each failure and each repair is the case of its one unit. -/
theorem failuresAndTheirRepair : Obligations.FailuresAndTheirRepair := by
  refine ⟨⟨fun s c cause hc hin => ?fails, fun s c v hc hv hout => ⟨fun hnone => ?stays, fun k hroom hflow => ?moves⟩⟩,
    fun s cl n f hcl hstop hplace hflows => ⟨fun k hfind => ?replaced, fun e hfind => ?unplaced⟩, fun s cl hcl hserving => ?apply,
    fun s cl n j f e hcl hflows howner hjob hdegrade hne => ?undo⟩
  case fails =>
    refine exec_eq_next rfl (by simp [Instr.wf, hc]) ?_
    rw [doComposerFail, State.failComposer, if_neg (by rw [hin]; decide)]
    rfl
  case stays => exact exec_eq_next rfl (by simp [Instr.wf, hc]) (doCanvasMove_stays hv hnone)
  case moves => exact exec_eq_next rfl (by simp [Instr.wf, hc]) (doCanvasMove_moves hv hout hroom hflow)
  case replaced =>
    refine exec_eq_next rfl (by simp [Instr.wf, hcl]) ?_
    simp only [doUnprotectedReplace, stoppedFlows_one hplace hflows, List.foldl_cons, List.foldl_nil, hfind]
  case unplaced =>
    refine exec_eq_next rfl (by simp [Instr.wf, hcl]) ?_
    simp only [doUnprotectedReplace, stoppedFlows_one hplace hflows, List.foldl_cons, List.foldl_nil, hfind]
  case apply =>
    refine exec_eq_next rfl (by simp [Instr.wf, hcl]) ?_
    rw [doShadowApply, if_pos hserving]
  case undo => exact exec_eq_next rfl (by simp [Instr.wf, hcl]) (undoSteps_one hflows howner hjob hdegrade _)

end Sys2Proof.Machine

/-! Protection classes, the partner and its messages (R419 to R424, R432, R433). -/

namespace Sys2Proof.Machine

/-! ## PROT.CLASS and PROT.PARTNER -/

/-- The checks on a leg pass for its own generation and an issuer that may touch it. -/
theorem legObj_pass {s : State} {issuer leg gen : Nat} {l : Leg} (hl : s.leg leg = some l) (hgen : l.gen = gen)
    (hmay : s.mayTouch issuer (s.legTenant l) = true) : legObj s issuer leg gen = [(false, eTenant, 2), (false, eStale, 1)] := by
  simp [legObj, hl, hmay, hgen]

@[simp] theorem popped_legObj (s : State) (c : Ctx) (r : List Cmd) : legObj (s.popped c r) = legObj s := rfl

theorem withFlows_ok {s t : State} {soft : FlowOwner → Bool} {k : State → Reply} (h : s.reflow soft = .ok t) : withFlows s soft k = k t := by
  rw [withFlows, h]

theorem partnerUp_of {s : State} {g : Nat} (hg : s.partnerGroup = some g) (hup : s.groupUp g = true) : s.partnerUp = true := by
  simp [State.partnerUp, hg, hup]

theorem tget_append {α : Type} (a b : List (Nat × α)) (k : Nat) : tget (a ++ b) k = (tget a k).or (tget b k) := by
  induction a with
  | nil => rfl
  | cons x a ih =>
    obtain ⟨n, v⟩ := x
    by_cases h : n = k
    · simp [tget, h]
    · simp [tget, h, ih]

theorem tget_map_range {α : Type} (f : Nat → α) (n k : Nat) :
    tget ((List.range k).map fun i => (i, f i)) n = if n < k then some (f n) else none := by
  induction k with
  | zero => rfl
  | succ k ih =>
    rw [List.range_succ, List.map_append, tget_append, ih]
    obtain hlt | rfl | hgt := Nat.lt_trichotomy n k
    · rw [if_pos hlt, if_pos (by omega)]
      rfl
    · simp [tget]
    · rw [if_neg (by omega), if_neg (by omega)]
      simp [tget, Nat.ne_of_lt hgt]

/-- The port map names every port by its four bits of words 3 and 4. -/
theorem tget_portMapOf (c : Ctx) {n : Nat} (h : n < 16) : tget (portMapOf c) n = some (c.f (3 + n / 8) (4 * (n % 8)) 4) :=
  (tget_map_range (fun n => c.f (3 + n / 8) (4 * (n % 8)) 4) n 16).trans (if_pos h)

/-- Settles O19, by the class and by the OP of the command. -/
theorem protectionAndPartner : Obligations.ProtectionAndPartner := by
  refine ⟨⟨fun s c rest l v h hl hres hgen hmay hnew hpaired => ?low,
      fun s c rest l v g p h hl hres hcls hgen hmay hprot hg hup hpaired hport hfw hflow => ?reserve,
      fun s g tag status ch w hg hfind => ⟨fun hstatus => ?refused, fun l t hstatus hl hflow => ?granted⟩,
      fun s ch w hch hw => ⟨fun hlate => ?timeout, fun hsoon hup => ?waits⟩⟩,
    fun s c rest buf h hres => ⟨fun hlen hop hres2 hself => ?partner, fun hlen hop hres3 => ?pool, fun hlen hop hdesc hroom hbuf => ?map,
      fun hlen hop => ?report⟩⟩
  case low =>
    have hstart : c.f 1 24 2 < 2 → ((if l.prot = 2 then (s.popped c rest).releaseLeg (c.f 1 0 16) l else s.popped c rest).modLeg (c.f 1 0 16)
        fun l => { l with prot := c.f 1 24 2 }).reflow (softFor (c.f 1 0 16)) = .ok v → Answers (exec (.protClass c.ch) s) v c 0 0 [] := by
      intro hcls hflow
      have h3 : c.f 1 24 2 ≠ 3 := by omega
      have h2 : c.f 1 24 2 ≠ 2 := by omega
      have hgroup : c.f 1 24 2 ≠ 0 → ((s.popped c rest).modLeg (c.f 1 0 16) fun l => { l with prot := c.f 1 24 2 }).groupUnpaired = false := by
        intro h0
        have h1 : c.f 1 24 2 = 1 := by omega
        rw [h1]
        exact hpaired h1
      refine answers_of_done h rfl ?_
      simp only [popped_acc_leg, hl, popped_legObj, legObj_pass hl hgen hmay]
      refine (checks_pass ?_).trans ?_
      · simp [badArg, h3, h2, hres, hnew]
        exact hgroup
      · rw [if_neg h2]
        exact withFlows_ok hflow
    exact ⟨fun hcls hprot hflow => hstart hcls (by rw [if_neg hprot]; exact hflow), fun hcls hprot hflow => hstart hcls (by rw [if_pos hprot]; exact hflow)⟩
  case reserve =>
    refine next_of_hold h rfl ?_
    have hgroup : ((s.popped c rest).modLeg (c.f 1 0 16) fun l => { l with prot := 2 }).groupUnpaired = false := hpaired
    have hup' : (s.popped c rest).partnerUp = true := partnerUp_of hg hup
    have hport' : (s.popped c rest).mapped l.cfg.port = some p := hport
    have hg' : (s.popped c rest).partnerGroup = some g := hg
    have hfw' : Config.peerFwMajor (s.popped c rest).prot.partner = (s.popped c rest).fwMajor := hfw
    simp only [popped_acc_leg, hl, popped_legObj, legObj_pass hl hgen hmay]
    refine (checks_pass ?_).trans ?_
    · simp only [hcls, hfw', hgroup, hup', hport']
      simp [badArg, hres, Ne.symm hprot]
    · simp only [hcls, if_true, hg', Option.getD_some]
      exact withFlows_ok hflow
  case refused =>
    refine exec_eq_next rfl (by simp [Instr.wf, hg]) ?_
    simp only [doReserveAck, hfind, if_pos hstatus]
  case granted =>
    subst hstatus
    refine exec_eq_next rfl (by simp [Instr.wf, hg]) ?_
    simp only [doReserveAck, hfind, hl, hflow]
    rfl
  case timeout =>
    refine exec_eq_next rfl hch ?_
    rw [doReserveTimeout]
    simp only [hw]
    exact if_pos (by simpa using hlate)
  case waits =>
    refine exec_eq_next rfl hch ?_
    rw [doReserveTimeout]
    simp only [hw]
    exact if_neg (by simp [hup, Nat.not_le.mpr hsoon])
  case partner =>
    have hself' : s.casc.self ≠ some (c.f 2 0 4) := hself
    have hset : Answers (exec (.protPartner c.ch buf) s) { s.popped c rest with prot := { s.prot with
        partner := c.f 2 0 4, en := c.bit 2 4, hostPf := c.f 2 5 1, portMap := portMapOf c
        fullNext := true, appliedBase := none, sentLog := [], lagging := false } } c 0 0 [] := by
      refine answers_of_checks h rfl rfl (by simp [badLen, reserved, hres, hlen, hop]) ?_
      simp only [hop]
      exact checks_pass (by simp [reserved, badArg, hres2, hself'])
    refine nextWith_of_answers hset ?_
    simp only [answered_prot, answered_legs, answered_casc]
    exact ⟨trivial, trivial, trivial, fun n hn => tget_portMapOf c hn, trivial, rfl, rfl⟩
  case pool =>
    refine answers_of_checks h rfl rfl (by simp [badLen, reserved, hres, hlen, hop]) ?_
    simp only [hop]
    exact checks_pass (by simp [reserved, hres3])
  case map =>
    refine answers_of_checks h rfl rfl (by simp [badLen, reserved, hres, hlen, hop]) ?_
    simp only [hop]
    refine checks_pass fun x hx => ?_
    simp only [List.mem_append, List.mem_singleton] at hx
    obtain (hx | rfl) | hx := hx
    · exact hdesc x hx
    · simpa [badArg] using hroom
    · exact hbuf x hx
  case report =>
    refine answers_of_checks h rfl rfl (by simp [badLen, reserved, hres, hlen, hop]) ?_
    simp only [hop]
    rfl

/-! ## Messages between partners -/

/-- Settles O20, by the kind of message. -/
theorem partnerMessages : Obligations.PartnerMessages := by
  refine ⟨⟨fun s g p r hg hp => ⟨fun hroom => ?kept, fun hroom => ?notKept, ?release⟩, fun s g q hg hpartner => ?full⟩,
    fun s g hpartner hup hm => ?shadowSend, fun s g p m hg hp => ⟨fun hwhole hnext => ?applied, fun hgap => ?asked⟩,
    fun s x hlate hen hlag => ?lag, fun s leg l hleg hl hclaims hdue => ?claim⟩
  case kept =>
    refine exec_eq_next rfl (by simp [Instr.wf, hg]) ?_
    simp only [doReserve, hp, hroom, if_true]
    rfl
  case notKept =>
    refine exec_eq_next rfl (by simp [Instr.wf, hg]) ?_
    simp only [doReserve, hp, hroom]
    rfl
  case release =>
    refine exec_eq_next rfl (by simp [Instr.wf, hg]) ?_
    simp only [doRelease, hp]
  case full =>
    refine exec_eq_next rfl (by simp [Instr.wf, hg]) ?_
    rw [doFullRequest, if_pos hpartner]
  case shadowSend =>
    refine nextWith_of rfl rfl ?_
    simp only [doShadowMessageSend, hpartner]
    rw [if_neg (by simp [hm, hup])]
    refine ⟨rfl, rfl, rfl, _, _, by rw [State.modGroup_group_same]; rfl, rfl, rfl, rfl, fun hfull => ?_, fun hnext hsince => ?_⟩
    · have hf : (s.prot.fullNext || decide (49 ≤ s.prot.sinceFull)) = true := by simpa using hfull
      simp only [hf]
      exact ⟨trivial, rfl⟩
    · have hf : (s.prot.fullNext || decide (49 ≤ s.prot.sinceFull)) = false := by simp [hnext, hsince]
      simp only [hf]
      exact ⟨trivial, rfl⟩
  case applied =>
    refine exec_eq_next rfl (by simp [Instr.wf, hg]) ?_
    simp only [doShadow, hp]
    rw [if_pos (by simpa [hwhole] using hnext)]
  case asked =>
    refine exec_eq_next rfl (by simp [Instr.wf, hg]) ?_
    simp only [doShadow, hp]
    rw [if_neg]
    simp only [Bool.and_eq_true, Bool.or_eq_true, beq_iff_eq]
    rintro ⟨hwhole, hnext⟩
    obtain hpart | ⟨hdelta, hgap⟩ := hgap
    · simp [hpart] at hwhole
    · simp only [hdelta, Bool.false_eq_true, false_or] at hnext
      obtain hinvalid | hseq := hgap
      · simp [hinvalid] at hnext
      · exact hseq hnext.2
  case lag =>
    refine nextWith_of rfl rfl ?_
    simp only [doShadowLag, hlate]
    rw [if_neg (by simp [hen, hlag])]
    exact ⟨by simp, by simp, _, rfl⟩
  case claim =>
    refine exec_eq_next rfl (by simp [Instr.wf, hleg]) ?_
    simp only [doClaimRepeat, hl]
    exact if_neg (by simp [hclaims, Nat.not_lt.mpr hdue])

end Sys2Proof.Machine

/-! Live update (R438 to R449, R456). -/

namespace Sys2Proof.Machine

/-! ## Transfer -/

/-- The checks of a session pass for its owner while no commit runs. -/
theorem sessionChecks_pass {s : State} {c : Ctx} {x : UpdSession} (hidle : s.committing = none) (hx : s.upd.session = some x)
    (howner : x.owner = c.issuer) : sessionChecks c s = [(false, eBusy, 0), (false, eState, 0x1007), (false, eState, 0x1001)] := by
  simp [sessionChecks, busy, hidle, hx, howner]

theorem popped_committing (s : State) (c : Ctx) (rest : List Cmd) : (s.popped c rest).committing = s.committing := rfl

/-- Settles O21: every check of the transfer passes. -/
theorem updateTransfer : Obligations.UpdateTransfer := by
  refine ⟨fun s c rest h hidle hphase howner hlen hwords => ?begin,
    fun s c rest x bs h hidle hx howner hoff hend hdesc hmax htail hcrc => ?block⟩
  case begin =>
    have hother : (s.upd.session.any fun x => x.owner ≠ c.issuer) = false := by
      cases hs : s.upd.session with
      | none => rfl
      | some x => simp [howner x hs]
    refine answers_of_checks h rfl rfl ?_ rfl
    simp only [popped_committing, hidle, popped_upd, hother]
    simp [busy, hphase, hlen, hwords]
  case block =>
    refine answers_of_done h rfl ?_
    simp only [popped_upd, hx, Option.map_some, Option.getD_some, sessionChecks_pass (s := s.popped c rest) hidle hx howner]
    refine (checks_pass fun y hy => ?_).trans rfl
    simp only [List.mem_append, List.mem_cons, List.not_mem_nil, or_false] at hy
    obtain ((((rfl | hy) | rfl) | hy) | hy) | rfl | rfl := hy
    · simp [badArg, hoff, hend]
    · exact hdesc y hy
    · obtain hpage | hlast := htail
      · simp [hmax, hpage]
      · simp [hmax, hlast]
    · obtain rfl | rfl | rfl := hy <;> rfl
    · simp only [bufChecks, List.mem_cons, List.not_mem_nil, or_false] at hy
      obtain rfl | rfl := hy <;> rfl
    · simp [badArg, hcrc]
    · rfl

/-! ## Trial, fallback and revert -/

/-- Firmware that holds none for the cascade lanes leaves the update's records alone. -/
theorem serdesFirmware_upd {s : State} {kinds : List Nat} (h : kinds.contains 5 = false) : (s.serdesFirmware kinds).upd = s.upd := by
  simp only [State.serdesFirmware, h, Bool.false_eq_true, if_false]
  (repeat' split) <;> rfl

theorem goTrial_upd {s : State} {img : Image} (h : (img.comps.map (·.1)).contains 5 = false) :
    (s.goTrial img).upd.phase = 3 ∧ (s.goTrial img).upd.fwActive = img.fwrev ∧ (s.goTrial img).upd.fwOther = s.upd.fwActive ∧
      (s.goTrial img).upd.session = none ∧ (s.goTrial img).upd.trialEnd = s.time.m + s.upd.window * 60000 := by
  simp only [State.goTrial, serdesFirmware_upd h, takeControl_upd, and_self]

theorem fallback_upd (s : State) (cause : Nat) :
    (s.fallback cause).upd.phase = 4 ∧ (s.fallback cause).upd.fwActive = s.upd.fwOther ∧ (s.fallback cause).upd.fwOther = 0 := by
  simp [State.fallback]

theorem fallback_ctl (s : State) (cause : Nat) :
    (s.fallback cause).ctl.active = 1 - s.ctl.active ∧ (s.fallback cause).ctl.standbyReady = false := by
  simp [State.fallback]

theorem fallback_objects (s : State) (cause : Nat) : (s.fallback cause).legs = s.legs ∧ (s.fallback cause).confs = s.confs := by
  simp [State.fallback]

/-- An answer leaves what control keeps besides its queues and responses. -/
theorem answered_standbyReady (u : State) (c : Ctx) (st det : Nat) (ws : List Nat) :
    (u.answered c st det ws).ctl.standbyReady = u.ctl.standbyReady := by
  obtain ⟨chans, fns, queues, rsps, h⟩ := answered_shape u c st det ws
  rw [h]

theorem drainTo_empty (s : State) (avoid b : Nat) : (if ([] : List (Nat × Flow)).isEmpty then some s else State.drainTo avoid b [] s) = some s := rfl

/-- Settles O22, one clause for each command of an update, and one for each end of a boot. -/
theorem updateCommands : Obligations.UpdateCommands := by
  refine ⟨⟨fun s c rest x h hres hidle hx howner hwhole hroom => ?commit, fun s img env o hfind => ⟨fun f hfault => ?bootFails, fun hgood => ?boots⟩,
      fun s img hcomps => goTrial_upd hcomps, fun s c rest fuseOk h hrev hphase hloaded hfuse => ?confirm, fun s hphase hend => ?expire⟩,
    fun s c rest h hres hidle hother hphase hroom => ?revert,
    fun s img env o hfind => ⟨fun htrial => ?fallsBack, fun htrial hgood => ?reverted, fun f htrial hfault => ?revertFails⟩,
    fun s cl rest pass hcl hnext => ⟨fun hdown => ?passedOver, fun hup hgroup hflows hempty => ?loaded, fun g hup hgroup => ?groupLoaded⟩,
    fun s c rest x h hres hx hphase => ?status, fun s c rest h hres hnone => ?statusNone⟩
  case commit =>
    refine answers_of_checks h rfl rfl ?_ (startLong_popped h hroom)
    rw [sessionChecks_pass (s := s.popped c rest) hidle hx howner]
    simp [reserved, hres, hx, hwhole]
  case bootFails =>
    refine exec_eq_next rfl rfl ?_
    simp only [doUpdCommitTakeover, hfind, hfault]
  case boots =>
    refine exec_eq_next rfl rfl ?_
    simp only [doUpdCommitTakeover, hfind, hgood]
  case confirm =>
    have hrev' : (c.w 1).toNat = (s.popped c rest).fwrev := hrev
    have hconfirm : Answers (exec (.sysConfirm c.ch fuseOk) s) { s.popped c rest with
        upd := { s.upd with phase := 0, confirmed := some s.upd.fwActive, svnFused := max s.upd.svnFused s.upd.svnImage, trialEnd := 0
                            bootArea := if s.upd.mode = 0 then 1 - s.upd.bootArea else s.upd.bootArea }
        ctl := { (s.popped c rest).ctl with standbyReady := false } } c 0 0 [] := by
      refine answers_of_checks h rfl rfl ?_ rfl
      obtain hfuse | hfuse := hfuse
      · simp [hrev', hphase, hloaded, hfuse]
      · simp [hrev', hphase, hloaded, Nat.not_lt.mpr hfuse]
    refine nextWith_of_answers hconfirm ?_
    rw [answered_upd, answered_legs, answered_standbyReady]
    exact ⟨rfl, rfl, rfl, rfl, rfl, rfl, rfl⟩
  case expire =>
    obtain ⟨h4, hactive, hgone⟩ := fallback_upd s 0
    obtain ⟨hpair, hstandby⟩ := fallback_ctl s 0
    obtain ⟨hlegs, hconfs⟩ := fallback_objects s 0
    refine nextWith_of rfl rfl ?_
    rw [doConfirmWindowExpire, if_pos (by simp [hphase, hend])]
    exact ⟨h4, hactive, hgone, hpair, hstandby, hlegs, hconfs⟩
  case revert =>
    have hpass : ∀ x ∈ [reserved c 1 0 32, busy (s.popped c rest).committing,
        ((s.popped c rest).upd.fwOther == 0 || (s.popped c rest).upd.phase == 4, eState, 0x1008)], x.1 = false := by
      simp [reserved, busy, hres, popped_committing, hidle, hother, hphase]
    refine answers_of_checks h rfl rfl hpass ((startLong_popped h hroom).trans ?_)
    by_cases h3 : s.upd.phase = 3
    · simp only [popped_upd, h3, beq_self_eq_true, if_true]
      rfl
    · simp only [popped_upd, h3, beq_eq_false_iff_ne.mpr h3, Bool.false_eq_true, if_false]
      rfl
  case fallsBack =>
    refine exec_eq_next rfl rfl ?_
    simp only [doUpdRevertComplete, hfind, htrial, if_true]
  case reverted =>
    refine exec_eq_next rfl rfl ?_
    simp only [doUpdRevertComplete, hfind, htrial, if_false, hgood]
  case revertFails =>
    refine exec_eq_next rfl rfl ?_
    simp only [doUpdRevertComplete, hfind, htrial, if_false, hfault]
  case passedOver =>
    refine exec_eq_next rfl (by simp [Instr.wf, hcl]) ?_
    simp [doClusterReload, hnext, hdown]
  case loaded =>
    have hempty' : (s.modCluster cl fun x => { x with reload := true }).emptied_ cl = true := hempty
    refine exec_eq_next rfl (by simp [Instr.wf, hcl]) ?_
    simp [doClusterReload, hnext, hup, hgroup, hflows, hempty']
  case groupLoaded =>
    refine exec_eq_next rfl (by simp [Instr.wf, hcl]) ?_
    simp [doClusterReload, hnext, hup, hgroup]
  case status =>
    refine answers_of_checks h rfl rfl (by simp [reserved, hres]) ?_
    simp only [popped_upd, hx, if_neg hphase]
    rfl
  case statusNone =>
    refine nextWith_of_answers (answers_of_words h rfl rfl (by simp [reserved, hres])) ?_
    simp only [popped_upd, hnone]
    rw [answered_upd, answered_legs, answered_trail, answered_power]
    exact ⟨rfl, rfl, rfl, rfl⟩

end Sys2Proof.Machine

/-! Power, reset pins and the adaptive loops (R33, R459 to R473, R478, R479, R488). -/

namespace Sys2Proof.Machine

/-! ## Tables with an entry for each number below a bound -/

theorem tgetD_map_range {α : Type} (f : Nat → α) (d : α) {n k : Nat} (h : n < k) : tgetD ((List.range k).map fun i => (i, f i)) n d = f n := by
  rw [tgetD, tget_map_range, if_pos h]
  rfl

/-! ## Start-up -/

theorem start_bind (s : State) (fwrev : Nat) (ac : Bool) {c : Nat} (h : c < 288) : (s.start fwrev ac).bind c = bootBind c :=
  tgetD_map_range bootBind _ h

theorem start_cluster (s : State) (fwrev : Nat) (ac : Bool) {c : Nat} (h : c < 48) : ((s.start fwrev ac).cluster c).inService = true :=
  congrArg Cluster.inService (tgetD_map_range (fun _ => ({ inService := true } : Cluster)) {} h)

theorem start_serves (s : State) (fwrev : Nat) (ac : Bool) :
    (s.start fwrev ac).power.cond = .serving ∧ (s.start fwrev ac).pins.modReady = true ∧ (s.start fwrev ac).bindLock = true ∧
      (s.start fwrev ac).legs = [] ∧ (s.start fwrev ac).confs = [] ∧ (s.start fwrev ac).time.ref = 0 :=
  ⟨rfl, rfl, rfl, rfl, rfl, rfl⟩

/-- Function Level Resets of a list of functions leave the pins, the power registers, the legs and the conferences. -/
theorem foldl_flr_frame (g : Nat → Nat) (ks : List Nat) (s : State) :
    (ks.foldl (fun s k => s.flr (g k)) s).pins = s.pins ∧ (ks.foldl (fun s k => s.flr (g k)) s).power = s.power ∧
      (ks.foldl (fun s k => s.flr (g k)) s).legs = s.legs ∧ (ks.foldl (fun s k => s.flr (g k)) s).confs = s.confs := by
  induction ks generalizing s with
  | nil => exact ⟨rfl, rfl, rfl, rfl⟩
  | cons k ks ih =>
    obtain ⟨hpins, hpower, hlegs, hconfs⟩ := ih (s.flr (g k))
    exact ⟨hpins.trans (flr_pins _ _), hpower.trans (flr_power _ _), hlegs.trans (flr_legs _ _), hconfs.trans (flr_confs _ _)⟩

/-- A fundamental reset of the port of a serving module is a reset of each of its functions. -/
theorem doPerstAssert_serving {s : State} (h : s.power.cond = .serving) (p : Nat) :
    doPerstAssert p s = (List.range 64).foldl (fun s k => s.flr (64 * p + k))
      ((s.modPins fun x => x.setPerst p true).modPins fun x => { x with pcie := x.pcie.set p false }) := by
  simp only [doPerstAssert, State.modPins, h]

theorem setPerst_pcie (x : Pins) (p : Nat) (b : Bool) : (x.setPerst p b).pcie = x.pcie := by
  unfold Pins.setPerst
  split <;> rfl

theorem setPerst_pciePend (x : Pins) (p : Nat) (b : Bool) : (x.setPerst p b).pciePend = x.pciePend := by
  unfold Pins.setPerst
  split <;> rfl

/-- Settles O23, by the condition that the command finds the module in. -/
theorem powerAndReset : Obligations.PowerAndReset := by
  refine ⟨⟨fun s fwrev ac hoff hswap => ?on, fun s fwrev ac hon => ?already, fun s t _ _ _ _ _ ht => ⟨?removed, ?ctrlLow, fun b ds hb => ?operation⟩,
      fun s => ⟨rfl, rfl, rfl, rfl, rfl⟩, fun s hon h0 h1 => ?reset⟩,
    fun s p hp hserving hwaits => ?perst, fun s p hp hstopped => ?perstStopped, fun s p hp hserving hdomain hpend => ?deassert⟩
  case on =>
    obtain ⟨hcond, hready, hlock, hlegs, hconfs, href⟩ := start_serves s (fwrev % 2 ^ 32) ac
    refine nextWith_of rfl rfl ?_
    rw [doPowerOn, if_neg (by simp [State.powered, hoff, hswap])]
    refine ⟨hcond, hready, hlock, hlegs, hconfs, href, rfl, rfl, rfl, rfl, rfl, start_bind _ _ _ (by decide), start_bind _ _ _ (by decide),
      start_bind _ _ _ (by decide), start_bind _ _ _ (by decide), fun c hc => start_cluster _ _ _ hc, fun h0 => ?_, fun h1 => ?_⟩
    · exact congrArg (! ·) h0
    · exact congrArg (! ·) h1
  case already =>
    refine exec_eq_next rfl rfl ?_
    rw [doPowerOn, if_pos (by simp [State.powered, hon])]
  case removed => exact exec_eq_next rfl rfl ht.symm
  case ctrlLow =>
    subst ht
    exact exec_next rfl rfl
  case operation =>
    subst ht
    refine exec_eq_next rfl rfl ?_
    simp only [doPmbusCommand]
    rw [if_neg (by decide), if_pos hb]
    rfl
  case reset =>
    obtain ⟨hcond, hready, hlock, hlegs, hconfs, href⟩ := start_serves s s.upd.fwActive s.power.ac
    refine nextWith_of rfl rfl ?_
    rw [doModuleReset, if_pos (by simp [State.powered, hon, h0, h1])]
    have hpcie : s.restartModule.pins.pcie = [!s.pins.perst0, !s.pins.perst1] := rfl
    rw [hpcie, h0, h1]
    exact ⟨hcond, hlegs, href, rfl, hlock, rfl⟩
  case perst =>
    obtain ⟨hpins, hpower, hlegs, hconfs⟩ := foldl_flr_frame (fun k => 64 * p + k) (List.range 64)
      ((s.modPins fun x => x.setPerst p true).modPins fun x => { x with pcie := x.pcie.set p false })
    refine nextWith_of rfl (by simp [Instr.wf, hp]) ?_
    rw [doPerstAssert_serving hserving, hpins, hpower, hlegs, hconfs]
    refine ⟨rfl, rfl, hserving, congrArg (·.set p false) (setPerst_pcie _ _ _), ?_, ?_⟩
    · rintro rfl
      rfl
    · rintro rfl
      rfl
  case perstStopped =>
    obtain ⟨hcond, hready, hlock, hlegs, hconfs, href⟩ := start_serves (s.modPins fun x => x.setPerst p true) s.upd.fwActive s.power.ac
    refine nextWith_of rfl (by simp [Instr.wf, hp]) ?_
    simp only [doPerstAssert, State.modPins, hstopped]
    exact ⟨hcond, hlegs, hready⟩
  case deassert =>
    refine nextWith_of rfl (by simp [Instr.wf, hp]) ?_
    have hdomain' : (s.modPins fun x => x.setPerst p false).domainOn (78 + p) = true := hdomain
    have hpend' : (s.modPins fun x => x.setPerst p false).pins.pciePend.getD p false = false := by
      show (s.pins.setPerst p false).pciePend.getD p false = false
      rw [setPerst_pciePend, hpend]
    have hserving' : (s.modPins fun x => x.setPerst p false).power.cond = .serving := hserving
    simp only [doPerstDeassert, hdomain', hpend', hserving']
    refine ⟨congrArg (·.set p true) (setPerst_pcie _ _ _), ?_, ?_, rfl⟩
    · rintro rfl
      rfl
    · rintro rfl
      rfl

/-! ## Telemetry, the cap and the loops -/

/-- The counts of a report leave the rail's voltage. -/
theorem Rail.counts_mv (r : Rail) (margin m : Nat) : (r.counts margin m).mv = r.mv := by
  rw [Rail.counts]
  dsimp only
  rw [apply_ite Rail.mv]
  exact ite_self _

/-- Above 0.80 V a report does not raise the voltage ceiling. -/
theorem Rail.counts_vCeil {r : Rail} (h : 800 < r.mv) (margin m : Nat) : (r.counts margin m).vCeil = r.vCeil := by
  simp [Rail.counts, Nat.not_le.mpr h]

theorem Rail.report_low {r : Rail} {margin : Nat} (hmargin : margin < 4) (hmv : r.mv < 850) (f : Nat) : r.report margin f = { r with mv := r.mv + 5 } := by
  simp [Rail.report, hmargin, Nat.not_le.mpr hmv]

theorem Rail.report_top {r : Rail} {margin : Nat} (hmargin : margin < 4) (hmv : 850 ≤ r.mv) (f : Nat) :
    r.report margin f = { r with vCeil := max 1400 (r.vCeil - 100) } := by
  simp [Rail.report, hmargin, hmv]

/-- What a sensor's unit does at a reading leaves the readings, the condition, the pins and the legs. -/
theorem thermalUnit_frame (s : State) (sensor : Nat) (reading : Int) :
    (s.thermalUnit sensor reading).power.temps = s.power.temps ∧ (s.thermalUnit sensor reading).power.cond = s.power.cond ∧
      (s.thermalUnit sensor reading).pins = s.pins ∧ (s.thermalUnit sensor reading).legs = s.legs := by
  unfold State.thermalUnit
  (repeat' split) <;> exact ⟨rfl, rfl, rfl, rfl⟩

/-- A reading of a powered module: the register, the crossings and the unit's action, then the trip. -/
theorem reading_powered {s : State} (h : s.power.cond = .serving) (sensor : Nat) (t : Int) :
    ∃ u : State, tget u.power.temps sensor = some t ∧ u.power.cond = .serving ∧ u.pins = s.pins ∧ u.legs = s.legs ∧
      s.reading sensor t = if (16 * tripAt sensor : Int) ≤ t && !s.pins.thermTrip then u.stopModule true else u := by
  let v := (s.modPower fun p => { p with temps := tset p.temps sensor t }).crossing sensor 105 (tgetD s.power.temps sensor 0) t
  let w := v.crossing sensor 115 (tgetD s.power.temps sensor 0) t
  obtain ⟨htemps, hcond, hpins, hlegs⟩ := thermalUnit_frame w sensor t
  have hpins' : (w.thermalUnit sensor t).pins = s.pins := hpins.trans (by simp [w, v, State.modPower])
  refine ⟨w.thermalUnit sensor t, by rw [htemps]; simp [w, v, State.modPower], ?_, hpins', hlegs.trans (by simp [w, v, State.modPower]), ?_⟩
  · rw [hcond]
    simpa [w, v, State.modPower] using h
  · simp only [State.reading]
    rw [if_neg (by simp [State.powered, h])]
    show (if _ && !(w.thermalUnit sensor t).pins.thermTrip then _ else _) = _
    rw [hpins']

theorem tripAt_cast (sensor : Nat) : (16 * tripAt sensor : Int) = 16 * (if 54 ≤ sensor ∧ sensor < 58 then 115 else 125) := by
  unfold tripAt
  by_cases h : 54 ≤ sensor ∧ sensor < 58 <;> simp [h]

/-- Settles O24, by the event of the power stage, of a cluster's rail or of a sensor. -/
theorem powerLoops : Obligations.PowerLoops := by
  refine ⟨⟨fun s tl hon => ?telemetry, fun s hon hseen => ?lost, fun s mv hon hmv hquiet => ?excursion,
      fun s mean k hac hon hhigh hquiet hstep => ?capStep, fun s mean hac hon hlow hseen hne hquiet => ?capUndo⟩,
    fun s cl margin hcl hdomain hmargin => ?report, fun s cl mv hcl hdomain hdroop hmv => ?droop, fun s cl hcl hdroop => ?droopEnd,
    fun s sensor t hsensor hserving htrip => ⟨fun hcool => ?cool, fun hhot => ?hot⟩⟩
  case telemetry =>
    refine nextWith_of rfl rfl ?_
    rw [doTelemetryRead, if_neg (by simp [State.powered, hon])]
    refine ⟨?_, ?_, fun hseen hquiet => ?_⟩
    · dsimp only
      (repeat' split) <;> simp [State.supplyEvent, State.modPower]
    · dsimp only
      (repeat' split) <;> simp [State.supplyEvent, State.modPower]
    · have hfault : (decide (tl.status ≠ 0) && decide (s.power.tlm.status = 0)) = false := by
        obtain hstatus | hstatus := hquiet
        · simp [hstatus]
        · simp [hstatus]
      simp only [hseen, hfault, Bool.false_eq_true, if_false]
      rfl
  case lost =>
    refine exec_eq_next rfl rfl ?_
    rw [doTelemetryLost, if_neg (by simp [State.powered, hon, hseen])]
    rfl
  case excursion =>
    have hquiet' : s.power.supplyEv.any (fun t => decide (s.time.m < t + 1000)) = false := by
      cases hev : s.power.supplyEv with
      | none => rfl
      | some t => simpa using hquiet t hev
    have hout : (decide (40000 ≤ mv) && decide (mv ≤ 60000)) = false := by
      simp only [Bool.and_eq_false_iff, decide_eq_false_iff_not]
      omega
    refine exec_eq_next rfl rfl ?_
    rw [doInputVoltageExcursion, if_neg (by simp only [hout, hquiet']; simp [State.powered, hon])]
    rfl
  case capStep =>
    have hquiet' : s.power.capAt.any (fun t => decide (s.time.m < t + 10)) = false := by
      cases hev : s.power.capAt with
      | none => rfl
      | some t => simpa using hquiet t hev
    have hhigh' : (decide (mean ≤ 330) && !s.power.tlmLost) = false := by
      obtain hmean | hlost := hhigh
      · simp [Nat.not_le.mpr hmean]
      · simp [hlost]
    refine exec_eq_next rfl rfl ?_
    have hstep' : capSteps[s.power.applied.length]? = some k := hstep
    simp only [doPowerCapStep, hstep']
    rw [if_neg (by simp only [hquiet', hhigh', hac]; simp [State.powered, hon])]
    rfl
  case capUndo =>
    have hquiet' : s.power.capAt.any (fun t => decide (s.time.m < t + 1000)) = false := by
      cases hev : s.power.capAt with
      | none => rfl
      | some t => simpa using hquiet t hev
    refine nextWith_of rfl rfl ?_
    simp only [doPowerCapUndo]
    rw [if_neg (by simp only [hquiet', hac, hseen]; simp [State.powered, hon, hlow, hne])]
    exact ⟨by simp [State.capEvent, State.modPower], by simp [State.capEvent, State.modPower], by simp [State.capEvent, State.modPower]⟩
  case report =>
    refine ⟨s.modRail cl fun _ => ((s.rail cl).report margin (s.clockCeiling (s.rail cl))).counts margin s.time.m,
      exec_eq_next rfl (by simp [Instr.wf, hcl]) ?_, ?_⟩
    · simp only [doVoltageLoopReport, hdomain, Bool.not_true, Bool.false_eq_true, if_false]
    · refine ⟨rfl, fun hmv => ⟨?_, fun j hj => State.modRail_rail_ne _ _ hj⟩, fun hmv => ?_⟩
      · rw [State.modRail_rail_same, Rail.counts_mv, Rail.report_low hmargin hmv]
      · rw [State.modRail_rail_same, Rail.counts_mv, Rail.report_top hmargin hmv, Rail.counts_vCeil (by show 800 < (s.rail cl).mv; omega)]
        exact ⟨rfl, rfl⟩
  case droop =>
    refine exec_eq_next rfl (by simp [Instr.wf, hcl]) ?_
    simp only [doDroop]
    exact if_neg (by simp [hdomain, hdroop, Nat.not_le.mpr hmv])
  case droopEnd =>
    refine exec_eq_next rfl (by simp [Instr.wf, hcl]) ?_
    rw [doDroopEnd, if_pos hdroop]
  case cool =>
    obtain ⟨u, htemp, hcond, hpins, hlegs, hread⟩ := reading_powered hserving sensor t
    refine nextWith_of rfl (by simp [Instr.wf, hsensor]) ?_
    rw [doThermalLoop, hread, tripAt_cast, if_neg (by simp only [decide_eq_false (Int.not_le.mpr hcool)]; simp)]
    exact ⟨htemp, hcond, hpins, hlegs⟩
  case hot =>
    obtain ⟨u, htemp, hcond, hpins, hlegs, hread⟩ := reading_powered hserving sensor t
    refine nextWith_of rfl (by simp [Instr.wf, hsensor]) ?_
    rw [doThermalTrip, hread, tripAt_cast, if_pos (by simpa [htrip] using hhot)]
    exact ⟨rfl, by simp [State.stopModule], rfl, rfl, htemp⟩

end Sys2Proof.Machine

/-! Time bases, PTP and the timing inputs and outputs (R72 to R102). -/

namespace Sys2Proof.Machine

/-! ## What a change of state of a base touches -/

theorem modBase_base {s : State} {n : Nat} (h : n < s.time.bases.length) (g : Base → Base) : (s.modBase n g).base n = g (s.base n) := by
  simp [State.base, State.modBase, lmod, List.getD_eq_getElem?_getD, h]

/-- A base's change of state is told by an event, which changes no time. -/
theorem tbEvent_time (s : State) (n new old : Nat) (stepNs offNs : Int) : (s.tbEvent n new old stepNs offNs).time = s.time := postAll_time _ _

theorem tbTo_shape (s : State) (n new : Nat) :
    ∃ bases fns mon, s.tbTo n new = { s with time := { s.time with bases := bases }, fns := fns, mon := mon } := by
  unfold State.tbTo
  dsimp only
  split
  · exact ⟨_, _, _, rfl⟩
  · obtain ⟨fns, mon, h⟩ := postAll_shape (s.modBase n fun b => { b with st := new, inRun := 0, outRun := 0, newMeas := 0 })
      { code := evTbState, obj := n, d0 := new + 256 * (s.base n).st, d1 := sat32 0, d2 := sat32 (toNs (s.base n).offset) }
    exact ⟨_, fns, mon, h⟩

theorem tbHoldover_shape (s : State) (n : Nat) :
    ∃ bases fns mon fresh, s.tbHoldover n = { s with time := { s.time with bases := bases }, fns := fns, mon := mon, fresh := fresh } := by
  unfold State.tbHoldover
  dsimp only
  split
  · obtain ⟨bases, fns, mon, h⟩ := tbTo_shape ((s.servo n).modBase n fun b => { b with holdFrom := (s.servo n).time.ref, held := b.rate }) n 4
    exact ⟨bases, fns, mon, _, h⟩
  · exact ⟨_, _, _, _, rfl⟩

theorem tbHoldover_frame (s : State) (n : Nat) :
    (s.tbHoldover n).time.ppsInLost = s.time.ppsInLost ∧ (s.tbHoldover n).legs = s.legs ∧ (s.tbHoldover n).mem = s.mem := by
  obtain ⟨bases, fns, mon, fresh, h⟩ := tbHoldover_shape s n
  rw [h]
  exact ⟨rfl, rfl, rfl⟩

theorem tbTo_base {s : State} {n : Nat} (h : n < s.time.bases.length) (new : Nat) :
    ((s.tbTo n new).base n).st = new ∧ ((s.tbTo n new).base n).val = (s.base n).val := by
  unfold State.tbTo
  dsimp only
  split
  next heq => exact ⟨heq, rfl⟩
  next =>
    rw [State.base, tbEvent_time]
    change (State.base _ n).st = _ ∧ (State.base _ n).val = _
    rw [modBase_base h]
    exact ⟨rfl, rfl⟩

theorem gatesAfterStep_time (s : State) (n : Nat) : (s.gatesAfterStep n).time = s.time := by
  unfold State.gatesAfterStep
  split <;> rfl

theorem tbStep_base {s : State} {n : Nat} (h : n < s.time.bases.length) (v off : Int) :
    ((s.tbStep n v off).base n).val = v.toNat ∧ ((s.tbStep n v off).base n).st = 2 := by
  rw [State.tbStep, State.base, gatesAfterStep_time, tbEvent_time]
  change (State.base _ n).val = _ ∧ (State.base _ n).st = _
  rw [modBase_base h]
  exact ⟨rfl, rfl⟩

/-! ## TB.CONFIG, TB.ARM, TICK.SOURCE and TB.STATUS -/

theorem setInst_none {b : Base} {i : PtpInst} (h : i.role = 0) : b.setInst i = { b with inst := i, ann := none, offset := 0, pathDelay := 0 } := if_pos h

theorem setInst_some {b : Base} {i : PtpInst} (h : i.role ≠ 0) : b.setInst i = { b with inst := i } := if_neg h

/-- The checks of TB.CONFIG KIND 0 pass for settings in their ranges that share no domain with another PTP clock. -/
theorem tbConfigInst_ok {s : State} {c : Ctx} (hres : c.f 1 6 26 = 0) (hrole : c.f 2 0 2 ≠ 3) (htr : c.f 2 3 2 ≠ 3) (hres2 : c.f 2 7 1 = 0)
    (hsync : -7 ≤ signed 8 (c.f 4 0 8) ∧ signed 8 (c.f 4 0 8) ≤ 4) (hann : -3 ≤ signed 8 (c.f 4 8 8) ∧ signed 8 (c.f 4 8 8) ≤ 4)
    (hdelay : -7 ≤ signed 8 (c.f 4 16 8) ∧ signed 8 (c.f 4 16 8) ≤ 6) (hto : 2 ≤ c.f 4 24 8 ∧ c.f 4 24 8 ≤ 10)
    (hapart : ∀ k, k < 4 → k ≠ c.f 1 4 2 → overlaps (tbInst c) (s.base k).inst = false) :
    tbConfigInst c s =
      let n := c.f 1 4 2
      let o := (s.base n).inst
      let i := tbInst c
      let t := if o.role ≠ i.role ∨ o.ports ≠ i.ports ∨ o.transport ≠ i.transport then
        (if (s.base n).st = 3 then s.tbHoldover n else s).modBase n fun b => { b with master := none, newMeas := 0, t3 := none } else s
      ok (t.modBase n fun b => b.setInst i) := by
  have hover : ((List.range 4).any fun k => k ≠ c.f 1 4 2 && overlaps (tbInst c) (s.base k).inst) = false := by
    rw [List.any_eq_false]
    intro k hk
    by_cases hkn : k = c.f 1 4 2
    · simp [hkn]
    · simp [hapart k (List.mem_range.mp hk) hkn]
  have hrole' : (tbInst c).role ≠ 3 := hrole
  have htr' : (tbInst c).transport ≠ 3 := htr
  have hrange : (decide ((tbInst c).logSync < -7) || decide (4 < (tbInst c).logSync) || decide ((tbInst c).logAnn < -3) ||
      decide (4 < (tbInst c).logAnn) || decide ((tbInst c).logDelay < -7) || decide (6 < (tbInst c).logDelay) ||
      decide ((tbInst c).annTo < 2) || decide (10 < (tbInst c).annTo)) = false := by
    have hsync' : -7 ≤ (tbInst c).logSync ∧ (tbInst c).logSync ≤ 4 := hsync
    have hann' : -3 ≤ (tbInst c).logAnn ∧ (tbInst c).logAnn ≤ 4 := hann
    have hdelay' : -7 ≤ (tbInst c).logDelay ∧ (tbInst c).logDelay ≤ 6 := hdelay
    have hto' : 2 ≤ (tbInst c).annTo ∧ (tbInst c).annTo ≤ 10 := hto
    simp only [Bool.or_eq_false_iff, decide_eq_false_iff_not]
    omega
  unfold tbConfigInst
  refine (checks_pass ?_).trans ?_
  · simp only [reserved, badArg, hover, hrange]
    simp [hres, hrole', htr', hres2]
  · simp only [decide_eq_true_eq, Bool.or_eq_true, or_assoc]

/-- Settles O25, by the KIND and the source of the command. -/
theorem timeBases : Obligations.TimeBases := by
  refine ⟨⟨fun s c rest h hkind hlen hres hrole htr hres2 hs0 hs1 ha0 ha1 hd0 hd1 ht0 ht1 hapart => ?inst,
      fun b i => ⟨?setInst, ?setVal, ?setSt, fun hrole => ?setNone, fun hrole => ?setSome⟩,
      fun s c rest h hres => ⟨fun hkind hlen hres2 hbits => ?tc, fun hkind hlen => ?asym, fun hkind hlen hres2 hw0 hw1 hc0 hc1 => ?io⟩⟩,
    fun s c rest h hres hsel => ⟨fun hlen hsrc hrole => ?armPtp, fun hlen hsrc hpps => ?armPps, fun hlen hsrc hns => ?armValue⟩,
    fun s n v off hn hlen => ?bases, fun s c rest h hres hconfs hne => ?source, fun s c rest h => ?status⟩
  case inst =>
    have hbody := tbConfigInst_ok (s := s.popped c rest) hres hrole htr hres2 ⟨hs0, hs1⟩ ⟨ha0, ha1⟩ ⟨hd0, hd1⟩ ⟨ht0, ht1⟩ hapart
    refine ⟨fun h1 h2 h3 => answers_of_done h rfl ?_, fun hchange => answers_of_done h rfl ?_⟩
    · simp only [hkind]
      refine (checks_pass (by simp [badLen, hlen])).trans (hbody.trans ?_)
      dsimp only
      rw [if_neg]
      · rfl
      · simp [h1, h2, h3]
    · simp only [hkind]
      refine (checks_pass (by simp [badLen, hlen])).trans (hbody.trans ?_)
      dsimp only
      rw [if_pos]
      · rfl
      · exact hchange
  case setInst => by_cases hrole : i.role = 0 <;> simp [Base.setInst, hrole]
  case setVal => by_cases hrole : i.role = 0 <;> simp [Base.setInst, hrole]
  case setSt => by_cases hrole : i.role = 0 <;> simp [Base.setInst, hrole]
  case setNone =>
    rw [setInst_none hrole]
    exact ⟨rfl, rfl, rfl⟩
  case setSome =>
    rw [setInst_some hrole]
    exact ⟨rfl, rfl, rfl⟩
  case tc =>
    refine answers_of_done h rfl ?_
    simp only [hkind, tbConfigOther]
    refine (checks_pass (by simp [badLen, hlen])).trans ((checks_pass ?_).trans rfl)
    simp [reserved, badArg, hres, hres2, hbits]
  case asym =>
    refine answers_of_done h rfl ?_
    simp only [hkind, tbConfigOther]
    exact (checks_pass (by simp [badLen, hlen])).trans ((checks_pass (by simp [reserved, hres])).trans rfl)
  case io =>
    refine answers_of_done h rfl ?_
    simp only [hkind, tbConfigOther]
    refine (checks_pass (by simp [badLen, hlen])).trans ((checks_pass ?_).trans rfl)
    simp [reserved, badArg, hres, hres2, hw1, hc0, hc1]
    omega
  case armPtp =>
    refine answers_of_checks h rfl rfl ?_ (by simp only [hsrc]; rfl)
    simp [badArg, badLen, reserved, hlen, hsrc, hres, hrole]
    exact hsel
  case armPps =>
    refine answers_of_checks h rfl rfl ?_ (by simp only [hsrc]; rfl)
    simp [badArg, badLen, reserved, hlen, hsrc, hres, hpps]
    exact fun heq => hsel (hpps.trans heq)
  case armValue =>
    refine answers_of_checks h rfl rfl ?_ (by simp only [hsrc]; rfl)
    simp [badArg, badLen, reserved, hlen, hsrc, hres, hns]
    exact hsel
  case bases =>
    have hn' : n < s.time.bases.length := hlen ▸ hn
    obtain ⟨hval, hst⟩ := tbStep_base hn' v off
    obtain ⟨hto, hkept⟩ := tbTo_base hn' 1
    exact ⟨hval, hst, hto, hkept⟩
  case source =>
    exact answers_of_checks h rfl rfl (by simp [reserved, hres, hconfs, hne]) rfl
  case status => exact ⟨_, rfl, answers_of_done h rfl rfl⟩

/-! ## PTP messages and the timing inputs and outputs -/

/-- Settles O26, by the event of a PTP clock or of a timing pin. -/
theorem timingInputsAndMessages : Obligations.TimingInputsAndMessages := by
  refine ⟨⟨fun s tb port kind htb hport hkind hrole hbit hlink hslave hreq hpreq => ?message, fun s tb htb hmaster => ?masterLost,
      fun s a b m i e ha hb hina houtb hab hterm hevent => ?transit⟩,
    fun s => ⟨fun hidle => ?edge, fun harm hst => ?edgeMeasured⟩, fun s r v hpps hlost hlate => ?ppsLost, fun s bs ms hbad => ?todBad,
    fun s bs ms r v hpps hok hms harm hst => ?tod, fun s hen => ?clkPresent, fun s hclk => ?clkLost, fun s hout => ⟨fun hnew => ?ppsOut, ?todOut⟩⟩
  case message =>
    refine exec_eq_next rfl (by simp [Instr.wf, htb, hport]) ?_
    simp only [doPtpMessageTx]
    rw [if_neg]
    simp only [Bool.or_eq_true, Bool.and_eq_true, decide_eq_true_eq, Bool.not_eq_true', hbit, hlink]
    rintro ((((((hr | hb) | hk) | hl) | ⟨hk, hs⟩) | ⟨hk, hm⟩) | ⟨hk, hm⟩)
    · exact hrole hr
    · cases hb
    · omega
    · cases hl
    · rw [hslave hk] at hs
      cases hs
    · exact hreq hk hm
    · exact hpreq hk hm
  case masterLost =>
    refine exec_eq_next rfl (by simp [Instr.wf, htb]) ?_
    rw [doPtpMasterLost, State.tbMasterLost, if_neg (by simpa using hmaster)]
  case transit =>
    refine exec_eq_next rfl (by simp [Instr.wf, ha, hb]) ?_
    rw [doPtpTcFrame, if_neg (by simp [hevent, hina, houtb, hab, hterm])]
  case edge =>
    refine exec_eq_next rfl rfl ?_
    simp only [doPpsInEdge]
    rw [if_neg]
    obtain harm | hst := hidle
    · simp [harm]
    · simp [hst]
  case edgeMeasured =>
    refine exec_eq_next rfl rfl ?_
    simp only [doPpsInEdge]
    rw [if_pos (by simp [harm, hst])]
  case ppsLost =>
    refine nextWith_of rfl rfl ?_
    simp only [doPpsInLost, hpps]
    rw [if_neg (by simp [hlost, Nat.not_le.mpr hlate])]
    refine ⟨?_, ?_, ?_, fun harm => ?_⟩
    · rw [postAll_time]
      split
      · exact (tbHoldover_frame _ _).1
      · rfl
    · rw [postAll_legs]
      split
      · exact (tbHoldover_frame _ _).2.1
      · rfl
    · rw [postAll_mem]
      split
      · exact (tbHoldover_frame _ _).2.2
      · rfl
    · rw [postAll_time]
      rw [if_neg]
      exact harm
  case todBad =>
    refine exec_eq_next rfl rfl ?_
    unfold doTodInLine
    split
    next v hv =>
      rw [if_pos]
      obtain hnone | hlen | hms := hbad
      · rw [hv] at hnone
        cases hnone
      · simp [todOk, hlen]
      · simp [hms]
    next => rfl
  case tod =>
    refine exec_eq_next rfl rfl ?_
    simp only [doTodInLine, hpps]
    rw [if_neg (by simp [hok, hms]), if_pos (by simp [harm, hst])]
  case clkPresent =>
    refine exec_eq_next rfl rfl ?_
    rw [doClk10mInPresent, if_pos hen]
  case clkLost =>
    refine exec_eq_next rfl rfl ?_
    rw [doClk10mInLost, if_neg (by simp [hclk])]
  case ppsOut =>
    refine exec_eq_next rfl rfl ?_
    simp only [doPpsOutEdge]
    rw [if_neg (by simp [hout, hnew])]
  case todOut =>
    refine exec_eq_next rfl rfl ?_
    rw [doTodOutLine, if_pos hout]

end Sys2Proof.Machine

/-! PROOF. The line ports (O27): the link, and the commands on a port (R353, R354, R358, R363 to R366). -/

namespace Sys2Proof.Machine

/-- The loss of a link that is up. -/
theorem linkLost_up {s : State} {n : Nat} (cause : Nat) (h : (s.port n).link = true) : s.linkLost n cause =
    ((s.modPort n fun p => { p with link := false, wire := none, upCause := cause, cnt :=
      { p.cnt with linkDowns := min 65535 (p.cnt.linkDowns + 1) } }).linkEvent n 0 cause).dropTq n := by
  simp only [State.linkLost, h, if_true]

/-- No base follows a port that no base's master is on. -/
theorem followers_none {s : State} {n : Nat} (h : ∀ k a, k < 4 → (s.base k).master = some a → a.port ≠ n) :
    ((List.range 4).filter fun k => (s.base k).master.any fun a => a.port == n) = [] := by
  refine List.filter_eq_nil_iff.mpr fun k hk => ?_
  rw [List.mem_range] at hk
  cases hm : (s.base k).master with
  | none => simp
  | some a => simp [h k a hk hm]

/-- Settles O27. The commands on the link and the ends of long operations are evaluated on the state that they find; the port commands
pass their checks and give the statement's state. -/
theorem ports : Obligations.Ports := by
  unfold Obligations.Ports
  refine ⟨⟨fun s n hn hmode hrel hlink => ?up, fun s n hn hlink => ?down, fun s n o hn hop hfw hmaster => ?released,
      fun s n o hn hop => ⟨fun hlink => ?restored, fun hlink htime => ?timeout⟩⟩,
    fun s c rest n cfg h hn hcfg hr1 hr2 hmode hstep hslow hmac hbusy => ⟨fun hsame => ?settings, fun hother hused hlanes hrel => ?mode⟩,
    fun s c rest p h hres hp => ?status,
    fun s c rest n hn hres hbusy hroom => ⟨fun h hmode hrel => ?release, fun h hrel => ?restore⟩⟩
  case up =>
    refine exec_eq_next rfl (by simp [Instr.wf, hn]) ?_
    simp [doLinkUp, hmode, hrel, hlink]
  case down =>
    have hnext : exec (.linkDown n) s = .next (doLinkDown n s) := exec_next rfl (by simp [Instr.wf, hn])
    rw [hnext, doLinkDown, hlink, linkLost_up 0 hlink]
    exact ⟨_, rfl⟩
  case released =>
    refine exec_eq_next rfl (by simp [Instr.wf, hn]) ?_
    simp only [doPortReleaseComplete, hop, hfw, Bool.false_eq_true, if_false]
    rw [followers_none (s := s.modPort n _) hmaster]
    rfl
  case restored =>
    refine exec_eq_next rfl (by simp [Instr.wf, hn]) ?_
    simp [doPortRestoreComplete, hop, hlink]
  case timeout =>
    refine exec_eq_next rfl (by simp [Instr.wf, hn]) ?_
    simp [doPortRestoreComplete, hop, hlink, Nat.not_lt.mpr htime]
  case settings =>
    subst hn hcfg
    have hbusy' : (s.popped c rest).portBusy (c.f 1 0 4) = none := hbusy
    refine answers_of_checks h rfl rfl ?_ (if_neg (fun hne => hne hsame))
    simp_all [badArg, busy]
  case mode =>
    subst hn hcfg
    have hbusy' : (s.popped c rest).portBusy (c.f 1 0 4) = none := hbusy
    have hused' : (s.popped c rest).portUsed (c.f 1 0 4) = false := hused
    have hlanes' : (s.popped c rest).lanesTaken (c.f 1 0 4) (c.f 1 4 3) = false := hlanes
    refine answers_of_checks h rfl rfl ?_ (if_pos hother)
    simp_all [badArg, busy]
  case status =>
    subst hp
    exact answers_of_words h rfl rfl (by simp [reserved, hres])
  case release =>
    subst hn
    have hbusy' : (s.popped c rest).portBusy (c.f 1 0 4) = none := hbusy
    exact answers_of_checks h rfl rfl (by simp [reserved, busy, hres, hbusy', hmode, hrel]) (startLong_popped h hroom)
  case restore =>
    subst hn
    have hbusy' : (s.popped c rest).portBusy (c.f 1 0 4) = none := hbusy
    exact answers_of_checks h rfl rfl (by simp [reserved, busy, hres, hbusy', hrel]) (startLong_popped h hroom)

end Sys2Proof.Machine

/-! PROOF. Reception and the slow path (O28) fail: SPTX_SLOT_SEND of a slot of a bad length that names a leg counts SLOW_TX_BAD with
the leg among its qualifiers (R500), and the statement has the port alone. -/

namespace Sys2Proof.Machine

/-- A transmit slot of no bytes that names leg 5. -/
def legSlot : SlowSlot :=
  { len := 0, port := 0, legValid := true, leg := 5, gen := 0, srcMac := 0, flow := { vlan := none, ipv6 := false, src := 0, sport := 0, dst := 0, dport := 0 } }

/-- A counter of SLOW_TX_BAD for leg 5 (R498, R499). -/
def legCounter : Counter := { owner := 0, sel := srcSlowTxBad, qen := 2, clMask := 0, tenant := 0, object := 5, portq := 0 }

/-- The module after reset, with one slot in the transmit ring of function 0 and the counter configured. -/
def legSlotState : State :=
  { State.reset.modFn 0 fun g => g.modRing 1 fun r => { r with en := true, tail := 1 } with mon := { counters := [(0, legCounter)] } }

/-- `legSlotState` past the slot. -/
def legSlotTaken : State := legSlotState.modFn 0 fun g => g.modRing 1 fun r => { r with head := (r.head + 1) % r.size }

/-- The counter counts the slot that the model discards. -/
theorem legSlot_counted : (doSptxSlotSend 0 legSlot legSlotState).mon.counters = [(0, { legCounter with value := 1 })] := by decide

/-- The counter does not count an occurrence that has no leg. -/
theorem legSlot_notCounted : (legSlotTaken.occur srcSlowTxBad { unit := some legSlot.port }).mon.counters = [(0, legCounter)] := by decide

/-- Refutes O28: the slot of a bad length names leg 5, so a counter of SLOW_TX_BAD qualified by leg 5 counts it; in the state that
the statement claims it does not. -/
theorem not_reception : ¬ Obligations.Reception := by
  unfold Obligations.Reception
  intro hall
  obtain ⟨-, -, hslot⟩ := hall
  obtain ⟨-, hsent⟩ := hslot legSlotState legSlotTaken 0 legSlot _ (by decide) rfl rfl
  obtain ⟨hbad, -⟩ := hsent (by decide) (by decide)
  have hclaim : exec (.sptxSlotSend 0 legSlot) legSlotState = .next (legSlotTaken.occur srcSlowTxBad { unit := some legSlot.port }) :=
    hbad (Or.inl (by decide))
  have hruns : exec (.sptxSlotSend 0 legSlot) legSlotState = .next (doSptxSlotSend 0 legSlot legSlotState) := exec_next rfl (by decide)
  have heq := Host.Outcome.next.inj (hruns.symm.trans hclaim)
  have hcounters := legSlot_counted.symm.trans ((congrArg (fun t => t.mon.counters) heq).trans legSlot_notCounted)
  exact absurd hcounters (by decide)

end Sys2Proof.Machine

/-! PROOF. The millisecond boundaries (O29): TICK_BOUNDARY and TICK_SOURCE_SWITCH (R98, R99, R102, R110). -/

namespace Sys2Proof.Machine

/-- Only the pin of PPS_OUT can fall. -/
theorem ppsFall_shape (s : State) : ∃ p, s.ppsFall = { s with pins := p } := by
  rw [State.ppsFall]
  split
  · exact ⟨_, rfl⟩
  · exact ⟨s.pins, rfl⟩

@[simp] theorem toBoundary_sel (s : State) (n : Nat) : (s.toBoundary n).time.sel = s.time.sel := by
  obtain ⟨p, hp⟩ := ppsFall_shape (s.advance (s.base n).toBoundary)
  rw [State.toBoundary, hp]
  rfl

/-- A base that exists runs on with the reference counter. -/
theorem advance_base {s : State} {n : Nat} (d : Nat) (hn : n < s.time.bases.length) : (s.advance d).base n = (s.base n).advance d := by
  simp [State.base, State.advance, List.getD_eq_getElem?_getD, List.getElem?_map, List.getElem?_eq_getElem hn]

/-- Counting `d` reference units at a rate of `y` in 10^12 from the fraction `rem`, where `d` is the least that reaches `r` whole units,
gives at least `r` and at most one more. -/
theorem least_reach {r y rem : Int} (hr : 1 ≤ r) (hy : 0 < y) (hfast : y < 2 * 1000000000000) (h0 : 0 ≤ rem) (h1 : rem < 1000000000000) :
    0 ≤ (r * 1000000000000 - rem + y - 1) / y ∧ r ≤ ((r * 1000000000000 - rem + y - 1) / y * y + rem) / 1000000000000 ∧
      ((r * 1000000000000 - rem + y - 1) / y * y + rem) / 1000000000000 ≤ r + 1 := by
  have hmod := Int.emod_nonneg (r * 1000000000000 - rem + y - 1) (Int.ne_of_gt hy)
  have hlt := Int.emod_lt_of_pos (r * 1000000000000 - rem + y - 1) hy
  have hdiv := Int.mul_ediv_add_emod (r * 1000000000000 - rem + y - 1) y
  have hcomm := Int.mul_comm y ((r * 1000000000000 - rem + y - 1) / y)
  refine ⟨Int.ediv_nonneg (by omega) (Int.le_of_lt hy), ?_, ?_⟩ <;> omega

/-- A base of at most twice its nominal rate stands, at its next boundary, in the millisecond that follows. -/
theorem boundary_millisecond {b : Base} (hlo : -1000000000000 < b.rate) (hhi : b.rate < 1000000000000) (h0 : 0 ≤ b.rem)
    (h1 : b.rem < 1000000000000) : (b.advance b.toBoundary).val / msU = b.val / msU + 1 := by
  have hmod := Nat.mod_lt b.val (show 0 < msU by decide)
  have hdiv := Nat.div_add_mod b.val msU
  have hnext : 0 < (b.val / msU + 1) * msU - b.val := by
    rw [Nat.add_mul, Nat.mul_comm]
    omega
  obtain ⟨hd, hlow, hhigh⟩ := least_reach (r := ((b.val / msU + 1) * msU - b.val : Nat)) (y := 1000000000000 + b.rate) (by omega) (by omega)
    (by omega) h0 h1
  have hdist : ((b.toBoundary : Nat) : Int) =
      (((b.val / msU + 1) * msU - b.val : Nat) * 1000000000000 - b.rem + (1000000000000 + b.rate) - 1) / (1000000000000 + b.rate) :=
    Int.toNat_of_nonneg hd
  rw [← hdist] at hlow hhigh
  have hsplit : ((b.toBoundary : Nat) : Int) * (1000000000000 + b.rate) + b.rem =
      ((b.toBoundary : Nat) : Int) * b.rate + b.rem + ((b.toBoundary : Nat) : Int) * 1000000000000 := by rw [Int.mul_add]; omega
  rw [hsplit, Int.add_mul_ediv_right _ _ (by decide)] at hlow hhigh
  show (b.val + ((b.toBoundary : Nat) : Int) + (((b.toBoundary : Nat) : Int) * b.rate + b.rem) / 1000000000000).toNat / msU = b.val / msU + 1
  generalize (((b.toBoundary : Nat) : Int) * b.rate + b.rem) / 1000000000000 = q at *
  generalize b.toBoundary = d at *
  simp only [msU] at *
  omega

/-- Settles O29. TICK_BOUNDARY is the definition; the boundary's millisecond is `boundary_millisecond`; TICK_SOURCE_SWITCH splits on
whether the selected base drives the ticks. -/
theorem tickBoundaries : Obligations.TickBoundaries := by
  unfold Obligations.TickBoundaries
  refine ⟨fun s => exec_next rfl rfl, fun s n hn hlo hhi h0 h1 => ?boundary, fun s => ⟨fun hsame => ?kept, fun tm hother htm => ?switched⟩⟩
  case boundary =>
    obtain ⟨p, hp⟩ := ppsFall_shape (s.advance (s.base n).toBoundary)
    have hbase : s.toBoundary n = { { s.advance (s.base n).toBoundary with pins := p } with
        time := { (s.advance (s.base n).toBoundary).time with m := ((s.advance (s.base n).toBoundary).base n).val / msU } } := by
      rw [State.toBoundary, hp]
      rfl
    rw [hbase, advance_base _ hn]
    exact ⟨boundary_millisecond hlo hhi h0 h1, Nat.le_add_right _ _, rfl, rfl, rfl⟩
  case kept => exact exec_eq_next rfl rfl (if_pos hsame)
  case switched =>
    subst htm
    refine exec_eq_next rfl rfl ?_
    simp only [doTickSourceSwitch, if_neg hother, State.tick, evTickSource, toBoundary_sel]

end Sys2Proof.Machine

/-! PROOF. Frames of the codec engines, of counting and of moving flows: what each leaves of the state. -/

namespace Sys2Proof.Machine

/-- A relation that every step of a fold keeps holds across the fold. -/
theorem foldl_rel {α β : Type} {R : β → β → Prop} (hrefl : ∀ b, R b b) (htrans : ∀ {a b c}, R a b → R b c → R a c) {f : β → α → β}
    (hstep : ∀ b a, R b (f b a)) (l : List α) (b : β) : R b (l.foldl f b) :=
  List.foldlRecOn l f (motive := R b) (hrefl b) fun _ ht a _ => htrans ht (hstep _ a)

/-- What every step of a fold leaves as it is, the fold leaves. -/
theorem foldl_same {α β γ : Type} {F : β → γ} {f : β → α → β} (hstep : ∀ b a, F (f b a) = F b) (l : List α) (b : β) : F (l.foldl f b) = F b :=
  List.foldlRecOn l f (motive := fun t => F t = F b) rfl fun _ ht a _ => (hstep _ a).trans ht

/-! ## The codec engines and jobs -/

/-- `t` is `s` but for codec engines and jobs. -/
def CodecOnly (s t : State) : Prop := ∃ a b c, t = { s with engines := a, decJobs := b, encJobs := c }

theorem CodecOnly.refl (s : State) : CodecOnly s s := ⟨_, _, _, rfl⟩

theorem CodecOnly.trans {s t u : State} : CodecOnly s t → CodecOnly t u → CodecOnly s u := by
  rintro ⟨_, _, _, rfl⟩ ⟨_, _, _, rfl⟩
  exact ⟨_, _, _, rfl⟩

theorem modEngine_codec (s : State) (c : Nat) (g : Engine → Engine) : CodecOnly s (s.modEngine c g) := ⟨_, _, _, rfl⟩

theorem modFrame_codec (s : State) (id ts : Nat) (g : DecFrame → DecFrame) : CodecOnly s (s.modFrame id ts g) := ⟨_, _, _, rfl⟩

theorem modEncoding_codec (s : State) (id k : Nat) (g : Encoding → Encoding) : CodecOnly s (s.modEncoding id k g) := ⟨_, _, _, rfl⟩

theorem decNext_codec (s : State) (c : Nat) : CodecOnly s (s.decNext c) := by
  unfold State.decNext
  simp only
  split
  · exact .refl s
  · split
    · exact (modEngine_codec s c _).trans (modFrame_codec _ _ _ _)
    · split
      · exact ((modFrame_codec s _ _ _).trans (modEngine_codec _ _ _)).trans (modFrame_codec _ _ _ _)
      · exact .refl s

theorem onPipe_codec (s : State) (c i : Nat) (r : PipeRun) : CodecOnly s (s.onPipe c i r) := by
  unfold State.onPipe
  exact (foldl_rel CodecOnly.refl CodecOnly.trans (fun s (o : PipeRun) => modEncoding_codec s o.job o.enc _) _ s).trans (modEngine_codec _ _ _)

theorem resumePipes_codec (c n : Nat) (s : State) : CodecOnly s (s.resumePipes c n) := by
  induction n generalizing s with
  | zero => exact .refl s
  | succ n ih =>
    unfold State.resumePipes
    simp only
    split
    · split
      · exact (onPipe_codec s c _ _).trans (ih _)
      · exact .refl s
    · exact .refl s

theorem carryDec_codec (s : State) (id a b : Nat) : CodecOnly s (s.carryDec id a b) :=
  (((modEngine_codec s a _).trans (modEngine_codec _ b _)).trans (decNext_codec _ a)).trans (decNext_codec _ b)

theorem carryEnc_codec (s : State) (id a b : Nat) : CodecOnly s (s.carryEnc id a b) :=
  (((modEngine_codec s a _).trans (modEngine_codec _ b _)).trans (resumePipes_codec a 2 _)).trans (resumePipes_codec b 2 _)

theorem carry_codec (s : State) (o : FlowOwner) (a b : Nat) : CodecOnly s (s.carry o a b) := by
  unfold State.carry
  split
  · exact .refl s
  · cases o with
    | decode j => exact carryDec_codec s j a b
    | encode j => exact carryEnc_codec s j a b
    | _ => exact .refl s

/-! ## Moving flows -/

theorem putFlow_time (s : State) (n : Nat) (f : Flow) (c : Nat) : (s.putFlow n f c).time = s.time := by
  obtain ⟨_, _, _, h⟩ := carry_codec (s.setFlow n (f.moveTo s.time.m c)) f.owner f.place c
  rw [State.putFlow, h]
  rfl

theorem moveFlow_time (s : State) (n c : Nat) : (s.moveFlow n c).time = s.time := by
  unfold State.moveFlow
  split
  · exact putFlow_time s n _ c
  · rfl

/-- A pass over a cluster lets no time pass. -/
theorem passCluster_time (loads : List ClusterLoad) (c : Nat) (fs : List (Nat × Flow)) (p : Pass) :
    (Pass.cluster loads c fs p).s.time = p.s.time := by
  induction fs generalizing p with
  | nil => rfl
  | cons x fs ih =>
    obtain ⟨n, f⟩ := x
    unfold Pass.cluster
    split
    · rfl
    · split
      · exact ih p
      · cases p.target loads n f with
        | none => exact ih p
        | some t =>
          have hmove : (p.move n f t).s.time = p.s.time := moveFlow_time p.s n t
          simp only
          split
          · exact (ih _).trans hmove
          · exact hmove

/-! ## Counting -/

/-- `t` is `s` but for the functions' rings, the counters and the clusters. -/
def Counted (s t : State) : Prop := ∃ a b c, t = { s with fns := a, mon := b, clusters := c }

theorem Counted.refl (s : State) : Counted s s := ⟨_, _, _, rfl⟩

theorem Counted.trans {s t u : State} : Counted s t → Counted t u → Counted s u := by
  rintro ⟨_, _, _, rfl⟩ ⟨_, _, _, rfl⟩
  exact ⟨_, _, _, rfl⟩

theorem postAll_counted (s : State) (e : Event) : Counted s (s.postAll e) := by
  obtain ⟨a, b, h⟩ := postAll_shape s e
  exact ⟨a, b, _, h⟩

theorem modCluster_counted (s : State) (c : Nat) (g : Cluster → Cluster) : Counted s (s.modCluster c g) := ⟨_, _, _, rfl⟩

theorem overrun_counted (s : State) (c : Nat) (i : Item) (unstarted : Bool) : Counted s (s.overrun c i unstarted) := by
  cases unstarted <;> exact ⟨_, _, _, rfl⟩

theorem overrunEvent_counted (s : State) (c : Nat) : Counted s (s.overrunEvent c) := by
  unfold State.overrunEvent
  simp only
  split
  · exact .refl s
  · exact (postAll_counted s _).trans (modCluster_counted _ c _)

/-! ## Items -/

/-- Releasing an item changes only Trailhead. -/
theorem release_shape (s : State) (i : Item) : ∃ t, s.release i = { s with trail := t } := by
  unfold State.release
  split
  · exact ⟨_, rfl⟩
  · cases tget s.trail.flows i.flow with
    | none => exact ⟨s.trail, rfl⟩
    | some f =>
      simp only
      split
      · exact ⟨s.trail, rfl⟩
      · split <;> exact ⟨_, rfl⟩

end Sys2Proof.Machine

/-! PROOF. Trailhead's items (O30): dispatch, completion, delay lists, due points and placement passes (R105 to R107, R109, R112, R114, R415). -/

namespace Sys2Proof.Machine

/-- No core of the cluster below `core` is idle. -/
theorem lower_cores_busy {s : State} {core : Nat} (h : ∀ k, k < core → core / 4 = k / 4 → (tget s.trail.cores k).isSome = true) :
    ((List.range (core - core / 4 * 4)).any fun k => (tget s.trail.cores (core / 4 * 4 + k)).isNone) = false := by
  refine List.any_eq_false.mpr fun k hk => ?_
  rw [List.mem_range] at hk
  simp [Option.isNone_iff_eq_none, Option.isSome_iff_ne_none.mp (h (core / 4 * 4 + k) (by omega) (by omega))]

/-- The core that takes an item serves it. -/
theorem serve_core (s : State) (core : Nat) (i : Item) : tget (s.serve core i).trail.cores core = some i := by
  unfold State.serve
  simp only
  split <;> exact tget_tset_same _ _ _

/-- No timer waits for a delay list that lost none. -/
theorem reinsert_none {s : State} {l : Nat} (h : ∀ e ∈ s.trail.lost, e.what.list ≠ l) : s.reinsert l = s := by
  have hmine : (s.trail.lost.filter fun e => e.what.list == l) = [] := List.filter_eq_nil_iff.mpr fun e he => by simp [h e he]
  have hrest : (s.trail.lost.filter fun e => e.what.list ≠ l) = s.trail.lost := List.filter_eq_self.mpr fun e he => by simp [h e he]
  rw [State.reinsert, hmine, hrest]
  rfl

/-! ## Due points -/

/-- The state of a due point before its overruns are counted: no ready or waiting item of the work due then. -/
def State.dropDue (s : State) (p : Nat) : State :=
  { s with trail := { s.trail with
      cores := tmap (fun i : Item => { i with late := i.late || i.dueAt p s.time.m }) s.trail.cores
      ready := s.trail.ready.map fun l => l.filter fun i => !i.dueAt p s.time.m
      flows := tmap (fun f => { f with
        waiting := f.waiting.filter fun i => !i.dueAt p s.time.m
        serving := f.serving.map fun i : Item => { i with late := i.late || i.dueAt p s.time.m } }) s.trail.flows } }

theorem dropDue_ready (s : State) (p : Nat) {i : Item} (hi : i ∈ (s.dropDue p).trail.ready.flatten) : i.dueAt p s.time.m = false := by
  simp only [State.dropDue, List.mem_flatten, List.mem_map] at hi
  obtain ⟨_, ⟨l, -, rfl⟩, hi⟩ := hi
  simpa using (List.mem_filter.mp hi).2

/-- A due point drops the work due, counts it, releases the timers again, and tells of overruns. -/
theorem duePoint_shape (s : State) (p : Nat) : ∃ (u v : State) (again : List Item), Counted (s.dropDue p) u ∧
    again = ((s.unstarted.filter fun i => i.dueAt p s.time.m).filter fun i => i.work == .timer || i.work == .rtcp) ∧
    v = again.foldl (fun s' i => s'.release { i with tick := s.time.m }) u ∧ Counted v (doDuePointReached p s) :=
  ⟨_, _, _,
    (foldl_rel Counted.refl Counted.trans (fun s (x : Nat × Item) => overrun_counted s (x.1 / 4) x.2 false) _ (s.dropDue p)).trans
      (foldl_rel Counted.refl Counted.trans (fun s (i : Item) => overrun_counted s (s.itemCluster i) i true) _ _),
    rfl, rfl, foldl_rel Counted.refl Counted.trans (fun s c => overrunEvent_counted s c) _ _⟩

/-- Releasing items changes only Trailhead. -/
theorem releases_shape (m : Nat) (is : List Item) (s : State) : ∃ t, is.foldl (fun s i => s.release { i with tick := m }) s = { s with trail := t } := by
  induction is generalizing s with
  | nil => exact ⟨s.trail, rfl⟩
  | cons i is ih =>
    obtain ⟨t, ht⟩ := release_shape s { i with tick := m }
    obtain ⟨t', ht'⟩ := ih (s.release { i with tick := m })
    exact ⟨t', by rw [List.foldl_cons, ht', ht]⟩

/-! ## Placement passes -/

/-- What a boost pass leaves: the rails of the power stage and the clusters' clock minima may change. -/
theorem boostPass_shape (s : State) (c : Nat) (b : Bool) : ∃ x y, s.boostPass c b = { s with power := x, clusters := y } := by
  unfold State.boostPass
  split
  · exact ⟨_, _, rfl⟩
  · split
    · exact ⟨_, _, rfl⟩
    · exact ⟨_, _, rfl⟩

/-- Trying the stopped flows again changes only Trailhead's flows. -/
theorem retryStopped_shape (s : State) : ∃ x, s.retryStopped = { s with trail := { s.trail with flows := x } } := by
  unfold State.retryStopped
  generalize s.trail.flows.filter (fun p => p.2.stopped) = fs
  induction fs generalizing s with
  | nil => exact ⟨s.trail.flows, rfl⟩
  | cons p fs ih =>
    simp only [List.foldl_cons]
    split
    · obtain ⟨x, hx⟩ := ih (s.setFlow p.1 { p.2 with place := _, stopped := false, marker := none })
      exact ⟨x, hx⟩
    · exact ih s

/-- A change of each of the first `n` clusters. -/
theorem foldl_modCluster_cluster (g : State → Nat → Cluster → Cluster) (n : Nat) (s : State) {c : Nat} (hc : c < n) :
    ∃ t k, ((List.range n).foldl (fun s c => s.modCluster c (g s c)) s).cluster c = g t c k := by
  induction n with
  | zero => omega
  | succ n ih =>
    rw [List.range_succ, List.foldl_append]
    simp only [List.foldl_cons, List.foldl_nil, State.cluster, State.modCluster]
    by_cases hcn : c = n
    · subst hcn
      exact ⟨_, _, tgetD_tset_same _ _ _ _⟩
    · rw [tgetD_tset_ne _ _ _ hcn]
      exact ih (by omega)

/-- What a placement pass does after its moves: `still` are the clusters that stay over-committed (R114). -/
def Pass.close (p : Pass) (still : List Nat) (loads : List ClusterLoad) : State :=
  let s := { p.s with trail := { p.s.trail with lastPass := some p.s.time.m } }
  let s := (List.range 48).foldl (fun s c => s.boostPass c (decide (0 < (s.cluster c).overRuns))) s
  let s := (List.range 48).foldl (fun s c => s.modCluster c fun k => { k with
    used := p.used.getD c 0
    busy := (loads.getD c ⟨0, []⟩).busy
    overLoaded := still.contains c
    overPasses := if still.contains c then k.overPasses + 1 else 0
    overRuns := 0
    clkMin := (s.rail c).mhz
    tempMax := tgetD s.power.temps c 0 }) s
  let s := s.retryStopped
  if p.moves = 0 then s
  else s.postAll { code := evPlacePass, d0 := p.moves, d1 := still.length, d2 := maskOf still % 2 ^ 32, d3 := maskOf still / 2 ^ 32 }

/-- A pass that is due moves flows while no time passes, and closes. -/
theorem placementPass_close {s : State} {loads : List ClusterLoad} (h0 : s.time.m % 100 = 0) (h1 : s.trail.lastPass ≠ some s.time.m) :
    ∃ (p : Pass) (still : List Nat), p.s.time = s.time ∧ doPlacementPass loads s = p.close still loads := by
  rw [doPlacementPass, if_neg (by simp [h0, h1])]
  exact ⟨_, _, foldl_same (F := fun p : Pass => p.s.time) (fun p c => passCluster_time loads c _ p) _ _, rfl⟩

/-- A closed pass is recorded as the last. -/
theorem close_lastPass (p : Pass) (still : List Nat) (loads : List ClusterLoad) :
    (p.close still loads).trail.lastPass = some p.s.time.m := by
  have hboost : ∀ s c b, (State.boostPass s c b).trail = s.trail := fun s c b => by
    obtain ⟨_, _, h⟩ := boostPass_shape s c b
    rw [h]
  have hretry : ∀ s : State, s.retryStopped.trail.lastPass = s.trail.lastPass := fun s => by
    obtain ⟨_, h⟩ := retryStopped_shape s
    rw [h]
  simp only [Pass.close, apply_ite State.trail, postAll_trail, ite_self, hretry]
  rw [foldl_same (F := State.trail) (fun s c => State.modCluster_trail s c _), foldl_same (F := State.trail) (fun s c => hboost s c _)]

/-- A closed pass starts a cluster's overrun count afresh and keeps the load measured. -/
theorem close_cluster (p : Pass) (still : List Nat) (loads : List ClusterLoad) {c : Nat} (hc : c < 48) :
    ((p.close still loads).cluster c).overRuns = 0 ∧ ((p.close still loads).cluster c).busy = (loads.getD c ⟨0, []⟩).busy := by
  have hretry : ∀ s : State, s.retryStopped.clusters = s.clusters := fun s => by
    obtain ⟨_, h⟩ := retryStopped_shape s
    rw [h]
  simp only [Pass.close, State.cluster, apply_ite State.clusters, postAll_clusters, ite_self, hretry]
  obtain ⟨t, k, h⟩ := foldl_modCluster_cluster (fun s c k => { k with
    used := p.used.getD c 0
    busy := (loads.getD c ⟨0, []⟩).busy
    overLoaded := still.contains c
    overPasses := if still.contains c then k.overPasses + 1 else 0
    overRuns := 0
    clkMin := (s.rail c).mhz
    tempMax := tgetD s.power.temps c 0 }) 48 ((List.range 48).foldl (fun s c => s.boostPass c (decide (0 < (s.cluster c).overRuns)))
      { p.s with trail := { p.s.trail with lastPass := some p.s.time.m } }) hc
  rw [State.cluster] at h
  exact ⟨congrArg Cluster.overRuns h, congrArg Cluster.busy h⟩

/-- Settles O30. Dispatch and completion follow the branches of their definitions; a due point is `dropDue`, then counting, then the
releases; a placement pass is its moves, which let no time pass, and `Pass.close`. -/
theorem trailheadItems : Obligations.TrailheadItems := by
  unfold Obligations.TrailheadItems
  refine ⟨⟨fun s core i hcore hidle hlower hin hcopy hfirst => ?dispatch, fun s core hcore hno => ?noDispatch,
      fun s u core i f hcore hserved hflow hu => ⟨fun hepoch hprot => ?completed, fun hepoch hmarker => ?stale⟩,
      fun s core hcore hidle => ?nothingServed, fun s l hl hlost => ?due⟩,
    fun s p hp => ?duePoint, fun s ls hwf => ⟨fun hno => ?noPass, fun h0 h1 => ?pass⟩,
    fun s cl t hcl => ⟨fun hnone => ?noExtra, fun hat hm => ?extraLater, fun u hat hm hu => ?extra⟩⟩
  case dispatch =>
    have hlow := lower_cores_busy hlower
    refine ⟨exec_eq_next rfl (by simp [Instr.wf, hcore]) ?_, serve_core s core i⟩
    simp [doTrailheadDispatch, hidle, hlow, hin, hcopy, hfirst, -List.getD_eq_getElem?_getD]
  case noDispatch =>
    refine exec_eq_next rfl (by simp [Instr.wf, hcore]) ?_
    obtain hbusy | hout | hcopy | hnone := hno
    · simp [doTrailheadDispatch, Option.isSome_iff_ne_none.mp hbusy]
    · simp [doTrailheadDispatch, hout]
    · simp [doTrailheadDispatch, hcopy, -List.getD_eq_getElem?_getD]
    · simp [doTrailheadDispatch, hnone]
  case completed =>
    subst hu
    refine exec_eq_next rfl (by simp [Instr.wf, hcore]) ?_
    simp [doItemComplete, hserved, hflow, hepoch, hprot]
  case stale =>
    subst hu
    refine exec_eq_next rfl (by simp [Instr.wf, hcore]) ?_
    simp [doItemComplete, hserved, hflow, hepoch, hmarker]
  case nothingServed =>
    refine exec_eq_next rfl (by simp [Instr.wf, hcore]) ?_
    simp [doItemComplete, hidle]
  case due =>
    refine exec_eq_next rfl (by simp [Instr.wf, hl]) ?_
    rw [doDelayEntryDue, State.releaseDue, reinsert_none hlost]
  case duePoint =>
    obtain ⟨u, v, again, ⟨a, b, c, hu⟩, hagain, hv, a', b', c', ht⟩ := duePoint_shape s p
    obtain ⟨tr, htr⟩ := releases_shape s.time.m again u
    rw [htr] at hv
    refine nextWith_of rfl (by simp [Instr.wf]) ?_
    rw [ht, hv, hu]
    refine ⟨rfl, rfl, rfl, rfl, rfl, fun hno i hi => ?_⟩
    have hnone : again = [] := by
      rw [hagain]
      refine List.filter_eq_nil_iff.mpr fun j hj => ?_
      obtain ⟨htimer, hrtcp⟩ := hno j (List.mem_filter.mp hj).1
      simp [htimer, hrtcp]
    rw [hnone, List.foldl_nil, hu] at htr
    have hready : tr.ready = (s.dropDue p).trail.ready := congrArg (fun x => x.trail.ready) htr.symm
    exact dropDue_ready s p (hready ▸ hi)
  case noPass =>
    refine exec_eq_next rfl hwf ?_
    rw [doPlacementPass, if_pos (by simpa using hno)]
  case pass =>
    obtain ⟨p, still, htime, hclose⟩ := placementPass_close (loads := ls) h0 h1
    refine nextWith_of rfl hwf ?_
    rw [hclose]
    exact ⟨(close_lastPass p still ls).trans (by rw [htime]), fun c hc => close_cluster p still ls hc⟩
  case noExtra =>
    refine exec_eq_next rfl (by simp [Instr.wf, hcl]) ?_
    simp [doExtraPlacementPass, hnone]
  case extraLater =>
    refine exec_eq_next rfl (by simp [Instr.wf, hcl]) ?_
    simp [doExtraPlacementPass, hat, Nat.not_lt.mpr hm]
  case extra =>
    subst hu
    refine exec_eq_next rfl (by simp [Instr.wf, hcl]) ?_
    simp [doExtraPlacementPass, hat, hm]

end Sys2Proof.Machine

/-! PROOF. Locked groups and power domains (O31): CL.LOCK, its completion, and DOMAIN_FAULT (R120, R466). -/

namespace Sys2Proof.Machine

/-- A domain that goes off with its fault bit. -/
theorem domainOff_faulted {s : State} {d : Nat} (h : s.power.pdFault.contains d = false) :
    (s.domainOff d true).power.pdFault = s.power.pdFault ++ [d] ∧ (s.domainOff d true).power.pdOn.contains d = false := by
  have hguard : (true && !s.power.pdFault.contains d) = true := by simp only [h, Bool.not_false, Bool.and_self]
  have hoff : s.domainOff d true = { s.domains fun e on => on && e ≠ d with power :=
      { (s.domains fun e on => on && e ≠ d).power with pdFault := s.power.pdFault ++ [d] } } := if_pos hguard
  rw [hoff]
  exact ⟨rfl, by simp [State.domains]⟩

/-- The clusters that CL.LOCK names by a size of 1 or 2 may be locked. -/
theorem clLock_checks {s : State} {c : Ctx} {rest : List Cmd} {first size : Nat} (hres : c.f 1 8 24 = 0)
    (hfirst : first < 48) (hsize : size = 1 ∧ first % 2 = 0 ∨ size = 2 ∧ first % 4 = 0)
    (hopen : ∀ k ∈ s.lockNames first size, (s.cluster k).group = none ∧ (s.cluster k).inService = true)
    (hdrain : s.drainer (s.lockNames first size) = none) (isGroup needs : Bool) :
    ∀ x ∈ [reserved c 1 8 24,
      badArg (decide (47 < first) || size == 3 || (size == 1 && first % 2 ≠ 0) || (size == 2 && first % 4 ≠ 0) || (size == 0 && !isGroup)) 1,
      (size ≠ 0 && ((s.popped c rest).lockNames first size).any (fun k => ((s.popped c rest).cluster k).group.isSome ||
        !((s.popped c rest).cluster k).inService), eState, 1),
      (size == 0 && needs, eState, 2),
      (((s.popped c rest).drainer ((s.popped c rest).lockNames first size)).isSome, eBusy,
        ((s.popped c rest).drainer ((s.popped c rest).lockNames first size)).getD 0)], x.1 = false := by
  have hnames : (s.popped c rest).lockNames first size = s.lockNames first size := rfl
  have hdrain' : (s.popped c rest).drainer (s.lockNames first size) = none := hdrain
  have hany : ((s.lockNames first size).any fun k => ((s.popped c rest).cluster k).group.isSome || !((s.popped c rest).cluster k).inService) = false :=
    List.any_eq_false.mpr fun k hk => by simp [hopen k hk]
  rw [hnames, hany, hdrain']
  obtain ⟨rfl, heven⟩ | ⟨rfl, heven⟩ := hsize <;> simp [reserved, badArg, hres, heven, Nat.not_lt.mp, hfirst, Nat.le_of_lt_succ]

/-- CL.LOCK of a size moves the flows of the clusters that it names. -/
theorem moveAll_popped {s : State} {c : Ctx} {rest : List Cmd} {first size : Nat} (hsize : size ≠ 0) :
    State.moveAll ((s.popped c rest).lockNames first size)
      (if size = 0 then (s.popped c rest).flowsOn first else ((s.popped c rest).lockNames first size).flatMap (s.popped c rest).flowsOn)
      (s.popped c rest) = State.moveAll (s.lockNames first size) ((s.lockNames first size).flatMap s.flowsOn) (s.popped c rest) := by
  rw [if_neg hsize]
  rfl

/-- Settles O31. CL.LOCK passes its checks and follows `moveAll`; DOMAIN_FAULT follows the ranges of domains. -/
theorem lockedGroupsAndDomains : Obligations.LockedGroupsAndDomains := by
  unfold Obligations.LockedGroupsAndDomains
  refine ⟨⟨fun s c rest first size ns h hres hf hs hfirst hsize hns hopen hdrain => ⟨fun hmove => ?noPlace, fun t hmove hroom => ?locked⟩,
    fun s first o ns hfirst hop hns => ⟨fun hin => ?waits, fun hout => ?done⟩⟩,
    fun s u d hd hu => ⟨fun h => ?off, fun h => ?cluster, fun h h' => ?fabric, fun h h' => ?composer, fun h h' => ?hbm, fun h h' => ?line,
      fun h h' => ?half, fun h h' => ?pair, fun h h' => ?trail, fun h => ?pcie⟩⟩
  case noPlace =>
    subst hf hs hns
    have hmove' := (moveAll_popped (c := c) (rest := rest) (by omega)).trans hmove
    refine answers_of_fail h rfl ((checks_pass (clLock_checks hres hfirst hsize hopen hdrain _ _)).trans ?_)
    simp only [hmove']
  case locked =>
    subst hf hs hns
    have hmove' := (moveAll_popped (c := c) (rest := rest) (by omega)).trans hmove
    refine answers_of_done h rfl ((checks_pass (clLock_checks hres hfirst hsize hopen hdrain _ _)).trans ?_)
    simp only [hmove']
    rw [← h.opcode]
    exact startLong_ok hroom
  case waits =>
    subst hns
    obtain ⟨p, hp, hplace⟩ := hin
    refine exec_eq_next rfl (by simp [Instr.wf, hfirst]) ?_
    have hany : (s.trail.flows.any fun p => (s.lockNames first o.b).contains p.2.place || p.2.marker.any fun m =>
        (s.lockNames first o.b).contains m.cluster) = true := List.any_eq_true.mpr ⟨p, hp, by simp [hplace]⟩
    simp only [doClLockComplete, hop, hany, if_true]
  case done =>
    subst hns
    refine exec_eq_next rfl (by simp [Instr.wf, hfirst]) ?_
    have hany : (s.trail.flows.any fun p => (s.lockNames first o.b).contains p.2.place || p.2.marker.any fun m =>
        (s.lockNames first o.b).contains m.cluster) = false := by
      refine List.any_eq_false.mpr fun p hp => ?_
      obtain ⟨hplace, hmarker⟩ := hout p hp
      cases hm : p.2.marker with
      | none => simp [hplace]
      | some m => simp [hplace, hmarker m hm]
    simp only [doClLockComplete, hop, hany, Bool.false_eq_true, if_false]
  case off =>
    subst hu
    exact domainOff_faulted h
  all_goals
    subst hu
    refine exec_eq_next rfl (by simp [Instr.wf, hd]) ?_
    simp only [doDomainFault]
  case cluster => rw [if_pos h]
  case fabric => rw [if_neg (by omega), if_pos h']
  case composer => rw [if_neg (by omega), if_neg (by omega), if_pos h']
  case hbm => rw [if_neg (by omega), if_neg (by omega), if_neg (by omega), if_pos h']
  case line => rw [if_neg (by omega), if_neg (by omega), if_neg (by omega), if_neg (by omega), if_pos h']
  case half => rw [if_neg (by omega), if_neg (by omega), if_neg (by omega), if_neg (by omega), if_neg (by omega), if_neg (by omega), if_pos h']
  case pair =>
    rw [if_neg (by omega), if_neg (by omega), if_neg (by omega), if_neg (by omega), if_neg (by omega), if_neg (by omega), if_neg (by omega), if_pos h']
  case trail =>
    rw [if_neg (by omega), if_neg (by omega), if_neg (by omega), if_neg (by omega), if_neg (by omega), if_neg (by omega), if_neg (by omega),
      if_neg (by omega), if_pos h']
  case pcie =>
    rw [if_neg (by omega), if_neg (by omega), if_neg (by omega), if_neg (by omega), if_neg (by omega), if_neg (by omega), if_neg (by omega),
      if_neg (by omega), if_neg (by omega), domainOff_pins]

end Sys2Proof.Machine

/-! PROOF. Link groups (O32): what the operations on a group leave in it, bring-up, loss and heartbeats (R374 to R376). -/

namespace Sys2Proof.Machine

/-! ## A group after the operations on it -/

theorem group_of_casc {s t : State} (h : t.casc = s.casc) (g : Nat) : t.group g = s.group g := by rw [State.group, State.group, h]

@[simp] theorem modCells_group_same (s : State) (g : Nat) (f : CellLayer → CellLayer) :
    (s.modCells g f).group g = { s.group g with cells := f (s.group g).cells } := State.modGroup_group_same s g _

theorem modCells_group_ne {s : State} {g h : Nat} (f : CellLayer → CellLayer) (hne : h ≠ g) : (s.modCells g f).group h = s.group h :=
  State.modGroup_group_ne s _ hne

@[simp] theorem sendCtl_group_same (s : State) (g : Nat) (m : LinkCtl) :
    (s.sendCtl g m).group g = { s.group g with cells := { (s.group g).cells with vc0 := (s.group g).cells.vc0 ++ [m] } } :=
  modCells_group_same s g _

theorem sendCtl_group_ne {s : State} {g h : Nat} (m : LinkCtl) (hne : h ≠ g) : (s.sendCtl g m).group h = s.group h := modCells_group_ne _ hne

@[simp] theorem postAll_group (s : State) (e : Event) (g : Nat) : (s.postAll e).group g = s.group g := group_of_casc (postAll_casc s e) g

@[simp] theorem groupEvent_group (s : State) (g old cause h : Nat) : (s.groupEvent g old cause).group h = s.group h := postAll_group s _ h

/-- A wake check can plan a wake and ask the peer for it. -/
theorem wakeCheck_group (s : State) (g : Nat) : ∃ w d a l, (s.wakeCheck g).group g = { s.group g with
    wakeOut := w, shedOut := d, wakeAfter := a, cells := { (s.group g).cells with vc0 := (s.group g).cells.vc0 ++ l } } := by
  unfold State.wakeCheck
  simp only
  split
  · exact ⟨(s.group g).wakeOut, (s.group g).shedOut, (s.group g).wakeAfter, [], by simp only [List.append_nil]⟩
  · split
    · exact ⟨(s.group g).wakeOut, (s.group g).shedOut, true, [], by simp only [List.append_nil, State.modGroup_group_same]⟩
    · exact ⟨_, _, _, _, by simp only [State.startWake, sendCtl_group_same, State.modGroup_group_same]; rfl⟩

/-- An UP group after its heartbeat. -/
theorem heartbeatSend_group {s : State} {g : Nat} (h : (s.group g).st = 3) : ∃ w d a l, (doHeartbeatSend g s).group g = { s.group g with
    hbSeen := false, hbRun := if (s.group g).hbSeen then 0 else (s.group g).hbRun + 1
    hbMissed := if (s.group g).hbSeen then (s.group g).hbMissed else (s.group g).hbMissed + 1
    winTicks := (s.group g).winTicks + 1, tickCells := 0, wakeOut := w, shedOut := d, wakeAfter := a
    cells := { (s.group g).cells with vc0 := (s.group g).cells.vc0 ++ { op := 8 } :: l } } := by
  obtain ⟨w, d, a, l, hcheck⟩ := wakeCheck_group ((s.sendCtl g { op := 8 }).modGroup g fun x => { x with
    hbSeen := false, hbRun := if x.hbSeen then 0 else x.hbRun + 1, hbMissed := if x.hbSeen then x.hbMissed else x.hbMissed + 1
    winTicks := x.winTicks + 1 }) g
  refine ⟨w, d, a, l, ?_⟩
  rw [doHeartbeatSend, if_neg (fun hne => hne h)]
  simp only [State.modGroup_group_same, hcheck, sendCtl_group_same, List.append_assoc, List.singleton_append]

/-- A group that comes UP. -/
theorem groupIsUp_group (s : State) (g : Nat) :
    (s.groupIsUp g).group g = { s.group g with st := 3, active := widest (s.group g).good, again := false } := by
  have hgroup : ∀ t : State, ∀ p, ({ t with prot := p } : State).group g = t.group g := fun _ _ => rfl
  simp only [State.groupIsUp, groupEvent_group]
  split
  · exact (hgroup _ _).trans (State.modGroup_group_same s g _)
  · exact State.modGroup_group_same s g _

/-- The shadow message that the peer applied changes no group. -/
theorem shadowApplied_casc (s : State) (seq : Nat) : (s.shadowApplied seq).casc = s.casc := by
  unfold State.shadowApplied
  split <;> rfl

/-- Settles O32. Each row follows the branches of its definition; what HEARTBEAT_SEND and HELLO_ACK leave in the group are
`wakeCheck_group` and `groupIsUp_group`. -/
theorem linkGroups : Obligations.LinkGroups := by
  unfold Obligations.LinkGroups
  refine ⟨⟨fun s g hg => ⟨fun h => ?equalised, fun h => ?notTraining, fun h => ?helloSend, fun h hfw => ?retry, fun h => ?noRetry⟩,
      fun s g cr hwf hst hnone => ?hello, fun s g fed mod hwf hst => ⟨fun hfed hmod => ?ack, fun hother hmis => ?wrong⟩,
      fun s g signal hg => ⟨fun h hlost => ?lost, fun hnot => ?notLost⟩⟩,
    fun s g hg hst => ?send, fun s g h hwf => ⟨fun hother => ?ignored, fun hst hsrc hfed => ?heard⟩⟩
  case equalised => exact exec_eq_next rfl (by simp [Instr.wf, hg]) (by simp [doLaneEqualisationDone, h])
  case notTraining => exact exec_eq_next rfl (by simp [Instr.wf, hg]) (by simp [doLaneEqualisationDone, h])
  case helloSend => exact exec_eq_next rfl (by simp [Instr.wf, hg]) (by simp [doHelloSend, h])
  case retry => exact exec_eq_next rfl (by simp [Instr.wf, hg]) (by simp [doCascGroupRetry, State.trainGroup, h, hfw])
  case noRetry => exact exec_eq_next rfl (by simp [Instr.wf, hg]) (by simp [doCascGroupRetry, h])
  case hello =>
    refine exec_eq_next rfl hwf ?_
    have hin : ¬((s.group g).st ≠ 2 && (s.group g).st ≠ 3) = true := by
      obtain h | h := hst <;> simp [h]
    simp only [doHello, State.rightPeer, beq_self_eq_true, Bool.and_self, Bool.not_true, Bool.false_eq_true, if_false, hnone,
      List.isEmpty_nil, if_true]
    rw [if_neg hin]
  case ack =>
    have hup : exec (.helloAck g fed mod) s = .next (s.groupIsUp g) :=
      exec_eq_next rfl hwf (by simp [doHelloAck, State.rightPeer, hst, hfed, hmod])
    exact ⟨_, hup, rfl, by rw [groupIsUp_group], by rw [groupIsUp_group], by rw [groupIsUp_group]⟩
  case wrong =>
    have hwrong : s.rightPeer g fed mod = false := by
      obtain h | h := hother <;> simp [State.rightPeer, h]
    exact exec_eq_next rfl hwf (by simp [doHelloAck, State.wrongPeer, hst, hwrong, hmis])
  case lost => exact exec_eq_next rfl (by simp [Instr.wf, hg]) (by simp [doPeerLost, h, hlost])
  case notLost =>
    refine exec_eq_next rfl (by simp [Instr.wf, hg]) ?_
    obtain h | ⟨h, hfew⟩ := hnot
    · simp [doPeerLost, h]
    · simp [doPeerLost, h, Nat.not_le.mpr hfew]
  case send =>
    obtain ⟨w, d, a, l, hgroup⟩ := heartbeatSend_group hst
    refine nextWith_of rfl (by simp [Instr.wf, hg]) ?_
    rw [hgroup]
    refine ⟨rfl, rfl, rfl, ?_, l, rfl⟩
    cases (s.group g).hbSeen <;> rfl
  case ignored =>
    refine exec_eq_next rfl hwf ?_
    obtain h | h | h := hother <;> simp [doHeartbeat, h]
  case heard =>
    refine nextWith_of rfl hwf ?_
    have hmine : ¬((s.group g).st ≠ 3 || h.src ≠ (s.group g).peer || h.fedId ≠ s.casc.fedId) = true := by simp [hst, hsrc, hfed]
    rw [doHeartbeat]
    simp only
    rw [if_neg hmine, apply_ite (State.group · g), group_of_casc (shadowApplied_casc _ _), ite_self, State.modGroup_group_same]
    refine ⟨rfl, rfl, rfl, fun hb hp => ?_, fun hnot => ?_⟩
    · simp [hb, hp]
    · obtain hb | hp := hnot <;> simp [*]

end Sys2Proof.Machine

/-! PROOF. The cell layer of a link group (O33): reception, retry and transmission of cells (R369 to R371). -/

namespace Sys2Proof.Machine

/-! ## Reception -/

theorem addCredit_ackSeq (c : CellLayer) (vc n : Nat) : (c.addCredit vc n).ackSeq = c.ackSeq := by
  unfold CellLayer.addCredit
  split <;> rfl

theorem addCredit_kept (c : CellLayer) (vc n : Nat) : (c.addCredit vc n).kept = c.kept := by
  unfold CellLayer.addCredit
  split <;> rfl

theorem buffer_ackSeq (c : CellLayer) (vc : Nat) (eop : Bool) : (c.buffer vc eop).ackSeq = c.ackSeq := by
  unfold CellLayer.buffer
  cases eop <;> split <;> rfl

theorem buffer_kept (c : CellLayer) (vc : Nat) (eop : Bool) : (c.buffer vc eop).kept = c.kept := by
  unfold CellLayer.buffer
  cases eop <;> split <;> rfl

/-- An accepted cell's acknowledgement. -/
theorem heard_ackSeq (c : CellLayer) (x : Cell) : (c.heard x).ackSeq = x.ack := addCredit_ackSeq _ _ _

/-- An accepted cell frees those that it acknowledges. -/
theorem heard_kept (c : CellLayer) (x : Cell) : (c.heard x).kept = c.kept.filter fun k => !seqBefore k.1 x.ack := addCredit_kept _ _ _

/-- The first cell of a run that is discarded asks for the expected cell. -/
theorem discardCell_asks {s : State} {g : Nat} (src : Nat) (h : (s.group g).cells.retryDue = false) :
    ((s.discardCell g src).group g).cells.retryDue = true ∧
    ((s.discardCell g src).group g).cells.vc0 = (s.group g).cells.vc0 ++ [{ op := 2, retrySeq := (s.group g).cells.expSeq }] := by
  have hask : s.discardCell g src = (s.occur src { unit := some g }).askRetry g := by
    simp only [State.discardCell, State.occur_group, h, Bool.false_eq_true, if_false]
  rw [hask]
  simp only [State.askRetry, sendCtl_group_same, modCells_group_same, State.occur_group, and_self]

/-! ## Transmission -/

/-- With no width change planned a group's transmission leaves its width. -/
theorem widthNow_none {s : State} {g : Nat} (h : (s.group g).next = none) : s.widthNow g = s := by
  simp only [State.widthNow, h]

/-- CELL_TX with a cell asked for again. -/
theorem cellTx_replay {s : State} {g n cr : Nat} {c : CellLayer} {k : Nat × Nat} {ks : List (Nat × Nat)} (hin : (s.group g).st = 2 ∨ (s.group g).st = 3)
    (hnext : (s.group g).next = none) (hret : (s.group g).cells.returnCredits = (n, cr, c)) (hk : c.replay = k :: ks) :
    (doCellTx g s).group g = { s.group g with
      cells := { c with replay := ks, lastTx := some (mkCell (if k.2 = 0 then 2 else k.2 + 2) (s.casc.self.getD 0) k.2 true true k.1 c (n, cr)) }
      winCells := (s.group g).winCells + 1 } := by
  have hup : ¬((s.group g).st ≠ 2 && (s.group g).st ≠ 3) = true := by
    obtain h | h := hin <;> simp [h]
  rw [doCellTx, if_neg hup]
  simp only [widthNow_none hnext, hret, hk, State.modGroup_group_same]

/-- CELL_TX of IDLE. -/
theorem cellTx_idle {s : State} {g n cr : Nat} {c : CellLayer} (hin : (s.group g).st = 2 ∨ (s.group g).st = 3)
    (hnext : (s.group g).next = none) (hret : (s.group g).cells.returnCredits = (n, cr, c)) (hk : c.replay = [])
    (hno : 1024 ≤ c.kept.length ∨ c.choose ((s.group g).st == 3) = none) :
    (doCellTx g s).group g = { s.group g with
      cells := { c with lastTx := some (mkCell 0 (s.casc.self.getD 0) 0 false false c.nextSeq c (n, cr)) } } := by
  have hup : ¬((s.group g).st ≠ 2 && (s.group g).st ≠ 3) = true := by
    obtain h | h := hin <;> simp [h]
  have hnew : (if 1024 ≤ c.kept.length then none else c.choose ((s.group g).st == 3)) = none := by
    obtain h | h := hno
    · exact if_pos h
    · rw [h, ite_self]
  rw [doCellTx, if_neg hup]
  simp only [widthNow_none hnext, hret, hk, hnew, modCells_group_same]

/-- CELL_TX of a new cell. -/
theorem cellTx_new {s : State} {g n cr : Nat} {c : CellLayer} {h : Chosen} (hin : (s.group g).st = 2 ∨ (s.group g).st = 3)
    (hnext : (s.group g).next = none) (hret : (s.group g).cells.returnCredits = (n, cr, c)) (hk : c.replay = [])
    (hfew : c.kept.length < 1024) (hchoose : c.choose ((s.group g).st == 3) = some h) :
    (doCellTx g s).group g = { s.group g with
      cells := { h.cells with nextSeq := (c.nextSeq + 1) % 65536, kept := c.kept ++ [(c.nextSeq, h.vc)]
                              lastTx := some (mkCell h.typ (s.casc.self.getD 0) h.vc h.sop h.eop c.nextSeq c (n, cr)) }
      winCells := (s.group g).winCells + 1, tickCells := (s.group g).tickCells + b2n (h.vc ≠ 1) } := by
  have hup : ¬((s.group g).st ≠ 2 && (s.group g).st ≠ 3) = true := by
    obtain h | h := hin <;> simp [h]
  have hnew : (if 1024 ≤ c.kept.length then none else c.choose ((s.group g).st == 3)) = some h := by rw [if_neg (Nat.not_le.mpr hfew), hchoose]
  rw [doCellTx, if_neg hup]
  simp only [widthNow_none hnext, hret, hk, hnew, State.modGroup_group_same]

/-- The head message of a queue gives the next cell of its channel. -/
theorem headCell_some {q : List VcMsg} (typ vc : Nat) (c : CellLayer) (h : q ≠ []) : ∃ x, headCell typ vc q c = some x ∧ x.vc = vc ∧ x.cells = c := by
  cases q with
  | nil => exact absurd rfl h
  | cons m ms => exact ⟨_, rfl, rfl, rfl⟩

/-- A channel without a cell that it may send. -/
theorem channel_closed {q : List VcMsg} {cr : Nat} (h : q = [] ∨ cr = 0) : (!q.isEmpty && decide (0 < cr)) = false := by
  obtain h | h := h <;> simp [h]

/-- A channel with a message and a credit. -/
theorem channel_open {q : List VcMsg} {cr : Nat} (hq : q ≠ []) (hcr : 0 < cr) : (!q.isEmpty && decide (0 < cr)) = true := by simp [hq, hcr]

/-- Settles O33. Reception and retry follow the branches of their definitions; what a transmission leaves is `cellTx_replay`,
`cellTx_idle` or `cellTx_new`; the priority is the order of the branches of `CellLayer.choose`. -/
theorem cells : Obligations.Cells := by
  unfold Obligations.Cells
  refine ⟨⟨fun s g x hwf hst => ⟨fun hcrc => ?damaged, fun hcrc htyp => ?idleCell, fun hcrc htyp hseq => ?outOfSequence, fun hcrc htyp hseq => ?accepted⟩,
      fun s g src h => discardCell_asks src h, fun s g hg => ⟨fun h => ?askAgain, fun h => ?arrived⟩,
      fun s g n hwf hst hn => ⟨fun hheld => ?resent, fun hgone => ?reinit⟩⟩,
    fun s g n cr c hg hst hnext hret => ⟨fun k ks hk => ?replay, fun hk hno => ?idle, fun h hk hfew hchoose => ?new, fun m ms hvc0 => ?vc0,
      fun hvc0 hup hvc2 hcr => ?vc2, fun hvc0 hup hno2 hvc3 hcr => ?vc3, fun hvc0 hup hno2 hno3 hvc1 hcr => ?vc1⟩⟩
  case damaged | idleCell | outOfSequence =>
    refine exec_eq_next rfl hwf ?_
    obtain h | h := hst <;> simp [doCellRx, *]
  case accepted =>
    have hrun : exec (.cellRx g x) s = .next (doCellRx g x s) := exec_next rfl hwf
    have hup : ¬((s.group g).st ≠ 2 && (s.group g).st ≠ 3) = true := by
      obtain h | h := hst <;> simp [h]
    have heq : doCellRx g x s = (s.modCells g fun c =>
        { ((c.heard x).buffer x.vc x.eop) with expSeq := (x.seq + 1) % 65536, retryDue := false }).modGroup g fun y =>
          { y with peerNext := y.peerNext.filter fun n => seqBefore ((x.seq + 1) % 65536) n.2 } := by
      rw [doCellRx]
      simp only [if_neg hup, hcrc, Bool.not_true, Bool.false_eq_true, if_false, if_neg htyp, hseq, ne_eq, not_true]
    rw [heq] at hrun
    refine ⟨_, hrun, ?_, ?_, ?_, fun k hk => ?_, fun h hne => ?_, rfl, rfl⟩
    · simp only [State.modGroup_group_same, modCells_group_same]
    · simp only [State.modGroup_group_same, modCells_group_same, buffer_ackSeq, heard_ackSeq]
    · simp only [State.modGroup_group_same, modCells_group_same]
    · simp only [State.modGroup_group_same, modCells_group_same, buffer_kept, heard_kept, List.mem_filter, Bool.not_eq_true'] at hk
      exact hk
    · rw [State.modGroup_group_ne _ _ hne, modCells_group_ne _ hne]
  case askAgain | arrived => exact exec_eq_next rfl (by simp [Instr.wf, hg]) (by simp [doRetryRepeat, h])
  case resent =>
    refine exec_eq_next rfl hwf ?_
    have hany : ((s.group g).cells.kept.any fun k => k.1 == n) = true := by simpa using hheld
    obtain h | h := hst <;> simp [doRetry, h, hn, hany, -List.any_eq_true]
  case reinit =>
    refine exec_eq_next rfl hwf ?_
    have hany : ((s.group g).cells.kept.any fun k => k.1 == n) = false := by simpa using hgone
    obtain h | h := hst <;> simp [doRetry, h, hn, hany, -List.any_eq_true]
  case replay =>
    refine nextWith_of rfl (by simp [Instr.wf, hg]) ?_
    rw [cellTx_replay hst hnext hret hk]
    exact ⟨rfl, rfl, _, rfl, rfl, rfl, rfl, rfl⟩
  case idle =>
    refine nextWith_of rfl (by simp [Instr.wf, hg]) ?_
    rw [cellTx_idle hst hnext hret hk hno]
    exact ⟨rfl, rfl, rfl, _, rfl, rfl, rfl⟩
  case new =>
    refine nextWith_of rfl (by simp [Instr.wf, hg]) ?_
    rw [cellTx_new hst hnext hret hk hfew hchoose]
    exact ⟨rfl, rfl, rfl, _, rfl, rfl, rfl, rfl⟩
  case vc0 => exact ⟨_, by simp only [CellLayer.choose, hvc0]; rfl, rfl, rfl⟩
  case vc2 =>
    obtain ⟨x, hx, hvc, hcells⟩ := headCell_some 4 2 { c with vc2 := sendOneCell c.vc2, cr2 := c.cr2 - 1 } hvc2
    refine ⟨x, ?_, hvc, by rw [hcells]⟩
    simp only [hvc0] at hx
    simp only [CellLayer.choose, hvc0, channel_open hvc2 hcr, Bool.not_true, Bool.false_eq_true, if_false, if_true, hx]
  case vc3 =>
    obtain ⟨x, hx, hvc, -⟩ := headCell_some 5 3 { c with vc3 := sendOneCell c.vc3, cr3 := c.cr3 - 1 } hvc3
    refine ⟨x, ?_, hvc⟩
    simp only [hvc0] at hx
    simp only [CellLayer.choose, hvc0, channel_closed hno2, channel_open hvc3 hcr, Bool.not_true, Bool.false_eq_true, if_false, if_true, hx]
  case vc1 =>
    obtain ⟨x, hx, hvc, -⟩ := headCell_some 3 1 { c with vc1 := sendOneCell c.vc1, cr1 := c.cr1 - 1 } hvc1
    refine ⟨x, ?_, hvc⟩
    simp only [hvc0] at hx
    simp only [CellLayer.choose, hvc0, channel_closed hno2, channel_closed hno3, channel_open hvc1 hcr, Bool.not_true, Bool.false_eq_true, if_false,
      if_true, hx]

end Sys2Proof.Machine

/-! PROOF. Widths and lanes of a link group, and cascaded media (O34; R377 to R382). -/

namespace Sys2Proof.Machine

/-- A mask with a lane is at least the lane's bit. -/
theorem two_pow_le_of_hasBit {m lane : Nat} (h : hasBit m lane = true) : 2 ^ lane ≤ m := by
  refine Nat.le_of_not_lt fun hlt => ?_
  rw [hasBit, Nat.div_eq_of_lt hlt] at h
  exact absurd h (by decide)

/-- The group after one of its good lanes has failed and the event is posted. -/
def State.lostLane (s : State) (g lane : Nat) : State :=
  (s.modGroup g fun x => { x with good := x.good - 2 ^ lane }).postAll
    { code := evCascLane, obj := g, d0 := lane, d1 := 1, d2 := (s.group g).width }

theorem lostLane_group (s : State) (g lane : Nat) : (s.lostLane g lane).group g = { s.group g with good := (s.group g).good - 2 ^ lane } := by
  rw [State.lostLane, postAll_group, State.modGroup_group_same]

theorem lostLane_legs (s : State) (g lane : Nat) : (s.lostLane g lane).legs = s.legs := by
  rw [State.lostLane, postAll_legs]
  rfl

/-- A good lane that fails. -/
theorem lanesFail_one {s : State} {g lane : Nat} (h : hasBit (s.group g).good lane = true) : s.lanesFail g [lane] =
    if (s.group g).st ≠ 3 then s.lostLane g lane
    else if (s.group g).good - 2 ^ lane = 0 then (s.lostLane g lane).groupDown g true
    else if hasBit (s.group g).active lane then
      ((s.lostLane g lane).modGroup g fun x => { x with shedOut := some (widest ((s.group g).good - 2 ^ lane)) }).sendCtl g
        { op := 3, mask := widest ((s.group g).good - 2 ^ lane), force := true }
    else s.lostLane g lane := by
  have hbad : [lane].filter (fun l => hasBit (s.group g).good l) = [lane] := by simp [h]
  have hpost : [lane].foldl (fun s l => s.postAll { code := evCascLane, obj := g, d0 := l, d1 := 1, d2 := (s.group g).width })
      (s.modGroup g fun x => { x with good := x.good - 2 ^ lane }) = s.lostLane g lane := by
    simp only [List.foldl_cons, List.foldl_nil, State.modGroup_group_same]
    rfl
  have hgood : (s.modGroup g fun x => { x with good := (s.group g).good - 2 ^ lane }) = s.modGroup g fun x => { x with good := x.good - 2 ^ lane } := rfl
  simp only [State.lanesFail, hbad, List.map_cons, List.map_nil, List.sum_cons, List.sum_nil, Nat.add_zero, hgood, hpost, lostLane_group,
    List.any_cons, List.any_nil, Bool.or_false]

/-- Settles O34. -/
theorem widthsAndLanes : Obligations.WidthsAndLanes := by
  unfold Obligations.WidthsAndLanes
  refine ⟨⟨fun s g hg hst hwin => ⟨fun hlow hshed hwide hout hwake hnext => ?lowWindow, fun hhigh => ?highWindow⟩, fun s g mask hwf hst => ?forced,
      fun s g mask hwf hst hout => ⟨fun hown hwake hnext hfewer => ?agreed, fun hown => ?refused⟩,
      fun s g mask at_ m hwf hout => ⟨fun hsame => ?acked, fun hother => ?notAcked⟩, fun s g mask at_ hwf hst => ?committed,
      fun s g mask hwf hst => ?wakeReq, fun s g mask hg hwake => ?locked, fun s g mask hwf hst hwake => ?wakeAck⟩,
    fun s g lane hwf hst hgood => ?fails, fun s g lane hwf hst => ?failsOff, fun s g lane hwf hst hbad hstage hbusy => ?returns,
    fun s g n x f k len p hwf hpeer hst => ?media, fun s g f k len p hwf hnone => ?noPeer⟩
  case lowWindow =>
    refine exec_eq_next rfl (by simp [Instr.wf, hg]) ?_
    simp [doShedWindowClose, hst, Nat.not_lt.mpr hwin, hlow, hshed, Nat.not_lt.mpr hwide, hout, hwake, hnext]
  case highWindow =>
    refine exec_eq_next rfl (by simp [Instr.wf, hg]) ?_
    simp [doShedWindowClose, hst, Nat.not_lt.mpr hwin, Nat.not_lt.mpr hhigh]
  case forced => exact exec_eq_next rfl hwf (by simp [doShedReq, hst])
  case agreed => exact exec_eq_next rfl hwf (by simp [doShedReq, hst, hout, hown, hwake, hnext, hfewer])
  case refused => exact exec_eq_next rfl hwf (by simp [doShedReq, hst, hout, hown])
  case acked => exact exec_eq_next rfl hwf (by simp [doShedAck, hout, hsame])
  case notAcked => exact exec_eq_next rfl hwf (by simp [doShedAck, hout, hother])
  case committed => exact exec_eq_next rfl hwf (by simp [doWidthCommit, hst])
  case wakeReq => exact exec_eq_next rfl hwf (by simp [doWakeReq, hst])
  case locked => exact exec_eq_next rfl (by simp [Instr.wf, hg]) (by simp [doWakeLanesLocked, hwake])
  case wakeAck => exact ⟨_, exec_eq_next rfl hwf (by simp [doWakeAck, hst, hwake]), rfl⟩
  case fails =>
    refine nextWith_of rfl hwf ?_
    have hlow := two_pow_le_of_hasBit hgood
    rw [doLaneFail, if_neg hst, lanesFail_one hgood]
    refine ⟨fun hleft => ?_, fun hup hmore => ?_⟩
    · by_cases hup : (s.group g).st = 3
      · have hmore : ¬(s.group g).good - 2 ^ lane = 0 := by
          have : (s.group g).good ≠ 2 ^ lane := hleft.resolve_left (fun hne => hne hup)
          omega
        rw [if_neg (fun hne => hne hup), if_neg hmore]
        split
        · exact lostLane_legs s g lane
        · exact lostLane_legs s g lane
      · rw [if_pos hup]
        exact lostLane_legs s g lane
    · rw [if_neg (fun hne => hne hup), if_neg (by omega)]
      by_cases hused : hasBit (s.group g).active lane = true
      · simp only [hused, if_true, sendCtl_group_same, State.modGroup_group_same, lostLane_group, hup, and_self, implies_true]
      · rw [if_neg hused, lostLane_group]
        exact ⟨hup, rfl, fun h => absurd h hused⟩
  case failsOff => exact exec_eq_next rfl hwf (if_pos hst)
  case returns =>
    refine exec_eq_next rfl hwf ?_
    have hstage' : ((s.laneGood g lane).group g).fwStage = 0 := by rw [State.laneGood, postAll_group, State.modGroup_group_same, hstage]
    simp [doLaneReturn, hst, hbad, hbusy, hstage']
  case media =>
    have hrun : exec (.cascMediaRx g f k len p) s = .next (doCascMediaRx g f k len p s) := exec_next rfl hwf
    rw [hrun, doCascMediaRx]
    simp only [hpeer, if_neg (show ¬(s.group g).st ≠ 3 from fun hne => hne hst)]
    refine ⟨_, ?_, rfl⟩
    rfl
  case noPeer => exact exec_eq_next rfl hwf (by simp only [doCascMediaRx, hnone])

end Sys2Proof.Machine

/-! PROOF. The commands on link groups and peers (O35; R383 to R385). -/

namespace Sys2Proof.Machine

/-- Settles O35. Each command passes its checks and follows the branch of its OP. -/
theorem cascadeCommands : Obligations.CascadeCommands := by
  unfold Obligations.CascadeCommands
  refine ⟨fun s c rest g h hg hr1 hr2 => ⟨fun hop => ?words, fun hbusy => ⟨fun hop hself hbound hoff hroom => ?enable, fun hop hon => ?disable,
      fun hop hshed => ?shedOn, fun hop hshed => ?shedOff⟩⟩,
    fun s g o hg hop => ⟨fun hup => ?enabled, fun hst hlate hmis => ?timeout, fun hst hlate hmis => ?mismatch⟩,
    fun s c rest h hr1 hr2 => ⟨fun hop hlen hres hnone => ?self,
      fun p hop hlen hself hr3 hr4 hwords hbusy hbound hfree hp => ?bind, fun hop hlen hself hpeer => ?unbind⟩⟩
  case words =>
    subst hg
    refine answers_of_checks h rfl rfl (by simp [badArg, hr1, hr2, hop]) ?_
    simp only [hop]
    rfl
  case enable =>
    subst hg
    have hbusy' : (s.popped c rest).groupBusy (c.f 1 0 4) = none := hbusy
    have hbound' : (s.popped c rest).boundOther (c.f 1 0 4) (c.f 1 8 4) = false := hbound
    refine answers_of_checks h rfl rfl (by simp [badArg, busy, hr1, hr2, hop, hbusy']) ?_
    simp only [hop]
    exact (checks_pass (by simp [Option.isSome_iff_ne_none, hself, hbound', hoff])).trans (startLong_popped h hroom)
  case disable =>
    subst hg
    have hbusy' : (s.popped c rest).groupBusy (c.f 1 0 4) = none := hbusy
    refine answers_of_checks h rfl rfl (by simp [badArg, busy, hr1, hr2, hop, hbusy']) ?_
    simp only [hop]
    exact checks_pass (by simp [hon])
  case shedOn | shedOff =>
    subst hg
    have hbusy' : (s.popped c rest).groupBusy (c.f 1 0 4) = none := hbusy
    refine answers_of_checks h rfl rfl (by simp [badArg, busy, hr1, hr2, hop, hbusy']) ?_
    simp only [hop, hshed]
    rfl
  case enabled => exact exec_eq_next rfl (by simp [Instr.wf, hg]) (by simp [doCascGroupEnableComplete, hop, hup])
  case timeout => exact exec_eq_next rfl (by simp [Instr.wf, hg]) (by simp [doCascGroupEnableComplete, hop, hst, Nat.not_lt.mpr hlate, hmis])
  case mismatch => exact exec_eq_next rfl (by simp [Instr.wf, hg]) (by simp [doCascGroupEnableComplete, hop, hst, Nat.not_lt.mpr hlate, hmis])
  case self =>
    have hnone' : (s.popped c rest).anyGroup = false := hnone
    refine answers_of_checks h rfl rfl (by simp [badArg, badLen, hr1, hr2, hop, hlen]) ?_
    simp only [hop]
    exact checks_pass (by simp [reserved, hres, hnone'])
  case bind =>
    subst hp
    have hbusy' : (s.popped c rest).groupBusy (c.f 2 0 4) = none := hbusy
    have hbound' : (s.popped c rest).boundOther (c.f 2 0 4) (c.f 1 4 4) = false := hbound
    refine answers_of_checks h rfl rfl (by simp [badArg, badLen, hr1, hr2, hop, hlen, hself]) ?_
    simp only [hop]
    refine checks_pass ?_
    have hpeer : ¬(s.group (c.f 2 0 4)).st = 0 → (s.group (c.f 2 0 4)).peer = c.f 1 4 4 := fun h => hfree.resolve_left h
    cases hv6 : c.bit 2 4 with
    | false =>
      obtain ⟨h4, h5, h6⟩ := hwords hv6
      simpa [badArg, unusedWords, busy, hr3, hr4, hbusy', hbound', h4, h5, h6] using hpeer
    | true => simpa [badArg, unusedWords, busy, hr3, hr4, hbusy', hbound'] using hpeer
  case unbind =>
    refine answers_of_checks h rfl rfl (by simp [badArg, badLen, hr1, hr2, hop, hlen, hself]) ?_
    simp only [hop]
    exact checks_pass (by simp [Option.isSome_iff_ne_none, hpeer])

end Sys2Proof.Machine

/-! PROOF. Conferences and legs (O36): their commands, the freeing of leg IDs and the consent timeout (R128 to R138). -/

namespace Sys2Proof.Machine

/-- What a leg that is in use is checked for. -/
theorem legObj_used {s : State} {leg : Nat} {l : Leg} (issuer gen : Nat) (hl : s.leg leg = some l) :
    legObj s issuer leg gen = [(!s.mayTouch issuer (s.legTenant l), eTenant, 2), (decide (l.gen ≠ gen), eStale, 1)] := by
  simp only [legObj, hl]

/-- The words that an IPv4 address leaves unused are checked. -/
theorem unusedWords_pass {c : Ctx} {v6 : Bool} {ks : List Nat} (h : v6 = false → ∀ i ∈ ks, c.w i = 0) : ∀ x ∈ unusedWords c v6 ks, x.1 = false := by
  intro x hx
  obtain ⟨k, hk, rfl⟩ := List.mem_map.mp hx
  cases v6 with
  | false =>
    have hzero := h rfl k hk
    simp [badArg, hzero]
  | true => rfl

/-- The command itself takes no leg ID. -/
theorem popped_freeLeg (s : State) (c : Ctx) (rest : List Cmd) (fuel n : Nat) : (s.popped c rest).freeLeg n fuel = s.freeLeg n fuel := by
  induction fuel generalizing n with
  | zero => rfl
  | succ fuel ih =>
    simp only [State.freeLeg, ih]
    rfl

/-- A new path that no other leg uses is taken. -/
theorem legPath_pass {c : Ctx} {s : State} {leg : Nat} {l : Leg} {args : List (Bool × Nat × Nat)} {cfg : LegCfg} (hl : s.leg leg = some l)
    (hargs : ∀ x ∈ args, x.1 = false) (hmay : s.mayTouch c.issuer (s.legTenant l) = true) (hgen : l.gen = c.f 1 16 8) (hnew : cfg ≠ l.cfg)
    (hkey : s.keyUsed (some leg) cfg = false) : legPath c s leg l args cfg = ok (s.newPath leg cfg) := by
  refine checks_pass fun x hx => ?_
  rw [legObj_used _ _ hl, List.mem_append, List.mem_append] at hx
  obtain (hx | hx) | hx := hx
  · exact hargs x hx
  · revert x
    simp [hmay, hgen]
  · revert x
    simp [hnew, hkey]

/-- Settles O36. Each command passes its checks, those on the object by `legObj_used`, and follows the branch of its SELECT. -/
theorem conferencesAndLegs : Obligations.ConferencesAndLegs := by
  unfold Obligations.ConferencesAndLegs
  refine ⟨⟨fun s c rest id k t h hr1 hr2 hk htakes hfree hflow => ?create,
      fun s c rest id k h hid hconf hr1 hmay => ⟨fun hsel hr2 htakes => ?modifyGroup, fun t hsel hr2 hunused hflow => ?modifyMix⟩,
      fun s c rest id k ns h hid hconf hr1 hr2 hmay hns => ⟨fun hforce hsome => ?destroyRefused, fun t hgo ht => ?destroy⟩⟩,
    ⟨fun s c rest id gen cfg k t v h hcfg hconf hfree hgen hkind hr1 haud hvid hr2 hr3 hql hwords hmay htakes hmix hkey hport ht hm hp hflow => ?legCreate,
      fun s c rest leg l h hleg hl hr1 => ⟨fun hmay hgen => ⟨fun cfg hsel hlen hr2 hcfg hnew hkey => ?marking,
        fun cfg hsel hlen hr2 hcfg hnew hkey => ?nextHop, fun hsel hlen hr2 hhold hst => ?hold⟩, fun hsel hlen hr2 hmay hgen => ?modifyStale⟩,
      fun s c rest leg l h hleg hl hr1 => ⟨fun hmay hgen => ?legDestroy, fun hmay hgen => ?destroyStale, fun hmay => ?destroyTenant⟩⟩,
    fun s c rest leg l h hleg hl hr1 hmay hgen => ?stats, fun s leg t hleg hdying => ⟨fun hm => ?idFree, fun hm => ?idHeld⟩,
    fun s leg l hleg hl => ⟨fun hst hto hm htimer => ?consent, fun hno => ?noConsent⟩⟩
  case create =>
    subst hk
    refine answers_of_checks h rfl rfl ?_ ?_
    · have htakes' : ((s.popped c rest).node (c.f 2 0 12)).takes (if isPF c.issuer then c.f 1 0 12 else ((s.popped c rest).tenantOf c.issuer).getD 0) =
          true := htakes
      have hfree' : (firstFree (s.popped c rest).confs 0 16384).isNone = false := by rw [show (s.popped c rest).confs = s.confs from rfl, hfree]; rfl
      simp only [htakes', hfree']
      simp [reserved, hr1, hr2]
    · have hid : (firstFree (s.popped c rest).confs 0 16384).getD 0 = id := by rw [show (s.popped c rest).confs = s.confs from rfl, hfree]; rfl
      simp only [hid]
      exact withFlows_ok hflow
  case modifyGroup =>
    subst hid
    refine answers_of_done h rfl ?_
    have hconf' : (s.popped c rest).conf (c.f 1 0 14) = some k := hconf
    simp only [hconf', hsel, if_true]
    refine checks_pass ?_
    simp [reserved, confObj, hr1, hr2, hconf, hmay, htakes]
  case modifyMix =>
    subst hid
    refine answers_of_done h rfl ?_
    have hconf' : (s.popped c rest).conf (c.f 1 0 14) = some k := hconf
    have hmix : (!c.bit 2 0 && k.mix && (s.popped c rest).mixInUse (c.f 1 0 14)) = false := by
      have : (s.popped c rest).mixInUse (c.f 1 0 14) = s.mixInUse (c.f 1 0 14) := rfl
      obtain h | h | h := hunused <;> simp [this, h]
    simp only [hconf', hsel, Bool.false_eq_true, if_false]
    refine (checks_pass ?_).trans (withFlows_ok hflow)
    simp [reserved, confObj, hr1, hr2, hconf, hmay]
    simpa using hmix
  case destroyRefused =>
    subst hid hns
    refine answers_of_fail h rfl ?_
    have hsome' : (((s.popped c rest).legs.filter fun p => p.2.cfg.conf == c.f 1 0 14).map (·.1)).isEmpty = false := by
      simpa using hsome
    simp only [hsome']
    simp [checks_cons, badArg, reserved, confObj, hconf, hr1, hr2, hmay, hforce]
  case destroy =>
    subst hid hns ht
    refine answers_of_words h rfl rfl ?_
    have hall : (!c.bit 1 16 && !(((s.popped c rest).legs.filter fun p => p.2.cfg.conf == c.f 1 0 14).map (·.1)).isEmpty) = false := by
      obtain hforce | hnone := hgo
      · simp [hforce]
      · have hnone' : ((s.popped c rest).legs.filter fun p => p.2.cfg.conf == c.f 1 0 14).map (·.1) = [] := hnone
        simp only [hnone', List.isEmpty_nil, Bool.not_true, Bool.and_false]
    simp only [hall]
    simp [badArg, reserved, confObj, hconf, hr1, hr2, hmay]
  case legCreate =>
    subst hcfg hgen ht
    have hfree' : (s.popped c rest).freeLeg 0 65536 = some id := (popped_freeLeg s c rest 65536 0).trans hfree
    refine answers_of_done h rfl ?_
    simp only [hfree', Option.getD_some, Option.isNone_some]
    refine (checks_pass fun x hx => ?_).trans (withFlows_ok hflow)
    have hkey' : (s.popped c rest).keyUsed none (legCfgOf c) = false := hkey
    have hport' : (s.popped c rest).portOut (legCfgOf c).port = false := hport
    have hnode : (s.popped c rest).node k.group = s.node k.group := rfl
    have hmix' : ((legCfgOf c).audMode == 2 && !k.mix) = false := by
      cases h2 : (legCfgOf c).audMode == 2 with
      | false => rfl
      | true => simp [hmix (by simpa using h2)]
    rw [List.mem_append, List.mem_append] at hx
    obtain (hx | hx) | hx := hx
    · revert x
      simp [badArg, reserved, hconf, hkind, haud, hvid, hr1, hr2, hr3, hql]
    · exact unusedWords_pass hwords x hx
    · revert x
      simp only [confObj, State.groupTakes, mixedFull, placesFull, popped_acc_conf, hconf, Option.any_some, Option.all_some, popped_acc_mayTouch, hmay,
        hnode, htakes, hmix', hkey', hport']
      simpa using ⟨hm, hp⟩
  case marking =>
    subst hleg hcfg
    refine answers_of_checks h rfl rfl (by simp [badArg, badLen, reserved, legModifyLen, hsel, hlen, hr1]) ?_
    simp only [popped_acc_leg, hl, hsel]
    exact legPath_pass (s := s.popped c rest) hl (by simp [reserved, hr2]) hmay hgen hnew hkey
  case nextHop =>
    subst hleg hcfg
    refine answers_of_checks h rfl rfl (by simp [badArg, badLen, reserved, legModifyLen, hsel, hlen, hr1]) ?_
    simp only [popped_acc_leg, hl, hsel]
    exact legPath_pass (s := s.popped c rest) hl (by simp [reserved, hr2]) hmay hgen hnew hkey
  case hold =>
    subst hleg
    refine answers_of_checks h rfl rfl (by simp [badArg, badLen, reserved, legModifyLen, hsel, hlen, hr1]) ?_
    simp only [popped_acc_leg, hl, hsel, legHold, popped_legObj, legObj_used _ _ hl, hhold]
    refine checks_pass ?_
    simp [reserved, hr2, hmay, hgen, hst]
  case modifyStale =>
    subst hleg
    refine answers_of_fail h rfl ((checks_pass (by simp [badArg, badLen, reserved, legModifyLen, hsel, hlen, hr1])).trans ?_)
    simp only [popped_acc_leg, hl, hsel, legHold, popped_legObj, legObj_used _ _ hl]
    simp [checks_cons, reserved, hr2, hmay, hgen]
  case legDestroy =>
    subst hleg
    refine answers_of_done h rfl ?_
    simp only [popped_legObj, legObj_used _ _ hl, legUsed]
    exact checks_pass (by simp [badArg, reserved, hl, hr1, hmay, hgen])
  case destroyStale =>
    subst hleg
    refine answers_of_fail h rfl ?_
    simp only [popped_legObj, legObj_used _ _ hl, legUsed]
    simp [checks_cons, badArg, reserved, hl, hr1, hmay, hgen]
  case destroyTenant =>
    subst hleg
    refine answers_of_fail h rfl ?_
    simp only [popped_legObj, legObj_used _ _ hl, legUsed]
    simp [checks_cons, badArg, reserved, hl, hr1, hmay]
  case stats =>
    subst hleg
    refine answers_of_done h rfl ?_
    simp only [popped_legObj, legObj_used _ _ hl, legUsed, popped_acc_leg, hl]
    exact checks_pass (by simp [badArg, reserved, hr1, hmay, hgen])
  case idFree => exact exec_eq_next rfl (by simp [Instr.wf, hleg]) (by simp only [doLegIdFree, hdying, hm, if_true])
  case idHeld => exact exec_eq_next rfl (by simp [Instr.wf, hleg]) (by simp only [doLegIdFree, hdying, Nat.not_le.mpr hm, if_false])
  case consent => exact exec_eq_next rfl (by simp [Instr.wf, hleg]) (by simp [doConsentTimeout, hl, hst, hto, hm, htimer])
  case noConsent =>
    refine exec_eq_next rfl (by simp [Instr.wf, hleg]) ?_
    obtain h | h | h := hno
    · simp [doConsentTimeout, hl, h]
    · simp [doConsentTimeout, hl, h]
    · simp [doConsentTimeout, hl, Nat.not_le.mpr h]

end Sys2Proof.Machine

/-! PROOF. The key commands (O37): installing, retiring, pages, and the two timers of keys (R318, R323 to R325). -/

namespace Sys2Proof.Machine

/-- Settles O37. Each command passes its checks, those on the leg by `legObj_used`; the timers follow the branches of their
definitions. -/
theorem keyCommands : Obligations.KeyCommands := by
  unfold Obligations.KeyCommands
  refine ⟨fun s c rest leg l key t h hleg hl hr1 hzero hmay hgen hkeyed hfall hkey ht hroom => ?install,
    fun s c rest leg l h hleg hl hr1 hmay hgen => ⟨fun hholds => ?retire, fun hempty => ?retireEmpty⟩,
    fun s c rest h hr1 => ⟨fun hop hlen hbit hctx heng => ?limits, fun held hop hlen hheld => ?wipe, fun hop hlen => ?report⟩,
    fun s leg t k n hleg hdying htimer => ⟨fun hm => ?contextsFree, fun hm => ?contextsHeld⟩,
    fun s leg t l hleg hl hfall htimer => ⟨fun hm => ?fallbackEnds, fun hm => ?fallbackGoesOn⟩⟩
  case install =>
    subst hleg hkey ht
    refine answers_of_done h rfl ?_
    simp only [popped_acc_leg, hl, Option.map_some, Option.getD_some, popped_legObj, legObj_used _ _ hl, legUsed]
    refine checks_pass fun x hx => ?_
    have hcur : (c.bit 1 25 && !l.keys.keyed (c.bit 1 24)) = false := by
      cases hb : c.bit 1 25 with
      | false => rfl
      | true => simp [hkeyed hb]
    have hroll : (!c.bit 1 24 && c.bit 1 25 && l.keys.rxFallUntil.isSome) = false := by
      cases h24 : c.bit 1 24 with
      | true => rfl
      | false =>
        cases h25 : c.bit 1 25 with
        | false => rfl
        | true => simp [hfall h24 h25]
    rw [List.mem_append, List.mem_append, List.mem_append] at hx
    obtain ((hx | hx) | hx) | hx := hx
    · revert x
      simp [badArg, reserved, hr1]
    · exact hzero x hx
    · revert x
      simp [hmay, hgen]
    · revert x
      simp only [hcur, hroll, List.mem_cons, List.not_mem_nil, or_false, forall_eq_or_imp, forall_eq, true_and]
      obtain hnone | hfew := hroom
      · exact Bool.and_eq_false_iff.mpr (Or.inl (decide_eq_false (fun hne => hne hnone)))
      · exact Bool.and_eq_false_iff.mpr (Or.inr (decide_eq_false (Nat.not_lt.mpr hfew)))
  case retire =>
    subst hleg
    refine answers_of_done h rfl ?_
    simp only [popped_acc_leg, hl, Option.map_some, Option.getD_some, popped_legObj, legObj_used _ _ hl, legUsed]
    exact checks_pass (by simp [badArg, reserved, hr1, hmay, hgen, hholds])
  case retireEmpty =>
    subst hleg
    refine answers_of_fail h rfl ?_
    simp only [popped_acc_leg, hl, Option.map_some, Option.getD_some, popped_legObj, legObj_used _ _ hl, legUsed]
    simp [checks_cons, badArg, reserved, hr1, hmay, hgen, hempty]
  case limits =>
    refine answers_of_checks h rfl rfl (by simp [badArg, badLen, reserved, hop, hlen, hr1]) ?_
    simp only [hop]
    refine checks_pass ?_
    have hctx' : (decide (c.f 2 0 19 ≠ 0) && (decide (c.f 2 0 19 < 4) || decide (262144 < c.f 2 0 19))) = false := by
      obtain h | ⟨hlo, hhi⟩ := hctx
      · simp [h]
      · simp [Nat.not_lt.mpr hlo, Nat.not_lt.mpr hhi]
    have heng' : (decide (c.f 2 19 12 ≠ 0) && (decide (c.f 2 19 12 < 96) || decide (3072 < c.f 2 19 12))) = false := by
      obtain h | ⟨hlo, hhi⟩ := heng
      · simp [h]
      · simp [Nat.not_lt.mpr hlo, Nat.not_lt.mpr hhi]
    simp only [hctx', heng', hbit]
    simp [badArg]
  case wipe =>
    subst hheld
    refine answers_of_checks h rfl rfl (by simp [badArg, badLen, reserved, hop, hlen, hr1]) ?_
    simp only [hop]
    rfl
  case report =>
    refine answers_of_checks h rfl rfl (by simp [badArg, badLen, reserved, hop, hlen, hr1]) ?_
    simp only [hop]
    rfl
  case contextsFree => exact exec_eq_next rfl (by simp [Instr.wf, hleg]) (by simp [doKeyContextFree, hdying, hm, htimer])
  case contextsHeld => exact exec_eq_next rfl (by simp [Instr.wf, hleg]) (by simp [doKeyContextFree, hdying, Nat.not_le.mpr hm])
  case fallbackEnds => exact exec_eq_next rfl (by simp [Instr.wf, hleg]) (by simp [doRxFallbackEnd, hl, hfall, hm, htimer])
  case fallbackGoesOn => exact exec_eq_next rfl (by simp [Instr.wf, hleg]) (by simp [doRxFallbackEnd, hl, hfall, Nat.not_le.mpr hm])

end Sys2Proof.Machine

/-! PROOF. The forwarding commands (O38): FWD.POLICY, FWD.SUBSCRIBE and FWD.PIN (R184 to R186). -/

namespace Sys2Proof.Machine

/-- The checks on a leg in use pass. -/
theorem legObj_passes {s : State} {issuer leg gen : Nat} {l : Leg} (hl : s.leg leg = some l) (hmay : s.mayTouch issuer (s.legTenant l) = true)
    (hgen : l.gen = gen) : ∀ x ∈ legObj s issuer leg gen, x.1 = false := by
  rw [legObj_pass hl hgen hmay]
  simp

/-- Checks that pass, and those after them. -/
theorem append_passes {as bs : List (Bool × Nat × Nat)} (ha : ∀ x ∈ as, x.1 = false) (hb : ∀ x ∈ bs, x.1 = false) : ∀ x ∈ as ++ bs, x.1 = false :=
  fun x hx => (List.mem_append.mp hx).elim (ha x) (hb x)

/-- FWD.POLICY on a leg in use follows its SELECT. -/
theorem fwdPolicy_checks {s : State} {c : Ctx} {rest : List Cmd} {l : Leg} {sel n : Nat} (hl : s.leg (c.f 1 0 16) = some l) (hr1 : c.f 1 28 4 = 0)
    (hsel : c.f 1 24 4 = sel) (hle : sel ≤ 4) (henc : sel = 2 → c.f 2 10 2 = 0) (hlen : c.len = n)
    (hn : [5, 3, 4 + 2 * c.f 2 10 2, 2, 6].getD sel 0 = n) :
    ∀ x ∈ [badArg (decide (4 < c.f 1 24 4)) 1, badArg (c.f 1 24 4 == 2 && c.f 2 10 2 == 3) 2,
      badLen c ([5, 3, 4 + 2 * c.f 2 10 2, 2, 6].getD (c.f 1 24 4) 0), legUsed (s.popped c rest) (c.f 1 0 16), reserved c 1 28 4], x.1 = false := by
  have hencs : (sel == 2 && c.f 2 10 2 == 3) = false := by
    by_cases h2 : sel = 2
    · simp [henc h2]
    · simp [h2]
  rw [hsel, hencs, hn]
  simp [badArg, badLen, reserved, legUsed, hl, hr1, hlen, Nat.not_lt.mpr hle]

/-- A track of one encoding that a leg declares for the first time. -/
theorem declaredTrack_first {c : Ctx} (h : c.f 2 10 2 = 0) : declaredTrack c none =
    { media := c.f 2 3 1, codec := c.f 2 4 4, layering := c.f 2 8 2, pt := c.f 2 12 7, rtxPt := c.f 2 19 7
      encs := [{ ssrc := (c.w 3).toNat, rtxSsrc := (c.w 4).toNat }] } := by
  rw [declaredTrack, h]
  rfl

/-- A set command whose source is a track that the slot's leg may receive is acted on. -/
theorem fwdSubscribeSet_pass {s : State} {c : Ctx} {leg k : Nat} {l q : Leg} {tr : Track} (hl : s.leg leg = some l) (hq : s.leg (c.f 2 0 16) = some q)
    (hr2 : c.f 2 27 5 = 0) (h7 : c.bit 5 7 = false) (h15 : c.bit 5 15 = false) (h24 : c.f 5 24 8 = 0)
    (hmay : s.mayTouch c.issuer (s.legTenant l) = true) (hgen : l.gen = c.f 1 16 8) (hmayq : s.mayTouch c.issuer (s.legTenant q) = true)
    (hgenq : q.gen = c.f 2 16 8) (hconf : q.cfg.conf = l.cfg.conf) (htr : tget q.tracks (c.f 2 24 3) = some tr)
    (hsend : l.cfg.fwdSend tr.media = true) (hrecv : q.cfg.fwdRecv tr.media = true)
    (hfree : ∀ v ∈ l.slots, v.1 ≠ k → v.2.outSsrc ≠ (c.w 3).toNat) (hkey : l.keys.rekey = false) :
    fwdSubscribeSet c s leg k l = fwdSet s leg k (tget l.slots k) (.track (c.f 2 0 16) (c.f 2 16 8) (c.f 2 24 3)) tr.media
      ⟨(c.w 3).toNat, (c.w 4).toNat, c.f 5 0 7, c.f 5 8 7, c.f 5 16 8⟩ := by
  have hany : (l.slots.any fun v => v.1 ≠ k && v.2.outSsrc == (c.w 3).toNat) = false :=
    List.any_eq_false.mpr fun v hv => by simpa using hfree v hv
  simp only [fwdSubscribeSet, hq, Option.bind_some, htr, Option.map_some, Option.getD_some, Option.any_some, hany]
  refine checks_pass (append_passes (append_passes (append_passes ?_ (legObj_passes hl hmay hgen)) (legObj_passes hq hmayq hgenq)) ?_)
  · simp [badArg, hr2, h7, h15, h24]
  · simp [hconf, hsend, hrecv, hkey]

/-- Settles O38. Each command passes its checks and follows the branch of its SELECT or OP. -/
theorem forwarding : Obligations.Forwarding := by
  unfold Obligations.Forwarding
  refine ⟨fun s c rest leg l h hleg hl hr1 hmay hgen => ⟨fun pol hsel hlen h1 h2 h3 h4 h5 h6 h7 h8 h9 hpol => ?estimator, fun x hfix ha => ?autoRate,
      fun x hfix => ?rateLater, fun x hfix => ?fixed, fun pol t v hsel hlen h1 h2 h3 h4 h5 h6 h15 hids hpol ht hplaces hflow => ?transport,
      fun tr v hsel henc hlen hr2 hlay hnone hcodec htr hflow => ?track,
      fun hsel hlen hr2 => ⟨fun hnone => ?noTrack, fun v hsome hflow => ?untrack⟩, fun hsel hlen => ?names⟩,
    fun s c rest leg k l h hleg hk hl hmay hgen => ⟨fun hop hlen hsome => ?remove, fun hop hlen hnone => ?noSlot, fun hop hlen => ?query,
      fun n q tr x src hop hlen hn hq hr2 h7 h15 h24 hmayq hgenq hconf htr hsend hrecv hfree hkey hx hsrc =>
        ⟨fun t hnone hroom ht => ?new, fun v hv hsub hmedia hchoice hst => ?same, fun v t hv hout hmedia hchoice ht => ?repoint⟩⟩,
    fun s c rest leg k mode l v h hleg hk hmode hl hmay hgen hr1 hr2 hs ht hv hmedia hpin => ?pin⟩
  case estimator =>
    subst hleg hpol
    refine answers_of_checks h rfl rfl (fwdPolicy_checks hl hr1 hsel (by decide) (by simp) hlen rfl) ?_
    simp only [hsel, fwdEstimator]
    refine (checks_pass (append_passes ?_ (legObj_passes hl hmay hgen))).trans ?_
    · simp [badArg]
      omega
    · rw [State.modLeg_eq (s := s.popped c rest) hl]
      rfl
  case autoRate =>
    have hrate : x.setShaper.shaper.next.rate = x.autoRate := by
      rw [Leg.setShaper, if_neg (by simp [hfix])]
      rfl
    rw [hrate, Leg.autoRate, ha, Nat.mul_right_comm]
    exact Nat.mul_div_mul_right (x.pol.aStart * x.pol.shapePct) 100 (by decide : 0 < 1000)
  case rateLater => simp only [Leg.setShaper, hfix, Bool.false_eq_true, if_false]
  case fixed => simp only [Leg.setShaper, hfix, if_true]
  case transport =>
    subst hleg hpol ht
    refine answers_of_checks h rfl rfl (fwdPolicy_checks hl hr1 hsel (by decide) (by simp) hlen rfl) ?_
    simp only [hsel, fwdTransport]
    rw [State.modLeg_eq (s := s.popped c rest) hl]
    refine (checks_pass (append_passes (append_passes ?_ (legObj_passes hl hmay hgen)) ?_)).trans (withFlows_ok hflow)
    · have hids' : ([c.f 3 0 4, c.f 3 4 4, c.f 3 8 4, c.f 3 12 4, c.f 3 16 4].filter (· ≠ 0)).eraseDups.length =
          ([c.f 3 0 4, c.f 3 4 4, c.f 3 8 4, c.f 3 12 4, c.f 3 16 4].filter (· ≠ 0)).length := hids
      simp only [h15, hids', h6]
      simp [badArg, h3]
      omega
    · simp only [popped_acc_leg, hl, Option.any_some, placesFull, List.mem_singleton, forall_eq]
      cases hfeeds : l.cfg.feeds with
      | false => rfl
      | true => exact decide_eq_false (Nat.not_lt.mpr (hplaces hfeeds))
  case track =>
    subst hleg
    refine answers_of_checks h rfl rfl (fwdPolicy_checks hl hr1 hsel (by decide) (fun _ => henc) (by rw [hlen]) (by rw [henc]; rfl)) ?_
    have hold : ((s.popped c rest).leg (c.f 1 0 16)).bind (fun l => tget l.tracks (c.f 2 0 3)) = none := by rw [popped_acc_leg, hl]; exact hnone
    simp only [hsel, fwdTrack, hold, declaredTrack_first henc, Option.any_none, Bool.false_eq_true, if_false, Bool.false_and]
    rw [State.modLeg_eq (s := s.popped c rest) hl, ← htr]
    refine (checks_pass (append_passes (append_passes ?_ (legObj_passes hl hmay hgen)) (by simp))).trans (withFlows_ok hflow)
    simp only [henc, hr2]
    obtain ⟨hmedia, hfew, hsingle⟩ | ⟨hmedia, hlo, hhi⟩ := hcodec
    · simp [badArg, hmedia, hfew, hsingle]
    · simp [badArg, hmedia, hlo, hhi, hlay]
  case noTrack =>
    subst hleg
    refine answers_of_fail h rfl ((checks_pass (fwdPolicy_checks hl hr1 hsel (by decide) (by simp) hlen rfl)).trans ?_)
    simp only [hsel, fwdRemove, popped_legObj, legObj_pass hl hgen hmay, popped_acc_leg, hl, Option.bind_some, hnone]
    simp [checks_cons, reserved, hr2]
  case untrack =>
    subst hleg
    refine answers_of_checks h rfl rfl (fwdPolicy_checks hl hr1 hsel (by decide) (by simp) hlen rfl) ?_
    simp only [hsel, fwdRemove, popped_legObj, legObj_pass hl hgen hmay, popped_acc_leg, hl, Option.bind_some]
    exact (checks_pass (by simp [reserved, hr2, Option.isSome_iff_ne_none, hsome])).trans (withFlows_ok hflow)
  case names =>
    subst hleg
    refine answers_of_checks h rfl rfl (fwdPolicy_checks hl hr1 hsel (by decide) (by simp) hlen rfl) ?_
    simp only [hsel]
    rw [State.modLeg_eq (s := s.popped c rest) hl]
    exact checks_pass (legObj_passes hl hmay hgen)
  case remove =>
    subst hleg hk
    refine answers_of_checks h rfl rfl (by simp [badArg, badLen, legUsed, hop, hlen, hl]) ?_
    simp only [popped_acc_leg, hl, hop]
    exact checks_pass (append_passes (legObj_passes hl hmay hgen) (by simp [Option.isSome_iff_ne_none, hsome]))
  case noSlot =>
    subst hleg hk
    refine answers_of_fail h rfl ((checks_pass (by simp [badArg, badLen, legUsed, hop, hlen, hl])).trans ?_)
    simp only [popped_acc_leg, hl, hop, popped_legObj, legObj_pass hl hgen hmay, hnone]
    rfl
  case query =>
    subst hleg hk
    refine answers_of_checks h rfl rfl (by simp [badArg, badLen, legUsed, hop, hlen, hl]) ?_
    simp only [popped_acc_leg, hl, hop]
    exact checks_pass (legObj_passes hl hmay hgen)
  case new =>
    subst hleg hk hn hx hsrc ht
    refine answers_of_checks h rfl rfl (by simp [badArg, badLen, legUsed, hop, hlen, hl]) ?_
    simp only [popped_acc_leg, hl, hop]
    refine (fwdSubscribeSet_pass (s := s.popped c rest) hl hq hr2 h7 h15 h24 hmay hgen hmayq hgenq hconf htr hsend hrecv hfree hkey).trans ?_
    simp only [fwdSet, hnone]
    exact if_neg (Nat.not_le.mpr hroom)
  case same =>
    subst hleg hk hn hx hsrc
    have hout : v.outSsrc = (c.w 3).toNat := congrArg SubSet.ssrc hsub
    refine answers_of_fail h rfl ((checks_pass (by simp [badArg, badLen, legUsed, hop, hlen, hl])).trans ?_)
    simp only [popped_acc_leg, hl, hop]
    refine (fwdSubscribeSet_pass (s := s.popped c rest) hl hq hr2 h7 h15 h24 hmay hgen hmayq hgenq hconf htr hsend hrecv hfree hkey).trans ?_
    simp [fwdSet, hv, hout, hmedia, hchoice, hst, hsub]
  case repoint =>
    subst hleg hk hn hx hsrc ht
    refine answers_of_checks h rfl rfl (by simp [badArg, badLen, legUsed, hop, hlen, hl]) ?_
    simp only [popped_acc_leg, hl, hop]
    refine (fwdSubscribeSet_pass (s := s.popped c rest) hl hq hr2 h7 h15 h24 hmay hgen hmayq hgenq hconf htr hsend hrecv hfree hkey).trans ?_
    simp [fwdSet, hv, hout, hmedia, hchoice, okWords]
  case pin =>
    subst hleg hk hmode
    refine answers_of_done h rfl ?_
    simp only [popped_acc_leg, hl, Option.bind_some, hv]
    refine checks_pass (append_passes (append_passes ?_ (legObj_passes hl hmay hgen)) ?_)
    · simp [badArg, legUsed, reserved, hl, hr1, hr2, hs, ht]
    · simp [badArg, hmedia, hpin]

end Sys2Proof.Machine

/-! PROOF. The cipher farm (O40): SRTP_DECRYPT, SRTP_ENCRYPT and the known-answer tests (R126, R137, R314, R317 to R320). -/

namespace Sys2Proof.Machine

/-- Without a next send key, none rolls in. -/
theorem txRoll_none {s : State} {leg : Nat} {l : Leg} (hl : s.leg leg = some l) (h : l.keys.txNext = none) : s.txRoll leg = s := by
  simp only [State.txRoll, hl, h]

/-- Settles O40. Each row follows the branches of its definition. -/
theorem cipherFarm : Obligations.CipherFarm := by
  unfold Obligations.CipherFarm
  refine ⟨fun s run hnone => ?noneIn, fun s t run k rest hq ht => ⟨fun hgone => ?goneIn, fun l hl hgen => ⟨fun hst => ?notLive, fun h0 h2 hrep => ?replay,
      fun h0 h2 hrep => ⟨fun hhalf => ?halfOut, fun hhalf => ⟨fun hpass => ?waits, fun u hpass => ?dropped, fun u hpass => ?released⟩⟩⟩⟩,
    fun u k l hl hauth => ?authFails, fun s run hnone => ?noneOut,
    fun s t run p rest hq ht => ⟨fun hgone => ?goneOut, fun l hl hgen hy => ?yielded, fun l hl hgen hy hst => ?silent, fun l hl hgen => ?otherGen,
      fun l k hl hgen hy hst hnext hcur => ⟨fun hrekey => ?rekey, fun code hrekey hmtu href => ?refused, fun u hrekey hmtu href hhalf hpass => ?protects⟩⟩,
    fun s e he pass => ⟨fun htest => ?notTesting, fun htest hpass => ?passes, fun htest hpass => ?fails⟩⟩
  case noneIn => exact exec_eq_next rfl rfl (by simp only [doSrtpDecrypt, hnone])
  case goneIn =>
    subst ht
    exact exec_eq_next rfl rfl (by simp only [doSrtpDecrypt, hq, hgone])
  case notLive =>
    subst ht
    refine exec_eq_next rfl rfl ?_
    obtain h | h := hst <;> simp [doSrtpDecrypt, hq, hl, hgen, h]
  case replay =>
    subst ht
    exact exec_eq_next rfl rfl (by simp [doSrtpDecrypt, hq, hl, hgen, h0, h2, hrep])
  case halfOut =>
    exact exec_eq_next rfl rfl (by simp [doSrtpDecrypt, hq, hl, hgen, h0, h2, hrep, hhalf, -List.getD_eq_getElem?_getD])
  case waits | dropped | released =>
    subst ht
    exact exec_eq_next rfl rfl (by simp [doSrtpDecrypt, hq, hl, hgen, h0, h2, hrep, hhalf, hpass, -List.getD_eq_getElem?_getD])
  case authFails => simp only [State.released, hl, hauth, State.authFail]
  case noneOut => exact exec_eq_next rfl rfl (by simp only [doSrtpEncrypt, hnone])
  case goneOut =>
    subst ht
    exact exec_eq_next rfl rfl (by simp only [doSrtpEncrypt, hq, hgone])
  case yielded | silent =>
    subst ht
    exact exec_eq_next rfl rfl (by simp [doSrtpEncrypt, *])
  case otherGen =>
    subst ht
    exact exec_eq_next rfl rfl (by simp [doSrtpEncrypt, hq, hl, hgen])
  case rekey | refused | protects =>
    have hsend : doSrtpEncrypt run s = t.encryptOne s p run := by
      subst ht
      simp [doSrtpEncrypt, hq, hl, hgen, hy, hst]
    have hl' : t.leg p.leg = some l := by
      subst ht
      exact hl
    clear ht
    refine exec_eq_next rfl rfl ?_
    rw [hsend, State.encryptOne, txRoll_none hl' hnext]
    simp only [*, if_true, Bool.false_eq_true, if_false, Bool.not_true]
  case notTesting => exact exec_eq_next rfl (by simp [Instr.wf, he]) (by simp [doCipherKat, htest])
  case passes => exact exec_eq_next rfl (by simp [Instr.wf, he]) (by simp [doCipherKat, htest, hpass])
  case fails => exact exec_eq_next rfl (by simp [Instr.wf, he]) (by simp [doCipherKat, htest, hpass])

end Sys2Proof.Machine

/-! PROOF. Egress (O41): refills, the selection of items, the transmit queues and gate lists (R141, R331 to R346, R358). -/

namespace Sys2Proof.Machine

/-! ## What moving an item keeps of the leg -/

/-- Leg `leg` has this queue, the tick of its queue's last read, and these settings. -/
def State.queueAt (s : State) (leg : Nat) (q : List QItem) (m : Nat) (cfg : LegCfg) : Prop :=
  ∃ l, s.leg leg = some l ∧ l.queue = q ∧ l.qLastRead = m ∧ l.cfg = cfg

section
variable {s : State} {leg : Nat} {q : List QItem} {m : Nat} {cfg : LegCfg}

theorem queueAt_of_legs {t : State} (h : s.queueAt leg q m cfg) (hlegs : t.legs = s.legs) : t.queueAt leg q m cfg := by
  obtain ⟨l, hl, rest⟩ := h
  exact ⟨l, by rw [State.leg, hlegs]; exact hl, rest⟩

/-- A change of a leg that leaves queues, reads and settings. -/
theorem modLeg_queueAt (h : s.queueAt leg q m cfg) (k : Nat) {g : Leg → Leg} (hq : ∀ l, (g l).queue = l.queue) (hm : ∀ l, (g l).qLastRead = l.qLastRead)
    (hc : ∀ l, (g l).cfg = l.cfg) : (s.modLeg k g).queueAt leg q m cfg := by
  obtain ⟨l, hl, hqueue, hread, hcfg⟩ := h
  by_cases hk : leg = k
  · subst hk
    rw [State.modLeg_eq hl]
    exact ⟨_, State.setLeg_leg_same s leg _, (hq l).trans hqueue, (hm l).trans hread, (hc l).trans hcfg⟩
  · cases hother : s.leg k with
    | none =>
      rw [State.modLeg_none hother]
      exact ⟨l, hl, hqueue, hread, hcfg⟩
    | some x =>
      rw [State.modLeg_eq hother]
      exact ⟨l, (State.setLeg_leg_ne s _ hk).trans hl, hqueue, hread, hcfg⟩

theorem modPort_queueAt (h : s.queueAt leg q m cfg) (p : Nat) (g : Port → Port) : (s.modPort p g).queueAt leg q m cfg := queueAt_of_legs h rfl

theorem modGroup_queueAt (h : s.queueAt leg q m cfg) (k : Nat) (g : LinkGroup → LinkGroup) : (s.modGroup k g).queueAt leg q m cfg :=
  queueAt_of_legs h rfl

theorem occur_queueAt (h : s.queueAt leg q m cfg) (sel : Nat) (o : Occ) : (s.occur sel o).queueAt leg q m cfg := queueAt_of_legs h rfl

theorem untag_queueAt (h : s.queueAt leg q m cfg) (p c g k : Nat) : (s.untag p c g k).queueAt leg q m cfg :=
  modPort_queueAt (modLeg_queueAt h k (g := fun l => { l with shaper := { l.shaper with tagged := false } }) (fun _ => rfl) (fun _ => rfl) (fun _ => rfl)) p _

theorem charge_queueAt (h : s.queueAt leg q m cfg) (k g len : Nat) : (s.charge k g len).queueAt leg q m cfg :=
  queueAt_of_legs (modLeg_queueAt h k (g := fun l => { l with shaper := { l.shaper with tokens := l.shaper.tokens - len * 256 } })
    (fun _ => rfl) (fun _ => rfl) (fun _ => rfl)) rfl

theorem sentPkt_queueAt (h : s.queueAt leg q m cfg) (p : OutPkt) (bytes : Nat) : (s.sentPkt p bytes).queueAt leg q m cfg := by
  refine modLeg_queueAt h p.leg (fun l => ?_) (fun l => ?_) (fun l => ?_) <;> · simp only; split <;> rfl

end

/-- The item that is moved leaves its leg queue, which is read then. -/
theorem moveItem_queueAt {s : State} {p c g leg i len : Nat} {l : Leg} {it : QItem} (hl : s.leg leg = some l) (hit : l.queue[i]? = some it) :
    (s.moveItem p c g leg i len).queueAt leg (l.queue.eraseIdx i) s.time.m l.cfg := by
  have hset : (s.setLeg leg { l with queue := l.queue.eraseIdx i, qLastRead := s.time.m }).queueAt leg (l.queue.eraseIdx i) s.time.m l.cfg :=
    ⟨_, State.setLeg_leg_same s leg _, rfl, rfl, rfl⟩
  simp -zeta only [State.moveItem, hl, hit]
  extract_lets s₁ done s₂ q
  have hmoved : s₂.queueAt leg (l.queue.eraseIdx i) s.time.m l.cfg := modPort_queueAt (untag_queueAt hset p c g leg) p done
  split
  · exact sentPkt_queueAt (charge_queueAt (modGroup_queueAt hmoved _ _) leg g len) it.pkt it.len
  · split
    · exact occur_queueAt hmoved _ _
    · split
      · exact occur_queueAt (modPort_queueAt hmoved p _) _ _
      · exact charge_queueAt (modPort_queueAt hmoved p _) leg g len

/-! ## Refills -/

/-- A refill at which a change within the leg's group comes into force. -/
theorem refilled_sameGroup {h : Shaper} {x : ShpSet} {v : Nat → Nat} (hpend : h.pend = some x) (hg : x.group = h.group) :
    h.refilled v = { h with weight := x.weight, fixed := x.fixed, rate := x.rate, depth := x.depth, pend := none
                            tokens := (h.refilled v).tokens, rem := (h.refilled v).rem } := by
  simp only [Shaper.refilled, Shaper.changed, hpend, if_pos hg]

/-- A refill at which a change to another group comes into force. -/
theorem refilled_otherGroup {h : Shaper} {x : ShpSet} {v : Nat → Nat} (hpend : h.pend = some x) (hg : x.group ≠ h.group) :
    h.refilled v = { h with weight := x.weight, fixed := x.fixed, rate := x.rate, depth := x.depth, pend := none, group := x.group, vF := v x.group
                            tagged := false, tokens := (h.refilled v).tokens, rem := (h.refilled v).rem } := by
  simp only [Shaper.refilled, Shaper.changed, hpend, if_neg hg]

/-! ## The transmit queues -/

/-- A frame that starts is on the wire. -/
theorem startFrame_wire (s : State) (p n : Nat) (x : TxItem) : ((s.startFrame p n x).port p).wire = some x := by
  have hwire : ∀ t : State, t.ports = (s.modPort p fun q => { q with tq := lmod q.tq n [] fun t => t.drop 1, wire := some x, sent := q.sent + 1 }).ports →
      (t.port p).wire = some x := fun t ht => by
    rw [State.port, ht, State.modPort]
    exact congrArg Port.wire (tgetD_tset_same _ _ _ _)
  unfold State.startFrame
  simp only
  split
  · exact hwire _ rfl
  · exact hwire _ rfl

/-- Settles O41. Refills and gate lists follow the branches of their definitions; the item that EGRESS_SELECT moves is
`moveItem_queueAt`. -/
theorem egressScheduling : Obligations.EgressScheduling := by
  unfold Obligations.EgressScheduling
  refine ⟨⟨fun s leg l n hleg hl hpend hn => ?refill, fun s leg hleg hnone => ?noLeg, fun s leg l x hleg hl hpend => ?change,
      fun s g n hg hpend hn => ?group, fun s g r d hg hpend => ?groupChange, fun s leg l hleg hl => ⟨fun hno => ?noQto, fun hsome hqto hm => ?qto⟩⟩,
    ⟨fun s v t p hp hv ht => ⟨fun hnone => ?selectNone, fun c g leg i len l it hsel hl hit => ?selected⟩,
      fun s p hp => ⟨fun hoff => ?off, fun hmode hdown => ?discards, fun hmode hlink hrel => ?serves⟩,
      fun s p t n x xs hq => ⟨fun hfits => ?starts, fun hlong => ?held⟩, fun s p t n hq => ?emptyQueue⟩,
    fun s t p g hp hpend hpass => ?listStarts, fun s p hp hnone => ?noPending, fun s t p e m g hp hgates hhold hfind hpass => ?intervalEnds,
    fun s p hp hnone => ?noList, fun s t p r g hp hgates hhold hpass => ?restarts, fun s p hp hnone => ?noRestart,
    fun s p q h x xs g hp hq hhead hgates hheld => ⟨fun hcycle hlong => ?oversize, fun hcycle => ?notYet⟩, fun s v hv => ?passed⟩
  case refill =>
    subst hn
    refine exec_eq_next rfl (by simp [Instr.wf, hleg]) ?_
    simp only [doLegShaperRefill, hl, Shaper.refilled, Shaper.changed, hpend, refill]
  case noLeg => exact exec_eq_next rfl (by simp [Instr.wf, hleg]) (by simp only [doLegShaperRefill, hnone])
  case change =>
    refine nextWith_of rfl (by simp [Instr.wf, hleg]) ?_
    simp only [doLegShaperRefill, hl]
    have hset := State.setLeg_leg_same s leg { l with shaper := l.shaper.refilled (s.port l.cfg.port).v0 }
    by_cases hg : x.group = l.shaper.group
    · rw [refilled_sameGroup hpend hg] at hset ⊢
      exact ⟨_, hset, rfl, hg.symm, rfl, rfl, rfl, rfl, rfl, rfl, rfl, rfl, fun h => absurd hg h, fun _ => ⟨rfl, rfl⟩⟩
    · rw [refilled_otherGroup hpend hg] at hset ⊢
      exact ⟨_, hset, rfl, rfl, rfl, rfl, rfl, rfl, rfl, rfl, rfl, rfl, fun _ => ⟨rfl, rfl⟩, fun h => absurd h hg⟩
  case group =>
    subst hn
    refine exec_eq_next rfl (by simp [Instr.wf, hg]) ?_
    simp only [doGroupRefill, Node.refilled, hpend, refill]
  case groupChange =>
    refine nextWith_of rfl (by simp [Instr.wf, hg]) ?_
    have hnode : (doGroupRefill g s).node g = (s.node g).refilled := tgetD_tset_same _ _ _ _
    rw [hnode, Node.refilled]
    simp only [hpend, true_and]
    refine ⟨?_, rfl⟩
    cases (s.node g).resetTo <;> rfl
  case noQto =>
    refine exec_eq_next rfl (by simp [Instr.wf, hleg]) ?_
    obtain h | h | h := hno <;> simp [doQtoFire, hl, h]
  case qto =>
    refine nextWith_of rfl (by simp [Instr.wf, hleg]) ?_
    have hgo : ¬(l.queue.isEmpty || l.cfg.qto = 0 || s.time.m < l.qLastRead + l.cfg.qto) = true := by
      simp [hsome, hqto, Nat.not_lt.mpr hm]
    simp only [doQtoFire, hl, if_neg hgo, State.modLeg_eq hl]
    exact ⟨_, State.setLeg_leg_same s leg _, rfl, rfl, rfl, rfl, rfl, rfl, rfl⟩
  case selectNone =>
    subst hv ht
    refine exec_eq_next rfl (by simp [Instr.wf, hp]) ?_
    simp only [doEgressSelect, State.metLq, Option.map_none, Option.getD_none]
    rw [hnone]
  case selected =>
    subst hv ht
    refine nextWith_of rfl (by simp [Instr.wf, hp]) ?_
    simp only [doEgressSelect, State.metLq, Option.map_none, Option.getD_none]
    rw [hsel]
    exact moveItem_queueAt hl hit
  case off => exact exec_eq_next rfl (by simp [Instr.wf, hp]) (by simp [doMacTransmit, hoff])
  case discards => exact exec_eq_next rfl (by simp [Instr.wf, hp]) (by simp [doMacTransmit, hmode, hdown])
  case serves => exact exec_eq_next rfl (by simp [Instr.wf, hp]) (by simp [doMacTransmit, hmode, hlink, hrel])
  case starts => exact ⟨by simp only [State.serveTq, hq, List.head?_cons, hfits, if_true], startFrame_wire s p n x⟩
  case held => simp only [State.serveTq, hq, List.head?_cons, hlong, Bool.false_eq_true, if_false]
  case emptyQueue => simp only [State.serveTq, hq, List.head?_nil]
  case listStarts => exact exec_eq_next rfl (by simp [Instr.wf, hp]) (by simp only [doGateListStart, hpend, hpass])
  case noPending => exact exec_eq_next rfl (by simp [Instr.wf, hp]) (by simp only [doGateListStart, hnone])
  case intervalEnds =>
    exact exec_eq_next rfl (by simp [Instr.wf, hp]) (by simp only [doGateIntervalEnd, hgates, hhold, Option.isSome_none, Bool.false_eq_true, if_false, hfind, hpass])
  case noList => exact exec_eq_next rfl (by simp [Instr.wf, hp]) (by simp only [doGateIntervalEnd, hnone])
  case restarts => exact exec_eq_next rfl (by simp [Instr.wf, hp]) (by simp only [doGateRestart, hgates, hhold, hpass])
  case noRestart =>
    refine exec_eq_next rfl (by simp [Instr.wf, hp]) ?_
    cases hg : (s.port p).gates <;> simp only [doGateRestart, hnone, hg]
  case oversize =>
    exact exec_eq_next rfl (by simp [Instr.wf, hp, hq]) (by simp [doGateOversize, hhead, hgates, hheld, hcycle, hlong, -List.getD_eq_getElem?_getD])
  case notYet =>
    exact exec_eq_next rfl (by simp [Instr.wf, hp, hq])
      (by simp [doGateOversize, hhead, hgates, hheld, Nat.not_le.mpr hcycle, -List.getD_eq_getElem?_getD])
  case passed => exact if_pos hv

end Sys2Proof.Machine

/-! PROOF. The errors of the leg queue store (O42) fail: the reset of a queue by an uncorrectable pointer posts EV_LQ_ERROR, and where no
ring takes it a counter of EVT_UNDELIVERED counts it (R63, R500), so the monitors do not stay as they were. -/

namespace Sys2Proof.Machine

/-- The settings of an audio leg of conference 0 on port 0. -/
def plainLegCfg : LegCfg :=
  { conf := 0, kind := 0, port := 0, ipv6 := false, audMode := 0, audDir := 0, vidMode := 0, vidDir := 0, vlanEn := false, vlanId := 0, pcp := 0, dscp := 0
    lport := 0, rport := 0, qto := 0, consentTo := 0, qlimit := 0, mac := 0, laddr := 0, raddr := 0 }

/-- A counter of EVT_UNDELIVERED (R498). -/
def undeliveredCounter : Counter := { owner := 0, sel := srcEvtUndelivered, qen := 0, clMask := 0, tenant := 0, object := 0, portq := 0 }

/-- The module after reset, with leg 5 in use and the counter configured; no event ring is enabled. -/
def plainLegState : State := { State.reset with legs := [(5, newLeg State.reset plainLegCfg 0 0)], mon := { counters := [(0, undeliveredCounter)] } }

/-- An uncorrectable pointer error in the queue of leg 5. -/
def pointerError : LqErr := { leg := 5, pointer := true, single := false }

/-- Refutes O42: an uncorrectable pointer in the queue of leg 5, with no ring that takes the event and a counter of EVT_UNDELIVERED;
the statement claims that the monitors are as they were. -/
theorem not_queueStoreErrors : ¬ Obligations.QueueStoreErrors := by
  unfold Obligations.QueueStoreErrors
  intro hall
  obtain ⟨-, -, -, herror⟩ := hall
  obtain ⟨-, -, hpointer, -⟩ := herror plainLegState pointerError (newLeg State.reset plainLegCfg 0 0) (by decide)
  obtain ⟨hmon, -⟩ := hpointer rfl rfl rfl
  exact absurd (congrArg (fun m => m.counters) hmon) (by decide)

end Sys2Proof.Machine

/-! PROOF. The egress commands (O43): SHP.NODE, SHP.POLICE and GATE.LIST (R335 to R338, R345, R347 to R349). -/

namespace Sys2Proof.Machine

/-- Checks that pass leave the decision to those after them. -/
theorem checks_append {as bs : List (Bool × Nat × Nat)} {r : Reply} (ha : ∀ x ∈ as, x.1 = false) : checks (as ++ bs) r = checks bs r := by
  induction as with
  | nil => rfl
  | cons a as ih =>
    obtain ⟨b, st, det⟩ := a
    rw [List.forall_mem_cons] at ha
    obtain ⟨hb, hrest⟩ := ha
    rw [List.cons_append, checks_cons, show b = false from hb]
    exact ih hrest

/-- SHP.POLICE with arguments in range goes on to what the leg has. -/
theorem police_checks {s : State} {c : Ctx} {l : Leg} (hl : s.leg (c.f 1 0 16) = some l) (hr1 : c.f 1 24 8 = 0) (hr3 : c.f 3 24 8 = 0)
    (hmay : s.mayTouch c.issuer (s.legTenant l) = true) (hgen : l.gen = c.f 1 16 8) (hdepth : c.f 2 0 32 ≠ 0 → 9216 ≤ c.f 3 0 24) :
    ∀ x ∈ [reserved c 1 24 8, badArg ((c.f 2 0 32 ≠ 0 && decide (c.f 3 0 24 < 9216)) || c.f 3 24 8 ≠ 0) 3] ++ legObj s c.issuer (c.f 1 0 16) (c.f 1 16 8),
      x.1 = false := by
  refine append_passes ?_ (legObj_passes hl hmay hgen)
  have hdeep : (c.f 2 0 32 ≠ 0 && decide (c.f 3 0 24 < 9216)) = false := by
    by_cases h : c.f 2 0 32 = 0
    · simp [h]
    · simp [Nat.not_lt.mpr (hdepth h)]
  rw [hdeep]
  simp [reserved, badArg, hr1, hr3]

/-- The first whole cycle of a list at or after a time, where its base lies before it. -/
theorem gateStart_late {now base cyc : Nat} (hcyc : 0 < cyc) (h : base < now + 200 * usU) : ∃ k, gateStart now base cyc = (base + k * cyc, true) ∧
    now + 200 * usU ≤ base + k * cyc ∧ base + k * cyc < now + 200 * usU + cyc := by
  have hdiv := Nat.div_add_mod (now + 200 * usU - base + cyc - 1) cyc
  have hmod := Nat.mod_lt (now + 200 * usU - base + cyc - 1) hcyc
  have hcomm := Nat.mul_comm cyc ((now + 200 * usU - base + cyc - 1) / cyc)
  exact ⟨(now + 200 * usU - base + cyc - 1) / cyc, if_neg (Nat.not_le.mpr h), by omega, by omega⟩

/-- Settles O43. Each command passes its checks and follows the branch of its KIND or OP. -/
theorem egressCommands : Obligations.EgressCommands := by
  unfold Obligations.EgressCommands
  refine ⟨fun s c rest id h hr1 hid => ⟨fun l hkind hl hmay hgen => ⟨fun hq hlen => ?legQuery, fun sh hq hlen h1 h2 h3 h4 htakes hsh => ?legSet⟩,
      fun hkind hg hpf => ⟨fun hq hlen => ?groupQuery, fun n hq hlen h1 h2 h3 h4 h5 h6 hforeign hn => ?groupSet⟩,
      fun hkind hp => ⟨fun hq hlen => ?portQuery, fun hq hlen h1 hpf => ?portSet⟩⟩,
    fun s c rest leg l p h hleg hl hr1 hr3 hmay hgen hdepth => ⟨fun hsame hsame' => ?policeSame, fun hrate hon => ?policeOff, fun hrate hoff hp => ?policeOn⟩,
    fun s c rest p buf h hp hr1 hr2 hmode => ⟨fun hop hlen hsome => ?disable, fun hop hlen hg hgp => ?reportNone, fun g hop hlen hg hgp => ?report,
      fun es st g hop hlen hc0 hc1 h1 h2 h3 h4 hpf hbuf hes hiv hst hg => ?set⟩,
    fun now base cyc hcyc => ⟨fun hsoon => if_pos hsoon, fun hlate => ?late⟩⟩
  case legQuery =>
    subst hid
    refine answers_of_checks h rfl rfl (by simp [badArg, badLen, hkind, hq, hlen]) ?_
    simp only [hq, if_true, shpQuery, hkind, popped_acc_leg, hl]
    exact checks_pass (append_passes (by simp [reserved, hr1]) (legObj_passes hl hmay hgen))
  case legSet =>
    subst hid hsh
    refine answers_of_checks h rfl rfl (by simp [badArg, badLen, hkind, hq, hlen]) ?_
    simp only [hq, hkind, shpLeg, popped_acc_leg, hl]
    exact checks_pass (append_passes (append_passes (by simp [badArg, reserved, hr1, h1, h2, h3, h4]) (legObj_passes hl hmay hgen)) (by simp [htakes]))
  case groupQuery =>
    subst hid
    refine answers_of_checks h rfl rfl (by simp [badArg, badLen, hkind, hq, hlen]) ?_
    simp only [hq, if_true, shpQuery, hkind]
    refine checks_pass ?_
    simp [badArg, hr1, hpf]
    omega
  case groupSet =>
    subst hid hn
    have hlim : ¬4095 < c.f 1 16 16 := by omega
    have hlegs : (c.f 2 12 12 ≠ (s.node (c.f 1 16 16)).tenant && (s.popped c rest).foreignLegs (c.f 1 16 16) (c.f 2 12 12)) = false := by
      have hsame : (s.popped c rest).foreignLegs (c.f 1 16 16) (c.f 2 12 12) = s.foreignLegs (c.f 1 16 16) (c.f 2 12 12) := rfl
      obtain h | h := hforeign <;> simp [hsame, h]
    refine answers_of_checks h rfl rfl (by simp [badArg, badLen, hkind, hq, hlen]) ?_
    simp only [hq, hkind, shpGroup, popped_acc_node, hpf, if_true]
    refine checks_pass ?_
    simp only [hlegs]
    simp [badArg, reserved, hlim, hr1, h1, h2, h3, h4, h5, h6]
  case portQuery =>
    subst hid
    refine answers_of_checks h rfl rfl (by simp [badArg, badLen, hkind, hq, hlen]) ?_
    simp only [hq, if_true, shpQuery, hkind]
    refine checks_pass ?_
    simp [badArg, hr1]
    omega
  case portSet =>
    subst hid
    refine answers_of_checks h rfl rfl (by simp [badArg, badLen, hkind, hq, hlen]) ?_
    simp only [hq, hkind]
    refine checks_pass ?_
    simp [badArg, reserved, hr1, h1, hpf]
    omega
  case policeSame =>
    subst hleg
    refine answers_of_fail h rfl ?_
    simp only [popped_acc_leg, hl]
    refine (checks_append (police_checks (s := s.popped c rest) hl hr1 hr3 hmay hgen hdepth)).trans ?_
    obtain h0 | hd := hsame'
    · simp [checks_cons, hsame, hsame.symm.trans h0]
    · simp [checks_cons, hsame, hd]
  case policeOff =>
    subst hleg
    refine answers_of_done h rfl ?_
    simp only [popped_acc_leg, hl]
    refine (checks_append (police_checks (s := s.popped c rest) hl hr1 hr3 hmay hgen hdepth)).trans ?_
    rw [hrate, if_pos rfl]
    exact checks_pass (by simp [Ne.symm hon])
  case policeOn =>
    subst hleg hp
    refine answers_of_done h rfl ?_
    simp only [popped_acc_leg, hl]
    refine (checks_append (police_checks (s := s.popped c rest) hl hr1 hr3 hmay hgen hdepth)).trans ?_
    simp only [if_neg hrate, hoff, if_true]
    exact checks_pass (by simp [hrate])
  case disable =>
    subst hp
    refine answers_of_checks h rfl rfl (by simp [badArg, badLen, hop, hlen, hr1, hr2]) ?_
    simp only [hop]
    refine checks_pass ?_
    obtain h | h := hsome <;> simp [hmode, Option.isSome_iff_ne_none, h]
  case reportNone =>
    subst hp
    refine answers_of_checks h rfl rfl (by simp [badArg, badLen, hop, hlen, hr1, hr2]) ?_
    simp only [hop, popped_acc_port, hg, hgp]
    exact checks_pass (by simp [hmode])
  case report =>
    subst hp
    refine answers_of_checks h rfl rfl (by simp [badArg, badLen, hop, hlen, hr1, hr2]) ?_
    simp only [hop, popped_acc_port, hg, hgp]
    exact checks_pass (by simp [hmode])
  case set =>
    subst hp hes hst hg
    refine answers_of_checks h rfl rfl (by simp [badArg, badLen, hop, hlen, hr1, hr2, hc0, Nat.not_lt.mpr hc1]) ?_
    simp only [hop, gateSet]
    rw [List.forall_mem_append, List.forall_mem_append] at hbuf
    obtain ⟨⟨hdesc, hsize⟩, hread⟩ := hbuf
    refine checks_pass (append_passes (append_passes (append_passes (append_passes ?_ hdesc) ?_) hread) ?_)
    · simp [badArg, reserved, Nat.not_lt.mpr h1, Nat.not_lt.mpr h2, Nat.not_lt.mpr h3, h4]
    · rw [List.forall_mem_singleton] at hsize
      simp [hsize, hpf, hmode]
    · have hany : (((wordsOf (bufBytes buf (c.f 1 8 9 * 4)) (c.f 1 8 9)).map fun w => (w / 2 ^ 24 % 256, w % 2 ^ 24)).any fun e => e.2 == 0) = false :=
        List.any_eq_false.mpr fun e he => by simpa using hiv e he
      simp only [hany]
      simp [badArg]
  case late =>
    obtain ⟨k, hk, hlo, hhi⟩ := gateStart_late hcyc hlate
    rw [hk]
    exact ⟨rfl, hlo, hhi, k, rfl⟩

end Sys2Proof.Machine

/-! PROOF. The audio settings (O44): AUD.ROUTE, AUD.DETECT, AUD.MIXPOLICY and AUD.STAGE (R217 to R220). -/

namespace Sys2Proof.Machine

/-- Changes of a conference that agree on it. -/
theorem modConf_congr {s : State} {id : Nat} {k : Conf} {f g : Conf → Conf} (h : s.conf id = some k) (hfg : f k = g k) : s.modConf id f = s.modConf id g := by
  have htab : tget s.confs id = some k := h
  rw [State.modConf, State.modConf, tupd, tupd, htab]
  simp only [hfg]

theorem confObj_pass {s : State} {issuer conf : Nat} {k : Conf} (h : s.conf conf = some k) (hmay : s.mayTouch issuer k.tenant = true) :
    confObj s issuer conf = (false, eTenant, 2) := by
  simp [confObj, h, hmay]

theorem mixConf_pass {s : State} {conf : Nat} {k : Conf} (h : s.conf conf = some k) (hmix : k.mix = true) : mixConf s conf = (false, eState, 0x0901) := by
  simp [mixConf, h, hmix]

theorem mixLeg_pass {s : State} {leg : Nat} {l : Leg} (h : s.leg leg = some l) (hmix : l.cfg.audMode = 2) : mixLeg s leg = (false, eState, 0x0901) := by
  simp [mixLeg, h, hmix]

theorem placesFull_pass {s : State} (h : s.decodePlaces ≤ 16384) : placesFull s = (false, eNospace, 0x0901) := by
  simp [placesFull, h]

/-- AUD.ROUTE on a leg in use follows its SELECT. -/
theorem audRoute_checks {s : State} {c : Ctx} {rest : List Cmd} {l : Leg} {sel n : Nat} (hl : s.leg (c.f 1 0 16) = some l) (hr1 : c.f 1 28 4 = 0)
    (hsel : c.f 1 24 4 = sel) (hle : sel ≤ 3) (hlen : c.len = n) (hn : (if sel = 1 then 2 else 3) = n) :
    ∀ x ∈ [badArg (decide (3 < c.f 1 24 4)) 1, badLen c (if c.f 1 24 4 = 1 then 2 else 3), legUsed (s.popped c rest) (c.f 1 0 16), reserved c 1 28 4],
      x.1 = false := by
  rw [hsel, hn]
  simp [badArg, badLen, reserved, legUsed, hl, hr1, hlen, Nat.not_lt.mpr hle]

/-- The checks of a conference that a stage is attached to, or taken off, pass where the issuer may touch it and it mixes. -/
theorem stageObj_conf_passes {s : State} {c : Ctx} {rest : List Cmd} {conf : Nat} {k : Conf} (h : s.conf conf = some k)
    (hmay : s.mayTouch c.issuer k.tenant = true) (hmix : k.mix = true) :
    (∀ x ∈ (stageObj c (s.popped c rest) 1 conf).1, x.1 = false) ∧ ∀ x ∈ (stageObj c (s.popped c rest) 1 conf).2, x.1 = false := by
  simp [stageObj, badArg, h, confObj_pass (s := s.popped c rest) h hmay, mixConf_pass (s := s.popped c rest) h hmix]

/-- Settles O44. Each command passes its checks and follows the branch of its SELECT or OP. -/
theorem audioSettings : Obligations.AudioSettings := by
  unfold Obligations.AudioSettings
  refine ⟨⟨fun s c rest leg l h hleg hl hr1 hmay hgen hmix =>
        ⟨fun a b ka kb cfg t v hsel hlen ha hb h1 h2 h3 hka hkb hta htb hma hmb hin hcfg ht hplaces hflow => ?routing,
          fun t tr v hsel hlen h1 h2 h3 h4 htr hmedia hin hjit ht hflow => ?input,
          fun e t v hsel hlen he hcodec h1 hms h2 h3 hmin hle hmax ht hflow => ?encoder, fun x hsel hlen h1 hx hkey => ?identity⟩,
      fun s c rest leg l cfg t v h hleg hl hr1 h1 h2 hmay hgen hmix hcfg ht hflow => ?detect⟩,
    fun s c rest id k h hid hk hlen hr1 hr2 hmay hmix =>
      ⟨fun p t v hsel h1 h2 h3 h4 h5 h6 h7 h8 h9 hp ht hplaces hflow => ?selection,
        fun hsel h1 h2 h3 h4 => ⟨fun hd htag => ?cascSame, fun hd hlegs => ?cascBusy, fun hd hlegs => ?cascNew⟩⟩,
    fun s c rest buf h hr1 => ⟨fun hop hlen hnone => ?notLoaded, fun hop hlen hsome hfree => ?unload,
      fun k hop hlen hpt h1 hk hmay hmix => ?detach, fun k t v hop hlen hpt h1 hk hmay hmix hsome ht hflow => ?attach⟩⟩
  case routing =>
    subst hleg ha hb hcfg ht
    refine answers_of_checks h rfl rfl (audRoute_checks hl hr1 hsel (by decide) hlen rfl) ?_
    have hstate : (s.popped c rest).modAud (c.f 1 0 16) (fun x : Aud => { x with
        cfg := { x.cfg with inConf := c.f 2 0 14, outConf := c.f 2 16 14, inMute := c.bit 3 0, outMute := c.bit 3 1 }
        inp := { x.inp with cand := x.inp.cand && c.f 2 0 14 == l.aud.cfg.inConf } }) = (s.popped c rest).setLeg (c.f 1 0 16)
          { l with aud := { l.aud with cfg := { l.aud.cfg with inConf := c.f 2 0 14, outConf := c.f 2 16 14, inMute := c.bit 3 0, outMute := c.bit 3 1 } } } := by
      rw [State.modAud, State.modLeg_eq (s := s.popped c rest) hl]
      simp only [hin, beq_self_eq_true, Bool.and_true]
    simp only [popped_acc_leg, hl, hsel, audRouting]
    rw [if_pos hin.symm, hstate]
    refine (checks_pass (append_passes (append_passes ?_ (legObj_passes hl hmay hgen)) ?_)).trans (withFlows_ok hflow)
    · simp [badArg, reserved, h1, h2, h3, hka, hkb]
    · simp [confObj_pass (s := s.popped c rest) hka hma, confObj_pass (s := s.popped c rest) hkb hmb, mixLeg_pass (s := s.popped c rest) hl hmix,
        mixConf_pass (s := s.popped c rest) hka hta, mixConf_pass (s := s.popped c rest) hkb htb, placesFull_pass hplaces]
  case input =>
    subst hleg ht
    refine answers_of_checks h rfl rfl (audRoute_checks hl hr1 hsel (by decide) hlen rfl) ?_
    have hstate : (s.popped c rest).modAud (c.f 1 0 16) (fun x : Aud => { x with
        cfg := { x.cfg with inTrack := c.f 2 0 3, jit := c.f 2 8 8 }
        inp := if c.f 2 0 3 ≠ l.aud.cfg.inTrack || c.f 2 8 8 ≠ x.cfg.jit then
          { x.inp with jb := { x.inp.jb with anchor := none, move := none, frames := if c.f 2 0 3 ≠ l.aud.cfg.inTrack then [] else x.inp.jb.frames } } else x.inp }) =
        (s.popped c rest).setLeg (c.f 1 0 16) { l with aud := { l.aud with cfg := { l.aud.cfg with jit := c.f 2 8 8 }, inp := { l.aud.inp with jb := { l.aud.inp.jb with anchor := none, move := none } } } } := by
      rw [State.modAud, State.modLeg_eq (s := s.popped c rest) hl]
      simp [← hin, hjit.symm]
    simp only [popped_acc_leg, hl, hsel, audInput]
    rw [hstate]
    refine (checks_pass (append_passes (append_passes ?_ (legObj_passes hl hmay hgen)) ?_)).trans (withFlows_ok hflow)
    · simp [badArg, h1, h2, h4, Nat.not_lt.mpr h3]
    · simp [mixLeg_pass (s := s.popped c rest) hl hmix, htr, hmedia]
  case encoder =>
    subst hleg he ht
    dsimp only at hcodec hms hmin hle hmax
    refine answers_of_checks h rfl rfl (audRoute_checks hl hr1 hsel (by decide) hlen rfl) ?_
    simp only [popped_acc_leg, hl, hsel, audEncoder]
    rw [State.modAud, State.modLeg_eq (s := s.popped c rest) hl]
    refine (checks_pass (append_passes (append_passes ?_ (legObj_passes hl hmay hgen)) ?_)).trans (withFlows_ok hflow)
    · have hknown : (decide (c.f 2 0 4 < 4) || c.f 2 0 4 == 15) = true := by
        rcases hcodec with ⟨hlt, -⟩ | ⟨heq, -⟩
        · simp [hlt]
        · simp [heq]
      have hkind : ((c.f 2 0 4 == 15) != (l.cfg.kind == 1)) = false := by
        rcases hcodec with ⟨hlt, hk⟩ | ⟨heq, hk⟩
        · rw [beq_false_of_ne (show c.f 2 0 4 ≠ 15 by omega), beq_false_of_ne hk]
          rfl
        · simp [heq, hk]
      have hmost : c.f 3 0 16 ≤ 510 := Nat.le_trans hle hmax
      simp [badArg, hknown, hkind, hms, h1, h2, h3, Nat.not_lt.mpr hmin, Nat.not_lt.mpr hle, Nat.not_lt.mpr hmax, Nat.not_lt.mpr hmost]
    · simp [mixLeg_pass (s := s.popped c rest) hl hmix]
  case identity =>
    subst hleg hx
    refine answers_of_checks h rfl rfl (audRoute_checks hl hr1 hsel (by decide) hlen rfl) ?_
    simp only [popped_acc_leg, hl, hsel, audIdentity]
    rw [State.modAud, State.modLeg_eq (s := s.popped c rest) hl]
    refine checks_pass (append_passes (append_passes (by simp [reserved, h1]) (legObj_passes hl hmay hgen)) ?_)
    by_cases h0 : (c.w 2).toNat = 0
    · simp [mixLeg_pass (s := s.popped c rest) hl hmix, h0]
    · simp [mixLeg_pass (s := s.popped c rest) hl hmix, hkey h0]
  case detect =>
    subst hleg hcfg ht
    refine answers_of_done h rfl ?_
    simp only [State.modAud, State.modLeg_eq (s := s.popped c rest) hl]
    refine (checks_pass (append_passes (append_passes ?_ (legObj_passes hl hmay hgen)) ?_)).trans (withFlows_ok hflow)
    · simp [legUsed, badArg, reserved, hl, hr1, h1, h2]
    · simp [mixLeg_pass (s := s.popped c rest) hl hmix]
  case selection =>
    subst hid hp ht
    have hstate : (s.popped c rest).modPol (c.f 1 0 14) (fun p => { p with
        activeMax := c.f 2 0 4, candMax := c.f 2 4 5, scale := c.bit 2 9, talkEv := c.bit 2 10, hyst := c.f 2 11 5, floor := c.f 2 16 7, hang := c.f 3 0 16, candHold := c.f 3 16 16 }) =
        (s.popped c rest).modConf (c.f 1 0 14) (fun x => { x with pol := { k.pol with
          activeMax := c.f 2 0 4, candMax := c.f 2 4 5, scale := c.bit 2 9, talkEv := c.bit 2 10, hyst := c.f 2 11 5, floor := c.f 2 16 7, hang := c.f 3 0 16, candHold := c.f 3 16 16 } }) :=
      modConf_congr (s := s.popped c rest) hk rfl
    refine answers_of_checks h rfl rfl (by simp [badArg, badLen, hk, hlen, hr1, hr2, hsel]) ?_
    simp only [popped_acc_conf, hk, hsel, if_true, mixSelection]
    rw [hstate]
    refine (checks_pass ?_).trans (withFlows_ok hflow)
    simp [badArg, confObj_pass (s := s.popped c rest) hk hmay, mixConf_pass (s := s.popped c rest) hk hmix, placesFull_pass hplaces, h5, Nat.not_lt.mpr h2, Nat.not_lt.mpr h3, Nat.not_lt.mpr h4,
      show c.f 2 0 4 ≠ 0 by omega, Nat.not_lt.mpr h6, Nat.not_lt.mpr h7, Nat.not_lt.mpr h8, Nat.not_lt.mpr h9]
  case cascSame =>
    subst hid
    refine answers_of_checks h rfl rfl (by simp [badArg, badLen, hk, hlen, hr1, hr2, hsel]) ?_
    simp only [popped_acc_conf, hk, hsel, mixCascade, hd, htag]
    refine (checks_pass ?_).trans (congrArg ok (modConf_congr (s := s.popped c rest) hk ?_))
    · simp [badArg, reserved, confObj_pass (s := s.popped c rest) hk hmay, mixConf_pass (s := s.popped c rest) hk hmix, ← hd, h1, h3, h4, Nat.not_lt.mpr h2]
    · simp
  case cascBusy =>
    subst hid
    refine answers_of_fail h rfl ((checks_pass (by simp [badArg, badLen, hk, hlen, hr1, hr2, hsel])).trans ?_)
    simp only [popped_acc_conf, hk, hsel, mixCascade]
    simp [checks_cons, badArg, reserved, confObj_pass (s := s.popped c rest) hk hmay, mixConf_pass (s := s.popped c rest) hk hmix, hd, h1, h3, h4, Nat.not_lt.mpr h2,
      show (s.popped c rest).cascLegs (c.f 1 0 14) ≠ [] from hlegs]
  case cascNew =>
    subst hid
    refine answers_of_checks h rfl rfl (by simp [badArg, badLen, hk, hlen, hr1, hr2, hsel]) ?_
    simp only [popped_acc_conf, hk, hsel, mixCascade]
    refine (checks_pass ?_).trans (congrArg ok (modConf_congr (s := s.popped c rest) hk ?_))
    · simp [badArg, reserved, confObj_pass (s := s.popped c rest) hk hmay, mixConf_pass (s := s.popped c rest) hk hmix, h1, h3, h4, Nat.not_lt.mpr h2,
        show (s.popped c rest).cascLegs (c.f 1 0 14) = [] from hlegs]
    · simp [hd]
  case notLoaded =>
    refine answers_of_fail h rfl ((checks_pass (by simp [badLen, reserved, hop, hlen, hr1])).trans ?_)
    simp [hop, stageUnload, stageLoaded, checks_cons, hnone]
  case unload =>
    refine answers_of_checks h rfl rfl (by simp [badLen, reserved, hop, hlen, hr1]) ?_
    simp only [hop, stageUnload]
    exact checks_pass (by simpa [stageLoaded, Option.ne_none_iff_isSome.mp hsome] using hfree)
  case detach =>
    refine answers_of_checks h rfl rfl (by simp [badLen, reserved, hop, hlen, hr1]) ?_
    simp only [hop, stageDetach]
    rw [hpt]
    obtain ⟨hused, hobj⟩ := stageObj_conf_passes (rest := rest) hk hmay hmix
    exact checks_pass (append_passes (append_passes (by simp [badArg, h1]) hused) hobj)
  case attach =>
    subst ht
    refine answers_of_checks h rfl rfl (by simp [badLen, reserved, hop, hlen, hr1]) ?_
    simp only [hop, stageAttach, hpt]
    obtain ⟨hused, hobj⟩ := stageObj_conf_passes (rest := rest) hk hmay hmix
    refine (checks_pass (append_passes (append_passes (append_passes ?_ hused) hobj) ?_)).trans (withFlows_ok hflow)
    · simp [badArg, h1]
    · simp [stageLoaded, Option.ne_none_iff_isSome.mp hsome]

end Sys2Proof.Machine

/-! PROOF. Runs of custom stages (O45): what a run leaves, and a run that its timer stops (R206, R207, R304 to R306). -/

namespace Sys2Proof.Machine

/-- With no stage whose turn it is, or no block to process, a position only hears its leg's signal. -/
theorem stageAct_idle {s : State} {p o k t : Nat} {g : StageAtt → Stage → List Int → State → State}
    (h : (s.stageHear p o).stageTurn p o k t = none ∨ (s.stageHear p o).stageBlock p o t = none) : s.stageAct p o k t g = s.stageHear p o := by
  rcases h with h | h
  · simp [State.stageAct, h]
  · cases hturn : (s.stageHear p o).stageTurn p o k t <;> simp [State.stageAct, h, hturn]

/-- The stage whose turn it is acts on the block of its position. -/
theorem stageAct_turn {s : State} {p o k t : Nat} {g : StageAtt → Stage → List Int → State → State} {a : StageAtt} {x : List Int} {st : Stage}
    (hturn : (s.stageHear p o).stageTurn p o k t = some a) (hblock : (s.stageHear p o).stageBlock p o t = some x) (hst : tget (s.stageHear p o).stages a.stage = some st) :
    s.stageAct p o k t g = (g a st x (s.stageHear p o)).stagesDone p o := by
  simp [State.stageAct, hturn, hblock, hst]

/-- Settles O45, by the two outcomes of a position: nothing to run, or a stage whose turn it is with the block of its place. -/
theorem stageRuns : Obligations.StageRuns := by
  unfold Obligations.StageRuns
  refine ⟨fun s u p o k t r hp hk hu hidle => ?idle, fun s u p o k t a x st hp hk hu hturn hblock hst => ⟨fun y q b => ?output, ?fault, fun h8 => ?last, fun h8 => ?stopped⟩⟩
  case idle =>
    subst hu
    exact ⟨exec_eq_next rfl (by simp [Instr.wf, hp, hk]) (stageAct_idle hidle), exec_eq_next rfl (by simp [Instr.wf, hp, hk]) (stageAct_idle hidle)⟩
  all_goals subst hu
  case output => exact exec_eq_next rfl (by simp [Instr.wf, hp, hk]) (stageAct_turn hturn hblock hst)
  case fault => exact exec_eq_next rfl (by simp [Instr.wf, hp, hk]) (stageAct_turn hturn hblock hst)
  case last =>
    exact exec_eq_next rfl (by simp [Instr.wf, hp, hk]) ((stageAct_turn hturn hblock hst).trans (by rw [if_pos h8]))
  case stopped =>
    exact ⟨{ a.inst t st.state with ran := some (s.stageHear p o).time.m, out := x }, rfl, rfl, rfl, rfl,
      exec_eq_next rfl (by simp [Instr.wf, hp, hk]) ((stageAct_turn hturn hblock hst).trans (by rw [if_neg (Nat.not_le.mpr h8)]; rfl))⟩

end Sys2Proof.Machine

/-! PROOF. The audio of a tick (O46): a leg's input, the mix of a conference, encoding and cascade contributions (R191 to R203, R212). -/

namespace Sys2Proof.Machine

/-- A change of the Campfire state of a leg in use. -/
theorem modAud_eq {s : State} {leg : Nat} {l : Leg} (h : s.leg leg = some l) (g : Aud → Aud) : s.modAud leg g = s.setLeg leg { l with aud := g l.aud } :=
  State.modLeg_eq h _

/-- A change of the input of a leg in use. -/
theorem modIn_eq {s : State} {leg : Nat} {l : Leg} (h : s.leg leg = some l) (g : AudIn → AudIn) : s.modIn leg g = s.setLeg leg { l with aud := { l.aud with inp := g l.aud.inp } } :=
  State.modLeg_eq h _

/-- Drawing the numbers of a stream leaves the send queue. -/
theorem drawStream_outQ (s : State) (o : AudOut) : (s.drawStream o).2.2.outQ = s.outQ := by
  unfold State.drawStream
  split <;> rfl

/-- A leg that shifts its jitter buffer: no voice is heard, or the time is up. -/
theorem jbReanchor_shift {s : State} {leg : Nat} {l : Leg} {later : Bool} {by_ : Nat} (hl : s.leg leg = some l) (hfeeds : l.cfg.feeds = true)
    (hmove : l.aud.inp.jb.move = some (later, by_)) (h : l.aud.inp.vad = false ∨ by_ ≤ s.time.m) :
    doJbReanchor leg s = (s.setLeg leg { l with aud := { l.aud with inp := { l.aud.inp with jb := l.aud.inp.jb.shift later } } }).occur srcJbReanchor (s.occOn (.legAudio leg) (s.occLeg leg)) := by
  have hgo : (!l.aud.inp.vad || decide (by_ ≤ s.time.m)) = true := by
    rcases h with h | h <;> simp [h]
  simp [doJbReanchor, hl, hfeeds, hmove, modIn_eq hl, hgo]

/-- A leg that is heard keeps its jitter buffer until its time is up. -/
theorem jbReanchor_wait {s : State} {leg : Nat} {l : Leg} {later : Bool} {by_ : Nat} (hl : s.leg leg = some l) (hfeeds : l.cfg.feeds = true)
    (hmove : l.aud.inp.jb.move = some (later, by_)) (hvad : l.aud.inp.vad = true) (hby : s.time.m < by_) : doJbReanchor leg s = s.setLeg leg l := by
  have hwait : (!l.aud.inp.vad || decide (by_ ≤ s.time.m)) = false := by simp [hvad, Nat.not_le.mpr hby]
  have hkept : s.modIn leg (fun i => { i with jb := l.aud.inp.jb }) = s.setLeg leg l := modIn_eq hl _
  simp [doJbReanchor, hl, hfeeds, hmove, hkept, hwait]

/-- The frame of a leg that is LIVE with an output SSRC goes to the send queue. -/
theorem audioEncode_sends {s : State} {leg n : Nat} {l : Leg} (hl : s.leg leg = some l) (hhears : l.cfg.hears = true) (hkind : l.cfg.kind = 0) (hat : l.aud.out.encAt ≠ some s.time.m)
    (hstart : startsAt l.aud.out.enc.frameMs leg s.time.m = true) (hstop : s.stoppedFlow (.legEncode leg) = false) (hhear : s.hear leg = s) (hlive : l.state = 1)
    (hssrc : l.aud.cfg.outSsrc ≠ 0) (hdtx : l.aud.out.enc.dtx = false) :
    ∃ p : OutPkt, (doAudioEncode leg n s).outQ = s.outQ ++ [p] ∧ p.leg = leg ∧ p.prio = 2 ∧ p.ssrc = l.aud.cfg.outSsrc ∧ p.pt = l.aud.cfg.outPt ∧
      p.payloadLen = frameSize l.aud.out.enc n := by
  simp only [doAudioEncode, hl]
  rw [if_neg (by simp [hhears, hkind, hat, hstart, hstop]), hhear]
  simp only [hl]
  rw [if_neg (by simp [hlive, hssrc, hdtx])]
  exact ⟨_, congrArg (· ++ [_]) (drawStream_outQ s l.aud.out), rfl, rfl, rfl, rfl, rfl⟩

/-- The frame of a leg that is not LIVE goes nowhere. -/
theorem audioEncode_unsent {s : State} {leg n : Nat} {l : Leg} (hl : s.leg leg = some l) (hhears : l.cfg.hears = true) (hkind : l.cfg.kind = 0) (hat : l.aud.out.encAt ≠ some s.time.m)
    (hstart : startsAt l.aud.out.enc.frameMs leg s.time.m = true) (hstop : s.stoppedFlow (.legEncode leg) = false) (hhear : s.hear leg = s) (hstate : l.state ≠ 1) :
    (doAudioEncode leg n s).outQ = s.outQ ∧ ∃ l', (doAudioEncode leg n s).leg leg = some l' ∧ l'.aud.out.encAt = some s.time.m ∧ l'.cfg = l.cfg := by
  simp only [doAudioEncode, hl]
  rw [if_neg (by simp [hhears, hkind, hat, hstart, hstop]), hhear]
  simp only [hl]
  rw [if_pos (by simp [hstate]), modAud_eq hl]
  exact ⟨rfl, _, State.setLeg_leg_same _ _ _, rfl, rfl⟩

/-- The contributions of the tick just ended go out once. -/
theorem cascContribSend_sends {s : State} {id t : Nat} {c : Conf} (hc : s.conf id = some c) (hd : c.pol.cascD ≠ 0) (hm : s.time.m ≠ 0) (hstop : s.stoppedFlow (.confMix id) = false)
    (ht : t = (s.time.m + 2 ^ 32 - 1) % 2 ^ 32) (hfresh : ∀ k ∈ c.contribs, k.site = none → k.tick ≠ t) :
    doCascContribSend id s = ((s.modConf id fun c' => { c' with contribs := c'.contribs ++ [⟨none, t, s.localBlocks c⟩] }).cascLegs id).foldl (fun u n => u.sendContrib c t (s.localBlocks c) n)
      (s.modConf id fun c' => { c' with contribs := c'.contribs ++ [⟨none, t, s.localBlocks c⟩] }) := by
  have hnone : (c.contribs.any fun k => k.site.isNone && k.tick == t) = false := by
    rw [List.any_eq_false]
    intro k hk
    by_cases hsite : k.site = none
    · simp [hsite, hfresh k hk hsite]
    · simp [hsite]
  simp only [doCascContribSend, hc]
  rw [← ht, if_neg (by simp [hd, hm, hstop, hnone])]

/-- Settles O46. Each command runs its branch: a guard that leaves the state, or the work of the tick. -/
theorem audioTicks : Obligations.AudioTicks := by
  unfold Obligations.AudioTicks
  refine ⟨⟨fun s leg l b hwf hl => ⟨fun h => ?noDecode, fun hfeeds htick hstop => ⟨fun j hj hrun => ?quiet, fun j u hj hrun hcov hconceal hinband hu => ?block⟩⟩,
      fun s leg l hleg hl => ⟨fun h => ?loudReset, fun t ht hlt => ?loudKept, fun hfeeds => ?noAnchor,
        fun later by_ hfeeds hmove => ⟨fun h => ?shift, fun hvad hby => ?wait⟩⟩⟩,
    fun s id c hid hc => ⟨fun h => ?noMix, fun u v hmix htick hstop hev hu hv => ?mix⟩,
    fun s leg n l hwf hl => ⟨fun h => ?noEncode, fun hhears hkind hat hstart hstop hhear => ⟨fun hlive hssrc hdtx => ?send, fun hstate => ?unsent⟩⟩,
    fun s id c hid hc => ⟨fun h => ?noCasc, fun t bs u hd hm hstop ht hfresh hbs hu => ?contribs⟩⟩
  case noDecode =>
    refine exec_eq_next rfl hwf ?_
    rcases h with h | h <;> simp [doAudioDecode, hl, h]
  case quiet =>
    subst hj
    exact exec_eq_next rfl hwf (by simp [doAudioDecode, hl, hfeeds, htick, hstop, hrun, modIn_eq hl])
  case block =>
    subst hj hu
    exact exec_eq_next rfl hwf (by simp [doAudioDecode, hl, hfeeds, htick, hstop, hrun, hcov, hconceal, hinband, modIn_eq hl])
  case loudReset =>
    refine exec_eq_next rfl (by simp [Instr.wf, hleg]) ?_
    have hlate : (l.aud.inp.lastPkt.any fun t => decide (s.time.m < t + 60)) = false := by
      rw [Option.any_eq_false]
      exact fun t ht => by simpa using h t ht
    simp only [doLoudnessReset, hl, hlate, Bool.false_eq_true, if_false, modIn_eq hl]
  case loudKept => exact exec_eq_next rfl (by simp [Instr.wf, hleg]) (by simp [doLoudnessReset, hl, ht, hlt])
  case noAnchor => exact exec_eq_next rfl (by simp [Instr.wf, hleg]) (by simp [doJbReanchor, hl, hfeeds])
  case shift =>
    refine nextWith_of rfl (by simp [Instr.wf, hleg]) ?_
    rw [jbReanchor_shift hl hfeeds hmove h]
    exact ⟨_, State.setLeg_leg_same _ _ _, rfl, rfl⟩
  case wait => exact exec_eq_next rfl (by simp [Instr.wf, hleg]) (jbReanchor_wait hl hfeeds hmove hvad hby)
  case noMix =>
    refine exec_eq_next rfl (by simp [Instr.wf, hid]) ?_
    rcases h with h | h <;> simp [doMixRun, hc, h]
  case mix =>
    subst hu hv
    exact exec_eq_next rfl (by simp [Instr.wf, hid]) (by simp [doMixRun, hc, hmix, htick, hstop, hev])
  case noEncode =>
    refine exec_eq_next rfl hwf ?_
    rcases h with h | h | h | h <;> simp [doAudioEncode, hl, h]
  case send =>
    exact nextWith_of rfl hwf (audioEncode_sends hl hhears hkind hat hstart hstop hhear hlive hssrc hdtx)
  case unsent =>
    exact nextWith_of rfl hwf (audioEncode_unsent hl hhears hkind hat hstart hstop hhear hstate)
  case noCasc =>
    refine exec_eq_next rfl (by simp [Instr.wf, hid]) ?_
    simp only [doCascContribSend, hc]
    rw [if_pos (by simp only [h, decide_true, Bool.true_or])]
  case contribs =>
    subst hbs hu
    exact exec_eq_next rfl (by simp [Instr.wf, hid]) (cascContribSend_sends hc hd hm hstop ht hfresh)

end Sys2Proof.Machine

/-! PROOF. Detections (O47): telephone events, tone pairs and howl (R204, R205). -/

namespace Sys2Proof.Machine

/-- A change of the detectors of a leg in use. -/
theorem modDet_congr {s : State} {leg : Nat} {l : Leg} {f g : AudDet → AudDet} (h : s.leg leg = some l) (hfg : f l.aud.det = g l.aud.det) : s.modDet leg f = s.modDet leg g := by
  simp only [State.modDet, modAud_eq h, hfg]

/-- A peak within 25 Hz of the one before goes on with its run. -/
theorem howlAnalysis_same {s : State} {leg : Nat} {l : Leg} {p : HowlPeak} (hl : s.leg leg = some l) (hhowl : l.aud.cfg.howl = true) (hrun : l.aud.inp.jb.running = true)
    (hstop : s.stoppedFlow (.legAudio leg) = false) (hfits : HowlPeak.fits p = true) (h0 : l.aud.det.howlRun ≠ 0) (hhi : p.hz ≤ l.aud.det.howlHz + 25)
    (hlo : l.aud.det.howlHz ≤ p.hz + 25) (hon : l.aud.det.howlOn = false) :
    doHowlAnalysis leg (some p) s = if 15 ≤ l.aud.det.howlRun + 1 then
        ((s.modDet leg fun d => { d with howlRun := l.aud.det.howlRun + 1, howlAbove := p.above, howlQuiet := 0 }).modDet leg fun d => { d with howlOn := true }).howlEvent leg l p.hz p.above true
      else s.modDet leg fun d => { d with howlRun := l.aud.det.howlRun + 1, howlAbove := p.above, howlQuiet := 0 } := by
  have hput : (s.modDet leg fun d => { d with howlRun := l.aud.det.howlRun + 1, howlHz := l.aud.det.howlHz, howlAbove := p.above, howlQuiet := 0 }) =
      s.modDet leg fun d => { d with howlRun := l.aud.det.howlRun + 1, howlAbove := p.above, howlQuiet := 0 } := modDet_congr hl rfl
  have hsame : (decide (p.hz ≤ l.aud.det.howlHz + 25) && decide (l.aud.det.howlHz ≤ p.hz + 25) && decide (l.aud.det.howlRun ≠ 0)) = true := by simp [hhi, hlo, h0]
  simp only [doHowlAnalysis, hl, hhowl, hrun, hstop, Option.filter, hfits, hsame, hon, Bool.not_true, Bool.not_false, Bool.or_false, Bool.true_and, Bool.false_eq_true, if_true, if_false,
    decide_eq_true_eq]

/-- An analysis without a peak ends the run, and the howl at the fiftieth. -/
theorem howlAnalysis_none {s : State} {leg : Nat} {l : Leg} (hl : s.leg leg = some l) (hhowl : l.aud.cfg.howl = true) (hrun : l.aud.inp.jb.running = true)
    (hstop : s.stoppedFlow (.legAudio leg) = false) :
    doHowlAnalysis leg none s = if l.aud.det.howlOn && decide (50 ≤ l.aud.det.howlQuiet + 1) then
        ((s.modDet leg fun d => { d with howlRun := 0, howlQuiet := d.howlQuiet + 1 }).modDet leg fun d => { d with howlOn := false }).howlEvent leg l l.aud.det.howlHz l.aud.det.howlAbove false
      else s.modDet leg fun d => { d with howlRun := 0, howlQuiet := d.howlQuiet + 1 } := by
  simp [doHowlAnalysis, hl, hhowl, hrun, hstop]

/-- Settles O47, by what the detectors hold: an event or a tone that has ended, a run of peaks, a run without one. -/
theorem detections : Obligations.Detections := by
  unfold Obligations.Detections
  refine ⟨fun s leg l hleg hl => ⟨fun t ht => ?tele, fun ht => ?noTele, fun t ht => ?tone, fun ht => ?noTone⟩,
    fun s leg l hleg hl hhowl hrun hstop => ⟨fun p hfits h0 hhi hlo hon => ⟨fun h15 => ?runs, fun h15 => ?starts⟩, fun hon h50 => ?ends, fun hon => ?quiet⟩,
    fun s leg l p hleg hl hhowl => ?off⟩
  case tele => exact exec_eq_next rfl (by simp [Instr.wf, hleg]) (by simp only [doDtmfDigitEnd, hl, ht, if_true])
  case noTele => exact exec_eq_next rfl (by simp [Instr.wf, hleg]) (by simp only [doDtmfDigitEnd, hl, ht, if_true])
  case tone => exact exec_eq_next rfl (by simp [Instr.wf, hleg]) (by simp only [doDtmfDigitEnd, hl, ht, Bool.false_eq_true, if_false])
  case noTone => exact exec_eq_next rfl (by simp [Instr.wf, hleg]) (by simp only [doDtmfDigitEnd, hl, ht, Bool.false_eq_true, if_false])
  case runs =>
    exact exec_eq_next rfl (by simp [Instr.wf, hleg]) ((howlAnalysis_same hl hhowl hrun hstop hfits h0 hhi hlo hon).trans (if_neg (Nat.not_le.mpr h15)))
  case starts =>
    exact exec_eq_next rfl (by simp [Instr.wf, hleg]) ((howlAnalysis_same hl hhowl hrun hstop hfits h0 hhi hlo hon).trans (if_pos h15))
  case ends => exact exec_eq_next rfl (by simp [Instr.wf, hleg]) ((howlAnalysis_none hl hhowl hrun hstop).trans (if_pos (by simp [hon, h50])))
  case quiet => exact exec_eq_next rfl (by simp [Instr.wf, hleg]) ((howlAnalysis_none hl hhowl hrun hstop).trans (if_neg (by simp [hon])))
  case off => exact exec_eq_next rfl (by simp [Instr.wf, hleg]) (by simp [doHowlAnalysis, hl, hhowl])

end Sys2Proof.Machine

/-! PROOF. The DSP cores (O48): bundles, faults and interrupts, and the switch between DUAL and SPLIT (R288 to R300). -/

namespace Sys2Proof.Machine

/-- A write of a register leaves what is in flight. -/
theorem coreWrite_flights (c : Core) (r : DReg) (v : Nat) : (c.write r v).flights = c.flights ∧ (c.write r v).accFlights = c.accFlights := by
  cases r <;> exact ⟨rfl, rfl⟩

/-- Once every result has landed nothing is in flight. -/
theorem landAll_flights (c : Core) : c.landAll.flights = [] ∧ c.landAll.accFlights = [] := by
  have hland : ∀ (fs : List Flight) (k : Core), (fs.foldl Core.land k).flights = k.flights ∧ (fs.foldl Core.land k).accFlights = k.accFlights := by
    intro fs
    induction fs with
    | nil => exact fun k => ⟨rfl, rfl⟩
    | cons f fs ih =>
      intro k
      obtain ⟨hf, ha⟩ := ih (k.land f)
      obtain ⟨hf', ha'⟩ := coreWrite_flights k f.dst (putBits (k.read f.dst) f.lo f.n f.val)
      exact ⟨hf.trans hf', ha.trans ha'⟩
  have hacc : ∀ (fs : List AccFlight) (k : Core), (fs.foldl Core.landAcc k).flights = k.flights ∧ (fs.foldl Core.landAcc k).accFlights = k.accFlights := by
    intro fs
    induction fs with
    | nil => exact fun k => ⟨rfl, rfl⟩
    | cons f fs ih => exact fun k => ih (k.landAcc f)
  obtain ⟨hf, ha⟩ := hland c.flights { c with flights := [], accFlights := [] }
  obtain ⟨hf', ha'⟩ := hacc c.accFlights (c.flights.foldl Core.land { c with flights := [], accFlights := [] })
  exact ⟨hf'.trans hf, ha'.trans ha⟩

/-- Taking an interrupt clears IE: what is added to the depth IL is even. -/
theorem interrupt_ie (c : Core) (handler : Nat) : (c.interrupt handler).ie = false := by
  simp only [Core.ie, Core.interrupt, hasBit, withBit, b2n]
  simp
  omega

/-- Taking an interrupt sets PRIV: the depth IL stays within its two bits. -/
theorem interrupt_priv (c : Core) (handler : Nat) : (c.interrupt handler).priv = true := by
  simp only [Core.priv, Core.interrupt, hasBit, withBit, b2n]
  simp
  omega

/-- Settles O48, by the branches of each command; the state of an interrupted core follows from what its hardware writes. -/
theorem coreExecution : Obligations.CoreExecution := by
  unfold Obligations.CoreExecution
  refine ⟨fun s core b c k stall free hwf hc hpd hpend hfree => ⟨fun h => ?issued, fun h => ?faults⟩,
    fun s core handler kind c hwf hc hpd => ⟨fun h => ?taken, fun h => ?notTaken⟩,
    fun c handler => ⟨rfl, rfl, rfl, interrupt_ie c handler, interrupt_priv c handler, landAll_flights c⟩,
    fun s cl r hcl hr hpd => ⟨fun t hsplit hlow ht => ?toSplit, fun hsplit hmv ht => ?toDual, fun hsplit h => ?stays⟩⟩
  case issued =>
    subst hc hfree
    have hrail : State.rail { s with fresh := s.fresh + 6 } (core / 4) = s.rail (core / 4) := rfl
    exact exec_eq_next rfl hwf (by simp only [doCoreBundle, hpd, hpend, hrail, h, Bool.not_true, Bool.or_false, Bool.false_eq_true, if_false])
  case faults =>
    subst hc hfree
    have hrail : State.rail { s with fresh := s.fresh + 6 } (core / 4) = s.rail (core / 4) := rfl
    exact exec_eq_next rfl hwf (by simp only [doCoreBundle, hpd, hpend, hrail, h, Bool.not_true, Bool.or_false, Bool.false_eq_true, if_false])
  case taken =>
    subst hc
    refine exec_eq_next rfl hwf (if_pos ?_)
    rcases h with ⟨hpend, hkind⟩ | ⟨hpend, hkind, hie, hbranch⟩
    · simp [-List.contains_eq_mem, hpd, hpend, hkind]
    · simp [-List.contains_eq_mem, hpd, hpend, hkind, hie, hbranch]
  case notTaken =>
    subst hc
    refine exec_eq_next rfl hwf (if_neg ?_)
    rcases h with ⟨hpend, hkind⟩ | ⟨hpend, hkind | hie | hbranch⟩
    · simp [hpend, hkind]
    · simp [hpend, hkind]
    · simp [hpend, hie]
    · simp [hpend, hbranch]
  case toSplit =>
    subst hr
    exact exec_eq_next rfl (by simp [Instr.wf, hcl]) (by simp [-List.contains_eq_mem, doDmodeSwitch, hpd, hsplit, hlow, ht])
  case toDual =>
    subst hr
    exact exec_eq_next rfl (by simp [Instr.wf, hcl]) (by simp [-List.contains_eq_mem, doDmodeSwitch, hpd, hsplit, Nat.not_lt.mpr hmv, Nat.not_lt.mpr ht])
  case stays =>
    subst hr
    refine exec_eq_next rfl (by simp [Instr.wf, hcl]) ?_
    rcases h with h | h <;> simp [doDmodeSwitch, hsplit, h]

end Sys2Proof.Machine

/-! PROOF. The video commands (O51): VID.DECODE, VID.ENCODE and VID.KEYREQ (R237 to R239, R252 to R254). -/

namespace Sys2Proof.Machine

theorem tenantObj_pass {s : State} {issuer t : Nat} (hmay : s.mayTouch issuer t = true) : tenantObj s issuer (some t) = (false, eTenant, 2) := by
  simp [tenantObj, hmay]

/-- A buffer that was read, without error, passes. -/
theorem bufChecks_pass {buf : BufRead} (hread : buf ≠ .unreachable) (hmem : buf ≠ .memError) : ∀ x ∈ bufChecks buf, x.1 = false := by
  simp [bufChecks, hread, hmem]

/-- A decode job in use follows the branch of OP. -/
theorem vidDec_checks {c : Ctx} {op n : Nat} (hop : c.f 1 0 2 = op) (hn : [4, 2, 1, 1].getD op 0 = n) (hlen : c.len = n) (hr : c.f 1 22 10 = 0) :
    ∀ x ∈ [badLen c ([4, 2, 1, 1].getD (c.f 1 0 2) 0), reserved c 1 22 10], x.1 = false := by
  rw [hop, hn]
  simp [badLen, reserved, hlen, hr]

/-- VID.ENCODE passes its common checks with the length of its OP. -/
theorem vidEnc_checks {c : Ctx} {op : Nat} (hop : c.f 1 0 3 = op) (h5 : op ≤ 5) (hr : c.f 1 22 10 = 0)
    (hlen : (if op = 0 then c.len == 7 || c.len == 10 else c.len == [0, 4, 1, 1, 5, 2].getD op 0) = true) :
    ∀ x ∈ [badArg (decide (5 < c.f 1 0 3)) 1, (!(if c.f 1 0 3 = 0 then c.len == 7 || c.len == 10 else c.len == [0, 4, 1, 1, 5, 2].getD (c.f 1 0 3) 0), eBadarg, 0x8001), reserved c 1 22 10],
      x.1 = false := by
  rw [hop, hlen]
  simp [badArg, reserved, hr, Nat.not_lt.mpr h5]

/-- Settles O51. Each command passes its checks and follows the branch of its OP. -/
theorem videoCommands : Obligations.VideoCommands := by
  unfold Obligations.VideoCommands
  refine ⟨⟨fun s t c rest leg l tr job id h hlen hr hop hleg hl hmay hgen htr hmedia hrecv hc8 hc11 hjob hp hds hdt h31 hw1 hw2 hh1 hh2 hf1 hf2 h47 hv h416 hover hgroup hfree hbytes hflow => ?decCreate,
      fun s c rest id j h hr hid hj => ⟨fun hop hlen hmay hp hds hdt h0 h16 h31 hv => ?decModify, fun hop hlen hmay => ⟨fun hused => ?decRemove, fun hused => ?decUsed⟩, fun hop hlen hmay => ?decStatus⟩⟩,
    fun s t c rest buf e form tenant id job h hop hr hlen he hform htenant hmay hp hc8 hc11 hprof hmode hav1 h225 h213 hfps hweven hheven hw1 hw2 hh1 hh2 hscale hf1 hf2 h412 hkey h526 h624 hpk1 hpk2 h714 hring
        hover hgroup hfree hjob hflow => ?encCreate,
      fun s c rest buf id j h hr hid hj hmay => ⟨fun hop hlen hp h212 hkey h326 h424 hatt => ?encModify, fun hop hlen => ?encRemove, fun hop hlen => ?encStatus,
        fun leg k sel l x t hop hlen hleg hk hsel hl hmayL hgen hx h526 h57 h515 hsel3 hsend hprio hssrc hrekey hslot hroom hflow => ?attach,
        fun leg k l v hop hlen hleg hk hl hmayL hgen hv hof => ?detach⟩,
    fun s t c rest id j k es h hr hid hj hmay hsel hes ht hk => ?keyreq⟩
  case decCreate =>
    subst hleg hjob
    dsimp only at hp hds hdt hw1 hw2 hh1 hh2 hf1 hf2 hv
    refine answers_of_checks h rfl rfl (vidDec_checks hop rfl hlen hr) ?_
    rw [if_pos hop]
    have hfree' : firstFree (s.popped c rest).decJobs 0 3072 = some id := hfree
    have hl' : (s.popped c rest).leg (c.f 2 0 16) = some l := hl
    simp only [vidDecCreate, hl', hfree', Option.bind_some, htr, Option.map_some, Option.getD_some]
    refine (checks_pass (append_passes (append_passes ?_ (legObj_passes hl hmay hgen)) ?_)).trans (withFlows_ok hflow)
    · simp [badArg, legUsed, hl, hp, hds, hdt, h31, h47, h416, Nat.not_lt.mpr hw1, Nat.not_lt.mpr hw2, Nat.not_lt.mpr hh1, Nat.not_lt.mpr hh2, Nat.not_lt.mpr hf2, Nat.not_lt.mpr hv,
        show c.f 4 0 7 ≠ 0 by omega]
    · have hover' : (overLevel (s.popped c rest) (c.f 1 16 6) tr.codec (c.f 3 0 16) (c.f 3 16 16)).1 = false := hover
      have hgroup' : (badGroup (s.popped c rest) (c.f 1 16 6)).1 = false := hgroup
      have hbytes' : (s.popped c rest).videoBytes + decJobBytes tr.codec (c.f 3 0 16) (c.f 3 16 16) ≤ (s.popped c rest).regionSize 2 := hbytes
      simp [hmedia, hrecv, hover', hgroup', hbytes', Nat.not_lt.mpr hc8, Nat.not_lt.mpr hc11]
  case decModify =>
    subst hid
    refine answers_of_checks h rfl rfl (vidDec_checks hop rfl hlen hr) ?_
    have hj' : tget (s.popped c rest).decJobs (c.f 1 4 12) = some j := hj
    simp only [hop, hj', vidDecModify]
    exact checks_pass (by simp [badArg, tenantObj_pass (s := s.popped c rest) hmay, hp, hds, hdt, h0, h16, h31, Nat.not_lt.mpr hv])
  case decRemove =>
    subst hid
    refine answers_of_checks h rfl rfl (vidDec_checks hop rfl hlen hr) ?_
    have hj' : tget (s.popped c rest).decJobs (c.f 1 4 12) = some j := hj
    have hused' : (s.popped c rest).producerUsed 1 (c.f 1 4 12) = false := hused
    simp only [hop, hj']
    exact checks_pass (by simp [tenantObj_pass (s := s.popped c rest) hmay, hused'])
  case decUsed =>
    subst hid
    refine answers_of_fail h rfl ((checks_pass (vidDec_checks hop rfl hlen hr)).trans ?_)
    have hj' : tget (s.popped c rest).decJobs (c.f 1 4 12) = some j := hj
    have hused' : (s.popped c rest).producerUsed 1 (c.f 1 4 12) = true := hused
    simp only [hop, hj']
    simp [checks_cons, tenantObj_pass (s := s.popped c rest) hmay, hused']
  case decStatus =>
    subst hid
    refine answers_of_checks h rfl rfl (vidDec_checks hop rfl hlen hr) ?_
    have hj' : tget (s.popped c rest).decJobs (c.f 1 4 12) = some j := hj
    simp only [hop, hj']
    exact checks_pass (by simp [tenantObj_pass (s := s.popped c rest) hmay])
  case encCreate =>
    subst he hform hjob
    refine answers_of_checks h rfl rfl (vidEnc_checks hop (by decide) hr (by rw [hlen]; cases c.bit 2 24 <;> rfl)) ?_
    rw [if_pos hop]
    have hfree' : firstFree (s.popped c rest).encJobs 0 1536 = some id := hfree
    have htenant' : (s.popped c rest).sourceTenant (encCfgOf c).srcKind (encCfgOf c).src = some tenant := htenant
    simp only [vidEncCreate, hfree', htenant', Option.getD_some]
    refine (checks_pass (append_passes (append_passes (append_passes ?_ ?_) ?_) ?_)).trans (withFlows_ok hflow)
    · have hform' : (s.popped c rest).sourceForm (encCfgOf c).srcKind (encCfgOf c).src = s.sourceForm (encCfgOf c).srcKind (encCfgOf c).src := rfl
      simp [badLen, badArg, reserved, hlen, hp, hform', hfps, hscale, h225, h213, hweven, hheven, h412, hkey, h526, h624, h714, Nat.not_lt.mpr hc8, Nat.not_lt.mpr hc11, Nat.not_lt.mpr hmode,
        Nat.not_lt.mpr hw1, Nat.not_lt.mpr hw2, Nat.not_lt.mpr hh1, Nat.not_lt.mpr hh2, Nat.not_lt.mpr hf2, Nat.not_lt.mpr hpk1, Nat.not_lt.mpr hpk2, show (encCfgOf c).fps ≠ 0 by omega]
      exact ⟨hprof, hav1⟩
    · cases hb : c.bit 2 24 with
      | false => simp
      | true =>
        obtain ⟨hdesc, hsize, -, -⟩ := hring hb
        exact append_passes hdesc (by simp [Nat.not_lt.mpr hsize])
    · have hover' : (overLevel (s.popped c rest) (c.f 1 16 6) (encCfgOf c).codec (encCfgOf c).outW (encCfgOf c).outH).1 = false := hover
      have hgroup' : (badGroup (s.popped c rest) (c.f 1 16 6)).1 = false := hgroup
      simp [tenantObj_pass (s := s.popped c rest) hmay, hover', hgroup']
    · cases hb : c.bit 2 24 with
      | false => simp
      | true =>
        obtain ⟨-, -, hread, hmem⟩ := hring hb
        exact bufChecks_pass hread hmem
  case encModify =>
    subst hid
    refine answers_of_checks h rfl rfl (vidEnc_checks hop (by decide) hr (by simp [hlen])) ?_
    have hj' : tget (s.popped c rest).encJobs (c.f 1 5 11) = some j := hj
    simp only [hop, hj', vidEncModify]
    refine checks_pass ?_
    by_cases h0 : c.f 1 3 2 = 0
    · simp [badArg, reserved, tenantObj_pass (s := s.popped c rest) hmay, h212, hkey, h326, h424, h0]
      simpa using hatt h0
    · simp [badArg, reserved, tenantObj_pass (s := s.popped c rest) hmay, hp, h212, hkey, h326, h424, h0]
  case encRemove =>
    subst hid
    refine answers_of_checks h rfl rfl (vidEnc_checks hop (by decide) hr (by simp [hlen])) ?_
    have hj' : tget (s.popped c rest).encJobs (c.f 1 5 11) = some j := hj
    simp only [hop, hj']
    exact checks_pass (by simp [tenantObj_pass (s := s.popped c rest) hmay])
  case encStatus =>
    subst hid
    refine answers_of_checks h rfl rfl (vidEnc_checks hop (by decide) hr (by simp [hlen])) ?_
    have hj' : tget (s.popped c rest).encJobs (c.f 1 5 11) = some j := hj
    simp only [hop, hj']
    exact checks_pass (by simp [tenantObj_pass (s := s.popped c rest) hmay])
  case attach =>
    subst hid hleg hk hsel hx
    refine answers_of_checks h rfl rfl (vidEnc_checks hop (by decide) hr (by simp [hlen])) ?_
    have hj' : tget (s.popped c rest).encJobs (c.f 1 5 11) = some j := hj
    have hl' : (s.popped c rest).leg (c.f 2 0 16) = some l := hl
    have hroom' : ¬1048576 ≤ (s.popped c rest).subscriptions := Nat.not_le.mpr hroom
    simp only [hop, hj', vidEncAttach, hl', Option.bind_some, hslot]
    rw [if_neg hroom']
    refine (checks_pass (append_passes (append_passes ?_ (legObj_passes hl hmayL hgen)) ?_)).trans (withFlows_ok hflow)
    · have hsel' : c.f 5 24 2 ≠ 3 → c.f 5 24 2 < j.encs.length := fun hne => hsel3.resolve_left hne
      simpa [badArg, legUsed, hl, tenantObj_pass (s := s.popped c rest) hmay, h526, h57, h515] using hsel'
    · simpa [hsend, hprio, hrekey] using hssrc
  case detach =>
    subst hid hleg hk
    refine answers_of_checks h rfl rfl (vidEnc_checks hop (by decide) hr (by simp [hlen])) ?_
    have hj' : tget (s.popped c rest).encJobs (c.f 1 5 11) = some j := hj
    have hl' : (s.popped c rest).leg (c.f 2 0 16) = some l := hl
    simp only [hop, hj', vidEncDetach, hl', Option.bind_some, hv]
    refine checks_pass (append_passes (append_passes ?_ (legObj_passes hl hmayL hgen)) ?_)
    · simp [badArg, legUsed, hl, tenantObj_pass (s := s.popped c rest) hmay]
    · simp [hof]
  case keyreq =>
    subst hid
    have hj' : tget (s.popped c rest).encJobs (c.f 1 0 11) = some j := hj
    subst hes ht
    refine answers_of_done h rfl ?_
    simp only [hj', Option.map_some, Option.getD_some, hk]
    refine checks_pass ?_
    have hsel' : c.f 1 11 2 ≠ 3 → c.f 1 11 2 < j.encs.length := fun hne => hsel.resolve_left hne
    simpa [badArg, reserved, hr, tenantObj_pass (s := s.popped c rest) hmay] using hsel'

end Sys2Proof.Machine

/-! PROOF. Video frames (O52): submission and completion of decode frames, start and completion of encode frames (R225, R233 to R246). -/

namespace Sys2Proof.Machine

/-- The next frame of a job with its packets, where it is due or not. -/
theorem decodeFrameSubmit_next {s : State} {job c : Nat} {isRef : Bool} {j : DecJob} {f : DecFrame} {later : List DecFrame} (hj : tget s.decJobs job = some j)
    (hc : s.engineOf (.decode job) = some c) (hf : j.frames.dropWhile (fun f => f.submitted) = f :: later) :
    doDecodeFrameSubmit job isRef s = if j.due f later s.time.m then
        ((((s.dropFrames job j).modDec job fun j => { j with lastSubmitted := some f.ts }).modFrame job f.ts fun f => { f with submitted := true, isRef := isRef }).modEngine c
          fun e => { e with decWait := e.decWait ++ [(job, f.ts)] }).decNext c
      else s := by
  simp only [doDecodeFrameSubmit, hj, hc, hf]
  cases j.due f later s.time.m <;> rfl

/-- The frame that the decoder runs leaves its job and its engine, decoded or refused. -/
theorem decodeFrameComplete_run {s u : State} {job c ts : Nat} {pic : DecodedPic} {j : DecJob} {f : DecFrame} (hj : tget s.decJobs job = some j)
    (hc : s.engineOf (.decode job) = some c) (hrun : (s.engine c).decRun = some (job, ts)) (hf : (j.frames.find? fun f => f.ts == ts) = some f)
    (hu : j.limit (s.placeSize c == 4) pic = none ∧ u = s.decDone job j f (s.placeSize c) pic ∨ ∃ cause, j.limit (s.placeSize c == 4) pic = some cause ∧ u = s.decRefused job f pic cause) :
    doDecodeFrameComplete job pic s =
      ((u.modDec job fun j => { j with frames := j.frames.filter fun g => g.ts ≠ f.ts }).modEngine c fun e => { e with decRun := none }).decNext c := by
  rcases hu with ⟨hlimit, hu⟩ | ⟨cause, hlimit, hu⟩
  · simp only [doDecodeFrameComplete, hj, hc, hrun, hf, hlimit, hu, ne_eq, not_true_eq_false, if_false]
  · simp only [doDecodeFrameComplete, hj, hc, hrun, hf, hlimit, hu, ne_eq, not_true_eq_false, if_false]

section
variable {s u : State} {job enc header c : Nat} {j0 j : EncJob} {e : Encoding} {pic : Nat × (Nat × Nat) × Bool} {key base : Bool} {t : Nat} {b : Option Nat}

/-- A ready frame that may be coded goes, or is dropped, by its budget. -/
theorem encodeFrameStart_ready (hj0 : tget s.encJobs job = some j0) (hu : u = s.transcodeReady job enc j0) (hj : tget u.encJobs job = some j)
    (hc : u.engineOf (.encode job) = some c) (he : j.encs[enc]? = some e) (hpic : u.picture j.cfg e.ready = some pic) (hready : e.ready ≠ none) (hrunning : e.running = false)
    (hdegrade : j.degrade ≠ 2) (hkey : key = (e.keyDue j.cfg.keyIv u.time.m || e.resized pic.2.1 j.cfg enc)) (ht : t = (if key then 0 else layerAt j.cfg.mode e.sinceKey))
    (hcap : capSkips u.power.applied j.prio j.cfg.mode enc t e.capAlt = false) (hskip : degradeSkips j.degrade enc t = false)
    (hbase : base = (j.degrade == 1 || (j.prio == 1 && u.power.applied.contains 3)))
    (hb : b = frameBudget (u.rateOf job j.cfg) j.cfg.frameCap (e.drained (u.rateOf job j.cfg) u.time.m)) :
    ((∃ v, b = some v ∧ v < header + ((rowCosts j.cfg.codec key (j.cfg.layers enc pic.2.1 base)).map (·.sum)).sum) → doEncodeFrameStart job enc header s = u.encDrop job enc key false) ∧
    (∀ r i, (∀ v, b = some v → header + ((rowCosts j.cfg.codec key (j.cfg.layers enc pic.2.1 base)).map (·.sum)).sum ≤ v) → (u.engine c).encBest = some r → r.is job enc = true →
      (u.engine c).pipeFor j.prio = some i → doEncodeFrameStart job enc header s = u.encGo job enc c i r header key base t b pic) := by
  have hget : (j.encs.getD enc {}).ready = e.ready := by rw [List.getD_eq_getElem?_getD, he, Option.getD_some]
  have hgo : ¬(e.ready.isNone || e.running || decide (j.degrade = 2)) = true := by simp [hready, hrunning, hdegrade]
  simp only [doEncodeFrameStart, hj0, ← hu, hj, hc, he, hget, hpic]
  rw [if_neg hgo]
  subst hbase hb ht hkey
  rw [if_neg (ne_true_of_eq_false hcap), if_neg (ne_true_of_eq_false hskip)]
  refine ⟨fun ⟨v, hv, hlt⟩ => if_pos (by rw [hv]; simpa using hlt), fun r i hroom hbest hr hpipe => ?_⟩
  rw [if_neg, hbest, hpipe]
  · exact if_pos hr
  · rw [Option.any_eq_true]
    rintro ⟨v, hv, hlt⟩
    exact absurd (of_decide_eq_true hlt) (Nat.not_lt.mpr (hroom v hv))

end

/-- Settles O52, by what each command finds: the next frame of a job and whether it is due, the frame that the decoder runs, a ready frame and its budget, the frame on a pipe. -/
theorem videoFrames : Obligations.VideoFrames := by
  unfold Obligations.VideoFrames
  refine ⟨fun s job c j hjob hj hc => ⟨fun isRef f later hf => ⟨fun hdue => ?due, fun hdue => ?notDue⟩, fun pic ts f u hrun hf hu => ?complete⟩,
    fun s u job enc header c j0 j e pic key base t b hjob henc hj0 hu hj hc he hpic hready hrunning hdegrade hkey ht hcap hskip hbase hb => ⟨fun v hv hlt => ?skipped, fun r i hroom hbest hr hpipe => ?started⟩,
    fun s job enc recRd c i rows j e hjob henc hj hc he hi hrunning hdone => ?coded⟩
  case due => exact exec_eq_next rfl (by simp [Instr.wf, hjob]) ((decodeFrameSubmit_next hj hc hf).trans (if_pos hdue))
  case notDue => exact exec_eq_next rfl (by simp [Instr.wf, hjob]) ((decodeFrameSubmit_next hj hc hf).trans (if_neg (by simp [hdue])))
  case complete => exact exec_eq_next rfl (by simp [Instr.wf, hjob]) (decodeFrameComplete_run hj hc hrun hf hu)
  case skipped =>
    exact exec_eq_next rfl (by simp [Instr.wf, hjob, henc])
      ((encodeFrameStart_ready hj0 hu hj hc he hpic hready hrunning hdegrade hkey ht hcap hskip hbase hb).1 ⟨v, hv, hlt⟩)
  case started =>
    exact exec_eq_next rfl (by simp [Instr.wf, hjob, henc])
      ((encodeFrameStart_ready hj0 hu hj hc he hpic hready hrunning hdegrade hkey ht hcap hskip hbase hb).2 r i hroom hbest hr hpipe)
  case coded =>
    exact exec_eq_next rfl (by simp [Instr.wf, hjob, henc]) (by simp [doEncodeFrameComplete, hj, hc, he, hi, hrunning, hdone])

end Sys2Proof.Machine

/-! PROOF. The layout commands (O53): LAY.CANVAS, LAY.LAYER, LAY.ORDER and LAY.LUT (R275 to R278). -/

namespace Sys2Proof.Machine

/-- The tenant of a layer's source, where that exists. -/
theorem layerTenant_eq {s : State} {v : Canvas} {kind tenant : Nat} {src : LaySrc} (hdec : kind = 1 → ∃ j, tget s.decJobs src.src = some j ∧ j.tenant = tenant)
    (hcanvas : kind = 2 → ∃ w, tget s.canvases src.src = some w ∧ w.tenant = tenant) (hv : tenant = v.tenant) :
    (if kind = 1 then (tget s.decJobs src.src).map (·.tenant) else if kind = 2 then (tget s.canvases src.src).map (·.tenant) else some v.tenant) = some v.tenant := by
  by_cases h1 : kind = 1
  · obtain ⟨j, hj, htenant⟩ := hdec h1
    rw [if_pos h1, hj, Option.map_some, htenant, hv]
  · by_cases h2 : kind = 2
    · obtain ⟨w, hw, htenant⟩ := hcanvas h2
      rw [if_neg h1, if_pos h2, hw, Option.map_some, htenant, hv]
    · rw [if_neg h1, if_neg h2]

/-- A crop that its layer's size can be scaled to passes; a fill has none. -/
theorem layerRatio_pass {kind : Nat} {g : LayGeo} (h : kind ≠ 0 → (g.sw = 0 ∨ ratioOk g.dw g.sw = true) ∧ (g.sh = 0 ∨ ratioOk g.dh g.sh = true)) :
    (decide (kind ≠ 0) && ((decide (g.sw ≠ 0) && !ratioOk g.dw g.sw) || (decide (g.sh ≠ 0) && !ratioOk g.dh g.sh))) = false := by
  by_cases h0 : kind = 0
  · simp [h0]
  · obtain ⟨hx, hy⟩ := h h0
    rcases hx with hx | hx <;> rcases hy with hy | hy <;> simp [hx, hy]

/-- A still image has a descriptor and a size. -/
theorem stillSize_pass {kind len : Nat} {g : LayGeo} (h : kind = 3 → g.sw ≠ 0 ∧ g.sh ≠ 0) (hlen : len = if kind = 3 then 10 else 7) :
    (kind == 3 && (len == 7 || g.sw == 0 || g.sh == 0)) = false := by
  by_cases hk : kind = 3
  · obtain ⟨hsw, hsh⟩ := h hk
    simp [hk, hlen, hsw, hsh]
  · simp [hk]

/-- Settles O53. Each command passes its checks and follows the branch of its OP. -/
theorem layoutCommands : Obligations.LayoutCommands := by
  unfold Obligations.LayoutCommands
  refine ⟨fun s t c rest buf fresh cv q id h hop hlen hfresh hq hcv h135 h119 hweven hheven hw1 hw2 hh1 hh2 hf1 hf2 h311 hn1 hn2 hs1 hs2 h424 h512 hfull hregion hid hflow => ?create,
    fun s c rest buf id v h hid hv h135 h119 hmay => ⟨fun hop hlen h211 hsw h324 => ?modify, fun hop hlen => ⟨fun hused henc => ?remove, fun hused => ?used⟩, fun hop hlen => ?status⟩,
    fun s c rest buf tenant x h hop hlen htenant hmay hx hdesc hsize hread hmem => ?snapshot,
    fun s c rest buf id n v h hid hn hv hmay =>
      ⟨fun kind tenant src g image l u t hop hkind h3 hlen hsrc hg hdec hcanvas htenant hstill h25 h228 hodd h724 hratio hbuf hself himage hl hu hfull hregion hflow => ?set,
        fun hop hlen => ?removeLayer, fun l hop hlen hl => ?readLayer⟩,
    fun s c rest id v h hid hv hmay hlen hmode hfault => ?order,
    fun s c rest buf id v l h hid hv hmay => ⟨fun hreset hlen => ?lutReset, fun hreset hlen hdesc hsize hread hmem hl hrange => ?lutSet⟩⟩
  case create =>
    have hsel : (if c.f 1 16 3 = 7 then ((s.popped c rest).chooseComposer 192 fresh none).getD 0 else c.f 1 16 3) = q ∧ (4 ≤ c.f 1 16 3 → c.f 1 16 3 = 7) := by
      rcases hq with ⟨hlt, hq⟩ | ⟨h7, hq⟩
      · exact ⟨by rw [if_neg (by omega), hq], fun h4 => absurd h4 (Nat.not_le.mpr hlt)⟩
      · exact ⟨by rw [if_pos h7, hq, Option.getD_some], fun _ => h7⟩
    obtain ⟨hcomposer, hany⟩ := hsel
    have hsurf : c.f 3 7 4 ≠ 0 → 3 ≤ c.f 3 7 4 ∧ c.f 3 7 4 ≤ 8 := by
      intro hne
      have hn : cv.nsurf = c.f 3 7 4 := by rw [hcv, hfresh]; exact if_neg hne
      exact hn ▸ ⟨hn1, hn2⟩
    have hswitch : c.f 3 16 16 ≠ 0 → 100 ≤ c.f 3 16 16 ∧ c.f 3 16 16 ≤ 10000 := by
      intro hne
      have hs : cv.switchMax = c.f 3 16 16 := by rw [hcv, hfresh]; exact if_neg hne
      exact hs ▸ ⟨hs1, hs2⟩
    refine answers_of_checks h rfl rfl (by simp [badArg, badLen, hop, hlen]) ?_
    simp only [hop, layCreate, popped_acc_tenantOf]
    have hput := hcv
    rw [hfresh] at hput
    dsimp only at hput
    rw [← hfresh, hcomposer, ← hput, hid]
    refine (checks_pass (append_passes (append_passes ?_ hfull) (List.forall_mem_cons.mpr ⟨rfl, List.forall_mem_singleton.mpr hregion⟩))).trans (withFlows_ok hflow)
    have hdims : cv.w = c.f 2 0 16 ∧ cv.h = c.f 2 16 16 ∧ cv.fps = c.f 3 0 6 := by rw [hcv, hfresh]; exact ⟨rfl, rfl, rfl⟩
    obtain ⟨hw, hh, hfps⟩ := hdims
    rw [hw] at hweven hw1 hw2
    rw [hh] at hheven hh1 hh2
    rw [hfps] at hf1 hf2
    simp [badArg, reserved, h135, h119, hweven, hheven, h311, h424, h512, Nat.not_lt.mpr hw1, Nat.not_lt.mpr hw2, Nat.not_lt.mpr hh1, Nat.not_lt.mpr hh2, Nat.not_lt.mpr hf2,
      show c.f 3 0 6 ≠ 0 by omega]
    exact ⟨hany, hsurf, hswitch⟩
  case modify =>
    subst hid
    have hv' : tget (s.popped c rest).canvases (c.f 1 8 8) = some v := hv
    refine answers_of_checks h rfl rfl (by simp [badArg, badLen, hop, hlen]) ?_
    simp only [hop, hv', layModify]
    refine (checks_pass (by simp [badArg, h135, h119])).trans (checks_pass ?_)
    have hsw' : c.f 2 16 16 ≠ 0 → 100 ≤ c.f 2 16 16 ∧ c.f 2 16 16 ≤ 10000 := hsw.resolve_left
    simpa [badArg, reserved, h211, h324, tenantObj_pass (s := s.popped c rest) hmay] using hsw'
  case remove =>
    subst hid
    have hv' : tget (s.popped c rest).canvases (c.f 1 8 8) = some v := hv
    have hused' : (s.popped c rest).producerUsed 2 (c.f 1 8 8) = false := hused
    refine answers_of_checks h rfl rfl (by simp [badArg, badLen, hop, hlen]) ?_
    simp only [hop, hv']
    refine (checks_pass (by simp [badArg, h135, h119])).trans (checks_pass ?_)
    have henc' : ∀ e ∈ (s.popped c rest).encJobs, e.2.cfg.srcKind = 0 → e.2.cfg.src ≠ c.f 1 8 8 := henc
    simpa [tenantObj_pass (s := s.popped c rest) hmay, hused'] using henc'
  case used =>
    subst hid
    have hv' : tget (s.popped c rest).canvases (c.f 1 8 8) = some v := hv
    have hused' : (s.popped c rest).producerUsed 2 (c.f 1 8 8) = true := hused
    refine answers_of_fail h rfl ((checks_pass (by simp [badArg, badLen, hop, hlen])).trans ?_)
    simp only [hop, hv']
    refine (checks_pass (by simp [badArg, h135, h119])).trans ?_
    simp [checks_cons, tenantObj_pass (s := s.popped c rest) hmay, hused']
  case status =>
    subst hid
    have hv' : tget (s.popped c rest).canvases (c.f 1 8 8) = some v := hv
    refine answers_of_checks h rfl rfl (by simp [badArg, badLen, hop, hlen]) ?_
    simp only [hop, hv']
    exact (checks_pass (by simp [badArg, h135, h119])).trans (checks_pass (by simp [tenantObj_pass (s := s.popped c rest) hmay]))
  case snapshot =>
    have htenant' : (s.popped c rest).sourceTenant (c.f 2 12 1) (c.f 2 0 12) = some tenant := htenant
    have hx' : (s.popped c rest).newest (encSource (c.f 2 12 1) (c.f 2 0 12)) = some x := hx
    refine answers_of_checks h rfl rfl (by simp [badArg, badLen, hop, hlen]) ?_
    simp only [hop, laySnapshot, htenant', hx', Option.map_some, Option.getD_some]
    refine checks_pass (append_passes (append_passes (append_passes (by simp [badArg]) hdesc) ?_) (bufChecks_pass hread hmem))
    simp [badArg, tenantObj_pass (s := s.popped c rest) hmay, Nat.not_lt.mpr hsize]
  case set =>
    subst hid hn hkind hg
    have hv' : tget (s.popped c rest).canvases (c.f 1 0 8) = some v := hv
    have hid : (if (decide (c.f 2 0 3 = 1) || decide (c.f 2 0 3 = 2)) = true then c.f 2 16 12 else 0) = src.src := by
      rw [hsrc]
      simp only [Bool.or_eq_true, decide_eq_true_eq]
    have hsrc' : (⟨c.f 2 0 3, src.src⟩ : LaySrc) = src := by rw [hsrc]
    have himage' : (if (c.f 2 0 3 == 3) = true then some (stillOf (layGeoOf c) (bufBytes buf (stillLen (layGeoOf c))) (s.popped c rest).tick) else none) = image := by
      rw [himage]
      simp only [beq_iff_eq]
      rfl
    subst hl hu
    refine answers_of_checks h rfl rfl (by by_cases hk : c.f 2 0 3 = 3 <;> simp [badArg, hop, hlen, hk]) ?_
    simp only [hop, hv', laySet]
    rw [hid, layerTenant_eq (s := s.popped c rest) hdec hcanvas htenant, hsrc', himage']
    refine (checks_pass (append_passes (append_passes (append_passes (append_passes (append_passes ?_ ?_) ?_) hfull) (List.forall_mem_singleton.mpr hregion)) ?_)).trans (withFlows_ok hflow)
    · obtain ⟨h3x, h3y⟩ := hodd 3 (by simp)
      obtain ⟨h4x, h4y⟩ := hodd 4 (by simp)
      obtain ⟨h5x, h5y⟩ := hodd 5 (by simp)
      obtain ⟨h6x, h6y⟩ := hodd 6 (by simp)
      have hlen' : badLen c (if (c.f 2 0 3 == 3) = true then 10 else 7) = (false, eBadarg, 0x8001) := by simp [badLen, hlen]
      rw [layerRatio_pass hratio, stillSize_pass hstill hlen, hlen']
      simp [badArg, reserved, Nat.not_lt.mpr h3, h25, h228, h724, h3x, h3y, h4x, h4y, h5x, h5y, h6x, h6y]
    · by_cases hk : c.f 2 0 3 = 3
      · obtain ⟨hdesc, hsize, -, -⟩ := hbuf hk
        rw [if_pos (by simp [hk])]
        exact append_passes hdesc (by simp [descSize, hsize])
      · simp [hk]
    · have hne : (src == ⟨2, c.f 1 0 8⟩) = false := by simpa using hself
      simp [tenantObj_pass (s := s.popped c rest) hmay, hne]
    · by_cases hk : c.f 2 0 3 = 3
      · obtain ⟨-, -, hread, hmem⟩ := hbuf hk
        rw [if_pos (by simp [hk])]
        exact bufChecks_pass hread hmem
      · simp [hk]
  case removeLayer =>
    subst hid hn
    have hv' : tget (s.popped c rest).canvases (c.f 1 0 8) = some v := hv
    refine answers_of_checks h rfl rfl (by simp [badArg, hop, hlen]) ?_
    simp only [hop, hv']
    exact checks_pass (by simp [tenantObj_pass (s := s.popped c rest) hmay])
  case readLayer =>
    subst hid hn
    have hv' : tget (s.popped c rest).canvases (c.f 1 0 8) = some v := hv
    refine answers_of_checks h rfl rfl (by simp [badArg, hop, hlen]) ?_
    simp only [hop, hv', hl, Option.bind_some, Option.map_some, Option.getD_some]
    exact checks_pass (by simp [tenantObj_pass (s := s.popped c rest) hmay])
  case order =>
    subst hid
    have hv' : tget (s.popped c rest).canvases (c.f 1 0 8) = some v := hv
    refine answers_of_checks h rfl rfl ?_ rfl
    rw [hv', hfault]
    rcases hmode with ⟨h0, hcount⟩ | ⟨h1, hlo, hhi⟩
    · simp [badArg, badLen, hlen, h0, hcount, tenantObj_pass (s := s.popped c rest) hmay]
    · simp [badArg, badLen, hlen, h1, Nat.not_lt.mpr hhi, show c.f 1 9 7 ≠ 0 by omega, tenantObj_pass (s := s.popped c rest) hmay]
  case lutReset =>
    subst hid
    have hv' : tget (s.popped c rest).canvases (c.f 1 0 8) = some v := hv
    refine answers_of_checks h rfl rfl (by simp [badArg, badLen, hreset, hlen, hv]) ?_
    rw [if_pos hreset, hv']
    exact checks_pass (by simp [tenantObj_pass (s := s.popped c rest) hmay])
  case lutSet =>
    subst hid hl
    have hv' : tget (s.popped c rest).canvases (c.f 1 0 8) = some v := hv
    refine answers_of_checks h rfl rfl (by simp [badArg, badLen, hreset, hlen, hv]) ?_
    rw [if_neg (by simp [hreset]), hv']
    refine checks_pass (append_passes (append_passes (append_passes hdesc ?_) (bufChecks_pass hread hmem)) ?_)
    · simp [descSize, hsize, tenantObj_pass (s := s.popped c rest) hmay]
    · simpa [badArg] using hrange

end Sys2Proof.Machine

/-! PROOF. Composition (O54): canvas frames, their bands, and the switch of a layer's source (R260 to R265, R428). -/

namespace Sys2Proof.Machine

/-- Settles O54: a frame is not due, held up, or starts; a pending source is late or not; a band is the last or not. -/
theorem composition : Obligations.Composition := by
  unfold Obligations.Composition
  refine ⟨fun s c v hc hv => ⟨fun hdue => ?notDue, fun hdue hrun hcmp hsurf => ?starts, fun hdue hrun hnone => ?skipped, fun hdue hrun => ?late,
      fun layer t l src g still hlayer hl hpend => ⟨fun hready htime => ?switches, fun h => ?waits⟩⟩,
    fun s cmp id v r hcmp hserv hband => ⟨fun hmore => ?band, fun hlast => ?done⟩⟩
  case notDue => exact exec_eq_next rfl (by simp [Instr.wf, hc]) (by simp [doCanvasFrameStart, hv, hdue])
  case starts => exact exec_eq_next rfl (by simp [Instr.wf, hc]) (by simp [-List.getD_eq_getElem?_getD, doCanvasFrameStart, hv, hdue, hrun, hcmp, hsurf])
  case skipped =>
    refine exec_eq_next rfl (by simp [Instr.wf, hc]) ?_
    rcases hnone with h | h <;> simp [-List.getD_eq_getElem?_getD, doCanvasFrameStart, hv, hdue, hrun, h]
  case late =>
    have hsome : v.run.isSome = true := Option.isSome_iff_ne_none.mpr hrun
    exact exec_eq_next rfl (by simp [Instr.wf, hc]) (by simp [doCanvasFrameStart, hv, hdue, hsome])
  case switches =>
    refine exec_eq_next rfl (by simp [Instr.wf, hc, hlayer]) ?_
    simp only [doLayerSwitchTimeout, hv, hl, hpend, Option.bind_some]
    rw [if_neg (by simp [hready, Nat.not_lt.mpr htime])]
  case waits =>
    refine exec_eq_next rfl (by simp [Instr.wf, hc, hlayer]) ?_
    simp only [doLayerSwitchTimeout, hv, hl, hpend, Option.bind_some]
    exact if_pos (by simpa using h)
  case band =>
    refine exec_eq_next rfl (by simp [Instr.wf, hcmp]) ?_
    simp only [doComposerBand, hserv, hband, Bool.not_true, Bool.false_eq_true, if_false]
    exact if_neg (Nat.not_le.mpr hmore)
  case done =>
    refine exec_eq_next rfl (by simp [Instr.wf, hcmp]) ?_
    simp only [doComposerBand, hserv, hband, Bool.not_true, Bool.false_eq_true, if_false]
    exact if_pos hlast

end Sys2Proof.Machine

/-! PROOF. Requests to the memory (O57): a read after a write, scrub, panic and the refresh window (R390 to R398). -/

namespace Sys2Proof.Machine

/-! ## Bytes written and read -/

/-- A byte outside what is written reads as before. -/
theorem memRead_memWriteList_apart {j : Nat} : ∀ (bs : List Byte) (m : List Host.Cell) (a : Nat), j < a ∨ a + bs.length ≤ j → memRead (memWriteList m a bs) j = memRead m j
  | [], _, _, _ => rfl
  | b :: bs, m, a, h => by
    have hrest : j < a + 1 ∨ a + 1 + bs.length ≤ j := by rw [List.length_cons] at h; omega
    have hne : j ≠ a := by rw [List.length_cons] at h; omega
    rw [memWriteList, memRead_memWriteList_apart bs _ _ hrest, memRead_memWrite, if_neg hne]

/-- Bytes apart from what is written read as before. -/
theorem memReadList_memWriteList_apart {m : List Host.Cell} {a : Nat} {bs : List Byte} : ∀ (n b : Nat), b + n ≤ a ∨ a + bs.length ≤ b →
    memReadList (memWriteList m a bs) b n = memReadList m b n
  | 0, _, _ => rfl
  | n + 1, b, h => by
    rw [memReadList, memReadList, memRead_memWriteList_apart bs m a (by omega), memReadList_memWriteList_apart n (b + 1) (by omega)]

/-- What was written reads back. -/
theorem memReadList_memWriteList_same : ∀ (bs : List Byte) (m : List Host.Cell) (a : Nat), memReadList (memWriteList m a bs) a bs.length = bs
  | [], _, _ => rfl
  | b :: bs, m, a => by
    rw [List.length_cons, memReadList, memWriteList, memReadList_memWriteList_same bs, memRead_memWriteList_apart bs _ _ (Or.inl (Nat.lt_succ_self a)), memRead_memWrite, if_pos rfl]

/-! ## Where a word lies -/

/-- A word of a region lies in the region's share of its pseudo-channel, whatever the order. -/
theorem mapAddr_lt_share (order : Nat) {size o : Nat} (ho : o < size * 2 ^ 30) : (mapAddr order size o).2 < share size := by
  by_cases h4 : order < 4
  · exact (addressOrders.1 order size o h4 ho).2.1
  · obtain ⟨k, rfl⟩ : ∃ k, order = k + 4 := ⟨order - 4, by omega⟩
    have h3 : mapAddr (k + 4) size o = mapAddr 3 size o := rfl
    rw [h3]
    exact (addressOrders.1 3 size o (by decide) ho).2.1

/-- A word and its copy lie on two pseudo-channels. -/
theorem copyPc_ne (n : Nat) : copyPc n ≠ n := by
  rw [copyPc]
  omega

/-- Words of two pseudo-channels lie apart. -/
theorem cellAddr_apart {n k p q : Nat} (hne : n ≠ k) (hp : p < localBytes) (hq : q < localBytes) : cellAddr n p + 32 ≤ cellAddr k q ∨ cellAddr k q + 32 ≤ cellAddr n p := by
  simp only [cellAddr, localBytes] at *
  rcases Nat.lt_or_gt_of_ne hne with h | h <;> omega

/-- After a write of a word of a region, and of its copy, the word reads back. -/
theorem wordAt_memWriteWord {s : State} {g : Region} {o : Nat} {bs : List Byte} (hlen : bs.length = 32) (hfits : g.base + share g.size * (1 + b2n g.dup) ≤ localBytes) (ho : o < g.size * 2 ^ 30) :
    (s.memWriteWord g o bs).wordAt (mapAddr g.order g.size o).1 (g.base + (mapAddr g.order g.size o).2) = bs := by
  have hshare := mapAddr_lt_share g.order ho
  have hsame : memReadList (memWriteList s.mem (cellAddr (mapAddr g.order g.size o).1 (g.base + (mapAddr g.order g.size o).2)) bs)
      (cellAddr (mapAddr g.order g.size o).1 (g.base + (mapAddr g.order g.size o).2)) 32 = bs := hlen ▸ memReadList_memWriteList_same bs _ _
  cases hdup : g.dup with
  | false => simpa [State.memWriteWord, hdup, State.wordAt, State.putWord] using hsame
  | true =>
    have hfits' : g.base + share g.size * 2 ≤ localBytes := by rw [hdup] at hfits; exact hfits
    have hapart := cellAddr_apart (copyPc_ne (mapAddr g.order g.size o).1) (p := g.base + share g.size + (mapAddr g.order g.size o).2) (q := g.base + (mapAddr g.order g.size o).2)
      (by omega) (by omega)
    have hcopy := memReadList_memWriteList_apart (m := memWriteList s.mem (cellAddr (mapAddr g.order g.size o).1 (g.base + (mapAddr g.order g.size o).2)) bs) (bs := bs) 32
      (cellAddr (mapAddr g.order g.size o).1 (g.base + (mapAddr g.order g.size o).2)) (by rw [hlen]; exact hapart.symm)
    simpa [State.memWriteWord, hdup, State.wordAt, State.putWord] using hcopy.trans hsame

/-! ## What a request does besides -/

/-- Contents, regions and poison are as they were. -/
def ContentsKept (s t : State) : Prop := t.mem = s.mem ∧ t.hbm.regions = s.hbm.regions ∧ t.hbm.poison = s.hbm.poison

theorem ContentsKept.trans {s t u : State} (h : ContentsKept s t) (k : ContentsKept t u) : ContentsKept s u := by
  obtain ⟨hmem, hregions, hpoison⟩ := h
  obtain ⟨kmem, kregions, kpoison⟩ := k
  exact ⟨kmem.trans hmem, kregions.trans hregions, kpoison.trans hpoison⟩

theorem panic_contentsKept (s : State) (r : MemReq) : ContentsKept s (s.panic r) := by
  unfold State.panic
  split
  · exact ⟨rfl, rfl, rfl⟩
  · split
    · exact ⟨rfl, rfl, rfl⟩
    · split <;> exact ⟨rfl, rfl, rfl⟩

theorem postAll_contentsKept (s : State) (e : Event) : ContentsKept s (s.postAll e) :=
  ⟨postAll_mem s e, by rw [postAll_hbm], by rw [postAll_hbm]⟩

theorem rowHammer_contentsKept (s : State) (pc : Nat) (p : Place) : ContentsKept s (s.rowHammer pc p) := by
  unfold State.rowHammer
  extract_lets b s₁ who s₂ s₃ c
  have h₂ : ContentsKept s s₂ := ⟨rfl, rfl, rfl⟩
  have h₃ : ContentsKept s₂ s₃ := by
    unfold s₃
    split <;> exact ⟨rfl, rfl, rfl⟩
  split
  · exact h₂.trans h₃
  · exact (h₂.trans h₃).trans ((postAll_contentsKept _ _).trans ⟨rfl, rfl, rfl⟩)

theorem activate_contentsKept (s : State) (pc addr : Nat) (r : MemReq) : ContentsKept s (s.activate pc addr r) := by
  unfold State.activate
  extract_lets p b c n s₁
  have h₁ : ContentsKept s s₁ := ⟨rfl, rfl, rfl⟩
  split
  · exact ⟨rfl, rfl, rfl⟩
  · split
    · exact h₁.trans (rowHammer_contentsKept _ _ _)
    · exact h₁

/-! ## Requests -/

/-- The state in which a request within its region reads or writes. -/
def State.entered (s : State) (r : MemReq) (g : Region) : State :=
  (s.panic r).activate (mapAddr g.order g.size (r.off / 32 * 32)).1 (g.base + (mapAddr g.order g.size (r.off / 32 * 32)).2) r

theorem entered_contentsKept (s : State) (r : MemReq) (g : Region) : ContentsKept s (s.entered r g) :=
  (panic_contentsKept s r).trans (activate_contentsKept _ _ _ _)

/-- A write of a whole word puts it in its place and ends its poison. -/
theorem hbmRequest_write {s : State} {r : MemReq} {g : Region} (hg : s.hbm.regions[r.region]? = some g) (ho : r.off / 32 * 32 < g.size * 2 ^ 30) (hwrite : r.write = true)
    (hlen : r.data.length = 32) :
    doHbmRequest r s = { (s.entered r g).memWriteWord g (r.off / 32 * 32) r.data with
      hbm := { ((s.entered r g).memWriteWord g (r.off / 32 * 32) r.data).hbm with
        poison := ((s.entered r g).memWriteWord g (r.off / 32 * 32) r.data).hbm.poison.filter (· ≠ (r.region, r.off / 32 * 32 / 32)) } } := by
  have hdata : (r.data ++ List.replicate 32 0#8).take 32 = r.data := by rw [← hlen, List.take_left]
  simp only [doHbmRequest, hg]
  rw [if_neg (Nat.not_le.mpr ho), if_pos hwrite, hdata]
  rfl

/-- A read of a word that is not poisoned and met no bad symbol gives its bytes. -/
theorem hbmRequest_read {s : State} {q : MemReq} {g : Region} (hg : s.hbm.regions[q.region]? = some g) (ho : q.off / 32 * 32 < g.size * 2 ^ 30) (hwrite : q.write = false)
    (hbad : q.badSyms = []) (hpoison : (q.region, q.off / 32 * 32 / 32) ∉ s.hbm.poison) :
    (doHbmRequest q s).mem = s.mem ∧
      (doHbmRequest q s).hbm.last = some (s.wordAt (mapAddr g.order g.size (q.off / 32 * 32)).1 (g.base + (mapAddr g.order g.size (q.off / 32 * 32)).2)) := by
  obtain ⟨hmem, -, hpois⟩ := entered_contentsKept s q g
  have hclean : (s.entered q g).hbm.poison.contains (q.region, q.off / 32 * 32 / 32) = false := by
    rw [hpois]
    simpa using hpoison
  have hread : doHbmRequest q s = (s.entered q g).memReadWord g q (q.off / 32 * 32) := by
    simp only [doHbmRequest, hg]
    rw [if_neg (Nat.not_le.mpr ho), if_neg (by simp [hwrite])]
    rfl
  have hword : (s.entered q g).memReadWord g q (q.off / 32 * 32) = { s.entered q g with hbm := { (s.entered q g).hbm with
      last := some ((s.entered q g).wordAt (mapAddr g.order g.size (q.off / 32 * 32)).1 (g.base + (mapAddr g.order g.size (q.off / 32 * 32)).2)) } } := by
    simp only [State.memReadWord, hclean, hbad]
    rfl
  rw [hread, hword]
  exact ⟨hmem, by simp only [State.wordAt, hmem]⟩

theorem memWriteWord_hbm (s : State) (g : Region) (o : Nat) (bs : List Byte) : (s.memWriteWord g o bs).hbm = s.hbm := by
  cases hdup : g.dup <;> simp [State.memWriteWord, hdup, State.putWord]

theorem memWriteWord_wf {s : State} {g : Region} {o : Nat} {bs : List Byte} (h : Memory.wf s.mem) : Memory.wf (s.memWriteWord g o bs).mem := by
  cases hdup : g.dup
  · simpa [State.memWriteWord, hdup, State.putWord] using memWriteList_wf _ _ h
  · simpa [State.memWriteWord, hdup, State.putWord] using memWriteList_wf _ _ (memWriteList_wf _ _ h)

/-- A pseudo-channel after the end of a refresh window: its counts and throttles are gone. -/
theorem refreshWindowEnd_pchan (s : State) (n : Nat) : (doRefreshWindowEnd s).pchan n = { s.pchan n with acts := [], midActs := [], throttled := [] } := by
  have hpcs : (doRefreshWindowEnd s).hbm.pcs = tmap (fun c : PChan => { c with acts := [], midActs := [], throttled := [] }) s.hbm.pcs := rfl
  rw [State.pchan, State.pchan, hpcs, tgetD, tgetD, tget_tmap]
  cases tget s.hbm.pcs n <;> rfl

/-- What the scrub of a word does, with the offset of its region that the word has. -/
theorem scrub_eq {s : State} {pc addr p region off : Nat} {bad : List Nat} (hp : p = addr / 32 * 32 % localBytes) (hregion : region = (s.regionAt p).getD 7)
    (hoff : ∀ g, s.hbm.regions[region]? = some g → off = (if p - g.base < share g.size then unmapAddr g.order g.size pc (p - g.base)
      else unmapAddr g.order g.size (copyPc pc) (p - g.base - share g.size))) (hnone : s.hbm.regions[region]? = none → off = 0) :
    doScrub pc addr bad s = if badCount bad = 0 then s else if badCount bad = 1 then s.corrected pc p (bad.headD 0x1F) 0xFF region off
      else (s.ueCount pc).errorResponse pc p (bad.headD 0x1F) 0xFF region off false := by
  simp only [doScrub, ← hp, ← hregion]
  cases hr : s.hbm.regions[region]? with
  | none => rw [hnone hr]
  | some g => rw [hoff g hr]

/-- Settles O57: a read after a write by where the word and its copy lie; the other requests by their branches. -/
theorem memoryRequests : Obligations.MemoryRequests := by
  unfold Obligations.MemoryRequests
  refine ⟨fun s r q g hwf hg hfits ho hwrite hlen hread hregion hoff hbad => ?readBack, fun s r g hg ho => ?outside,
    fun s pc addr p region off bad hpc hp hregion hoff hnone => ⟨fun h => ?scrubClean, fun h => ?scrubOne, fun h => ?scrubTwo⟩,
    fun s r => ⟨fun h => ?noPort, fun p h hlow hnew => ?raises, fun p h hlow hold => ?raised, fun p h hlo hhi => ?between, fun p h hhigh => ?clears⟩, fun s => ?window⟩
  case readBack =>
    have hword : q.off / 32 * 32 = r.off / 32 * 32 := by rw [hoff]
    obtain ⟨hmem, hregions, hpoison⟩ := entered_contentsKept s r g
    have hkept : Memory.wf (s.entered r g).mem = true := by rw [hmem]; exact hwf
    refine nextWith_of rfl rfl ?_
    rw [hbmRequest_write hg ho hwrite hlen]
    have hg' : ((s.entered r g).memWriteWord g (r.off / 32 * 32) r.data).hbm.regions[q.region]? = some g := by rw [memWriteWord_hbm, hregions, hregion]; exact hg
    obtain ⟨hread', hlast⟩ := hbmRequest_read (s := { (s.entered r g).memWriteWord g (r.off / 32 * 32) r.data with
      hbm := { ((s.entered r g).memWriteWord g (r.off / 32 * 32) r.data).hbm with
        poison := ((s.entered r g).memWriteWord g (r.off / 32 * 32) r.data).hbm.poison.filter (· ≠ (r.region, r.off / 32 * 32 / 32)) } }) (q := q) hg'
      (hword ▸ ho) hread hbad (by rw [hword, hregion]; simp)
    refine nextWith_of rfl rfl ⟨hlast.trans ?_, ?_⟩
    · rw [hword]
      exact congrArg some (wordAt_memWriteWord hlen hfits ho)
    · rw [hread']
      exact memWriteWord_wf hkept
  case outside => exact exec_eq_next rfl rfl (by simp only [doHbmRequest, hg]; exact if_pos ho)
  case scrubClean => exact exec_eq_next rfl (by simp [Instr.wf, hpc]) ((scrub_eq hp hregion hoff hnone).trans (if_pos h))
  case scrubOne => exact exec_eq_next rfl (by simp [Instr.wf, hpc]) ((scrub_eq hp hregion hoff hnone).trans ((if_neg (by omega)).trans (if_pos h)))
  case scrubTwo => exact exec_eq_next rfl (by simp [Instr.wf, hpc]) ((scrub_eq hp hregion hoff hnone).trans ((if_neg (by omega)).trans (if_neg (by omega))))
  case noPort => simp [State.panic, h]
  case raises => simp [-List.contains_eq_mem, State.panic, h, hlow, hnew]
  case raised => simp [-List.contains_eq_mem, State.panic, h, hold, show ¬50 < r.level by omega]
  case between => simp [State.panic, h, Nat.not_lt.mpr hlo, Nat.not_lt.mpr hhi]
  case clears => simp [State.panic, h, hhigh, show ¬r.level < 25 by omega]
  case window =>
    refine nextWith_of rfl rfl ⟨fun n => ?_, rfl, rfl, rfl, rfl⟩
    rw [refreshWindowEnd_pchan]
    exact ⟨rfl, rfl, rfl⟩

end Sys2Proof.Machine

/-! PROOF. MEM.MAP, the switch of a migration, and the training of the memory (O58; R401 to R407). -/

namespace Sys2Proof.Machine

/-- A change of pseudo-channels in a row changes each of them once, and no other. -/
theorem forEach_modPchan_pchan (base : Nat) (g : PChan → PChan) : ∀ (k : Nat) (s : State) (n : Nat),
    (forEach (List.range k) s fun i s => s.modPchan (base + i) g).pchan n = if base ≤ n ∧ n < base + k then g (s.pchan n) else s.pchan n
  | 0, s, n => by
    rw [if_neg (by omega)]
    rfl
  | k + 1, s, n => by
    have ih := forEach_modPchan_pchan base g k s n
    rw [forEach] at ih
    rw [forEach, List.range_succ, List.foldl_append, List.foldl_cons, List.foldl_nil]
    by_cases hn : n = base + k
    · subst hn
      rw [State.modPchan_pchan_same, ih, if_neg (by omega), if_pos (by omega)]
    · rw [State.modPchan_pchan_ne _ _ hn, ih]
      by_cases hin : base ≤ n ∧ n < base + k
      · rw [if_pos hin, if_pos (by omega)]
      · rw [if_neg hin, if_neg (by omega)]

/-- A pseudo-channel without an obstacle retrains or verifies. -/
theorem retrainStall_work {s : State} {pc : Nat} {e : StallEnv} (hdue : (s.pchan pc).needRetrain = true ∨ (s.pchan pc).needVerify = true) (h750 : 750 ≤ e.us) (h960 : e.us < 960)
    (hpanic : e.panic = false) (hlow : e.lowBuffer = false) (hrfm : e.rfmOutstanding = false) (hstack : s.stackStalled pc = false) (hfirst : s.stallFirst pc = true) :
    doRetrainStall pc e s =
      if (s.pchan pc).needRetrain then ((s.modPchan pc fun c => { c with lastStall := some s.time.m }).draw 2).2.retrain pc e (((s.modPchan pc fun c => { c with lastStall := some s.time.m }).draw 2).1 == 1)
      else if e.pass then
        ((s.modPchan pc fun c => { c with lastStall := some s.time.m }).modPchan pc fun c => { c with needVerify := false, loaded := true, margin := e.margin, lane := e.lane }).marginEvent pc 1
      else
        ((s.modPchan pc fun c => { c with lastStall := some s.time.m }).modPchan pc fun c => { c with needVerify := false, needRetrain := true, margin := e.margin, lane := e.lane }).marginEvent pc 2 := by
  have hgo : ¬(!((s.pchan pc).needRetrain || (s.pchan pc).needVerify) || decide (e.us < 750)) = true := by
    rcases hdue with h | h <;> simp [h, Nat.not_lt.mpr h750]
  simp only [doRetrainStall]
  rw [if_neg hgo, if_neg (Nat.not_le.mpr h960), if_neg (by simp [hpanic, hlow, hrfm, hstack, hfirst])]

/-- MEM.MAP with a known OP passes its common checks. -/
theorem memMap_checks {c : Ctx} (hop : c.f 1 0 2 ≠ 3) (h15 : c.f 1 15 1 = 0) (h24 : c.f 1 24 8 = 0) :
    ∀ x ∈ [badArg (decide (c.f 1 0 2 = 3)) 2, reserved c 1 15 1, reserved c 1 24 8], x.1 = false := by
  simp [badArg, reserved, hop, h15, h24]

/-- A region that the memory map lists. -/
theorem regions_getD {l : List Region} {r : Nat} {g d : Region} (h : l[r]? = some g) : l.getD r d = g := by
  rw [List.getD_eq_getElem?_getD, h, Option.getD_some]

section
variable {s : State} {c : Ctx} {rest : List Cmd} {g : Region} (hg : s.hbm.regions[c.f 1 2 3]? = some g) (h144 : c.f 1 16 8 ≤ 144)
  (hzero : c.f 1 2 3 = 0 → c.f 1 5 2 = 3 ∧ c.bit 1 7 = true) (hdupOrder : c.bit 1 7 = true → c.f 1 5 2 = 3) (hbusy : s.findOp 0x0D01 (fun o => o.a == c.f 1 2 3) = none)
include hg h144 hzero hdupOrder hbusy

/-- A set in range on a region without a migration meets what the region has, and what is free. -/
theorem memMapSet_eq : memMapSet c (s.popped c rest) =
    checks [(decide (g.order = c.f 1 5 2 ∧ g.dup = c.bit 1 7 ∧ g.size = c.f 1 16 8), eAlreadyDone, 0),
      ((s.freeBase (share (c.f 1 16 8) * (1 + b2n (c.bit 1 7)))).isNone, eNospace, 0x0D01),
      (decide (c.f 1 2 3 ≠ 1 ∧ c.f 1 2 3 ≠ 7) && decide (c.f 1 16 8 * 2 ^ 30 < s.regionUsed (c.f 1 2 3)), eNospace, 0x0D02)]
    (startLong c (s.popped c rest) (c.f 1 2 3) 0 0 fun _ t => t.modRegion (c.f 1 2 3) fun g =>
      { g with mig := some (c.f 1 5 2, c.bit 1 7, c.f 1 16 8, (s.freeBase (share (c.f 1 16 8) * (1 + b2n (c.bit 1 7)))).getD 0) }) := by
  have hget : (s.popped c rest).hbm.regions.getD (c.f 1 2 3) ⟨0, false, 0, 0, 0, none⟩ = g := regions_getD hg
  have hbusy' : (s.popped c rest).findOp 0x0D01 (fun o => o.a == c.f 1 2 3) = none := hbusy
  simp only [memMapSet, hget, hbusy']
  refine checks_append (as := [_, _, _, _]) ?_
  have hzero' : (decide (c.f 1 2 3 = 0) && !(decide (c.f 1 5 2 = 3) && c.bit 1 7)) = false := by
    by_cases h0 : c.f 1 2 3 = 0
    · simp [hzero h0]
    · simp [h0]
  have hdup' : (c.bit 1 7 && decide (c.f 1 5 2 ≠ 3)) = false := by
    cases hd : c.bit 1 7 with
    | false => rfl
    | true => simp [hdupOrder hd]
  rw [hzero', hdup']
  simp [badArg, Nat.not_lt.mpr h144]

end

/-- Settles O58. -/
theorem memoryMapsAndTraining : Obligations.MemoryMapsAndTraining := by
  unfold Obligations.MemoryMapsAndTraining
  refine ⟨⟨fun s c rest r order size dup g h h15 h24 hop hr horder hdup hsize hg h144 hzero hdupOrder hbusy =>
        ⟨fun h1 h2 h3 => ?same, fun hne hbase => ?full, fun base hne hbase hused hroom => ?accepted⟩,
      fun s c rest h h15 h24 => ⟨fun g hop hg => ?queryRegion, fun p hop hp => ?queryChannel, fun hop => ?badOp⟩,
      fun s u region order size base dup g k o hregion hg hmig hop hk hu => ⟨fun hne => ?switches, fun heq => ?hamper⟩⟩,
    fun s pc margin lane hpc hlane => ?alarm, fun s stack hstack => ?verification,
    fun s pc e c hpc hc => ⟨fun h => ?idle, fun hdue h960 => ?deferred, fun u h750 h960 hpanic hlow hrfm hstack hfirst hu => ⟨fun hretrain => ?retrains, fun hretrain hverify hpass => ?passes, fun hretrain hverify hpass => ?fails⟩⟩⟩
  case same =>
    subst hr horder hdup hsize
    refine answers_of_fail h rfl ((checks_pass (memMap_checks (by omega) h15 h24)).trans ?_)
    simp only [hop]
    rw [memMapSet_eq hg h144 hzero hdupOrder hbusy, checks_cons, if_pos (by simp [h1, h2, h3])]
  case full =>
    subst hr horder hdup hsize
    refine answers_of_fail h rfl ((checks_pass (memMap_checks (by omega) h15 h24)).trans ?_)
    simp only [hop]
    have hchange : ¬(g.order = c.f 1 5 2 ∧ g.dup = c.bit 1 7 ∧ g.size = c.f 1 16 8) := by simpa using hne
    rw [memMapSet_eq hg h144 hzero hdupOrder hbusy, checks_cons, if_neg (by simpa using hchange), checks_cons, hbase]
    rfl
  case accepted =>
    subst hr horder hdup hsize
    refine answers_of_checks h rfl rfl (memMap_checks (by omega) h15 h24) ?_
    simp only [hop]
    have hchange : ¬(g.order = c.f 1 5 2 ∧ g.dup = c.bit 1 7 ∧ g.size = c.f 1 16 8) := by simpa using hne
    rw [memMapSet_eq hg h144 hzero hdupOrder hbusy, hbase]
    refine (checks_pass ?_).trans (startLong_popped h hroom)
    have hfits : c.f 1 2 3 ≠ 1 ∧ c.f 1 2 3 ≠ 7 → s.regionUsed (c.f 1 2 3) ≤ c.f 1 16 8 * 2 ^ 30 := by
      rintro ⟨h1, h7⟩
      exact (hused.resolve_left h1).resolve_left h7
    simp only [List.forall_mem_cons, List.not_mem_nil, false_imp_iff, implies_true, and_true]
    refine ⟨decide_eq_false hchange, rfl, ?_⟩
    by_cases hroomy : c.f 1 2 3 ≠ 1 ∧ c.f 1 2 3 ≠ 7
    · rw [decide_eq_false (Nat.not_lt.mpr (hfits hroomy)), Bool.and_false]
    · rw [decide_eq_false hroomy, Bool.false_and]
  case queryRegion =>
    refine answers_of_checks h rfl rfl (memMap_checks (by omega) h15 h24) ?_
    have hget : (s.popped c rest).hbm.regions.getD (c.f 1 2 3) ⟨0, false, 0, 0, 0, none⟩ = g := regions_getD hg
    simp only [hop, hget]
    rfl
  case queryChannel =>
    subst hp
    refine answers_of_checks h rfl rfl (memMap_checks (by omega) h15 h24) ?_
    simp only [hop]
    rfl
  case badOp => exact answers_of_fail h rfl (by simp [checks_cons, badArg, hop])
  case switches =>
    subst hk hu
    refine exec_eq_next rfl (by simp [Instr.wf, hregion]) ?_
    simp only [doMigrationSwitch, hg, hmig, hop]
    rw [if_neg hne]
  case hamper =>
    subst hk hu
    refine exec_eq_next rfl (by simp [Instr.wf, hregion]) ?_
    simp only [doMigrationSwitch, hg, hmig, hop]
    rw [if_pos heq]
  case alarm => exact exec_eq_next rfl (by simp [Instr.wf, hpc, hlane]) rfl
  case verification =>
    refine nextWith_of rfl (by simp [Instr.wf, hstack]) fun n hn => ?_
    rw [doLoadedVerificationDue, forEach_modPchan_pchan]
    by_cases hin : n / 32 = stack
    · rw [if_pos (by omega), if_pos hin]
      cases hloaded : (s.pchan n).loaded <;> simp [hloaded]
    · rw [if_neg (by omega), if_neg hin]
      exact ⟨rfl, rfl⟩
  case idle =>
    subst hc
    refine exec_eq_next rfl (by simp [Instr.wf, hpc]) (if_pos ?_)
    rcases h with h | ⟨hretrain, hverify⟩
    · simp [h]
    · simp [hretrain, hverify]
  case deferred =>
    subst hc
    refine exec_eq_next rfl (by simp [Instr.wf, hpc]) ((if_neg ?_).trans (if_pos h960))
    rcases hdue with h | h <;> simp [h, show ¬e.us < 750 by omega]
  case retrains =>
    subst hc hu
    exact exec_eq_next rfl (by simp [Instr.wf, hpc]) ((retrainStall_work (Or.inl hretrain) h750 h960 hpanic hlow hrfm hstack hfirst).trans (if_pos hretrain))
  case passes =>
    subst hc hu
    exact exec_eq_next rfl (by simp [Instr.wf, hpc]) ((retrainStall_work (Or.inr hverify) h750 h960 hpanic hlow hrfm hstack hfirst).trans ((if_neg (by simp [hretrain])).trans (if_pos hpass)))
  case fails =>
    subst hc hu
    exact exec_eq_next rfl (by simp [Instr.wf, hpc]) ((retrainStall_work (Or.inr hverify) h750 h960 hpanic hlow hrfm hstack hfirst).trans ((if_neg (by simp [hretrain])).trans (if_neg (by simp [hpass]))))

end Sys2Proof.Machine

/-! PROOF. The queue samplers (O60): MON.SAMPLE and the samples that it writes (R504, R505). -/

namespace Sys2Proof.Machine

section
variable {s : State} {c : Ctx} {rest : List Cmd} {buf : BufRead} {x : Sampler} (hx : x = { samplerOf c with last := some s.time.m }) (hr : c.f 1 3 29 = 0) (hlen : c.len = 6)
  (hn1 : 1 ≤ x.n) (hn2 : x.n ≤ 1000) (h210 : c.f 2 10 22 = 0) (h329 : c.f 3 29 3 = 0) (hlegs : x.kind = 0 → 1 ≤ x.count ∧ x.count ≤ 4096 ∧ x.first + x.count ≤ 65536)
  (hdesc : ∀ y ∈ descChecks c 4 true, y.1 = false) (hsize : 64 + 32 * x.queues ≤ descLen c 4)
include hx hr hlen hn1 hn2 h210 h329 hlegs hdesc hsize

/-- A start in range meets what its issuer may sample, the room for it, and its buffer. -/
theorem sampleStart_eq : sampleStart c buf (s.popped c rest) =
    checks ([(x.kind == 1 && isVF c.issuer, eTenant, 1), (!s.sampleRoom c.issuer x, eNospace, 0x1102)] ++ bufChecks buf)
      (ok ((s.popped c rest).modMon fun m => { m with samplers := tset m.samplers c.issuer x })) := by
  have hrange : (x.kind == 0 && (x.count == 0 || decide (4096 < x.count) || decide (65536 < x.first + x.count))) = false := by
    by_cases h0 : x.kind = 0
    · obtain ⟨h1, h2, h3⟩ := hlegs h0
      simp [h0, Nat.not_lt.mpr h2, Nat.not_lt.mpr h3, show x.count ≠ 0 by omega]
    · simp [h0]
  unfold sampleStart
  extract_lets src y
  have hy : y = x := hx.symm
  clear_value y
  subst hy
  rw [List.append_assoc, List.append_assoc, checks_append ?_, checks_append hdesc, List.cons_append, badArg, decide_eq_false (Nat.not_lt.mpr hsize), checks_cons_false]
  · rfl
  · rw [hrange]
    simp [badLen, badArg, hlen, hr, h210, h329, Nat.not_lt.mpr hn2, show y.n ≠ 0 by omega]

end

/-- At its tick a running sampler writes a whole set where its ring has room, and counts it as lost otherwise. -/
theorem sample_runs {s : State} {mid rd : Nat} {x : Sampler} (hx : tget s.mon.samplers mid = some x) (hrun : x.running = true) (htick : s.time.m % x.n = 0) (hlast : x.last ≠ some s.time.m) :
    doSample mid rd s = s.modMon fun m => { m with samplers := tset m.samplers mid { (if 32 * (s.sampleSet mid x).length ≤ x.room rd then
        { x with wr := x.advance (s.sampleSet mid x).length, sets := x.sets + 1, records := s.sampleSet mid x }
      else { x with lost := (x.lost + (s.sampleSet mid x).length) % 2 ^ 32 }) with last := some s.time.m } } := by
  simp only [doSample, hx]
  rw [if_neg (by simp [hrun, htick, hlast])]

/-- Settles O60. The command follows its OP; a sampler's tick is not its own, or finds room or none. -/
theorem queueSamplers : Obligations.QueueSamplers := by
  unfold Obligations.QueueSamplers
  refine ⟨fun s c rest buf x h hr => ⟨fun hx hop hlen hn1 hn2 h210 h329 hlegs hdesc hsize => ⟨fun ⟨hvf, hkind⟩ => ?denied, fun hmay hroom hread hmem => ?started⟩, fun hop hlen => ?stopped, fun hop hlen hx => ?query⟩,
    fun s mid rd x hmid hx => ⟨fun h => ?idle, fun hrun htick hlast => ⟨fun hfits => ?written, fun hfull => ?lost⟩⟩⟩
  case denied =>
    refine answers_of_fail h rfl ?_
    simp only [hop]
    rw [sampleStart_eq hx hr hlen hn1 hn2 h210 h329 hlegs hdesc hsize]
    simp [checks_cons, hvf, hkind]
  case started =>
    refine answers_of_done h rfl ?_
    simp only [hop]
    rw [sampleStart_eq hx hr hlen hn1 hn2 h210 h329 hlegs hdesc hsize]
    refine checks_pass (append_passes ?_ (bufChecks_pass hread hmem))
    cases hvf : isVF c.issuer with
    | false => simp [hroom]
    | true => simp [hroom, hmay hvf]
  case stopped =>
    refine answers_of_done h rfl ?_
    simp only [hop]
    exact checks_pass (by simp [badLen, badArg, hlen, hr])
  case query =>
    refine answers_of_done h rfl ?_
    have hx' : tget (s.popped c rest).mon.samplers c.issuer = some x := hx
    simp only [hop, hx', Option.map_some, Option.getD_some]
    exact checks_pass (by simp [badLen, badArg, hlen, hr])
  case idle =>
    refine exec_eq_next rfl (by simpa [Instr.wf] using hmid) ?_
    rcases h with h | h | h <;> simp [doSample, hx, h]
  case written =>
    refine exec_eq_next rfl (by simpa [Instr.wf] using hmid) ((sample_runs hx hrun htick hlast).trans ?_)
    rw [if_pos hfits]
  case lost =>
    refine exec_eq_next rfl (by simpa [Instr.wf] using hmid) ((sample_runs hx hrun htick hlast).trans ?_)
    rw [if_neg (Nat.not_le.mpr hfull)]

end Sys2Proof.Machine
